-- ==== Sys2Proof/Word.lean ====
section
/-! DEFINITION. The widths the manual uses for its words (R2, R421, R483): bytes, the 32-bit device
register, and the 64-bit word of the tack core and of the time base. -/

namespace Sys2Proof

/-- One byte. -/
abbrev Byte := BitVec 8

/-- A device register (R483). -/
abbrev Word := BitVec 32

/-- A tack-core register (R157), a counter value or a time (R362, R363). -/
abbrev DWord := BitVec 64

/-- Nanoseconds in a second, the unit of T (R363). -/
def nsPerSecond : Nat := 1000000000

end Sys2Proof
end

