-- ==== Sys2Proof/Machine/Crypto.lean ====
section
/-! DEFINITION. The cryptographic functions the manual names by standard: SHA-384 (FIPS 180-4), ECDSA
verification on P-384 (R446) and the CRC of IEEE 802.3 (R421), CRC-32C and CRC-64 (R140). Their round
constants and curve parameters are those of the standards (PRESUMED, log 3). -/

namespace Sys2Proof.Machine

/-! ### SHA-384 -/

/-- Round constants 0 to 15 of SHA-384. -/
def shaK0 : List Nat :=
  [0x428A2F98D728AE22, 0x7137449123EF65CD, 0xB5C0FBCFEC4D3B2F, 0xE9B5DBA58189DBBC,
   0x3956C25BF348B538, 0x59F111F1B605D019, 0x923F82A4AF194F9B, 0xAB1C5ED5DA6D8118,
   0xD807AA98A3030242, 0x12835B0145706FBE, 0x243185BE4EE4B28C, 0x550C7DC3D5FFB4E2,
   0x72BE5D74F27B896F, 0x80DEB1FE3B1696B1, 0x9BDC06A725C71235, 0xC19BF174CF692694]

/-- Round constants 16 to 31 of SHA-384. -/
def shaK1 : List Nat :=
  [0xE49B69C19EF14AD2, 0xEFBE4786384F25E3, 0x0FC19DC68B8CD5B5, 0x240CA1CC77AC9C65,
   0x2DE92C6F592B0275, 0x4A7484AA6EA6E483, 0x5CB0A9DCBD41FBD4, 0x76F988DA831153B5,
   0x983E5152EE66DFAB, 0xA831C66D2DB43210, 0xB00327C898FB213F, 0xBF597FC7BEEF0EE4,
   0xC6E00BF33DA88FC2, 0xD5A79147930AA725, 0x06CA6351E003826F, 0x142929670A0E6E70]

/-- Round constants 32 to 47 of SHA-384. -/
def shaK2 : List Nat :=
  [0x27B70A8546D22FFC, 0x2E1B21385C26C926, 0x4D2C6DFC5AC42AED, 0x53380D139D95B3DF,
   0x650A73548BAF63DE, 0x766A0ABB3C77B2A8, 0x81C2C92E47EDAEE6, 0x92722C851482353B,
   0xA2BFE8A14CF10364, 0xA81A664BBC423001, 0xC24B8B70D0F89791, 0xC76C51A30654BE30,
   0xD192E819D6EF5218, 0xD69906245565A910, 0xF40E35855771202A, 0x106AA07032BBD1B8]

/-- Round constants 48 to 63 of SHA-384. -/
def shaK3 : List Nat :=
  [0x19A4C116B8D2D0C8, 0x1E376C085141AB53, 0x2748774CDF8EEB99, 0x34B0BCB5E19B48A8,
   0x391C0CB3C5C95A63, 0x4ED8AA4AE3418ACB, 0x5B9CCA4F7763E373, 0x682E6FF3D6B2B8A3,
   0x748F82EE5DEFB2FC, 0x78A5636F43172F60, 0x84C87814A1F0AB72, 0x8CC702081A6439EC,
   0x90BEFFFA23631E28, 0xA4506CEBDE82BDE9, 0xBEF9A3F7B2C67915, 0xC67178F2E372532B]

/-- Round constants 64 to 79 of SHA-384. -/
def shaK4 : List Nat :=
  [0xCA273ECEEA26619C, 0xD186B8C721C0C207, 0xEADA7DD6CDE0EB1E, 0xF57D4F7FEE6ED178,
   0x06F067AA72176FBA, 0x0A637DC5A2C898A6, 0x113F9804BEF90DAE, 0x1B710B35131C471B,
   0x28DB77F523047D84, 0x32CAAB7B40C72493, 0x3C9EBE0A15C9BEBC, 0x431D67C49C100D4C,
   0x4CC5D4BECB3E42B6, 0x597F299CFC657E2A, 0x5FCB6FAB3AD6FAEC, 0x6C44198C4A475817]

/-- The 80 round constants. -/
def shaK : List Nat := shaK0 ++ shaK1 ++ shaK2 ++ shaK3 ++ shaK4

/-- The initial hash value of SHA-384. -/
def shaInit : List Nat :=
  [0xCBBB9D5DC1059ED8, 0x629A292A367CD507, 0x9159015A3070DD17, 0x152FECD8F70E5939,
   0x67332667FFC00B31, 0x8EB44A8768581511, 0xDB0C2E0D64F98FA7, 0x47B5481DBEFA4FA4]

/-- The number a list of bytes spells, most significant byte first. -/
def beNat (bs : List Byte) : Nat := bs.foldl (fun a b => a * 256 + b.toNat) 0

/-- The number a list of bytes spells, least significant byte first. -/
def leNat : List Byte → Nat
  | [] => 0
  | b :: bs => b.toNat + 256 * leNat bs

/-- The low `k` bytes of a number, least significant byte first. -/
def leBytes : Nat → Nat → List Byte
  | 0, _ => []
  | k + 1, n => BitVec.ofNat 8 n :: leBytes k (n / 256)

/-- The low `k` bytes of a number, most significant byte first. -/
def beBytes (k n : Nat) : List Byte := (leBytes k n).reverse

/-- Rotation of a 64-bit word to the right. -/
def ror64 (x k : Nat) : Nat := (x >>> k) ||| ((x <<< (64 - k)) % 2 ^ 64)

/-- The 16 words of a 128-byte block. -/
def shaWords : Nat → List Byte → List Nat
  | 0, _ => []
  | k + 1, bs => beNat (bs.take 8) :: shaWords k (bs.drop 8)

/-- The message schedule, newest word first: `k` further words after the given ones. -/
def shaExtend : Nat → List Nat → List Nat
  | 0, ws => ws
  | k + 1, ws =>
    let a := ws.getD 14 0
    let b := ws.getD 1 0
    let s0 := (ror64 a 1).xor (ror64 a 8) |>.xor (a >>> 7)
    let s1 := (ror64 b 19).xor (ror64 b 61) |>.xor (b >>> 6)
    shaExtend k (((ws.getD 15 0 + s0 + ws.getD 6 0 + s1) % 2 ^ 64) :: ws)

/-- The eight working variables of a round. -/
structure ShaVars where
  a : Nat
  b : Nat
  c : Nat
  d : Nat
  e : Nat
  f : Nat
  g : Nat
  h : Nat
  deriving DecidableEq, Repr

/-- One round. -/
def shaRound (v : ShaVars) (k w : Nat) : ShaVars :=
  let s1 := (ror64 v.e 14).xor (ror64 v.e 18) |>.xor (ror64 v.e 41)
  let ch := (v.e &&& v.f).xor ((2 ^ 64 - 1 - v.e) &&& v.g)
  let t1 := v.h + s1 + ch + k + w
  let s0 := (ror64 v.a 28).xor (ror64 v.a 34) |>.xor (ror64 v.a 39)
  let mj := (v.a &&& v.b).xor (v.a &&& v.c) |>.xor (v.b &&& v.c)
  { a := (t1 + s0 + mj) % 2 ^ 64, b := v.a, c := v.b, d := v.c
    e := (v.d + t1) % 2 ^ 64, f := v.e, g := v.f, h := v.g }

/-- The rounds of a block over constants and schedule. -/
def shaRounds : List Nat → List Nat → ShaVars → ShaVars
  | k :: ks, w :: ws, v => shaRounds ks ws (shaRound v k w)
  | _, _, v => v

/-- One block's compression. -/
def shaBlock (hs : List Nat) (block : List Byte) : List Nat :=
  let ws := (shaExtend 64 (shaWords 16 block).reverse).reverse
  let v := shaRounds shaK ws
    ⟨hs.getD 0 0, hs.getD 1 0, hs.getD 2 0, hs.getD 3 0, hs.getD 4 0, hs.getD 5 0, hs.getD 6 0, hs.getD 7 0⟩
  List.zipWith (fun x y => (x + y) % 2 ^ 64) hs [v.a, v.b, v.c, v.d, v.e, v.f, v.g, v.h]

/-- Compression over `n` blocks. -/
def shaBlocks : Nat → List Nat → List Byte → List Nat
  | 0, hs, _ => hs
  | n + 1, hs, bs => shaBlocks n (shaBlock hs (bs.take 128)) (bs.drop 128)

/-- The padded message: 0x80, zeros, and the bit length on 128 bits. -/
def shaPad (bs : List Byte) : List Byte :=
  let n := bs.length
  bs ++ [(0x80 : Byte)] ++ List.replicate ((239 - n % 128) % 128) (0 : Byte) ++ beBytes 16 (8 * n)

/-- SHA-384 of a byte string, as a number (most significant byte first). -/
def sha384 (bs : List Byte) : Nat :=
  let p := shaPad bs
  ((shaBlocks (p.length / 128) shaInit p).take 6).foldl (fun a w => a * 2 ^ 64 + w) 0

/-! ### ECDSA on P-384 -/

/-- The field prime of P-384. -/
def p384P : Nat := 0xFFFFFFFFFFFFFFFFFFFFFFFFFFFFFFFFFFFFFFFFFFFFFFFFFFFFFFFFFFFFFFFEFFFFFFFF0000000000000000FFFFFFFF

/-- The group order of P-384. -/
def p384N : Nat := 0xFFFFFFFFFFFFFFFFFFFFFFFFFFFFFFFFFFFFFFFFFFFFFFFFC7634D81F4372DDF581A0DB248B0A77AECEC196ACCC52973

/-- The coefficient b of P-384. -/
def p384B : Nat := 0xB3312FA7E23EE7E4988E056BE3F82D19181D9C6EFE8141120314088F5013875AC656398D8A2ED19D2A85C8EDD3EC2AEF

/-- The base point of P-384. -/
def p384Gx : Nat := 0xAA87CA22BE8B05378EB1C71EF320AD746E1D3B628BA79B9859F741E082542A385502F25DBF55296C3A545E3872760AB7
def p384Gy : Nat := 0x3617DE4A96262C6F5D9E98BF9292DC29F8F41DBD289A147CE9DA3113B5F0B8C00A60B1CE1D7E819D7A431D7C90EA0E5F

/-- A point in Jacobian coordinates; the point at infinity has z = 0. -/
structure JPoint where
  x : Nat
  y : Nat
  z : Nat
  deriving DecidableEq, Repr

/-- Subtraction modulo the field prime. -/
def subP (a b : Nat) : Nat := (a + (p384P - b % p384P)) % p384P

/-- Point doubling (a = −3). -/
def jDouble (q : JPoint) : JPoint :=
  let zz := q.z * q.z % p384P
  let m := 3 * (subP q.x zz) * (q.x + zz) % p384P
  let yy := q.y * q.y % p384P
  let s := 4 * q.x * yy % p384P
  let x := subP (m * m) (2 * s)
  ⟨x, subP (m * subP s x) (8 * yy * yy), 2 * q.y * q.z % p384P⟩

/-- Point addition. -/
def jAdd (p q : JPoint) : JPoint :=
  if p.z = 0 then q
  else if q.z = 0 then p
  else
    let z1 := p.z * p.z % p384P
    let z2 := q.z * q.z % p384P
    let u1 := p.x * z2 % p384P
    let u2 := q.x * z1 % p384P
    let s1 := p.y * z2 % p384P * q.z % p384P
    let s2 := q.y * z1 % p384P * p.z % p384P
    if u1 = u2 then (if s1 = s2 then jDouble p else ⟨1, 1, 0⟩)
    else
      let h := subP u2 u1
      let r := subP s2 s1
      let hh := h * h % p384P
      let hhh := h * hh % p384P
      let v := u1 * hh % p384P
      let x := subP (subP (r * r) hhh) (2 * v)
      ⟨x, subP (r * subP v x) (s1 * hhh), p.z * q.z % p384P * h % p384P⟩

/-- k·P over the low `n` bits of k, most significant first. -/
def jMul : Nat → Nat → JPoint → JPoint
  | 0, _, _ => ⟨1, 1, 0⟩
  | n + 1, k, p =>
    let q := jDouble (jMul n (k / 2) p)
    if k % 2 = 1 then jAdd q p else q

/-- a^e modulo m over the low `n` bits of e. -/
def powMod : Nat → Nat → Nat → Nat → Nat
  | 0, _, _, _ => 1
  | n + 1, a, e, m =>
    let q := powMod n a (e / 2) m
    if e % 2 = 1 then q * q % m * a % m else q * q % m

/-- A P-384 public key. -/
structure PubKey where
  x : Nat := 0
  y : Nat := 0
  deriving DecidableEq, Repr, Inhabited

/-- An ECDSA signature. -/
structure Sig where
  r : Nat := 0
  s : Nat := 0
  deriving DecidableEq, Repr

/-- Whether a key is a point of the curve. -/
def keyOnCurve (k : PubKey) : Bool :=
  decide (k.x < p384P) && decide (k.y < p384P) &&
  decide (k.y * k.y % p384P = subP (k.x * k.x % p384P * k.x + p384B) (3 * k.x))

/-- ECDSA P-384 verification of a 384-bit digest (R446). -/
def ecdsaVerify (k : PubKey) (digest : Nat) (g : Sig) : Bool :=
  keyOnCurve k && decide (0 < g.r) && decide (g.r < p384N) && decide (0 < g.s) && decide (g.s < p384N) &&
  (let w := powMod 384 g.s (p384N - 2) p384N
   let q := jAdd (jMul 384 (digest * w % p384N) ⟨p384Gx, p384Gy, 1⟩) (jMul 384 (g.r * w % p384N) ⟨k.x, k.y, 1⟩)
   let zi := powMod 384 q.z (p384P - 2) p384P
   decide (q.z ≠ 0) && decide (q.x * (zi * zi % p384P) % p384P % p384N = g.r))

/-! ### CRCs -/

/-- `n` bit steps of a reflected CRC with the reversed polynomial `poly`. -/
def crcBits (poly : Nat) : Nat → Nat → Nat
  | 0, c => c
  | n + 1, c => crcBits poly n (if c % 2 = 1 then (c / 2).xor poly else c / 2)

/-- A reflected CRC over bytes from a start value. -/
def crcReflected (poly init : Nat) (bs : List Byte) : Nat :=
  bs.foldl (fun c b => crcBits poly 8 (c.xor b.toNat)) init

/-- CRC-32 with the polynomial of IEEE 802.3 (R421). -/
def crc32 (bs : List Byte) : Nat := (crcReflected 0xEDB88320 0xFFFFFFFF bs).xor 0xFFFFFFFF

/-- CRC-32C (Castagnoli). -/
def crc32c (bs : List Byte) : Nat := (crcReflected 0x82F63B78 0xFFFFFFFF bs).xor 0xFFFFFFFF

end Sys2Proof.Machine
end

