-- ==== Sys2Proof/Machine/Parts.lean ====
section
/-! DEFINITION. The parts of the state that a state copy carries (R330): effects, receive ports, task instances
with their contexts, and axis groups. -/

namespace Sys2Proof.Machine

/-- An effect as it enters the voter (R136): its index and the record of R140; `abort` marks the marker
of an aborted instance with its task and reason (R181, R192). -/
structure Effect where
  idx : Nat
  kind : Nat
  mask : Byte
  target : Word
  data : DWord
  abort : Option (Nat × Nat) := none
  deriving DecidableEq, Repr

/-- A buffer of a receive port (R168): the words written, and REPEAT. -/
structure PortBuf where
  words : List (Nat × DWord) := []
  repeated : Bool := false
  deriving DecidableEq, Repr

/-- A receive port: the readable and the filling buffer, and SWAPS. -/
structure RecvPort where
  readable : PortBuf := {}
  filling : PortBuf := {}
  swaps : Nat := 0
  deriving DecidableEq, Repr

/-- The core of a replica (R157, R158): g1 to g31 (g0 is never listed), the program counter and the
exception registers; `running` says that the present instance has not ended on it. -/
structure Core where
  g : List (Nat × DWord) := []
  pc : Word := 0
  epc : DWord := 0
  ecause : DWord := 0
  eval : DWord := 0
  depth : Nat := 0
  running : Bool := false
  deriving DecidableEq, Repr

/-- A task instance that has been released and has not ended (R190, R195): its task, its cycle or release
number, the image agreed at its release, its age in base periods, its execution time so far in ns, and what
a pre-emption saves. -/
structure TaskRun where
  task : Nat
  release : Nat
  input : List (Nat × Byte) := []
  age : Nat := 0
  ran : Nat := 0
  cores : List Core := []
  staged : List Effect := []
  deriving DecidableEq, Repr

/-- What an axis group does (R256). -/
inductive AxisMove where
  | none
  /-- A move from rest: the starting positions and the distances by axis (µm × 2^32, µm), and the lengths
  of its seven segments in periods (R254, R255). -/
  | profile (start : List (Nat × Int)) (dist : List (Nat × Int)) (segs : List Nat)
  /-- A ramped stop: position, velocity and acceleration of each axis at its start, and the lengths of its three segments. -/
  | stop (start : List (Nat × Int × Int × Int)) (n1 n2 n3 : Nat)
  /-- A move begun in motion: its trajectory is the free value `id`, which ends at the targets. -/
  | blend (id : Nat) (target : List (Nat × Int))
  deriving DecidableEq, Repr

/-- An axis group. Positions and velocities in µm and µm/s with 32 fractional bits; `state` as the status
word codes it; `words` are the command words issued in this cycle and `armed` those that take effect with
the next period, by axis and word. -/
structure AxisGroup where
  state : Nat := 0
  done : Bool := false
  refused : Bool := false
  segment : Nat := 0
  pos : List (Nat × Int) := []
  vel : List (Nat × Int) := []
  acc : List (Nat × Int) := []
  move : AxisMove := .none
  period : Nat := 0
  /-- The targets of a held move. -/
  held : Option (List (Nat × Int)) := none
  words : List (Nat × Nat × DWord) := []
  armed : List (Nat × Nat × DWord) := []
  deriving DecidableEq, Repr

end Sys2Proof.Machine
end

