-- ==== Sys2Proof/Syntax.lean ====
section
/-! DEFINITION. The commands and events that the module takes from outside, one constructor for each row
of the table of operations, and the data they carry. A command carries what the module is sent or what its
sensors read; everything the module works out from that is the machine's. -/

namespace Sys2Proof

open Sys2Proof.Machine (PubKey Sig RecvPort TaskRun AxisGroup)

/-- The path on which a register is read (R427, R488): the management plane or a TRIAD tile. -/
inductive Path where
  | mgmt
  | tack (tile : Fin 144)
  deriving DecidableEq, Repr

/-- The header of a management request (R454) with the session it arrives on and the SHA-384 of its
OPCODE and body (R455). -/
structure Req where
  session : Nat := 0
  magic : Word := 0x31474D4E
  length : Nat := 0
  client : Word := 0
  id : DWord := 0
  digest : Nat := 0
  deriving DecidableEq, Repr

/-- What a client presents to open a session (R452): its address, the levels of its certificate's chain
to the owner CA (none: it does not chain), its serial, the first 16 bytes of its SHA-384 digest, and its
validity in seconds of T. -/
structure ClientHello where
  session : Nat := 0
  x6 : Bool := false
  ip : Nat := 0
  levels : Option Nat := some 1
  serial : Nat := 0
  digest16 : Nat := 0
  notBefore : Nat := 0
  notAfter : Nat := 0
  deriving DecidableEq, Repr

/-- A firmware copy (R447): its digest, whether its signature verifies with the firmware key, and its
versions. -/
structure FwCopy where
  digest : BitVec 384 := 0
  signed : Bool := true
  secver : BitVec 16 := 0
  minor : Byte := 0
  major : Byte := 0
  build : BitVec 16 := 0
  deriving DecidableEq, Repr

/-- A TLS certificate as INSTALL_CERT carries it (R449): whether it chains to the owner CA, the key it
carries, and its notAfter in seconds of T. -/
structure TlsCert where
  chains : Bool := false
  key : PubKey := {}
  notAfter : DWord := 0
  deriving DecidableEq, Repr

/-- A harness-signing key with its key identifier (R446). -/
structure HarnessKey where
  keyId : DWord := 0
  key : PubKey := {}
  revoked : Bool := false
  deriving DecidableEq, Repr

/-- An approval statement with its signature (R461). -/
structure Statement where
  magic : Word := 0x31565041
  ownerFp : BitVec 128 := 0
  kind : Byte := 0
  pair : Byte := 0
  pendingId : Word := 0
  subject : BitVec 384 := 0
  keyIndex : Nat := 0
  sig : Sig := {}
  deriving DecidableEq, Repr

/-- An enrolment record (R449): the fields of tags 0x0001 to 0x0008. `bytes` is the record up to and
including tag 0x0006 as it was sent, `withSig` up to and including tag 0x0007, and `rootFp` the first 16
bytes of the SHA-384 of the owner root key as the record spells it. -/
structure EnrolRecord where
  rootKey : PubKey := {}
  rootFp : BitVec 128 := 0
  ca : Nat := 0
  harnessKeys : List HarnessKey := []
  approvers : List PubKey := []
  wrapKey : Nat := 0
  minSecver : Word := 0
  rootSig : Sig := {}
  approvals : List Statement := []
  bytes : List Byte := []
  withSig : List Byte := []
  deriving DecidableEq, Repr

/-- An NVMe drive as its bay presents it (R433): whether it is NVMe 1.4 or later with 4,096-byte blocks,
its capacity in GB, its negotiated lanes and generation, its 32-byte format identifier, and its health. -/
structure Drive where
  formatOk : Bool := true
  capGb : Nat := 0
  width : Nat := 8
  gen : Nat := 5
  formatId : Nat := 0
  wear : Nat := 0
  temp : Int := 0
  deriving DecidableEq, Repr

/-- What the historian's encoding makes of the drives and its buffer, as it stands at a sample: the buffer
fill, the capacity in use, the write rate over the last second, the tiers whose share is full, and how many of the
oldest entries of RAW, AGG_1S, AGG_1MIN, AGG_1H and EVENTS the 1 GiB units held that a full tier has overwritten
(R436, R437). -/
structure DriveUse where
  fill : Nat := 0
  usedGb : Nat := 0
  rateMbs : Nat := 0
  tiersFull : BitVec 5 := 0
  overwritten : List Nat := []
  deriving DecidableEq, Repr

/-- Why a drive leaves its set (R434). -/
inductive DriveLoss where
  | failed
  | removed
  | media
  deriving DecidableEq, Repr

/-- What a replica contributes to an agreement round (R132). -/
structure Contribution where
  stations : List (Nat × Word) := []
  fa : List Int := []
  ao : List Int := []
  enc : List Word := []
  dio : Word := 0
  fb : Byte := 0
  ft : BitVec 16 := 0
  si : BitVec 48 := 0
  can : List Word := []
  tstamp : DWord := 0
  deriving DecidableEq, Repr

/-- A heartbeat (R321) as it arrives; `checkOk` is the frame check of its path. -/
structure Beat where
  role : Nat := 0
  side : Nat := 0
  pair : Nat := 0
  flags : Nat := 0
  epoch : Word := 0
  fwMajor : Nat := 0
  fwMinor : Nat := 0
  safeSet : Nat := 0
  elig : Nat := 0
  seq : Nat := 0
  fp : BitVec 128 := 0
  cycle : DWord := 0
  time : DWord := 0
  checkOk : Bool := true
  deriving DecidableEq, Repr

/-- A forwarded record (R326); `crcOk` is its CRC's verdict; `derived` marks one sent over the rings, whose module areas
come without the status blocks (R353). -/
structure FwdRecord where
  cycle : DWord
  tstamp : DWord := 0
  stations : List (Nat × Word) := []
  local_ : Contribution := {}
  canNum : List Word := []
  hart : List (Nat × List Byte) := []
  areas : List (Nat × List Byte) := []
  crcOk : Bool := true
  derived : Bool := false
  deriving DecidableEq, Repr

/-- A stitch summary (R328): the cycle stitch of each TRIAD tile, and the majority sample stitches of
each loop slot by sample number. -/
structure Summary where
  cycle : DWord
  tiles : List (Nat × DWord) := []
  slots : List (Nat × Nat × DWord) := []
  deriving DecidableEq, Repr, Inhabited

/-- What a packet of the fabric carries (R75). -/
inductive FabUse where
  | votedOutput
  | message
  | agreement
  | setPoint
  | stateCopy
  | loading
  | publishCopy
  deriving DecidableEq, Repr

/-- A flit that a tile's interface or the I/O die hands to a router (R74): the header with the destination, a tile or the
I/O port of its cluster, what the packet carries, and the number of payload flits; or a payload flit on CTRL or BULK. -/
inductive FabFlit where
  | header (dest : Fin 144) (toIo : Bool) (use : FabUse) (length : Fin 16)
  | payload (bulk : Bool) (bits : BitVec 512)
  deriving DecidableEq, Repr

/-- A flit as it arrives at a port, with its number (R78). -/
structure NumberedFlit where
  seq : Byte
  flit : FabFlit
  deriving DecidableEq, Repr

/-- An answer window of the trip bus (R275, R280): nothing, six bits, or the partner's poll in a cycle that this bridle
polled too, of which no answer counts. -/
inductive TbWindow where
  | silence
  | bits (b : BitVec 6)
  | poll
  deriving DecidableEq, Repr

/-- What a diagnostic round finds beside the DACs (R277, R281): the oscillator's deviation, the trip outputs whose monitor
differs from the command, and the gate links whose serialiser does. -/
structure DiagRound where
  oscPpm : Int := 0
  lightOdd : BitVec 16 := 0
  blockOdd : BitVec 12 := 0
  deriving DecidableEq, Repr

/-- Why reset is asserted, as `MOD.RESET_CAUSE.CAUSE` codes it (R489). -/
inductive ResetCause where
  | powerUp
  | seated
  | holdup
  | restart
  | watchdog
  | thermal
  deriving DecidableEq, Repr

/-- An entry of the repair map (R472, R473): a spare row or column assigned in a replica's bank, or a failed
tile. -/
inductive RepairEntry where
  | row (tile replica index : Nat)
  | col (tile replica index : Nat)
  | tile (tile : Nat)
  deriving DecidableEq, Repr

/-- What a self-test has found (R468, R469): its duration, the condition of R469 that failed (0: none), the
spare rows and columns it assigned, the tiles that failed, and the links that failed by cluster. -/
structure TestFindings where
  ms : Nat := 0
  cause : Fin 4 := 0
  spares : List RepairEntry := []
  tiles : List (Fin 144) := []
  links : List (Fin 9 × Word) := []
  deriving DecidableEq, Repr

/-- What a node's checks make of a ring frame (R355, R356): the frame check, the ICV, the replay check and
the secure channel. -/
inductive FrameCheck where
  | good
  | fcs
  | icv
  | replay
  | unknownSc
  deriving DecidableEq, Repr

/-- A ring frame (R344): its header fields and its payload. -/
structure RingFrame where
  source : Byte := 0
  station : Byte := 0
  seq : Word := 0
  payload : List Byte := []
  deriving DecidableEq, Repr

/-- A CAN frame as it completes on the bus; a remote frame's `data` stands for its LEN and carries nothing. -/
structure CanFrame where
  id : BitVec 29 := 0
  ide : Bool := false
  fdf : Bool := false
  brs : Bool := false
  esi : Bool := false
  rtr : Bool := false
  data : List Byte := []
  deriving DecidableEq, Repr

/-- The answer of a HART device (R390): its variables, unit codes, status byte, loop current, comm status 0 or
2 to 4, and the response bytes of a requested command. -/
structure HartAnswer where
  vars : List Byte := []
  units : List Byte := []
  status : Byte := 0
  current : List Byte := []
  comm : Fin 5 := 0
  bytes : List Byte := []
  deriving DecidableEq, Repr

/-- What a state copy brings of a TRIAD tile (R330): the data area by address, the receive ports, and the task
context store with the instances that wait. -/
structure TileCopy where
  sram : List (Nat × Byte) := []
  ports : List (Nat × RecvPort) := []
  preempted : List TaskRun := []
  waiting : List TaskRun := []
  deriving DecidableEq, Repr

/-- What a state copy brings of a loop slot (R330): nodes 32 to 255, its state as `LOOP.STATUS.STATE` codes it, the
lock count and the ramp position. -/
structure SlotCopy where
  nodes : List (Nat × Word) := []
  state : Nat := 1
  count : Nat := 0
  ramp : Nat := 0
  deriving DecidableEq, Repr

/-- A state copy as it is complete at a cycle boundary (R330): the cycle, the KiB sent, tiles and slots by number,
axis groups, the complete retain copy, the stored results of plant commands by source and serial, and the CAN
frame numbers (R406). -/
structure StateCopy where
  cycle : DWord
  kib : Nat := 0
  tiles : List (Nat × TileCopy) := []
  slots : List (Nat × SlotCopy) := []
  axes : List (Nat × AxisGroup) := []
  retain : Option (DWord × List (Nat × List Byte)) := none
  results : List (Word × Word × Word × List Byte) := []
  canNum : List Word := []
  deriving DecidableEq, Repr

/-- A change of schedule (R193, R198): entry into the fall-back schedule with its FORCED, the begin of a return, its
abandonment, and the return to free-running. -/
inductive ScheduleChange where
  | enter (forced : Bool)
  | returning
  | resume
  | leave
  deriving DecidableEq, Repr

/-- What the module with the predecessor image sends of its state map in the mixed state (R338): bytes of variables by role
tile, and nodes by loop slot. -/
structure MixedState where
  tiles : List (Fin 144 × List (Nat × Byte)) := []
  slots : List (Fin 48 × List (Nat × Word)) := []
  deriving DecidableEq, Repr

/-- What the ACTIVE sends over the girth link beside records and summaries (R107, R112, R199, R214, R337): a harness switch
with its cycle and switch epoch, a change of schedule with its boundary, an accepted plant command for the journal, a role
swap with its cycle and HOLD, and the end of a staged change with its status; and the state
map of the mixed state (R338). -/
inductive Announcement where
  | harness (cycle : DWord) (epoch : Word)
  | schedule (cycle : DWord) (change : ScheduleChange)
  | command (source serial : Word)
  | loopReset (slot : Fin 48) (number : DWord)
  | mixedState (state : MixedState)
  | swap (cycle : DWord) (hold : Bool)
  | abort (result : Fin 20)
  deriving DecidableEq, Repr

/-- What the standby reports of a staged change (R111, R114): ready, or why it refused step 2. -/
inductive StandbyReport where
  | ready
  | approvalNeeded
  | keeperRequired
  | writeFailed
  deriving DecidableEq, Repr

/-- An approval as the ACTIVE sends it with an image (R463): the statement and T at its receipt. -/
structure SentApproval where
  statement : Statement := {}
  at_ : DWord := 0
  deriving DecidableEq, Repr

/-- The commands and events of the module: one constructor for each row of the table of operations. -/
inductive Instr where
  /-- REGISTER_WRITE (R3): A write to a register field that has no row of its own is applied by its access code; a refused RWL write is ignored and reported LOCKED. -/
  | registerWrite (path : Path) (offset : BitVec 24) (value : Word)
  /-- ENTER_SAFETY_MAINT (R10): A management command moves a STOPPED or STANDBY module with K1.1 on into SAFETY_MAINT. -/
  | enterSafetyMaint (req : Req)
  /-- LEAVE_SAFETY_MAINT (R10): A management command moves the module from SAFETY_MAINT to STOPPED. -/
  | leaveSafetyMaint (req : Req)
  /-- SEATED_LOOP_CLOSE (R25): The SEATED loop closes, which starts the 100 ms wait before the electronics are powered. -/
  | seatedLoopClose
  /-- ELECTRONICS_POWER_ON (R58): After 100 ms of unbroken seating the electronics are powered; the time-base counter starts, the firmware boots and the start sequence begins. -/
  | electronicsPowerOn
  /-- SEATED_LOOP_OPEN (R25): The SEATED loop opens and the module enters reset at once. -/
  | seatedLoopOpen
  /-- MODULE_RESET (R27): Reset is asserted for any cause; pending writes are discarded and every output group reaches its reset state in the order of the table. -/
  | moduleReset (cause : ResetCause)
  /-- POSITION_SAMPLE_ATTEMPT (R30): At start, three raw samples of the position pins and K1.5 are taken 1 ms apart; agreement latches the identity, and disagreement after 10 attempts stops the module. -/
  | positionSampleAttempt (first second third : BitVec 6)
  /-- POSITION_PIN_SAMPLE (R31): Every 10 ms the position pins are sampled and debounced; a departure from the latched code sets CODE_CHANGED. -/
  | positionPinSample (pins : BitVec 5)
  /-- KEEPER_SAMPLE (R41): Every 10 ms the keeper switches and the cover switch are sampled and debounced, and each debounced change is acted on. -/
  | keeperSample (switches : BitVec 9)
  /-- FEED_GOOD (R48): A feed that stays between 17.5 V and 32.5 V for 10 ms is judged good. -/
  | feedGood (feed : Fin 2)
  /-- FEED_LOST (R48): A feed below 16.5 V for 50 µs is lost; losing the second feed starts the power-fail sequence. -/
  | feedLost (feed : Fin 2)
  /-- FEED_OVERVOLTAGE (R48): A feed above 33 V for 50 µs is lost and its input switch opens. -/
  | feedOvervoltage (feed : Fin 2)
  /-- FEED_DIP (R55): A feed back above 17.5 V for 1 ms during ride-through ends the sequence with a WARNING event. -/
  | feedDip (feed : Fin 2)
  /-- POWER_FAIL_COMMIT (R54): 10 ms of ride-through expire; heartbeats and output frames stop, the gate links idle and POWER_FAIL is recorded. -/
  | powerFailCommit
  /-- PF_CYCLE_END (R54): The running cycle completes or is abandoned 1 ms after commit; the retain copy freezes, clusters power off and the retain save begins. -/
  | pfCycleEnd
  /-- PF_RETAIN_SAVED (R54): The retain-area write to flash completes and the power-fail event journal is written. -/
  | pfRetainSaved
  /-- PF_JOURNAL_WRITTEN (R431): The power-fail journal write completes and reset is asserted. -/
  | pfJournalWritten
  /-- HOLDUP_EXHAUSTED (R57): The hold-up bank reaches 20 V before the sequence ends, and reset is asserted at once. -/
  | holdupExhausted
  /-- HOLDUP_CHARGED (R53): The hold-up bank reaches 45 V and HOLDUP_READY is set. -/
  | holdupCharged (cap : Byte)
  /-- FLD_GOOD (R51): FLD_24V stays above 19 V for 10 ms, and outputs return to program control at the next boundary. -/
  | fldGood
  /-- FLD_LOST (R51): FLD_24V below 18 V for 1 ms; outputs are forced safe and the safety functions go safe. -/
  | fldLost
  /-- FLD_FUSE (R52): The field fuse opens on overcurrent, with the effects of a field loss. -/
  | fldFuse
  /-- FLD_RECLOSE (R52): A write of 1 to MOD.POWER.FLD_RECLOSE closes the field fuse. -/
  | fldReclose
  /-- COLD_START_WAIT_END (R61): When every die sensor reads −20 °C or above, the module powers its clusters after waiting for the cold start. -/
  | coldStartWaitEnd
  /-- BRIDLE_START_CHECKS (R277): The bridle's start checks complete; on a pass it asserts presence, and on a failure it holds every output safe and the module stops. -/
  | bridleStartChecks (cause : Fin 9) (ms : Nat)
  /-- HARNESS_BOOT_SELECT (R102): The boot slot is selected and verified, including the partner-slot choice; PROTECT and SAFETY copies are compared with the image. -/
  | harnessBootSelect
  /-- CLUSTER_POWER_UP (R59): A cluster is powered at its 400 µs step and its core rail must settle. -/
  | clusterPowerUp (cluster : Fin 9)
  /-- CLUSTER_POWER (R59): A cluster rail unsettled after 200 µs powers the cluster off and stops the module. -/
  | clusterPower (cluster : Fin 9)
  /-- START_SELF_TEST_DONE (R470): The start self-test (full or link-only by the seal) completes and its findings are applied. -/
  | startSelfTestDone (findings : TestFindings)
  /-- CLUSTERS_LOADED (R58): Tiles, routes and loop programs are loaded, loop programs are checked, and a PAIR_MODE 1 module begins its listen window. -/
  | clustersLoaded
  /-- LISTEN_WINDOW_END (R339): The 2 ms listen window ends and the module enters ACTIVE, joins as STANDBY or waits, as it heard. -/
  | listenWindowEnd (partnerSlot : Option (DWord × List (Nat × List Byte)))
  /-- STANDBY_WAIT_TIMEOUT (R339): Identity B receives no commanding heartbeat from A within 100 ms and listens again. -/
  | standbyWaitTimeout
  /-- THERMAL_SAMPLE (R63): A junction reading at or above 100 °C sets THERMAL_HIGH and records an alarm. -/
  | thermalSample (sensor : Fin 11) (tenths : Int)
  /-- THERMAL_STOP (R63): A sensor above 105 °C for 1 s stops the module. -/
  | thermalStop
  /-- THERMAL_RESET (R63): A sensor at or above 115 °C asserts reset by hardware. -/
  | thermalReset
  /-- DIO_GROUP_ENABLE (R60): At 1 ms spacing the next group of 8 DIO outputs is enabled after an entry into ACTIVE or SOLO, or a return of FLD_24V. -/
  | dioGroupEnable
  /-- FLIT_RECEIVE (R78): A flit arrives; a good check is acknowledged and a CRC error, bad code or sequence gap returns NAK and a retransmission. -/
  | flitReceive (tile : Fin 144) (port : Fin 8) (flit : NumberedFlit) (ok : Bool)
  /-- LINK_FAILED (R79): A fourth rejection of one flit declares the link failed and moves its traffic to the detour. -/
  | linkFailed (tile : Fin 144) (dir : Fin 4)
  /-- LINK_DEGRADED (R79): More than 64 retransmissions within 1 ms declare the link degraded and move it to the detour. -/
  | linkDegraded (tile : Fin 144) (dir : Fin 4)
  /-- PORT_COMPLETION_TIMEOUT (R79): A router port's 1-of-4 completion does not arrive within 100 ns, and the port is failed. -/
  | portCompletionTimeout (tile : Fin 144) (port : Fin 6)
  /-- PACE_WINDOW (R84): Each 10 µs window the pace monitors report; margin and slow conditions are acted on. -/
  | paceWindow (cluster : Fin 9) (periods : List Nat)
  /-- PACE_SLOW (R84): A monitor above 1,600 ps in 3 consecutive windows stops the module. -/
  | paceSlow (cluster : Fin 9) (monitor : Fin 17)
  /-- RAIL_SAMPLE (R84): Each 10 µs the cluster rail and temperature are measured, and low, high and over conditions are acted on. -/
  | railSample (cluster : Fin 9) (mv tj : BitVec 16)
  /-- FAB_CLEAR_MAX (R87): FAB.CMD.CLEAR_MAX resets the cluster's minimum and maximum readings. -/
  | fabClearMax (cluster : Fin 9)
  /-- FAB_CLEAR_COUNTS (R87): FAB.CMD.CLEAR_COUNTS zeroes the cluster's retry counts. -/
  | fabClearCounts (cluster : Fin 9)
  /-- LINK_TEST (R87): FAB.CMD.LINK_TEST tests the cluster's links in STOPPED. -/
  | linkTest (cluster : Fin 9) (failing : Word)
  /-- SLOT_WRITE (R101): A management request writes image data into a slot, refused for slots in use. -/
  | slotWrite (req : Req) (slot : Fin 4) (offset : Nat) (data : List Byte)
  /-- SLOT_COMMIT (R101): A management request commits a WRITING slot and runs the slot checks. -/
  | slotCommit (req : Req) (slot : Fin 4)
  /-- SLOT_READ (R453): A management request returns the content of a harness slot. -/
  | slotRead (req : Req) (slot : Fin 4) (offset length : Nat)
  /-- STAGE (R104): A staging request compares the slot with the running image, classifies the change and accepts or refuses it by role. -/
  | stage (req : Req) (slot : Fin 4)
  /-- ABORT_STAGE (R107): A management request drops the staged change with ABORTED_COMMAND. -/
  | abortStage (req : Req)
  /-- PARTITION_READY (R109): A partition's shadow reserve holds its complete new content and passes the digest check. -/
  | partitionReady (part : Nat)
  /-- STAGE_TIMEOUT (R111): A switch not made within STAGE_TIMEOUT aborts the change. -/
  | stageTimeout
  /-- HRN_SWITCHED (R113): The switch epoch and boot pointer are stored in flash and HRN_SWITCHED is recorded. -/
  | hrnSwitched
  /-- SWITCH_ANNOUNCE (R112): The STANDBY receives the ACTIVE's switch or schedule announcement, which gives the cycle at which to apply it. -/
  | switchAnnounce (a : Announcement)
  /-- STANDBY_READY_REPORT (R111): The ACTIVE receives the standby's ready report for the staged fingerprint. -/
  | standbyReadyReport (fp : BitVec 128) (report : StandbyReport)
  /-- STANDBY_IMAGE_COPIED (R114): The image copy to the standby completes; the standby checks approvals and K1.1 and begins its reload. -/
  | standbyImageCopied (image : List (Nat × Byte)) (approvals : List SentApproval)
  /-- SUCCESSOR_RELOAD_DONE (R114): A module reloaded for a standby-first change completes its state copy and rejoins as STANDBY. -/
  | successorReloadDone (copy : StateCopy)
  /-- AGREEMENT_ROUND (R135): The replicas' input contributions are settled into one input image and the first task starts. -/
  | agreementRound (tile : Fin 144) (a b c : Option Contribution)
  /-- ROUND_TIMEOUT (R134): A contribution missing 5 µs after the first makes that replica odd, and the round completes with two. -/
  | roundTimeout (tile : Fin 144) (a b c : Option Contribution)
  /-- SHARED_READ (R127): Paired device or time reads from the replicas are compared, and one read is made and delivered. -/
  | sharedRead (tile : Fin 144)
  /-- SHARED_READ_TIMEOUT (R127): A shared read still incomplete 5 µs after the second or first makes a replica odd or stops the tile. -/
  | sharedReadTimeout (tile : Fin 144)
  /-- EVENT_DELIVERY (R128): A task release or trigger is delivered to all replicas at one agreed retired-instruction count. -/
  | eventDelivery (tile : Fin 144)
  /-- EVENT_TIMEOUT (R128): A replica not reaching the agreed count within 5 µs is odd. -/
  | eventTimeout (tile : Fin 144) (rep : Fin 3)
  /-- VOTER_ENTRY (R137): An effect entry reaches the voter; it is issued by majority or held, and a lagging replica is odd. -/
  | voterEntry (tile : Fin 144) (rep : Fin 3)
  /-- VOTER_TIMEOUT (R137): An entry still missing 5 µs after the second makes a replica odd or stops the tile. -/
  | voterTimeout (tile : Fin 144)
  /-- STITCH_DELIVER (R143): A replica delivers a window stitch and the stitches present are compared. -/
  | stitchDeliver (tile : Fin 144) (rep : Fin 3)
  /-- STITCH_TIMEOUT (R143): A stitch still missing 5 µs after the second makes that replica odd. -/
  | stitchTimeout (tile : Fin 144) (rep : Fin 3)
  /-- SRAM_UNCORR (R145): An uncorrectable ECC error in a replica's SRAM makes that replica odd. -/
  | sramUncorr (tile : Fin 144) (rep : Fin 3)
  /-- SRAM_CORRECTED (R88): A correctable SRAM ECC error is corrected and counted in TILE.ECC. -/
  | sramCorrected (tile : Fin 144) (rep : Fin 3)
  /-- REINTEGRATION_DONE (R148): The copy to a halted replica completes; the digest is compared and the replica returns to service or stays halted. -/
  | reintegrationDone (tile : Fin 144) (ok : Bool)
  /-- LOOP_REINTEGRATION_DONE (R150): A LOOP tile replica rejoins at the first sample boundary after its copy and digest check. -/
  | loopReintegrationDone (tile : Fin 144) (ok : Bool)
  /-- ADD (R162): rd := ra + rb. -/
  | add (tile : Fin 144) (rep : Fin 3) (rd ra rb : Fin 32)
  /-- SUB (R162): rd := ra − rb. -/
  | sub (tile : Fin 144) (rep : Fin 3) (rd ra rb : Fin 32)
  /-- AND (R162): rd := ra and rb. -/
  | and (tile : Fin 144) (rep : Fin 3) (rd ra rb : Fin 32)
  /-- OR (R162): rd := ra or rb. -/
  | or (tile : Fin 144) (rep : Fin 3) (rd ra rb : Fin 32)
  /-- XOR (R162): rd := ra xor rb. -/
  | xor (tile : Fin 144) (rep : Fin 3) (rd ra rb : Fin 32)
  /-- SHL (R162): Shift left by rb[5:0]. -/
  | shl (tile : Fin 144) (rep : Fin 3) (rd ra rb : Fin 32)
  /-- SHR (R162): Logical shift right by rb[5:0]. -/
  | shr (tile : Fin 144) (rep : Fin 3) (rd ra rb : Fin 32)
  /-- SAR (R162): Arithmetic shift right by rb[5:0]. -/
  | sar (tile : Fin 144) (rep : Fin 3) (rd ra rb : Fin 32)
  /-- SLT (R162): Signed less-than comparison. -/
  | slt (tile : Fin 144) (rep : Fin 3) (rd ra rb : Fin 32)
  /-- SLTU (R162): Unsigned less-than comparison. -/
  | sltu (tile : Fin 144) (rep : Fin 3) (rd ra rb : Fin 32)
  /-- SADD (R162): Saturating signed add. -/
  | sadd (tile : Fin 144) (rep : Fin 3) (rd ra rb : Fin 32)
  /-- SSUB (R162): Saturating signed subtract. -/
  | ssub (tile : Fin 144) (rep : Fin 3) (rd ra rb : Fin 32)
  /-- MUL (R162): Low 64 bits of the product. -/
  | mul (tile : Fin 144) (rep : Fin 3) (rd ra rb : Fin 32)
  /-- MULH (R162): High 64 bits of the signed product. -/
  | mulh (tile : Fin 144) (rep : Fin 3) (rd ra rb : Fin 32)
  /-- MULHU (R162): High 64 bits of the unsigned product. -/
  | mulhu (tile : Fin 144) (rep : Fin 3) (rd ra rb : Fin 32)
  /-- DIV (R163): Signed division truncated toward zero, with the defined division-by-zero results. -/
  | div (tile : Fin 144) (rep : Fin 3) (rd ra rb : Fin 32)
  /-- DIVU (R163): Unsigned division. -/
  | divu (tile : Fin 144) (rep : Fin 3) (rd ra rb : Fin 32)
  /-- REM (R163): Signed remainder. -/
  | rem (tile : Fin 144) (rep : Fin 3) (rd ra rb : Fin 32)
  /-- REMU (R163): Unsigned remainder. -/
  | remu (tile : Fin 144) (rep : Fin 3) (rd ra rb : Fin 32)
  /-- ADDI (R162): rd := ra + sext(imm16). -/
  | addi (tile : Fin 144) (rep : Fin 3) (rd ra : Fin 32) (imm : BitVec 16)
  /-- ANDI (R162): rd := ra and zext(imm16). -/
  | andi (tile : Fin 144) (rep : Fin 3) (rd ra : Fin 32) (imm : BitVec 16)
  /-- ORI (R162): rd := ra or zext(imm16). -/
  | ori (tile : Fin 144) (rep : Fin 3) (rd ra : Fin 32) (imm : BitVec 16)
  /-- XORI (R162): rd := ra xor zext(imm16). -/
  | xori (tile : Fin 144) (rep : Fin 3) (rd ra : Fin 32) (imm : BitVec 16)
  /-- SHLI (R162): Shift left by an immediate count. -/
  | shli (tile : Fin 144) (rep : Fin 3) (rd ra : Fin 32) (sh : BitVec 6)
  /-- SHRI (R162): Logical shift right by an immediate count. -/
  | shri (tile : Fin 144) (rep : Fin 3) (rd ra : Fin 32) (sh : BitVec 6)
  /-- SARI (R162): Arithmetic shift right by an immediate count. -/
  | sari (tile : Fin 144) (rep : Fin 3) (rd ra : Fin 32) (sh : BitVec 6)
  /-- SLTI (R162): Signed less-than against an immediate. -/
  | slti (tile : Fin 144) (rep : Fin 3) (rd ra : Fin 32) (imm : BitVec 16)
  /-- SLTIU (R162): Unsigned less-than against an immediate. -/
  | sltiu (tile : Fin 144) (rep : Fin 3) (rd ra : Fin 32) (imm : BitVec 16)
  /-- LUI (R162): rd := sext(imm16) shifted left by 16. -/
  | lui (tile : Fin 144) (rep : Fin 3) (rd : Fin 32) (imm : BitVec 16)
  /-- LB (R162): Load a sign-extended byte under the access rules. -/
  | lb (tile : Fin 144) (rep : Fin 3) (rd ra : Fin 32) (imm : BitVec 16)
  /-- LBU (R162): Load a zero-extended byte. -/
  | lbu (tile : Fin 144) (rep : Fin 3) (rd ra : Fin 32) (imm : BitVec 16)
  /-- LH (R162): Load a sign-extended halfword. -/
  | lh (tile : Fin 144) (rep : Fin 3) (rd ra : Fin 32) (imm : BitVec 16)
  /-- LHU (R162): Load a zero-extended halfword. -/
  | lhu (tile : Fin 144) (rep : Fin 3) (rd ra : Fin 32) (imm : BitVec 16)
  /-- LW (R162): Load a sign-extended word; in device space it is a shared read. -/
  | lw (tile : Fin 144) (rep : Fin 3) (rd ra : Fin 32) (imm : BitVec 16)
  /-- LWU (R162): Load a zero-extended word; in device space it is a shared read. -/
  | lwu (tile : Fin 144) (rep : Fin 3) (rd ra : Fin 32) (imm : BitVec 16)
  /-- LD (R162): Load a doubleword, with forwarding or stall against the store buffer. -/
  | ld (tile : Fin 144) (rep : Fin 3) (rd ra : Fin 32) (imm : BitVec 16)
  /-- SB (R166): Store a byte; to the output window it retires a kind 0x01 effect. -/
  | sb (tile : Fin 144) (rep : Fin 3) (rs ra : Fin 32) (imm : BitVec 16)
  /-- SH (R162): Store a halfword. -/
  | sh (tile : Fin 144) (rep : Fin 3) (rs ra : Fin 32) (imm : BitVec 16)
  /-- SW (R169): Store a word; in device space it retires a kind 0x03 effect issued at once. -/
  | sw (tile : Fin 144) (rep : Fin 3) (rs ra : Fin 32) (imm : BitVec 16)
  /-- SD (R167): Store a doubleword; to a send channel it retires a message word. -/
  | sd (tile : Fin 144) (rep : Fin 3) (rs ra : Fin 32) (imm : BitVec 16)
  /-- BEQ (R162): Branch if equal. -/
  | beq (tile : Fin 144) (rep : Fin 3) (ra rb : Fin 32) (off : BitVec 16) (miss : Option Nat)
  /-- BNE (R162): Branch if not equal. -/
  | bne (tile : Fin 144) (rep : Fin 3) (ra rb : Fin 32) (off : BitVec 16) (miss : Option Nat)
  /-- BLT (R162): Branch if signed less. -/
  | blt (tile : Fin 144) (rep : Fin 3) (ra rb : Fin 32) (off : BitVec 16) (miss : Option Nat)
  /-- BGE (R162): Branch if signed greater or equal. -/
  | bge (tile : Fin 144) (rep : Fin 3) (ra rb : Fin 32) (off : BitVec 16) (miss : Option Nat)
  /-- BLTU (R162): Branch if unsigned less. -/
  | bltu (tile : Fin 144) (rep : Fin 3) (ra rb : Fin 32) (off : BitVec 16) (miss : Option Nat)
  /-- BGEU (R162): Branch if unsigned greater or equal. -/
  | bgeu (tile : Fin 144) (rep : Fin 3) (ra rb : Fin 32) (off : BitVec 16) (miss : Option Nat)
  /-- J (R162): Jump relative. -/
  | jump (tile : Fin 144) (rep : Fin 3) (off : BitVec 26)
  /-- JAL (R162): Jump and link into g31. -/
  | jal (tile : Fin 144) (rep : Fin 3) (off : BitVec 26)
  /-- JALR (R162): Jump to a register target and link into rd. -/
  | jalr (tile : Fin 144) (rep : Fin 3) (rd ra : Fin 32) (imm : BitVec 16) (miss : Option Nat)
  /-- FENCE (R162): Wait until the store buffer is empty. -/
  | fence (tile : Fin 144) (rep : Fin 3)
  /-- ENDC (R166): Drain the store buffer, retire the cycle-end marker, release the staged outputs and end the task instance. -/
  | endc (tile : Fin 144) (rep : Fin 3)
  /-- RFE (R182): Check and return from an exception, restoring the frame. -/
  | rfe (tile : Fin 144) (rep : Fin 3)
  /-- RDTIME (R171): Read the corrected time T as a shared read. -/
  | rdtime (tile : Fin 144) (rep : Fin 3) (rd : Fin 32)
  /-- RDSR (R170): Read a special register. -/
  | rdsr (tile : Fin 144) (rep : Fin 3) (rd num : Fin 32)
  /-- WRSR (R170): Write a writable special register. -/
  | wrsr (tile : Fin 144) (rep : Fin 3) (ra num : Fin 32)
  /-- TRAP (R162): Raise TRAP with the immediate as EVAL. -/
  | trap (tile : Fin 144) (rep : Fin 3) (imm : BitVec 16)
  /-- ILLEGAL_INSTRUCTION (R159): An unlisted or malformed instruction word raises ILLEGAL. -/
  | illegalInstruction (tile : Fin 144) (rep : Fin 3) (word : Word)
  /-- PERF_SELECT (R176): A write to MOD.PERF_SEL selects a replica counter and clears VALID. -/
  | perfSelect (value : Word)
  /-- PERF_DATA_VALID (R176): The selected counter is loaded and VALID is set within 1 µs. -/
  | perfDataValid
  /-- PERF_CLEAR (R176): MOD.PERF_SEL.CLEAR zeroes the selected counter. -/
  | perfClear (value : Word)
  /-- CYCLE_BOUNDARY (R186): When all tiles have ended and delivered, a boundary is declared and the holding work, staged writes, publish copy and over-limit count run. -/
  | cycleBoundary (dataBusy : Bool)
  /-- TASK_WATCHDOG (R192): A task instance still running at 4 × CYCLE_LIMIT, or at 8 periods under fall-back, is aborted. -/
  | taskWatchdog (tile : Fin 144)
  /-- BASE_PERIOD_BOUNDARY (R195): Under fall-back, tasks are released by period and priority at each 62.5 µs boundary, and overruns and return conditions are judged. -/
  | basePeriodBoundary (dataBusy : Bool)
  /-- FALLBACK_LEFT (R198): During a return, when all started instances have ended, a free-running boundary is declared. -/
  | fallbackLeft (dataBusy : Bool)
  /-- FORCE_FALLBACK (R218): A write to MOD.CYCLE_CTRL.FORCE_FALLBACK forces or allows the fall-back schedule. -/
  | forceFallback (value : Word)
  /-- CYCLE_CLEAR_MAX (R218): MOD.CYCLE_CTRL.CLEAR_MAX resets MOD.CYCLE_MAX. -/
  | cycleClearMax
  /-- START (R209): A START command from STOPPED starts the module with the named restart kind. -/
  | start (req : Req) (warm : Bool)
  /-- RESTART (R212): A RESTART command performs a warm restart with save, or a cold restart at once. -/
  | restart (req : Req) (warm : Bool)
  /-- PLANT_COMMAND (R213): A plant command request is checked for serial and duplicates and accepted into the partition queue. -/
  | plantCommand (req : Req) (body : List Byte)
  /-- COMMAND_JOURNAL_WRITTEN (R214): The accepted command's journal write completes. -/
  | commandJournalWritten (source serial : Word) (ok : Bool)
  /-- COMMAND_ACK (R214): The standby's acknowledgement of an accepted command arrives. -/
  | commandAck (source serial : Word)
  /-- RETURN_FRAME (R244): A gate-link return frame is received and checked and triggers the FRAME slot's sample. -/
  | returnFrame (link : Fin 12) (bytes : List Byte) (delimited : Bool)
  /-- RETURN_FRAME_MISSING (R240): A return frame absent 2 µs after its expected arrival triggers a stale sample; 3 in a row cause a loop fault. -/
  | returnFrameMissing (link : Fin 12)
  /-- TIMER_SAMPLE_TRIGGER (R225): T reaches PHASE + k × PERIOD and a TIMER slot's sample is triggered. -/
  | timerSampleTrigger (slot : Fin 48)
  /-- LOOP_SAMPLE_START (R229): The earliest-deadline waiting sample starts; its inputs, set-points and awl injection are written. -/
  | loopSampleStart (tile : Fin 144) (fwd : Option (List (Nat × Word)))
  /-- SAMPLE_DEADLINE (R238): A sample not on time at its deadline repeats the previous outputs and counts an overrun; 3 in a row cause a loop fault. -/
  | sampleDeadline (slot : Fin 48)
  /-- NOP (R233): Loop step with no operation. -/
  | loopNop (tile : Fin 144) (rep : Fin 3)
  /-- CLR (R233): Clear an accumulator. -/
  | loopClr (tile : Fin 144) (rep : Fin 3) (d : Fin 4)
  /-- MAC (R233): Multiply a node by a coefficient and accumulate. -/
  | loopMac (tile : Fin 144) (rep : Fin 3) (d : Fin 4) (a : Fin 256) (c : Fin 512)
  /-- MSB (R233): Multiply a node by a coefficient and subtract. -/
  | loopMsb (tile : Fin 144) (rep : Fin 3) (d : Fin 4) (a : Fin 256) (c : Fin 512)
  /-- MACN (R233): Multiply two nodes and accumulate. -/
  | loopMacn (tile : Fin 144) (rep : Fin 3) (d : Fin 4) (a b : Fin 256)
  /-- ADDA (R233): Add a shifted node to an accumulator. -/
  | loopAdda (tile : Fin 144) (rep : Fin 3) (d : Fin 4) (a : Fin 256) (sh : Fin 32)
  /-- STA (R233): Store a rounded accumulator to a node. -/
  | loopSta (tile : Fin 144) (rep : Fin 3) (d : Fin 256) (a : Fin 4) (sh : Fin 48)
  /-- LOOP_MUL (R233): Loop step MUL: node := rounded node × coefficient. -/
  | loopMul (tile : Fin 144) (rep : Fin 3) (d a : Fin 256) (c : Fin 512)
  /-- LOOP_ADD (R233): Loop step ADD: saturated sum of two nodes. -/
  | loopAdd (tile : Fin 144) (rep : Fin 3) (d a b : Fin 256)
  /-- LOOP_SUB (R233): Loop step SUB: saturated difference of two nodes. -/
  | loopSub (tile : Fin 144) (rep : Fin 3) (d a b : Fin 256)
  /-- LIM (R233): Clamp a node between two nodes. -/
  | loopLim (tile : Fin 144) (rep : Fin 3) (d a : Fin 256) (b : Fin 255)
  /-- MOV (R233): Copy a node. -/
  | loopMov (tile : Fin 144) (rep : Fin 3) (d a : Fin 256)
  /-- LDC (R233): Load a coefficient value into a node. -/
  | loopLdc (tile : Fin 144) (rep : Fin 3) (d : Fin 256) (c : Fin 512)
  /-- SEL (R233): Conditionally copy a node. -/
  | loopSel (tile : Fin 144) (rep : Fin 3) (d a b : Fin 256)
  /-- SINCOS (R233): Compute sine and cosine of a node angle. -/
  | loopSincos (tile : Fin 144) (rep : Fin 3) (d : Fin 255) (a : Fin 256)
  /-- LOCK (R249): Rotor-lock supervision counts, declares a loss or a re-acquisition, and applies ROTOR_ACTION. -/
  | loopLock (tile : Fin 144) (rep : Fin 3) (d : Fin 256) (a : Fin 255) (c : Fin 509)
  /-- OUT (R233): Set an output and retire a loop output word. -/
  | loopOut (tile : Fin 144) (rep : Fin 3) (a : Fin 256) (o : Fin 8)
  /-- FLT (R233): Raise a PROGRAM loop fault when a node is non-zero. -/
  | loopFlt (tile : Fin 144) (rep : Fin 3) (a : Fin 256) (code : Byte)
  /-- END (R233): Retire the sample-end marker and end the sample; chained slots are triggered. -/
  | loopEnd (tile : Fin 144) (rep : Fin 3)
  /-- CATCH_TIMEOUT (R250): CATCH lasting 250 ms without re-acquisition causes loop fault REACQUIRE_FAILED. -/
  | catchTimeout (slot : Fin 48)
  /-- HOLD_TIMEOUT (R250): HOLD lasting 50 ms without re-acquisition begins COAST_REACQUIRE. -/
  | holdTimeout (slot : Fin 48)
  /-- LOOP_FAULT_RESET (R241): LOOP.CTRL.FAULT_RESET clears a loop fault from the first sample after the next boundary. -/
  | loopFaultReset (slot : Fin 48)
  /-- LOOP_CLEAR_FLAGS (R261): LOOP.CTRL.CLEAR_FLAGS clears the sticky flags. -/
  | loopClearFlags (slot : Fin 48)
  /-- LOOP_CLEAR_STATS (R261): LOOP.CTRL.CLEAR_STATS zeroes LOOP.COUNT and MAX_NS. -/
  | loopClearStats (slot : Fin 48)
  /-- GLINK_CLEAR_COUNTS (R262): GLINK.CTRL.CLEAR_COUNTS zeroes GLINK.ERRORS. -/
  | glinkClearCounts (link : Fin 12)
  /-- MOVE_ABS (R256): An axis command moves the group to an absolute target. -/
  | moveAbs (group : Fin 32) (targets : List (Nat × Int)) (override : Nat)
  /-- MOVE_REL (R256): An axis command moves the group by a distance. -/
  | moveRel (group : Fin 32) (distances : List (Nat × Int)) (override : Nat)
  /-- AXIS_STOP (R256): An axis command stops the group, ramped at d_max. -/
  | axisStop (group : Fin 32)
  /-- AXIS_HOLD (R256): An axis command makes a ramped stop that keeps the move. -/
  | axisHold (group : Fin 32)
  /-- AXIS_RESUME (R256): An axis command resumes a held move. -/
  | axisResume (group : Fin 32)
  /-- AXIS_RESET_FAULT (R256): An axis command resets an axis fault. -/
  | axisResetFault (group : Fin 32)
  /-- AXIS_PERIOD (R256): Each axis period the generator issues set-points, status and the deceleration envelope. -/
  | axisPeriod (group : Fin 32)
  /-- AWL_ARM (R258): MOD.AWL_CTRL.ARM arms capture, or sets REFUSED. -/
  | awlArm
  /-- AWL_START (R257): MOD.AWL_CTRL.START starts injection, announced to the standby, or sets REFUSED. -/
  | awlStart
  /-- AWL_STOP (R259): MOD.AWL_CTRL.STOP stops injection and capture. -/
  | awlStop
  /-- AWL_ANNOUNCE (R259): The STANDBY receives the injection start sample number and injects in shadow. -/
  | awlAnnounce (start : DWord) (slot : Fin 48) (inj amp freq : Word)
  /-- AWL_INJECTION_END (R257): Injection stops after LENGTH_K × 1,024 samples. -/
  | awlInjectionEnd
  /-- AWL_READ (R453): A management request reads the awl capture buffer. -/
  | awlRead (req : Req) (first count : Nat)
  /-- COMPARATOR_CROSSING (R267): An FA input crosses a comparator switching point and HI or LO changes. -/
  | comparatorCrossing (comp : Fin 32) (uv16 : Int)
  /-- FT_INPUT_CHANGE (R268): An FT input crosses 11 V. -/
  | ftInputChange (ft : Fin 16) (high : Bool)
  /-- TRIP_LINE_CHANGE (R268): A trip bus or presence line changes at X1. -/
  | tripLineChange (line : Fin 6) (asserted : Bool)
  /-- BRIDLE_EVALUATE (R270): Each bridle cycle the terms, equations, latches and reset sources are evaluated and the outputs are driven. -/
  | bridleEvaluate
  /-- TERM_DELAY_EXPIRY (R270): A term's source stays asserted for DELAY + 1 samples and the term becomes true. -/
  | termDelayExpiry (eq : Fin 64) (term : Fin 4)
  /-- OUTPUT_HOLD_EXPIRY (R272): The 10 µs minimum dark, block or assert time of an output ends. -/
  | outputHoldExpiry (out : Fin 32)
  /-- BRIDLE_REFRESH (R269): The I/O die's 10 µs refresh brings the trip word, permit word and loop requests to the bridle. -/
  | bridleRefresh
  /-- PROC_LOST (R269): No refresh for 100 µs sets PROC_LOST, and the safety functions may enter degraded mode. -/
  | procLost
  /-- TRIP_RESET (R271): A management request resets a latched equation whose AND is false. -/
  | tripReset (req : Req) (body : List Byte)
  /-- TB_POLL (R275): The polling bridle sends a poll pulse every 200 ns. -/
  | tbPoll
  /-- TB_ANSWER (R275): An answer window is received or read back and judged. -/
  | tbAnswer (own : Bool) (window : TbWindow)
  /-- TB_POLLER_TAKEOVER (R275): Identity B starts polling after TRIPBUS6 has been released for 1 µs. -/
  | tbPollerTakeover
  /-- TB_PARTNER_SILENT (R276): 16 missing partner answers clear PARTNER_OK and record an alarm. -/
  | tbPartnerSilent
  /-- TB_SELF_FAIL (R276): 16 failed readbacks of the own answer record an alarm. -/
  | tbSelfFail
  /-- BRIDLE_DIAG_ROUND (R277): Each 1 ms the bridle checks DAC readback and parameter CRC. -/
  | bridleDiagRound (dacMv : List (Nat × Int)) (round : DiagRound)
  /-- BRIDLE_FAULT (R278): A self-diagnostic fault darkens all outputs, blocks the gate links, makes the functions safe and stops the module. -/
  | bridleFault (cause : Fin 9) (index : Nat)
  /-- BRIDLE_MIRROR_REFRESH (R281): The BRIDLE and safety MOD registers are refreshed as one snapshot every 10 µs. -/
  | bridleMirrorRefresh
  /-- FIRST_OUT_REARM (R281): FIRST_OUT re-arms after 1 ms with no equation true and no output dark. -/
  | firstOutRearm
  /-- SAFETY_WRITTEN (R289): The bridle parameter-store write in SAFETY_MAINT completes; on CRC match the new copies replace the old, and otherwise the change is refused. -/
  | safetyWritten (crcs : List Word)
  /-- SAFETY_CHANNEL_RUN (R290): A safety or feedback channel reaches 11 V and is filtered RUN. -/
  | safetyChannelRun (ch : Fin 56)
  /-- SAFETY_CHANNEL_SAFE (R290): A channel low for 1 ms is filtered SAFE; the function goes SAFE, or a RESET channel makes a reset edge. -/
  | safetyChannelSafe (ch : Fin 56)
  /-- TEST_PULSE_CHECK (R291): 300 µs into an off-pulse, fed channels are read; a high level in 2 periods latches TEST_PULSE. -/
  | testPulseCheck (tp : Fin 4) (high : BitVec 48)
  /-- DISCREPANCY_TICK (R292): Each 0.5 ms tick counts disagreement between a function's channels. -/
  | discrepancyTick
  /-- DISCREPANCY (R292): The discrepancy count reaches DISC_T × 10 and latches a fault. -/
  | discrepancy (fn : Fin 24)
  /-- ENCODER_SPEED_WINDOW (R299): Every 1 ms the encoder speed is computed and checked against the envelope. -/
  | encoderSpeedWindow (enc : Fin 4) (counts : Int)
  /-- STANDSTILL (R299): Speed below V_STILL for STILL_T is standstill, and a CAT1 stop removes torque. -/
  | standstill (enc : Fin 4)
  /-- STOP_TIMEOUT (R298): T_MAX after demand, torque is removed with cause STOP_TIMEOUT. -/
  | stopTimeout (fn : Fin 24)
  /-- ENCODER_FAULT (R299): An encoder signal or supply fault removes torque for every function that monitors it. -/
  | encoderFault (enc : Fin 4) (supply : Bool)
  /-- FEEDBACK_CHANGE (R300): A filtered FB change is checked against the pair's state, with lock-out for WELDED or FB_CHANGE. -/
  | feedbackChange (fb : Fin 8) (run : Bool)
  /-- FB_TIMEOUT (R300): FB not following a switching within FB_T locks the pair out. -/
  | fbTimeout (pair : Fin 8)
  /-- OUTPUT_SWITCH_TEST (R301): Every 10 s each switch of an energised pair is switched off for 300 µs and checked. -/
  | outputSwitchTest (pair : Fin 8) (ok : Bool)
  /-- SWITCH_READBACK_FAULT (R301): A switch readback differing for 2 ms locks the pair out with cause SWITCH. -/
  | switchReadbackFault (pair : Fin 8)
  /-- CROSS (R302): A permit bit disagreeing with the bridle for CROSS_MS latches a CROSS fault. -/
  | cross (fn : Fin 24)
  /-- PERMIT_VALID_TIMEOUT (R303): VALID at 0 for CROSS_MS in a commanding role puts the bridle into degraded mode. -/
  | permitValidTimeout
  /-- DEGRADED_EXPIRING (R304): 10 min before DEGR_HOURS an alarm is recorded and DEGR_WARN is set. -/
  | degradedExpiring
  /-- DEGRADED_EXPIRED (R304): At DEGR_HOURS every function goes safe and latches a fault. -/
  | degradedExpired
  /-- SAFE_CHANNEL_BACK (R305): Permit word valid and agreeing for 1 s ends degraded mode. -/
  | safeChannelBack
  /-- HEARTBEAT_SEND (R322): Every 25 µs a heartbeat is sent on the girth link and the rings as the role allows. -/
  | heartbeatSend
  /-- HEARTBEAT (R320): A received heartbeat is validated and updates partner state, epoch, time following or yield. -/
  | heartbeat (path : Fin 3) (beat : Beat)
  /-- PATH_SILENT (R323): A path without a valid heartbeat for 100 µs is silent; both silent means the partner is lost. -/
  | pathSilent (path : Fin 2)
  /-- RING_RX_SILENT (R333): No valid frame on either ring for 100 µs makes a commanding twin yield. -/
  | ringRxSilent
  /-- FORWARDED_RECORD (R327): The STANDBY receives a forwarded record and starts the shadow cycle, or declares LAG. -/
  | forwardedRecord (bytes : List Byte) (dataBusy : Bool)
  /-- FORWARD_LATE (R328): A record not arrived 2 cycles after the previous declares a divergence. -/
  | forwardLate
  /-- STITCH_SUMMARY (R328): The STANDBY compares a stitch summary with its own and may declare a divergence. -/
  | stitchSummary (summary : Summary)
  /-- STATE_COPY_DONE (R330): A state copy completes at a boundary and the STANDBY resumes shadowing and CAN numbering. -/
  | stateCopyDone (copy : StateCopy)
  /-- STATE_COPY_FAILED (R329): A failed state copy is restarted and a WARNING is recorded. -/
  | stateCopyFailed
  /-- COPY_NOW (R341): TWIN.CMD.COPY_NOW starts a full state copy in STANDBY. -/
  | copyNow
  /-- TWIN_CLEAR_COUNTS (R341): TWIN.CMD.CLEAR_COUNTS zeroes the twin counters. -/
  | twinClearCounts
  /-- ROLE_SWAP (R337): A management request announces a planned role swap at a cycle at least 2 ahead. -/
  | roleSwap (req : Req) (hold : Bool)
  /-- MIXED_MINUTE (R338): Each minute of the mixed state REMAIN_MIN counts down. -/
  | mixedMinute
  /-- SUCCESSOR_EXPIRED (R338): The mixed state outlasts SUCCESSOR_WINDOW, or a further hour passes, and an alarm is raised. -/
  | successorExpired
  /-- RING_PERIOD (R345): At each ring period start the commander sends SYNC, OUTPUT, PEER and SAFETY frames and checks the load. -/
  | ringPeriod
  /-- INPUT_FRAME (R349): A station INPUT frame is accepted or discarded and enters the frame store; OBEYED and TOKEN are noted. -/
  | inputFrame (ring : Fin 2) (check : FrameCheck) (frame : RingFrame)
  /-- STATION_DROPOUT (R351): No accepted INPUT frame for DROPOUT_N periods drops the station out. -/
  | stationDropout (station : Nat)
  /-- RING_FRAME_FORWARD (R343): A ring frame not for the module is forwarded unchanged, and an own frame returning is removed. -/
  | ringFrameForward (ring : Fin 2) (check : FrameCheck) (frame : RingFrame)
  /-- RING_BREAK (R352): No own frames returned for 2 periods declares the ring broken. -/
  | ringBreak (ring : Fin 2)
  /-- RING_BREAK_LOCATED (R352): Within 2 further periods the break position is written to RING.BREAK. -/
  | ringBreakLocated (ring : Fin 2)
  /-- RING_RESTORED (R352): 16 periods of returning own frames mark the ring intact. -/
  | ringRestored (ring : Fin 2)
  /-- TWIN_FRAME (R353): A TWIN frame fragment of a forwarded record or stitch summary is received over the rings. -/
  | twinFrame (ring : Fin 2) (kind index : Nat) (last : Bool) (cycle : DWord) (content : List Byte)
  /-- PEER_FRAME (R354): A PEER frame of another pair is accepted as a publication's input. -/
  | peerFrame (ring : Fin 2) (check : FrameCheck) (frame : RingFrame)
  /-- MKA_KEY_DISTRIBUTION (R355): The key server distributes a new connectivity association key. -/
  | mkaKeyDistribution (peers : Nat)
  /-- RING_CLEAR_COUNTS (R361): RING.CTRL.CLEAR_COUNTS zeroes the ring counters. -/
  | ringClearCounts (ring : Fin 2)
  /-- RING_CLEAR_MAX (R361): RING.CTRL.CLEAR_MAX zeroes the MAX fields. -/
  | ringClearMax (ring : Fin 2)
  /-- PTP_SAMPLE (R373): A PTP offset computation yields a time sample for the servo. -/
  | ptpSample (ref : DWord) (stampOk : Bool) (delayNs : Word) (stepsRemoved : Nat) (utcOffset : Int)
  /-- PPS_EDGE (R374): A PPS rising edge is captured, validated and used as a time sample. -/
  | ppsEdge (widthNs : Nat) (ptpTime : DWord)
  /-- TIME_SAMPLE (R369): A valid sample qualifies or steps the time base, updates the servo, or declares divergence. -/
  | timeSample
  /-- REBASE (R364): At c1 the offset, c0 and rate are replaced together. -/
  | rebase
  /-- TIME_HOLDOVER (R371): No valid sample for 3 intervals enters HOLDOVER. -/
  | timeHoldover
  /-- FOLLOWING_UPDATE (R375): Each 1 ms the STANDBY uses the mean girth following error as one servo sample. -/
  | followingUpdate
  /-- TIME_JOURNAL (R367): Every 10 s the current T is written to the flash journal. -/
  | timeJournal
  /-- PTP_ANNOUNCE_TIMEOUT (R373): No valid Announce for ANNOUNCE_TIMEOUT intervals moves PTP to the other port. -/
  | ptpAnnounceTimeout
  /-- TIME_RESTART (R367): A request or TIME.CTRL.RESTART restarts the time base in STOPPED or STANDBY. -/
  | timeRestart (req : Option Req)
  /-- SET_TIME (R372): A management request gives the TAI second for the next PPS edge. -/
  | setTime (req : Req) (second : DWord)
  /-- TX_TIMESTAMP (R376): A PTP event message leaves the PHY and its stamp enters the queue, or overflows. -/
  | txTimestamp (frameId : BitVec 16) (port : Fin 5)
  /-- TSQ_REMOVE (R376): The PTP engine removes the oldest transmit stamp from the queue. -/
  | tsqRemove
  /-- TIME_CLEAR_OVERFLOW (R379): TIME.CTRL.CLEAR_OVERFLOW clears the queue overflow. -/
  | timeClearOverflow
  /-- TIME_CLEAR_MAX (R379): TIME.CTRL.CLEAR_MAX zeroes TIME.ERROR_MAX. -/
  | timeClearMax
  /-- TIME_CLEAR_COUNTS (R379): TIME.CTRL.CLEAR_COUNTS zeroes the sample and PPS counters. -/
  | timeClearCounts
  /-- TIME_T_LO (R379): A read of TIME.T_LO returns T and latches TIME.T_HI on its path. -/
  | timeTLo (path : Path)
  /-- TIME_COUNT_LO (R379): A read of TIME.COUNT_LO latches TIME.COUNT_HI. -/
  | timeCountLo (path : Path)
  /-- TIME_OFFSET_LO (R379): A read of TIME.OFFSET_LO latches OFFSET_HI, C0 and RATE as one set. -/
  | timeOffsetLo (path : Path)
  /-- TIME_STEP_LO (R379): A read of TIME.STEP_LO latches TIME.STEP_HI. -/
  | timeStepLo (path : Path)
  /-- TIME_PPS_CAP_LO (R379): A read of TIME.PPS_CAP_LO latches TIME.PPS_CAP_HI. -/
  | timePpsCapLo (path : Path)
  /-- CYCLE_NUM_LO (R222): A read of MOD.CYCLE_NUM_LO latches MOD.CYCLE_NUM_HI. -/
  | cycleNumLo (path : Path)
  /-- TAKE_T_LO (R341): A read of TWIN.TAKE_T_LO latches TWIN.TAKE_T_HI. -/
  | takeTLo (path : Path)
  /-- CAN_TX_T_LO (R420): A read of CAN.TX_T_LO latches CAN.TX_T_HI. -/
  | canTxTLo (path : Path) (port : Fin 4)
  /-- HIST_OLDEST_LO (R444): A read of HIST.OLDEST_LO latches HIST.OLDEST_HI. -/
  | histOldestLo (path : Path)
  /-- SEAL_T_LO (R482): A read of LIFE.SEAL_T_LO latches LIFE.SEAL_T_HI. -/
  | sealTLo (path : Path)
  /-- CERT_EXP_LO (R466): A read of SEC.CERT_EXP_LO latches SEC.CERT_EXP_HI. -/
  | certExpLo (path : Path)
  /-- UPTIME_LO (R489): A read of MOD.UPTIME_LO latches MOD.UPTIME_HI. -/
  | uptimeLo (path : Path)
  /-- DIO_SAMPLE (R382): Every 10 µs each DIO pin's raw level is sampled. -/
  | dioSample (levels : Word) (fldMv ma : Nat)
  /-- DIO_LEVEL_CHANGE (R382): A raw level steady for the filter time changes the filtered level and sets the edge bits. -/
  | dioLevelChange (pin : Fin 32)
  /-- DIO_CURRENT_LIMIT (R384): An output in current limit for 1 ms is faulted, and FAULT rises. -/
  | dioCurrentLimit (pin : Fin 32) (units : Nat)
  /-- DIO_THERMAL_SHUTDOWN (R384): A switch above 150 °C opens and latches, and the channel is faulted. -/
  | dioThermalShutdown (pin : Fin 32)
  /-- DIO_CLEAR_COUNTS (R399): DIO.CTRL.CLEAR_COUNTS zeroes the DIO counters. -/
  | dioClearCounts
  /-- AO_READBACK_SAMPLE (R387): Every 1 ms the loop current is measured and compared with the value driven. -/
  | aoReadbackSample (ch : Fin 16) (raw : Int)
  /-- AO_READBACK_FAULT (R387): A difference above 0.1 mA for 20 ms faults the channel. -/
  | aoReadbackFault (ch : Fin 16)
  /-- AO_OVERTEMP (R387): An output stage over its temperature limit faults the channel. -/
  | aoOvertemp (ch : Fin 16)
  /-- AO_FAULT_RESET (R388): CLO.CTRL.FAULT_RESET clears a latched channel fault. -/
  | aoFaultReset (ch : Fin 16)
  /-- CLO_CLEAR_STATS (R400): CLO.CTRL.CLEAR_STATS zeroes DEV_MAX_UA and ERRORS. -/
  | cloClearStats (ch : Fin 16)
  /-- HART_POLL (R390): In each poll period command 3 is sent to the next listed device. -/
  | hartPoll (ch : Fin 16)
  /-- HART_RESPONSE (R390): A HART response or its absence updates the device block; 3 misses record HART_NO_RESPONSE. -/
  | hartResponse (ch : Fin 16) (answer : Option HartAnswer)
  /-- HART_REQUEST (R391): A management request queues a HART command for one device. -/
  | hartRequest (req : Req) (ch : Fin 16) (addr : Nat) (cmd : List Byte)
  /-- FA_CONVERSION (R392): An FA conversion completes, is calibrated and clamped, and updates the mean. -/
  | faConversion (ch : Fin 32) (raw : Int)
  /-- FAI_CLEAR_MINMAX (R401): FAI.STATUS.CLEAR_MINMAX resets FAI.MINMAX. -/
  | faiClearMinmax (ch : Fin 32)
  /-- CAL_EXPORT (R395): A management request returns the calibration file. -/
  | calExport (req : Req)
  /-- CAL_POINT (R396): A management request captures one reference point and may define a pending record. -/
  | calPoint (req : Req) (path : Fin 64) (reference raw : Int)
  /-- CAL_COMMIT (R397): A management request writes the pending calibration records with K1.7 on. -/
  | calCommit (req : Req) (cert : List Byte)
  /-- CAL_IMPORT (R397): A management request writes a calibration file with K1.7 on and a matching serial. -/
  | calImport (req : Req) (file : List Byte)
  /-- CAL_ABORT (R396): A management request discards the pending records. -/
  | calAbort (req : Req)
  /-- CAL_PENDING_TIMEOUT (R396): Pending records are discarded after 30 minutes without a commit. -/
  | calPendingTimeout
  /-- CAN_FRAME_COMPLETE (R406): A frame completes on the bus; it takes a bus frame number, and is filtered and queued or marks a buffer SENT. -/
  | canFrameComplete (port : Fin 4) (frame : CanFrame) (own : Bool) (tSof : DWord) (busyNs : Nat) (delay : Option Nat)
  /-- CAN_BUS_ERROR (R417): A CAN error updates TEC and REC and changes the warning, passive or bus-off state. -/
  | canBusError (port : Fin 4) (kind : Nat) (dataPhase tx heavy : Bool)
  /-- CAN_TX_SELECT (R409): Before each start-of-frame the controller chooses a PENDING buffer. -/
  | canTxSelect (port : Fin 4)
  /-- CAN_ARBITRATION_LOST (R408): A lost arbitration ends the attempt, and the buffer is retried or cancelled. -/
  | canArbitrationLost (port : Fin 4)
  /-- CAN_RECOVER (R418): CAN.CTRL.RECOVER starts bus-off recovery. -/
  | canRecover (port : Fin 4)
  /-- CAN_RECOVERY_DONE (R418): After 128 × 11 recessive bits recovery completes and sending resumes. -/
  | canRecoveryDone (port : Fin 4)
  /-- CAN_CLEAR_COUNTS (R420): CAN.CTRL.CLEAR_COUNTS zeroes the port counters. -/
  | canClearCounts (port : Fin 4)
  /-- CAN_LOOP_SELECT (R416): A write of CAN.CTRL.LOOP in STOPPED selects a loop-back mode. -/
  | canLoopSelect (port : Fin 4) (value : Fin 4)
  /-- TX_REQ (R408): A write of CAN.TX_REQ requests a transmit buffer, or refuses it. -/
  | txReq (path : Path) (port : Fin 4) (mask : BitVec 3)
  /-- TX_CANCEL (R410): A write of CAN.TX_CANCEL cancels a pending buffer, or defers the cancel. -/
  | txCancel (path : Path) (port : Fin 4) (mask : BitVec 3)
  /-- TXB_DATA (R420): A write of CAN.TXB_DATA stores a data word and increments WORD. -/
  | txbData (path : Path) (port : Fin 4) (value : Word)
  /-- RXQ_WORD (R414): A read of CAN.RXQn_WORD locks, steps through and releases the oldest visible entry. -/
  | rxqWord (path : Path) (port : Fin 4) (q : Fin 2)
  /-- RXQ_DISCARD (R414): DISCARD removes the locked entry. -/
  | rxqDiscard (port : Fin 4) (q : Fin 2)
  /-- RXQ_FLUSH (R414): FLUSH removes every entry of the queue. -/
  | rxqFlush (port : Fin 4) (q : Fin 2)
  /-- RXQ_CLEAR_OVERFLOW (R420): CLEAR_OVERFLOW clears the queue's OVERFLOW. -/
  | rxqClearOverflow (port : Fin 4) (q : Fin 2)
  /-- EVENT_INSERT (R424): A presented record is merged, inserted, overwrites a lower one or is dropped. -/
  | eventInsert
  /-- EVENT_JOURNAL_WRITE (R430): A record of severity CHANGE or higher, or a merge update, is written to the event journal. -/
  | eventJournalWrite
  /-- EVREC_DATA0 (R427): A read of EVREC.DATA0 latches the slot that READ_IDX names. -/
  | evrecData0 (path : Path)
  /-- EVREC_DATA11 (R427): A read of EVREC.DATA11 returns the last word and advances READ_IDX. -/
  | evrecData11 (path : Path)
  /-- FREEZE (R428): A FREEZE request or EVREC.CTRL.FREEZE freezes the ring, or is refused. -/
  | freeze (req : Option Req)
  /-- UNFREEZE (R428): An UNFREEZE request or EVREC.CTRL.UNFREEZE ends the freeze and drains the FIFO. -/
  | unfreeze (req : Option Req)
  /-- FREEZE_EXPIRY (R428): The freeze ends 100 ms after its start, and the FIFO drains. -/
  | freezeExpiry
  /-- CLEAR_LOST (R443): EVREC.CTRL.CLEAR_LOST zeroes every LOST field. -/
  | clearLost
  /-- EVENT_CATALOGUE (R422): A management request returns the event catalogue. -/
  | eventCatalogue (req : Req)
  /-- HIST_DRIVE_MOUNT (R433): A drive is checked and mounted into its set, or shown FAILED. -/
  | histDriveMount (bay : Fin 8) (drive : Drive)
  /-- HIST_SET_FAILED (R434): A drive failure, removal or uncorrectable media error fails its whole set. -/
  | histSetFailed (bay : Fin 8) (loss : DriveLoss)
  /-- HIST_REBUILD (R434): HIST.CTRL.REBUILD starts copying a failed set from the other. -/
  | histRebuild
  /-- HIST_REBUILT (R434): A rebuild completes and the sets are mirrored again. -/
  | histRebuilt
  /-- HIST_CLEAR_COUNTS (R444): HIST.CTRL.CLEAR_COUNTS zeroes the historian counters. -/
  | histClearCounts
  /-- HIST_FORMAT (R435): A management request formats a drive set and discards its key. -/
  | histFormat (req : Req) (set : Fin 2) (formatId : Nat)
  /-- HIST_SAMPLE (R436): At each multiple of a tag's period a RAW sample is stored or dropped. -/
  | histSample (tag : Nat) (use : DriveUse)
  /-- HIST_AGGREGATE (R436): At the end of each second, minute and hour the aggregates are stored. -/
  | histAggregate (tier : Fin 3)
  /-- HIST_SESSION_OPEN (R439): An export session is opened, or refused beyond 16. -/
  | histSessionOpen (session : Nat) (certOk : Bool)
  /-- TAG_QUERY (R440): An export request returns stored tag samples. -/
  | tagQuery (session : Nat) (tags : List Nat) (t0 : DWord) (t1 : DWord) (tier : Fin 4)
  /-- EVENT_QUERY (R440): An export request returns stored event records. -/
  | eventQuery (session : Nat) (byTime : Bool) (lo : DWord) (hi : DWord) (minSev : Fin 8)
  /-- STREAM_OPEN (R441): An export request opens an FA or awl stream. -/
  | streamOpen (session : Nat) (stream : Nat) (fa : List (Fin 32)) (awl : Bool)
  /-- STREAM_CLOSE (R441): An export request closes a stream. -/
  | streamClose (session : Nat) (stream : Nat)
  /-- STREAM_MESSAGE (R441): A stream message of 1,024 samples is sent, or dropped. -/
  | streamMessage (session stream : Nat) (awl : Bool) (place : Fin 32) (taken : Bool)
  /-- SESSION_OPEN (R452): A management TLS session is accepted or refused by certificate. -/
  | sessionOpen (hello : ClientHello)
  /-- SESSION_IDLE_TIMEOUT (R451): A session idle for 300 s is closed. -/
  | sessionIdleTimeout (session : Nat)
  /-- ADDRESS_BLOCK_EXPIRY (R452): A blocked IP address is accepted again after 300 s. -/
  | addressBlockExpiry (ip : Nat)
  /-- READ_REG (R485): A management request reads consecutive registers. -/
  | readReg (req : Req) (offset : Word) (count : BitVec 16)
  /-- WRITE_REG (R485): A management request writes one register, at once or staged for the boundary. -/
  | writeReg (req : Req) (offset : Word) (value : Word)
  /-- STATUS_CATALOGUE (R458): A management request returns the status code list. -/
  | statusCatalogue (req : Req)
  /-- ATTEST (R465): A management request returns a signed attestation report. -/
  | attest (req : Req) (nonce : BitVec 256)
  /-- FW_UPDATE (R447): A management request writes the non-running firmware copy under an approved change. -/
  | fwUpdate (req : Req) (copy : FwCopy)
  /-- PROPOSE (R460): A management request creates a pending change. -/
  | propose (req : Req) (kind : Byte) (subject : BitVec 384)
  /-- APPROVE (R461): A management request adds a signed approval to a pending change. -/
  | approve (req : Req) (pendingId : Word) (keyIndex : Nat) (sig : Sig)
  /-- WITHDRAW (R460): A management request withdraws a pending change. -/
  | withdraw (req : Req) (pendingId : Word)
  /-- APPROVAL_LAPSE (R461): An approval older than 600 s lapses. -/
  | approvalLapse
  /-- PENDING_LAPSE (R460): A pending change unapproved or unused for 3,600 s becomes LAPSED. -/
  | pendingLapse (pendingId : Word)
  /-- CSR (R449): A management request returns a certificate signing request for the TLS key. -/
  | csr (req : Req)
  /-- INSTALL_CERT (R449): A management request installs the owner TLS certificate. -/
  | installCert (req : Req) (cert : TlsCert)
  /-- ENROL (R449): A management request enrols an owner from a signed, approved record. -/
  | enrol (req : Req) (record : EnrolRecord)
  /-- RELEASE_OWNER (R450): A management request erases the owner items under an approved change. -/
  | releaseOwner (req : Req)
  /-- SEC_CLEAR_COUNTS (R466): SEC.CTRL.CLEAR_COUNTS zeroes the authentication and duplicate counters. -/
  | secClearCounts
  /-- SHUTDOWN_TEST (R467): LIFE.CTRL.SHUTDOWN_TEST starts the shutdown self-test in STOPPED. -/
  | shutdownTest
  /-- SHUTDOWN_TEST_DONE (R470): The shutdown test ends; the repair map and seal are written and the clusters go off. -/
  | shutdownTestDone (findings : TestFindings)
  /-- FUSE_COMMIT (R474): LIFE.CTRL.FUSE_COMMIT starts burning soft entries into fuses with K1.6 on. -/
  | fuseCommit
  /-- FUSE_REPAIR (R474): One fuse entry is burned and verified. -/
  | fuseRepair
  /-- CLEAR_SOFT (R473): LIFE.CTRL.CLEAR_SOFT deletes the soft repair entries from the next start. -/
  | clearSoft
  /-- LIFE_CLEAR_COUNTS (R482): LIFE.CTRL.CLEAR_COUNTS zeroes the flash and tag counters. -/
  | lifeClearCounts
  /-- FLASH_BLOCK_FAIL (R475): A block fails to program or erase, and is retired and replaced from the pool. -/
  | flashBlockFail (block : Fin 8192) (erase : Bool)
  /-- TAG_PAGE_WRITE (R479): The host writes a logical page to the older copy of its pair, or queues it. -/
  | tagPageWrite (page : Fin 24) (content : List Byte)
  /-- TAG_FIELD_SESSION (R480): A reader field session starts, and K1.8 is read. -/
  | tagFieldSession
  /-- TAG_FIELD_WRITE (R480): A field write to a service-note page is accepted or refused. -/
  | tagFieldWrite (page : Fin 64) (content : List Byte)
  /-- TAG_LOCK_EXPIRY (R480): A field page lock is released after 200 ms and the host queue drains. -/
  | tagLockExpiry
  /-- RESET_RELEASE (R212): Reset asserted by a RESTART command, a watchdog or the 115 °C limit ends with the electronics still powered, and the module starts again as R58 gives. -/
  | resetRelease
  /-- GIRTH_LINK_TRAINED (R331): Link training on port GIRTH completes, the link comes up and the one-way girth delay is measured into TWIN.GIRTH.DELAY. -/
  | girthLinkTrained (delay : Byte)
  /-- PTP_MOVE_BACK (R373): The primary PTP port has carried valid Announce messages for ANNOUNCE_TIMEOUT intervals, and PTP moves back to it from the secondary. -/
  | ptpMoveBack
  /-- SESSION_CLOSE (R455): A management TLS session is closed by the client or the network; its running requests carry on and their results are stored. -/
  | sessionClose (session : Nat)
  /-- TAG_FIELD_RELEASE (R480): The reader releases its page lock or its field leaves before 200 ms, and the queued host writes drain within 20 ms. -/
  | tagFieldRelease
  /-- DIO_SWITCH_COOLED (R384): A DIO switch in thermal shutdown that a release has already commanded off cools below 130 °C, and its latch clears so the channel is no longer faulted. -/
  | dioSwitchCooled (pin : Fin 32)
  /-- FLASH_ERASE_COMPLETE (R476): A NAND block erase completes and verifies, and the completion record is appended to the flash journal. -/
  | flashEraseComplete (block : Fin 8192)
  deriving DecidableEq, Repr

end Sys2Proof
end

