-- ==== Sys2Proof/Decode.lean ====
section
/-! DEFINITION. The 32-bit words of tack code (R159 to R162) and of loop programs (R231, R233): their decoders, total on
every word and rejecting what those rules do not list, and their encoders. The other commands of the block have no words, and
the table of operations gives no bits. -/

namespace Sys2Proof

/-! ### Fields of a word (R159) -/

/-- A field of a word. -/
def wordField (w : Word) (lo wd : Nat) : Nat := w.toNat / 2 ^ lo % 2 ^ wd

/-- A register number in a word. -/
def regField (w : Word) (lo : Nat) : Fin 32 := ⟨wordField w lo 5, Nat.mod_lt _ (by decide)⟩

/-- Format R. -/
def wordR (op : Nat) (rd ra rb : Fin 32) (func : Nat) : Word :=
  BitVec.ofNat 32 (op * 2 ^ 26 + rd.val * 2 ^ 21 + ra.val * 2 ^ 16 + rb.val * 2 ^ 11 + func)

/-- Formats I, S and B: two registers and 16 bits. -/
def wordI (op : Nat) (r1 r2 : Fin 32) (imm : Nat) : Word :=
  BitVec.ofNat 32 (op * 2 ^ 26 + r1.val * 2 ^ 21 + r2.val * 2 ^ 16 + imm)

/-- Format J. -/
def wordJ (op : Nat) (off : BitVec 26) : Word := BitVec.ofNat 32 (op * 2 ^ 26 + off.toNat)

/-! ### Decoder (R159, R161, R162) -/

/-- The ALU register instructions, by function code. -/
def decodeAlu (t : Fin 144) (r : Fin 3) (func : Nat) (rd ra rb : Fin 32) : Option Instr :=
  match func with
  | 0x000 => some (.add t r rd ra rb)
  | 0x001 => some (.sub t r rd ra rb)
  | 0x002 => some (.and t r rd ra rb)
  | 0x003 => some (.or t r rd ra rb)
  | 0x004 => some (.xor t r rd ra rb)
  | 0x005 => some (.shl t r rd ra rb)
  | 0x006 => some (.shr t r rd ra rb)
  | 0x007 => some (.sar t r rd ra rb)
  | 0x008 => some (.slt t r rd ra rb)
  | 0x009 => some (.sltu t r rd ra rb)
  | 0x00A => some (.sadd t r rd ra rb)
  | 0x00B => some (.ssub t r rd ra rb)
  | 0x010 => some (.mul t r rd ra rb)
  | 0x011 => some (.mulh t r rd ra rb)
  | 0x012 => some (.mulhu t r rd ra rb)
  | 0x013 => some (.div t r rd ra rb)
  | 0x014 => some (.divu t r rd ra rb)
  | 0x015 => some (.rem t r rd ra rb)
  | 0x016 => some (.remu t r rd ra rb)
  | _ => none

/-- The system instructions; a register field that a row does not use must be 0. -/
def decodeSystem (t : Fin 144) (r : Fin 3) (func : Nat) (rd ra rb : Fin 32) : Option Instr :=
  match func with
  | 0x000 => if rd = 0 ∧ ra = 0 ∧ rb = 0 then some (.fence t r) else none
  | 0x001 => if rd = 0 ∧ ra = 0 ∧ rb = 0 then some (.endc t r) else none
  | 0x002 => if rd = 0 ∧ ra = 0 ∧ rb = 0 then some (.rfe t r) else none
  | 0x003 => if ra = 0 ∧ rb = 0 then some (.rdtime t r rd) else none
  | 0x004 => if ra = 0 then some (.rdsr t r rd rb) else none
  | 0x005 => if rd = 0 then some (.wrsr t r ra rb) else none
  | _ => none

/-- A shift by an immediate count: imm16[15:6] must be 0. -/
def decodeShift (imm : BitVec 16) (mk : BitVec 6 → Instr) : Option Instr :=
  if imm.toNat < 64 then some (mk (BitVec.ofNat 6 imm.toNat)) else none

/-- The instruction that a word stands for on a replica of a tile; none where the word raises ILLEGAL. A
branch decodes as correctly predicted. -/
def tackDecode (t : Fin 144) (r : Fin 3) (w : Word) : Option Instr :=
  let a := regField w 21
  let b := regField w 16
  let c := regField w 11
  let func := wordField w 0 11
  let imm := BitVec.ofNat 16 (wordField w 0 16)
  let off := BitVec.ofNat 26 (wordField w 0 26)
  match wordField w 26 6 with
  | 0x00 => decodeAlu t r func a b c
  | 0x01 => some (.addi t r a b imm)
  | 0x02 => some (.andi t r a b imm)
  | 0x03 => some (.ori t r a b imm)
  | 0x04 => some (.xori t r a b imm)
  | 0x05 => decodeShift imm (.shli t r a b)
  | 0x06 => decodeShift imm (.shri t r a b)
  | 0x07 => decodeShift imm (.sari t r a b)
  | 0x08 => some (.slti t r a b imm)
  | 0x09 => some (.sltiu t r a b imm)
  | 0x0A => if b = 0 then some (.lui t r a imm) else none
  | 0x10 => some (.lb t r a b imm)
  | 0x11 => some (.lbu t r a b imm)
  | 0x12 => some (.lh t r a b imm)
  | 0x13 => some (.lhu t r a b imm)
  | 0x14 => some (.lw t r a b imm)
  | 0x15 => some (.lwu t r a b imm)
  | 0x16 => some (.ld t r a b imm)
  | 0x18 => some (.sb t r a b imm)
  | 0x19 => some (.sh t r a b imm)
  | 0x1A => some (.sw t r a b imm)
  | 0x1B => some (.sd t r a b imm)
  | 0x20 => some (.beq t r a b imm none)
  | 0x21 => some (.bne t r a b imm none)
  | 0x22 => some (.blt t r a b imm none)
  | 0x23 => some (.bge t r a b imm none)
  | 0x24 => some (.bltu t r a b imm none)
  | 0x25 => some (.bgeu t r a b imm none)
  | 0x28 => some (.jump t r off)
  | 0x29 => some (.jal t r off)
  | 0x2A => some (.jalr t r a b imm none)
  | 0x30 => decodeSystem t r func a b c
  | 0x31 => if a = 0 ∧ b = 0 then some (.trap t r imm) else none
  | _ => none

/-! ### Words of loop programs (R231, R233) -/

/-- A number as an operand of fewer values; none where it is too large. -/
def operand (n x : Nat) : Option (Fin n) := if h : x < n then some ⟨x, h⟩ else none

/-- The step that a word of a loop program stands for on a replica of a tile: OP [31:26], D [25:18], A [17:10], F [9:0];
none where the word fails the check of R231: an OP that R233 does not list, a field that its row does not use and that is
not 0, or a field outside its range. -/
def loopDecode (t : Fin 144) (r : Fin 3) (w : Word) : Option Instr :=
  let d := wordField w 18 8
  let a := wordField w 10 8
  let f := wordField w 0 10
  match wordField w 26 6 with
  | 0x00 => if d = 0 ∧ a = 0 ∧ f = 0 then some (.loopNop t r) else none
  | 0x01 => if a = 0 ∧ f = 0 then (operand 4 d).map (.loopClr t r) else none
  | 0x02 => do return .loopMac t r (← operand 4 d) (← operand 256 a) (← operand 512 f)
  | 0x03 => do return .loopMsb t r (← operand 4 d) (← operand 256 a) (← operand 512 f)
  | 0x04 => do return .loopMacn t r (← operand 4 d) (← operand 256 a) (← operand 256 f)
  | 0x05 => do return .loopAdda t r (← operand 4 d) (← operand 256 a) (← operand 32 f)
  | 0x06 => do return .loopSta t r (← operand 256 d) (← operand 4 a) (← operand 48 f)
  | 0x07 => do return .loopMul t r (← operand 256 d) (← operand 256 a) (← operand 512 f)
  | 0x08 => do return .loopAdd t r (← operand 256 d) (← operand 256 a) (← operand 256 f)
  | 0x09 => do return .loopSub t r (← operand 256 d) (← operand 256 a) (← operand 256 f)
  | 0x0A => do return .loopLim t r (← operand 256 d) (← operand 256 a) (← operand 255 f)
  | 0x0B => if f = 0 then do return .loopMov t r (← operand 256 d) (← operand 256 a) else none
  | 0x0C => if a = 0 then do return .loopLdc t r (← operand 256 d) (← operand 512 f) else none
  | 0x0D => do return .loopSel t r (← operand 256 d) (← operand 256 a) (← operand 256 f)
  | 0x0E => if f = 0 then do return .loopSincos t r (← operand 255 d) (← operand 256 a) else none
  | 0x0F => do return .loopLock t r (← operand 256 d) (← operand 255 a) (← operand 509 f)
  | 0x10 => if d = 0 then do return .loopOut t r (← operand 256 a) (← operand 8 f) else none
  | 0x11 => if d = 0 then do
      let c ← operand 256 f
      return .loopFlt t r (← operand 256 a) (BitVec.ofFin (w := 8) c) else none
  | 0x12 => if d = 0 ∧ a = 0 ∧ f = 0 then some (.loopEnd t r) else none
  | _ => none

/-- The word of a step. -/
def loopWord (op d a f : Nat) : Word := BitVec.ofNat 32 (op * 2 ^ 26 + d * 2 ^ 18 + a * 2 ^ 10 + f)

/-- The word of a loop step; none for the commands that are no step. -/
def loopEncode : Instr → Option Word
  | .loopNop _ _ => some (loopWord 0x00 0 0 0)
  | .loopClr _ _ d => some (loopWord 0x01 d 0 0)
  | .loopMac _ _ d a c => some (loopWord 0x02 d a c)
  | .loopMsb _ _ d a c => some (loopWord 0x03 d a c)
  | .loopMacn _ _ d a b => some (loopWord 0x04 d a b)
  | .loopAdda _ _ d a sh => some (loopWord 0x05 d a sh)
  | .loopSta _ _ d a sh => some (loopWord 0x06 d a sh)
  | .loopMul _ _ d a c => some (loopWord 0x07 d a c)
  | .loopAdd _ _ d a b => some (loopWord 0x08 d a b)
  | .loopSub _ _ d a b => some (loopWord 0x09 d a b)
  | .loopLim _ _ d a b => some (loopWord 0x0A d a b)
  | .loopMov _ _ d a => some (loopWord 0x0B d a 0)
  | .loopLdc _ _ d c => some (loopWord 0x0C d 0 c)
  | .loopSel _ _ d a b => some (loopWord 0x0D d a b)
  | .loopSincos _ _ d a => some (loopWord 0x0E d a 0)
  | .loopLock _ _ d a c => some (loopWord 0x0F d a c)
  | .loopOut _ _ a o => some (loopWord 0x10 0 a o)
  | .loopFlt _ _ a c => some (loopWord 0x11 0 a c.toNat)
  | .loopEnd _ _ => some (loopWord 0x12 0 0 0)
  | _ => none

/-! ### Encoder -/

/-- The word of a tack instruction; none for the commands that are no tack instruction. -/
def tackEncode : Instr → Option Word
  | .add _ _ rd ra rb => some (wordR 0x00 rd ra rb 0x000)
  | .sub _ _ rd ra rb => some (wordR 0x00 rd ra rb 0x001)
  | .and _ _ rd ra rb => some (wordR 0x00 rd ra rb 0x002)
  | .or _ _ rd ra rb => some (wordR 0x00 rd ra rb 0x003)
  | .xor _ _ rd ra rb => some (wordR 0x00 rd ra rb 0x004)
  | .shl _ _ rd ra rb => some (wordR 0x00 rd ra rb 0x005)
  | .shr _ _ rd ra rb => some (wordR 0x00 rd ra rb 0x006)
  | .sar _ _ rd ra rb => some (wordR 0x00 rd ra rb 0x007)
  | .slt _ _ rd ra rb => some (wordR 0x00 rd ra rb 0x008)
  | .sltu _ _ rd ra rb => some (wordR 0x00 rd ra rb 0x009)
  | .sadd _ _ rd ra rb => some (wordR 0x00 rd ra rb 0x00A)
  | .ssub _ _ rd ra rb => some (wordR 0x00 rd ra rb 0x00B)
  | .mul _ _ rd ra rb => some (wordR 0x00 rd ra rb 0x010)
  | .mulh _ _ rd ra rb => some (wordR 0x00 rd ra rb 0x011)
  | .mulhu _ _ rd ra rb => some (wordR 0x00 rd ra rb 0x012)
  | .div _ _ rd ra rb => some (wordR 0x00 rd ra rb 0x013)
  | .divu _ _ rd ra rb => some (wordR 0x00 rd ra rb 0x014)
  | .rem _ _ rd ra rb => some (wordR 0x00 rd ra rb 0x015)
  | .remu _ _ rd ra rb => some (wordR 0x00 rd ra rb 0x016)
  | .addi _ _ rd ra imm => some (wordI 0x01 rd ra imm.toNat)
  | .andi _ _ rd ra imm => some (wordI 0x02 rd ra imm.toNat)
  | .ori _ _ rd ra imm => some (wordI 0x03 rd ra imm.toNat)
  | .xori _ _ rd ra imm => some (wordI 0x04 rd ra imm.toNat)
  | .shli _ _ rd ra sh => some (wordI 0x05 rd ra sh.toNat)
  | .shri _ _ rd ra sh => some (wordI 0x06 rd ra sh.toNat)
  | .sari _ _ rd ra sh => some (wordI 0x07 rd ra sh.toNat)
  | .slti _ _ rd ra imm => some (wordI 0x08 rd ra imm.toNat)
  | .sltiu _ _ rd ra imm => some (wordI 0x09 rd ra imm.toNat)
  | .lui _ _ rd imm => some (wordI 0x0A rd 0 imm.toNat)
  | .lb _ _ rd ra imm => some (wordI 0x10 rd ra imm.toNat)
  | .lbu _ _ rd ra imm => some (wordI 0x11 rd ra imm.toNat)
  | .lh _ _ rd ra imm => some (wordI 0x12 rd ra imm.toNat)
  | .lhu _ _ rd ra imm => some (wordI 0x13 rd ra imm.toNat)
  | .lw _ _ rd ra imm => some (wordI 0x14 rd ra imm.toNat)
  | .lwu _ _ rd ra imm => some (wordI 0x15 rd ra imm.toNat)
  | .ld _ _ rd ra imm => some (wordI 0x16 rd ra imm.toNat)
  | .sb _ _ rs ra imm => some (wordI 0x18 rs ra imm.toNat)
  | .sh _ _ rs ra imm => some (wordI 0x19 rs ra imm.toNat)
  | .sw _ _ rs ra imm => some (wordI 0x1A rs ra imm.toNat)
  | .sd _ _ rs ra imm => some (wordI 0x1B rs ra imm.toNat)
  | .beq _ _ ra rb off _ => some (wordI 0x20 ra rb off.toNat)
  | .bne _ _ ra rb off _ => some (wordI 0x21 ra rb off.toNat)
  | .blt _ _ ra rb off _ => some (wordI 0x22 ra rb off.toNat)
  | .bge _ _ ra rb off _ => some (wordI 0x23 ra rb off.toNat)
  | .bltu _ _ ra rb off _ => some (wordI 0x24 ra rb off.toNat)
  | .bgeu _ _ ra rb off _ => some (wordI 0x25 ra rb off.toNat)
  | .jump _ _ off => some (wordJ 0x28 off)
  | .jal _ _ off => some (wordJ 0x29 off)
  | .jalr _ _ rd ra imm _ => some (wordI 0x2A rd ra imm.toNat)
  | .fence _ _ => some (wordR 0x30 0 0 0 0x000)
  | .endc _ _ => some (wordR 0x30 0 0 0 0x001)
  | .rfe _ _ => some (wordR 0x30 0 0 0 0x002)
  | .rdtime _ _ rd => some (wordR 0x30 rd 0 0 0x003)
  | .rdsr _ _ rd num => some (wordR 0x30 rd 0 num 0x004)
  | .wrsr _ _ ra num => some (wordR 0x30 0 ra num 0x005)
  | .trap _ _ imm => some (wordI 0x31 0 0 imm.toNat)
  | _ => none

/-! ### The table's words -/

/-- The command that a word spells by the bits of the table of operations: the table gives no row any bits,
so no word spells a command. DESIGN CHOICE (log 8). -/
def decodeTableWord (_nbits _w : Nat) : Option Instr := none

end Sys2Proof
end

