-- ==== Sys2Proof/Machine/State.lean ====
section
/-! DEFINITION. The state of the module: plain data, everything the manual gives it. The device registers
are one sparse register file (`Dev.regs`), and what the manual describes beside them stands in one
structure for each part of the module. Every default below is the value at reset. -/

namespace Sys2Proof.Machine

/-- Why a step stops: for no reason. Every command of the table has an effect, so no meaning ends in a fault. -/
inductive Fault where
  deriving DecidableEq, Repr

/-- Why a command is refused. -/
inductive Refusal where
  /-- Raised by the dispatch for a command with no meaning yet. Safe: nothing can be proved of it. -/
  | notModelled (mnemonic : String)
  deriving DecidableEq, Repr

/-- A field of a device register: its offset in the device space (R483), its lowest bit and its width. -/
structure Fld where
  off : Nat
  lo : Nat
  wd : Nat
  deriving DecidableEq, Repr

/-- The roles of R9, and the start sequence of R58 as the role Starting of `TWIN.STATUS.ROLE`. -/
inductive Role where
  | stopped
  | active
  | standby
  | solo
  | safetyMaint
  | starting
  deriving DecidableEq, Repr

/-- The planes of R13 as `SEV.PLANE` codes them (R421). -/
inductive Plane where
  | control
  | data
  | management
  | bridle
  deriving DecidableEq, Repr

/-- The events that the manual names (R422). The numeric codes are the event catalogue's: `Config.eventCode`. -/
inductive Ev where
  | aoFault
  | approval
  | authFail
  | bothFeedsLost
  | bridleFault
  | calInvalid
  | calWritten
  | canBusOff
  | canErrorActive
  | canErrorPassive
  | canErrorWarning
  | clusterPower
  | coldStart
  | degradedExpired
  | degradedExpiring
  | dioFault
  | dualActiveYield
  | fallbackEntered
  | fallbackLeft
  | feedDip
  | feedLost
  | flashPoolLow
  | flashWorn
  | fldFuse
  | fldLost
  | fuseRepair
  | girthDown
  | guOnPartner
  | hartNoResponse
  | histBacklog
  | histRebuilt
  | histSetFailed
  | histStopped
  | histUnmirrored
  | holdupLow
  | hrnFallbackSlot
  | hrnPartnerSlot
  | hrnPointerLost
  | hrnSwitched
  | identClash
  | keeperChanged
  | keeperCoverOpen
  | keeperRequired
  | linkFailed
  | loopFault
  | loopProgram
  | noImage
  | ownerEnrolled
  | paceMargin
  | paceSlow
  | partnerLost
  | partnerLostIneligible
  | partnerStopped
  | pendingState
  | positionChanged
  | positionCode
  | powerFail
  | protectAbsent
  | protectInvalid
  | protectMismatch
  | railHigh
  | railLow
  | railOver
  | repairExhausted
  | repairMapLost
  | replicaOdd
  | replicaRetired
  | retainInvalid
  | ringBreak
  | ringHbLost
  | ringOverload
  | ringRestored
  | rotorLost
  | rotorReacquired
  | routeLost
  | safetyAbsent
  | safetyMismatch
  | safetySetInvalid
  | safetyWritten
  | safeChannelBack
  | safeDegraded
  | safeFault
  | safeSetChanged
  | soLockout
  | stackFault
  | stateCopyFailed
  | stationDropout
  | stationDropoutHeld
  | stationReturn
  | successorExpired
  | taskStarved
  | taskWatchdog
  | tbPartnerSilent
  | tbSelfFail
  | thermalHigh
  | thermalStop
  | tileStop
  | timeDiverged
  | timeHoldover
  | timeRefBack
  | timeRestart
  | timeSkew
  | timeStepped
  | trip
  | tripReset
  | tsqOverflow
  | twinDiverged
  deriving DecidableEq, Repr

/-- The severity with which the manual names each event (R422). -/
def Ev.severity : Ev → Fin 8
  | .canErrorActive | .fallbackLeft | .histRebuilt | .ringRestored | .rotorReacquired
  | .safeChannelBack | .stationDropoutHeld | .stationReturn | .timeRefBack => 1
  | .approval | .calWritten | .fuseRepair | .hrnPartnerSlot | .hrnSwitched | .keeperChanged
  | .ownerEnrolled | .pendingState | .safetyWritten | .timeRestart | .timeStepped
  | .tripReset => 2
  | .authFail | .canErrorWarning | .coldStart | .feedDip | .hartNoResponse | .paceMargin
  | .replicaOdd | .stateCopyFailed | .timeHoldover | .tsqOverflow => 3
  | .bothFeedsLost | .calInvalid | .canBusOff | .canErrorPassive | .degradedExpiring | .dioFault
  | .fallbackEntered | .feedLost | .flashPoolLow | .girthDown | .guOnPartner | .histBacklog
  | .histSetFailed | .histStopped | .histUnmirrored | .holdupLow | .hrnFallbackSlot
  | .hrnPointerLost | .keeperCoverOpen | .keeperRequired | .linkFailed | .partnerLost
  | .partnerStopped | .positionChanged | .protectAbsent | .railHigh | .repairMapLost
  | .replicaRetired | .retainInvalid | .ringBreak | .ringHbLost | .ringOverload | .rotorLost
  | .safetyAbsent | .safeDegraded | .safeSetChanged | .stackFault | .stationDropout
  | .successorExpired | .taskWatchdog | .tbPartnerSilent | .tbSelfFail | .thermalHigh
  | .timeDiverged | .timeSkew | .twinDiverged => 4
  | .aoFault | .bridleFault | .clusterPower | .degradedExpired | .dualActiveYield | .flashWorn
  | .fldFuse | .fldLost | .identClash | .loopFault | .loopProgram | .noImage | .paceSlow
  | .partnerLostIneligible | .positionCode | .powerFail | .protectInvalid | .protectMismatch
  | .railLow | .railOver | .repairExhausted | .routeLost | .safetyMismatch | .safetySetInvalid
  | .safeFault | .soLockout | .taskStarved | .thermalStop | .tileStop => 5
  | .trip => 6

/-! ### Time base (R362 to R376) -/

/-- A transmit time-stamp (R376). -/
structure Stamp where
  frameId : BitVec 16
  port : Nat
  t : DWord
  deriving DecidableEq, Repr

/-- A valid time sample: the reference time at a counter value, and its interval in ns (R372). -/
structure TimeSample where
  ref : DWord
  count : DWord
  deriving DecidableEq, Repr

/-- The time base beside its registers. `journalT` is the last T in the flash journal (R367) and is
kept over a reset. -/
structure TimeSt where
  counter : DWord := 0
  offset : DWord := 0
  c0 : DWord := 0
  rate : Int := 0
  freq : Int := 0
  /-- The rate that takes effect at the chosen counter value (R364). -/
  rebase : Option Int := none
  /-- The valid sample that waits to be used; a second before its use replaces it (R378). -/
  sample : Option TimeSample := none
  /-- The error and counter value of the previous valid sample (R369). -/
  prev : Option (Int × DWord) := none
  /-- The error of the last sample of the qualification (R368). -/
  qual : Option Int := none
  lastValid : Option DWord := none
  /-- The counter at the last PPS edge that met the width rule (R374). -/
  ppsPrev : Option DWord := none
  /-- SET_TIME: the second given and the counter at the request (R372). -/
  setTime : Option (DWord × DWord) := none
  /-- The second and the counter of the last labelled edge under SOURCE 3. -/
  label : Option (DWord × DWord) := none
  /-- The following errors of the current millisecond and their number (R375). -/
  followSum : Int := 0
  followN : Nat := 0
  /-- A restart of the time base waits for the next cycle boundary (R375). -/
  restartAtBoundary : Bool := false
  /-- The counter at entry into HOLDOVER or DIVERGED. -/
  heldSince : Option DWord := none
  tsq : List Stamp := []
  tsqWarned : Option DWord := none
  journalT : Option DWord := none
  deriving DecidableEq, Repr

/-! ### Event recorder (R421 to R432) -/

/-- A record (R421). `code` stands for the catalogue's CODE of the event. -/
structure EvRec where
  seq : Word := 0
  code : Ev
  sev : Fin 8
  plane : Plane := .control
  src : BitVec 16 := 0
  p0 : Word := 0
  p1 : Word := 0
  p2 : Word := 0
  tFirst : DWord := 0
  tLast : DWord := 0
  rep : Word := 0
  held : Bool := false
  restored : Bool := false
  pf : Bool := false
  /-- The record, or its last merge, is in the flash journal. -/
  journalled : Bool := false
  /-- The counter at the last journal write of the record (R430). -/
  journalAt : Option DWord := none
  /-- The counter at its presentation (R424). -/
  presentedAt : DWord := 0
  deriving DecidableEq, Repr

/-- An entry of the flash event journal (R430): its entry number, its record and its CRC. -/
structure JournalEntry where
  number : Word
  record : EvRec
  crc : Nat
  deriving DecidableEq, Repr

/-- The recorder beside its registers. `journal`, `savedLost` and `savedHead` are in flash and are kept
over a reset; the ring is keyed by slot. -/
structure EvrecSt where
  presented : List EvRec := []
  ring : List (Nat × EvRec) := []
  fifo : List EvRec := []
  /-- The counter at the start of the last freeze, and at the end of the previous one (R428). -/
  frozenAt : DWord := 0
  freezeEnded : Option DWord := none
  /-- From the start of step 7 of R54 nothing is inserted (R431). -/
  closed : Bool := false
  /-- The latched words and READ_IDX of the two access paths (R427). -/
  latchMgmt : List Word := []
  latchTack : List Word := []
  idxMgmt : Nat := 0
  idxTack : Nat := 0
  journal : List JournalEntry := []
  nextEntry : Word := 0
  savedLost : List Nat := []
  savedHead : Word := 0
  deriving DecidableEq, Repr

/-! ### Historian (R433 to R441) -/

/-- The quality of a stored sample (R440). -/
inductive Quality where
  | good
  | gap
  | dropped
  | restart
  deriving DecidableEq, Repr

/-- A stored sample of a tag (R440): TYPE 0 to 4, T and VALUE. -/
structure TagSample where
  tag : Nat
  type : Nat := 0
  quality : Quality := .good
  t : DWord := 0
  value : DWord := 0
  deriving DecidableEq, Repr

/-- A running aggregate of a tag (R436): the least and greatest value so far, the exact sum, the number of
publish copies and the last value. -/
structure Agg where
  least : DWord
  greatest : DWord
  sum : Int
  count : Nat
  final : DWord
  deriving DecidableEq, Repr

/-- What the historian keeps of a tag between samples: the last stored sample, the marks for the next
one, and the running aggregates of the second, minute and hour (R436). -/
structure TagRun where
  last : Option TagSample := none
  gap : Bool := false
  dropped : Bool := false
  second : Option Agg := none
  minute : Option Agg := none
  hour : Option Agg := none
  deriving DecidableEq, Repr

/-- A stream (R441): its FA channels or the awl, the next message number, the FA samples with their T that have come through
the publish gate and are not yet sent, by channel, and how many samples of each awl node have been sent. -/
structure Stream where
  id : Nat
  session : Nat
  fa : List Nat
  awl : Bool
  next : Word := 0
  waiting : List (Nat × List (DWord × BitVec 16)) := []
  sent : List (Nat × Nat) := []
  deriving DecidableEq, Repr

/-- What a drive set holds (R433, R434, R436): whether it is FAILED, the samples of RAW, AGG_1S, AGG_1MIN
and AGG_1H, and the event records. -/
structure DriveSet where
  failed : Bool := false
  raw : List TagSample := []
  seconds : List TagSample := []
  minutes : List TagSample := []
  hours : List TagSample := []
  events : List EvRec := []
  deriving DecidableEq, Repr

/-- The historian beside its registers. What the sets hold is kept over a reset; `drives` are the mounted
drives by bay. -/
structure HistSt where
  drives : List (Nat × Drive) := []
  set0 : DriveSet := {}
  set1 : DriveSet := {}
  /-- The owner wrap key that the sets' storage keys derive from; kept over a reset. -/
  keyOf : Option Nat := none
  tags : List (Nat × TagRun) := []
  sessions : List Nat := []
  streams : List Stream := []
  /-- The last response of an export session, and the last stream message sent. -/
  response : List Byte := []
  message : List Byte := []
  /-- What has been exported: the counter and the bytes, for the last second. -/
  exported : List (DWord × Nat) := []
  deriving DecidableEq, Repr

/-! ### Management plane and trust (R446 to R466) -/

/-- A status that a request returns (R116, R458). A name that the manual gives without a number has one
of the codes 0x0200 to 0x02FF, which `Config.statusCode` leaves open. -/
inductive Status where
  | ok
  | hrn (code : Nat)
  | inProgress
  | idReused
  | busy
  | notPermitted
  | locked
  | badRequest
  | clientMismatch
  | aborted
  | pendingFull
  | unknownPending
  | approverUnknown
  | signatureBad
  | sameApprover
  | subjectMismatch
  | notEnrolled
  | presenceRequired
  | named (name : String)
  deriving DecidableEq, Repr

/-- A response (R454). -/
structure Response where
  opcode : Nat
  status : Status
  client : Word
  id : DWord
  duplicate : Bool := false
  truncated : Bool := false
  body : List Byte := []
  deriving DecidableEq, Repr

/-- An open session: the client ID and rights mask of its certificate (R452, R453), and whether it is on
X6 of a module with no owner (R448). -/
structure Session where
  id : Nat
  client : Word
  rights : Nat
  ip : Nat := 0
  unowned : Bool := false
  lastUse : DWord := 0
  deriving DecidableEq, Repr

/-- A request that runs (R455). -/
structure Running where
  opcode : Nat
  client : Word
  id : DWord
  digest : Nat
  deriving DecidableEq, Repr

/-- A completed request with its stored result (R456). -/
structure Done where
  client : Word
  id : DWord
  digest : Nat
  opcode : Nat
  status : Status
  body : Option (List Byte)
  at_ : DWord
  deriving DecidableEq, Repr

/-- The states of a pending change as `SEC.PEND.STATE` codes them (R460, R466). -/
inductive PendState where
  | proposed
  | approved
  | consumed
  | lapsed
  | withdrawn
  deriving DecidableEq, Repr

/-- A live approval: the approver's key, its index, its statement, and T at its receipt (R461). -/
structure Approval where
  keyIndex : Nat
  key : PubKey
  sig : Sig
  t : DWord
  deriving DecidableEq, Repr

/-- A pending change (R460) in the register slot `SEC.PEND` k. -/
structure Pending where
  id : Word
  kind : Nat
  subject : BitVec 384
  state : PendState := .proposed
  approvals : List Approval := []
  created : DWord := 0
  approvedAt : DWord := 0
  deriving DecidableEq, Repr

/-- A management write that waits for the cycle boundary (R486). -/
structure StagedWrite where
  offset : Nat
  value : Word
  deriving DecidableEq, Repr

/-- The management plane beside its registers. `pend` is keyed by the index of `SEC.PEND`. -/
structure MgmtSt where
  sessions : List Session := []
  running : List Running := []
  completed : List Done := []
  response : Option Response := none
  /-- What the last write to a register came to (R3). -/
  writeStatus : Status := .ok
  /-- Refused sessions by address and counter, and the addresses now refused with the time of it (R452). -/
  refusals : List (Nat × DWord) := []
  blocked : List (Nat × DWord) := []
  pend : List (Nat × Pending) := []
  staged : List StagedWrite := []
  /-- The word that the last register read returned, on the path that read it. -/
  readData : Word := 0
  /-- The latched registers of each path (R488), keyed by path and offset. -/
  latches : List (Nat × Word) := []
  deriving DecidableEq, Repr

/-- The owner's items in the root of trust (R446, R449). -/
structure Owner where
  rootKey : PubKey
  rootFp : BitVec 128
  ca : Nat
  harnessKeys : List HarnessKey
  approvers : List PubKey
  wrapKey : Nat
  deriving DecidableEq, Repr

/-- The root of trust and the firmware copies (R446, R447), all kept over a reset. -/
structure TrustSt where
  owner : Option Owner := none
  tlsKey : Option PubKey := none
  tlsCert : Option TlsCert := none
  minSecver : Word := 0
  fw : List FwCopy := [{ major := 3, minor := 2 }, { major := 3, minor := 2 }]
  fwRunning : Nat := 0
  /-- The copy that the boot ROM checks first: the last booted, or a copy written since. -/
  fwFirst : Nat := 0
  fwMin : BitVec 16 := 0
  /-- The running copy has completed its first cycle (R447). -/
  fwProven : Bool := false
  devFp : BitVec 128 := 0
  /-- The boot ROM found no acceptable copy: the microcontroller does not run (R447). -/
  noFirmware : Bool := false
  deriving DecidableEq, Repr

/-! ### Seating, keeper and power (R25 to R67) -/

/-- The debounce of a group of inputs (R41): the debounced levels and the two samples before. -/
structure Debounce where
  value : Nat := 0
  last : Nat := 0
  prev : Nat := 0
  deriving DecidableEq, Repr

/-- The pins read at the saddle and the keeper: bits 0 to 7 of `keeper` are K1.1 to K1.8 and bit 8 the
cover; bits 0 to 3 of `pins` are POS0 to POS3 and bit 4 POSP. -/
structure ConnSt where
  keeper : Debounce := {}
  pins : Debounce := {}
  /-- The code and K1.5 that a start latched (R30); none in case 1. -/
  latched : Option (Nat × Bool) := none
  /-- The module takes a twin identity (R30). -/
  identified : Bool := false
  /-- Attempts of R30 made at this start. -/
  attempts : Nat := 0
  deriving DecidableEq, Repr

/-- Where the power-fail sequence of R54 stands. -/
inductive PfStep where
  | idle
  | rideThrough
  | committed
  | saving
  | journalling
  deriving DecidableEq, Repr

/-- The start sequence of R58: which of its steps have been done since the electronics were powered or
reset was released. -/
structure StartSt where
  firmware : Bool := false
  position : Bool := false
  bridle : Bool := false
  image : Bool := false
  clusters : Nat := 0
  selfTest : Bool := false
  loaded : Bool := false
  /-- The listen window of R339 runs; identity B waits for A's commanding heartbeat. -/
  listening : Bool := false
  waitingA : Bool := false
  coldWait : Bool := false
  coldRecorded : Bool := false
  /-- What the listen window has heard: own identity, the partner's role, the highest OBEYED epoch. -/
  heardOwn : Bool := false
  heardRole : Option Role := none
  heardEpoch : Option Word := none
  deriving DecidableEq, Repr

/-- Power, reset and start. `temps` is keyed by sensor: clusters 0 to 8, the I/O die 9, the bridle 10, in
tenths of a degree. -/
structure PowerSt where
  powered : Bool := false
  inReset : Bool := false
  /-- The 100 ms of unbroken seating have begun (R25). -/
  seatingWait : Bool := true
  switchOpenA : Bool := false
  switchOpenB : Bool := false
  /-- The feed has been declared lost and has neither become good nor returned since (R47, R48, R55). -/
  lostA : Bool := false
  lostB : Bool := false
  /-- FLD_24V has been declared lost, or its fuse has opened, and neither a good supply nor a reclose has followed
  (R51, R52). -/
  fldLost : Bool := false
  /-- The role whose column of R46 the pins show. -/
  pinRole : Role := .stopped
  pf : PfStep := .idle
  /-- The steps of R54 run for a warm RESTART command (R212). -/
  pfRestart : Bool := false
  temps : List (Nat × Int) := []
  /-- Since when a sensor has read above 105 °C, and the sensors for whose excursion THERMAL_STOP has been acted on
  (R63). -/
  hot : List (Nat × DWord) := []
  stopTold : List Nat := []
  /-- A fault stopped the module (R45). -/
  faultStop : Bool := false
  start : StartSt := {}
  deriving DecidableEq, Repr

/-! ### Harness slots and staging (R89 to R116) -/

/-- An entry of the section directory (R91). -/
structure DirEntry where
  id : Nat
  version : Nat := 0
  flags : Nat := 0
  offset : Nat := 0
  length : Nat := 0
  digest : Nat := 0
  deriving DecidableEq, Repr

/-- The header of an image (R90). -/
structure ImageHeader where
  hwIssue : Nat := 0x43
  fwMajor : Nat := 3
  fwMinor : Nat := 2
  pairMode : Nat := 0
  secver : Nat := 0
  predecessor : BitVec 128 := 0
  successorWindow : Nat := 0
  stageTimeout : Nat := 0
  imageLength : Nat := 0
  signedLength : Nat := 0
  deriving DecidableEq, Repr

/-- An entry of the client table of SECURITY (R452). -/
structure ClientEntry where
  digest16 : Nat
  id : Word
  rights : Nat
  deriving DecidableEq, Repr

/-- The SECURITY section (R446, R452). -/
structure SecurityImg where
  clients : List ClientEntry := []
  revoked : List Nat := []
  approvers : List PubKey := []
  wrappedCak : Nat := 0
  deriving DecidableEq, Repr

/-- A trigger of an event task (R194). -/
inductive Trigger where
  | none
  | inputEdge (byte bit : Nat) (rising falling : Bool)
  | message (port : Nat)
  | station (n : Nat)
  | role
  | command
  deriving DecidableEq, Repr

/-- A task of a partition (R158, R189, R194). -/
structure TaskImg where
  num : Nat
  entry : Word := 0
  spLo : Word := 0
  spHi : Word := 0
  handler : Word := 0
  priv : Bool := false
  period : Nat := 1
  priority : Nat := 0
  mustRun : Bool := false
  retainTask : Bool := false
  commandTask : Bool := false
  trigger : Trigger := .none
  deriving DecidableEq, Repr

/-- A variable of a partition (R96, R110). -/
structure VarImg where
  name : Nat
  type : Nat
  addr : Nat
  len : Nat
  deriving DecidableEq, Repr

/-- Where a range of the input image comes from (R132, IOMAP). -/
inductive InSrc where
  | station (n off : Nat)
  | fa (k : Nat)
  | ao (k : Nat)
  | enc (k : Nat)
  | dio (pin bit : Nat)
  | fb
  | ft
  | si
  | hart (ch dev : Nat)
  | dioFault (bit : Nat)
  deriving DecidableEq, Repr

/-- Where a range of the output image goes (R381, IOMAP). -/
inductive OutDst where
  | station (n off : Nat)
  | ao (k : Nat)
  | trip
  | permit
  | publish (k : Nat)
  deriving DecidableEq, Repr

/-- A range of an input image. -/
structure InMap where
  src : InSrc
  off : Nat
  len : Nat
  deriving DecidableEq, Repr

/-- A range of an output image. -/
structure OutMap where
  dst : OutDst
  off : Nat
  len : Nat
  deriving DecidableEq, Repr

/-- A partition (R92, R95, R164, R167). -/
structure PartImg where
  num : Nat
  tile : Nat
  reserveKib : Nat := 0
  code : List Word := []
  init : List (Nat × Byte) := []
  vars : List VarImg := []
  tasks : List TaskImg := []
  order : List Nat := []
  inLen : Nat := 0
  outLen : Nat := 0
  /-- Send channel and the destination port it is bound to; receive port and its port number. -/
  sends : List (Nat × Nat) := []
  recvs : List (Nat × Nat) := []
  /-- Under the fall-back schedule, the receiving task of a receive port (R168). -/
  recvTasks : List (Nat × Nat) := []
  retain : Option (Nat × Nat) := none
  inputs : List InMap := []
  outputs : List OutMap := []
  /-- Initial and substitute bytes of the input and output images (INIT). -/
  inInit : List (Nat × Byte) := []
  inSubst : List (Nat × Byte) := []
  outInit : List (Nat × Byte) := []
  outSubst : List (Nat × Byte) := []
  digest : Nat := 0
  /-- The IDs of the PARAM pages that the partition reads (R97). -/
  pages : List (BitVec 16) := []
  deriving DecidableEq, Repr

/-- A published variable: the partition, its type and the range of its data area (PUBLISH). -/
structure PubVar where
  part : Nat
  type : Nat
  addr : Nat
  len : Nat
  deriving DecidableEq, Repr

/-- A historian tag (R436): the variable, the period in ms, the deadband, MAX_INTERVAL in ms, and the
mask of the tiers. -/
structure TagImg where
  var : Nat
  period : Nat := 1
  deadband : DWord := 0
  maxInterval : Nat := 0
  tiers : Nat := 0
  deriving DecidableEq, Repr

/-! ### Tiles and replicas (R125 to R185) -/

/-- A parameter page, of PARAM or of LOOPPAR: its ID, version and content of up to 4 KiB (R97). -/
structure ParamPage where
  id : BitVec 16
  version : BitVec 16
  bytes : List Byte
  deriving DecidableEq, Repr, Inhabited

/-- A store in the store buffer (R172): its address and its bytes. -/
structure BufStore where
  addr : Nat
  bytes : List Byte
  deriving DecidableEq, Repr

/-- The kind of a shared read (R127). -/
inductive ReadKind where
  | rdtime
  | lw
  | lwu
  deriving DecidableEq, Repr

/-- A shared read that a replica has issued and waits for: its kind, address and destination. -/
structure PendingRead where
  kind : ReadKind
  addr : Nat
  rd : Nat
  deriving DecidableEq, Repr

/-- A replica of a TRIAD tile (R157 to R182). -/
structure Replica where
  core : Core := {}
  retired : Nat := 0
  /-- The write-sequence index of the next effect, and the entries that have reached the voter. -/
  effects : Nat := 0
  given : Nat := 0
  pending : Option PendingRead := none
  sram : List (Nat × Byte) := []
  storeBuf : List BufStore := []
  reserve : List (Nat × Byte) := []
  ports : List (Nat × RecvPort) := []
  /-- Aborts in this cycle (R181). -/
  aborts : Nat := 0
  /-- Effects on their way to the voter, oldest first. -/
  outbox : List Effect := []
  /-- The open window: its number, its records so far and its stitch; and the stitches of closed windows
  not yet delivered, oldest first (R141, R142). -/
  window : Nat := 0
  records : Nat := 0
  stitch : DWord := 0xFFFFFFFFFFFFFFFF
  closed : List (Nat × DWord) := []
  perf : List (Nat × Word) := []
  deriving DecidableEq, Repr

/-- An event that waits to enter the replicas of a tile (R128): the agreed retired-instruction count K, and the task whose
instance it ends, or none for a release. -/
structure TileEvent where
  count : Nat
  abort : Option Nat := none
  deriving DecidableEq, Repr

/-- A TRIAD tile: its replicas, voter, stitch unit and program state. -/
structure Tile where
  repA : Replica := {}
  repB : Replica := {}
  repC : Replica := {}
  /-- Replicas halted after an odd finding, and retired (bit masks as REP_IN). -/
  halted : Nat := 0
  retired : Nat := 0
  /-- Odd findings of the last 10 s: replica and counter (R151). -/
  odd : List (Nat × DWord) := []
  /-- Voter entries present, by replica, and the index of the next effect to issue (R137). -/
  voter : List (Nat × Effect) := []
  next : Nat := 0
  /-- The last issued entries, at most 64 (R138). -/
  issued : List Effect := []
  /-- Stitches delivered and not yet compared: replica, window, stitch; and the majority stitches of the
  cycle by window. -/
  stitches : List (Nat × Nat × DWord) := []
  majority : List (Nat × DWord) := []
  /-- The next agreement round is due; what the last one agreed; and for each station the sequence number
  and bytes of the frame last used. -/
  awaitRound : Bool := false
  agreed : Contribution := {}
  frames : List (Nat × Word × List Byte) := []
  /-- Stations without new data in this cycle, and stations whose inputs hold substitute values (R201). -/
  stale : List Nat := []
  subst : List Nat := []
  /-- Stations seen dropped out at the last evaluation of triggers (R194). -/
  dropped : List Nat := []
  /-- A LOOP tile: the slot and number of its last sample. -/
  sample : Option (Nat × DWord) := none
  /-- The input image, the released output image, and the writes and message words staged by the present
  instance. -/
  input : List (Nat × Byte) := []
  output : List (Nat × Byte) := []
  staged : List Effect := []
  /-- The present instance and when it began to run; the tasks left in a free-running cycle; and under the
  fall-back schedule the released and the pre-empted instances. -/
  current : Option TaskRun := none
  /-- The cycle-end marker of the present instance has been issued. -/
  ended : Bool := false
  ranFrom : DWord := 0
  todo : List Nat := []
  waiting : List TaskRun := []
  preempted : List TaskRun := []
  event : Option TileEvent := none
  /-- The retain range and the publish variables of the cycle have been delivered (R188). -/
  delivered : Bool := true
  /-- An instance was aborted in this cycle or release. -/
  aborted : Bool := false
  /-- The live and the shadow buffers of the pages that the tile reads (R97), and the new content of its partition that
  its shadow reserve holds (R109). -/
  live : List ParamPage := []
  shadow : List ParamPage := []
  loaded : Option PartImg := none
  /-- Boundaries until the reserve frame is cleared (R181); 0 when it holds nothing. -/
  reserveLeft : Nat := 0
  deriving DecidableEq, Repr

/-! ### Loop engine, gate links, axes and awl (R224 to R263) -/

/-- The source of an input node (R227). -/
inductive LoopSrc where
  | measure (k : Nat)
  | linkStatus
  | fa (k : Nat)
  | enc (k : Nat)
  | output (slot o : Nat)
  | time
  deriving DecidableEq, Repr

/-- The destination of an output or of an axis set-point (R227, R256). -/
inductive LoopDst where
  | none
  | link
  | input (slot node : Nat)
  | port (tile port word : Nat)
  | station (n off : Nat)
  deriving DecidableEq, Repr

/-- The settings of a loop slot (R224): `trigger` 1 FRAME, 2 TIMER, 3 CHAIN; `rotorAction` as R261 codes it;
`page` the ID of its LOOPPAR page; `coefs` the coefficient table that the running sample works with (R226). -/
structure SlotImg where
  num : Nat
  tile : Nat
  trigger : Nat := 1
  glink : Option Nat := none
  period : Nat := 20000
  phase : Nat := 0
  chainFrom : Nat := 0
  length : Nat := 1
  catchEntry : Nat := 0
  holdEntry : Nat := 0
  torqueNode : Nat := 16
  rotorAction : Nat := 0
  faultTrip : Bool := false
  init : List (Nat × Word) := []
  inputs : List (Nat × LoopSrc) := []
  outputs : List (Nat × LoopDst) := []
  steps : List Word := []
  page : BitVec 16 := 0
  coefs : List (Nat × Word × Nat) := []
  deriving DecidableEq, Repr

/-- A gate link's settings (R262): HALF_PERIOD and LINK_DELAY in units of 10 ns. -/
structure GlinkImg where
  num : Nat
  halfPeriod : Nat := 2000
  linkDelay : Nat := 0
  deriving DecidableEq, Repr

/-- An axis (R253): limits, position limits in µm, and where its set-points and status go. -/
structure AxisImg where
  num : Nat
  vMax : Nat := 0
  aMax : Nat := 0
  dMax : Nat := 0
  jMax : Nat := 0
  posLo : Int := 0
  posHi : Int := 0
  posDst : LoopDst := .none
  velDst : LoopDst := .none
  status : LoopDst := .none
  deriving DecidableEq, Repr

/-- An axis group: its LOOP tile, its period in ns and its axes. -/
structure AxisGroupImg where
  num : Nat
  tile : Nat
  period : Nat := 1000000
  axes : List AxisImg := []
  deriving DecidableEq, Repr

/-- A triggered sample of a slot (R225): its number, when it was triggered, its deadline (R237), the input values latched at
the trigger by node (R227), RX_STALE, and whether its deadline has passed (R238). -/
structure LoopSample where
  number : DWord
  at_ : DWord
  deadline : DWord
  latched : List (Nat × Word) := []
  stale : Bool := false
  late : Bool := false
  deriving DecidableEq, Repr

/-- One replica's datapath of a slot (R226): the nodes and accumulators; the step it has reached and the
state the sample began in; the lock count of R249; what LOCK and FLT declared in this sample. -/
structure LoopRep where
  nodes : List (Nat × Word) := []
  acc : List (Nat × DWord) := []
  step : Nat := 0
  running : Bool := false
  mode : Nat := 0
  locked : Bool := false
  count : Nat := 0
  lost : Bool := false
  back : Bool := false
  fault : Option Nat := none
  deriving DecidableEq, Repr

/-- A loop slot beside its registers. -/
structure LoopSlot where
  repA : LoopRep := {}
  repB : LoopRep := {}
  repC : LoopRep := {}
  /-- The coefficients that the running sample began with. -/
  coefs : List (Nat × Word × Nat) := []
  waiting : List LoopSample := []
  running : Option LoopSample := none
  last : Option DWord := none
  /-- The outputs last issued, and those of the running sample. -/
  outs : List (Nat × Word) := []
  fresh : List (Nat × Word) := []
  /-- Set-points: in force, to be taken up by the next sample, and issued in this cycle (R228). -/
  set : List (Nat × Word) := []
  armed : List (Nat × Word) := []
  staged : List (Nat × Word) := []
  /-- Consecutive return frames without a valid one (R240). -/
  missRun : Nat := 0
  /-- The number of a return frame that was missing when its sample was triggered: one that arrives later is not on time. -/
  passed : Option DWord := none
  /-- COAST_REACQUIRE: 2 from the loss on, 1 from the next sample on, then CATCH (R250); `noEnable` holds
  ENABLE at 0 for the frame of that sample. -/
  coasting : Nat := 0
  noEnable : Bool := false
  /-- The ramp sample number j (R251). -/
  ramp : Nat := 0
  /-- The slot's trip request to the bridle (R241). -/
  tripRequest : Bool := false
  resetDue : Bool := false
  resetArmed : Bool := false
  /-- The fault reset between the modules of a pair (R241): as ACTIVE the sample number at which the last reset applied,
  which it forwards; as STANDBY the forwarded number, until the reset has been applied. -/
  resetSent : Option DWord := none
  resetFrom : Option DWord := none
  /-- STANDBY: the last values forwarded for the local sources, and the shadow is not valid (R236, R260). -/
  forwarded : List (Nat × Word) := []
  shadowBad : Bool := false
  /-- The loss, re-acquisition or fault of this sample has been acted on. -/
  decided : Bool := false
  deriving DecidableEq, Repr

/-- A command or shadow frame (R243). -/
structure CmdFrame where
  type : Nat
  enable : Bool
  unblock : Bool
  shadowValid : Bool
  repeated : Bool
  frame : Word
  epoch : Word
  u : Nat
  v : Nat
  w : Nat
  aux : Int
  deriving DecidableEq, Repr

/-- A gate link beside its registers: the last frame sent (none: idle symbols only), the measurements and
STATUS of the last valid return frame, and the conditions of UNBLOCK (R245). -/
structure Glink where
  sent : Option CmdFrame := none
  meas : List (BitVec 16) := []
  status : Byte := 0
  blockEnded : Bool := false
  zeroSent : Bool := false
  deriving DecidableEq, Repr

/-- The awl (R257 to R259): the first sample number of the injection, the samples injected, the generator's
state, the samples kept before the trigger and the capture buffer. -/
structure AwlSt where
  startAt : Option DWord := none
  injected : Nat := 0
  prbs : BitVec 15 := 0x7FFF
  phase : Word := 0
  pre : List (List Word) := []
  buffer : List (List Word) := []
  /-- T of each sample in the two lists above. -/
  preTimes : List DWord := []
  times : List DWord := []
  deriving DecidableEq, Repr

/-- The loop engine: slots, gate links and axis groups by number, and the awl. -/
structure LoopSt where
  slots : List (Nat × LoopSlot) := []
  links : List (Nat × Glink) := []
  groups : List (Nat × AxisGroup) := []
  awl : AwlSt := {}
  deriving DecidableEq, Repr

/-! ### The bridle and the safety functions (R264 to R316) -/

/-- A section as the bridle stores it (R264, R287): its version, its bytes, and the CRC-32 stored with it. -/
structure StoredSection where
  version : Nat := 0
  bytes : List Byte := []
  crc : Nat := 0
  deriving DecidableEq, Repr

/-- A window comparator's parameters (R265). -/
structure Comparator where
  hi : Nat := 0
  lo : Nat := 0
  hyst : Nat := 0
  hiEn : Bool := false
  loEn : Bool := false
  deriving DecidableEq, Repr

/-- A term of an equation (R265). -/
structure Term where
  src : Nat := 0
  inv : Bool := false
  en : Bool := false
  delay : Nat := 0
  deriving DecidableEq, Repr

/-- A trip equation (R265). -/
structure Equation where
  terms : List Term := []
  mask : Nat := 0
  latch : Bool := false
  resetSrc : Nat := 0
  resetEn : Bool := false
  deriving DecidableEq, Repr

/-- The PROTECT parameters that the bridle runs on (R265): comparators, enabled equations, and the masks of all
equations, by number. -/
structure ProtectImg where
  version : Nat := 0
  crc : Nat := 0
  comps : List (Nat × Comparator) := []
  eqs : List (Nat × Equation) := []
  masks : List (Nat × Nat) := []
  tb : Bool := false
  deriving DecidableEq, Repr

/-- A function entry of a parameter set (R286). -/
structure FnImg where
  type : Nat := 0
  auto : Bool := false
  discT : Nat := 1
  tpA : Nat := 0
  tpB : Nat := 0
  resetFn : Nat := 0xFF
  cat1 : Bool := false
  encMask : Nat := 0
  soMask : Nat := 0
  glMask : Nat := 0
  tMax : Nat := 10
  deriving DecidableEq, Repr

/-- An encoder's parameters (R285). -/
structure EncImg where
  countsPerMm : Nat := 1
  dEnv : Nat := 0
  vTol : Nat := 0
  vStill : Nat := 0
  startDelay : Nat := 0
  stillT : Nat := 10
  deriving DecidableEq, Repr

/-- A safety parameter set (R285): functions and output pairs (FB_EN, FB_T) by number. -/
structure SafeSet where
  fns : List (Nat × FnImg) := []
  pairs : List (Nat × Bool × Nat) := []
  encs : List (Nat × EncImg) := []
  degrHours : Nat := 8
  crossMs : Nat := 50
  crc : Nat := 0
  deriving DecidableEq, Repr

/-- A feedback-monitored output pair (R300, R301): whether it is switched on, the code of its lock-out (0:
none), and whether its feedback has yet to follow the last switching. -/
structure OutPair where
  on : Bool := false
  lock : Nat := 0
  expecting : Bool := false
  deriving DecidableEq, Repr

/-- A CAT1 stop in progress (R298): the moment of demand, the counts per 1 ms of each monitored encoder at it,
and its consecutive windows above the envelope. -/
structure StopRun where
  at_ : DWord
  v0 : List (Nat × Nat) := []
  above : List (Nat × Nat) := []
  deriving DecidableEq, Repr

/-- A safety function in the bridle (R293 to R298): RUN or SAFE, the latched fault cause (R313; 0: none),
since when both channels have been SAFE, whether that lasted 50 ms after the fault, the discrepancy counts
of its hands, TWOHAND re-actuation, and its stop. -/
structure SafeFn where
  run : Bool := false
  fault : Nat := 0
  safeSince : Option DWord := none
  proved : Bool := false
  count1 : Nat := 0
  count2 : Nat := 0
  armed : Bool := false
  firstHand : Option DWord := none
  stop : Option StopRun := none
  deriving DecidableEq, Repr

/-- A safety encoder (R299): its quadrature count, the counts of the last 1 ms window, the milliseconds
below V_STILL, and its monitoring state and fault as `MOD.SAFE_STOP` shows them (R315). -/
structure Encoder where
  count : Int := 0
  speed : Int := 0
  still : Nat := 0
  state : Nat := 0
  fault : Bool := false
  supplyOk : Bool := false
  /-- A supply fault has been seen, and nothing has shown the supply to be back. -/
  supplyBad : Bool := false
  deriving DecidableEq, Repr

/-- The bridle beside its mirror registers. Each list of bits is a number, bit n for instance n. The stored
copies, and those written that wait for the exit from SAFETY_MAINT, are kept over a reset. -/
structure BridleSt where
  protect : Option StoredSection := none
  safety : Option StoredSection := none
  /-- The valid PROTECT copy that it runs on. -/
  params : Option ProtectImg := none
  /-- The sections being written: PROTECT and SAFETY. -/
  writing : Option (Option StoredSection × Option StoredSection) := none
  /-- Start checks passed; the CAUSE of a failed one, or of a fault, and its INDEX (R277, R278). -/
  running : Bool := false
  checked : Bool := false
  startCause : Nat := 0
  startMs : Nat := 0
  fault : Nat := 0
  faultIndex : Nat := 0
  presence : Bool := false
  /-- The voltages at the comparators (in 1/16 µV), comparators HI and LO, FT inputs, trip lines and presence
  lines that other devices assert. -/
  volts : List (Nat × Int) := []
  compHi : Nat := 0
  compLo : Nat := 0
  ft : Nat := 0
  lines : Nat := 0
  presA : Bool := false
  presB : Bool := false
  /-- What the last refresh brought (R269, R283), and PROC_LOST. -/
  pt : Nat := 0
  permit : Word := 0
  loopRequests : Nat := 0
  procLost : Bool := false
  /-- Consecutive samples of each term, by equation × 4 + term; ANDs, equations true, and the reset
  sources as last sampled. -/
  terms : List (Nat × Nat) := []
  ands : Nat := 0
  true_ : Nat := 0
  resets : Nat := 0
  /-- Outputs dark, blocked or driven: TO in bits 15 to 0, GL in 27 to 16, trip lines in 31 to 28; those
  in their minimum time; the count of dark events by trip output. -/
  outputs : Nat := 0xFFFF
  held : Nat := 0
  /-- What equations and safety functions last called for, and the trip outputs and gate links whose monitors differ from the
  command. -/
  demand : Nat := 0
  lightOdd : BitVec 16 := 0
  blockOdd : BitVec 12 := 0
  darkEvents : List (Nat × Nat) := []
  trips : Nat := 0
  firstOut : Option Nat := none
  /-- The trip bus (R275, R276). -/
  poller : Bool := false
  polls : Nat := 0
  missed : Nat := 0
  missRun : Nat := 0
  /-- Consecutive missing answers while the partner's presence line is asserted; polls from both bridles in this cycle. -/
  missPresent : Nat := 0
  bothPoll : Bool := false
  silentTold : Bool := false
  partnerOk : Bool := false
  partnerAnswer : Nat := 0
  selfOk : Bool := false
  selfRun : Nat := 0
  sentAnswer : Nat := 0
  /-- Diagnostics (R277, R281). -/
  passes : Nat := 0
  dacErr : List (Nat × Int) := []
  oscPpm : Int := 0
  seq : Nat := 0
  deriving DecidableEq, Repr

/-- The safety functions beside their registers. Channels 0 to 47 are SI nA (2n) and SI nB (2n + 1), 48 to
55 are FB0 to FB7. -/
structure SafetySt where
  set : Nat := 0
  params : Option SafeSet := none
  /-- Filtered RUN by channel, and since when. -/
  chans : List (Nat × DWord) := []
  /-- Consecutive periods of a high level in the off-pulse, by channel (R291). -/
  pulse : List (Nat × Nat) := []
  fns : List (Nat × SafeFn) := []
  pairs : List (Nat × OutPair) := []
  enc : List (Nat × Encoder) := []
  lastFault : Nat × Nat := (0, 0)
  lastLock : Nat × Nat := (0, 0)
  degraded : Bool := false
  degradedAt : DWord := 0
  warned : Bool := false
  expired : Bool := false
  /-- This degraded mode has expired (R304). -/
  lapsed : Bool := false
  /-- The deceleration envelope that the profile generator passes, by axis: speed (µm/s × 2^32), d_max and j_max (R256). -/
  envelope : List (Nat × Nat × Nat × Nat) := []
  deriving DecidableEq, Repr


/-! ### The control cycle (R186 to R217) -/

/-- An error-list entry (R202), for one partition or (none) for every partition. -/
structure ErrEntry where
  part : Option Nat
  code : Nat
  task : Nat := 0
  detail : Nat := 0
  t : DWord := 0
  deriving DecidableEq, Repr

/-- An accepted plant command (R213, R214). -/
structure PlantCmd where
  source : Word
  serial : Word
  part : Nat
  code : Nat
  args : List Byte
  /-- The request that brought it (R455). -/
  id : DWord := 0
  journalled : Bool := false
  acked : Bool := false
  /-- The inbox slot in which it has been delivered, and the cycle or release number of that delivery; the matching result
  released so far. -/
  slot : Option Nat := none
  deliveredIn : DWord := 0
  result : Option (Word × List Byte) := none
  deriving DecidableEq, Repr

/-- A source of plant commands: its highest accepted serial and its last 64 accepted serials, which the
command journal keeps, and the stored results of completed commands, which it does not (R216). -/
structure CmdSource where
  client : Word
  highest : Word
  accepted : List Word
  results : List (Word × Word × List Byte) := []
  deriving DecidableEq, Repr

/-- A retain slot in flash (R208): the header's fields, the data by partition, and whether the save is complete (R57). -/
structure RetainSlot where
  save : Word
  cycle : DWord
  digest : Nat
  length : Nat
  crc : Nat
  data : List (Nat × List Byte)
  complete : Bool := true
  consumed : Bool := false
  deriving DecidableEq, Repr

/-- The cycle engine beside its registers. `slots` (the retain slots) and `sources` (without results) are
in flash and kept over a reset. -/
structure CycleSt where
  num : DWord := 0
  /-- Cycles run: a first boundary has been declared in this role. -/
  running : Bool := false
  /-- A boundary has been declared since the module entered a role in which cycles run. -/
  began : Bool := false
  startedAt : DWord := 0
  /-- The first cycle since restart has completed. -/
  completed : Bool := false
  first : Bool := false
  warmDue : Bool := false
  coldDue : Bool := false
  /-- Set at entry into ACTIVE or SOLO, for the trigger ROLE (R194). -/
  roleEntered : Bool := false
  /-- FIRST and that trigger are due with the next boundary. -/
  firstDue : Bool := false
  roleDue : Bool := false
  /-- Errors listed in this cycle or release, and those that wait for the next. -/
  listed : List ErrEntry := []
  waiting : List ErrEntry := []
  lastNs : Nat := 0
  /-- Base periods since fall-back entry; the count and the last release of R198. -/
  bases : Nat := 0
  below : Nat := 0
  lastRelease : DWord := 0
  /-- Skips of MUST_RUN tasks: partition, task, consecutive skips. -/
  skips : List (Nat × Nat × Nat) := []
  /-- Execution time of the latest completed instance: partition, task, ns (R198). -/
  times : List (Nat × Nat × Nat) := []
  /-- Retain deliveries of the cycle, and the complete copy with its cycle number (R207). -/
  delivered : List (Nat × List Byte) := []
  /-- Publish variables delivered in the cycle, by their place in PUBLISH. -/
  pubDue : List (Nat × List Byte) := []
  copy : Option (DWord × List (Nat × List Byte)) := none
  slots : List (Nat × RetainSlot) := []
  /-- The slot judged valid at this start and the cause otherwise (R209, R211). -/
  judged : Option (Nat × Nat) := none
  saving : Option Nat := none
  /-- The partner's judgement: its cycle number and data, when it judged its slot valid (R211). -/
  partnerSlot : Option (DWord × List (Nat × List Byte)) := none
  sources : List CmdSource := []
  queue : List PlantCmd := []
  /-- The commands delivered in the present cycle. -/
  inbox : List PlantCmd := []
  /-- Announced by the ACTIVE: a change of schedule and its boundary (R199). -/
  announced : Option (DWord × ScheduleChange) := none
  /-- The publish gate's two copies (R15): the one last written, whether the data plane has taken it, and the one that the
  data plane reads, which no write changes. -/
  published : List (Nat × List Byte) := []
  publishRead : Bool := true
  reading : List (Nat × List Byte) := []
  /-- The restart kind that a START or RESTART command named for the next start (R209). -/
  named : Option Bool := none
  deriving DecidableEq, Repr

/-! ### Twin operation (R317 to R341) -/




/-- The twin logic beside its registers. `epoch` is in the flash journal and is kept over a reset. -/
structure TwinSt where
  epoch : Word := 0
  /-- The module's own eligibility causes (R331); in a commanding role `TWIN.ELIG` shows the partner's. -/
  causes : Nat := 0x100
  /-- The counter at the last valid heartbeat of each path. -/
  girthAt : Option DWord := none
  ringAt : Option DWord := none
  partnerLost : Bool := false
  sendSeqGirth : Nat := 0
  sendSeqRing : Nat := 0
  /-- The last heartbeat sent on each path, as its 48 bytes (R321). -/
  sentGirth : List Byte := []
  sentRing : List Byte := []
  /-- The highest epoch received from the partner (R318). -/
  heardMax : Option Word := none
  /-- What the module with the predecessor image has sent of its state map for the next boundary (R338). -/
  mixedState : Option MixedState := none
  /-- The counter at the last girth frame with an error (R45). -/
  girthErrAt : Option DWord := none
  /-- STANDBY: records held and not yet run, the last shadow cycle, own summaries by cycle. -/
  held : List FwdRecord := []
  /-- STANDBY: the record of the shadow cycle that runs. -/
  record : Option FwdRecord := none
  shadow : Option DWord := none
  lastRecordAt : Option DWord := none
  ownSummaries : List Summary := []
  /-- STANDBY: the ACTIVE's summaries that wait for the own ones. -/
  summaries : List Summary := []
  /-- Majority sample stitches since the last summary: slot, sample, stitch. -/
  loopStitches : List (Nat × Nat × DWord) := []
  /-- STANDBY: the ACTIVE's sample stitches that its own samples have not reached. -/
  slotWait : List (Nat × Nat × DWord) := []
  /-- ACTIVE: the last forwarded record and stitch summary sent. -/
  sentRecord : List Byte := []
  sentSummary : Option Summary := none
  /-- STANDBY: a divergence that is due, by its cause as `TWIN.DIVERGE.CAUSE` codes it (R328). -/
  divergeDue : Option Nat := none
  copyStarted : DWord := 0
  /-- The counter at the begin of the mixed state, or at the last SUCCESSOR_EXPIRED. -/
  mixedAt : DWord := 0
  /-- An announced swap (cycle, HOLD): sent as ACTIVE, received as STANDBY. -/
  swap : Option (DWord × Bool) := none
  /-- Safety-capable stations: number and whether they report this module as holder. -/
  tokens : List (Nat × Bool) := []
  commandSince : DWord := 0
  tokensDone : Bool := false
  /-- The last valid partner heartbeat before a takeover, until the first own output frame is sent. -/
  gapFrom : Option DWord := none
  /-- The module yielded and stays STOPPED until START (R333). -/
  yielded : Bool := false
  /-- Announcements received as STANDBY. -/
  switchAt : Option (DWord × Word) := none
  deriving DecidableEq, Repr

/-! ### Staging (R104 to R115) -/

/-- A harness slot in NAND flash (R100): what has been written and committed, and the store sequence
number; `erase` marks an open erase intent, and `checked` that the checks of R100 have run on it uncommitted. Bytes not
listed read 0. -/
structure HrnSlot where
  bytes : List (Nat × Byte) := []
  committed : Bool := false
  writing : Bool := false
  /-- The 1 MiB blocks whose erase the present writing has begun, by their place in the slot. -/
  erased : List Nat := []
  erase : Bool := false
  checked : Bool := false
  seq : Word := 0
  deriving DecidableEq, Repr

/-- How a staged change runs (R106, R114): loaded for the next start; switched at a boundary alone, with a
standby, or in shadow; standby-first on the ACTIVE's side and on the standby's. -/
inductive StageMode where
  | load
  | alone
  | pair
  | shadow
  | first
  | follow
  deriving DecidableEq, Repr

/-- Where a module stands in a standby-first change: it has not begun its own part, writes its bridle's store,
reloads, runs the successor image, waits for K1.1, stays on its image under HOLD, or reloads its old image. -/
inductive StagePhase where
  | idle
  | writing
  | reloading
  | successor
  | waitKeeper
  | hold
  | back (result : Nat)
  deriving DecidableEq, Repr

/-- A staged change (R104 to R114). -/
structure Staged where
  slot : Nat
  mode : StageMode := .load
  phase : StagePhase := .idle
  cls : Nat
  fp : BitVec 128 := 0
  /-- The change touches PROTECT or SAFETY; SECURITY. -/
  bridle : Bool := false
  security : Bool := false
  at_ : DWord := 0
  timeout : Nat := 10
  /-- Partitions affected and those whose shadow reserve is complete. -/
  parts : List Nat := []
  ready : List Nat := []
  partnerReady : Bool := false
  /-- The cycle for which the switch has been announced; the switch has taken place and step 4 is due; the
  planned swap of step 4 of R114 has taken place. -/
  announcedFor : Option DWord := none
  switched : Bool := false
  swapped : Bool := false
  oldSlot : Nat := 0
  oldFp : BitVec 128 := 0
  deriving DecidableEq, Repr
/-! ### Self-test, repair and service memory (R467 to R482) -/

/-- A repair map copy (R473). -/
structure RepairMap where
  seq : Word := 0
  entries : List RepairEntry := []
  deriving DecidableEq, Repr

/-- A seal (R470). -/
structure Seal where
  fw : Word
  digest : Word
  findings : Nat
  t : DWord
  crc : Nat := 0
  consumed : Bool := false
  deriving DecidableEq, Repr

/-- A page lock of a field session (R480). -/
structure TagLock where
  page : Nat
  since : DWord
  deriving DecidableEq, Repr

/-- The service memory beside its registers. Everything but the test, the burn in progress, the field session
and the queue is in flash, in fuses or in the tag and is kept over a reset. `map0` and `map1` are the two copies
of the soft map, none an invalid copy; `intents` the blocks with an open erase intent; `erases` the erase count by block. -/
structure LifeSt where
  map0 : Option RepairMap := some {}
  map1 : Option RepairMap := none
  fused : List RepairEntry := []
  clearNext : Bool := false
  sealMark : Option Seal := none
  pool : Nat := 6928
  erases : List (Nat × Nat) := []
  intents : List Nat := []
  replaced : List Nat := []
  tag : List (Nat × Byte) := []
  testing : Bool := false
  testStart : DWord := 0
  /-- This start uses a seal; the reason why not as `LIFE.SEAL.REJECT` codes it. -/
  sealUsed : Bool := false
  burning : List RepairEntry := []
  /-- The field session: K1.8 as it was at its start; the page it locks. -/
  session : Option Bool := none
  lock : Option TagLock := none
  /-- Host page writes that wait, at most 8, and those that the firmware holds. -/
  queue : List (Nat × List Byte) := []
  holding : List (Nat × List Byte) := []
  deriving DecidableEq, Repr

/-! ### Local field I/O (R380 to R401) -/

/-- An AO channel's settings (R380, R389): mode and HART mode as CLO.STATUS codes them. -/
structure AoImg where
  num : Nat
  mode : Nat := 0
  hart : Nat := 0
  failHigh : Bool := false
  devices : List Nat := []
  poll : Nat := 1
  deriving DecidableEq, Repr

/-- An FA channel's settings (R380): AVG as FAI.CONFIG codes it. -/
structure FaImg where
  num : Nat
  avg : Nat := 0
  mapped : Bool := false
  deriving DecidableEq, Repr

/-- A calibration record (R394). -/
structure CalRec where
  gain : Nat := 1073741824
  offset : Int := 0
  user : Bool := false
  time : Nat := 0
  cert : List Byte := []
  good : Bool := true
  deriving DecidableEq, Repr

/-- A HART device's state on its channel: its 32-byte block as the input image shows it and as the last
responses left it, and the consecutive missed polls (R390). -/
structure HartDev where
  shown : List Byte := []
  block : List Byte := []
  missed : Nat := 0
  deriving DecidableEq, Repr

/-- A queued HART request (R391). -/
structure HartReq where
  client : Word
  id : DWord
  address : Nat
  command : List Byte
  deriving DecidableEq, Repr

/-- An AO channel beside its registers. `released`: a word has been released in this role. `busy`: the
transaction under way, its address and whether it is the request at the head of the queue (else a poll). -/
structure AoSt where
  released : Bool := false
  raw : List Int := []
  readback : Int := 0
  changedAt : Option DWord := none
  next : Nat := 0
  busy : Option (Nat × Bool) := none
  devs : List (Nat × HartDev) := []
  queue : List HartReq := []
  found : List Nat := []
  deriving DecidableEq, Repr

/-- Local I/O beside its registers. Lists of bits are numbers, bit n for pin n: the thermal latches, the
switches still hot, the outputs in current limit for more than 1 ms. `cal` are the records in flash, kept over
a reset, and `calUsed` the records that apply; 0 to 31 FA, 32 to 47 AO drive, 48 to 63 AO readback. A record
not listed is the factory record with GAIN 2^30 and OFFSET 0. -/
structure IoSt where
  latched : Nat := 0
  hot : Nat := 0
  /-- FLD_24V is good again and the outputs wait for the next cycle boundary (R51). -/
  fldWait : Bool := false
  /-- The counter at the last change of a pin's raw level (R382). -/
  rawAt : List (Nat × DWord) := []
  limit : Nat := 0
  ao : List (Nat × AoSt) := []
  fa : List (Nat × List Int) := []
  cal : List (Nat × CalRec) := []
  calUsed : List (Nat × CalRec) := []
  points : List (Nat × Int × Int) := []
  pendingCal : List (Nat × CalRec) := []
  pendingSince : DWord := 0
  deriving DecidableEq, Repr

/-! ### CAN FD ports (R402 to R420) -/

/-- A port's settings (R402): the image's words of CONFIG, NBT, DBT and TDC, and its filter pairs (match, mask,
action). -/
structure CanImg where
  port : Nat
  config : Word := 0
  nbt : Word := 0
  dbt : Word := 0
  tdc : Word := 0
  filters : List (Word × Word × Nat) := []
  deriving DecidableEq, Repr

/-- A transmit buffer (R408): its header, identifier and data words, its state as TX_STATUS codes it, whether
its start-of-frame has been sent, whether a refused cancel waits, T at the request, and for SENT the bus frame
number. -/
structure CanBuf where
  hdr : Word := 0
  id : Word := 0
  data : List (Nat × Word) := []
  state : Nat := 0
  onBus : Bool := false
  cancel : Bool := false
  reqT : DWord := 0
  num : Word := 0
  deriving DecidableEq, Repr

/-- A receive entry (R413). -/
structure CanEntry where
  num : Word
  words : List Word
  deriving DecidableEq, Repr

/-- A port beside its registers: three buffers, two queues, the error counters, filter hits, and the frames of
the last 100 ms with their time on the bus in ns. -/
structure CanPort where
  bufs : List (Nat × CanBuf) := []
  q0 : List CanEntry := []
  q1 : List CanEntry := []
  tec : Nat := 0
  rec_ : Nat := 0
  hits : List (Nat × Nat) := []
  busy : List (DWord × Nat) := []
  deriving DecidableEq, Repr

/-! ### Field rings (R342 to R361) -/

/-- An entry of the station table (R357): KIND 1 STANDARD, 2 SAFETY, 3 PEER. -/
structure StationImg where
  number : Nat := 0
  kind : Nat := 1
  group : Nat := 0
  peerPair : Nat := 0
  outLen : Nat := 0
  inLen : Nat := 0
  dropN : Nat := 3
  safeOut : Nat := 0
  safeIn : Nat := 0
  pos : Nat := 0
  holdMs : Nat := 100
  deriving DecidableEq, Repr

/-- The STATIONS section (R357): `groups` by number, true for SUBSTITUTE. -/
structure StationTable where
  fedPairs : Nat := 0
  posA : Nat := 0
  posB : Nat := 0
  nodes : Nat := 0
  share : Nat := 0
  twinReserve : Nat := 0
  groups : List Bool := []
  entries : List StationImg := []
  deriving DecidableEq, Repr

/-- A station as the I/O die knows it (R349, R351): the last accepted SEQ, the newest four frames with their
SEQ (R130), consecutive periods without an accepted frame, dropped out, a frame accepted in this period, its
last safety inputs, and its TOKEN and OBEYED fields. -/
structure StationSt where
  last : Option Word := none
  /-- The frame store, newest first, and the frames that wait in the I/O die while a round runs (R130). -/
  frames : List (Word × List Byte) := []
  held : List (Word × List Byte) := []
  missed : Nat := 0
  dropped : Bool := false
  fresh : Bool := false
  safeIn : List Byte := []
  token : Byte := 0
  epoch : Word := 0
  obeyed : Byte := 0x80
  /-- Highest rank of a publishing pair (epoch and side) that a PEER entry has seen. -/
  rank : Option (Word × Bool) := none
  deriving DecidableEq, Repr

/-- A ring beside its registers: periods in a row without a returned own frame and with one; whether one has
returned in this period; the stations heard in this period; its frame bytes in
this period; and the frame last forwarded. -/
structure RingPort where
  silent : Nat := 0
  back : Nat := 0
  returned : Bool := false
  broken : Bool := false
  /-- A frame has been received on this ring in this period. -/
  received : Bool := false
  heard : List Nat := []
  /-- Own SYNC frames and heartbeats on their way: TYPE, number and the counter when each left. -/
  sentAt : List (Nat × Nat × DWord) := []
  bytes : Nat := 0
  forwarded : Option RingFrame := none
  /-- The counter at the last frame with an error (R45). -/
  errAt : Option DWord := none
  deriving DecidableEq, Repr

/-- A fragment of a TWIN frame (R353): kind, cycle, index, LAST and content. -/
structure TwinFragment where
  kind : Nat
  cycle : DWord
  index : Nat
  last : Bool
  content : List Byte
  deriving DecidableEq, Repr

/-- The rings: both ports, stations by number, what was sent in the last period, output bytes by station that
loop slots and axes deliver, the fragments received, the cycle last assembled of each kind, and the payloads of TWIN
frames that wait to be sent. -/
structure RingSt where
  a : RingPort := {}
  b : RingPort := {}
  stations : List (Nat × StationSt) := []
  sent : List RingFrame := []
  loopOut : List (Nat × List (Nat × Byte)) := []
  fragments : List TwinFragment := []
  twinDone : List (Nat × DWord) := []
  twinOut : List (List Byte) := []
  /-- A station has reported an OBEYED epoch. -/
  epochSeen : Bool := false
  /-- The counter at the last valid frame on either port. -/
  validAt : Option DWord := none
  deriving DecidableEq, Repr

/-! ### The self-timed fabric (R68 to R88) -/

/-- A flit within the fabric: its source tile (144 + n: the I/O port of cluster n), the last-flit bit, and on a detour
sub-channel the outputs that it has still to take and the port it then counts as received on. -/
structure FabHop where
  flit : FabFlit
  src : Nat
  last : Bool
  via : List Nat := []
  home : Option Nat := none
  deriving DecidableEq, Repr

/-- The flits of a virtual channel that wait in a router, oldest first; the output that the packet at their head has taken
(wormhole switching, R74); and at an input from outside the payload flits of the packet that are still to come. -/
structure FabQueue where
  flits : List FabHop := []
  out : Option Nat := none
  left : Nat := 0
  deriving DecidableEq, Repr

/-- An output of a router: the 4-entry replay buffer with each flit's sequence number and rejections, oldest first (R78),
the next sequence number, the transfers that CTRL has won against BULK (R75), and by channel (0 CTRL, 1 BULK, + 2 on the
detour sub-channel) the input whose packet is passing. -/
structure FabOut where
  replay : List (Nat × FabHop × Nat) := []
  next : Nat := 0
  turn : Nat := 0
  owners : List (Nat × Nat) := []
  deriving DecidableEq, Repr

/-- The fabric beside its registers: waiting flits (tile × 64 + input × 4 + channel), outputs (tile × 8 + output), the
expected sequence number of each receiving port (tile × 8 + port), the flit last rejected at an input from outside with
its rejections; the packet that an interface is receiving and the last one it has received (tile × 4, + 2 for the I/O
port, + 1 for BULK); the windows above 1,600 ps in a row of each monitor (cluster × 32 + monitor), the clusters whose
PACE_SLOW stands recorded, the counter at the last PACE_MARGIN warning of each cluster; and the retransmissions of the
last 1 ms on each link (tile × 2, + 1 for its north link; 512 + n for cluster n's I/O port). -/
structure FabSt where
  queues : List (Nat × FabQueue) := []
  outs : List (Nat × FabOut) := []
  expect : List (Nat × Nat) := []
  rejects : List (Nat × Nat × Nat) := []
  rx : List (Nat × List FabHop) := []
  got : List (Nat × List FabHop) := []
  slow : List (Nat × Nat) := []
  slowTold : List Nat := []
  marginAt : List (Nat × DWord) := []
  again : List (Nat × List DWord) := []
  deriving DecidableEq, Repr


/-- The decoded running image: what the module takes from each section of R92. `spares` names the preferred
spare of each cluster; `dioOut` gives a pin, the partition and the bit of its output image. -/
structure Image where
  header : ImageHeader := {}
  dir : List DirEntry := []
  fp : BitVec 128 := 0
  parts : List PartImg := []
  roles : List (Nat × Nat) := []
  limitUs : Nat := 0
  minUs : Nat := 0
  returnEn : Bool := false
  warmRestart : Bool := false
  retainDigest : Nat := 0
  security : SecurityImg := {}
  publish : List PubVar := []
  tags : List TagImg := []
  slots : List SlotImg := []
  glinks : List GlinkImg := []
  axes : List AxisGroupImg := []
  params : List ParamPage := []
  loopPages : List ParamPage := []
  spares : List (Nat × Nat) := []
  stations : StationTable := {}
  dioDir : Nat := 0
  dioFilter : List (Nat × Nat) := []
  dioOut : List (Nat × Nat × Nat) := []
  ao : List AoImg := []
  fa : List FaImg := []
  cans : List CanImg := []
  deriving DecidableEq, Repr, Inhabited

/-- Harness slots and staging. `slots`, `bootPtr`, `bootEpoch`, `lastSeq` and `stagedMark` (a change was
staged when power failed, or its boot pointer was not yet stored) are in flash and kept over a reset. -/
structure HrnSt where
  slots : List (Nat × HrnSlot) := []
  bootPtr : Nat := 0
  bootEpoch : Word := 0
  /-- The switch epoch of the running image. -/
  epoch : Word := 0
  lastSeq : Word := 0
  stagedMark : Bool := false
  pointerLost : Bool := false
  image : Option Image := none
  slot : Nat := 0
  staged : Option Staged := none
  deriving DecidableEq, Repr

/-! ### The module -/

/-- The module: its device registers and the parts beside them. `free` counts the values the manual
leaves open that have been taken (the model's own field). -/
structure Dev where
  regs : List (Nat × Word) := []
  role : Role := .stopped
  conn : ConnSt := {}
  power : PowerSt := {}
  time : TimeSt := {}
  evrec : EvrecSt := {}
  hist : HistSt := {}
  mgmt : MgmtSt := {}
  trust : TrustSt := {}
  hrn : HrnSt := {}
  tiles : List (Nat × Tile) := []
  cycle : CycleSt := {}
  loop : LoopSt := {}
  bridle : BridleSt := {}
  safety : SafetySt := {}
  twin : TwinSt := {}
  life : LifeSt := {}
  io : IoSt := {}
  can : List (Nat × CanPort) := []
  ring : RingSt := {}
  fab : FabSt := {}
  free : Nat := 0
  deriving DecidableEq, Repr

/-- The state of the block: the module, and the commands that wait, first in first out. -/
structure State where
  dev : Dev := {}
  pending : List Instr := []
  deriving DecidableEq, Repr

/-- The module right after reset, seated, with its electronics not yet powered. -/
def Dev.reset : Dev := {}

/-- The state right after reset: the queue is empty. -/
def State.reset : State := { dev := Dev.reset, pending := [] }

end Sys2Proof.Machine
end

