-- ==== Sys2Proof/Config.lean ====
section
/-! DEFINITION. What an implementation fixes and the values the manual leaves open. None of these
constants has a body: nothing can be proved of the value it takes. -/

namespace Sys2Proof.Config

open Sys2Proof.Machine

/-- The CODE of each event, which the event catalogue of a firmware major version fixes (R422).
DEDUCED (log 9). -/
opaque eventCode : Ev → BitVec 16

/-- A parameter P0 to P2 of an event that the manual does not state: by event, index and free value (R422). -/
opaque eventParam : Ev → Nat → Nat → Word

/-- The meaning of a parameter P0 to P2 as the catalogue words it in UTF-8 (R422). -/
opaque eventMeaning : Ev → Nat → List Byte

/-- The estimate of `HIST.REBUILD.ETA_H` at the begin of a rebuild, by free value. DESIGN CHOICE (log 160). -/
opaque rebuildHours : Nat → Nat

/-- The list that STATUS_CATALOGUE returns (R458). -/
opaque statusCatalogue : List Byte

/-- The code of a status name without a number, from 0x0200 to 0x02FF (R458). -/
opaque statusCode : String → Nat

/-- The TLS key that the root of trust generates at an enrolment, by free value (R449). -/
opaque tlsKey : Nat → PubKey

/-- The body of a certificate signing request for the TLS key (R449), and of an attestation report's
signature and certificate chain (R465). DESIGN CHOICE (log 116). -/
opaque csrBody : PubKey → List Byte
opaque attestProof : List Byte → List Byte

/-- Whether an owner wrap key unwraps with the device identity key (R449). -/
opaque wrapKeyUnwraps : Nat → Bool

/-- Whether the connectivity key of SECURITY unwraps under the owner wrap key (R446). DEDUCED (log 95). -/
opaque cakUnwraps : Nat → Nat → Bool

/-- The links that a LINK_TEST written to the register finds failing, by cluster and free value (R87). -/
opaque linkTestFound : Nat → Nat → Word

/-- What the sections whose layout the manual does not give hold, from the image's bytes (R92).
DEDUCED (log 35). -/
opaque sections : List Byte → Image

/-- Whether such a section, by its ID, holds a value that its format does not list (R93). -/
opaque sectionMalformed : Nat → List Byte → Bool

/-- VALUE of a declared variable from its type code and its bytes, and whether the type is a floating-point
one: the manual names no type codes (R440). DESIGN CHOICE (log 112). -/
opaque varValue : Nat → List Byte → DWord
opaque varIsFloat : Nat → Bool

/-- Whether a floating-point sample that is not finite differs from another by more than the deadband, and
the mean of an aggregate where the exact mean is not a VALUE: the exact sum and the number (R436). -/
opaque nonFiniteDiffers : DWord → DWord → DWord → Bool
opaque meanRounded : Bool → Int → Nat → DWord

/-- The state that a comparator signal takes within 20 mV of a switching point, by comparator, signal (HI) and
free value (R267). DESIGN CHOICE (log 74). -/
opaque comparatorBand : Nat → Bool → Nat → Bool

/-- An encoder's supply has come back into its range (R315). DESIGN CHOICE (log 158). -/
opaque encoderSupplyBack : Nat → Bool

/-- Symbol lock of a gate link whose return frame did not arrive (R262). DESIGN CHOICE (log 152). -/
opaque glinkLocked : Nat → Bool

/-- Which of several flits that wait for one output on one virtual channel goes first (R75). -/
opaque fabPick : Nat → Nat

/-- The segments in axis periods of a move or a stop with a limit of 0, by free value; the trajectory of a move begun in
motion, by free value, axis and period (position, velocity and acceleration × 2^32), and its length; and the speed override
of a word outside 1 to 100 (R254 to R256). DESIGN CHOICE (log 71). -/
opaque axisSegments : Nat → List Nat
opaque axisBlend : Nat → Nat → Nat → Int × Int × Int
opaque axisBlendLength : Nat → Nat
opaque axisOverride : Nat → Nat

/-- The low 32 bits of the repair-map digest (R470). DEDUCED (log 121). -/
opaque repairDigest : List RepairEntry → Word

/-- GAIN and OFFSET that map two points exactly (R396), from the path and the points. DESIGN CHOICE (log 102). -/
opaque calFit : Nat → Int × Int → Int × Int → Nat × Int

/-- The 64 records of a calibration file as bytes, and back (R395). -/
opaque calBytes : List (Nat × CalRec) → List Byte
opaque calRecords : List Byte → List (Nat × CalRec)

/-- REC after a good frame received with REC above 127, below 9 over 119 (R417, ISO 11898-1), and whether the
isolated transceiver supply of a port is good (R420). -/
opaque canRec : Nat → Nat
opaque canXcvrOk : Nat → Nat → Bool

/-- Whether a measured delay above 127 mtq counts as a bit error of kind BIT1, else BIT0 (R404).
DESIGN CHOICE (log 106). -/
opaque canDelayBit : Nat → Bool

/-- The safety output states that a SAFETY frame carries to a station, by station and free value: the manual
gives no source for them (R350). DESIGN CHOICE (log 94). -/
opaque safetyOutputs : Nat → Nat → List Byte

/-- A stitch summary's content on the rings' twin channel (R353), and back: the manual gives no layout.
DESIGN CHOICE (log 89). -/
opaque summaryBytes : Summary → List Byte
opaque summaryOf : DWord → List Byte → Summary

end Sys2Proof.Config
end

