-- ==== Sys2Proof/Machine/RegFields.lean ====
section
/-! DEFINITION. The fields of the device registers, one descriptor per field of the register maps
(R43, R44, R67, R87, R88, R117 to R124, R155, R156, R176, R177, R218 to R223, R261 to R263, R281,
R311 to R316, R341, R361, R379, R399 to R401, R420, R443, R444, R466, R482, R489), at the block
offsets of R483. A name is BLOCK_REGISTER_FIELD (MOD is left out; a register that is one 32-bit field
is named without its field); `n` is the block's instance, `k` the register's own index, `e` an encoder
and `b` a transmit buffer. -/

namespace Sys2Proof.Machine.R

open Sys2Proof.Machine

def KEEPER_SW : Fld := ⟨0x80, 0, 8⟩
def KEEPER_COVER_OPEN : Fld := ⟨0x80, 8, 1⟩
def KEEPER_COVER_OPENED : Fld := ⟨0x80, 9, 1⟩
def KEEPER_SAFE_SET : Fld := ⟨0x80, 10, 3⟩
def KEEPER_ID_LATCHED : Fld := ⟨0x80, 13, 1⟩
def KEEPER_ID_CHANGED : Fld := ⟨0x80, 14, 1⟩
def SADDLE_PAIR : Fld := ⟨0x84, 0, 3⟩
def SADDLE_SIDE : Fld := ⟨0x84, 3, 1⟩
def SADDLE_PARITY_OK : Fld := ⟨0x84, 4, 1⟩
def SADDLE_CODE_VALID : Fld := ⟨0x84, 5, 1⟩
def SADDLE_ID_MISMATCH : Fld := ⟨0x84, 6, 1⟩
def SADDLE_SEATED : Fld := ⟨0x84, 7, 1⟩
def SADDLE_CODE_CHANGED : Fld := ⟨0x84, 8, 1⟩
def SADDLE_PRESENT_OWN : Fld := ⟨0x84, 9, 1⟩
def SADDLE_PRESENT_PARTNER : Fld := ⟨0x84, 10, 1⟩
def POWER_PWR_A_GOOD : Fld := ⟨0x88, 0, 1⟩
def POWER_PWR_B_GOOD : Fld := ⟨0x88, 1, 1⟩
def POWER_PWR_A_LOST : Fld := ⟨0x88, 2, 1⟩
def POWER_PWR_B_LOST : Fld := ⟨0x88, 3, 1⟩
def POWER_FLD_GOOD : Fld := ⟨0x88, 4, 1⟩
def POWER_FLD_LOW : Fld := ⟨0x88, 5, 1⟩
def POWER_FLD_TRIPPED : Fld := ⟨0x88, 6, 1⟩
def POWER_FLD_RECLOSE : Fld := ⟨0x88, 7, 1⟩
def POWER_HOLDUP_READY : Fld := ⟨0x88, 8, 1⟩
def POWER_RIDE_THROUGH : Fld := ⟨0x88, 9, 1⟩
def POWER_LAST_PF_SAVED : Fld := ⟨0x88, 10, 1⟩
def POWER_LAST_PF_INCOMPLETE : Fld := ⟨0x88, 11, 1⟩
def POWER_HOLDUP_CAP : Fld := ⟨0x88, 16, 8⟩
def POWER_THERMAL_HIGH : Fld := ⟨0x88, 24, 1⟩
def POWER_THERMAL_STOP : Fld := ⟨0x88, 25, 1⟩
def FAB_STATUS_POWERED (n : Nat) : Fld := ⟨0x10000 + n * 0x400, 0, 1⟩
def FAB_STATUS_RAIL_OK (n : Nat) : Fld := ⟨0x10000 + n * 0x400, 1, 1⟩
def FAB_STATUS_STARTED (n : Nat) : Fld := ⟨0x10000 + n * 0x400, 2, 1⟩
def FAB_STATUS_PACE_MARGIN (n : Nat) : Fld := ⟨0x10000 + n * 0x400, 3, 1⟩
def FAB_STATUS_PACE_SLOW (n : Nat) : Fld := ⟨0x10000 + n * 0x400, 4, 1⟩
def FAB_STATUS_RAIL_LOW (n : Nat) : Fld := ⟨0x10000 + n * 0x400, 5, 1⟩
def FAB_STATUS_RAIL_HIGH (n : Nat) : Fld := ⟨0x10000 + n * 0x400, 6, 1⟩
def FAB_STATUS_ROUTE_LOST (n : Nat) : Fld := ⟨0x10000 + n * 0x400, 7, 1⟩
def FAB_STATUS_SPARE_IN_USE (n : Nat) : Fld := ⟨0x10000 + n * 0x400, 8, 1⟩
def FAB_STATUS_IOPORT_ALT (n : Nat) : Fld := ⟨0x10000 + n * 0x400, 9, 1⟩
def FAB_STATUS_SPANS_DIES (n : Nat) : Fld := ⟨0x10000 + n * 0x400, 10, 1⟩
def FAB_STATUS_RAIL_OVER (n : Nat) : Fld := ⟨0x10000 + n * 0x400, 11, 1⟩
def FAB_RAIL_RAIL_MV (n : Nat) : Fld := ⟨0x10004 + n * 0x400, 0, 16⟩
def FAB_RAIL_RAIL_MIN_MV (n : Nat) : Fld := ⟨0x10004 + n * 0x400, 16, 16⟩
def FAB_TEMP_TJ (n : Nat) : Fld := ⟨0x10008 + n * 0x400, 0, 16⟩
def FAB_TEMP_TJ_MAX (n : Nat) : Fld := ⟨0x10008 + n * 0x400, 16, 16⟩
def FAB_PACE_PERIOD (n : Nat) : Fld := ⟨0x1000C + n * 0x400, 0, 16⟩
def FAB_PACE_SLOWEST (n : Nat) : Fld := ⟨0x1000C + n * 0x400, 16, 8⟩
def FAB_PACE_MAX_PERIOD_MAX (n : Nat) : Fld := ⟨0x10010 + n * 0x400, 0, 16⟩
def FAB_PACE_MAX_SLOWEST_MAX (n : Nat) : Fld := ⟨0x10010 + n * 0x400, 16, 8⟩
def FAB_LINK_FAIL (n : Nat) : Fld := ⟨0x10014 + n * 0x400, 0, 32⟩
def FAB_LINK_DEGR (n : Nat) : Fld := ⟨0x10018 + n * 0x400, 0, 32⟩
def FAB_RETRY (n : Nat) : Fld := ⟨0x1001C + n * 0x400, 0, 32⟩
def FAB_IOPORT_PRIMARY (n : Nat) : Fld := ⟨0x10020 + n * 0x400, 0, 8⟩
def FAB_IOPORT_ALTERNATE (n : Nat) : Fld := ⟨0x10020 + n * 0x400, 8, 8⟩
def FAB_IOPORT_ON_ALT (n : Nat) : Fld := ⟨0x10020 + n * 0x400, 16, 1⟩
def FAB_SPARE_SPARE_TILE (n : Nat) : Fld := ⟨0x10024 + n * 0x400, 0, 8⟩
def FAB_SPARE_CARRIES (n : Nat) : Fld := ⟨0x10024 + n * 0x400, 8, 8⟩
def FAB_SPARE_FUSED (n : Nat) : Fld := ⟨0x10024 + n * 0x400, 16, 1⟩
def FAB_THRESH_MARGIN_PS (n : Nat) : Fld := ⟨0x10028 + n * 0x400, 0, 16⟩
def FAB_CMD_CLEAR_MAX (n : Nat) : Fld := ⟨0x1002C + n * 0x400, 0, 1⟩
def FAB_CMD_CLEAR_COUNTS (n : Nat) : Fld := ⟨0x1002C + n * 0x400, 1, 1⟩
def FAB_CMD_LINK_TEST (n : Nat) : Fld := ⟨0x1002C + n * 0x400, 2, 1⟩
def TILE_STATUS_ROLE (n : Nat) : Fld := ⟨0x100000 + n * 0x100, 0, 2⟩
def TILE_STATUS_REP_IN (n : Nat) : Fld := ⟨0x100000 + n * 0x100, 2, 3⟩
def TILE_STATUS_DUPLEX (n : Nat) : Fld := ⟨0x100000 + n * 0x100, 5, 1⟩
def TILE_STATUS_REINTEGRATING (n : Nat) : Fld := ⟨0x100000 + n * 0x100, 6, 1⟩
def TILE_STATUS_STOPPED (n : Nat) : Fld := ⟨0x100000 + n * 0x100, 7, 1⟩
def TILE_STATUS_POWERED (n : Nat) : Fld := ⟨0x100000 + n * 0x100, 8, 1⟩
def TILE_STATUS_SUBSTITUTE (n : Nat) : Fld := ⟨0x100000 + n * 0x100, 9, 1⟩
def TILE_POS_X (n : Nat) : Fld := ⟨0x100004 + n * 0x100, 0, 4⟩
def TILE_POS_Y (n : Nat) : Fld := ⟨0x100004 + n * 0x100, 4, 4⟩
def TILE_POS_CLUSTER (n : Nat) : Fld := ⟨0x100004 + n * 0x100, 8, 4⟩
def TILE_POS_DIE (n : Nat) : Fld := ⟨0x100004 + n * 0x100, 12, 1⟩
def TILE_POS_LOCAL (n : Nat) : Fld := ⟨0x100004 + n * 0x100, 16, 4⟩
def TILE_POS_LOGICAL (n : Nat) : Fld := ⟨0x100004 + n * 0x100, 20, 8⟩
def TILE_PACE_PERIOD (n : Nat) : Fld := ⟨0x100008 + n * 0x100, 0, 16⟩
def TILE_PACE_PERIOD_MAX (n : Nat) : Fld := ⟨0x100008 + n * 0x100, 16, 16⟩
def TILE_FAULT_STITCH_MISMATCH (n : Nat) : Fld := ⟨0x10000C + n * 0x100, 0, 1⟩
def TILE_FAULT_VOTER_TIMEOUT (n : Nat) : Fld := ⟨0x10000C + n * 0x100, 1, 1⟩
def TILE_FAULT_REPLICA_RETIRED (n : Nat) : Fld := ⟨0x10000C + n * 0x100, 2, 1⟩
def TILE_FAULT_DUPLEX_STOP (n : Nat) : Fld := ⟨0x10000C + n * 0x100, 3, 1⟩
def TILE_FAULT_PORT_FAULT (n : Nat) : Fld := ⟨0x10000C + n * 0x100, 4, 1⟩
def TILE_FAULT_PACE_SLOW (n : Nat) : Fld := ⟨0x10000C + n * 0x100, 5, 1⟩
def TILE_FAULT_SRAM_UNCORR (n : Nat) : Fld := ⟨0x10000C + n * 0x100, 6, 1⟩
def TILE_FAULT_LAST_ODD (n : Nat) : Fld := ⟨0x10000C + n * 0x100, 8, 3⟩
def TILE_MISCNT_MIS_A (n : Nat) : Fld := ⟨0x100010 + n * 0x100, 0, 8⟩
def TILE_MISCNT_MIS_B (n : Nat) : Fld := ⟨0x100010 + n * 0x100, 8, 8⟩
def TILE_MISCNT_MIS_C (n : Nat) : Fld := ⟨0x100010 + n * 0x100, 16, 8⟩
def TILE_ECC_CORR_A (n : Nat) : Fld := ⟨0x100014 + n * 0x100, 0, 10⟩
def TILE_ECC_CORR_B (n : Nat) : Fld := ⟨0x100014 + n * 0x100, 10, 10⟩
def TILE_ECC_CORR_C (n : Nat) : Fld := ⟨0x100014 + n * 0x100, 20, 10⟩
def TILE_PORTS_N (n : Nat) : Fld := ⟨0x100018 + n * 0x100, 0, 2⟩
def TILE_PORTS_E (n : Nat) : Fld := ⟨0x100018 + n * 0x100, 2, 2⟩
def TILE_PORTS_S (n : Nat) : Fld := ⟨0x100018 + n * 0x100, 4, 2⟩
def TILE_PORTS_W (n : Nat) : Fld := ⟨0x100018 + n * 0x100, 6, 2⟩
def TILE_PORTS_INJ_EJ (n : Nat) : Fld := ⟨0x100018 + n * 0x100, 8, 2⟩
def TILE_RETRY (n : Nat) : Fld := ⟨0x10001C + n * 0x100, 0, 32⟩
def IDENT_PRODUCT : Fld := ⟨0x0, 0, 16⟩
def IDENT_HW_ISSUE : Fld := ⟨0x0, 16, 8⟩
def FW_VERSION_MINOR : Fld := ⟨0x4, 0, 8⟩
def FW_VERSION_MAJOR : Fld := ⟨0x4, 8, 8⟩
def FW_VERSION_BUILD : Fld := ⟨0x4, 16, 16⟩
def SERIAL : Fld := ⟨0x8, 0, 32⟩
def HRN_SLOT_STATE (k : Nat) : Fld := ⟨0x40 + k * 0x4, 0, 2⟩
def HRN_SLOT_RUNNING (k : Nat) : Fld := ⟨0x40 + k * 0x4, 2, 1⟩
def HRN_SLOT_BOOT_PTR (k : Nat) : Fld := ⟨0x40 + k * 0x4, 3, 1⟩
def HRN_SLOT_STAGED (k : Nat) : Fld := ⟨0x40 + k * 0x4, 4, 1⟩
def HRN_SLOT_CAUSE (k : Nat) : Fld := ⟨0x40 + k * 0x4, 8, 4⟩
def HRN_SLOT_SEQ (k : Nat) : Fld := ⟨0x40 + k * 0x4, 16, 16⟩
def HRN_BOOT_RUNNING_SLOT : Fld := ⟨0x50, 0, 2⟩
def HRN_BOOT_POINTER_SLOT : Fld := ⟨0x50, 2, 2⟩
def HRN_BOOT_NONE : Fld := ⟨0x50, 4, 1⟩
def HRN_BOOT_FALLBACK : Fld := ⟨0x50, 5, 1⟩
def HRN_BOOT_PARTNER_SLOT : Fld := ⟨0x50, 6, 1⟩
def HRN_FP (k : Nat) : Fld := ⟨0x54 + k * 0x4, 0, 32⟩
def HRN_STAGE_STATE : Fld := ⟨0x64, 0, 4⟩
def HRN_STAGE_CLASS : Fld := ⟨0x64, 4, 2⟩
def HRN_STAGE_SLOT : Fld := ⟨0x64, 6, 2⟩
def HRN_STAGE_RESULT : Fld := ⟨0x64, 8, 8⟩
def HRN_STAGE_NOT_READY : Fld := ⟨0x64, 16, 8⟩
def HRN_STAGE_POSTPONED : Fld := ⟨0x64, 24, 8⟩
def HRN_EPOCH : Fld := ⟨0x68, 0, 32⟩
def TRIAD_DUPLEX_TILES : Fld := ⟨0x90, 0, 8⟩
def TRIAD_HALTED_TILES : Fld := ⟨0x90, 8, 8⟩
def TRIAD_REINT_COUNT : Fld := ⟨0x90, 16, 16⟩
def TRIAD_LAST_TILE : Fld := ⟨0x94, 0, 8⟩
def TRIAD_LAST_REPLICA : Fld := ⟨0x94, 8, 3⟩
def TRIAD_LAST_CAUSE : Fld := ⟨0x94, 11, 4⟩
def TRIAD_LAST_RETIRED : Fld := ⟨0x94, 15, 1⟩
def PERF_SEL_TILE : Fld := ⟨0xA0, 0, 8⟩
def PERF_SEL_REPLICA : Fld := ⟨0xA0, 8, 3⟩
def PERF_SEL_COUNTER : Fld := ⟨0xA0, 16, 4⟩
def PERF_SEL_VALID : Fld := ⟨0xA0, 30, 1⟩
def PERF_SEL_CLEAR : Fld := ⟨0xA0, 31, 1⟩
def PERF_DATA : Fld := ⟨0xA4, 0, 32⟩
def CYCLE_CTRL_FORCE_FALLBACK : Fld := ⟨0xB0, 0, 1⟩
def CYCLE_CTRL_CLEAR_MAX : Fld := ⟨0xB0, 1, 1⟩
def CYCLE_STATUS_FALLBACK : Fld := ⟨0xB4, 0, 1⟩
def CYCLE_STATUS_RETURN_EN : Fld := ⟨0xB4, 1, 1⟩
def CYCLE_STATUS_FORCED : Fld := ⟨0xB4, 2, 1⟩
def CYCLE_STATUS_OVER_COUNT : Fld := ⟨0xB4, 3, 2⟩
def CYCLE_STATUS_RETURNING : Fld := ⟨0xB4, 5, 1⟩
def CYCLE_STATUS_RESTART_KIND : Fld := ⟨0xB4, 6, 2⟩
def CYCLE_STATUS_RETAIN_INVALID : Fld := ⟨0xB4, 8, 1⟩
def CYCLE_STATUS_WATCHDOG : Fld := ⟨0xB4, 9, 1⟩
def CYCLE_STATUS_STARVED : Fld := ⟨0xB4, 10, 1⟩
def CYCLE_STATUS_FALLBACK_ENTRIES : Fld := ⟨0xB4, 16, 16⟩
def CYCLE_LIMIT_LIMIT_US : Fld := ⟨0xB8, 0, 16⟩
def CYCLE_LIMIT_MIN_US : Fld := ⟨0xB8, 16, 16⟩
def CYCLE_LAST : Fld := ⟨0xBC, 0, 32⟩
def CYCLE_MAX : Fld := ⟨0xC0, 0, 32⟩
def CYCLE_NUM_LO : Fld := ⟨0xC4, 0, 32⟩
def CYCLE_NUM_HI : Fld := ⟨0xC8, 0, 32⟩
def CMD_STATUS_QUEUED : Fld := ⟨0xCC, 0, 8⟩
def CMD_STATUS_JOURNAL_FAULT : Fld := ⟨0xCC, 8, 1⟩
def CMD_STATUS_ACCEPTED : Fld := ⟨0xCC, 16, 16⟩
def LOOP_CTRL_FAULT_RESET (n : Nat) : Fld := ⟨0x200000 + n * 0x40, 0, 1⟩
def LOOP_CTRL_CLEAR_FLAGS (n : Nat) : Fld := ⟨0x200000 + n * 0x40, 1, 1⟩
def LOOP_CTRL_CLEAR_STATS (n : Nat) : Fld := ⟨0x200000 + n * 0x40, 2, 1⟩
def LOOP_STATUS_STATE (n : Nat) : Fld := ⟨0x200004 + n * 0x40, 0, 4⟩
def LOOP_STATUS_SAT_MUL (n : Nat) : Fld := ⟨0x200004 + n * 0x40, 8, 1⟩
def LOOP_STATUS_SAT_ACC (n : Nat) : Fld := ⟨0x200004 + n * 0x40, 9, 1⟩
def LOOP_STATUS_SAT_OUT (n : Nat) : Fld := ⟨0x200004 + n * 0x40, 10, 1⟩
def LOOP_STATUS_LIM (n : Nat) : Fld := ⟨0x200004 + n * 0x40, 11, 1⟩
def LOOP_STATUS_OVERRUN (n : Nat) : Fld := ⟨0x200004 + n * 0x40, 12, 1⟩
def LOOP_STATUS_OBS_LOCK (n : Nat) : Fld := ⟨0x200004 + n * 0x40, 13, 1⟩
def LOOP_STATUS_OVR_RUN (n : Nat) : Fld := ⟨0x200004 + n * 0x40, 16, 2⟩
def LOOP_STATUS_FAULT_CAUSE (n : Nat) : Fld := ⟨0x200004 + n * 0x40, 24, 4⟩
def LOOP_CONFIG_TILE (n : Nat) : Fld := ⟨0x200008 + n * 0x40, 0, 8⟩
def LOOP_CONFIG_TRIGGER (n : Nat) : Fld := ⟨0x200008 + n * 0x40, 8, 2⟩
def LOOP_CONFIG_GLINK (n : Nat) : Fld := ⟨0x200008 + n * 0x40, 10, 4⟩
def LOOP_CONFIG_CHAIN_FROM (n : Nat) : Fld := ⟨0x200008 + n * 0x40, 14, 6⟩
def LOOP_CONFIG_ROTOR_ACTION (n : Nat) : Fld := ⟨0x200008 + n * 0x40, 20, 2⟩
def LOOP_CONFIG_FAULT_TRIP (n : Nat) : Fld := ⟨0x200008 + n * 0x40, 22, 1⟩
def LOOP_PERIOD_PERIOD_NS (n : Nat) : Fld := ⟨0x20000C + n * 0x40, 0, 20⟩
def LOOP_PERIOD_STEPS (n : Nat) : Fld := ⟨0x20000C + n * 0x40, 20, 11⟩
def LOOP_TIME_LAST_NS (n : Nat) : Fld := ⟨0x200010 + n * 0x40, 0, 16⟩
def LOOP_TIME_MAX_NS (n : Nat) : Fld := ⟨0x200010 + n * 0x40, 16, 16⟩
def LOOP_COUNT_OVERRUNS (n : Nat) : Fld := ⟨0x200014 + n * 0x40, 0, 16⟩
def LOOP_COUNT_FAULTS (n : Nat) : Fld := ⟨0x200014 + n * 0x40, 16, 16⟩
def GLINK_CTRL_CLEAR_COUNTS (n : Nat) : Fld := ⟨0x210000 + n * 0x40, 0, 1⟩
def GLINK_STATUS_LINK_UP (n : Nat) : Fld := ⟨0x210004 + n * 0x40, 0, 1⟩
def GLINK_STATUS_RX_VALID (n : Nat) : Fld := ⟨0x210004 + n * 0x40, 1, 1⟩
def GLINK_STATUS_BLOCK_ACTIVE (n : Nat) : Fld := ⟨0x210004 + n * 0x40, 2, 1⟩
def GLINK_STATUS_GU_BLOCKED (n : Nat) : Fld := ⟨0x210004 + n * 0x40, 3, 1⟩
def GLINK_STATUS_GU_FAULT (n : Nat) : Fld := ⟨0x210004 + n * 0x40, 4, 1⟩
def GLINK_STATUS_GU_ON_PARTNER (n : Nat) : Fld := ⟨0x210004 + n * 0x40, 5, 1⟩
def GLINK_STATUS_RX_LOST (n : Nat) : Fld := ⟨0x210004 + n * 0x40, 6, 1⟩
def GLINK_STATUS_BLOCK_SEEN (n : Nat) : Fld := ⟨0x210004 + n * 0x40, 7, 1⟩
def GLINK_CONFIG_HALF_PERIOD (n : Nat) : Fld := ⟨0x210008 + n * 0x40, 0, 16⟩
def GLINK_CONFIG_SLOT (n : Nat) : Fld := ⟨0x210008 + n * 0x40, 16, 8⟩
def GLINK_CONFIG_LINK_DELAY (n : Nat) : Fld := ⟨0x210008 + n * 0x40, 24, 8⟩
def GLINK_FRAME (n : Nat) : Fld := ⟨0x21000C + n * 0x40, 0, 32⟩
def GLINK_RX_FRAME (n : Nat) : Fld := ⟨0x210010 + n * 0x40, 0, 32⟩
def GLINK_ERRORS_CRC_ERR (n : Nat) : Fld := ⟨0x210014 + n * 0x40, 0, 16⟩
def GLINK_ERRORS_MISSING (n : Nat) : Fld := ⟨0x210014 + n * 0x40, 16, 16⟩
def GLINK_EPOCH (n : Nat) : Fld := ⟨0x210018 + n * 0x40, 0, 32⟩
def GLINK_GU_STATUS_STATUS (n : Nat) : Fld := ⟨0x21001C + n * 0x40, 0, 8⟩
def AWL_CTRL_SLOT : Fld := ⟨0xD0, 0, 6⟩
def AWL_CTRL_TRIGGER : Fld := ⟨0xD0, 8, 2⟩
def AWL_CTRL_ARM : Fld := ⟨0xD0, 10, 1⟩
def AWL_CTRL_START : Fld := ⟨0xD0, 11, 1⟩
def AWL_CTRL_STOP : Fld := ⟨0xD0, 12, 1⟩
def AWL_CTRL_PRE_TRIGGER : Fld := ⟨0xD0, 16, 16⟩
def AWL_INJ_NODE : Fld := ⟨0xD4, 0, 8⟩
def AWL_INJ_SIGNAL : Fld := ⟨0xD4, 8, 2⟩
def AWL_INJ_HOLD_LOG2 : Fld := ⟨0xD4, 10, 4⟩
def AWL_INJ_LENGTH_K : Fld := ⟨0xD4, 16, 16⟩
def AWL_AMP_AMPLITUDE : Fld := ⟨0xD8, 0, 16⟩
def AWL_FREQ : Fld := ⟨0xDC, 0, 32⟩
def AWL_NODES_N0 : Fld := ⟨0xE0, 0, 8⟩
def AWL_NODES_N1 : Fld := ⟨0xE0, 8, 8⟩
def AWL_NODES_N2 : Fld := ⟨0xE0, 16, 8⟩
def AWL_NODES_N3 : Fld := ⟨0xE0, 24, 8⟩
def AWL_STATUS_STATE : Fld := ⟨0xE4, 0, 2⟩
def AWL_STATUS_INJECTING : Fld := ⟨0xE4, 2, 1⟩
def AWL_STATUS_ABORTED : Fld := ⟨0xE4, 3, 1⟩
def AWL_STATUS_REFUSED : Fld := ⟨0xE4, 4, 1⟩
def AWL_STATUS_COUNT : Fld := ⟨0xE4, 15, 17⟩
def BRIDLE_STATUS_RUNNING : Fld := ⟨0x700000, 0, 1⟩
def BRIDLE_STATUS_PARAM_VALID : Fld := ⟨0x700000, 1, 1⟩
def BRIDLE_STATUS_PRESENCE : Fld := ⟨0x700000, 2, 1⟩
def BRIDLE_STATUS_FAULT : Fld := ⟨0x700000, 3, 1⟩
def BRIDLE_STATUS_MAINT : Fld := ⟨0x700000, 4, 1⟩
def BRIDLE_STATUS_DEGRADED : Fld := ⟨0x700000, 5, 1⟩
def BRIDLE_STATUS_TB_POLLER : Fld := ⟨0x700000, 6, 1⟩
def BRIDLE_STATUS_PROC_LOST : Fld := ⟨0x700000, 7, 1⟩
def BRIDLE_STATUS_SEQ : Fld := ⟨0x700000, 16, 16⟩
def BRIDLE_PARAM_VERSION : Fld := ⟨0x700004, 0, 16⟩
def BRIDLE_PARAM_EQUATIONS : Fld := ⟨0x700004, 16, 7⟩
def BRIDLE_PARAM_CRC : Fld := ⟨0x700008, 0, 32⟩
def BRIDLE_FAULT_CAUSE : Fld := ⟨0x70000C, 0, 8⟩
def BRIDLE_FAULT_INDEX : Fld := ⟨0x70000C, 8, 8⟩
def BRIDLE_EQ_TRUE_LO : Fld := ⟨0x700010, 0, 32⟩
def BRIDLE_EQ_TRUE_HI : Fld := ⟨0x700014, 0, 32⟩
def BRIDLE_EQ_LATCH_LO : Fld := ⟨0x700018, 0, 32⟩
def BRIDLE_EQ_LATCH_HI : Fld := ⟨0x70001C, 0, 32⟩
def BRIDLE_COMP_HI : Fld := ⟨0x700028, 0, 32⟩
def BRIDLE_COMP_LO : Fld := ⟨0x70002C, 0, 32⟩
def BRIDLE_OUTPUTS_TO_DARK : Fld := ⟨0x700020, 0, 16⟩
def BRIDLE_OUTPUTS_GL_BLOCK : Fld := ⟨0x700020, 16, 12⟩
def BRIDLE_OUTPUTS_TB_DRIVEN : Fld := ⟨0x700020, 28, 4⟩
def BRIDLE_INPUTS_FT : Fld := ⟨0x700024, 0, 16⟩
def BRIDLE_INPUTS_PT : Fld := ⟨0x700024, 16, 16⟩
def BRIDLE_LOOPREQ_LO : Fld := ⟨0x700030, 0, 32⟩
def BRIDLE_LOOPREQ_HI_SLOTS : Fld := ⟨0x700034, 0, 16⟩
def BRIDLE_TRIPBUS_LINES : Fld := ⟨0x700038, 0, 4⟩
def BRIDLE_TRIPBUS_PRES_A : Fld := ⟨0x700038, 4, 1⟩
def BRIDLE_TRIPBUS_PRES_B : Fld := ⟨0x700038, 5, 1⟩
def BRIDLE_TRIPBUS_PARTNER_OK : Fld := ⟨0x700038, 6, 1⟩
def BRIDLE_TRIPBUS_SELF_OK : Fld := ⟨0x700038, 7, 1⟩
def BRIDLE_TRIPBUS_PARTNER_ANSWER : Fld := ⟨0x700038, 8, 6⟩
def BRIDLE_TRIPBUS_MISSED : Fld := ⟨0x700038, 16, 16⟩
def BRIDLE_FIRST_OUT_EQUATION : Fld := ⟨0x70003C, 0, 6⟩
def BRIDLE_FIRST_OUT_VALID : Fld := ⟨0x70003C, 6, 1⟩
def BRIDLE_COMP_THR_HI_CODE (k : Nat) : Fld := ⟨0x700100 + k * 0x8, 0, 12⟩
def BRIDLE_COMP_THR_LO_CODE (k : Nat) : Fld := ⟨0x700100 + k * 0x8, 16, 12⟩
def BRIDLE_COMP_THR_HI_EN (k : Nat) : Fld := ⟨0x700100 + k * 0x8, 28, 1⟩
def BRIDLE_COMP_THR_LO_EN (k : Nat) : Fld := ⟨0x700100 + k * 0x8, 29, 1⟩
def BRIDLE_COMP_STATE_HYST (k : Nat) : Fld := ⟨0x700104 + k * 0x8, 0, 8⟩
def BRIDLE_COMP_STATE_HI (k : Nat) : Fld := ⟨0x700104 + k * 0x8, 8, 1⟩
def BRIDLE_COMP_STATE_LO (k : Nat) : Fld := ⟨0x700104 + k * 0x8, 9, 1⟩
def BRIDLE_COMP_STATE_CHECK_OK (k : Nat) : Fld := ⟨0x700104 + k * 0x8, 10, 1⟩
def BRIDLE_COMP_STATE_DAC_OK (k : Nat) : Fld := ⟨0x700104 + k * 0x8, 11, 1⟩
def BRIDLE_COMP_STATE_DAC_ERR (k : Nat) : Fld := ⟨0x700104 + k * 0x8, 16, 16⟩
def BRIDLE_EQ_MASK_TO (k : Nat) : Fld := ⟨0x700200 + k * 0x4, 0, 16⟩
def BRIDLE_EQ_MASK_GL (k : Nat) : Fld := ⟨0x700200 + k * 0x4, 16, 12⟩
def BRIDLE_EQ_MASK_TB (k : Nat) : Fld := ⟨0x700200 + k * 0x4, 28, 4⟩
def BRIDLE_DIAG_STATUS_PASS : Fld := ⟨0x700300, 0, 8⟩
def BRIDLE_DIAG_PASSES : Fld := ⟨0x700304, 0, 32⟩
def BRIDLE_OSC_DEV_PPM : Fld := ⟨0x700308, 0, 16⟩
def BRIDLE_TO_MON_LIGHT : Fld := ⟨0x70030C, 0, 16⟩
def BRIDLE_TRIP_COUNT : Fld := ⟨0x700310, 0, 32⟩
def BRIDLE_TB_POLLS : Fld := ⟨0x700314, 0, 32⟩
def BRIDLE_BLOCK_MON_SEEN : Fld := ⟨0x700318, 0, 12⟩
def BRIDLE_START_CHECK_RESULT : Fld := ⟨0x70031C, 0, 8⟩
def BRIDLE_START_CHECK_DURATION_MS : Fld := ⟨0x70031C, 16, 16⟩
def BRIDLE_TO_TRIPS_EVEN (k : Nat) : Fld := ⟨0x700320 + k * 0x4, 0, 16⟩
def BRIDLE_TO_TRIPS_ODD (k : Nat) : Fld := ⟨0x700320 + k * 0x4, 16, 16⟩
def SAFE_STATUS_SET_ACTIVE : Fld := ⟨0xF0, 0, 3⟩
def SAFE_STATUS_SET_SWITCH : Fld := ⟨0xF0, 3, 3⟩
def SAFE_STATUS_SET_PENDING : Fld := ⟨0xF0, 6, 1⟩
def SAFE_STATUS_SAFE_VALID : Fld := ⟨0xF0, 7, 1⟩
def SAFE_STATUS_DEGRADED : Fld := ⟨0xF0, 8, 1⟩
def SAFE_STATUS_DEGR_WARN : Fld := ⟨0xF0, 9, 1⟩
def SAFE_STATUS_DEGR_EXPIRED : Fld := ⟨0xF0, 10, 1⟩
def SAFE_STATUS_PERMIT_VALID : Fld := ⟨0xF0, 11, 1⟩
def SAFE_STATUS_ROLE_ENABLE : Fld := ⟨0xF0, 12, 1⟩
def SAFE_STATUS_SET_CRC : Fld := ⟨0xF0, 16, 16⟩
def SAFE_DEMAND_SAFE : Fld := ⟨0xF4, 0, 24⟩
def SAFE_FAULT_FAULT : Fld := ⟨0xF8, 0, 24⟩
def SAFE_FAULT_LAST_FUNC : Fld := ⟨0xF8, 24, 5⟩
def SAFE_FAULT_LAST_CAUSE : Fld := ⟨0xF8, 29, 3⟩
def SAFE_OUT_ON : Fld := ⟨0xFC, 0, 8⟩
def SAFE_OUT_LOCKOUT : Fld := ⟨0xFC, 8, 8⟩
def SAFE_OUT_FB : Fld := ⟨0xFC, 16, 8⟩
def SAFE_OUT_LAST_PAIR : Fld := ⟨0xFC, 24, 3⟩
def SAFE_OUT_LAST_CAUSE : Fld := ⟨0xFC, 27, 3⟩
def SAFE_STOP_STATE (e : Nat) : Fld := ⟨0x100, 8 * e, 2⟩
def SAFE_STOP_ENC_FAULT (e : Nat) : Fld := ⟨0x100, 8 * e + 2, 1⟩
def SAFE_STOP_SUPPLY_OK (e : Nat) : Fld := ⟨0x100, 8 * e + 3, 1⟩
def SAFE_DEGR : Fld := ⟨0x104, 0, 32⟩
def TWIN_STATUS_ROLE : Fld := ⟨0x310000, 0, 3⟩
def TWIN_STATUS_PARTNER_SEEN : Fld := ⟨0x310000, 3, 1⟩
def TWIN_STATUS_ELIGIBLE : Fld := ⟨0x310000, 4, 1⟩
def TWIN_STATUS_COPYING : Fld := ⟨0x310000, 5, 1⟩
def TWIN_STATUS_MIXED : Fld := ⟨0x310000, 6, 1⟩
def TWIN_STATUS_GIRTH_UP : Fld := ⟨0x310000, 7, 1⟩
def TWIN_STATUS_RING_HB : Fld := ⟨0x310000, 8, 1⟩
def TWIN_STATUS_PARTNER_LOST : Fld := ⟨0x310000, 9, 1⟩
def TWIN_STATUS_YIELDED : Fld := ⟨0x310000, 10, 1⟩
def TWIN_STATUS_TIME_SKEW : Fld := ⟨0x310000, 11, 1⟩
def TWIN_STATUS_IDENT_CLASH : Fld := ⟨0x310000, 12, 1⟩
def TWIN_IDENT_SIDE : Fld := ⟨0x310004, 0, 1⟩
def TWIN_IDENT_PAIR : Fld := ⟨0x310004, 1, 3⟩
def TWIN_IDENT_PARTNER_SIDE : Fld := ⟨0x310004, 8, 1⟩
def TWIN_IDENT_PARTNER_PAIR : Fld := ⟨0x310004, 9, 3⟩
def TWIN_IDENT_PARTNER_KNOWN : Fld := ⟨0x310004, 12, 1⟩
def TWIN_ELIG_CAUSES : Fld := ⟨0x310010, 0, 9⟩
def TWIN_HB_GIRTH_AGE : Fld := ⟨0x310014, 0, 16⟩
def TWIN_HB_RING_AGE : Fld := ⟨0x310014, 16, 16⟩
def TWIN_HB_MISS_GIRTH_SILENT : Fld := ⟨0x310018, 0, 16⟩
def TWIN_HB_MISS_RING_SILENT : Fld := ⟨0x310018, 16, 16⟩
def TWIN_GIRTH_LINK_UP : Fld := ⟨0x31001C, 0, 1⟩
def TWIN_GIRTH_ON_RING : Fld := ⟨0x31001C, 1, 1⟩
def TWIN_GIRTH_DELAY : Fld := ⟨0x31001C, 8, 8⟩
def TWIN_GIRTH_FRAME_ERR : Fld := ⟨0x31001C, 16, 16⟩
def TWIN_SHADOW_LAG : Fld := ⟨0x310020, 0, 8⟩
def TWIN_SHADOW_MAX_LAG : Fld := ⟨0x310020, 8, 8⟩
def TWIN_FWD_LATE : Fld := ⟨0x31006C, 0, 16⟩
def TWIN_FWD_MISSING : Fld := ⟨0x31006C, 16, 16⟩
def TWIN_DIVERGE_COUNT : Fld := ⟨0x310024, 0, 16⟩
def TWIN_DIVERGE_LAST_UNIT : Fld := ⟨0x310024, 16, 8⟩
def TWIN_DIVERGE_LAST_CAUSE : Fld := ⟨0x310024, 24, 4⟩
def TWIN_DIV_TILES (k : Nat) : Fld := ⟨0x310070 + k * 0x4, 0, 32⟩
def TWIN_DIV_SLOTS_LO : Fld := ⟨0x310084, 0, 32⟩
def TWIN_DIV_SLOTS_HI_SLOTS : Fld := ⟨0x310088, 0, 16⟩
def TWIN_COPY_STATE : Fld := ⟨0x310028, 0, 2⟩
def TWIN_COPY_PERCENT : Fld := ⟨0x310028, 8, 8⟩
def TWIN_COPY_COUNT : Fld := ⟨0x310028, 16, 16⟩
def TWIN_COPY_TIME_LAST_MS : Fld := ⟨0x31002C, 0, 16⟩
def TWIN_COPY_TIME_MAX_MS : Fld := ⟨0x31002C, 16, 16⟩
def TWIN_COPY_BYTES : Fld := ⟨0x31009C, 0, 32⟩
def TWIN_TAKEOVERS_FAILOVERS : Fld := ⟨0x310030, 0, 16⟩
def TWIN_TAKEOVERS_SWAPS : Fld := ⟨0x310030, 16, 16⟩
def TWIN_LAST_TAKEOVER_CAUSE : Fld := ⟨0x310034, 0, 3⟩
def TWIN_LAST_TAKEOVER_GAP_US : Fld := ⟨0x310034, 16, 16⟩
def TWIN_TAKE_T_LO : Fld := ⟨0x310038, 0, 32⟩
def TWIN_TAKE_T_HI : Fld := ⟨0x31003C, 0, 32⟩
def TWIN_DUAL_CMD_YIELDS : Fld := ⟨0x310068, 0, 16⟩
def TWIN_DUAL_CMD_LONGEST_US : Fld := ⟨0x310068, 16, 16⟩
def TWIN_SWAP_STATE : Fld := ⟨0x310094, 0, 2⟩
def TWIN_SWAP_HOLD : Fld := ⟨0x310094, 2, 1⟩
def TWIN_SWAP_CYCLE : Fld := ⟨0x310098, 0, 32⟩
def TWIN_TOKENS_HELD : Fld := ⟨0x310064, 0, 8⟩
def TWIN_TOKENS_REQUESTED : Fld := ⟨0x310064, 8, 8⟩
def TWIN_TOKEN_TIME_LAST_US : Fld := ⟨0x31008C, 0, 16⟩
def TWIN_TOKEN_TIME_MAX_US : Fld := ⟨0x31008C, 16, 16⟩
def TWIN_PARTNER_FP (k : Nat) : Fld := ⟨0x31004C + k * 0x4, 0, 32⟩
def TWIN_PARTNER_FW_MINOR : Fld := ⟨0x31005C, 0, 8⟩
def TWIN_PARTNER_FW_MAJOR : Fld := ⟨0x31005C, 8, 8⟩
def TWIN_PARTNER_FW_SAFE_SET : Fld := ⟨0x31005C, 16, 3⟩
def TWIN_PARTNER_STATE_ROLE : Fld := ⟨0x310060, 0, 3⟩
def TWIN_PARTNER_STATE_DEGRADED : Fld := ⟨0x310060, 3, 1⟩
def TWIN_PARTNER_STATE_GIRTH_UP : Fld := ⟨0x310060, 4, 1⟩
def TWIN_PARTNER_STATE_COPYING : Fld := ⟨0x310060, 5, 1⟩
def TWIN_PARTNER_STATE_ELIG : Fld := ⟨0x310060, 16, 16⟩
def TWIN_TIME_SKEW : Fld := ⟨0x310040, 0, 32⟩
def TWIN_MIXED_REMAIN_MIN : Fld := ⟨0x310044, 0, 11⟩
def TWIN_MIXED_EXPIRED : Fld := ⟨0x310044, 11, 1⟩
def TWIN_MIXED_OLDER : Fld := ⟨0x310044, 12, 1⟩
def TWIN_CMD_CLEAR_COUNTS : Fld := ⟨0x310048, 0, 1⟩
def TWIN_CMD_COPY_NOW : Fld := ⟨0x310048, 1, 1⟩
def RING_STATUS_LINK_UP (n : Nat) : Fld := ⟨0x300000 + n * 0x1000, 0, 1⟩
def RING_STATUS_INTACT (n : Nat) : Fld := ⟨0x300000 + n * 0x1000, 1, 1⟩
def RING_STATUS_BROKEN (n : Nat) : Fld := ⟨0x300000 + n * 0x1000, 2, 1⟩
def RING_STATUS_SECURED (n : Nat) : Fld := ⟨0x300000 + n * 0x1000, 3, 1⟩
def RING_STATUS_SENDING (n : Nat) : Fld := ⟨0x300000 + n * 0x1000, 4, 1⟩
def RING_STATUS_OVERLOAD (n : Nat) : Fld := ⟨0x300000 + n * 0x1000, 5, 1⟩
def RING_CTRL_CLEAR_COUNTS (n : Nat) : Fld := ⟨0x300004 + n * 0x1000, 0, 1⟩
def RING_CTRL_CLEAR_MAX (n : Nat) : Fld := ⟨0x300004 + n * 0x1000, 1, 1⟩
def RING_CONFIG_STATIONS (n : Nat) : Fld := ⟨0x300008 + n * 0x1000, 0, 8⟩
def RING_CONFIG_DIRECTION (n : Nat) : Fld := ⟨0x300008 + n * 0x1000, 8, 1⟩
def RING_CONFIG_FED_PAIRS (n : Nat) : Fld := ⟨0x300008 + n * 0x1000, 9, 3⟩
def RING_CONFIG_SHARE (n : Nat) : Fld := ⟨0x300008 + n * 0x1000, 16, 16⟩
def RING_PERIOD (n : Nat) : Fld := ⟨0x30000C + n * 0x1000, 0, 32⟩
def RING_TX_FRAMES (n : Nat) : Fld := ⟨0x300010 + n * 0x1000, 0, 32⟩
def RING_RX_FRAMES (n : Nat) : Fld := ⟨0x300014 + n * 0x1000, 0, 32⟩
def RING_ERRORS_FCS_ERR (n : Nat) : Fld := ⟨0x300018 + n * 0x1000, 0, 16⟩
def RING_ERRORS_ICV_ERR (n : Nat) : Fld := ⟨0x300018 + n * 0x1000, 16, 16⟩
def RING_DUP (n : Nat) : Fld := ⟨0x30001C + n * 0x1000, 0, 32⟩
def RING_FIRST (n : Nat) : Fld := ⟨0x300020 + n * 0x1000, 0, 32⟩
def RING_SEQ_REJECT_EARLIER (n : Nat) : Fld := ⟨0x300024 + n * 0x1000, 0, 16⟩
def RING_SEQ_REJECT_RANK (n : Nat) : Fld := ⟨0x300024 + n * 0x1000, 16, 16⟩
def RING_BREAK_NODE (n : Nat) : Fld := ⟨0x300028 + n * 0x1000, 0, 8⟩
def RING_BREAK_LOCATED (n : Nat) : Fld := ⟨0x300028 + n * 0x1000, 8, 1⟩
def RING_BREAK_COUNT (n : Nat) : Fld := ⟨0x300028 + n * 0x1000, 16, 16⟩
def RING_BREAK_T (n : Nat) : Fld := ⟨0x30002C + n * 0x1000, 0, 32⟩
def RING_LOAD_LAST (n : Nat) : Fld := ⟨0x300030 + n * 0x1000, 0, 16⟩
def RING_LOAD_MAX (n : Nat) : Fld := ⟨0x300030 + n * 0x1000, 16, 16⟩
def RING_RTT_LAST (n : Nat) : Fld := ⟨0x300034 + n * 0x1000, 0, 16⟩
def RING_RTT_MAX (n : Nat) : Fld := ⟨0x300034 + n * 0x1000, 16, 16⟩
def RING_HB_TX (n : Nat) : Fld := ⟨0x300038 + n * 0x1000, 0, 16⟩
def RING_HB_RX (n : Nat) : Fld := ⟨0x300038 + n * 0x1000, 16, 16⟩
def RING_SAFETY_TX (n : Nat) : Fld := ⟨0x30003C + n * 0x1000, 0, 16⟩
def RING_SAFETY_GRANTS (n : Nat) : Fld := ⟨0x30003C + n * 0x1000, 16, 16⟩
def RING_TWIN_TX (n : Nat) : Fld := ⟨0x300040 + n * 0x1000, 0, 16⟩
def RING_TWIN_RX (n : Nat) : Fld := ⟨0x300040 + n * 0x1000, 16, 16⟩
def RING_PEER_RX (n : Nat) : Fld := ⟨0x300044 + n * 0x1000, 0, 16⟩
def RING_PEER_LOST (n : Nat) : Fld := ⟨0x300044 + n * 0x1000, 16, 16⟩
def RING_SEC_MKA_STATE (n : Nat) : Fld := ⟨0x300048 + n * 0x1000, 0, 2⟩
def RING_SEC_AN (n : Nat) : Fld := ⟨0x300048 + n * 0x1000, 2, 2⟩
def RING_SEC_PEERS (n : Nat) : Fld := ⟨0x300048 + n * 0x1000, 8, 8⟩
def RING_SEC_REKEYS (n : Nat) : Fld := ⟨0x300048 + n * 0x1000, 16, 16⟩
def RING_SEC_ERR_REPLAY (n : Nat) : Fld := ⟨0x30004C + n * 0x1000, 0, 16⟩
def RING_SEC_ERR_UNKNOWN_SC (n : Nat) : Fld := ⟨0x30004C + n * 0x1000, 16, 16⟩
def RING_RX_MAP (n k : Nat) : Fld := ⟨0x300050 + n * 0x1000 + k * 0x4, 0, 32⟩
def RING_USED_MAP (n k : Nat) : Fld := ⟨0x300060 + n * 0x1000 + k * 0x4, 0, 32⟩
def RING_DROP_MAP (n k : Nat) : Fld := ⟨0x300070 + n * 0x1000 + k * 0x4, 0, 32⟩
def RING_RXLOST_MAP (n k : Nat) : Fld := ⟨0x300080 + n * 0x1000 + k * 0x4, 0, 32⟩
def RING_OTHER_MAP (n k : Nat) : Fld := ⟨0x300090 + n * 0x1000 + k * 0x4, 0, 32⟩
def TIME_STATUS_STATE : Fld := ⟨0x320000, 0, 3⟩
def TIME_STATUS_STEP_ARMED : Fld := ⟨0x320000, 3, 1⟩
def TIME_STATUS_STEPPED : Fld := ⟨0x320000, 4, 1⟩
def TIME_STATUS_DIVERGED : Fld := ⟨0x320000, 5, 1⟩
def TIME_STATUS_DIVERGED_SEEN : Fld := ⟨0x320000, 6, 1⟩
def TIME_STATUS_REF_VALID : Fld := ⟨0x320000, 7, 1⟩
def TIME_STATUS_PTP_SLAVE : Fld := ⟨0x320000, 8, 1⟩
def TIME_CTRL_RESTART : Fld := ⟨0x320004, 0, 1⟩
def TIME_CTRL_CLEAR_OVERFLOW : Fld := ⟨0x320004, 1, 1⟩
def TIME_CTRL_CLEAR_MAX : Fld := ⟨0x320004, 2, 1⟩
def TIME_CTRL_CLEAR_COUNTS : Fld := ⟨0x320004, 3, 1⟩
def TIME_CONFIG_SOURCE : Fld := ⟨0x320008, 0, 2⟩
def TIME_CONFIG_SLEW_S : Fld := ⟨0x320008, 8, 6⟩
def TIME_CONFIG_PTP_DOMAIN : Fld := ⟨0x320008, 16, 7⟩
def TIME_PTP_CONFIG_PROFILE : Fld := ⟨0x32000C, 0, 2⟩
def TIME_PTP_CONFIG_PRIMARY : Fld := ⟨0x32000C, 2, 3⟩
def TIME_PTP_CONFIG_SECONDARY : Fld := ⟨0x32000C, 5, 3⟩
def TIME_PTP_CONFIG_ANNOUNCE_TIMEOUT : Fld := ⟨0x32000C, 8, 4⟩
def TIME_T_LO : Fld := ⟨0x320010, 0, 32⟩
def TIME_T_HI : Fld := ⟨0x320014, 0, 32⟩
def TIME_COUNT_LO : Fld := ⟨0x320018, 0, 32⟩
def TIME_COUNT_HI : Fld := ⟨0x32001C, 0, 32⟩
def TIME_OFFSET_LO : Fld := ⟨0x320020, 0, 32⟩
def TIME_OFFSET_HI : Fld := ⟨0x320024, 0, 32⟩
def TIME_C0_LO : Fld := ⟨0x320028, 0, 32⟩
def TIME_C0_HI : Fld := ⟨0x32002C, 0, 32⟩
def TIME_RATE : Fld := ⟨0x320030, 0, 32⟩
def TIME_FREQ : Fld := ⟨0x320034, 0, 32⟩
def TIME_ERROR : Fld := ⟨0x320038, 0, 32⟩
def TIME_ERROR_MAX : Fld := ⟨0x32003C, 0, 32⟩
def TIME_STEP_LO : Fld := ⟨0x320040, 0, 32⟩
def TIME_STEP_HI : Fld := ⟨0x320044, 0, 32⟩
def TIME_SAMPLES_VALID : Fld := ⟨0x320048, 0, 16⟩
def TIME_SAMPLES_REJECTED : Fld := ⟨0x320048, 16, 16⟩
def TIME_PPS_EDGES : Fld := ⟨0x32004C, 0, 16⟩
def TIME_PPS_BAD : Fld := ⟨0x32004C, 16, 16⟩
def TIME_PPS_CAP_LO : Fld := ⟨0x320050, 0, 32⟩
def TIME_PPS_CAP_HI : Fld := ⟨0x320054, 0, 32⟩
def TIME_PTP_STATUS_PORT_STATE : Fld := ⟨0x320058, 0, 4⟩
def TIME_PTP_STATUS_PORT : Fld := ⟨0x320058, 4, 3⟩
def TIME_PTP_STATUS_STEPS_REMOVED : Fld := ⟨0x320058, 8, 8⟩
def TIME_PTP_STATUS_UTC_OFFSET : Fld := ⟨0x320058, 16, 16⟩
def TIME_PTP_DELAY : Fld := ⟨0x32005C, 0, 32⟩
def TIME_TSQ_ID_FRAME_ID : Fld := ⟨0x320060, 0, 16⟩
def TIME_TSQ_ID_PORT : Fld := ⟨0x320060, 16, 3⟩
def TIME_TSQ_ID_VALID : Fld := ⟨0x320060, 19, 1⟩
def TIME_TSQ_LO : Fld := ⟨0x320064, 0, 32⟩
def TIME_TSQ_HI : Fld := ⟨0x320068, 0, 32⟩
def TIME_TSQ_STATUS_LEVEL : Fld := ⟨0x32006C, 0, 6⟩
def TIME_TSQ_STATUS_OVERFLOW : Fld := ⟨0x32006C, 6, 1⟩
def TIME_TSQ_STATUS_DISCARDED : Fld := ⟨0x32006C, 16, 16⟩
def TIME_FOLLOW_UPDATES : Fld := ⟨0x320070, 0, 16⟩
def TIME_FOLLOW_GIRTH_HOLD : Fld := ⟨0x320070, 16, 1⟩
def TIME_HOLDOVER : Fld := ⟨0x320074, 0, 32⟩
def TIME_RESTARTS_RESTARTS : Fld := ⟨0x320078, 0, 16⟩
def TIME_RESTARTS_STEPS : Fld := ⟨0x320078, 16, 16⟩
def TIME_OSC_DEV : Fld := ⟨0x32007C, 0, 16⟩
def TIME_OSC_VALID : Fld := ⟨0x32007C, 16, 1⟩
def DIO_STATUS_FAULT : Fld := ⟨0x600000, 0, 1⟩
def DIO_STATUS_FAULT_SEEN : Fld := ⟨0x600000, 1, 1⟩
def DIO_STATUS_FLD_OK : Fld := ⟨0x600000, 2, 1⟩
def DIO_STATUS_GROUPS : Fld := ⟨0x600000, 3, 4⟩
def DIO_STATUS_LIVE : Fld := ⟨0x600000, 7, 1⟩
def DIO_CTRL_CLEAR_COUNTS : Fld := ⟨0x600004, 0, 1⟩
def DIO_DIR : Fld := ⟨0x600008, 0, 32⟩
def DIO_OUT : Fld := ⟨0x60000C, 0, 32⟩
def DIO_READBACK : Fld := ⟨0x600010, 0, 32⟩
def DIO_RAW : Fld := ⟨0x600014, 0, 32⟩
def DIO_FILTER0 : Fld := ⟨0x600018, 0, 32⟩
def DIO_FILTER1 : Fld := ⟨0x60001C, 0, 32⟩
def DIO_RISE : Fld := ⟨0x600020, 0, 32⟩
def DIO_FALL : Fld := ⟨0x600024, 0, 32⟩
def DIO_FAULTS_COUNT : Fld := ⟨0x600028, 0, 16⟩
def DIO_FAULT_T : Fld := ⟨0x60002C, 0, 32⟩
def DIO_FLD_MV : Fld := ⟨0x600030, 0, 16⟩
def DIO_FLD_MIN_MV : Fld := ⟨0x600030, 16, 16⟩
def DIO_CURRENT_MA : Fld := ⟨0x600034, 0, 16⟩
def DIO_CURRENT_MAX_MA : Fld := ⟨0x600034, 16, 16⟩
def DIO_RELEASE : Fld := ⟨0x600038, 0, 32⟩
def DIO_LIMIT_LIMIT : Fld := ⟨0x60003C, 0, 16⟩
def CLO_STATUS_MODE (n : Nat) : Fld := ⟨0x610000 + n * 0x20, 0, 2⟩
def CLO_STATUS_HART (n : Nat) : Fld := ⟨0x610000 + n * 0x20, 2, 2⟩
def CLO_STATUS_LEVEL (n : Nat) : Fld := ⟨0x610000 + n * 0x20, 4, 2⟩
def CLO_STATUS_FAULT (n : Nat) : Fld := ⟨0x610000 + n * 0x20, 6, 1⟩
def CLO_STATUS_CAUSE (n : Nat) : Fld := ⟨0x610000 + n * 0x20, 7, 2⟩
def CLO_STATUS_CAL_USER (n : Nat) : Fld := ⟨0x610000 + n * 0x20, 9, 1⟩
def CLO_STATUS_CAL_INVALID (n : Nat) : Fld := ⟨0x610000 + n * 0x20, 10, 1⟩
def CLO_CTRL_FAULT_RESET (n : Nat) : Fld := ⟨0x610004 + n * 0x20, 0, 1⟩
def CLO_CTRL_CLEAR_STATS (n : Nat) : Fld := ⟨0x610004 + n * 0x20, 1, 1⟩
def CLO_CONFIG_FAIL_HIGH (n : Nat) : Fld := ⟨0x610008 + n * 0x20, 0, 1⟩
def CLO_CONFIG_DEVICES (n : Nat) : Fld := ⟨0x610008 + n * 0x20, 1, 5⟩
def CLO_CONFIG_POLL (n : Nat) : Fld := ⟨0x610008 + n * 0x20, 16, 16⟩
def CLO_SET_CMD_UA (n : Nat) : Fld := ⟨0x61000C + n * 0x20, 0, 16⟩
def CLO_SET_OUT_UA (n : Nat) : Fld := ⟨0x61000C + n * 0x20, 16, 16⟩
def CLO_READ_READ_UA (n : Nat) : Fld := ⟨0x610010 + n * 0x20, 0, 16⟩
def CLO_READ_DEV_MAX_UA (n : Nat) : Fld := ⟨0x610010 + n * 0x20, 16, 16⟩
def CLO_HART_FOUND (n : Nat) : Fld := ⟨0x610014 + n * 0x20, 0, 8⟩
def CLO_HART_LAST_COMM (n : Nat) : Fld := ⟨0x610014 + n * 0x20, 8, 8⟩
def CLO_HART_ERRORS (n : Nat) : Fld := ⟨0x610014 + n * 0x20, 16, 16⟩
def FAI_STATUS_OVR (n : Nat) : Fld := ⟨0x620000 + n * 0x10, 0, 1⟩
def FAI_STATUS_OVR_SEEN (n : Nat) : Fld := ⟨0x620000 + n * 0x10, 1, 1⟩
def FAI_STATUS_CAL_USER (n : Nat) : Fld := ⟨0x620000 + n * 0x10, 2, 1⟩
def FAI_STATUS_CAL_INVALID (n : Nat) : Fld := ⟨0x620000 + n * 0x10, 3, 1⟩
def FAI_STATUS_CLEAR_MINMAX (n : Nat) : Fld := ⟨0x620000 + n * 0x10, 31, 1⟩
def FAI_CONFIG_AVG (n : Nat) : Fld := ⟨0x620004 + n * 0x10, 0, 3⟩
def FAI_CONFIG_MAPPED (n : Nat) : Fld := ⟨0x620004 + n * 0x10, 3, 1⟩
def FAI_VALUE_LAST (n : Nat) : Fld := ⟨0x620008 + n * 0x10, 0, 16⟩
def FAI_VALUE_MEAN (n : Nat) : Fld := ⟨0x620008 + n * 0x10, 16, 16⟩
def FAI_MINMAX_MIN (n : Nat) : Fld := ⟨0x62000C + n * 0x10, 0, 16⟩
def FAI_MINMAX_MAX (n : Nat) : Fld := ⟨0x62000C + n * 0x10, 16, 16⟩
def CAN_STATUS_STATE (n : Nat) : Fld := ⟨0x500000 + n * 0x1000, 0, 2⟩
def CAN_STATUS_WARN (n : Nat) : Fld := ⟨0x500000 + n * 0x1000, 2, 1⟩
def CAN_STATUS_MODE (n : Nat) : Fld := ⟨0x500000 + n * 0x1000, 3, 2⟩
def CAN_STATUS_RECOVERING (n : Nat) : Fld := ⟨0x500000 + n * 0x1000, 5, 1⟩
def CAN_STATUS_PASSIVE_SEEN (n : Nat) : Fld := ⟨0x500000 + n * 0x1000, 6, 1⟩
def CAN_STATUS_BUSOFF_SEEN (n : Nat) : Fld := ⟨0x500000 + n * 0x1000, 7, 1⟩
def CAN_CTRL_RECOVER (n : Nat) : Fld := ⟨0x500004 + n * 0x1000, 0, 1⟩
def CAN_CTRL_CLEAR_COUNTS (n : Nat) : Fld := ⟨0x500004 + n * 0x1000, 1, 1⟩
def CAN_CTRL_LOOP (n : Nat) : Fld := ⟨0x500004 + n * 0x1000, 2, 2⟩
def CAN_CONFIG_USED (n : Nat) : Fld := ⟨0x500008 + n * 0x1000, 0, 1⟩
def CAN_CONFIG_FD (n : Nat) : Fld := ⟨0x500008 + n * 0x1000, 1, 1⟩
def CAN_CONFIG_TERM (n : Nat) : Fld := ⟨0x500008 + n * 0x1000, 2, 1⟩
def CAN_CONFIG_ORDER (n : Nat) : Fld := ⟨0x500008 + n * 0x1000, 3, 1⟩
def CAN_CONFIG_AUTO_RECOVER (n : Nat) : Fld := ⟨0x500008 + n * 0x1000, 4, 1⟩
def CAN_CONFIG_Q0_OWNER (n : Nat) : Fld := ⟨0x500008 + n * 0x1000, 5, 1⟩
def CAN_CONFIG_Q1_OWNER (n : Nat) : Fld := ⟨0x500008 + n * 0x1000, 6, 1⟩
def CAN_NBT_BRP_M1 (n : Nat) : Fld := ⟨0x50000C + n * 0x1000, 0, 8⟩
def CAN_NBT_TSEG1_M1 (n : Nat) : Fld := ⟨0x50000C + n * 0x1000, 8, 8⟩
def CAN_NBT_TSEG2_M1 (n : Nat) : Fld := ⟨0x50000C + n * 0x1000, 16, 7⟩
def CAN_NBT_SJW_M1 (n : Nat) : Fld := ⟨0x50000C + n * 0x1000, 23, 7⟩
def CAN_DBT_BRP_M1 (n : Nat) : Fld := ⟨0x500010 + n * 0x1000, 0, 5⟩
def CAN_DBT_TSEG1_M1 (n : Nat) : Fld := ⟨0x500010 + n * 0x1000, 8, 5⟩
def CAN_DBT_TSEG2_M1 (n : Nat) : Fld := ⟨0x500010 + n * 0x1000, 16, 4⟩
def CAN_DBT_SJW_M1 (n : Nat) : Fld := ⟨0x500010 + n * 0x1000, 24, 4⟩
def CAN_TDC_EN (n : Nat) : Fld := ⟨0x500014 + n * 0x1000, 0, 1⟩
def CAN_TDC_TDCO (n : Nat) : Fld := ⟨0x500014 + n * 0x1000, 1, 7⟩
def CAN_TDC_MEASURED (n : Nat) : Fld := ⟨0x500014 + n * 0x1000, 16, 7⟩
def CAN_ERR_TEC (n : Nat) : Fld := ⟨0x500018 + n * 0x1000, 0, 8⟩
def CAN_ERR_REC (n : Nat) : Fld := ⟨0x500018 + n * 0x1000, 8, 7⟩
def CAN_ERR_RP (n : Nat) : Fld := ⟨0x500018 + n * 0x1000, 15, 1⟩
def CAN_LEC_LEC (n : Nat) : Fld := ⟨0x50001C + n * 0x1000, 0, 3⟩
def CAN_LEC_DLEC (n : Nat) : Fld := ⟨0x50001C + n * 0x1000, 4, 3⟩
def CAN_ERR_COUNT_TX_ERR (n : Nat) : Fld := ⟨0x500020 + n * 0x1000, 0, 16⟩
def CAN_ERR_COUNT_RX_ERR (n : Nat) : Fld := ⟨0x500020 + n * 0x1000, 16, 16⟩
def CAN_BUSOFF_COUNT (n : Nat) : Fld := ⟨0x500024 + n * 0x1000, 0, 16⟩
def CAN_TX_REQ_REQ (n : Nat) : Fld := ⟨0x500028 + n * 0x1000, 0, 3⟩
def CAN_TX_CANCEL_CANCEL (n : Nat) : Fld := ⟨0x50002C + n * 0x1000, 0, 3⟩
def CAN_TX_STATUS_STATE (n b : Nat) : Fld := ⟨0x500030 + n * 0x1000, 4 * b, 2⟩
def CAN_TX_STATUS_ON_BUS (n b : Nat) : Fld := ⟨0x500030 + n * 0x1000, 4 * b + 2, 1⟩
def CAN_TX_STATUS_CANCEL_REFUSED (n b : Nat) : Fld := ⟨0x500030 + n * 0x1000, 12 + b, 1⟩
def CAN_TX_STATUS_REFUSED (n b : Nat) : Fld := ⟨0x500030 + n * 0x1000, 16 + b, 1⟩
def CAN_TXB_SEL_BUF (n : Nat) : Fld := ⟨0x500034 + n * 0x1000, 0, 2⟩
def CAN_TXB_SEL_WORD (n : Nat) : Fld := ⟨0x500034 + n * 0x1000, 8, 4⟩
def CAN_TXB_HDR_HDR (n : Nat) : Fld := ⟨0x500038 + n * 0x1000, 0, 13⟩
def CAN_TXB_ID_ID (n : Nat) : Fld := ⟨0x50003C + n * 0x1000, 0, 29⟩
def CAN_TXB_DATA (n : Nat) : Fld := ⟨0x500040 + n * 0x1000, 0, 32⟩
def CAN_TX_COUNT_SENT (n : Nat) : Fld := ⟨0x500044 + n * 0x1000, 0, 16⟩
def CAN_TX_COUNT_ARB_LOST (n : Nat) : Fld := ⟨0x500044 + n * 0x1000, 16, 16⟩
def CAN_RXNUM (n : Nat) : Fld := ⟨0x500048 + n * 0x1000, 0, 32⟩
def CAN_CUT (n : Nat) : Fld := ⟨0x50004C + n * 0x1000, 0, 32⟩
def CAN_FLT_SEL_PAIR (n : Nat) : Fld := ⟨0x500050 + n * 0x1000, 0, 5⟩
def CAN_FLT_MATCH_MATCH (n : Nat) : Fld := ⟨0x500054 + n * 0x1000, 0, 31⟩
def CAN_FLT_MASK_MASK (n : Nat) : Fld := ⟨0x500058 + n * 0x1000, 0, 31⟩
def CAN_FLT_CFG_ACTION (n : Nat) : Fld := ⟨0x50005C + n * 0x1000, 0, 2⟩
def CAN_FLT_CFG_HITS (n : Nat) : Fld := ⟨0x50005C + n * 0x1000, 16, 16⟩
def CAN_RXQ0_STATUS_LEVEL (n : Nat) : Fld := ⟨0x500060 + n * 0x1000, 0, 7⟩
def CAN_RXQ0_STATUS_LOCKED (n : Nat) : Fld := ⟨0x500060 + n * 0x1000, 7, 1⟩
def CAN_RXQ0_STATUS_POS (n : Nat) : Fld := ⟨0x500060 + n * 0x1000, 8, 5⟩
def CAN_RXQ0_STATUS_OVERFLOW (n : Nat) : Fld := ⟨0x500060 + n * 0x1000, 13, 1⟩
def CAN_RXQ1_STATUS_LEVEL (n : Nat) : Fld := ⟨0x50006C + n * 0x1000, 0, 7⟩
def CAN_RXQ1_STATUS_LOCKED (n : Nat) : Fld := ⟨0x50006C + n * 0x1000, 7, 1⟩
def CAN_RXQ1_STATUS_POS (n : Nat) : Fld := ⟨0x50006C + n * 0x1000, 8, 5⟩
def CAN_RXQ1_STATUS_OVERFLOW (n : Nat) : Fld := ⟨0x50006C + n * 0x1000, 13, 1⟩
def CAN_RXQ0_WORD (n : Nat) : Fld := ⟨0x500064 + n * 0x1000, 0, 32⟩
def CAN_RXQ1_WORD (n : Nat) : Fld := ⟨0x500070 + n * 0x1000, 0, 32⟩
def CAN_RXQ0_CTRL_DISCARD (n : Nat) : Fld := ⟨0x500068 + n * 0x1000, 0, 1⟩
def CAN_RXQ0_CTRL_FLUSH (n : Nat) : Fld := ⟨0x500068 + n * 0x1000, 1, 1⟩
def CAN_RXQ0_CTRL_CLEAR_OVERFLOW (n : Nat) : Fld := ⟨0x500068 + n * 0x1000, 2, 1⟩
def CAN_RXQ1_CTRL_DISCARD (n : Nat) : Fld := ⟨0x500074 + n * 0x1000, 0, 1⟩
def CAN_RXQ1_CTRL_FLUSH (n : Nat) : Fld := ⟨0x500074 + n * 0x1000, 1, 1⟩
def CAN_RXQ1_CTRL_CLEAR_OVERFLOW (n : Nat) : Fld := ⟨0x500074 + n * 0x1000, 2, 1⟩
def CAN_RX_COUNT_ACCEPTED (n : Nat) : Fld := ⟨0x500078 + n * 0x1000, 0, 16⟩
def CAN_RX_COUNT_NO_MATCH (n : Nat) : Fld := ⟨0x500078 + n * 0x1000, 16, 16⟩
def CAN_RX_DROP_OVF0 (n : Nat) : Fld := ⟨0x50007C + n * 0x1000, 0, 16⟩
def CAN_RX_DROP_OVF1 (n : Nat) : Fld := ⟨0x50007C + n * 0x1000, 16, 16⟩
def CAN_TX_T_LO (n : Nat) : Fld := ⟨0x500080 + n * 0x1000, 0, 32⟩
def CAN_TX_T_HI (n : Nat) : Fld := ⟨0x500084 + n * 0x1000, 0, 32⟩
def CAN_LOAD_LAST (n : Nat) : Fld := ⟨0x500088 + n * 0x1000, 0, 8⟩
def CAN_LOAD_MAX (n : Nat) : Fld := ⟨0x500088 + n * 0x1000, 8, 8⟩
def CAN_LAST_ID_ID (n : Nat) : Fld := ⟨0x50008C + n * 0x1000, 0, 29⟩
def CAN_SHADOW_MISSING (n : Nat) : Fld := ⟨0x500090 + n * 0x1000, 0, 16⟩
def CAN_SHADOW_RESENT (n : Nat) : Fld := ⟨0x500090 + n * 0x1000, 16, 16⟩
def CAN_TX_LAT_LAST_US (n : Nat) : Fld := ⟨0x500094 + n * 0x1000, 0, 16⟩
def CAN_TX_LAT_MAX_US (n : Nat) : Fld := ⟨0x500094 + n * 0x1000, 16, 16⟩
def CAN_ERR_T (n : Nat) : Fld := ⟨0x500098 + n * 0x1000, 0, 32⟩
def CAN_IDENT_PORT (n : Nat) : Fld := ⟨0x50009C + n * 0x1000, 0, 2⟩
def CAN_IDENT_XCVR_OK (n : Nat) : Fld := ⟨0x50009C + n * 0x1000, 2, 1⟩
def EVREC_STATUS_FROZEN : Fld := ⟨0x400000, 0, 1⟩
def EVREC_STATUS_DRAINING : Fld := ⟨0x400000, 1, 1⟩
def EVREC_STATUS_FIFO_LEVEL : Fld := ⟨0x400000, 2, 9⟩
def EVREC_STATUS_FULL : Fld := ⟨0x400000, 11, 1⟩
def EVREC_STATUS_DROP_SEEN : Fld := ⟨0x400000, 12, 1⟩
def EVREC_STATUS_JOURNAL_OK : Fld := ⟨0x400000, 13, 1⟩
def EVREC_CTRL_FREEZE : Fld := ⟨0x400004, 0, 1⟩
def EVREC_CTRL_UNFREEZE : Fld := ⟨0x400004, 1, 1⟩
def EVREC_CTRL_CLEAR_LOST : Fld := ⟨0x400004, 2, 1⟩
def EVREC_HEAD : Fld := ⟨0x400008, 0, 32⟩
def EVREC_OLDEST : Fld := ⟨0x40000C, 0, 32⟩
def EVREC_COUNT_RECORDS : Fld := ⟨0x400010, 0, 16⟩
def EVREC_READ_IDX_IDX : Fld := ⟨0x400014, 0, 15⟩
def EVREC_DATA (k : Nat) : Fld := ⟨0x400018 + k * 0x4, 0, 32⟩
def EVREC_LOST01_LOST_EVEN : Fld := ⟨0x400048, 0, 16⟩
def EVREC_LOST01_LOST_ODD : Fld := ⟨0x400048, 16, 16⟩
def EVREC_LOST23_LOST_EVEN : Fld := ⟨0x40004C, 0, 16⟩
def EVREC_LOST23_LOST_ODD : Fld := ⟨0x40004C, 16, 16⟩
def EVREC_LOST45_LOST_EVEN : Fld := ⟨0x400050, 0, 16⟩
def EVREC_LOST45_LOST_ODD : Fld := ⟨0x400050, 16, 16⟩
def EVREC_LOST67_LOST_EVEN : Fld := ⟨0x400054, 0, 16⟩
def EVREC_LOST67_LOST_ODD : Fld := ⟨0x400054, 16, 16⟩
def EVREC_REPEAT_WIN_MS : Fld := ⟨0x400058, 0, 16⟩
def EVREC_JOURNAL_BAD : Fld := ⟨0x40005C, 0, 16⟩
def EVREC_JOURNAL_RESTORED : Fld := ⟨0x40005C, 16, 16⟩
def HIST_STATUS_MOUNTED : Fld := ⟨0x410000, 0, 1⟩
def HIST_STATUS_RUNNING : Fld := ⟨0x410000, 1, 1⟩
def HIST_STATUS_SET0_OK : Fld := ⟨0x410000, 2, 1⟩
def HIST_STATUS_SET1_OK : Fld := ⟨0x410000, 3, 1⟩
def HIST_STATUS_MIRRORED : Fld := ⟨0x410000, 4, 1⟩
def HIST_STATUS_REBUILDING : Fld := ⟨0x410000, 5, 1⟩
def HIST_STATUS_BACKLOG : Fld := ⟨0x410000, 6, 1⟩
def HIST_STATUS_KEY_OK : Fld := ⟨0x410000, 7, 1⟩
def HIST_STATUS_FAILED_SEEN : Fld := ⟨0x410000, 8, 1⟩
def HIST_CTRL_REBUILD : Fld := ⟨0x410004, 0, 1⟩
def HIST_CTRL_CLEAR_COUNTS : Fld := ⟨0x410004, 1, 1⟩
def HIST_CONFIG_TAGS : Fld := ⟨0x410008, 0, 17⟩
def HIST_CAPACITY : Fld := ⟨0x41000C, 0, 32⟩
def HIST_USED : Fld := ⟨0x410010, 0, 32⟩
def HIST_RATE_LAST : Fld := ⟨0x410014, 0, 16⟩
def HIST_RATE_MAX : Fld := ⟨0x410014, 16, 16⟩
def HIST_BUFFER_FILL : Fld := ⟨0x410018, 0, 8⟩
def HIST_BUFFER_MAX : Fld := ⟨0x410018, 8, 8⟩
def HIST_GAPS : Fld := ⟨0x41001C, 0, 32⟩
def HIST_DROPPED : Fld := ⟨0x410020, 0, 32⟩
def HIST_EVT_SEQ : Fld := ⟨0x410024, 0, 32⟩
def HIST_OLDEST_LO : Fld := ⟨0x410028, 0, 32⟩
def HIST_OLDEST_HI : Fld := ⟨0x41002C, 0, 32⟩
def HIST_REBUILD_SET : Fld := ⟨0x410030, 0, 1⟩
def HIST_REBUILD_PERCENT : Fld := ⟨0x410030, 8, 8⟩
def HIST_REBUILD_ETA_H : Fld := ⟨0x410030, 16, 16⟩
def HIST_SESSIONS_OPEN : Fld := ⟨0x410034, 0, 5⟩
def HIST_SESSIONS_STREAMS : Fld := ⟨0x410034, 8, 4⟩
def HIST_SESSIONS_REFUSED : Fld := ⟨0x410034, 16, 16⟩
def HIST_EXPORT_LAST : Fld := ⟨0x410038, 0, 16⟩
def HIST_EXPORT_MAX : Fld := ⟨0x410038, 16, 16⟩
def HIST_TIER_FULL_TIERS : Fld := ⟨0x41003C, 0, 5⟩
def HIST_DRV_STATUS_PRESENT (k : Nat) : Fld := ⟨0x410040 + k * 0x10, 0, 1⟩
def HIST_DRV_STATUS_LINK_UP (k : Nat) : Fld := ⟨0x410040 + k * 0x10, 1, 1⟩
def HIST_DRV_STATUS_STATE (k : Nat) : Fld := ⟨0x410040 + k * 0x10, 2, 2⟩
def HIST_DRV_STATUS_WIDTH (k : Nat) : Fld := ⟨0x410040 + k * 0x10, 4, 4⟩
def HIST_DRV_STATUS_GEN (k : Nat) : Fld := ⟨0x410040 + k * 0x10, 8, 4⟩
def HIST_DRV_CAP (k : Nat) : Fld := ⟨0x410044 + k * 0x10, 0, 32⟩
def HIST_DRV_ERR_MEDIA (k : Nat) : Fld := ⟨0x410048 + k * 0x10, 0, 16⟩
def HIST_DRV_ERR_LINK (k : Nat) : Fld := ⟨0x410048 + k * 0x10, 16, 16⟩
def HIST_DRV_HEALTH_WEAR (k : Nat) : Fld := ⟨0x41004C + k * 0x10, 0, 8⟩
def HIST_DRV_HEALTH_TEMP (k : Nat) : Fld := ⟨0x41004C + k * 0x10, 8, 8⟩
def SEC_STATUS_OWNER : Fld := ⟨0x800000, 0, 1⟩
def SEC_STATUS_TLS_CERT : Fld := ⟨0x800000, 1, 1⟩
def SEC_STATUS_DATES_UNCHECKED : Fld := ⟨0x800000, 2, 1⟩
def SEC_STATUS_KW_OK : Fld := ⟨0x800000, 3, 1⟩
def SEC_STATUS_CAK_OK : Fld := ⟨0x800000, 4, 1⟩
def SEC_STATUS_FW_COPY : Fld := ⟨0x800000, 5, 1⟩
def SEC_STATUS_FW_PENDING : Fld := ⟨0x800000, 6, 1⟩
def SEC_CTRL_CLEAR_COUNTS : Fld := ⟨0x800004, 0, 1⟩
def SEC_OWNER_FP (k : Nat) : Fld := ⟨0x800008 + k * 0x4, 0, 32⟩
def SEC_MIN_SECVER : Fld := ⟨0x800018, 0, 32⟩
def SEC_FW_SECVER_RUNNING : Fld := ⟨0x80001C, 0, 16⟩
def SEC_FW_SECVER_MIN : Fld := ⟨0x80001C, 16, 16⟩
def SEC_HKEYS_ENROLLED : Fld := ⟨0x800020, 0, 8⟩
def SEC_HKEYS_REVOKED : Fld := ⟨0x800020, 8, 8⟩
def SEC_APPROVERS_COUNT : Fld := ⟨0x800024, 0, 5⟩
def SEC_APPROVERS_FROM_IMAGE : Fld := ⟨0x800024, 5, 1⟩
def SEC_CLIENTS_TABLE : Fld := ⟨0x800028, 0, 9⟩
def SEC_CLIENTS_SESSIONS : Fld := ⟨0x800028, 16, 5⟩
def SEC_AUTH_FAIL_COUNT : Fld := ⟨0x80002C, 0, 16⟩
def SEC_AUTH_FAIL_BLOCKED : Fld := ⟨0x80002C, 16, 16⟩
def SEC_REQUESTS : Fld := ⟨0x800030, 0, 32⟩
def SEC_DUPLICATES_DUPLICATE : Fld := ⟨0x800034, 0, 16⟩
def SEC_DUPLICATES_IN_PROGRESS : Fld := ⟨0x800034, 16, 16⟩
def SEC_DEV_FP (k : Nat) : Fld := ⟨0x800038 + k * 0x4, 0, 32⟩
def SEC_CERT_EXP_LO : Fld := ⟨0x800048, 0, 32⟩
def SEC_CERT_EXP_HI : Fld := ⟨0x80004C, 0, 32⟩
def SEC_FW_MEAS (k : Nat) : Fld := ⟨0x800050 + k * 0x4, 0, 32⟩
def SEC_PEND_ID_LO (k : Nat) : Fld := ⟨0x800070 + k * 0x4, 0, 16⟩
def SEC_PEND_STATE (k : Nat) : Fld := ⟨0x800070 + k * 0x4, 16, 3⟩
def SEC_PEND_KIND (k : Nat) : Fld := ⟨0x800070 + k * 0x4, 19, 4⟩
def SEC_PEND_APPROVALS (k : Nat) : Fld := ⟨0x800070 + k * 0x4, 23, 2⟩
def SEC_PEND_NEXT : Fld := ⟨0x800090, 0, 32⟩
def SEC_STORAGE_SET0_KEY : Fld := ⟨0x800094, 0, 1⟩
def SEC_STORAGE_SET1_KEY : Fld := ⟨0x800094, 1, 1⟩
def SEC_ATTEST : Fld := ⟨0x800098, 0, 32⟩
def SEC_REVOKED_COUNT : Fld := ⟨0x80009C, 0, 9⟩
def LIFE_STATUS_SEAL_USED : Fld := ⟨0x900000, 0, 1⟩
def LIFE_STATUS_SHUTDOWN_READY : Fld := ⟨0x900000, 1, 1⟩
def LIFE_STATUS_TESTING : Fld := ⟨0x900000, 2, 1⟩
def LIFE_STATUS_MAP_OK : Fld := ⟨0x900000, 3, 1⟩
def LIFE_CTRL_SHUTDOWN_TEST : Fld := ⟨0x900004, 0, 1⟩
def LIFE_CTRL_FUSE_COMMIT : Fld := ⟨0x900004, 1, 1⟩
def LIFE_CTRL_CLEAR_SOFT : Fld := ⟨0x900004, 2, 1⟩
def LIFE_CTRL_CLEAR_COUNTS : Fld := ⟨0x900004, 3, 1⟩
def LIFE_SELFTEST_KIND : Fld := ⟨0x900008, 0, 2⟩
def LIFE_SELFTEST_RESULT : Fld := ⟨0x900008, 2, 3⟩
def LIFE_SELFTEST_CAUSE : Fld := ⟨0x900008, 5, 2⟩
def LIFE_SELFTEST_REFUSED : Fld := ⟨0x900008, 7, 1⟩
def LIFE_SELFTEST_FAILS : Fld := ⟨0x900008, 8, 8⟩
def LIFE_ST_TIME_LAST_MS : Fld := ⟨0x90000C, 0, 16⟩
def LIFE_SEAL_PRESENT : Fld := ⟨0x900010, 0, 1⟩
def LIFE_SEAL_REJECT : Fld := ⟨0x900010, 1, 3⟩
def LIFE_SEAL_T_LO : Fld := ⟨0x900014, 0, 32⟩
def LIFE_SEAL_T_HI : Fld := ⟨0x900018, 0, 32⟩
def LIFE_FLASH_POOL : Fld := ⟨0x90001C, 0, 16⟩
def LIFE_FLASH_POOL_LOW : Fld := ⟨0x90001C, 16, 1⟩
def LIFE_FLASH_WORN : Fld := ⟨0x90001C, 17, 1⟩
def LIFE_FLASH_ERR_PROG_FAIL : Fld := ⟨0x900020, 0, 16⟩
def LIFE_FLASH_ERR_ERASE_FAIL : Fld := ⟨0x900020, 16, 16⟩
def LIFE_ERASE_REERASED : Fld := ⟨0x900024, 0, 16⟩
def LIFE_ERASE_SUSPENDS : Fld := ⟨0x900024, 16, 16⟩
def LIFE_WEAR_MAX_PE : Fld := ⟨0x900028, 0, 16⟩
def LIFE_WEAR_AVG_PE : Fld := ⟨0x900028, 16, 16⟩
def LIFE_TAG_FIELD : Fld := ⟨0x90002C, 0, 1⟩
def LIFE_TAG_LOCKED : Fld := ⟨0x90002C, 1, 1⟩
def LIFE_TAG_LOCK_PAGE : Fld := ⟨0x90002C, 2, 6⟩
def LIFE_TAG_QUEUE : Fld := ⟨0x90002C, 8, 4⟩
def LIFE_TAG_NOTES_WRITTEN : Fld := ⟨0x90002C, 12, 1⟩
def LIFE_TAG_FIELD_WRITES : Fld := ⟨0x90002C, 16, 16⟩
def LIFE_TAG_WAIT_WAITED : Fld := ⟨0x900030, 0, 16⟩
def LIFE_TAG_WAIT_LOCK_MAX_MS : Fld := ⟨0x900030, 16, 16⟩
def LIFE_CAL_VALID : Fld := ⟨0x900034, 0, 7⟩
def LIFE_CAL_ALL_FACTORY : Fld := ⟨0x900034, 7, 1⟩
def LIFE_CAL_EXPORT_T : Fld := ⟨0x900038, 0, 32⟩
def LIFE_REP_TILE_FAILED1 (k : Nat) : Fld := ⟨0x900040 + k * 0x10, 0, 8⟩
def LIFE_REP_TILE_FAILED2 (k : Nat) : Fld := ⟨0x900040 + k * 0x10, 8, 8⟩
def LIFE_REP_TILE_FUSED1 (k : Nat) : Fld := ⟨0x900040 + k * 0x10, 16, 1⟩
def LIFE_REP_TILE_FUSED2 (k : Nat) : Fld := ⟨0x900040 + k * 0x10, 17, 1⟩
def LIFE_REP_TILE_EXHAUSTED (k : Nat) : Fld := ⟨0x900040 + k * 0x10, 18, 1⟩
def LIFE_REP_ROWS_SOFT_ROWS (k : Nat) : Fld := ⟨0x900044 + k * 0x10, 0, 16⟩
def LIFE_REP_ROWS_SOFT_COLS (k : Nat) : Fld := ⟨0x900044 + k * 0x10, 16, 16⟩
def LIFE_REP_FUSE_FUSED_ROWS (k : Nat) : Fld := ⟨0x900048 + k * 0x10, 0, 16⟩
def LIFE_REP_FUSE_FUSED_COLS (k : Nat) : Fld := ⟨0x900048 + k * 0x10, 16, 16⟩
def LIFE_REP_WORST_TILE (k : Nat) : Fld := ⟨0x90004C + k * 0x10, 0, 8⟩
def LIFE_REP_WORST_REPLICA (k : Nat) : Fld := ⟨0x90004C + k * 0x10, 8, 3⟩
def LIFE_REP_WORST_ROWS (k : Nat) : Fld := ⟨0x90004C + k * 0x10, 11, 5⟩
def LIFE_REP_WORST_COLS (k : Nat) : Fld := ⟨0x90004C + k * 0x10, 16, 4⟩
def LIFE_ST_TILES (k : Nat) : Fld := ⟨0x9000D0 + k * 0x4, 0, 32⟩
def LIFE_CAL_USER0 : Fld := ⟨0x9000E4, 0, 32⟩
def LIFE_CAL_USER1 : Fld := ⟨0x9000E8, 0, 32⟩
def LIFE_CAL_INVALID0 : Fld := ⟨0x9000EC, 0, 32⟩
def LIFE_CAL_INVALID1 : Fld := ⟨0x9000F0, 0, 32⟩
def LIFE_FUSE_BURNED : Fld := ⟨0x9000F4, 0, 16⟩
def LIFE_FUSE_LEFT_SOFT : Fld := ⟨0x9000F4, 16, 16⟩
def LIFE_REPAIR_SEQ : Fld := ⟨0x9000F8, 0, 32⟩
def LIFE_REPAIR_DIGEST : Fld := ⟨0x9000FC, 0, 32⟩
def MAP_INFO_REGISTERS : Fld := ⟨0xC, 0, 16⟩
def MAP_INFO_BLOCKS : Fld := ⟨0xC, 16, 8⟩
def MAP_INFO_MAP_VERSION : Fld := ⟨0xC, 24, 8⟩
def RESET_CAUSE_CAUSE : Fld := ⟨0x10, 0, 4⟩
def RESET_CAUSE_COUNT : Fld := ⟨0x10, 16, 16⟩
def UPTIME_LO : Fld := ⟨0x14, 0, 32⟩
def UPTIME_HI : Fld := ⟨0x18, 0, 32⟩
def ACCESS_ERR_MGMT : Fld := ⟨0x1C, 0, 16⟩
def ACCESS_ERR_TACK : Fld := ⟨0x1C, 16, 16⟩
def ACCESS_ADDR_OFFSET : Fld := ⟨0x20, 0, 24⟩
def ACCESS_ADDR_PATH : Fld := ⟨0x20, 24, 1⟩
def ACCESS_ADDR_WRITE : Fld := ⟨0x20, 25, 1⟩
def SCRATCH : Fld := ⟨0x24, 0, 32⟩
def TWIN_EPOCH : Fld := ⟨0x310008, 0, 32⟩
def TWIN_PARTNER_EPOCH : Fld := ⟨0x31000C, 0, 32⟩
def TWIN_STATION_EPOCH : Fld := ⟨0x310090, 0, 32⟩

end Sys2Proof.Machine.R
end

