-- ==== Sys2Proof/Machine/Sparse.lean ====
section
/-! DEFINITION. Sparse maps by number: a list of (key, value) pairs in one canonical form, keys strictly
rising and no entry equal to what an unlisted key reads as. Memory (bytes by address), the register file
and every numbered table of the state are kept so. -/

namespace Sys2Proof.Machine

/-- The value at a key; an unlisted key reads as `dflt` of it. DESIGN CHOICE (log 61). -/
def sget {α : Type} (dflt : Nat → α) : List (Nat × α) → Nat → α
  | [], k => dflt k
  | (a, v) :: m, k => if k = a then v else sget dflt m k

/-- The entry at a key of a table without default. -/
def oget {α : Type} : List (Nat × α) → Nat → Option α
  | [], _ => none
  | (a, v) :: m, k => if k = a then some v else oget m k

/-- Sets the entry at a key of a table without default, keys rising. -/
def oput {α : Type} : List (Nat × α) → Nat → α → List (Nat × α)
  | [], k, v => [(k, v)]
  | (a, w) :: m, k, v =>
    if k < a then (k, v) :: (a, w) :: m
    else if k = a then (k, v) :: m
    else (a, w) :: oput m k v

/-- Removes the entry at a key. -/
def oerase {α : Type} (m : List (Nat × α)) (k : Nat) : List (Nat × α) := m.filter (fun p => p.1 ≠ k)

/-- Writes a value at a key, keeping the canonical form: what an unlisted key reads as is not listed. -/
def sput {α : Type} [DecidableEq α] (dflt : Nat → α) (m : List (Nat × α)) (k : Nat) (v : α) : List (Nat × α) :=
  if v = dflt k then oerase m k else oput m k v

/-- The canonical form (keys above `lo`, strictly rising, no default value listed). -/
def swfFrom {α : Type} [DecidableEq α] (dflt : Nat → α) : Nat → List (Nat × α) → Bool
  | _, [] => true
  | lo, (a, v) :: m => decide (lo ≤ a) && decide (v ≠ dflt a) && swfFrom dflt (a + 1) m

/-- The canonical form of a sparse map. -/
def swf {α : Type} [DecidableEq α] (dflt : Nat → α) (m : List (Nat × α)) : Bool := swfFrom dflt 0 m

/-- A memory of bytes by address whose unlisted bytes read 0. -/
abbrev Memory := List (Nat × Byte)

/-- What an unlisted byte reads as. -/
def byteDflt (_ : Nat) : Byte := 0

/-- One byte of a memory. -/
def Memory.read (m : Memory) (a : Nat) : Byte := sget byteDflt m a

/-- Writes one byte. -/
def Memory.write (m : Memory) (a : Nat) (b : Byte) : Memory := sput byteDflt m a b

/-- The canonical form of a memory. -/
def Memory.wf (m : Memory) : Bool := swf byteDflt m

/-- The `n` bytes from an address, lowest first. -/
def Memory.readBytes (m : Memory) (a : Nat) : Nat → List Byte
  | 0 => []
  | n + 1 => m.read a :: m.readBytes (a + 1) n

/-- Writes bytes from an address, lowest first. -/
def Memory.writeBytes (m : Memory) (a : Nat) : List Byte → Memory
  | [] => m
  | b :: bs => (m.write a b).writeBytes (a + 1) bs

/-- Sets every byte from an address over a length to 0. -/
def Memory.clear (m : Memory) (a n : Nat) : Memory := m.filter (fun p => ¬ (a ≤ p.1 ∧ p.1 < a + n))

/-- Little-endian read of `n` bytes as a number. -/
def Memory.readLe (m : Memory) (a : Nat) : Nat → Nat
  | 0 => 0
  | n + 1 => (m.read a).toNat + 256 * m.readLe (a + 1) n

end Sys2Proof.Machine
end

