-- ==== Sys2Proof/Machine/Ops.lean ====
section
/-! DEFINITION. The named operations over the module's state: the register file and its fields, the time,
the event records that a command presents, and the shape of every meaning. -/

namespace Sys2Proof.Machine

/-! ### The register file (R3, R6, R483) -/

/-- Reset values of the registers whose reset value is not 0 (R6). DESIGN CHOICE (log 2). -/
def resetWord (off : Nat) : Word :=
  if off < 0x10000 then
    (if off = 0x0 then 0x00430C08            -- IDENT (R117)
     else if off = 0xC then 0x01110A14       -- MAP_INFO (R489)
     else if off = 0x84 then 0x80            -- SADDLE.SEATED (R44)
     else if off = 0x94 then 0xFF            -- TRIAD_LAST (R156)
     else if off = 0xF4 then 0x00FFFFFF      -- SAFE_DEMAND (R312)
     else 0)
  else if off < 0x12400 then                 -- FAB (R87)
    (let r := (off - 0x10000) % 0x400
     let n := (off - 0x10000) / 0x400
     if r = 0x0 then (if n = 1 ∨ n = 4 ∨ n = 7 then 0x400 else 0)
     else if r = 0x4 then 0xFFFF0000
     else if r = 0x8 then 0x80000000
     else if r = 0x20 then
       BitVec.ofNat 32 (((n / 3) * 48 + (n % 3) * 4) + ((n / 3) * 48 + (n % 3) * 4 + 39) * 256)
     else if r = 0x24 then 0xFF00
     else if r = 0x28 then 0x5DC
     else 0)
  else if 0x100000 ≤ off ∧ off < 0x109000 then -- TILE (R88)
    (let r := (off - 0x100000) % 0x100
     let t := (off - 0x100000) / 0x100
     let x := t % 12
     let y := t / 12
     if r = 0x4 then
       BitVec.ofNat 32 (x + y * 2 ^ 4 + ((y / 4) * 3 + x / 4) * 2 ^ 8 + (if 6 ≤ x then 2 ^ 12 else 0)
         + ((y % 4) * 4 + x % 4) * 2 ^ 16 + t * 2 ^ 20)
     else if r = 0x18 then
       BitVec.ofNat 32 ((if y = 11 then 3 else 0) + (if x = 11 then 3 * 4 else 0)
         + (if y = 0 then 3 * 16 else 0) + (if x = 0 then 3 * 64 else 0))
     else 0)
  else if off = 0x301008 then 0x100          -- RING.CONFIG.DIRECTION of ring B (R361)
  else if off = 0x310010 then 0x100          -- TWIN.ELIG (R341)
  else if off = 0x320008 then 0x800          -- TIME.CONFIG, factory (R379)
  else if off = 0x32000C then 0x3E0          -- TIME.PTP_CONFIG, factory (R379)
  else if off = 0x400058 then 0x3E8          -- EVREC.REPEAT_WIN, factory (R443)
  else if 0x500000 ≤ off ∧ off < 0x504000 ∧ (off - 0x500000) % 0x1000 = 0x9C then
    BitVec.ofNat 32 ((off - 0x500000) / 0x1000) -- CAN.IDENT.PORT (R420)
  else if 0x620000 ≤ off ∧ off < 0x620200 ∧ (off - 0x620000) % 0x10 = 0xC then 0x80007FFF -- FAI.MINMAX (R401)
  else 0

/-- The bits of a field within its register. -/
def Fld.mask (f : Fld) : Nat := (2 ^ f.wd - 1) * 2 ^ f.lo

/-- A word with a field set to a value modulo the field's width. -/
def setField (w : Word) (f : Fld) (v : Nat) : Word :=
  BitVec.ofNat 32 (w.toNat - (w.toNat / 2 ^ f.lo % 2 ^ f.wd) * 2 ^ f.lo + (v % 2 ^ f.wd) * 2 ^ f.lo)

/-- The stored word of a register. -/
def Dev.word (d : Dev) (off : Nat) : Word := sget resetWord d.regs off

/-- Stores a word in a register. -/
def Dev.putWord (d : Dev) (off : Nat) (w : Word) : Dev := { d with regs := sput resetWord d.regs off w }

/-- The value of a field. -/
def Dev.rd (d : Dev) (f : Fld) : Nat := (d.word f.off).toNat / 2 ^ f.lo % 2 ^ f.wd

/-- Sets a field. -/
def Dev.wr (d : Dev) (f : Fld) (v : Nat) : Dev := d.putWord f.off (setField (d.word f.off) f v)

/-- Whether a field is not 0. -/
def Dev.on (d : Dev) (f : Fld) : Bool := d.rd f != 0

/-- Sets a field to 1, to 0, or to a truth value. -/
def Dev.raise (d : Dev) (f : Fld) : Dev := d.wr f 1
def Dev.drop (d : Dev) (f : Fld) : Dev := d.wr f 0
def Dev.flag (d : Dev) (f : Fld) (b : Bool) : Dev := d.wr f (if b then 1 else 0)

/-- A signed value stored in a field. -/
def Dev.wrInt (d : Dev) (f : Fld) (v : Int) : Dev := d.wr f (v % (2 ^ f.wd : Nat)).toNat

/-- The signed value of a field. -/
def Dev.rdInt (d : Dev) (f : Fld) : Int :=
  let n := d.rd f
  if n < 2 ^ (f.wd - 1) then n else (n : Int) - (2 ^ f.wd : Nat)

/-- A counter that saturates at the field's largest value. -/
def Dev.addSat (d : Dev) (f : Fld) (k : Nat) : Dev := d.wr f (min (d.rd f + k) (2 ^ f.wd - 1))
def Dev.incSat (d : Dev) (f : Fld) : Dev := d.addSat f 1

/-- A counter that wraps. -/
def Dev.incWrap (d : Dev) (f : Fld) : Dev := d.wr f (d.rd f + 1)

/-- Stores a value limited to the field's range. -/
def Dev.wrSat (d : Dev) (f : Fld) (v : Nat) : Dev := d.wr f (min v (2 ^ f.wd - 1))

/-- Keeps the highest of the field and a value limited to its range. -/
def Dev.maxTo (d : Dev) (f : Fld) (v : Nat) : Dev := d.wr f (max (d.rd f) (min v (2 ^ f.wd - 1)))

/-- A 64-bit value held in a register and the one that follows. -/
def Dev.wr64 (d : Dev) (lo hi : Fld) (v : DWord) : Dev :=
  (d.wr lo (v.toNat % 2 ^ 32)).wr hi (v.toNat / 2 ^ 32)
def Dev.rd64 (d : Dev) (lo hi : Fld) : DWord := BitVec.ofNat 64 (d.rd lo + d.rd hi * 2 ^ 32)

/-- Sets several fields to 0. -/
def Dev.clear (d : Dev) (fs : List Fld) : Dev := fs.foldl Dev.drop d

/-- A change made only under a condition. -/
def Dev.when (d : Dev) (c : Bool) (f : Dev → Dev) : Dev := if c then f d else d

/-- Repeats a change for each number below `n`, in rising order. -/
def Dev.each (d : Dev) (n : Nat) (f : Nat → Dev → Dev) : Dev := (List.range n).foldl (fun d k => f k d) d

/-! ### The order with wrap and the time (R131, R363) -/

/-- a is later than b, for values of 32 bits that wrap (R131). -/
def later (a b : Word) : Bool :=
  let k := (a - b).toNat
  decide (1 ≤ k) && decide (k ≤ 2 ^ 31 - 1)

/-- The corrected time at a counter value (R363). -/
def TimeSt.at_ (t : TimeSt) (c : DWord) : DWord :=
  let d := c - t.c0
  t.offset + d + BitVec.ofInt 64 (((d.toNat : Int) * t.rate + 2 ^ 39) / 2 ^ 40)

/-- The corrected time T now. -/
def Dev.timeT (d : Dev) : DWord := d.time.at_ d.time.counter

/-- The counter now. -/
def Dev.now (d : Dev) : DWord := d.time.counter

/-- Nanoseconds of counter since a counter value. DESIGN CHOICE (log 6). -/
def Dev.since (d : Dev) (c : DWord) : Nat := (d.time.counter - c).toNat

/-! ### Roles -/

/-- ACTIVE or SOLO: a commanding role (R9). -/
def Role.commanding (r : Role) : Bool := r = .active || r = .solo

/-- A role in which cycles run. -/
def Role.runs (r : Role) : Bool := r = .active || r = .solo || r = .standby

/-- The code of `TWIN.STATUS.ROLE` (R341). -/
def Role.code : Role → Nat
  | .stopped => 0
  | .active => 1
  | .standby => 2
  | .solo => 3
  | .safetyMaint => 4
  | .starting => 5

/-- The role that a code names. -/
def Role.ofCode : Nat → Option Role
  | 0 => some .stopped
  | 1 => some .active
  | 2 => some .standby
  | 3 => some .solo
  | 4 => some .safetyMaint
  | 5 => some .starting
  | _ => none

/-- The electronics are powered, reset is not asserted, and the firmware runs. -/
def Dev.alive (d : Dev) : Bool := d.power.powered && !d.power.inReset && d.power.start.firmware

/-- The electronics are powered and reset is not asserted. -/
def Dev.lit (d : Dev) : Bool := d.power.powered && !d.power.inReset

/-- From the commit of a power failure on, heartbeats, ring output frames and gate-link command frames have stopped
(R54). -/
def Dev.committed (d : Dev) : Bool :=
  match d.power.pf with
  | .idle | .rideThrough => false
  | .committed | .saving | .journalling => true

/-! ### Event records (R421 to R424) -/

/-- The plane that presents each event (R13, R421). DEDUCED (log 10). -/
def Ev.plane : Ev → Plane
  | .bridleFault | .tbPartnerSilent | .tbSelfFail | .trip | .safeFault | .soLockout
  | .safeDegraded | .degradedExpiring | .degradedExpired | .safeChannelBack => .bridle
  | .histBacklog | .histRebuilt | .histSetFailed | .histStopped | .histUnmirrored => .data
  | .approval | .authFail | .keeperChanged | .keeperCoverOpen | .keeperRequired | .ownerEnrolled
  | .pendingState | .calInvalid | .calWritten | .fuseRepair | .flashPoolLow | .flashWorn | .hrnSwitched
  | .hrnFallbackSlot | .hrnPartnerSlot | .hrnPointerLost | .noImage | .positionChanged
  | .positionCode | .repairExhausted | .repairMapLost => .management
  | _ => .control

/-- A SOURCE of a class and an instance (R423). DEDUCED (log 11). -/
def source (cls inst : Nat) : BitVec 16 := BitVec.ofNat 16 (cls * 4096 + inst % 4096)

/-- Presents a record to the event recorder, with the parameters the manual states; each of the others
is a free value (R422). DESIGN CHOICE (log 4). -/
def Dev.event (d : Dev) (e : Ev) (src : BitVec 16) (ps : List Word := []) : Dev :=
  let p (k : Nat) : Word := (ps[k]?).getD (Config.eventParam e k d.free)
  let r : EvRec :=
    { code := e, sev := e.severity, plane := e.plane, src := src, p0 := p 0, p1 := p 1, p2 := p 2
      tFirst := d.timeT, tLast := d.timeT, presentedAt := d.now }
  { d with evrec := { d.evrec with presented := d.evrec.presented ++ [r] }, free := d.free + 1 }

/-- An event of the module itself (class 0). -/
def Dev.eventM (d : Dev) (e : Ev) (ps : List Word := []) : Dev := d.event e (source 0 0) ps

/-! ### The configuration flash when its pool is empty (R475) -/

/-- No replacement block remains. DEDUCED (log 37). -/
def Dev.poolEmpty (d : Dev) : Bool := d.life.pool = 0

/-- A write to the flash has failed for want of a replacement block: WORN, with its event (R475). -/
def Dev.wornFlash (d : Dev) : Dev :=
  if d.on R.LIFE_FLASH_WORN then d else (d.raise R.LIFE_FLASH_WORN).eventM .flashWorn

/-- A write to a region of the flash; with no replacement block left it fails (R475). -/
def Dev.flashWrite (d : Dev) (f : Dev → Dev) : Dev := if d.poolEmpty then d.wornFlash else f d

/-! ### The shape of a meaning -/

/-- Every meaning changes the module alone and leaves the queue as it is. DESIGN CHOICE (log 5). -/
def State.act (s : State) (f : Dev → Dev) : Host.Outcome State Fault Refusal := .next { s with dev := f s.dev }

/-- A meaning whose operands must be well formed; operands that no sender can send change nothing.
DESIGN CHOICE (log 7). -/
def State.actIf (s : State) (wellFormed : Bool) (f : Dev → Dev) : Host.Outcome State Fault Refusal :=
  s.act fun d => if wellFormed then f d else d

/-- A word of a number. -/
def w32 (n : Nat) : Word := BitVec.ofNat 32 n

/-- 1 for a true condition. -/
def bit (b : Bool) : Nat := if b then 1 else 0

/-- Bit `k` of a number. -/
def testBit (n k : Nat) : Bool := n / 2 ^ k % 2 = 1

/-- A number with bit `k` set or cleared. -/
def putBit (n k : Nat) (b : Bool) : Nat := n - (n / 2 ^ k % 2) * 2 ^ k + bit b * 2 ^ k

end Sys2Proof.Machine
end

