-- ==== Sys2Proof/Machine/RegMap.lean ====
section
/-! DEFINITION. The register map with its access codes (R3, R483): for each register its offset, its
instances and strides, and its fields as (lowest bit, width, access code). A bit that no field lists is
reserved (R4); an offset that no row lists is a hole of its block's span or unmapped (R484). -/

namespace Sys2Proof.Machine

/-- The access codes of R3. -/
inductive Acc where
  | ro | rw | w1c | w1s | wo | rwl | ros
  deriving DecidableEq, Repr

/-- One row of the register map: instances `i < n1` at stride `s1` and indices `j < n2` at stride `s2`. -/
structure RegRow where
  base : Nat
  n1 : Nat
  s1 : Nat
  n2 : Nat
  s2 : Nat
  fields : List (Nat × Nat × Acc)
  deriving DecidableEq, Repr

/-- MOD: KEEPER, SADDLE, POWER, IDENT, FW_VERSION, SERIAL, HRN_SLOT, HRN_BOOT, HRN_FP, HRN_STAGE, HRN_EPOCH, TRIAD. -/
def mapMod0 : List RegRow :=
  [⟨0x80, 1, 0x10000, 1, 0x4, [(0, 8, .ro), (8, 1, .ro), (9, 1, .w1c), (10, 3, .ro), (13, 1, .ro), (14, 1, .ros)]⟩,
   ⟨0x84, 1, 0x10000, 1, 0x4, [(0, 3, .ro), (3, 1, .ro), (4, 1, .ro), (5, 1, .ro), (6, 1, .ro), (7, 1, .ro), (8, 1, .ros), (9, 1, .ro), (10, 1, .ro)]⟩,
   ⟨0x88, 1, 0x10000, 1, 0x4, [(0, 1, .ro), (1, 1, .ro), (2, 1, .w1c), (3, 1, .w1c), (4, 1, .ro), (5, 1, .w1c), (6, 1, .ro), (7, 1, .wo), (8, 1, .ro), (9, 1, .ro), (10, 1, .ro), (11, 1, .ro), (16, 8, .ro), (24, 1, .ro), (25, 1, .ros)]⟩,
   ⟨0x0, 1, 0x10000, 1, 0x4, [(0, 16, .ro), (16, 8, .ro)]⟩,
   ⟨0x4, 1, 0x10000, 1, 0x4, [(0, 8, .ro), (8, 8, .ro), (16, 16, .ro)]⟩,
   ⟨0x8, 1, 0x10000, 1, 0x4, [(0, 32, .ro)]⟩,
   ⟨0x40, 1, 0x10000, 4, 0x4, [(0, 2, .ro), (2, 1, .ro), (3, 1, .ro), (4, 1, .ro), (8, 4, .ro), (16, 16, .ro)]⟩,
   ⟨0x50, 1, 0x10000, 1, 0x4, [(0, 2, .ro), (2, 2, .ro), (4, 1, .ro), (5, 1, .ro), (6, 1, .ro)]⟩,
   ⟨0x54, 1, 0x10000, 4, 0x4, [(0, 32, .ro)]⟩,
   ⟨0x64, 1, 0x10000, 1, 0x4, [(0, 4, .ro), (4, 2, .ro), (6, 2, .ro), (8, 8, .ro), (16, 8, .ro), (24, 8, .ro)]⟩,
   ⟨0x68, 1, 0x10000, 1, 0x4, [(0, 32, .ro)]⟩,
   ⟨0x90, 1, 0x10000, 1, 0x4, [(0, 8, .ro), (8, 8, .ro), (16, 16, .ro)]⟩]

/-- MOD: TRIAD_LAST, PERF_SEL, PERF_DATA, CYCLE_CTRL, CYCLE_STATUS, CYCLE_LIMIT, CYCLE_LAST, CYCLE_MAX, CYCLE_NUM_LO, CYCLE_NUM_HI, CMD_STATUS, AWL_CTRL. -/
def mapMod1 : List RegRow :=
  [⟨0x94, 1, 0x10000, 1, 0x4, [(0, 8, .ro), (8, 3, .ro), (11, 4, .ro), (15, 1, .ro)]⟩,
   ⟨0xA0, 1, 0x10000, 1, 0x4, [(0, 8, .rw), (8, 3, .rw), (16, 4, .rw), (30, 1, .ro), (31, 1, .wo)]⟩,
   ⟨0xA4, 1, 0x10000, 1, 0x4, [(0, 32, .ro)]⟩,
   ⟨0xB0, 1, 0x10000, 1, 0x4, [(0, 1, .rw), (1, 1, .wo)]⟩,
   ⟨0xB4, 1, 0x10000, 1, 0x4, [(0, 1, .ro), (1, 1, .ro), (2, 1, .ro), (3, 2, .ro), (5, 1, .ro), (6, 2, .ro), (8, 1, .ros), (9, 1, .ros), (10, 1, .ros), (16, 16, .ro)]⟩,
   ⟨0xB8, 1, 0x10000, 1, 0x4, [(0, 16, .ro), (16, 16, .ro)]⟩,
   ⟨0xBC, 1, 0x10000, 1, 0x4, [(0, 32, .ro)]⟩,
   ⟨0xC0, 1, 0x10000, 1, 0x4, [(0, 32, .ro)]⟩,
   ⟨0xC4, 1, 0x10000, 1, 0x4, [(0, 32, .ro)]⟩,
   ⟨0xC8, 1, 0x10000, 1, 0x4, [(0, 32, .ro)]⟩,
   ⟨0xCC, 1, 0x10000, 1, 0x4, [(0, 8, .ro), (8, 1, .ros), (16, 16, .ro)]⟩,
   ⟨0xD0, 1, 0x10000, 1, 0x4, [(0, 6, .rw), (8, 2, .rw), (10, 1, .wo), (11, 1, .wo), (12, 1, .wo), (16, 16, .rw)]⟩]

/-- MOD: AWL_INJ, AWL_AMP, AWL_FREQ, AWL_NODES, AWL_STATUS, SAFE_STATUS, SAFE_DEMAND, SAFE_FAULT, SAFE_OUT, SAFE_STOP, SAFE_DEGR, MAP_INFO. -/
def mapMod2 : List RegRow :=
  [⟨0xD4, 1, 0x10000, 1, 0x4, [(0, 8, .rw), (8, 2, .rw), (10, 4, .rw), (16, 16, .rw)]⟩,
   ⟨0xD8, 1, 0x10000, 1, 0x4, [(0, 16, .rw)]⟩,
   ⟨0xDC, 1, 0x10000, 1, 0x4, [(0, 32, .rw)]⟩,
   ⟨0xE0, 1, 0x10000, 1, 0x4, [(0, 8, .rw), (8, 8, .rw), (16, 8, .rw), (24, 8, .rw)]⟩,
   ⟨0xE4, 1, 0x10000, 1, 0x4, [(0, 2, .ro), (2, 1, .ro), (3, 1, .ros), (4, 1, .w1c), (15, 17, .ro)]⟩,
   ⟨0xF0, 1, 0x10000, 1, 0x4, [(0, 3, .ro), (3, 3, .ro), (6, 1, .ro), (7, 1, .ro), (8, 1, .ro), (9, 1, .ro), (10, 1, .ros), (11, 1, .ro), (12, 1, .ro), (16, 16, .ro)]⟩,
   ⟨0xF4, 1, 0x10000, 1, 0x4, [(0, 24, .ro)]⟩,
   ⟨0xF8, 1, 0x10000, 1, 0x4, [(0, 24, .ro), (24, 5, .ro), (29, 3, .ro)]⟩,
   ⟨0xFC, 1, 0x10000, 1, 0x4, [(0, 8, .ro), (8, 8, .ro), (16, 8, .ro), (24, 3, .ro), (27, 3, .ro)]⟩,
   ⟨0x100, 1, 0x10000, 1, 0x4, [(0, 2, .ro), (2, 1, .ro), (3, 1, .ro), (8, 2, .ro), (10, 1, .ro), (11, 1, .ro), (16, 2, .ro), (18, 1, .ro), (19, 1, .ro), (24, 2, .ro), (26, 1, .ro), (27, 1, .ro)]⟩,
   ⟨0x104, 1, 0x10000, 1, 0x4, [(0, 32, .ro)]⟩,
   ⟨0xC, 1, 0x10000, 1, 0x4, [(0, 16, .ro), (16, 8, .ro), (24, 8, .ro)]⟩]

/-- MOD: RESET_CAUSE, UPTIME_LO, UPTIME_HI, ACCESS_ERR, ACCESS_ADDR, SCRATCH. -/
def mapMod3 : List RegRow :=
  [⟨0x10, 1, 0x10000, 1, 0x4, [(0, 4, .ro), (16, 16, .ro)]⟩,
   ⟨0x14, 1, 0x10000, 1, 0x4, [(0, 32, .ro)]⟩,
   ⟨0x18, 1, 0x10000, 1, 0x4, [(0, 32, .ro)]⟩,
   ⟨0x1C, 1, 0x10000, 1, 0x4, [(0, 16, .ro), (16, 16, .ro)]⟩,
   ⟨0x20, 1, 0x10000, 1, 0x4, [(0, 24, .ro), (24, 1, .ro), (25, 1, .ro)]⟩,
   ⟨0x24, 1, 0x10000, 1, 0x4, [(0, 32, .rw)]⟩]

/-- FAB: STATUS, RAIL, TEMP, PACE, PACE_MAX, LINK_FAIL, LINK_DEGR, RETRY, IOPORT, SPARE, THRESH, CMD. -/
def mapFab0 : List RegRow :=
  [⟨0x10000, 9, 0x400, 1, 0x4, [(0, 1, .ro), (1, 1, .ro), (2, 1, .ro), (3, 1, .ro), (4, 1, .ros), (5, 1, .ros), (6, 1, .w1c), (7, 1, .ros), (8, 1, .ro), (9, 1, .ro), (10, 1, .ro), (11, 1, .ros)]⟩,
   ⟨0x10004, 9, 0x400, 1, 0x4, [(0, 16, .ro), (16, 16, .ro)]⟩,
   ⟨0x10008, 9, 0x400, 1, 0x4, [(0, 16, .ro), (16, 16, .ro)]⟩,
   ⟨0x1000C, 9, 0x400, 1, 0x4, [(0, 16, .ro), (16, 8, .ro)]⟩,
   ⟨0x10010, 9, 0x400, 1, 0x4, [(0, 16, .ro), (16, 8, .ro)]⟩,
   ⟨0x10014, 9, 0x400, 1, 0x4, [(0, 32, .ro)]⟩,
   ⟨0x10018, 9, 0x400, 1, 0x4, [(0, 32, .ro)]⟩,
   ⟨0x1001C, 9, 0x400, 1, 0x4, [(0, 32, .ro)]⟩,
   ⟨0x10020, 9, 0x400, 1, 0x4, [(0, 8, .ro), (8, 8, .ro), (16, 1, .ro)]⟩,
   ⟨0x10024, 9, 0x400, 1, 0x4, [(0, 8, .ro), (8, 8, .ro), (16, 1, .ro)]⟩,
   ⟨0x10028, 9, 0x400, 1, 0x4, [(0, 16, .rw)]⟩,
   ⟨0x1002C, 9, 0x400, 1, 0x4, [(0, 1, .wo), (1, 1, .wo), (2, 1, .wo)]⟩]

/-- TILE: STATUS, POS, PACE, FAULT, MISCNT, ECC, PORTS, RETRY. -/
def mapTile0 : List RegRow :=
  [⟨0x100000, 144, 0x100, 1, 0x4, [(0, 2, .ro), (2, 3, .ro), (5, 1, .ro), (6, 1, .ro), (7, 1, .ro), (8, 1, .ro), (9, 1, .ro)]⟩,
   ⟨0x100004, 144, 0x100, 1, 0x4, [(0, 4, .ro), (4, 4, .ro), (8, 4, .ro), (12, 1, .ro), (16, 4, .ro), (20, 8, .ro)]⟩,
   ⟨0x100008, 144, 0x100, 1, 0x4, [(0, 16, .ro), (16, 16, .ro)]⟩,
   ⟨0x10000C, 144, 0x100, 1, 0x4, [(0, 1, .w1c), (1, 1, .w1c), (2, 1, .ros), (3, 1, .ros), (4, 1, .ros), (5, 1, .ros), (6, 1, .w1c), (8, 3, .ro)]⟩,
   ⟨0x100010, 144, 0x100, 1, 0x4, [(0, 8, .ro), (8, 8, .ro), (16, 8, .ro)]⟩,
   ⟨0x100014, 144, 0x100, 1, 0x4, [(0, 10, .ro), (10, 10, .ro), (20, 10, .ro)]⟩,
   ⟨0x100018, 144, 0x100, 1, 0x4, [(0, 2, .ro), (2, 2, .ro), (4, 2, .ro), (6, 2, .ro), (8, 2, .ro)]⟩,
   ⟨0x10001C, 144, 0x100, 1, 0x4, [(0, 32, .ro)]⟩]

/-- LOOP: CTRL, STATUS, CONFIG, PERIOD, TIME, COUNT. -/
def mapLoop0 : List RegRow :=
  [⟨0x200000, 48, 0x40, 1, 0x4, [(0, 1, .wo), (1, 1, .wo), (2, 1, .wo)]⟩,
   ⟨0x200004, 48, 0x40, 1, 0x4, [(0, 4, .ro), (8, 1, .ros), (9, 1, .ros), (10, 1, .ros), (11, 1, .ros), (12, 1, .ros), (13, 1, .ros), (16, 2, .ro), (24, 4, .ro)]⟩,
   ⟨0x200008, 48, 0x40, 1, 0x4, [(0, 8, .ro), (8, 2, .ro), (10, 4, .ro), (14, 6, .ro), (20, 2, .ro), (22, 1, .ro)]⟩,
   ⟨0x20000C, 48, 0x40, 1, 0x4, [(0, 20, .ro), (20, 11, .ro)]⟩,
   ⟨0x200010, 48, 0x40, 1, 0x4, [(0, 16, .ro), (16, 16, .ro)]⟩,
   ⟨0x200014, 48, 0x40, 1, 0x4, [(0, 16, .ro), (16, 16, .ro)]⟩]

/-- GLINK: CTRL, STATUS, CONFIG, FRAME, RX_FRAME, ERRORS, EPOCH, GU_STATUS. -/
def mapGlink0 : List RegRow :=
  [⟨0x210000, 12, 0x40, 1, 0x4, [(0, 1, .wo)]⟩,
   ⟨0x210004, 12, 0x40, 1, 0x4, [(0, 1, .ro), (1, 1, .ro), (2, 1, .ro), (3, 1, .ro), (4, 1, .ro), (5, 1, .ro), (6, 1, .ros), (7, 1, .w1c)]⟩,
   ⟨0x210008, 12, 0x40, 1, 0x4, [(0, 16, .ro), (16, 8, .ro), (24, 8, .ro)]⟩,
   ⟨0x21000C, 12, 0x40, 1, 0x4, [(0, 32, .ro)]⟩,
   ⟨0x210010, 12, 0x40, 1, 0x4, [(0, 32, .ro)]⟩,
   ⟨0x210014, 12, 0x40, 1, 0x4, [(0, 16, .ro), (16, 16, .ro)]⟩,
   ⟨0x210018, 12, 0x40, 1, 0x4, [(0, 32, .ro)]⟩,
   ⟨0x21001C, 12, 0x40, 1, 0x4, [(0, 8, .ro)]⟩]

/-- BRIDLE: STATUS, PARAM, PARAM_CRC, FAULT, EQ_TRUE_LO, EQ_TRUE_HI, EQ_LATCH_LO, EQ_LATCH_HI, COMP_HI, COMP_LO, OUTPUTS, INPUTS. -/
def mapBridle0 : List RegRow :=
  [⟨0x700000, 1, 0x10000, 1, 0x4, [(0, 1, .ro), (1, 1, .ro), (2, 1, .ro), (3, 1, .ro), (4, 1, .ro), (5, 1, .ro), (6, 1, .ro), (7, 1, .ro), (16, 16, .ro)]⟩,
   ⟨0x700004, 1, 0x10000, 1, 0x4, [(0, 16, .ro), (16, 7, .ro)]⟩,
   ⟨0x700008, 1, 0x10000, 1, 0x4, [(0, 32, .ro)]⟩,
   ⟨0x70000C, 1, 0x10000, 1, 0x4, [(0, 8, .ro), (8, 8, .ro)]⟩,
   ⟨0x700010, 1, 0x10000, 1, 0x4, [(0, 32, .ro)]⟩,
   ⟨0x700014, 1, 0x10000, 1, 0x4, [(0, 32, .ro)]⟩,
   ⟨0x700018, 1, 0x10000, 1, 0x4, [(0, 32, .ro)]⟩,
   ⟨0x70001C, 1, 0x10000, 1, 0x4, [(0, 32, .ro)]⟩,
   ⟨0x700028, 1, 0x10000, 1, 0x4, [(0, 32, .ro)]⟩,
   ⟨0x70002C, 1, 0x10000, 1, 0x4, [(0, 32, .ro)]⟩,
   ⟨0x700020, 1, 0x10000, 1, 0x4, [(0, 16, .ro), (16, 12, .ro), (28, 4, .ro)]⟩,
   ⟨0x700024, 1, 0x10000, 1, 0x4, [(0, 16, .ro), (16, 16, .ro)]⟩]

/-- BRIDLE: LOOPREQ_LO, LOOPREQ_HI, TRIPBUS, FIRST_OUT, COMP_THR, COMP_STATE, EQ_MASK, DIAG_STATUS, DIAG_PASSES, OSC, TO_MON, TRIP_COUNT. -/
def mapBridle1 : List RegRow :=
  [⟨0x700030, 1, 0x10000, 1, 0x4, [(0, 32, .ro)]⟩,
   ⟨0x700034, 1, 0x10000, 1, 0x4, [(0, 16, .ro)]⟩,
   ⟨0x700038, 1, 0x10000, 1, 0x4, [(0, 4, .ro), (4, 1, .ro), (5, 1, .ro), (6, 1, .ro), (7, 1, .ro), (8, 6, .ro), (16, 16, .ro)]⟩,
   ⟨0x70003C, 1, 0x10000, 1, 0x4, [(0, 6, .ro), (6, 1, .ro)]⟩,
   ⟨0x700100, 1, 0x10000, 32, 0x8, [(0, 12, .ro), (16, 12, .ro), (28, 1, .ro), (29, 1, .ro)]⟩,
   ⟨0x700104, 1, 0x10000, 32, 0x8, [(0, 8, .ro), (8, 1, .ro), (9, 1, .ro), (10, 1, .ro), (11, 1, .ro), (16, 16, .ro)]⟩,
   ⟨0x700200, 1, 0x10000, 64, 0x4, [(0, 16, .ro), (16, 12, .ro), (28, 4, .ro)]⟩,
   ⟨0x700300, 1, 0x10000, 1, 0x4, [(0, 8, .ro)]⟩,
   ⟨0x700304, 1, 0x10000, 1, 0x4, [(0, 32, .ro)]⟩,
   ⟨0x700308, 1, 0x10000, 1, 0x4, [(0, 16, .ro)]⟩,
   ⟨0x70030C, 1, 0x10000, 1, 0x4, [(0, 16, .ro)]⟩,
   ⟨0x700310, 1, 0x10000, 1, 0x4, [(0, 32, .ro)]⟩]

/-- BRIDLE: TB_POLLS, BLOCK_MON, START_CHECK, TO_TRIPS. -/
def mapBridle2 : List RegRow :=
  [⟨0x700314, 1, 0x10000, 1, 0x4, [(0, 32, .ro)]⟩,
   ⟨0x700318, 1, 0x10000, 1, 0x4, [(0, 12, .ro)]⟩,
   ⟨0x70031C, 1, 0x10000, 1, 0x4, [(0, 8, .ro), (16, 16, .ro)]⟩,
   ⟨0x700320, 1, 0x10000, 8, 0x4, [(0, 16, .ro), (16, 16, .ro)]⟩]

/-- TWIN: STATUS, IDENT, ELIG, HB, HB_MISS, GIRTH, SHADOW, FWD, DIVERGE, DIV_TILES, DIV_SLOTS_LO, DIV_SLOTS_HI. -/
def mapTwin0 : List RegRow :=
  [⟨0x310000, 1, 0x10000, 1, 0x4, [(0, 3, .ro), (3, 1, .ro), (4, 1, .ro), (5, 1, .ro), (6, 1, .ro), (7, 1, .ro), (8, 1, .ro), (9, 1, .w1c), (10, 1, .ros), (11, 1, .ro), (12, 1, .ros)]⟩,
   ⟨0x310004, 1, 0x10000, 1, 0x4, [(0, 1, .ro), (1, 3, .ro), (8, 1, .ro), (9, 3, .ro), (12, 1, .ro)]⟩,
   ⟨0x310010, 1, 0x10000, 1, 0x4, [(0, 9, .ro)]⟩,
   ⟨0x310014, 1, 0x10000, 1, 0x4, [(0, 16, .ro), (16, 16, .ro)]⟩,
   ⟨0x310018, 1, 0x10000, 1, 0x4, [(0, 16, .ro), (16, 16, .ro)]⟩,
   ⟨0x31001C, 1, 0x10000, 1, 0x4, [(0, 1, .ro), (1, 1, .ro), (8, 8, .ro), (16, 16, .ro)]⟩,
   ⟨0x310020, 1, 0x10000, 1, 0x4, [(0, 8, .ro), (8, 8, .ro)]⟩,
   ⟨0x31006C, 1, 0x10000, 1, 0x4, [(0, 16, .ro), (16, 16, .ro)]⟩,
   ⟨0x310024, 1, 0x10000, 1, 0x4, [(0, 16, .ro), (16, 8, .ro), (24, 4, .ro)]⟩,
   ⟨0x310070, 1, 0x10000, 5, 0x4, [(0, 32, .ro)]⟩,
   ⟨0x310084, 1, 0x10000, 1, 0x4, [(0, 32, .ro)]⟩,
   ⟨0x310088, 1, 0x10000, 1, 0x4, [(0, 16, .ro)]⟩]

/-- TWIN: COPY, COPY_TIME, COPY_BYTES, TAKEOVERS, LAST_TAKEOVER, TAKE_T_LO, TAKE_T_HI, DUAL_CMD, SWAP, SWAP_CYCLE, TOKENS, TOKEN_TIME. -/
def mapTwin1 : List RegRow :=
  [⟨0x310028, 1, 0x10000, 1, 0x4, [(0, 2, .ro), (8, 8, .ro), (16, 16, .ro)]⟩,
   ⟨0x31002C, 1, 0x10000, 1, 0x4, [(0, 16, .ro), (16, 16, .ro)]⟩,
   ⟨0x31009C, 1, 0x10000, 1, 0x4, [(0, 32, .ro)]⟩,
   ⟨0x310030, 1, 0x10000, 1, 0x4, [(0, 16, .ro), (16, 16, .ro)]⟩,
   ⟨0x310034, 1, 0x10000, 1, 0x4, [(0, 3, .ro), (16, 16, .ro)]⟩,
   ⟨0x310038, 1, 0x10000, 1, 0x4, [(0, 32, .ro)]⟩,
   ⟨0x31003C, 1, 0x10000, 1, 0x4, [(0, 32, .ro)]⟩,
   ⟨0x310068, 1, 0x10000, 1, 0x4, [(0, 16, .ro), (16, 16, .ro)]⟩,
   ⟨0x310094, 1, 0x10000, 1, 0x4, [(0, 2, .ro), (2, 1, .ro)]⟩,
   ⟨0x310098, 1, 0x10000, 1, 0x4, [(0, 32, .ro)]⟩,
   ⟨0x310064, 1, 0x10000, 1, 0x4, [(0, 8, .ro), (8, 8, .ro)]⟩,
   ⟨0x31008C, 1, 0x10000, 1, 0x4, [(0, 16, .ro), (16, 16, .ro)]⟩]

/-- TWIN: PARTNER_FP, PARTNER_FW, PARTNER_STATE, TIME_SKEW, MIXED, CMD, EPOCH, PARTNER_EPOCH, STATION_EPOCH. -/
def mapTwin2 : List RegRow :=
  [⟨0x31004C, 1, 0x10000, 4, 0x4, [(0, 32, .ro)]⟩,
   ⟨0x31005C, 1, 0x10000, 1, 0x4, [(0, 8, .ro), (8, 8, .ro), (16, 3, .ro)]⟩,
   ⟨0x310060, 1, 0x10000, 1, 0x4, [(0, 3, .ro), (3, 1, .ro), (4, 1, .ro), (5, 1, .ro), (16, 16, .ro)]⟩,
   ⟨0x310040, 1, 0x10000, 1, 0x4, [(0, 32, .ro)]⟩,
   ⟨0x310044, 1, 0x10000, 1, 0x4, [(0, 11, .ro), (11, 1, .ros), (12, 1, .ro)]⟩,
   ⟨0x310048, 1, 0x10000, 1, 0x4, [(0, 1, .wo), (1, 1, .wo)]⟩,
   ⟨0x310008, 1, 0x10000, 1, 0x4, [(0, 32, .ro)]⟩,
   ⟨0x31000C, 1, 0x10000, 1, 0x4, [(0, 32, .ro)]⟩,
   ⟨0x310090, 1, 0x10000, 1, 0x4, [(0, 32, .ro)]⟩]

/-- RING: STATUS, CTRL, CONFIG, PERIOD, TX_FRAMES, RX_FRAMES, ERRORS, DUP, FIRST, SEQ_REJECT, BREAK, BREAK_T. -/
def mapRing0 : List RegRow :=
  [⟨0x300000, 2, 0x1000, 1, 0x4, [(0, 1, .ro), (1, 1, .ro), (2, 1, .w1c), (3, 1, .ro), (4, 1, .ro), (5, 1, .w1c)]⟩,
   ⟨0x300004, 2, 0x1000, 1, 0x4, [(0, 1, .wo), (1, 1, .wo)]⟩,
   ⟨0x300008, 2, 0x1000, 1, 0x4, [(0, 8, .ro), (8, 1, .ro), (9, 3, .ro), (16, 16, .ro)]⟩,
   ⟨0x30000C, 2, 0x1000, 1, 0x4, [(0, 32, .ro)]⟩,
   ⟨0x300010, 2, 0x1000, 1, 0x4, [(0, 32, .ro)]⟩,
   ⟨0x300014, 2, 0x1000, 1, 0x4, [(0, 32, .ro)]⟩,
   ⟨0x300018, 2, 0x1000, 1, 0x4, [(0, 16, .ro), (16, 16, .ro)]⟩,
   ⟨0x30001C, 2, 0x1000, 1, 0x4, [(0, 32, .ro)]⟩,
   ⟨0x300020, 2, 0x1000, 1, 0x4, [(0, 32, .ro)]⟩,
   ⟨0x300024, 2, 0x1000, 1, 0x4, [(0, 16, .ro), (16, 16, .ro)]⟩,
   ⟨0x300028, 2, 0x1000, 1, 0x4, [(0, 8, .ro), (8, 1, .ro), (16, 16, .ro)]⟩,
   ⟨0x30002C, 2, 0x1000, 1, 0x4, [(0, 32, .ro)]⟩]

/-- RING: LOAD, RTT, HB, SAFETY, TWIN, PEER, SEC, SEC_ERR, RX_MAP, USED_MAP, DROP_MAP, RXLOST_MAP. -/
def mapRing1 : List RegRow :=
  [⟨0x300030, 2, 0x1000, 1, 0x4, [(0, 16, .ro), (16, 16, .ro)]⟩,
   ⟨0x300034, 2, 0x1000, 1, 0x4, [(0, 16, .ro), (16, 16, .ro)]⟩,
   ⟨0x300038, 2, 0x1000, 1, 0x4, [(0, 16, .ro), (16, 16, .ro)]⟩,
   ⟨0x30003C, 2, 0x1000, 1, 0x4, [(0, 16, .ro), (16, 16, .ro)]⟩,
   ⟨0x300040, 2, 0x1000, 1, 0x4, [(0, 16, .ro), (16, 16, .ro)]⟩,
   ⟨0x300044, 2, 0x1000, 1, 0x4, [(0, 16, .ro), (16, 16, .ro)]⟩,
   ⟨0x300048, 2, 0x1000, 1, 0x4, [(0, 2, .ro), (2, 2, .ro), (8, 8, .ro), (16, 16, .ro)]⟩,
   ⟨0x30004C, 2, 0x1000, 1, 0x4, [(0, 16, .ro), (16, 16, .ro)]⟩,
   ⟨0x300050, 2, 0x1000, 4, 0x4, [(0, 32, .ro)]⟩,
   ⟨0x300060, 2, 0x1000, 4, 0x4, [(0, 32, .ro)]⟩,
   ⟨0x300070, 2, 0x1000, 4, 0x4, [(0, 32, .ro)]⟩,
   ⟨0x300080, 2, 0x1000, 4, 0x4, [(0, 32, .ro)]⟩]

/-- RING: OTHER_MAP. -/
def mapRing2 : List RegRow :=
  [⟨0x300090, 2, 0x1000, 4, 0x4, [(0, 32, .ro)]⟩]

/-- TIME: STATUS, CTRL, CONFIG, PTP_CONFIG, T_LO, T_HI, COUNT_LO, COUNT_HI, OFFSET_LO, OFFSET_HI, C0_LO, C0_HI. -/
def mapTime0 : List RegRow :=
  [⟨0x320000, 1, 0x10000, 1, 0x4, [(0, 3, .ro), (3, 1, .ro), (4, 1, .ro), (5, 1, .ro), (6, 1, .ros), (7, 1, .ro), (8, 1, .ro)]⟩,
   ⟨0x320004, 1, 0x10000, 1, 0x4, [(0, 1, .wo), (1, 1, .wo), (2, 1, .wo), (3, 1, .wo)]⟩,
   ⟨0x320008, 1, 0x10000, 1, 0x4, [(0, 2, .rw), (8, 6, .rw), (16, 7, .rw)]⟩,
   ⟨0x32000C, 1, 0x10000, 1, 0x4, [(0, 2, .rw), (2, 3, .rw), (5, 3, .rw), (8, 4, .rw)]⟩,
   ⟨0x320010, 1, 0x10000, 1, 0x4, [(0, 32, .ro)]⟩,
   ⟨0x320014, 1, 0x10000, 1, 0x4, [(0, 32, .ro)]⟩,
   ⟨0x320018, 1, 0x10000, 1, 0x4, [(0, 32, .ro)]⟩,
   ⟨0x32001C, 1, 0x10000, 1, 0x4, [(0, 32, .ro)]⟩,
   ⟨0x320020, 1, 0x10000, 1, 0x4, [(0, 32, .ro)]⟩,
   ⟨0x320024, 1, 0x10000, 1, 0x4, [(0, 32, .ro)]⟩,
   ⟨0x320028, 1, 0x10000, 1, 0x4, [(0, 32, .ro)]⟩,
   ⟨0x32002C, 1, 0x10000, 1, 0x4, [(0, 32, .ro)]⟩]

/-- TIME: RATE, FREQ, ERROR, ERROR_MAX, STEP_LO, STEP_HI, SAMPLES, PPS, PPS_CAP_LO, PPS_CAP_HI, PTP_STATUS, PTP_DELAY. -/
def mapTime1 : List RegRow :=
  [⟨0x320030, 1, 0x10000, 1, 0x4, [(0, 32, .ro)]⟩,
   ⟨0x320034, 1, 0x10000, 1, 0x4, [(0, 32, .ro)]⟩,
   ⟨0x320038, 1, 0x10000, 1, 0x4, [(0, 32, .ro)]⟩,
   ⟨0x32003C, 1, 0x10000, 1, 0x4, [(0, 32, .ro)]⟩,
   ⟨0x320040, 1, 0x10000, 1, 0x4, [(0, 32, .ro)]⟩,
   ⟨0x320044, 1, 0x10000, 1, 0x4, [(0, 32, .ro)]⟩,
   ⟨0x320048, 1, 0x10000, 1, 0x4, [(0, 16, .ro), (16, 16, .ro)]⟩,
   ⟨0x32004C, 1, 0x10000, 1, 0x4, [(0, 16, .ro), (16, 16, .ro)]⟩,
   ⟨0x320050, 1, 0x10000, 1, 0x4, [(0, 32, .ro)]⟩,
   ⟨0x320054, 1, 0x10000, 1, 0x4, [(0, 32, .ro)]⟩,
   ⟨0x320058, 1, 0x10000, 1, 0x4, [(0, 4, .ro), (4, 3, .ro), (8, 8, .ro), (16, 16, .ro)]⟩,
   ⟨0x32005C, 1, 0x10000, 1, 0x4, [(0, 32, .ro)]⟩]

/-- TIME: TSQ_ID, TSQ_LO, TSQ_HI, TSQ_STATUS, FOLLOW, HOLDOVER, RESTARTS, OSC. -/
def mapTime2 : List RegRow :=
  [⟨0x320060, 1, 0x10000, 1, 0x4, [(0, 16, .ro), (16, 3, .ro), (19, 1, .ro)]⟩,
   ⟨0x320064, 1, 0x10000, 1, 0x4, [(0, 32, .ro)]⟩,
   ⟨0x320068, 1, 0x10000, 1, 0x4, [(0, 32, .ro)]⟩,
   ⟨0x32006C, 1, 0x10000, 1, 0x4, [(0, 6, .ro), (6, 1, .ros), (16, 16, .ro)]⟩,
   ⟨0x320070, 1, 0x10000, 1, 0x4, [(0, 16, .ro), (16, 1, .ro)]⟩,
   ⟨0x320074, 1, 0x10000, 1, 0x4, [(0, 32, .ro)]⟩,
   ⟨0x320078, 1, 0x10000, 1, 0x4, [(0, 16, .ro), (16, 16, .ro)]⟩,
   ⟨0x32007C, 1, 0x10000, 1, 0x4, [(0, 16, .ro), (16, 1, .ro)]⟩]

/-- DIO: STATUS, CTRL, DIR, OUT, READBACK, RAW, FILTER0, FILTER1, RISE, FALL, FAULTS, FAULT_T. -/
def mapDio0 : List RegRow :=
  [⟨0x600000, 1, 0x10000, 1, 0x4, [(0, 1, .ro), (1, 1, .w1c), (2, 1, .ro), (3, 4, .ro), (7, 1, .ro)]⟩,
   ⟨0x600004, 1, 0x10000, 1, 0x4, [(0, 1, .wo)]⟩,
   ⟨0x600008, 1, 0x10000, 1, 0x4, [(0, 32, .ro)]⟩,
   ⟨0x60000C, 1, 0x10000, 1, 0x4, [(0, 32, .ro)]⟩,
   ⟨0x600010, 1, 0x10000, 1, 0x4, [(0, 32, .ro)]⟩,
   ⟨0x600014, 1, 0x10000, 1, 0x4, [(0, 32, .ro)]⟩,
   ⟨0x600018, 1, 0x10000, 1, 0x4, [(0, 32, .ro)]⟩,
   ⟨0x60001C, 1, 0x10000, 1, 0x4, [(0, 32, .ro)]⟩,
   ⟨0x600020, 1, 0x10000, 1, 0x4, [(0, 32, .w1c)]⟩,
   ⟨0x600024, 1, 0x10000, 1, 0x4, [(0, 32, .w1c)]⟩,
   ⟨0x600028, 1, 0x10000, 1, 0x4, [(0, 16, .ro)]⟩,
   ⟨0x60002C, 1, 0x10000, 1, 0x4, [(0, 32, .ro)]⟩]

/-- DIO: FLD, CURRENT, RELEASE, LIMIT. -/
def mapDio1 : List RegRow :=
  [⟨0x600030, 1, 0x10000, 1, 0x4, [(0, 16, .ro), (16, 16, .ro)]⟩,
   ⟨0x600034, 1, 0x10000, 1, 0x4, [(0, 16, .ro), (16, 16, .ro)]⟩,
   ⟨0x600038, 1, 0x10000, 1, 0x4, [(0, 32, .ro)]⟩,
   ⟨0x60003C, 1, 0x10000, 1, 0x4, [(0, 16, .ro)]⟩]

/-- CLO: STATUS, CTRL, CONFIG, SET, READ, HART. -/
def mapClo0 : List RegRow :=
  [⟨0x610000, 16, 0x20, 1, 0x4, [(0, 2, .ro), (2, 2, .ro), (4, 2, .ro), (6, 1, .ros), (7, 2, .ro), (9, 1, .ro), (10, 1, .ro)]⟩,
   ⟨0x610004, 16, 0x20, 1, 0x4, [(0, 1, .wo), (1, 1, .wo)]⟩,
   ⟨0x610008, 16, 0x20, 1, 0x4, [(0, 1, .ro), (1, 5, .ro), (16, 16, .ro)]⟩,
   ⟨0x61000C, 16, 0x20, 1, 0x4, [(0, 16, .ro), (16, 16, .ro)]⟩,
   ⟨0x610010, 16, 0x20, 1, 0x4, [(0, 16, .ro), (16, 16, .ro)]⟩,
   ⟨0x610014, 16, 0x20, 1, 0x4, [(0, 8, .ro), (8, 8, .ro), (16, 16, .ro)]⟩]

/-- FAI: STATUS, CONFIG, VALUE, MINMAX. -/
def mapFai0 : List RegRow :=
  [⟨0x620000, 32, 0x10, 1, 0x4, [(0, 1, .ro), (1, 1, .w1c), (2, 1, .ro), (3, 1, .ro), (31, 1, .wo)]⟩,
   ⟨0x620004, 32, 0x10, 1, 0x4, [(0, 3, .ro), (3, 1, .ro)]⟩,
   ⟨0x620008, 32, 0x10, 1, 0x4, [(0, 16, .ro), (16, 16, .ro)]⟩,
   ⟨0x62000C, 32, 0x10, 1, 0x4, [(0, 16, .ro), (16, 16, .ro)]⟩]

/-- CAN: STATUS, CTRL, CONFIG, NBT, DBT, TDC, ERR, LEC, ERR_COUNT, BUSOFF, TX_REQ, TX_CANCEL. -/
def mapCan0 : List RegRow :=
  [⟨0x500000, 4, 0x1000, 1, 0x4, [(0, 2, .ro), (2, 1, .ro), (3, 2, .ro), (5, 1, .ro), (6, 1, .w1c), (7, 1, .w1c)]⟩,
   ⟨0x500004, 4, 0x1000, 1, 0x4, [(0, 1, .wo), (1, 1, .wo), (2, 2, .rwl)]⟩,
   ⟨0x500008, 4, 0x1000, 1, 0x4, [(0, 1, .ro), (1, 1, .ro), (2, 1, .ro), (3, 1, .ro), (4, 1, .ro), (5, 1, .ro), (6, 1, .ro)]⟩,
   ⟨0x50000C, 4, 0x1000, 1, 0x4, [(0, 8, .ro), (8, 8, .ro), (16, 7, .ro), (23, 7, .ro)]⟩,
   ⟨0x500010, 4, 0x1000, 1, 0x4, [(0, 5, .ro), (8, 5, .ro), (16, 4, .ro), (24, 4, .ro)]⟩,
   ⟨0x500014, 4, 0x1000, 1, 0x4, [(0, 1, .ro), (1, 7, .ro), (16, 7, .ro)]⟩,
   ⟨0x500018, 4, 0x1000, 1, 0x4, [(0, 8, .ro), (8, 7, .ro), (15, 1, .ro)]⟩,
   ⟨0x50001C, 4, 0x1000, 1, 0x4, [(0, 3, .ro), (4, 3, .ro)]⟩,
   ⟨0x500020, 4, 0x1000, 1, 0x4, [(0, 16, .ro), (16, 16, .ro)]⟩,
   ⟨0x500024, 4, 0x1000, 1, 0x4, [(0, 16, .ro)]⟩,
   ⟨0x500028, 4, 0x1000, 1, 0x4, [(0, 3, .rwl)]⟩,
   ⟨0x50002C, 4, 0x1000, 1, 0x4, [(0, 3, .rwl)]⟩]

/-- CAN: TX_STATUS, TXB_SEL, TXB_HDR, TXB_ID, TXB_DATA, TX_COUNT, RXNUM, CUT, FLT_SEL, FLT_MATCH, FLT_MASK, FLT_CFG. -/
def mapCan1 : List RegRow :=
  [⟨0x500030, 4, 0x1000, 1, 0x4, [(0, 2, .ro), (2, 1, .ro), (4, 2, .ro), (6, 1, .ro), (8, 2, .ro), (10, 1, .ro), (12, 1, .w1c), (13, 1, .w1c), (14, 1, .w1c), (16, 1, .w1c), (17, 1, .w1c), (18, 1, .w1c)]⟩,
   ⟨0x500034, 4, 0x1000, 1, 0x4, [(0, 2, .rwl), (8, 4, .rwl)]⟩,
   ⟨0x500038, 4, 0x1000, 1, 0x4, [(0, 13, .rwl)]⟩,
   ⟨0x50003C, 4, 0x1000, 1, 0x4, [(0, 29, .rwl)]⟩,
   ⟨0x500040, 4, 0x1000, 1, 0x4, [(0, 32, .rwl)]⟩,
   ⟨0x500044, 4, 0x1000, 1, 0x4, [(0, 16, .ro), (16, 16, .ro)]⟩,
   ⟨0x500048, 4, 0x1000, 1, 0x4, [(0, 32, .ro)]⟩,
   ⟨0x50004C, 4, 0x1000, 1, 0x4, [(0, 32, .ro)]⟩,
   ⟨0x500050, 4, 0x1000, 1, 0x4, [(0, 5, .rw)]⟩,
   ⟨0x500054, 4, 0x1000, 1, 0x4, [(0, 31, .ro)]⟩,
   ⟨0x500058, 4, 0x1000, 1, 0x4, [(0, 31, .ro)]⟩,
   ⟨0x50005C, 4, 0x1000, 1, 0x4, [(0, 2, .ro), (16, 16, .ro)]⟩]

/-- CAN: RXQ0_STATUS, RXQ1_STATUS, RXQ0_WORD, RXQ1_WORD, RXQ0_CTRL, RXQ1_CTRL, RX_COUNT, RX_DROP, TX_T_LO, TX_T_HI, LOAD, LAST_ID. -/
def mapCan2 : List RegRow :=
  [⟨0x500060, 4, 0x1000, 1, 0x4, [(0, 7, .ro), (7, 1, .ro), (8, 5, .ro), (13, 1, .ros)]⟩,
   ⟨0x50006C, 4, 0x1000, 1, 0x4, [(0, 7, .ro), (7, 1, .ro), (8, 5, .ro), (13, 1, .ros)]⟩,
   ⟨0x500064, 4, 0x1000, 1, 0x4, [(0, 32, .ro)]⟩,
   ⟨0x500070, 4, 0x1000, 1, 0x4, [(0, 32, .ro)]⟩,
   ⟨0x500068, 4, 0x1000, 1, 0x4, [(0, 1, .wo), (1, 1, .wo), (2, 1, .wo)]⟩,
   ⟨0x500074, 4, 0x1000, 1, 0x4, [(0, 1, .wo), (1, 1, .wo), (2, 1, .wo)]⟩,
   ⟨0x500078, 4, 0x1000, 1, 0x4, [(0, 16, .ro), (16, 16, .ro)]⟩,
   ⟨0x50007C, 4, 0x1000, 1, 0x4, [(0, 16, .ro), (16, 16, .ro)]⟩,
   ⟨0x500080, 4, 0x1000, 1, 0x4, [(0, 32, .ro)]⟩,
   ⟨0x500084, 4, 0x1000, 1, 0x4, [(0, 32, .ro)]⟩,
   ⟨0x500088, 4, 0x1000, 1, 0x4, [(0, 8, .ro), (8, 8, .ro)]⟩,
   ⟨0x50008C, 4, 0x1000, 1, 0x4, [(0, 29, .ro)]⟩]

/-- CAN: SHADOW, TX_LAT, ERR_T, IDENT. -/
def mapCan3 : List RegRow :=
  [⟨0x500090, 4, 0x1000, 1, 0x4, [(0, 16, .ro), (16, 16, .ro)]⟩,
   ⟨0x500094, 4, 0x1000, 1, 0x4, [(0, 16, .ro), (16, 16, .ro)]⟩,
   ⟨0x500098, 4, 0x1000, 1, 0x4, [(0, 32, .ro)]⟩,
   ⟨0x50009C, 4, 0x1000, 1, 0x4, [(0, 2, .ro), (2, 1, .ro)]⟩]

/-- EVREC: STATUS, CTRL, HEAD, OLDEST, COUNT, READ_IDX, DATA, LOST01, LOST23, LOST45, LOST67, REPEAT_WIN. -/
def mapEvrec0 : List RegRow :=
  [⟨0x400000, 1, 0x10000, 1, 0x4, [(0, 1, .ro), (1, 1, .ro), (2, 9, .ro), (11, 1, .ro), (12, 1, .w1c), (13, 1, .ro)]⟩,
   ⟨0x400004, 1, 0x10000, 1, 0x4, [(0, 1, .wo), (1, 1, .wo), (2, 1, .wo)]⟩,
   ⟨0x400008, 1, 0x10000, 1, 0x4, [(0, 32, .ro)]⟩,
   ⟨0x40000C, 1, 0x10000, 1, 0x4, [(0, 32, .ro)]⟩,
   ⟨0x400010, 1, 0x10000, 1, 0x4, [(0, 16, .ro)]⟩,
   ⟨0x400014, 1, 0x10000, 1, 0x4, [(0, 15, .rw)]⟩,
   ⟨0x400018, 1, 0x10000, 12, 0x4, [(0, 32, .ro)]⟩,
   ⟨0x400048, 1, 0x10000, 1, 0x4, [(0, 16, .ro), (16, 16, .ro)]⟩,
   ⟨0x40004C, 1, 0x10000, 1, 0x4, [(0, 16, .ro), (16, 16, .ro)]⟩,
   ⟨0x400050, 1, 0x10000, 1, 0x4, [(0, 16, .ro), (16, 16, .ro)]⟩,
   ⟨0x400054, 1, 0x10000, 1, 0x4, [(0, 16, .ro), (16, 16, .ro)]⟩,
   ⟨0x400058, 1, 0x10000, 1, 0x4, [(0, 16, .rw)]⟩]

/-- EVREC: JOURNAL. -/
def mapEvrec1 : List RegRow :=
  [⟨0x40005C, 1, 0x10000, 1, 0x4, [(0, 16, .ro), (16, 16, .ro)]⟩]

/-- HIST: STATUS, CTRL, CONFIG, CAPACITY, USED, RATE, BUFFER, GAPS, DROPPED, EVT_SEQ, OLDEST_LO, OLDEST_HI. -/
def mapHist0 : List RegRow :=
  [⟨0x410000, 1, 0x10000, 1, 0x4, [(0, 1, .ro), (1, 1, .ro), (2, 1, .ro), (3, 1, .ro), (4, 1, .ro), (5, 1, .ro), (6, 1, .ro), (7, 1, .ro), (8, 1, .w1c)]⟩,
   ⟨0x410004, 1, 0x10000, 1, 0x4, [(0, 1, .wo), (1, 1, .wo)]⟩,
   ⟨0x410008, 1, 0x10000, 1, 0x4, [(0, 17, .ro)]⟩,
   ⟨0x41000C, 1, 0x10000, 1, 0x4, [(0, 32, .ro)]⟩,
   ⟨0x410010, 1, 0x10000, 1, 0x4, [(0, 32, .ro)]⟩,
   ⟨0x410014, 1, 0x10000, 1, 0x4, [(0, 16, .ro), (16, 16, .ro)]⟩,
   ⟨0x410018, 1, 0x10000, 1, 0x4, [(0, 8, .ro), (8, 8, .ro)]⟩,
   ⟨0x41001C, 1, 0x10000, 1, 0x4, [(0, 32, .ro)]⟩,
   ⟨0x410020, 1, 0x10000, 1, 0x4, [(0, 32, .ro)]⟩,
   ⟨0x410024, 1, 0x10000, 1, 0x4, [(0, 32, .ro)]⟩,
   ⟨0x410028, 1, 0x10000, 1, 0x4, [(0, 32, .ro)]⟩,
   ⟨0x41002C, 1, 0x10000, 1, 0x4, [(0, 32, .ro)]⟩]

/-- HIST: REBUILD, SESSIONS, EXPORT, TIER_FULL, DRV_STATUS, DRV_CAP, DRV_ERR, DRV_HEALTH. -/
def mapHist1 : List RegRow :=
  [⟨0x410030, 1, 0x10000, 1, 0x4, [(0, 1, .ro), (8, 8, .ro), (16, 16, .ro)]⟩,
   ⟨0x410034, 1, 0x10000, 1, 0x4, [(0, 5, .ro), (8, 4, .ro), (16, 16, .ro)]⟩,
   ⟨0x410038, 1, 0x10000, 1, 0x4, [(0, 16, .ro), (16, 16, .ro)]⟩,
   ⟨0x41003C, 1, 0x10000, 1, 0x4, [(0, 5, .ro)]⟩,
   ⟨0x410040, 1, 0x10000, 8, 0x10, [(0, 1, .ro), (1, 1, .ro), (2, 2, .ro), (4, 4, .ro), (8, 4, .ro)]⟩,
   ⟨0x410044, 1, 0x10000, 8, 0x10, [(0, 32, .ro)]⟩,
   ⟨0x410048, 1, 0x10000, 8, 0x10, [(0, 16, .ro), (16, 16, .ro)]⟩,
   ⟨0x41004C, 1, 0x10000, 8, 0x10, [(0, 8, .ro), (8, 8, .ro)]⟩]

/-- SEC: STATUS, CTRL, OWNER_FP, MIN_SECVER, FW_SECVER, HKEYS, APPROVERS, CLIENTS, AUTH_FAIL, REQUESTS, DUPLICATES, DEV_FP. -/
def mapSec0 : List RegRow :=
  [⟨0x800000, 1, 0x10000, 1, 0x4, [(0, 1, .ro), (1, 1, .ro), (2, 1, .ro), (3, 1, .ro), (4, 1, .ro), (5, 1, .ro), (6, 1, .ro)]⟩,
   ⟨0x800004, 1, 0x10000, 1, 0x4, [(0, 1, .wo)]⟩,
   ⟨0x800008, 1, 0x10000, 4, 0x4, [(0, 32, .ro)]⟩,
   ⟨0x800018, 1, 0x10000, 1, 0x4, [(0, 32, .ro)]⟩,
   ⟨0x80001C, 1, 0x10000, 1, 0x4, [(0, 16, .ro), (16, 16, .ro)]⟩,
   ⟨0x800020, 1, 0x10000, 1, 0x4, [(0, 8, .ro), (8, 8, .ro)]⟩,
   ⟨0x800024, 1, 0x10000, 1, 0x4, [(0, 5, .ro), (5, 1, .ro)]⟩,
   ⟨0x800028, 1, 0x10000, 1, 0x4, [(0, 9, .ro), (16, 5, .ro)]⟩,
   ⟨0x80002C, 1, 0x10000, 1, 0x4, [(0, 16, .ro), (16, 16, .ro)]⟩,
   ⟨0x800030, 1, 0x10000, 1, 0x4, [(0, 32, .ro)]⟩,
   ⟨0x800034, 1, 0x10000, 1, 0x4, [(0, 16, .ro), (16, 16, .ro)]⟩,
   ⟨0x800038, 1, 0x10000, 4, 0x4, [(0, 32, .ro)]⟩]

/-- SEC: CERT_EXP_LO, CERT_EXP_HI, FW_MEAS, PEND, PEND_NEXT, STORAGE, ATTEST, REVOKED. -/
def mapSec1 : List RegRow :=
  [⟨0x800048, 1, 0x10000, 1, 0x4, [(0, 32, .ro)]⟩,
   ⟨0x80004C, 1, 0x10000, 1, 0x4, [(0, 32, .ro)]⟩,
   ⟨0x800050, 1, 0x10000, 8, 0x4, [(0, 32, .ro)]⟩,
   ⟨0x800070, 1, 0x10000, 8, 0x4, [(0, 16, .ro), (16, 3, .ro), (19, 4, .ro), (23, 2, .ro)]⟩,
   ⟨0x800090, 1, 0x10000, 1, 0x4, [(0, 32, .ro)]⟩,
   ⟨0x800094, 1, 0x10000, 1, 0x4, [(0, 1, .ro), (1, 1, .ro)]⟩,
   ⟨0x800098, 1, 0x10000, 1, 0x4, [(0, 32, .ro)]⟩,
   ⟨0x80009C, 1, 0x10000, 1, 0x4, [(0, 9, .ro)]⟩]

/-- LIFE: STATUS, CTRL, SELFTEST, ST_TIME, SEAL, SEAL_T_LO, SEAL_T_HI, FLASH, FLASH_ERR, ERASE, WEAR, TAG. -/
def mapLife0 : List RegRow :=
  [⟨0x900000, 1, 0x10000, 1, 0x4, [(0, 1, .ro), (1, 1, .ro), (2, 1, .ro), (3, 1, .ro)]⟩,
   ⟨0x900004, 1, 0x10000, 1, 0x4, [(0, 1, .wo), (1, 1, .wo), (2, 1, .wo), (3, 1, .wo)]⟩,
   ⟨0x900008, 1, 0x10000, 1, 0x4, [(0, 2, .ro), (2, 3, .ro), (5, 2, .ro), (7, 1, .w1c), (8, 8, .ro)]⟩,
   ⟨0x90000C, 1, 0x10000, 1, 0x4, [(0, 16, .ro)]⟩,
   ⟨0x900010, 1, 0x10000, 1, 0x4, [(0, 1, .ro), (1, 3, .ro)]⟩,
   ⟨0x900014, 1, 0x10000, 1, 0x4, [(0, 32, .ro)]⟩,
   ⟨0x900018, 1, 0x10000, 1, 0x4, [(0, 32, .ro)]⟩,
   ⟨0x90001C, 1, 0x10000, 1, 0x4, [(0, 16, .ro), (16, 1, .ro), (17, 1, .ros)]⟩,
   ⟨0x900020, 1, 0x10000, 1, 0x4, [(0, 16, .ro), (16, 16, .ro)]⟩,
   ⟨0x900024, 1, 0x10000, 1, 0x4, [(0, 16, .ro), (16, 16, .ro)]⟩,
   ⟨0x900028, 1, 0x10000, 1, 0x4, [(0, 16, .ro), (16, 16, .ro)]⟩,
   ⟨0x90002C, 1, 0x10000, 1, 0x4, [(0, 1, .ro), (1, 1, .ro), (2, 6, .ro), (8, 4, .ro), (12, 1, .w1c), (16, 16, .ro)]⟩]

/-- LIFE: TAG_WAIT, CAL, CAL_EXPORT_T, RESERVED, REP_TILE, REP_ROWS, REP_FUSE, REP_WORST, ST_TILES, CAL_USER0, CAL_USER1, CAL_INVALID0. -/
def mapLife1 : List RegRow :=
  [⟨0x900030, 1, 0x10000, 1, 0x4, [(0, 16, .ro), (16, 16, .ro)]⟩,
   ⟨0x900034, 1, 0x10000, 1, 0x4, [(0, 7, .ro), (7, 1, .ro)]⟩,
   ⟨0x900038, 1, 0x10000, 1, 0x4, [(0, 32, .ro)]⟩,
   ⟨0x90003C, 1, 0x10000, 1, 0x4, []⟩,
   ⟨0x900040, 1, 0x10000, 9, 0x10, [(0, 8, .ro), (8, 8, .ro), (16, 1, .ro), (17, 1, .ro), (18, 1, .ro)]⟩,
   ⟨0x900044, 1, 0x10000, 9, 0x10, [(0, 16, .ro), (16, 16, .ro)]⟩,
   ⟨0x900048, 1, 0x10000, 9, 0x10, [(0, 16, .ro), (16, 16, .ro)]⟩,
   ⟨0x90004C, 1, 0x10000, 9, 0x10, [(0, 8, .ro), (8, 3, .ro), (11, 5, .ro), (16, 4, .ro)]⟩,
   ⟨0x9000D0, 1, 0x10000, 5, 0x4, [(0, 32, .ro)]⟩,
   ⟨0x9000E4, 1, 0x10000, 1, 0x4, [(0, 32, .ro)]⟩,
   ⟨0x9000E8, 1, 0x10000, 1, 0x4, [(0, 32, .ro)]⟩,
   ⟨0x9000EC, 1, 0x10000, 1, 0x4, [(0, 32, .ro)]⟩]

/-- LIFE: CAL_INVALID1, FUSE, REPAIR_SEQ, REPAIR_DIGEST. -/
def mapLife2 : List RegRow :=
  [⟨0x9000F0, 1, 0x10000, 1, 0x4, [(0, 32, .ro)]⟩,
   ⟨0x9000F4, 1, 0x10000, 1, 0x4, [(0, 16, .ro), (16, 16, .ro)]⟩,
   ⟨0x9000F8, 1, 0x10000, 1, 0x4, [(0, 32, .ro)]⟩,
   ⟨0x9000FC, 1, 0x10000, 1, 0x4, [(0, 32, .ro)]⟩]

/-- The blocks of R483: offset and rows. -/
def regBlocks : List (Nat × List RegRow) :=
  [(0x0, mapMod0 ++ mapMod1 ++ mapMod2 ++ mapMod3),
   (0x10000, mapFab0),
   (0x100000, mapTile0),
   (0x200000, mapLoop0),
   (0x210000, mapGlink0),
   (0x700000, mapBridle0 ++ mapBridle1 ++ mapBridle2),
   (0x310000, mapTwin0 ++ mapTwin1 ++ mapTwin2),
   (0x300000, mapRing0 ++ mapRing1 ++ mapRing2),
   (0x320000, mapTime0 ++ mapTime1 ++ mapTime2),
   (0x600000, mapDio0 ++ mapDio1),
   (0x610000, mapClo0),
   (0x620000, mapFai0),
   (0x500000, mapCan0 ++ mapCan1 ++ mapCan2 ++ mapCan3),
   (0x400000, mapEvrec0 ++ mapEvrec1),
   (0x410000, mapHist0 ++ mapHist1),
   (0x800000, mapSec0 ++ mapSec1),
   (0x900000, mapLife0 ++ mapLife1 ++ mapLife2)]

/-- The row that an offset belongs to, if it is a multiple of 4 at which a map lists a register. -/
def RegRow.covers (r : RegRow) (off : Nat) : Bool :=
  r.base ≤ off &&
    (let d := off - r.base
     d / r.s1 < r.n1 && (d % r.s1) % r.s2 == 0 && (d % r.s1) / r.s2 < r.n2)

/-- R484: each block spans its offset to its offset + 0xFFFF. (The instances of FAB, TILE, LOOP, GLINK,
RING and CAN lie inside the 64 KiB or, for TILE, inside its own 36 KiB.) -/
def spanOf (off : Nat) : Option (Nat × List RegRow) :=
  regBlocks.find? fun b => b.1 ≤ off && off < b.1 + 0x10000

/-- The fields of the register at an offset; `none` where no map lists a register. -/
def regAt (off : Nat) : Option RegRow :=
  match spanOf off with
  | none => none
  | some b => b.2.find? (·.covers off)

end Sys2Proof.Machine
end

