-- ==== Sys2Proof/Machine/Flags.lean ====
section
/-! DEFINITION. Rounding and saturation of signed values (R232). What a write does to a field by its access code (R3, R4), and what a register's map adds
to it (limits at which a value is stored). -/

namespace Sys2Proof.Machine

/-! ### Rounding and saturation (R232) -/

/-- rnd(p, S): to nearest, a value exactly halfway toward positive infinity. -/
def rnd (p : Int) (s : Nat) : Int := if s = 0 then p else (p + 2 ^ (s - 1)) / 2 ^ s

/-- sat32 and sat64: the clamped value, and whether it was clamped. -/
def satTo (bits : Nat) (v : Int) : Int × Bool :=
  let hi : Int := 2 ^ (bits - 1) - 1
  let lo : Int := -(2 ^ (bits - 1))
  if hi < v then (hi, true) else if v < lo then (lo, true) else (v, false)

/-! ### Writes to fields -/

/-- A write of a value to one field by its access code (R3); `open_` is the lock condition of an RWL field. -/
def accWrite (acc : Acc) (open_ : Bool) (old new wd : Nat) : Nat :=
  match acc with
  | .rw => new
  | .w1c => old &&& (2 ^ wd - 1 - new)
  | .w1s => old ||| new
  | .rwl => if open_ then new else old
  | .ro | .wo | .ros => old

/-- A write of a word to a register, field by field; bits that no field lists stay 0 (R4). -/
def regWrite (fields : List (Nat × Nat × Acc)) (open_ : Bool) (old new : Word) : Word :=
  fields.foldl (fun w f =>
    let fl : Fld := ⟨0, f.1, f.2.1⟩
    setField w fl (accWrite f.2.2 open_ (w.toNat / 2 ^ f.1 % 2 ^ f.2.1) (new.toNat / 2 ^ f.1 % 2 ^ f.2.1) f.2.1)) old

/-- Whether a register has a field with one of the access codes. -/
def hasAcc (fields : List (Nat × Nat × Acc)) (as : List Acc) : Bool := fields.any (fun f => as.contains f.2.2)

/-- The WO fields of a register that a word writes 1 to, by lowest bit. -/
def actions (fields : List (Nat × Nat × Acc)) (new : Word) : List Nat :=
  (fields.filter (fun f => f.2.2 = .wo && new.toNat / 2 ^ f.1 % 2 ^ f.2.1 ≠ 0)).map (fun f => f.1)

/-- The value at which a register stores what is written, where its map limits it: `FAB.THRESH` (R87),
`TIME.CONFIG` and `TIME.PTP_CONFIG` (R379), `EVREC.REPEAT_WIN` (R443). -/
def storedAs (off : Nat) (w : Word) : Word :=
  if 0x10000 ≤ off ∧ off < 0x12400 ∧ (off - 0x10000) % 0x400 = 0x28 then
    w32 (max 1200 (min 1600 (w.toNat % 2 ^ 16)))
  else if off = 0x320008 then
    (if w.toNat / 2 ^ 8 % 64 = 0 then setField w ⟨0, 8, 6⟩ 1 else w)
  else if off = 0x32000C then (if w.toNat % 4 = 3 then setField w ⟨0, 0, 2⟩ 0 else w)
  else if off = 0x400058 then w32 (min 60000 (w.toNat % 2 ^ 16))
  else w

end Sys2Proof.Machine
end

