-- ==== Sys2Proof/Machine/Recorder.lean ====
section
/-! DEFINITION. The event recorder: its records, insertion, merging, the freeze and the flash journal
(R421 to R432). -/

namespace Sys2Proof.Machine

/-- The 48 bytes of a record (R421). -/
def EvRec.bytes (r : EvRec) : List Byte :=
  let plane := match r.plane with
    | .control => 0 | .data => 1 | .management => 2 | .bridle => 3
  let b := leBytes 4 r.seq.toNat
    ++ [BitVec.ofNat 8 (r.sev.val + plane * 16 + bit r.held * 64),
        BitVec.ofNat 8 (bit r.restored + bit r.pf * 2 + 128)]
    ++ leBytes 2 (Config.eventCode r.code).toNat ++ leBytes 8 r.tFirst.toNat ++ leBytes 8 r.tLast.toNat
    ++ leBytes 4 r.rep.toNat ++ leBytes 2 r.src.toNat ++ leBytes 2 0
    ++ leBytes 4 r.p0.toNat ++ leBytes 4 r.p1.toNat ++ leBytes 4 r.p2.toNat
  b ++ leBytes 4 (crc32 b)

/-- The 32-bit words of a byte string, lowest byte first. -/
def leWords : Nat → List Byte → List Word
  | 0, _ => []
  | n + 1, bs => w32 (leNat (bs.take 4)) :: leWords n (bs.drop 4)

/-- The LOST field of a severity (R443). -/
def lostFld (sev : Nat) : Fld :=
  ⟨0x400048 + (sev / 2) * 4, 16 * (sev % 2), 16⟩

/-- One of two records with the lower SEQ under R131. -/
def earlierSeq (a b : Nat × EvRec) : Nat × EvRec := if later a.2.seq b.2.seq then b else a

/-- The entry with the lowest SEQ of a list. -/
def lowestSeq : List (Nat × EvRec) → Option (Nat × EvRec)
  | [] => none
  | x :: xs => some (xs.foldl earlierSeq x)

/-- The entry with the highest SEQ of a list. -/
def highestSeq : List (Nat × EvRec) → Option (Nat × EvRec)
  | [] => none
  | x :: xs => some (xs.foldl (fun a b => if later b.2.seq a.2.seq then b else a) x)

/-- A presented record repeats a held one, within the repeat window in ms (R426). DEDUCED (log 109). -/
def EvRec.repeats (r held : EvRec) (win : Nat) : Bool :=
  win ≠ 0 && r.code = held.code && r.src = held.src && r.p0 = held.p0 && r.p1 = held.p1
    && r.p2 = held.p2 && r.tFirst.toNat ≤ held.tLast.toNat + win * 1000000

/-- A held record with a repeat merged into it. -/
def EvRec.absorb (held r : EvRec) : EvRec :=
  { held with
    rep := w32 (min (held.rep.toNat + 1 + r.rep.toNat) 0xFFFFFFFF), tLast := r.tLast, journalled := false }

/-- The SEQ after one, skipping 0 (R421). -/
def nextSeq (s : Word) : Word := if s + 1 = 0 then 1 else s + 1

/-- A dropped record is counted under its severity (R425). -/
def Dev.dropRecord (d : Dev) (r : EvRec) : Dev :=
  (d.incSat (lostFld r.sev.val)).raise R.EVREC_STATUS_DROP_SEEN

/-- The registers that show the ring. -/
def Dev.showRing (d : Dev) : Dev :=
  let d := d.wr R.EVREC_COUNT_RECORDS d.evrec.ring.length
  let d := d.flag R.EVREC_STATUS_FULL (32768 ≤ d.evrec.ring.length)
  d.wr R.EVREC_OLDEST (match lowestSeq d.evrec.ring with | some p => p.2.seq.toNat | none => 0)

/-- A set is mounted and not FAILED (R444). -/
def Dev.setOk (d : Dev) (k : Nat) : Bool := d.on (if k = 0 then R.HIST_STATUS_SET0_OK else R.HIST_STATUS_SET1_OK)

/-- The historian writes: in STANDBY, ACTIVE and SOLO, with a set that is not FAILED and the owner's
storage key (R434, R435, R438). -/
def Dev.histRunning (d : Dev) : Bool :=
  d.role.runs && d.trust.owner.isSome && (d.setOk 0 || d.setOk 1)

/-- A write goes to every set that is mounted and not FAILED (R433, R434). -/
def Dev.onSets (d : Dev) (f : DriveSet → DriveSet) : Dev :=
  let d := if d.setOk 0 then { d with hist := { d.hist with set0 := f d.hist.set0 } } else d
  if d.setOk 1 then { d with hist := { d.hist with set1 := f d.hist.set1 } } else d

/-- The EVENTS tier takes every inserted record and its merges, by SEQ (R436). -/
def Dev.histEvent (d : Dev) (r : EvRec) : Dev :=
  if d.histRunning then
    (d.onSets (fun x => { x with events := x.events.filter (fun e => e.seq ≠ r.seq) ++ [r] })).wr
      R.HIST_EVT_SEQ r.seq.toNat
  else d

/-- Inserts a record in a slot, with the next SEQ. -/
def Dev.insertAt (d : Dev) (slot : Nat) (r : EvRec) : Dev :=
  let q := nextSeq (w32 (d.rd R.EVREC_HEAD))
  let r : EvRec := { r with seq := q }
  let d := { d with evrec := { d.evrec with ring := oput d.evrec.ring slot r } }
  ((d.wr R.EVREC_HEAD q.toNat).showRing).histEvent r

/-- Merges, inserts, overwrites or drops a record against the ring (R425, R426). -/
def Dev.insertRecord (d : Dev) (r : EvRec) : Dev :=
  match highestSeq (d.evrec.ring.filter (fun p => p.2.src = r.src)) with
  | some (k, held) =>
    if r.repeats held (d.rd R.EVREC_REPEAT_WIN_MS) then
      { d with evrec := { d.evrec with ring := oput d.evrec.ring k (held.absorb r) } }.histEvent (held.absorb r)
    else place d r
  | none => place d r
where
  place (d : Dev) (r : EvRec) : Dev :=
    if d.evrec.ring.length < 32768 then d.insertAt d.evrec.ring.length r
    else match lowestSeq (d.evrec.ring.filter (fun p => p.2.sev ≤ r.sev)) with
      | some (k, _) => d.insertAt k r
      | none => d.dropRecord r

/-- A record merges into the first of a list that it repeats. -/
def mergeFirst (win : Nat) (r : EvRec) : List EvRec → List EvRec
  | [] => []
  | h :: hs => if r.repeats h win then h.absorb r :: hs else h :: mergeFirst win r hs

/-- An arrival while the ring is frozen: it merges into the latest entry of the FIFO that it repeats, or enters it (R428). -/
def Dev.holdRecord (d : Dev) (r : EvRec) : Dev :=
  let win := d.rd R.EVREC_REPEAT_WIN_MS
  if d.evrec.fifo.any (fun h => r.repeats h win) then
    { d with evrec := { d.evrec with fifo := (mergeFirst win r d.evrec.fifo.reverse).reverse } }
  else if d.evrec.fifo.length < 256 then
    let d := { d with evrec := { d.evrec with fifo := d.evrec.fifo ++ [r] } }
    d.wr R.EVREC_STATUS_FIFO_LEVEL d.evrec.fifo.length
  else d.dropRecord r

/-- Ends a freeze: the holding FIFO drains in order, with HELD set (R428). -/
def Dev.endFreeze (d : Dev) : Dev :=
  if d.on R.EVREC_STATUS_FROZEN then
    let q := d.evrec.fifo
    let d := { d with evrec := { d.evrec with fifo := [], freezeEnded := some d.now } }
    let d := (d.drop R.EVREC_STATUS_FROZEN).drop R.EVREC_STATUS_FIFO_LEVEL
    q.foldl (fun d r => d.insertRecord { r with held := true }) d
  else d

/-- A freeze begins. -/
def Dev.freeze (d : Dev) : Dev :=
  { d with evrec := { d.evrec with frozenAt := d.now } }.raise R.EVREC_STATUS_FROZEN

/-- Begins a freeze, or says why not (R428). DEDUCED (log 110). -/
def Dev.beginFreeze (d : Dev) : Except String Dev :=
  if d.on R.HIST_STATUS_MOUNTED then .error "FREEZE_NOT_AVAILABLE"
  else if d.on R.EVREC_STATUS_FROZEN then .error "FREEZE_ACTIVE"
  else match d.evrec.freezeEnded with
    | some c => if d.since c < nsPerSecond then .error "FREEZE_TOO_SOON" else .ok d.freeze
    | none => .ok d.freeze

/-- The rank of a plane among records of one clock period (R424). -/
def Plane.rank : Plane → Nat
  | .bridle => 0
  | .control => 1
  | .management => 2
  | .data => 3

/-- A record goes before another of the same clock period (R424). -/
def EvRec.before (a b : EvRec) : Bool :=
  a.tFirst.toNat < b.tFirst.toNat || (a.tFirst = b.tFirst && a.plane.rank < b.plane.rank)

/-- Takes the record to insert next out of those presented: of the oldest clock period, in the order of R424.
DEDUCED (log 108). -/
def takePresented : List EvRec → Option (EvRec × List EvRec)
  | [] => none
  | r :: rs =>
    match takePresented rs with
    | some (q, rest) =>
      if q.presentedAt = r.presentedAt && q.before r then some (q, r :: rest) else some (r, rs)
    | none => some (r, rs)

/-- EVENT_INSERT: the recorder takes the next presented record (R424 to R428, R431). -/
def Dev.recorderTick (d : Dev) : Dev :=
  match takePresented d.evrec.presented with
  | none => d
  | some (r, rest) =>
    let d := { d with evrec := { d.evrec with presented := rest } }
    if d.evrec.closed then d
    else if d.on R.EVREC_STATUS_FROZEN then d.holdRecord r
    else d.insertRecord r

/-- A record of severity CHANGE or higher is journalled (R430). -/
def EvRec.mustJournal (r : EvRec) : Bool := 2 ≤ r.sev.val

/-- Bytes 0 to 59 of a journal entry, which its CRC covers (R430). -/
def JournalEntry.covered (e : JournalEntry) : List Byte :=
  e.record.bytes ++ leBytes 4 e.number.toNat ++ List.replicate 8 0

/-- The 64 bytes of a journal entry. -/
def JournalEntry.bytes (e : JournalEntry) : List Byte := e.covered ++ leBytes 4 e.crc

/-- The CRC of an entry holds. -/
def JournalEntry.good (e : JournalEntry) : Bool := e.crc = crc32 e.covered

/-- The entry with a number that holds a record. -/
def journalEntry (number : Word) (r : EvRec) : JournalEntry :=
  { number := number, record := r, crc := crc32 ({ number := number, record := r, crc := 0 } : JournalEntry).covered }

/-- Appends an entry to the flash journal; a full journal first erases its oldest 16,384 entries (R430). -/
def Dev.appendJournal (d : Dev) (r : EvRec) : Dev :=
  let j := if 2097152 ≤ d.evrec.journal.length then d.evrec.journal.drop 16384 else d.evrec.journal
  { d with evrec := { d.evrec with
      journal := j ++ [journalEntry d.evrec.nextEntry r], nextEntry := d.evrec.nextEntry + 1 } }

/-- Journals the record of one slot and marks it. -/
def Dev.journalSlot (d : Dev) (k : Nat) (r : EvRec) : Dev :=
  d.flashWrite fun d =>
    let r' := { r with journalled := true, journalAt := some d.now }
    let d := d.appendJournal r'
    { d with evrec := { d.evrec with ring := oput d.evrec.ring k r' } }

/-- The record whose journal write is due: a merge is written again at most once per second (R430). -/
def Dev.journalDue (d : Dev) : Option (Nat × EvRec) :=
  lowestSeq (d.evrec.ring.filter (fun p => p.2.mustJournal && !p.2.journalled &&
    (match p.2.journalAt with | some c => decide (nsPerSecond ≤ d.since c) | none => true)))

/-- Records in the order of the power-fail journal: highest severity first, then by SEQ (R431). -/
def pfInsert (x : Nat × EvRec) : List (Nat × EvRec) → List (Nat × EvRec)
  | [] => [x]
  | y :: ys =>
    if y.2.sev < x.2.sev || (y.2.sev = x.2.sev && later y.2.seq x.2.seq) then x :: y :: ys
    else y :: pfInsert x ys

/-- Step 7 of R54: at most 2,048 records not yet journalled, the LOST counters and HEAD (R431). -/
def Dev.powerFailJournal (d : Dev) : Dev :=
  let due := ((d.evrec.ring.filter (fun p => p.2.mustJournal && !p.2.journalled)).foldr pfInsert []).take 2048
  let d := due.foldl (fun d p => d.journalSlot p.1 { p.2 with pf := true }) d
  { d with evrec := { d.evrec with
      savedLost := (List.range 8).map (fun k => d.rd (lostFld k)), savedHead := w32 (d.rd R.EVREC_HEAD) } }

/-- The valid entry with the latest entry number for each SEQ: later entries supersede (R430, R432). -/
def latestEntries (j : List JournalEntry) : List EvRec :=
  j.foldl (fun acc e =>
    if e.good then acc.filter (fun r => r.seq ≠ e.record.seq) ++ [e.record] else acc) []

/-- Records in the order of SEQ (R131). -/
def seqInsert (x : EvRec) : List EvRec → List EvRec
  | [] => [x]
  | y :: ys => if later x.seq y.seq then y :: seqInsert x ys else x :: y :: ys

/-- The ring, HEAD and the LOST counters as a start fills them from the journal (R432). -/
def Dev.restoreRing (d : Dev) : Dev :=
  let rs := (latestEntries d.evrec.journal).foldr seqInsert []
  let bad := (d.evrec.journal.filter (fun e => !e.good)).length
  let keep := rs.drop (rs.length - min rs.length 32768)
  let ring := (List.range keep.length).zip (keep.map (fun r => { r with restored := true, journalled := true }))
  let head := match highestSeq ring with | some p => p.2.seq.toNat | none => 0
  let d := { d with evrec := { d.evrec with ring := ring } }
  let d := (List.range 8).foldl (fun d k => d.wr (lostFld k) ((d.evrec.savedLost[k]?).getD 0)) d
  let d := (d.wr R.EVREC_HEAD head).wrSat R.EVREC_JOURNAL_BAD bad
  let d := (d.wrSat R.EVREC_JOURNAL_RESTORED keep.length).raise R.EVREC_STATUS_JOURNAL_OK
  d.showRing

/-! ### Reading (R427) -/

/-- The words of a slot; an empty slot reads as 48 zero bytes (R421). -/
def Dev.slotWords (d : Dev) (k : Nat) : List Word :=
  match oget d.evrec.ring k with
  | some r => leWords 12 r.bytes
  | none => List.replicate 12 0

/-- The latched copy and READ_IDX of a path. -/
def Dev.evLatch (d : Dev) (p : Path) : List Word × Nat :=
  match p with
  | .mgmt => (d.evrec.latchMgmt, d.evrec.idxMgmt)
  | .tack _ => (d.evrec.latchTack, d.evrec.idxTack)

/-- Sets the latched copy and READ_IDX of a path. -/
def Dev.setEvLatch (d : Dev) (p : Path) (ws : List Word) (i : Nat) : Dev :=
  match p with
  | .mgmt => { d with evrec := { d.evrec with latchMgmt := ws, idxMgmt := i } }
  | .tack _ => { d with evrec := { d.evrec with latchTack := ws, idxTack := i } }

/-- A read of `EVREC.DATAk` on a path: DATA0 latches the slot that READ_IDX names, and DATA11 advances
READ_IDX, from 32,767 to 0. -/
def Dev.readEvData (d : Dev) (p : Path) (k : Nat) : Word × Dev :=
  let (ws, i) := d.evLatch p
  let ws := if k = 0 then d.slotWords i else ws
  let i' := if k = 11 then (i + 1) % 32768 else i
  ((ws[k]?).getD 0, d.setEvLatch p ws i')

end Sys2Proof.Machine
end

