-- ==== Sys2Proof/Machine/TimeOps.lean ====
section
/-! DEFINITION. The time base's own operations: restart, step, servo, divergence and following
(R364 to R375). -/

namespace Sys2Proof.Machine

/-- States of the time base as `TIME.STATUS.STATE` codes them (R366, R379). -/
def tsFree : Nat := 0
def tsQualifying : Nat := 1
def tsTracking : Nat := 2
def tsHoldover : Nat := 3
def tsDiverged : Nat := 4
def tsFollowing : Nat := 5

/-- The quotient of an integer by a positive number, to nearest with halves away from zero (R369). -/
def roundDiv (n : Int) (m : Nat) : Int :=
  if 0 ≤ n then (2 * n + m) / (2 * m) else -((2 * (-n) + m) / (2 * m))

/-- freq and rate are limited to ±549,755,813 (R363, R369). DEDUCED (log 96). -/
def clampRate (x : Int) : Int := max (-549755813) (min 549755813 x)

/-- A 64-bit difference read as a signed number. -/
def signed64 (x : DWord) : Int := x.toInt

/-- Changes the time base's own record. -/
def Dev.onTime (d : Dev) (f : TimeSt → TimeSt) : Dev := { d with time := f d.time }

/-- While the step is armed and a reference is selected the time base is QUALIFYING, unless the module
follows its ACTIVE (R366, R368). DEDUCED (log 97). -/
def Dev.refState (d : Dev) : Dev :=
  if d.on R.TIME_STATUS_STEP_ARMED && (d.rd R.TIME_STATUS_STATE = tsFree || d.rd R.TIME_STATUS_STATE = tsQualifying) then
    d.wr R.TIME_STATUS_STATE
      (if d.rd R.TIME_CONFIG_SOURCE ≠ 0 && d.role ≠ .standby then tsQualifying else tsFree)
  else d

/-- A time-base restart arms the step (R367): at power-up from the last T in the flash journal, at any
other time with T continuous. DEDUCED (log 27). -/
def Dev.restartTime (d : Dev) (powerUp : Bool) : Dev :=
  let off := if powerUp then d.time.journalT.getD 0 else d.timeT
  let d := d.onTime (fun t =>
    { t with offset := off, c0 := t.counter, rate := 0, freq := 0, rebase := none, sample := none
             prev := none, qual := none, heldSince := none, followSum := 0, followN := 0
             restartAtBoundary := false })
  let d := d.clear [R.TIME_STATUS_STEPPED, R.TIME_STATUS_DIVERGED, R.TIME_FREQ, R.TIME_OSC_DEV]
  let d := ((d.raise R.TIME_STATUS_STEP_ARMED).wr R.TIME_STATUS_STATE tsFree).refState
  (d.incWrap R.TIME_RESTARTS_RESTARTS).event .timeRestart (source 12 0)

/-- The step is disarmed at every entry into ACTIVE or SOLO (R367, R375). -/
def Dev.disarmStep (d : Dev) : Dev :=
  let d := d.drop R.TIME_STATUS_STEP_ARMED
  let st := d.rd R.TIME_STATUS_STATE
  if st = tsQualifying then d.wr R.TIME_STATUS_STATE tsFree
  else if st = tsFollowing then d.wr R.TIME_STATUS_STATE tsTracking
  else d

/-- The step is taken at a counter value to a reference time (R368). -/
def Dev.stepTime (d : Dev) (ref c : DWord) (state : Nat) : Dev :=
  let size := ref - d.time.at_ c
  let d := d.onTime (fun t => { t with offset := ref, c0 := c, prev := none, qual := none, rebase := none })
  let d := (d.wr64 R.TIME_STEP_LO R.TIME_STEP_HI size).drop R.TIME_STATUS_STEP_ARMED
  let d := ((d.raise R.TIME_STATUS_STEPPED).wr R.TIME_STATUS_STATE state).incWrap R.TIME_RESTARTS_STEPS
  d.event .timeStepped (source 12 0) [w32 size.toNat, w32 (size.toNat / 2 ^ 32)]

/-- The error of a sample in the registers (R379). -/
def Dev.showError (d : Dev) (e : Int) : Dev :=
  let lim : Int := 2 ^ 31 - 1
  (d.wrInt R.TIME_ERROR (max (-lim) (min lim e))).maxTo R.TIME_ERROR_MAX e.natAbs

/-- The servo's law for one sample: the new rate waits for its rebase (R364, R369). `slew` is SLEW_S in
ns, `delta` the time since the previous valid sample. -/
def Dev.servo (d : Dev) (e : Int) (delta : Option Nat) (slew : Nat) : Dev :=
  let freq := match d.time.prev, delta with
    | some (e0, _), some dt => clampRate (d.time.freq - roundDiv ((e - e0) * 2 ^ 40) (4 * max dt 1))
    | _, _ => d.time.freq
  let rate := clampRate (freq - roundDiv (e * 2 ^ 40) slew)
  let d := d.onTime (fun t => { t with freq := freq, rebase := some rate })
  (d.wrInt R.TIME_FREQ freq).wrInt R.TIME_OSC_DEV (roundDiv (-freq * 10 ^ 8) (2 ^ 40))

/-- The time base is DIVERGED (R370). -/
def Dev.divergeTime (d : Dev) : Dev :=
  let d := (d.wr R.TIME_STATUS_STATE tsDiverged).raise R.TIME_STATUS_DIVERGED
  let d := (d.raise R.TIME_STATUS_DIVERGED_SEEN).onTime
    (fun t => { t with rebase := none, heldSince := some t.counter })
  d.event .timeDiverged (source 12 0)

/-- The time base uses a valid sample (R368 to R371). -/
def Dev.useSample (d : Dev) (s : TimeSample) : Dev :=
  let e := signed64 (d.time.at_ s.count - s.ref)
  let dt := d.time.prev.map (fun p => (s.count - p.2).toNat)
  let remember (d : Dev) : Dev := d.onTime (fun t => { t with prev := some (e, s.count) })
  let d := (d.showError e).raise R.TIME_STATUS_REF_VALID
  let d := d.onTime (fun t => { t with lastValid := some s.count })
  if d.on R.TIME_STATUS_STEP_ARMED then
    match d.time.qual with
    | some e0 =>
      if (e - e0).natAbs ≤ 1000 then d.stepTime s.ref s.count tsTracking
      else d.onTime (fun t => { t with qual := some e })
    | none => d.onTime (fun t => { t with qual := some e })
  else if 1000000 < e.natAbs then
    remember (if d.rd R.TIME_STATUS_STATE = tsDiverged then d else d.divergeTime)
  else
    let back := d.rd R.TIME_STATUS_STATE = tsDiverged
    let d := (d.drop R.TIME_STATUS_DIVERGED).wr R.TIME_STATUS_STATE tsTracking
    let d := d.onTime (fun t => { t with heldSince := none })
    let d := d.when back (fun d => d.event .timeRefBack (source 12 0))
    remember (d.servo e dt (d.rd R.TIME_CONFIG_SLEW_S * nsPerSecond))

/-- A valid sample of the selected reference waits for its use; a STANDBY takes none (R372, R378).
DEDUCED (log 99). -/
def Dev.presentSample (d : Dev) (ref : DWord) : Dev :=
  if d.role = .standby then d
  else (d.incWrap R.TIME_SAMPLES_VALID).onTime (fun t => { t with sample := some ⟨ref, t.counter⟩ })

/-- The corrections are replaced together at the chosen counter value (R364). -/
def Dev.rebaseTime (d : Dev) : Dev :=
  match d.time.rebase with
  | some r =>
    d.onTime (fun t => { t with offset := t.at_ t.counter, c0 := t.counter, rate := r, rebase := none })
  | none => d

/-- One following update from the mean of a millisecond's samples (R375). -/
def Dev.followTime (d : Dev) : Dev :=
  if d.role ≠ .standby || d.time.followN = 0 then d
  else
    let e := roundDiv d.time.followSum d.time.followN
    let d := d.onTime (fun t => { t with followSum := 0, followN := 0, lastValid := some t.counter })
    let d := ((d.incWrap R.TIME_FOLLOW_UPDATES).showError e).raise R.TIME_STATUS_REF_VALID
    if d.on R.TIME_STATUS_STEP_ARMED then
      d.stepTime (d.timeT - BitVec.ofInt 64 e) d.now tsFollowing
    else if 1000000 < e.natAbs then
      (d.event .timeDiverged (source 12 0)).onTime (fun t => { t with restartAtBoundary := true })
    else
      (d.servo e (some 1000000) 100000000).onTime (fun t => { t with prev := some (e, t.counter) })

end Sys2Proof.Machine
end

