-- ==== Sys2Proof/Machine/Requests.lean ====
section
/-! DEFINITION. Requests of the management plane: rights, duplicates and answers (R451 to R458). -/

namespace Sys2Proof.Machine

/-- A request's opcode and the mask bit of the right it needs (R453); ENROL needs the state of R448. -/
structure ReqKind where
  opcode : Nat
  right : Option Nat
  deriving DecidableEq, Repr

/-- The opcodes of R453. -/
def rqReadReg : ReqKind := ⟨0x0101, some 0⟩
def rqEventCatalogue : ReqKind := ⟨0x0102, some 0⟩
def rqStatusCatalogue : ReqKind := ⟨0x0103, some 0⟩
def rqAttest : ReqKind := ⟨0x0104, some 0⟩
def rqCalExport : ReqKind := ⟨0x0105, some 0⟩
def rqAwlRead : ReqKind := ⟨0x0106, some 0⟩
def rqSlotRead : ReqKind := ⟨0x0107, some 0⟩
def rqPlantCommand : ReqKind := ⟨0x0201, some 1⟩
def rqTripReset : ReqKind := ⟨0x0202, some 1⟩
def rqHartRequest : ReqKind := ⟨0x0203, some 1⟩
def rqWriteReg : ReqKind := ⟨0x0301, some 2⟩
def rqSlotWrite : ReqKind := ⟨0x0302, some 2⟩
def rqSlotCommit : ReqKind := ⟨0x0303, some 2⟩
def rqStage : ReqKind := ⟨0x0304, some 2⟩
def rqAbortStage : ReqKind := ⟨0x0305, some 2⟩
def rqRoleSwap : ReqKind := ⟨0x0306, some 2⟩
def rqStart : ReqKind := ⟨0x0307, some 2⟩
def rqRestart : ReqKind := ⟨0x0308, some 2⟩
def rqTimeRestart : ReqKind := ⟨0x0309, some 2⟩
def rqSetTime : ReqKind := ⟨0x030A, some 2⟩
def rqFreeze : ReqKind := ⟨0x030B, some 2⟩
def rqUnfreeze : ReqKind := ⟨0x030C, some 2⟩
def rqCalPoint : ReqKind := ⟨0x030D, some 2⟩
def rqCalCommit : ReqKind := ⟨0x030E, some 2⟩
def rqCalImport : ReqKind := ⟨0x030F, some 2⟩
def rqCalAbort : ReqKind := ⟨0x0310, some 2⟩
def rqHistFormat : ReqKind := ⟨0x0311, some 2⟩
def rqFwUpdate : ReqKind := ⟨0x0312, some 2⟩
def rqApprove : ReqKind := ⟨0x0401, some 3⟩
def rqPropose : ReqKind := ⟨0x0501, some 4⟩
def rqWithdraw : ReqKind := ⟨0x0502, some 4⟩
def rqCsr : ReqKind := ⟨0x0503, some 4⟩
def rqInstallCert : ReqKind := ⟨0x0504, some 4⟩
def rqReleaseOwner : ReqKind := ⟨0x0505, some 4⟩
def rqEnrol : ReqKind := ⟨0x0601, none⟩

/-- The numeric code of a status (R116, R458). DESIGN CHOICE (log 12). -/
def Status.code : Status → Nat
  | .ok => 0
  | .hrn c => c
  | .inProgress => 0x0100
  | .idReused => 0x0101
  | .busy => 0x0102
  | .notPermitted => 0x0103
  | .locked => 0x0104
  | .badRequest => 0x0105
  | .clientMismatch => 0x0106
  | .aborted => 0x0107
  | .pendingFull => 0x0108
  | .unknownPending => 0x0109
  | .approverUnknown => 0x010A
  | .signatureBad => 0x010B
  | .sameApprover => 0x010C
  | .subjectMismatch => 0x010D
  | .notEnrolled => 0x010E
  | .presenceRequired => 0x010F
  | .named n => Config.statusCode n

/-- The bytes of a response: its 32-byte header and its body (R454). -/
def Response.bytes (x : Response) : List Byte :=
  leBytes 4 0x31474D4E ++ leBytes 2 x.opcode ++ leBytes 2 x.status.code ++ leBytes 4 x.client.toNat ++ leBytes 8 x.id.toNat
    ++ leBytes 4 x.body.length ++ [BitVec.ofNat 8 (bit x.duplicate + 2 * bit x.truncated), 0, 0, 0, 0, 0, 0, 0] ++ x.body

/-- The opcode and the header of the request that bytes spell on a session, with the SHA-384 of its OPCODE and body (R454,
R455). -/
def readRequest (session : Nat) (bs : List Byte) : Nat × Req :=
  let f (off n : Nat) : Nat := leNat ((bs.drop off).take n)
  (f 4 2, { session := session, magic := w32 (f 0 4), length := f 20 4, client := w32 (f 8 4), id := BitVec.ofNat 64 (f 12 8)
            digest := sha384 (leBytes 2 (f 4 2) ++ (bs.drop 32).take (f 20 4)) })

/-- What an accepted or refused action answers: the module after it, its status and its body; `later` for an
action that is still carried out, whose answer follows; `dup` for the stored result of an earlier command (R213). -/
structure Reply where
  dev : Dev
  status : Status
  body : List Byte := []
  later : Bool := false
  dup : Bool := false

/-- A refusal leaves the module as it is. -/
def Dev.refuse (d : Dev) (s : Status) : Reply := { dev := d, status := s }

/-- An action done. -/
def Dev.done (d : Dev) (body : List Byte := []) : Reply := { dev := d, status := .ok, body := body }

/-- Sends a response (R454). -/
def Dev.respond (d : Dev) (k : ReqKind) (r : Req) (s : Status) (body : List Byte := [])
    (dup trunc : Bool := false) : Dev :=
  { d with mgmt := { d.mgmt with
      response := some { opcode := k.opcode, status := s, client := r.client, id := r.id
                         duplicate := dup, truncated := trunc, body := body } } }

/-- The open session of a number. -/
def Dev.session (d : Dev) (id : Nat) : Option Session := d.mgmt.sessions.find? (fun s => s.id = id)

/-- Notes that a session is used now. -/
def Dev.touchSession (d : Dev) (id : Nat) : Dev :=
  { d with mgmt := { d.mgmt with
      sessions := d.mgmt.sessions.map (fun x : Session => if x.id = id then { x with lastUse := d.now } else x) } }

/-- Closes a session; its running requests carry on (R455). -/
def Dev.closeSession (d : Dev) (id : Nat) : Dev :=
  let d := { d with mgmt := { d.mgmt with sessions := d.mgmt.sessions.filter (fun s => s.id ≠ id) } }
  d.wr R.SEC_CLIENTS_SESSIONS d.mgmt.sessions.length

/-- Whether a session holds the right a request needs (R453). With no owner only READ requests, ATTEST and
ENROL are carried out (R448). -/
def Session.may (s : Session) (k : ReqKind) (owned : Bool) : Bool :=
  match k.right with
  | some b => testBit s.rights b && (owned || b = 0)
  | none => !owned

/-- The client's completed requests, latest first, at most 64. -/
def Dev.doneOf (d : Dev) (c : Word) : List Done := (d.mgmt.completed.filter (fun x => x.client = c)).take 64

/-- Records a completed request with a body of up to 1 KiB (R456). -/
def Dev.complete (d : Dev) (k : ReqKind) (r : Req) (s : Status) (body : List Byte) : Dev :=
  let x : Done := { client := r.client, id := r.id, digest := r.digest, opcode := k.opcode, status := s
                    body := if body.length ≤ 1024 then some body else none, at_ := d.now }
  let others := d.mgmt.completed.filter (fun y => y.client ≠ r.client)
  let mine := x :: d.doneOf r.client
  let d := { d with mgmt := { d.mgmt with completed := mine.take 64 ++ others } }
  d.incWrap R.SEC_REQUESTS

/-- A stored result younger than 10 min answers a duplicate (R455, R456). -/
def Dev.storedResult (d : Dev) (r : Req) : Option Done :=
  (d.doneOf r.client).find? (fun x => x.id = r.id && d.since x.at_ ≤ 600 * nsPerSecond)

/-- A management request: the checks of R455 in their order, then the action. DEDUCED (log 13). -/
def Dev.request (d : Dev) (k : ReqKind) (r : Req) (act : Dev → Reply) : Dev :=
  match if d.alive then d.session r.session else none with
  | none => d
  | some s =>
    let d := d.touchSession s.id
    if r.magic ≠ 0x31474D4E || 1048576 < r.length then (d.respond k r .badRequest).closeSession s.id
    else if !s.unowned && r.client ≠ s.client then d.respond k r .clientMismatch
    else if !s.may k d.trust.owner.isSome then d.respond k r .notPermitted
    else match d.mgmt.running.find? (fun x => x.client = r.client && x.id = r.id) with
    | some x =>
      if x.digest = r.digest then
        (d.respond k r .inProgress).incSat R.SEC_DUPLICATES_IN_PROGRESS
      else d.respond k r .idReused
    | none =>
      match d.storedResult r with
      | some x =>
        if x.digest = r.digest then
          (d.respond k r x.status (x.body.getD []) true x.body.isNone).incSat R.SEC_DUPLICATES_DUPLICATE
        else d.respond k r .idReused
      | none =>
        if 8 ≤ (d.mgmt.running.filter (fun x => x.client = r.client)).length then d.respond k r .busy
        else
          let p := act d
          if p.later then
            { p.dev with mgmt := { p.dev.mgmt with
                running := p.dev.mgmt.running ++ [⟨k.opcode, r.client, r.id, r.digest⟩] } }
          else (p.dev.complete k r p.status p.body).respond k r p.status p.body p.dup

/-- A running request ends with its answer (R455, R456). -/
def Dev.finishRequest (d : Dev) (k : ReqKind) (client : Word) (id : DWord) (s : Status) (body : List Byte) : Dev :=
  match d.mgmt.running.find? (fun x => x.client = client && x.id = id) with
  | none => d
  | some x =>
    let r : Req := { client := client, id := id, digest := x.digest }
    let d := { d with mgmt := { d.mgmt with
      running := d.mgmt.running.filter (fun y => y.client ≠ client || y.id ≠ id) } }
    (d.complete k r s body).respond k r s body

/-! ### Pending changes (R459 to R463) -/

/-- Code of a state in `SEC.PEND.STATE` (R466). -/
def PendState.code : PendState → Nat
  | .proposed => 1
  | .approved => 2
  | .consumed => 3
  | .lapsed => 4
  | .withdrawn => 5

/-- A pending change is still pending: neither lapsed, consumed nor withdrawn. -/
def Pending.open_ (p : Pending) : Bool := p.state = .proposed || p.state = .approved

/-- Whether an approval is live: up to and including 600 s from its receipt, on T (R461). -/
def Approval.live (a : Approval) (now : DWord) : Bool := (now - a.t).toNat ≤ 600 * nsPerSecond

/-- A pending change lapses: 3,600 s after its creation when it has not been approved, or after its approval (R460). -/
def Pending.lapses (p : Pending) (now : DWord) : Bool :=
  3600 * nsPerSecond ≤ (now - (if p.state = .approved then p.approvedAt else p.created)).toNat

/-- Stores a pending change in its register slot. -/
def Dev.putPend (d : Dev) (k : Nat) (p : Pending) : Dev :=
  let d := { d with mgmt := { d.mgmt with pend := oput d.mgmt.pend k p } }
  let d := ((d.wr (R.SEC_PEND_ID_LO k) p.id.toNat).wr (R.SEC_PEND_STATE k) p.state.code).wr
    (R.SEC_PEND_KIND k) p.kind
  d.wr (R.SEC_PEND_APPROVALS k) (min 2 p.approvals.length)

/-- A change of state of a pending change, with its event (R460). -/
def Dev.pendState (d : Dev) (k : Nat) (p : Pending) (s : PendState) : Dev :=
  let d := d.putPend k { p with state := s }
  d.eventM .pendingState [p.id, w32 s.code, w32 p.kind]

/-- The register slot and the pending change of an ID. -/
def Dev.findPend (d : Dev) (id : Word) : Option (Nat × Pending) :=
  d.mgmt.pend.find? (fun x => x.2.id = id && x.2.open_)

/-- The approved pending change of a kind for a subject (R462): the change, or why there is none. -/
def Dev.approvedFor (d : Dev) (kind : Nat) (subject : BitVec 384) : Except Status (Nat × Pending) :=
  match d.mgmt.pend.find? (fun x => x.2.state = .approved && x.2.kind = kind && x.2.subject = subject) with
  | some x => .ok x
  | none =>
    if d.mgmt.pend.any (fun x => x.2.state = .approved && x.2.kind = kind) then .error .subjectMismatch
    else .error (.hrn 12)

/-- The approver keys in force: the running image's SECURITY, or with no image the enrolment record (R446). -/
def Dev.approvers (d : Dev) : List PubKey :=
  match d.hrn.image with
  | some im => im.security.approvers
  | none => match d.trust.owner with
    | some o => o.approvers
    | none => []

/-- The 76 bytes of an approval statement (R461). -/
def statementBytes (magic : Word) (fp : BitVec 128) (kind pair : Byte) (id : Word) (subject : BitVec 384) :
    List Byte :=
  leBytes 4 magic.toNat ++ beBytes 16 fp.toNat ++ [kind, pair, 0, 0] ++ leBytes 4 id.toNat
    ++ beBytes 48 subject.toNat

/-- The pair number latched at start; 0 when the code is not valid (R461). -/
def Dev.pairByte (d : Dev) : Byte :=
  if d.on R.SADDLE_CODE_VALID then BitVec.ofNat 8 (d.rd R.SADDLE_PAIR) else 0

/-- Withdraws every pending change that has not been consumed (R462). -/
def Dev.withdrawAll (d : Dev) : Dev :=
  d.mgmt.pend.foldl (fun d x => if x.2.open_ then d.pendState x.1 x.2 .withdrawn else d) d

end Sys2Proof.Machine
end

