-- ==== Sys2Proof/Machine/Router.lean ====
section
/-! DEFINITION. The fabric: clusters and links, and the routers, which move packets flit by flit: routes, virtual
channels, replay buffers and detours (R17, R68, R74 to R83, R87). -/

namespace Sys2Proof.Machine

/-! ### Clusters (R17, R87) -/

/-- The tiles of a cluster (R17). -/
def clusterTiles (n : Nat) : List Nat :=
  (List.range 16).map (fun l => ((n / 3) * 4 + l / 4) * 12 + (n % 3) * 4 + l % 4)

/-- The tile that carries the role of a logical tile (R95, R471). -/
def Dev.tileOf (d : Dev) (logical : Nat) : Nat :=
  ((List.range 144).find? (fun t => d.rd (R.TILE_POS_LOGICAL t) = logical && d.rd (R.TILE_STATUS_ROLE t) ≠ 0)).getD logical

/-- `FAB.CMD.CLEAR_MAX`. -/
def Dev.fabClearMax (d : Dev) (n : Nat) : Dev :=
  let d := ((d.wr (R.FAB_RAIL_RAIL_MIN_MV n) 0xFFFF).wr (R.FAB_TEMP_TJ_MAX n) 0x8000).clear
    [R.FAB_PACE_MAX_PERIOD_MAX n, R.FAB_PACE_MAX_SLOWEST_MAX n]
  d.clear ((clusterTiles n).map R.TILE_PACE_PERIOD_MAX)

/-- `FAB.CMD.CLEAR_COUNTS`. -/
def Dev.fabClearCounts (d : Dev) (n : Nat) : Dev :=
  d.clear (R.FAB_RETRY n :: (clusterTiles n).map R.TILE_RETRY)

/-- The cluster of a tile (R17). -/
def clusterOf (t : Nat) : Nat := (t / 12 / 4) * 3 + t % 12 / 4

/-! ### Links (R79 to R82, R87) -/

/-- A tile's east (0) or north (1) link exists. -/
def linkExists (t dir : Nat) : Bool := if dir = 0 then decide (t % 12 ≠ 11) else decide (t / 12 ≠ 11)

/-- The tile at a link's other end, and the bit of the link in its cluster's registers. -/
def linkEnd (t dir : Nat) : Nat := if dir = 0 then t + 1 else t + 12
def linkBit (t dir : Nat) : Nat := ((t / 12 % 4) * 4 + t % 12 % 4) * 2 + dir

/-- A link is failed or degraded. -/
def Dev.linkOut (d : Dev) (t dir : Nat) : Bool :=
  testBit (d.rd (R.FAB_LINK_FAIL (clusterOf t)) ||| d.rd (R.FAB_LINK_DEGR (clusterOf t))) (linkBit t dir)

/-- A link is failed or degraded from here on: its bit, and the ports at both ends. -/
def Dev.downLink (d : Dev) (t dir : Nat) (degraded : Bool) : Dev :=
  let f := if degraded then R.FAB_LINK_DEGR (clusterOf t) else R.FAB_LINK_FAIL (clusterOf t)
  let d := d.wr f (putBit (d.rd f) (linkBit t dir) true)
  let state := if testBit (d.rd (R.FAB_LINK_FAIL (clusterOf t))) (linkBit t dir) then 2 else 1
  if dir = 0 then (d.wr (R.TILE_PORTS_E t) state).wr (R.TILE_PORTS_W (linkEnd t dir)) state
  else (d.wr (R.TILE_PORTS_N t) state).wr (R.TILE_PORTS_S (linkEnd t dir)) state

/-- The three hops of a link's detour: along the parallel link of the neighbouring row or column, south or west, and
in row 0 or column 0 north or east. -/
def detour (t dir : Nat) : List (Nat × Nat) :=
  if dir = 0 then
    (if t / 12 = 0 then [(t, 1), (t + 12, 0), (t + 1, 1)] else [(t - 12, 1), (t - 12, 0), (t - 11, 1)])
  else if t % 12 = 0 then [(t, 0), (t + 1, 1), (t + 12, 0)] else [(t - 1, 0), (t - 1, 1), (t + 11, 0)]

/-- A cluster owns a link whose detour is itself out of service. -/
def Dev.routeLostIn (d : Dev) (n : Nat) : Bool :=
  (d.rd (R.FAB_LINK_FAIL n) != 0 || d.rd (R.FAB_LINK_DEGR n) != 0)
    && (clusterTiles n).any (fun t => [0, 1].any (fun dir =>
      linkExists t dir && d.linkOut t dir && (detour t dir).any (fun x => d.linkOut x.1 x.2)))

/-- ROUTE_LOST is set and recorded for each cluster that has lost a route (R82). DEDUCED (log 33). -/
def Dev.checkRoutes (d : Dev) : Dev :=
  d.each 9 (fun n d =>
    if d.routeLostIn n && !d.on (R.FAB_STATUS_ROUTE_LOST n) then
      (d.raise (R.FAB_STATUS_ROUTE_LOST n)).event .routeLost (source 2 n)
    else d)

/-! ### Ports and outputs of a router (R74, R77) -/

/-- Receiving ports: 0 north, 1 east, 2 south and 3 west of a tile's router; 4 the router's input from the tile's injection
lane and 5 the tile's input from the ejection lane; 6 the router's input from the cluster's I/O port and 7 the I/O port's
input from the router. Outputs: 0 to 3, 4 the ejection lane, 5 the I/O port. A port's key, and the output that sends into
it; none at the mesh edge and for 4 and 6, whose senders are outside the routers. -/
def portKey (t port : Nat) : Nat := t * 8 + port
def portFrom (t port : Nat) : Option (Nat × Nat) :=
  match port with
  | 0 => if t / 12 = 11 then none else some (t + 12, 2)
  | 1 => if t % 12 = 11 then none else some (t + 1, 3)
  | 2 => if t / 12 = 0 then none else some (t - 12, 0)
  | 3 => if t % 12 = 0 then none else some (t - 1, 1)
  | 5 => some (t, 4)
  | 7 => some (t, 5)
  | _ => none

/-- The link of a mesh port or output, as its owner and direction; none at the mesh edge. -/
def portLink (t port : Nat) : Option (Nat × Nat) :=
  match port with
  | 0 => if t / 12 = 11 then none else some (t, 1)
  | 1 => if t % 12 = 11 then none else some (t, 0)
  | 2 => if t / 12 = 0 then none else some (t - 12, 1)
  | 3 => if t % 12 = 0 then none else some (t - 1, 0)
  | _ => none

/-- The port that a mesh output's flits are received on. -/
def homePort (out : Nat) : Option Nat :=
  match out with
  | 0 => some 2
  | 1 => some 3
  | 2 => some 0
  | 3 => some 1
  | _ => none

/-- Changes the fabric's record. -/
def Dev.onFab (d : Dev) (f : FabSt → FabSt) : Dev := { d with fab := f d.fab }

/-- The number of the flit that a port expects. -/
def Dev.expects (d : Dev) (t port : Nat) : Nat := sget (fun _ => 0) d.fab.expect (portKey t port)

/-- The flits that wait at a channel of an input, and an output. -/
def queueKey (port : Nat) (bulk detour : Bool) : Nat := port * 4 + bit bulk + 2 * bit detour
def Dev.fabQueue (d : Dev) (t k : Nat) : FabQueue := sget (fun _ => {}) d.fab.queues (t * 64 + k)
def Dev.putFlits (d : Dev) (t k : Nat) (q : FabQueue) : Dev :=
  d.onFab (fun f => { f with queues := sput (fun _ => {}) f.queues (t * 64 + k) q })
def Dev.fabOut (d : Dev) (t o : Nat) : FabOut := sget (fun _ => {}) d.fab.outs (t * 8 + o)
def Dev.putOut (d : Dev) (t o : Nat) (x : FabOut) : Dev :=
  d.onFab (fun f => { f with outs := sput (fun _ => {}) f.outs (t * 8 + o) x })

/-! ### Packets and routes (R74, R75, R77) -/

/-- The virtual channel of what a packet carries: BULK for state copies, loading and publish copies. -/
def usesBulk : FabUse → Bool
  | .votedOutput | .message | .agreement | .setPoint => false
  | .stateCopy | .loading | .publishCopy => true

/-- A flit is on BULK. -/
def flitBulk : FabFlit → Bool
  | .header _ _ use _ => usesBulk use
  | .payload b _ => b

/-- The tile of a cluster that the I/O port's traffic is attached to: the primary, or the alternate. -/
def Dev.attachedTile (d : Dev) (n : Nat) : Nat :=
  if d.on (R.FAB_IOPORT_ON_ALT n) then d.rd (R.FAB_IOPORT_ALTERNATE n) else d.rd (R.FAB_IOPORT_PRIMARY n)

/-- The output that a header takes at a router: along x to the destination column, then along y, then out. That a header
names the I/O port by a bit beside the tile index is. PRESUMED (log 135). -/
def Dev.fabRoute (d : Dev) (t : Nat) (flit : FabFlit) : Nat :=
  match flit with
  | .payload _ _ => 4
  | .header dest toIo _ _ =>
    let u := if toIo then d.attachedTile (clusterOf dest.val) else dest.val
    if t % 12 < u % 12 then 1
    else if u % 12 < t % 12 then 3
    else if t / 12 < u / 12 then 0
    else if u / 12 < t / 12 then 2
    else if toIo then 5 else 4

/-- The outputs of the detour around a mesh output; around the primary's I/O output, the way to the alternate. -/
def detourPath (t out : Nat) : List Nat :=
  match out with
  | 0 => if t % 12 = 0 then [1, 0, 3] else [3, 0, 1]
  | 1 => if t / 12 = 0 then [0, 1, 2] else [2, 1, 0]
  | 2 => if t % 12 = 0 then [1, 2, 3] else [3, 2, 1]
  | 3 => if t / 12 = 0 then [0, 3, 2] else [2, 3, 0]
  | 5 => [1, 1, 1, 0, 0, 0, 5]
  | _ => []

/-- The way from the alternate's router to the primary's. -/
def pathToPrimary : List Nat := [3, 3, 3, 2, 2, 2]

/-- An output is out of service. -/
def Dev.outLost (d : Dev) (t out : Nat) : Bool :=
  match portLink t out with
  | some (o, dir) => d.linkOut o dir
  | none => out = 5 && d.on (R.FAB_IOPORT_ON_ALT (clusterOf t)) && d.rd (R.FAB_IOPORT_PRIMARY (clusterOf t)) = t

/-! ### Switching (R68, R75, R76, R81) -/

/-- A flit that can leave a queue: the output of its packet, the output and channel it goes out by, who holds that channel
for the packet, and the flit as it goes out. -/
structure FabMove where
  key : Nat
  line : Nat
  out : Nat
  chan : Nat
  owner : Nat
  hop : FabHop
  deriving DecidableEq, Repr

/-- The move of the flit at a queue's head. Traffic of an output that is out of service takes the detour, behind the flits
of its replay buffer (inputs 8 to 13). -/
def Dev.fabMove (d : Dev) (t k : Nat) : Option FabMove :=
  let q := d.fabQueue t k
  let port := k / 4
  match q.flits with
  | [] => none
  | h :: _ =>
    match h.via with
    | o :: rest =>
      some { key := k, line := o, out := o, chan := 2 + k % 2, owner := if 8 ≤ port then port + 8 else port
             hop := { h with via := rest } }
    | [] =>
      let l := q.out.getD (d.fabRoute t h.flit)
      if !d.outLost t l then some { key := k, line := l, out := l, chan := k % 2, owner := port, hop := h }
      else match detourPath t l, (d.fabQueue t (queueKey (8 + l) (flitBulk h.flit) true)).flits with
        | o :: rest, [] =>
          some { key := k, line := l, out := o, chan := 2 + k % 2, owner := 16 + l
                 hop := { h with via := rest, home := homePort l } }
        | _, _ => none

/-- A channel of an output is free, or this packet's. -/
def FabOut.openTo (x : FabOut) (chan owner : Nat) : Bool :=
  match oget x.owners chan with
  | none => true
  | some o => o = owner
def FabOut.hold (x : FabOut) (chan owner : Nat) (last : Bool) : FabOut :=
  { x with owners := if last then oerase x.owners chan else oput x.owners chan owner }

/-- The output takes the move: no other packet holds its channels. -/
def Dev.moveOpen (d : Dev) (t : Nat) (m : FabMove) : Bool :=
  (d.fabOut t m.out).openTo m.chan m.owner
    && (m.line = m.out || (d.fabOut t m.line).openTo (m.key % 2) (m.key / 4))

/-- A flit goes out: into the replay buffer, where it stays until it is acknowledged. -/
def Dev.sendFlit (d : Dev) (t : Nat) (m : FabMove) : Dev :=
  let q := d.fabQueue t m.key
  let d := d.putFlits t m.key { q with flits := q.flits.drop 1, out := if m.hop.last then none else some m.line }
  let d := if m.line = m.out then d
    else d.putOut t m.line ((d.fabOut t m.line).hold (m.key % 2) (m.key / 4) m.hop.last)
  let x := (d.fabOut t m.out).hold m.chan m.owner m.hop.last
  d.putOut t m.out { x with replay := x.replay ++ [(x.next, m.hop, 0)], next := (x.next + 1) % 256 }

/-- Which of the flits that wait for one output on one virtual channel goes first is a free choice.
DESIGN CHOICE (log 136). -/
def Dev.pickMove (d : Dev) (ms : List FabMove) : Option FabMove :=
  match ms with
  | [] => none
  | [m] => some m
  | m :: _ => some ((ms[Config.fabPick d.free % ms.length]?).getD m)

/-- One transfer of an output, if its replay buffer has room and a flit waits: with both virtual channels waiting, CTRL
wins 7 of every 8. -/
def Dev.transfer (d : Dev) (t out : Nat) : Dev :=
  let x := d.fabOut t out
  if 4 ≤ x.replay.length || d.outLost t out then d
  else
    let keys := (d.fab.queues.filter (fun p => p.1 / 64 = t)).map (fun p => p.1 % 64)
    let ms := (keys.filterMap (d.fabMove t)).filter (fun m => m.out = out && d.moveOpen t m)
    let ctrl := ms.filter (fun m => m.key % 2 = 0)
    let bulk := ms.filter (fun m => m.key % 2 = 1)
    let both := !ctrl.isEmpty && !bulk.isEmpty
    let first := if !both then ms else if x.turn < 7 then ctrl else bulk
    match d.pickMove first with
    | none => d
    | some m =>
      let d := if both then d.putOut t out { x with turn := if x.turn < 7 then x.turn + 1 else 0 } else d
      { d.sendFlit t m with free := if first.length < 2 then d.free else d.free + 1 }

/-- A router moves what it can. -/
def Dev.pump (d : Dev) (t : Nat) : Dev := d.each 24 (fun k d => d.transfer t (k % 6))

/-! ### Arrival (R76, R78) -/

/-- The rejections of a flit at a port. -/
def Dev.rejections (d : Dev) (t port seq : Nat) : Nat :=
  match portFrom t port with
  | some (u, o) => (((d.fabOut u o).replay.find? (fun e => e.1 = seq)).map (fun e => e.2.2)).getD 0
  | none => (match oget d.fab.rejects (portKey t port) with
    | some (k, n) => if k = seq then n else 0
    | none => 0)

/-- A flit of a port has been rejected four times in a row (R79). -/
def Dev.rejectedOut (d : Dev) (t port : Nat) : Bool :=
  match portFrom t port with
  | some (u, o) => (d.fabOut u o).replay.any (fun e => 4 ≤ e.2.2)
  | none => (match oget d.fab.rejects (portKey t port) with | some (_, n) => 4 ≤ n | none => false)

/-- Counts the rejections of a flit. -/
def Dev.putRejections (d : Dev) (t port seq n : Nat) : Dev :=
  match portFrom t port with
  | some (u, o) =>
    let x := d.fabOut u o
    d.putOut u o { x with replay := x.replay.map (fun e => if e.1 = seq then (e.1, e.2.1, n) else e) }
  | none => d.onFab (fun f => { f with rejects := oput f.rejects (portKey t port) (seq, n) })

/-- The router whose input queue a flit from outside belongs to: the I/O port's packet that began at the primary goes on
to the primary, by way of the alternate (R77). -/
def Dev.entryTile (d : Dev) (t port : Nat) (bulk : Bool) : Nat :=
  let n := clusterOf t
  let u := d.rd (R.FAB_IOPORT_PRIMARY n)
  if port = 6 && d.on (R.FAB_IOPORT_ON_ALT n) && (d.fabQueue u (queueKey 6 bulk false)).left ≠ 0 then u else t

/-- A flit from outside, when it continues the packets of its channel: a header with none open, a payload flit that one
still lacks. -/
def Dev.enters (d : Dev) (t port src : Nat) (flit : FabFlit) : Option FabHop :=
  let u := d.entryTile t port (flitBulk flit)
  let left := (d.fabQueue u (queueKey port (flitBulk flit) false)).left
  let hop (last : Bool) : FabHop :=
    { flit := flit, src := src, last := last, via := if u = t then [] else pathToPrimary, home := if u = t then none else some 6 }
  match flit with
  | .header _ _ _ n => if left = 0 then some (hop (n.val = 0)) else none
  | .payload _ _ => if left = 0 then none else some (hop (left = 1))

/-- The flit that arrives: from a router the one with that number in its replay buffer; from a tile's interface or the I/O
die, at the tile that the I/O port is attached to, the one handed over. DESIGN CHOICE (log 138). -/
def Dev.arriving (d : Dev) (t port seq : Nat) (flit : FabFlit) : Option FabHop :=
  match portFrom t port with
  | some (u, o) => ((d.fabOut u o).replay.find? (fun e => e.1 = seq)).map (fun e => e.2.1)
  | none =>
    if port = 4 then d.enters t 4 t flit
    else if port = 6 && d.attachedTile (clusterOf t) = t then d.enters t 6 (144 + clusterOf t) flit
    else none

/-- The payload flits still to come at an input from outside, after a flit. -/
def flitLeft (flit : FabFlit) (left : Nat) : Nat :=
  match flit with
  | .header _ _ _ n => n.val
  | .payload _ _ => left - 1

/-- The tile's interface, or the I/O port, takes a flit, and with the last one it has the packet. -/
def Dev.takeFlit (d : Dev) (t : Nat) (io : Bool) (h : FabHop) : Dev :=
  let k := t * 4 + 2 * bit io + bit (flitBulk h.flit)
  let p := sget (fun _ => []) d.fab.rx k ++ [h]
  d.onFab (fun f => if h.last then { f with rx := sput (fun _ => []) f.rx k [], got := oput f.got k p }
    else { f with rx := sput (fun _ => []) f.rx k p })

/-- An accepted flit waits in the router, behind those of its channel; one off a detour as received on the link that the
detour replaces (R81). -/
def Dev.queueFlit (d : Dev) (t port : Nat) (h : FabHop) : Dev :=
  let k := if h.via.isEmpty then queueKey (h.home.getD port) (flitBulk h.flit) false else queueKey port (flitBulk h.flit) true
  let h := if h.via.isEmpty then { h with home := none } else h
  let q := d.fabQueue t k
  d.putFlits t k { q with flits := q.flits ++ [h] }

/-- The expected flit is accepted and acknowledged: its sender's replay buffer lets it go, and both ends move on. -/
def Dev.acceptFlit (d : Dev) (t port : Nat) (h : FabHop) : Dev :=
  let e := d.expects t port
  let d := d.onFab (fun f => { f with expect := sput (fun _ => 0) f.expect (portKey t port) ((e + 1) % 256) })
  let d := match portFrom t port with
    | some (u, o) =>
      let x := d.fabOut u o
      d.putOut u o { x with replay := x.replay.filter (fun r => r.1 ≠ e) }
    | none =>
      let u := d.entryTile t port (flitBulk h.flit)
      let k := queueKey port (flitBulk h.flit) false
      let q := d.fabQueue u k
      (d.putFlits u k { q with left := flitLeft h.flit q.left }).onFab
        (fun f => { f with rejects := oerase f.rejects (portKey t port) })
  let d := if port = 5 ∨ port = 7 then d.takeFlit t (port = 7) h else d.queueFlit t port h
  let d := match portFrom t port with
    | some (u, _) => d.pump u
    | none => d
  d.pump t

/-- The tile whose `TILE.RETRY` counts what is sent again into a port. -/
def retryTile (t port : Nat) : Option Nat :=
  match portFrom t port with
  | some (u, _) => some u
  | none => if port = 4 then some t else none

/-- The key under which retransmissions into a port are kept for the degraded rule. -/
def againKey (t port : Nat) : Option Nat :=
  match portLink t port with
  | some (o, dir) => some (o * 2 + dir)
  | none => if port = 6 ∨ port = 7 then some (512 + clusterOf t) else none

/-- A retransmission is counted at the sending tile and in its cluster, and kept for the degraded rule (R78, R79). -/
def Dev.sendAgain (d : Dev) (t port : Nat) : Dev :=
  let d := match retryTile t port with
    | some u => (d.incSat (R.TILE_RETRY u)).incSat (R.FAB_RETRY (clusterOf u))
    | none => d
  match againKey t port with
  | none => d
  | some k =>
    let recent := ((oget d.fab.again k).getD []).filter (fun c => d.since c ≤ 1000000)
    d.onFab (fun f => { f with again := oput f.again k (recent ++ [d.now]) })

/-- FLIT_RECEIVE: the expected flit with a good check is accepted, one already accepted is discarded, and any other is
rejected and sent again, up to three times. DEDUCED (log 32). -/
def Dev.flitReceive (d : Dev) (t port seq : Nat) (ok : Bool) (flit : FabFlit) : Dev :=
  if !(d.lit && d.on (R.TILE_STATUS_POWERED t)) then d
  else match d.arriving t port seq flit with
    | none => d
    | some h =>
      let e := d.expects t port
      let old := (e + 256 - seq) % 256
      if ok && seq = e then d.acceptFlit t port h
      else if ok && 1 ≤ old && old ≤ 4 then d
      else
        let n := min 4 (d.rejections t port seq + 1)
        let d := d.putRejections t port seq n
        if n < 4 then d.sendAgain t port else d

/-! ### Links out of service (R79, R81) -/

/-- The flits of a replay buffer go to the output's detour, the oldest first. -/
def Dev.moveReplay (d : Dev) (t out : Nat) : Dev :=
  let x := d.fabOut t out
  let d := d.putOut t out { x with replay := [] }
  x.replay.foldl (fun d e =>
    let h := e.2.1
    let k := queueKey (8 + out) (flitBulk h.flit) true
    let q := d.fabQueue t k
    d.putFlits t k { q with flits := q.flits ++ [{ h with
      via := detourPath t out ++ h.via
      home := if h.via.isEmpty && h.home.isNone then homePort out else h.home }] }) d

/-- Both outputs of a link. -/
def linkOuts (t dir : Nat) : List (Nat × Nat) := if dir = 0 then [(t, 1), (t + 1, 3)] else [(t, 0), (t + 12, 2)]

/-- A link is out of service from here on, and its traffic is on the detour. -/
def Dev.loseLink (d : Dev) (t dir : Nat) (degraded : Bool) : Dev :=
  let d := d.downLink t dir degraded
  let d := (linkOuts t dir).foldl (fun d x => d.moveReplay x.1 x.2) d
  (linkOuts t dir).foldl (fun d x => d.pump x.1) d

/-- The I/O port of a cluster fails at its primary tile: its traffic is on the alternate (R77). What a failure at the
alternate comes to is not said; nothing changes. DESIGN CHOICE (log 137). -/
def Dev.loseIoPort (d : Dev) (t : Nat) : Dev :=
  let n := clusterOf t
  if d.rd (R.FAB_IOPORT_PRIMARY n) = t && !d.on (R.FAB_IOPORT_ON_ALT n) then
    let d := (d.raise (R.FAB_IOPORT_ON_ALT n)).raise (R.FAB_STATUS_IOPORT_ALT n)
    (d.moveReplay t 5).pump t
  else d

/-- The links of a cluster that a word marks are failed; bits of absent edge links count for nothing. -/
def Dev.failIn (d : Dev) (n : Nat) (bad : Word) : Dev :=
  (clusterTiles n).foldl (fun d t => [0, 1].foldl (fun d dir =>
    if linkExists t dir && testBit bad.toNat (linkBit t dir) then d.loseLink t dir false else d) d) d

/-- Links of a cluster that a test finds failing are out of service from then on (R79, R87).
DESIGN CHOICE (log 34). -/
def Dev.linkTest (d : Dev) (n : Nat) (bad : Word) : Dev :=
  if d.role = .stopped && d.alive then (d.failIn n bad).checkRoutes else d

end Sys2Proof.Machine
end

