-- ==== Sys2Proof/Machine/Actions.lean ====
section
/-! DEFINITION. The actions that a write of 1 to a WO field triggers, each as an effect on the module:
field fuse, fabric, cycle, twin, time base, recorder, historian and security counters. -/

namespace Sys2Proof.Machine

/-! ### Field fuse (R52) -/

/-- `MOD.POWER.FLD_RECLOSE`: the field fuse closes. FLD_24V becomes good again only under R51; an opening that follows
has its effects again (R52). -/
def Dev.fldReclose (d : Dev) : Dev :=
  { d.drop R.POWER_FLD_TRIPPED with
    power := { d.power with fldLost := d.power.fldLost && !d.on R.POWER_FLD_TRIPPED } }

/-! ### Cycle and performance counters (R176, R218) -/

/-- `MOD.CYCLE_CTRL.CLEAR_MAX`. -/
def Dev.cycleClearMax (d : Dev) : Dev := d.drop R.CYCLE_MAX

/-- The replica that a one-hot code names. -/
def replicaOf : Nat → Option (Fin 3)
  | 1 => some 0
  | 2 => some 1
  | 4 => some 2
  | _ => none

/-- A replica of a tile. -/
def Tile.rep (t : Tile) (r : Fin 3) : Replica :=
  match r with
  | 0 => t.repA
  | 1 => t.repB
  | 2 => t.repC

/-- Replaces a replica of a tile. -/
def Tile.setRep (t : Tile) (r : Fin 3) (x : Replica) : Tile :=
  match r with
  | 0 => { t with repA := x }
  | 1 => { t with repB := x }
  | 2 => { t with repC := x }

/-- A tile of the module. -/
def Dev.tile (d : Dev) (t : Nat) : Tile := sget (fun _ => {}) d.tiles t

/-- Replaces a tile. -/
def Dev.putTile (d : Dev) (t : Nat) (x : Tile) : Dev := { d with tiles := sput (fun _ => {}) d.tiles t x }

/-- Changes one replica of a tile. -/
def Dev.onRep (d : Dev) (t : Nat) (r : Fin 3) (f : Replica → Replica) : Dev :=
  d.putTile t ((d.tile t).setRep r (f ((d.tile t).rep r)))

/-- A performance counter of a replica (R175). -/
def Replica.counter (x : Replica) (k : Nat) : Word := sget (fun _ => 0) x.perf k

/-- Sets a performance counter. -/
def Replica.setCounter (x : Replica) (k : Nat) (v : Word) : Replica :=
  { x with perf := sput (fun _ => 0) x.perf k v }

/-- A performance counter counts, saturating (R175). -/
def Replica.count (x : Replica) (k : Nat) : Replica :=
  x.setCounter k (w32 (min ((x.counter k).toNat + 1) 0xFFFFFFFF))

/-- The counter that `MOD.PERF_SEL` selects, if it selects one (R176). -/
def Dev.perfSelected (d : Dev) : Option (Nat × Fin 3 × Nat) :=
  match replicaOf (d.rd R.PERF_SEL_REPLICA) with
  | some r =>
    if d.rd R.PERF_SEL_TILE < 144 ∧ d.rd R.PERF_SEL_COUNTER < 5 then
      some (d.rd R.PERF_SEL_TILE, r, d.rd R.PERF_SEL_COUNTER)
    else none
  | none => none

/-- `MOD.PERF_SEL.CLEAR`: the selected counter is zeroed. -/
def Dev.perfClear (d : Dev) : Dev :=
  match d.perfSelected with
  | some (t, r, k) => d.onRep t r (fun x => x.setCounter k 0)
  | none => d

/-- `MOD.PERF_DATA` is loaded with the selected counter; 0 when nothing is selected. -/
def Dev.perfLoad (d : Dev) : Dev :=
  let v : Word := match d.perfSelected with
    | some (t, r, k) => ((d.tile t).rep r).counter k
    | none => 0
  (d.wr R.PERF_DATA v.toNat).raise R.PERF_SEL_VALID

/-! ### Twin (R330, R341) -/

/-- `TWIN.CMD.CLEAR_COUNTS`. -/
def Dev.twinClearCounts (d : Dev) : Dev :=
  d.clear [R.TWIN_HB_MISS_GIRTH_SILENT, R.TWIN_HB_MISS_RING_SILENT, R.TWIN_GIRTH_FRAME_ERR, R.TWIN_FWD_LATE,
    R.TWIN_FWD_MISSING, R.TWIN_DUAL_CMD_YIELDS, R.TWIN_DUAL_CMD_LONGEST_US]

/-- `TWIN.ELIG` and ELIGIBLE show the module's own causes, or in a commanding role the partner's (R331, R341). -/
def Dev.showElig (d : Dev) : Dev :=
  let c := if d.role.commanding then d.rd R.TWIN_PARTNER_STATE_ELIG else d.twin.causes
  (d.wr R.TWIN_ELIG_CAUSES c).flag R.TWIN_STATUS_ELIGIBLE
    (if d.role.commanding then c = 0 && d.on R.TWIN_STATUS_PARTNER_SEEN && !d.on R.TWIN_STATUS_IDENT_CLASH else d.role = .standby && c = 0)

/-- Sets or clears one of the module's own causes. -/
def Dev.setCause (d : Dev) (k : Nat) (b : Bool) : Dev :=
  { d with twin := { d.twin with causes := putBit d.twin.causes k b } }.showElig

/-- A replica's instance ends without an effect. -/
def Replica.halt (x : Replica) : Replica :=
  { x with core := { x.core with running := false }, pending := none, outbox := [], closed := [], given := x.effects }

/-- The instances of a tile end and nothing further runs on it. -/
def Tile.halt (t : Tile) : Tile :=
  { t with
    repA := t.repA.halt, repB := t.repB.halt, repC := t.repC.halt
    voter := [], issued := [], staged := [], current := none, todo := [], waiting := [], preempted := []
    ended := false, event := none, awaitRound := false }

/-- A state copy is due: the STANDBY is not eligible until it completes, and no shadow cycle runs (R329, R330). It starts at
once, or while the girth link is down when that comes back (R324). -/
def Dev.startCopy (d : Dev) : Dev :=
  let d := d.setCause 3 true
  let d : Dev := { d with
    tiles := d.tiles.map (fun p => (p.1, if d.rd (R.TILE_STATUS_ROLE p.1) = 1 then p.2.halt else p.2))
    twin := { d.twin with
      copyStarted := d.now, record := none, divergeDue := none, ownSummaries := [], summaries := [], loopStitches := [], slotWait := [] } }
  if d.on R.TWIN_STATUS_GIRTH_UP then ((d.wr R.TWIN_COPY_STATE 1).drop R.TWIN_COPY_PERCENT).raise R.TWIN_STATUS_COPYING
  else d.drop R.TWIN_STATUS_COPYING

/-- A state copy is due or running. -/
def Dev.copyDue (d : Dev) : Bool := testBit d.twin.causes 3

/-- `TWIN.CMD.COPY_NOW`: a full state copy in STANDBY; ignored in other roles. -/
def Dev.copyNow (d : Dev) : Dev := if d.role = .standby then d.startCopy else d

/-! ### Time base (R367, R379) -/

/-- `TIME.CTRL.RESTART`: acted on only in STOPPED or STANDBY. -/
def Dev.timeRestartCmd (d : Dev) : Dev :=
  if d.role = .stopped ∨ d.role = .standby then d.restartTime false else d

/-- `TIME.CTRL.CLEAR_OVERFLOW`, CLEAR_MAX and CLEAR_COUNTS. -/
def Dev.timeClearOverflow (d : Dev) : Dev := d.drop R.TIME_TSQ_STATUS_OVERFLOW
def Dev.timeClearMax (d : Dev) : Dev := d.drop R.TIME_ERROR_MAX
def Dev.timeClearCounts (d : Dev) : Dev :=
  d.clear [R.TIME_SAMPLES_VALID, R.TIME_SAMPLES_REJECTED, R.TIME_PPS_EDGES, R.TIME_PPS_BAD,
    R.TIME_TSQ_STATUS_DISCARDED]

/-! ### Event recorder (R428, R443) -/

/-- `EVREC.CTRL.FREEZE`: a refused freeze changes nothing. -/
def Dev.freezeCmd (d : Dev) : Dev := match d.beginFreeze with | .ok d' => d' | .error _ => d

/-- `EVREC.CTRL.UNFREEZE` and CLEAR_LOST. -/
def Dev.unfreezeCmd (d : Dev) : Dev := d.endFreeze
def Dev.clearLost (d : Dev) : Dev := d.clear ((List.range 8).map lostFld)

/-! ### Historian (R434, R444) -/

/-- A drive set of the historian. -/
def Dev.driveSet (d : Dev) (k : Nat) : DriveSet := if k = 0 then d.hist.set0 else d.hist.set1

/-- Replaces a drive set. -/
def Dev.putSet (d : Dev) (k : Nat) (x : DriveSet) : Dev :=
  if k = 0 then { d with hist := { d.hist with set0 := x } } else { d with hist := { d.hist with set1 := x } }

/-- The populated bays of a set. -/
def Dev.setBays (d : Dev) (k : Nat) : List Nat :=
  ((List.range 4).map (· + 4 * k)).filter (fun b => d.on (R.HIST_DRV_STATUS_PRESENT b))

/-- `HIST.CTRL.REBUILD`: with every bay of a FAILED set holding a mounted drive, the set is copied from
the other (R434). -/
def Dev.histRebuild (d : Dev) : Dev :=
  let can (k : Nat) : Bool := (d.driveSet k).failed && d.setOk (1 - k) && !(d.setBays k).isEmpty &&
    (d.setBays k).all (fun b => d.rd (R.HIST_DRV_STATUS_STATE b) = 1)
  match [0, 1].find? can with
  | some k =>
    if d.on R.HIST_STATUS_REBUILDING then d
    else
      let d := ((d.raise R.HIST_STATUS_REBUILDING).wr R.HIST_REBUILD_SET k).drop R.HIST_REBUILD_PERCENT
      let d := { (d.wr R.HIST_REBUILD_ETA_H (Config.rebuildHours d.free)) with free := d.free + 1 }
      (d.setBays k).foldl (fun d b => d.wr (R.HIST_DRV_STATUS_STATE b) 3) d
  | none => d

/-- `HIST.CTRL.CLEAR_COUNTS`: GAPS, DROPPED, the MAX fields and REFUSED. -/
def Dev.histClearCounts (d : Dev) : Dev :=
  d.clear [R.HIST_GAPS, R.HIST_DROPPED, R.HIST_RATE_MAX, R.HIST_BUFFER_MAX, R.HIST_EXPORT_MAX,
    R.HIST_SESSIONS_REFUSED]

/-- What the export sent in the last second, in MB/s. -/
def Dev.exportRate (d : Dev) : Nat :=
  (((d.hist.exported.filter (fun p => d.since p.1 < nsPerSecond)).map (·.2)).foldl (· + ·) 0) / 1000000

/-! ### Security (R466) -/

/-- `SEC.CTRL.CLEAR_COUNTS`. -/
def Dev.secClearCounts (d : Dev) : Dev :=
  d.clear [R.SEC_AUTH_FAIL_COUNT, R.SEC_DUPLICATES_DUPLICATE, R.SEC_DUPLICATES_IN_PROGRESS]

end Sys2Proof.Machine
end

