-- ==== Sys2Proof/Machine/LoopActions.lean ====
section
/-! DEFINITION. Loop slots and the awl: their records, loop faults, and the actions of `LOOP.CTRL`,
`GLINK.CTRL` and `MOD.AWL_CTRL` (R241, R257 to R263). -/

namespace Sys2Proof.Machine

/-! ### Records -/

/-- A slot, a gate link and an axis group by number. -/
def Dev.slot (d : Dev) (k : Nat) : LoopSlot := sget (fun _ => {}) d.loop.slots k
def Dev.link (d : Dev) (g : Nat) : Glink := sget (fun _ => {}) d.loop.links g
def Dev.group (d : Dev) (g : Nat) : AxisGroup := sget (fun _ => {}) d.loop.groups g

/-- Changes a slot, a gate link or an axis group. -/
def Dev.onSlot (d : Dev) (k : Nat) (f : LoopSlot → LoopSlot) : Dev :=
  { d with loop := { d.loop with slots := sput (fun _ => {}) d.loop.slots k (f (d.slot k)) } }
def Dev.onLink (d : Dev) (g : Nat) (f : Glink → Glink) : Dev :=
  { d with loop := { d.loop with links := sput (fun _ => {}) d.loop.links g (f (d.link g)) } }
def Dev.onGroup (d : Dev) (g : Nat) (f : AxisGroup → AxisGroup) : Dev :=
  { d with loop := { d.loop with groups := sput (fun _ => {}) d.loop.groups g (f (d.group g)) } }

/-- Changes the awl. -/
def Dev.onAwl (d : Dev) (f : AwlSt → AwlSt) : Dev := { d with loop := { d.loop with awl := f d.loop.awl } }

/-- The settings of a slot in the running image (R224). -/
def Dev.slotImg (d : Dev) (k : Nat) : Option SlotImg :=
  match d.hrn.image with
  | some im => im.slots.find? (fun x => x.num = k)
  | none => none

/-- The slots that LOOPS defines. -/
def Dev.usedSlots (d : Dev) : List Nat :=
  match d.hrn.image with
  | some im => im.slots.map (·.num)
  | none => []

/-- Slot states as `LOOP.STATUS.STATE` codes them (R261). -/
def lsUnused : Nat := 0
def lsStopped : Nat := 1
def lsRun : Nat := 2
def lsHold : Nat := 3
def lsCatch : Nat := 4
def lsRamp : Nat := 5
def lsFault : Nat := 6

/-- The state of a slot. -/
def Dev.slotState (d : Dev) (k : Nat) : Nat := d.rd (R.LOOP_STATUS_STATE k)
def Dev.setSlotState (d : Dev) (k s : Nat) : Dev := d.wr (R.LOOP_STATUS_STATE k) s

/-- Loop fault causes (R261). -/
def lcOverrun : Nat := 1
def lcInputLost : Nat := 2
def lcRotorTrip : Nat := 3
def lcReacquire : Nat := 4
def lcProgram : Nat := 5

/-! ### The awl's stop (R259) -/

/-- States of `MOD.AWL_STATUS` (R263). -/
def awlIdle : Nat := 0
def awlArmed : Nat := 1
def awlCapturing : Nat := 2
def awlDone : Nat := 3

/-- Injection stops. -/
def Dev.awlStopInject (d : Dev) : Dev := (d.drop R.AWL_STATUS_INJECTING).onAwl (fun a => { a with startAt := none })

/-- Injection and capture stop at once, and ABORTED is set; a capture that had begun is DONE, an armed one IDLE.
DESIGN CHOICE (log 153). -/
def Dev.awlAbort (d : Dev) : Dev :=
  let st := d.rd R.AWL_STATUS_STATE
  if st = awlArmed || st = awlCapturing || d.on R.AWL_STATUS_INJECTING || d.loop.awl.startAt.isSome then
    (d.awlStopInject.raise R.AWL_STATUS_ABORTED).wr R.AWL_STATUS_STATE
      (if st = awlCapturing then awlDone else if st = awlArmed then awlIdle else st)
  else d

/-- Capture begins: the kept samples before the trigger come first (R258). DEDUCED (log 66). -/
def Dev.awlTrigger (d : Dev) : Dev :=
  let d := d.onAwl (fun a => { a with buffer := a.pre, times := a.preTimes, pre := [], preTimes := [] })
  (d.wr R.AWL_STATUS_STATE awlCapturing).wr R.AWL_STATUS_COUNT d.loop.awl.buffer.length

/-- A loop fault or a rotor loss of the served slot: it triggers an armed capture that waits for it, and
otherwise stops the awl (R258, R259). -/
def Dev.awlLoss (d : Dev) (k : Nat) : Dev :=
  if d.rd R.AWL_CTRL_SLOT ≠ k then d
  else if d.rd R.AWL_STATUS_STATE = awlArmed ∧ d.rd R.AWL_CTRL_TRIGGER = 2 then
    let inj := d.on R.AWL_STATUS_INJECTING || d.loop.awl.startAt.isSome
    (d.awlTrigger.awlStopInject).when inj (fun d => d.raise R.AWL_STATUS_ABORTED)
  else d.awlAbort

/-! ### Loop faults (R241) -/

/-- A loop fault latches, with its cause; a fault already latched stays as it is. -/
def Dev.loopFault (d : Dev) (k cause code : Nat) : Dev :=
  if d.slotState k = lsFault then d
  else
    let trip := (match d.slotImg k with | some i => i.faultTrip | none => false) || cause = lcReacquire
    let d := ((d.setSlotState k lsFault).wr (R.LOOP_STATUS_FAULT_CAUSE k) cause).incSat (R.LOOP_COUNT_FAULTS k)
    let d := d.onSlot k (fun x => { x with tripRequest := x.tripRequest || trip, coasting := 0 })
    (d.event .loopFault (source 3 k) [w32 k, w32 cause, w32 code]).awlLoss k

/-! ### Actions (R241, R261 to R263) -/

/-- `LOOP.CTRL.FAULT_RESET`: waits for the next cycle boundary. -/
def Dev.loopFaultReset (d : Dev) (k : Nat) : Dev :=
  if (d.slotImg k).isSome then d.onSlot k (fun x => { x with resetDue := true }) else d

/-- `LOOP.CTRL.CLEAR_FLAGS`. -/
def Dev.loopClearFlags (d : Dev) (k : Nat) : Dev :=
  d.clear [R.LOOP_STATUS_SAT_MUL k, R.LOOP_STATUS_SAT_ACC k, R.LOOP_STATUS_SAT_OUT k, R.LOOP_STATUS_LIM k,
    R.LOOP_STATUS_OVERRUN k, R.LOOP_STATUS_OBS_LOCK k]

/-- `LOOP.CTRL.CLEAR_STATS`. -/
def Dev.loopClearStats (d : Dev) (k : Nat) : Dev :=
  d.clear [R.LOOP_COUNT_OVERRUNS k, R.LOOP_COUNT_FAULTS k, R.LOOP_TIME_MAX_NS k]

/-- `GLINK.CTRL.CLEAR_COUNTS`. -/
def Dev.glinkClearCounts (d : Dev) (g : Nat) : Dev :=
  d.clear [R.GLINK_ERRORS_CRC_ERR g, R.GLINK_ERRORS_MISSING g]

/-- The module belongs to a twin pair: its image says PAIR_MODE 1 (R90). -/
def Dev.twinPair (d : Dev) : Bool := match d.hrn.image with | some im => im.header.pairMode = 1 | none => false

/-- Arming and starting are refused (R259). -/
def Dev.awlRefused (d : Dev) : Bool :=
  let st := d.slotState (d.rd R.AWL_CTRL_SLOT)
  !d.role.commanding || 48 ≤ d.rd R.AWL_CTRL_SLOT || (d.slotImg (d.rd R.AWL_CTRL_SLOT)).isNone || st = lsFault
    || (d.twinPair && !d.on R.TWIN_STATUS_GIRTH_UP)

/-- `MOD.AWL_CTRL.ARM` (R258, R259). -/
def Dev.awlArm (d : Dev) : Dev :=
  if d.awlRefused then d.raise R.AWL_STATUS_REFUSED
  else
    let d := (d.onAwl (fun a => { a with pre := [], buffer := [], preTimes := [], times := [] })).drop R.AWL_STATUS_ABORTED
    let d := { d with hist := { d.hist with streams := d.hist.streams.map (fun (x : Stream) => { x with sent := [] }) } }
    let d := (d.drop R.AWL_STATUS_COUNT).wr R.AWL_STATUS_STATE awlArmed
    if d.rd R.AWL_CTRL_TRIGGER = 0 then d.awlTrigger else d

/-- How many samples lie between the last and the first injected one: at least 1 ms ahead in a twin pair. -/
def Dev.awlLead (d : Dev) (i : SlotImg) : Nat :=
  if d.twinPair then (1000000 + max i.period 1 - 1) / max i.period 1 + 1 else 1

/-- `MOD.AWL_CTRL.START` (R257, R259): the injection begins with a sample number that the standby is told. -/
def Dev.awlStart (d : Dev) : Dev :=
  if d.awlRefused then d.raise R.AWL_STATUS_REFUSED
  else match d.slotImg (d.rd R.AWL_CTRL_SLOT) with
    | none => d.raise R.AWL_STATUS_REFUSED
    | some i =>
      let n := (d.slot i.num).last.getD 0 + BitVec.ofNat 64 (d.awlLead i)
      d.onAwl (fun a => { a with startAt := some n, injected := 0, prbs := 0x7FFF, phase := 0 })

/-- `MOD.AWL_CTRL.STOP` (R259). -/
def Dev.awlStop (d : Dev) : Dev := d.awlAbort

end Sys2Proof.Machine
end

