-- ==== Sys2Proof/Machine/BridleOps.lean ====
section
/-! DEFINITION. The bridle: its parameters, term sources, trip equations, outputs and mirror (R264 to R281). -/

namespace Sys2Proof.Machine

/-! ### The PROTECT section (R265, R268) -/

/-- A little-endian field of a section. -/
def secField (bs : List Byte) (off n : Nat) : Nat := leNat ((bs.drop off).take n)

/-- Comparator n of a PROTECT section. -/
def protectComp (bs : List Byte) (n : Nat) : Comparator :=
  let a := n * 8
  { hi := secField bs a 2, lo := secField bs (a + 2) 2, hyst := secField bs (a + 4) 1
    hiEn := testBit (secField bs (a + 5) 1) 0, loEn := testBit (secField bs (a + 5) 1) 1 }

/-- A term word: SRC, INV, EN and DELAY. -/
def protectTerm (w : Nat) : Term :=
  { src := w % 256, inv := testBit w 8, en := testBit w 9, delay := w / 2 ^ 16 }

/-- Equation n of a PROTECT section. -/
def protectEq (bs : List Byte) (n : Nat) : Equation :=
  let a := 0x100 + n * 32
  let flags := secField bs (a + 20) 4
  { terms := (List.range 4).map (fun t => protectTerm (secField bs (a + 4 * t) 4))
    mask := secField bs (a + 16) 4, latch := testBit flags 0
    resetSrc := flags / 2 ^ 8 % 256, resetEn := testBit flags 16 }

/-- An equation with EN = 0 in all four terms is disabled (R270). -/
def Equation.enabled (e : Equation) : Bool := e.terms.any (·.en)

/-- The parameters that a stored PROTECT copy holds. -/
def StoredSection.protect (s : StoredSection) : ProtectImg :=
  { version := s.version, crc := s.crc
    comps := (List.range 32).map (fun n => (n, protectComp s.bytes n))
    masks := (List.range 64).map (fun n => (n, (protectEq s.bytes n).mask))
    eqs := ((List.range 64).map (fun n => (n, protectEq s.bytes n))).filter (fun p => p.2.enabled)
    tb := testBit (secField s.bytes 0x900 4) 0 }

/-- A stored PROTECT copy passes its CRC (R264, R265). -/
def StoredSection.protectOk (s : StoredSection) : Bool := s.bytes.length = 2308 && crc32 s.bytes = s.crc

/-- A source code that R268 lists. -/
def srcListed (k : Nat) : Bool :=
  k < 0x50 || (0x50 ≤ k && k ≤ 0x54) || (0x60 ≤ k && k ≤ 0x6F) || (0x80 ≤ k && k ≤ 0xAF) || 0xC0 ≤ k

/-- A PROTECT section holds a value outside R265 or R268. -/
def protectMalformed (bs : List Byte) : Bool :=
  bs.length ≠ 2308
  || (List.range 32).any (fun n =>
      let c := protectComp bs n
      4095 < c.hi || 4095 < c.lo || 4 ≤ secField bs (n * 8 + 5) 1 || secField bs (n * 8 + 6) 2 ≠ 0)
  || (List.range 64).any (fun n =>
      let a := 0x100 + n * 32
      let flags := secField bs (a + 20) 4
      (List.range 4).any (fun t =>
        let w := secField bs (a + 4 * t) 4
        !srcListed (w % 256) || w / 2 ^ 10 % 64 ≠ 0)
      || !srcListed (flags / 2 ^ 8 % 256) || flags / 2 % 128 ≠ 0 || flags / 2 ^ 17 ≠ 0
      || secField bs (a + 24) 8 ≠ 0)
  || 2 ≤ secField bs 0x900 4

/-! ### Identity and presence (R33, R34) -/

/-- Changes the bridle. -/
def Dev.onBridle (d : Dev) (f : BridleSt → BridleSt) : Dev := { d with bridle := f d.bridle }

/-- The twin identity latched at start: true for B; none when the module takes none (R30). -/
def Dev.identity (d : Dev) : Option Bool := if d.conn.identified then some (d.on R.SADDLE_SIDE) else none

/-- The module's own presence line is asserted. The line is TRIPBUS6 or TRIPBUS7 by the identity (R32), so a module
that has taken none asserts no line. -/
def Dev.ownPresence (d : Dev) : Bool := d.bridle.presence && d.conn.identified

/-- TRIPBUS6 and TRIPBUS7 as the bridle sees them. -/
def Dev.presenceA (d : Dev) : Bool := d.bridle.presA || (d.bridle.presence && d.identity = some false)
def Dev.presenceB (d : Dev) : Bool := d.bridle.presB || (d.bridle.presence && d.identity = some true)

/-- The partner's presence line. -/
def Dev.partnerPresent (d : Dev) : Bool :=
  match d.identity with
  | some false => d.bridle.presB
  | some true => d.bridle.presA
  | none => false

/-- Shows the presence lines in `MOD.SADDLE` (R44). -/
def Dev.showPresence (d : Dev) : Dev :=
  (d.flag R.SADDLE_PRESENT_OWN d.ownPresence).flag R.SADDLE_PRESENT_PARTNER d.partnerPresent

/-! ### Window comparators (R267) -/

/-- The voltage of a threshold code, and a hysteresis, in 1/16 µV. -/
def codeVolts (k : Nat) : Int := -160000000 + k * 78125

/-- A voltage within 20 mV of a switching point. -/
def inBand (point v : Int) : Bool := point - 320000 ≤ v && v ≤ point + 320000

/-- One signal of a comparator, its input having been at `old`: asserted above `rise`, released below `fall`. When the
input comes within 20 mV of the point that decides, either state; inside that band the signal keeps the state it has. -/
def signalAfter (now : Bool) (old : Option Int) (v rise fall : Int) (free : Bool) : Bool :=
  let stays (point : Int) : Bool := inBand point v && (match old with | some o => inBand point o | none => false)
  if rise + 320000 < v then true
  else if v < fall - 320000 then false
  else if stays rise || stays fall then now
  else if inBand (if now then fall else rise) v then free
  else now

/-- A comparator after its input has come to a voltage, from the one before if there is one. -/
def Dev.compare (d : Dev) (n : Nat) (old : Option Int) (v : Int) : Dev :=
  let c := ((d.bridle.params.getD {}).comps.find? (fun p => p.1 = n)).elim ({} : Comparator) (·.2)
  let h : Int := c.hyst * 78125
  let hi := c.hiEn && signalAfter (testBit d.bridle.compHi n) old v (codeVolts c.hi) (codeVolts c.hi - h)
    (Config.comparatorBand n true d.free)
  let lo := c.loEn && signalAfter (testBit d.bridle.compLo n) (old.map (-·)) (-v) (-(codeVolts c.lo)) (-(codeVolts c.lo + h))
    (Config.comparatorBand n false d.free)
  { d with
    free := d.free + 1
    bridle := { d.bridle with
      volts := sput (fun _ => 0) d.bridle.volts n v
      compHi := putBit d.bridle.compHi n hi, compLo := putBit d.bridle.compLo n lo } }

/-- The voltage that a comparator's input last came to. -/
def BridleSt.voltsAt (b : BridleSt) (n : Nat) : Int := sget (fun _ => 0) b.volts n

/-! ### Sources and equations (R268, R270, R271) -/

/-- A term source as the bridle samples it; equation sources read the cycle before. -/
def BridleSt.source (b : BridleSt) (k : Nat) : Bool :=
  if k < 0x20 then testBit b.compHi k
  else if k < 0x40 then testBit b.compLo (k - 0x20)
  else if k < 0x50 then testBit b.ft (k - 0x40)
  else if k < 0x54 then testBit b.lines (k - 0x50) || testBit b.outputs (28 + (k - 0x50))
  else if k = 0x54 then true
  else if k < 0x70 then testBit b.pt (k - 0x60)
  else if k < 0xB0 then testBit b.loopRequests (k - 0x80)
  else testBit b.true_ (k - 0xC0)

/-- The bridle evaluates its equations: the start checks passed, it has no fault, and a valid copy. -/
def BridleSt.evaluates (b : BridleSt) : Bool := b.running && b.fault = 0 && b.params.isSome

/-- The samples of a term after one more. -/
def BridleSt.sampleTerm (b : BridleSt) (key : Nat) (t : Term) : Nat :=
  if b.source t.src != t.inv then min (sget (fun _ => 0) b.terms key + 1) (t.delay + 1) else 0

/-- One bridle cycle of one equation, on the samples `b` of the cycle before: its terms, its AND, and
whether it is true. -/
def evalEquation (b : BridleSt) (n : Nat) (e : Equation) (out : BridleSt) : BridleSt :=
  let ts := (List.range e.terms.length).zip e.terms
  let counts := ts.map (fun p => (n * 4 + p.1, if p.2.en then b.sampleTerm (n * 4 + p.1) p.2 else 0))
  let holds := ts.all (fun p => !p.2.en || p.2.delay < b.sampleTerm (n * 4 + p.1) p.2)
  let rs := e.resetEn && b.source e.resetSrc
  let edge := rs && !testBit b.resets n
  { out with
    terms := counts.foldl (fun m c => sput (fun _ => 0) m c.1 c.2) out.terms
    ands := putBit out.ands n holds
    true_ := putBit out.true_ n (holds || (e.latch && testBit b.true_ n && !edge))
    resets := putBit out.resets n rs }

/-- One bridle cycle of every equation. -/
def BridleSt.evaluate (b : BridleSt) : BridleSt :=
  match b.params with
  | some p => if b.evaluates then p.eqs.foldl (fun out q => evalEquation b q.1 q.2 out) b else b
  | none => b

/-- Bits of a number, lowest first. -/
def bitsOf (n k : Nat) : List Nat := (List.range n).filter (testBit k)

/-- The output masks of a set of equations, and of the true ones (R272). -/
def BridleSt.maskOf (b : BridleSt) (eqs : Nat) : Nat :=
  match b.params with
  | some p =>
    let m := p.eqs.foldl (fun m q => if testBit eqs q.1 then m ||| q.2.mask else m) 0
    if p.tb then m else m % 2 ^ 28
  | none => 0
def BridleSt.eqMask (b : BridleSt) : Nat := b.maskOf b.true_

/-! ### Outputs (R27, R266, R272, R277, R278) -/

/-- Every trip output, and every trip output and gate link. -/
def allTo : Nat := 0xFFFF
def allToGl : Nat := 0x0FFFFFFF

/-- What the bridle calls for now; `gl` are the links the safety functions block. -/
def Dev.bridleDemand (d : Dev) (gl : Nat) : Nat :=
  let b := d.bridle
  if b.startCause ≠ 0 || b.fault ≠ 0 then allToGl
  else if !b.running then allTo
  else b.eqMask ||| (gl % 4096 * 2 ^ 16)
    ||| (if b.params.isNone || d.role = .safetyMaint then allTo else 0)

/-- A gate link begins or ends to carry BLOCK (R245, R246). -/
def Dev.setBlock (d : Dev) (g : Nat) (b : Bool) : Dev :=
  if d.on (R.GLINK_STATUS_BLOCK_ACTIVE g) = b then d
  else if b then
    ((d.raise (R.GLINK_STATUS_BLOCK_ACTIVE g)).raise (R.GLINK_STATUS_BLOCK_SEEN g)).onLink g
      (fun l => { l with blockEnded := false, zeroSent := false })
  else (d.drop (R.GLINK_STATUS_BLOCK_ACTIVE g)).onLink g (fun l => { l with blockEnded := true, zeroSent := false })

/-- The bits that are in a and not in b. -/
def bitsBeyond (a b : Nat) : Nat := a - (a &&& b)

/-- Drives the outputs: a demand that begins holds its output for at least 10 µs from then on, and each trip output that
goes dark is counted. -/
def Dev.driveOutputs (d : Dev) (gl : Nat) : Dev :=
  let want := d.bridleDemand gl
  let b := d.bridle
  let b := { b with held := b.held ||| bitsBeyond want b.demand }
  let now := want ||| b.held
  let dark := bitsOf 16 (now &&& (0xFFFFFFFF - (b.outputs &&& now)))
  let d := d.onBridle (fun b => { b with
    outputs := now, demand := want, held := b.held ||| bitsBeyond want b.demand
    darkEvents := dark.foldl (fun m k => sput (fun _ => 0) m k (min 65535 (sget (fun _ => 0) m k + 1))) b.darkEvents })
  d.each 12 (fun g d => d.setBlock g (testBit now (16 + g)))

/-- Equations that have become true are recorded, and each is a new demand on its outputs (R272, R279, R281). Of several
in one cycle FIRST_OUT takes the lowest number. DESIGN CHOICE (log 133). -/
def Dev.noteTrips (d : Dev) (before : Nat) : Dev :=
  let fresh := bitsOf 64 (bitsBeyond d.bridle.true_ before)
  let d := d.onBridle (fun b => { b with
    held := b.held ||| b.maskOf (bitsBeyond b.true_ before)
    trips := min 0xFFFFFFFF (b.trips + fresh.length)
    firstOut := if b.firstOut.isSome then b.firstOut else fresh.head? })
  fresh.foldl (fun d n => d.event .trip (source 10 n) [w32 n]) d

/-! ### The trip bus (R275) -/

/-- The answer of this bridle: b0 START, b1 HEALTHY, b2 OWN_TRIP, b3 SEEN, b4 DEGRADED, b5 odd parity. -/
def Dev.tbAnswer (d : Dev) : Nat :=
  let b := d.bridle
  let own := 0 < b.outputs / 2 ^ 28
  let low := 1 + 2 * bit (b.running && b.fault = 0 && b.params.isSome) + 4 * bit own
    + 8 * bit (b.lines ≠ 0 || own) + 16 * bit d.safety.degraded
  low + 32 * bit ((bitsOf 5 low).length % 2 = 0)

/-- An answer with START 1 and odd parity. DEDUCED (log 77). -/
def answerOk (a : Nat) : Bool := testBit a 0 && (bitsOf 6 a).length % 2 = 1

/-- The bridle takes part in polling: TB_ENABLE, its presence line asserted, and no failed start (R274, R277). -/
def Dev.tbTakesPart (d : Dev) : Bool :=
  match d.bridle.params with
  | some p => p.tb && d.bridle.running && d.ownPresence
  | none => false

/-- Who polls: identity A while its presence line is asserted; identity B stops when TRIPBUS6 is asserted. -/
def Dev.showPoller (d : Dev) : Dev :=
  d.onBridle (fun b => { b with
    poller := d.tbTakesPart && (match d.identity with
      | some false => true
      | some true => b.poller && !b.presA
      | none => false) })

/-! ### Start and parameters (R264, R266, R277) -/

/-- The bridle takes its stored PROTECT copy, when it is valid. What R34 asks for its presence line holds or not from
then on; the line itself follows once the identity names one (`Dev.ownPresence`). DEDUCED (log 79).
DEDUCED (log 132). -/
def Dev.takeProtect (d : Dev) : Dev :=
  let p := match d.bridle.protect with
    | some s => if s.protectOk then some s.protect else none
    | none => none
  let d := d.onBridle (fun b => { b with
    params := p, presence := b.running && p.isSome, terms := [], ands := 0, true_ := 0, resets := 0
    compHi := 0, compLo := 0 })
  (d.each 32 (fun n d => d.compare n none (d.bridle.voltsAt n))).showPresence.showPoller

/-! ### The mirror (R281) -/

/-- Shows the equations, inputs and outputs. -/
def Dev.mirrorEquations (d : Dev) : Dev :=
  let b := d.bridle
  let latched := match b.params with
    | some p => p.eqs.foldl (fun m q => if q.2.latch && testBit b.true_ q.1 then putBit m q.1 true else m) 0
    | none => 0
  let d := (d.wr R.BRIDLE_EQ_TRUE_LO (b.true_ % 2 ^ 32)).wr R.BRIDLE_EQ_TRUE_HI (b.true_ / 2 ^ 32)
  let d := (d.wr R.BRIDLE_EQ_LATCH_LO (latched % 2 ^ 32)).wr R.BRIDLE_EQ_LATCH_HI (latched / 2 ^ 32)
  let d := (d.wr R.BRIDLE_COMP_HI b.compHi).wr R.BRIDLE_COMP_LO b.compLo
  let d := (d.wr R.BRIDLE_OUTPUTS_TO_DARK b.outputs).wr R.BRIDLE_OUTPUTS_GL_BLOCK (b.outputs / 2 ^ 16)
  let d := d.wr R.BRIDLE_OUTPUTS_TB_DRIVEN (b.outputs / 2 ^ 28)
  let d := (d.wr R.BRIDLE_INPUTS_FT b.ft).wr R.BRIDLE_INPUTS_PT b.pt
  let d := (d.wr R.BRIDLE_LOOPREQ_LO (b.loopRequests % 2 ^ 32)).wr R.BRIDLE_LOOPREQ_HI_SLOTS (b.loopRequests / 2 ^ 32)
  let d := (d.wr R.BRIDLE_FIRST_OUT_EQUATION (b.firstOut.getD 0)).flag R.BRIDLE_FIRST_OUT_VALID b.firstOut.isSome
  (d.wr R.BRIDLE_TRIP_COUNT b.trips).each 8 (fun k d =>
    (d.wr (R.BRIDLE_TO_TRIPS_EVEN k) (sget (fun _ => 0) b.darkEvents (2 * k))).wr (R.BRIDLE_TO_TRIPS_ODD k)
      (sget (fun _ => 0) b.darkEvents (2 * k + 1)))

/-- Shows the parameters. -/
def Dev.mirrorParams (d : Dev) : Dev :=
  let p := d.bridle.params.getD {}
  let d := (d.wr R.BRIDLE_PARAM_VERSION p.version).wr R.BRIDLE_PARAM_EQUATIONS p.eqs.length
  let d := d.wr R.BRIDLE_PARAM_CRC (match d.bridle.protect with | some s => s.crc | none => 0)
  let d := d.each 64 (fun n d => d.putWord (0x700200 + n * 4) (w32 ((oget p.masks n).getD 0)))
  d.each 32 (fun n d =>
    let c := (oget p.comps n).getD {}
    let err := sget (fun _ => 0) d.bridle.dacErr n
    let d := (d.wr (R.BRIDLE_COMP_THR_HI_CODE n) c.hi).wr (R.BRIDLE_COMP_THR_LO_CODE n) c.lo
    let d := (d.flag (R.BRIDLE_COMP_THR_HI_EN n) c.hiEn).flag (R.BRIDLE_COMP_THR_LO_EN n) c.loEn
    let d := (d.wr (R.BRIDLE_COMP_STATE_HYST n) c.hyst).flag (R.BRIDLE_COMP_STATE_HI n) (testBit d.bridle.compHi n)
    let d := (d.flag (R.BRIDLE_COMP_STATE_LO n) (testBit d.bridle.compLo n)).flag (R.BRIDLE_COMP_STATE_CHECK_OK n)
      (d.bridle.fault ≠ 2 || d.bridle.faultIndex ≠ n)
    (d.flag (R.BRIDLE_COMP_STATE_DAC_OK n) (err.natAbs ≤ 25)).wrInt (R.BRIDLE_COMP_STATE_DAC_ERR n) err)

/-- The light that the monitors of the trip outputs see, and the gate links whose serialisers report BLOCK: as commanded,
but for the monitors that the last diagnostic round found to differ. DESIGN CHOICE (log 162). -/
def BridleSt.lightSeen (b : BridleSt) : BitVec 16 := ~~~BitVec.ofNat 16 b.outputs ^^^ b.lightOdd
def BridleSt.blockSeen (b : BridleSt) : BitVec 12 := BitVec.ofNat 12 (b.outputs / 2 ^ 16) ^^^ b.blockOdd

/-- Shows the bridle's own state, trip bus and diagnostics. -/
def Dev.mirrorState (d : Dev) : Dev :=
  let b := d.bridle
  let d := (d.flag R.BRIDLE_STATUS_RUNNING b.running).flag R.BRIDLE_STATUS_PARAM_VALID b.params.isSome
  let d := (d.flag R.BRIDLE_STATUS_PRESENCE d.ownPresence).flag R.BRIDLE_STATUS_FAULT (b.fault ≠ 0 || b.startCause ≠ 0)
  let d := (d.flag R.BRIDLE_STATUS_MAINT b.writing.isSome).flag R.BRIDLE_STATUS_DEGRADED d.safety.degraded
  let d := (d.flag R.BRIDLE_STATUS_TB_POLLER b.poller).flag R.BRIDLE_STATUS_PROC_LOST b.procLost
  let d := d.wr R.BRIDLE_STATUS_SEQ b.seq
  let d := (d.wr R.BRIDLE_FAULT_CAUSE (if b.fault ≠ 0 then b.fault else b.startCause)).wr R.BRIDLE_FAULT_INDEX b.faultIndex
  let d := (d.wr R.BRIDLE_TRIPBUS_LINES (b.lines ||| (b.outputs / 2 ^ 28))).flag R.BRIDLE_TRIPBUS_PRES_A d.presenceA
  let d := (d.flag R.BRIDLE_TRIPBUS_PRES_B d.presenceB).flag R.BRIDLE_TRIPBUS_PARTNER_OK b.partnerOk
  let d := (d.flag R.BRIDLE_TRIPBUS_SELF_OK b.selfOk).wr R.BRIDLE_TRIPBUS_PARTNER_ANSWER b.partnerAnswer
  let d := (d.wrSat R.BRIDLE_TRIPBUS_MISSED b.missed).wr R.BRIDLE_TB_POLLS b.polls
  let d := d.wr R.BRIDLE_DIAG_STATUS_PASS
    (255 - (if b.fault ≠ 0 then 2 ^ (b.fault - 1) else if b.startCause ≠ 0 then 2 ^ (b.startCause - 1) else 0))
  let d := (d.wr R.BRIDLE_DIAG_PASSES b.passes).wrInt R.BRIDLE_OSC_DEV_PPM b.oscPpm
  let d := (d.wr R.BRIDLE_TO_MON_LIGHT b.lightSeen.toNat).wr R.BRIDLE_BLOCK_MON_SEEN b.blockSeen.toNat
  (d.wr R.BRIDLE_START_CHECK_RESULT b.startCause).wrSat R.BRIDLE_START_CHECK_DURATION_MS b.startMs

end Sys2Proof.Machine
end

