-- ==== Sys2Proof/Machine/SafetyOps.lean ====
section
/-! DEFINITION. The safety functions in the bridle: parameter sets, evaluation, stops, output pairs,
degraded mode and their registers (R282 to R316). -/

namespace Sys2Proof.Machine

/-! ### The SAFETY section (R285, R286) -/

/-- Function n of a set that begins at a byte. -/
def safetyFn (bs : List Byte) (base n : Nat) : FnImg :=
  let a := base + n * 16
  let stop := secField bs (a + 7) 1
  { type := secField bs a 1, auto := secField bs (a + 1) 1 = 1, discT := secField bs (a + 2) 2
    tpA := secField bs (a + 4) 1, tpB := secField bs (a + 5) 1, resetFn := secField bs (a + 6) 1
    cat1 := testBit stop 0, encMask := stop / 16, soMask := secField bs (a + 8) 1
    glMask := secField bs (a + 10) 2 % 4096, tMax := secField bs (a + 12) 2 }

/-- Encoder e of a set. -/
def safetyEnc (bs : List Byte) (base e : Nat) : EncImg :=
  let a := base + 0x1C0 + e * 32
  { countsPerMm := secField bs a 4, dEnv := secField bs (a + 4) 4, vTol := secField bs (a + 8) 4
    vStill := secField bs (a + 12) 4, startDelay := secField bs (a + 16) 2, stillT := secField bs (a + 18) 2 }

/-- Set s of a SAFETY section. -/
def safetySet (bs : List Byte) (s : Nat) : SafeSet :=
  let base := s * 0x400
  { fns := (List.range 24).map (fun n => (n, safetyFn bs base n))
    pairs := (List.range 8).map (fun k =>
      (k, secField bs (base + 0x180 + k * 8) 1 = 1, secField bs (base + 0x181 + k * 8) 1))
    encs := (List.range 4).map (fun e => (e, safetyEnc bs base e))
    degrHours := secField bs (base + 0x240) 1, crossMs := secField bs (base + 0x242) 2
    crc := secField bs (base + 0x3FC) 4 }

/-- A set passes its CRC. -/
def safetySetOk (bs : List Byte) (s : Nat) : Bool :=
  bs.length = 8192 && crc32 ((bs.drop (s * 0x400)).take 0x3FC) = secField bs (s * 0x400 + 0x3FC) 4

/-- The bytes of a range of a section. -/
def secBytes (bs : List Byte) (off n : Nat) : List Byte := (bs.drop off).take n

/-- A function entry holds a value outside R286. Of an entry of TYPE 0 no field but TP_A and TP_B is read. -/
def safetyFnBad (bs : List Byte) (base n : Nat) : Bool :=
  let f := safetyFn bs base n
  let a := base + n * 16
  5 < f.type || 4 < f.tpA || 4 < f.tpB || secField bs (a + 9) 1 ≠ 0 || secField bs (a + 14) 2 ≠ 0
  || (f.type ≠ 0 &&
    (1 < secField bs (a + 1) 1 || (f.resetFn ≠ 0xFF && 23 < f.resetFn) || secField bs (a + 7) 1 / 2 % 8 ≠ 0
      || f.discT < 1 || 400 < f.discT || 4096 ≤ secField bs (a + 10) 2
      || ((f.cat1 || f.tMax ≠ 0) && (f.tMax < 10 || 6000 < f.tMax))))

/-- The entry of an output pair or of an encoder holds a value outside R285; one that is all 0 is not in use. -/
def safetyPairBad (bs : List Byte) (base k : Nat) : Bool :=
  let e := secBytes bs (base + 0x180 + k * 8) 8
  e.any (fun b => b ≠ 0) &&
    (1 < leNat (e.take 1) || leNat ((e.drop 1).take 1) < 2 || 50 < leNat ((e.drop 1).take 1) || (e.drop 2).any (fun b => b ≠ 0))
def safetyEncBad (bs : List Byte) (base k : Nat) : Bool :=
  let e := secBytes bs (base + 0x1C0 + k * 32) 32
  e.any (fun b => b ≠ 0) &&
    (leNat ((e.drop 18).take 2) < 10 || 1000 < leNat ((e.drop 18).take 2) || (e.drop 20).any (fun b => b ≠ 0))

/-- A set holds a value outside R285 or R286; one whose bytes are all 0 is not in use. DEDUCED (log 150). -/
def safetySetBad (bs : List Byte) (s : Nat) : Bool :=
  let base := s * 0x400
  (secBytes bs base 0x400).any (fun b => b ≠ 0) &&
    ((List.range 24).any (safetyFnBad bs base) || (List.range 8).any (safetyPairBad bs base)
      || (List.range 4).any (safetyEncBad bs base)
      || secField bs (base + 0x240) 1 < 1 || 72 < secField bs (base + 0x240) 1
      || secField bs (base + 0x242) 2 < 10 || 200 < secField bs (base + 0x242) 2
      || (secBytes bs (base + 0x241) 1 ++ secBytes bs (base + 0x244) 0x1B8).any (fun b => b ≠ 0))

/-- A SAFETY section holds a value outside R285 or R286. -/
def safetyMalformed (bs : List Byte) : Bool := bs.length ≠ 8192 || (List.range 8).any (safetySetBad bs)

/-! ### Records -/

/-- Changes the safety functions' record. -/
def Dev.onSafety (d : Dev) (f : SafetySt → SafetySt) : Dev := { d with safety := f d.safety }

/-- The entry, the state and the encoder of a number. -/
def SafetySt.img (s : SafetySt) (n : Nat) : FnImg :=
  match s.params with
  | some p => (oget p.fns n).getD {}
  | none => {}
def SafetySt.fn (s : SafetySt) (n : Nat) : SafeFn := sget (fun _ => {}) s.fns n
def SafetySt.pair (s : SafetySt) (k : Nat) : OutPair := sget (fun _ => {}) s.pairs k
def SafetySt.encoder (s : SafetySt) (e : Nat) : Encoder := sget (fun _ => {}) s.enc e
def SafetySt.encImg (s : SafetySt) (e : Nat) : EncImg :=
  match s.params with
  | some p => (oget p.encs e).getD {}
  | none => {}

/-- Changes a function, a pair or an encoder. -/
def Dev.onFn (d : Dev) (n : Nat) (f : SafeFn → SafeFn) : Dev :=
  d.onSafety (fun s => { s with fns := sput (fun _ => {}) s.fns n (f (s.fn n)) })
def Dev.onPair (d : Dev) (k : Nat) (f : OutPair → OutPair) : Dev :=
  d.onSafety (fun s => { s with pairs := sput (fun _ => {}) s.pairs k (f (s.pair k)) })
def Dev.onEnc (d : Dev) (e : Nat) (f : Encoder → Encoder) : Dev :=
  d.onSafety (fun s => { s with enc := sput (fun _ => {}) s.enc e (f (s.encoder e)) })

/-- A channel is filtered RUN (R290). -/
def SafetySt.chanRun (s : SafetySt) (c : Nat) : Bool := (oget s.chans c).isSome

/-- The channels that a function evaluates (R295). -/
def fnChans (type n : Nat) : List Nat :=
  if type = 3 then [2 * n, 2 * n + 1, 2 * n + 2, 2 * n + 3]
  else if type = 5 then [2 * n] else [2 * n, 2 * n + 1]

/-- A type that demands and removes torque: ESTOP, GUARD, TWOHAND, CURTAIN. -/
def demands (type : Nat) : Bool := 1 ≤ type && type ≤ 4

/-- Functions of the running set with a type that demands. -/
def SafetySt.demanding (s : SafetySt) : List Nat := (List.range 24).filter (fun n => demands (s.img n).type)

/-- The running set defines at least one function. -/
def SafetySt.defines (s : SafetySt) : Bool := (List.range 24).any (fun n => (s.img n).type ≠ 0)

/-- FB_EN and FB_T of a pair. -/
def SafetySt.feedback (s : SafetySt) (k : Nat) : Bool × Nat :=
  match s.params with
  | some p => (oget p.pairs k).getD (false, 20)
  | none => (false, 20)

/-! ### Output pairs (R282, R297, R300) -/

/-- Lock-out causes (R314). -/
def loWelded : Nat := 1
def loFbTimeout : Nat := 2
def loFbChange : Nat := 3
def loSwitch : Nat := 4

/-- A function lets its outputs stay energised: in RUN with its permit bit or in degraded mode, or in a
CAT1 stop that has not yet removed torque (R282, R298). -/
def Dev.fnHolds (d : Dev) (n : Nat) : Bool :=
  let f := d.safety.fn n
  (f.run && (testBit d.bridle.permit.toNat n || d.safety.degraded)) || f.stop.isSome

/-- The functions that mask a pair; the masks of a RESET function, which is never in RUN, are ignored.
DESIGN CHOICE (log 157). -/
def SafetySt.masking (s : SafetySt) (k : Nat) : List Nat := s.demanding.filter (fun n => testBit (s.img n).soMask k)

/-- A pair is to be energised (R282). -/
def Dev.wantPair (d : Dev) (k : Nat) : Bool :=
  d.role.commanding && d.safety.params.isSome && !(d.safety.masking k).isEmpty && (d.safety.pair k).lock = 0
    && d.on R.POWER_FLD_GOOD && d.bridle.running && d.bridle.fault = 0 && (d.safety.masking k).all d.fnHolds

/-- A pair is locked out and switched off; a stop on a function that masks it ends in torque removal (R300,
R301, R310). -/
def Dev.lockPair (d : Dev) (k cause : Nat) : Dev :=
  if (d.safety.pair k).lock ≠ 0 then d
  else
    let d := d.onPair k (fun _ => { on := false, lock := cause, expecting := false })
    let d := d.onSafety (fun s => { s with lastLock := (k, cause) })
    let d := (d.safety.masking k).foldl (fun d n => d.onFn n (fun f => { f with stop := none })) d
    d.event .soLockout (source 0 0) [w32 k, w32 cause]

/-- Feedback locks pairs out: not while FLD_24V is not good or FLD_LOW stands (R310). -/
def Dev.feedbackJudged (d : Dev) : Bool := d.on R.POWER_FLD_GOOD && !d.on R.POWER_FLD_LOW

/-- Switches a pair to what it is to be; the feedback is checked before it switches on. -/
def Dev.switchPair (d : Dev) (k : Nat) : Dev :=
  let want := d.wantPair k
  let p := d.safety.pair k
  let fb := (d.safety.feedback k).1
  let fbRun := d.safety.chanRun (48 + k)
  if want = p.on then d
  else if want && fb && !fbRun then (if d.feedbackJudged then d.lockPair k loWelded else d)
  else d.onPair k (fun p => { p with on := want, expecting := fb && fbRun = want })

/-- The gate links that functions out of RUN block (R297). -/
def Dev.safetyBlock (d : Dev) : Nat :=
  d.safety.demanding.foldl (fun m n =>
    let f := d.safety.fn n
    if !f.run && f.stop.isNone then m ||| (d.safety.img n).glMask else m) 0

/-- A safe stop monitors an encoder. -/
def SafetySt.monitored (s : SafetySt) (e : Nat) : Bool :=
  s.demanding.any (fun n => (s.fn n).stop.isSome && testBit (s.img n).encMask e)

/-- Drives the pairs and the bridle's outputs; an encoder that no stop monitors any more is idle, unless it
shows standstill or a violation. -/
def Dev.driveSafety (d : Dev) : Dev :=
  let d := d.each 8 (fun k d => d.switchPair k)
  let d := d.each 4 (fun e d => d.when ((d.safety.encoder e).state = 1 && !d.safety.monitored e)
    (fun d => d.onEnc e (fun x => { x with state := 0 })))
  d.driveOutputs d.safetyBlock

/-! ### Evaluation (R292 to R298, R304) -/

/-- Every function is SAFE: the bridle does not run, has a fault or no valid set, or FLD_24V is not good
(R51, R278, R287). -/
def Dev.forcedSafe (d : Dev) : Bool :=
  !d.bridle.running || d.bridle.fault ≠ 0 || d.safety.params.isNone || !d.on R.POWER_FLD_GOOD

/-- A stop begins to monitor its encoders; one that another stop monitors goes on as it is. DEDUCED (log 76). -/
def Dev.monitorEncoders (d : Dev) (mask : Nat) : Dev :=
  (bitsOf 4 mask).foldl (fun d e =>
    if d.safety.monitored e then d else d.onEnc e (fun x => { x with state := 1, still := 0 })) d

/-- The function goes SAFE: a CAT0 function removes torque at once, and a CAT1 function runs a safe stop
(R298); in degraded mode or when forced, CAT1 acts as CAT0. -/
def Dev.demandFn (d : Dev) (n : Nat) : Dev :=
  let i := d.safety.img n
  let f := d.safety.fn n
  if !f.run then (if d.forcedSafe then d.onFn n (fun f => { f with stop := none }) else d)
  else
    let stops := i.cat1 && !d.safety.degraded && !d.forcedSafe
    let run : StopRun :=
      { at_ := d.now, v0 := (bitsOf 4 i.encMask).map (fun e => (e, (d.safety.encoder e).speed.natAbs)) }
    let d := d.when stops (fun d => d.monitorEncoders i.encMask)
    d.onFn n (fun f => { f with run := false, stop := if stops then some run else none })

/-- TWOHAND (R295): both hands SAFE arms it; both hands RUN, the second no later than 500 ms after the
first, gives RUN. The state after the channels as they are, and whether RUN is given. -/
def twoHand (s : SafetySt) (now : DWord) (n : Nat) (f : SafeFn) : SafeFn × Bool :=
  let c := s.chanRun
  let h1 := c (2 * n) && c (2 * n + 1)
  let h2 := c (2 * n + 2) && c (2 * n + 3)
  let f := if (fnChans 3 n).all (fun k => !c k) then { f with armed := true } else f
  if !h1 && !h2 then ({ f with firstHand := none }, false)
  else if !(h1 && h2) then ({ f with firstHand := some (f.firstHand.getD now) }, false)
  else if f.armed then
    ({ f with armed := false }, match f.firstHand with
      | none => true
      | some t => decide ((now - t).toNat ≤ 500000000))
  else (f, false)

/-- The function follows its channels: the 50 ms of R294, and RUN or SAFE (R293, R295, R304). A return to RUN ends a stop
that is under way. DESIGN CHOICE (log 156). -/
def Dev.updateFn (d : Dev) (n : Nat) : Dev :=
  let i := d.safety.img n
  if !demands i.type then d
  else
    let s := d.safety
    let safe := (fnChans i.type n).map (fun c => !s.chanRun c)
    let f := s.fn n
    let f := if safe.all id then { f with safeSince := some (f.safeSince.getD d.now) }
      else { f with
        proved := f.proved || (f.fault ≠ 0 && (match f.safeSince with
          | some t => decide (50000000 ≤ d.since t)
          | none => false))
        safeSince := none }
    let (f, hands) := if i.type = 3 then twoHand s d.now n f else (f, false)
    let grant := hands || (i.auto && (i.type = 2 || i.type = 4))
    let d := d.onFn n (fun _ => f)
    if safe.any id || f.fault ≠ 0 || d.forcedSafe then d.demandFn n
    else if grant && !s.degraded then d.onFn n (fun f => { f with run := true, stop := none })
    else d

/-- Every function follows its channels, and the outputs are driven. -/
def Dev.updateFns (d : Dev) : Dev := (d.each 24 (fun n d => d.updateFn n)).driveSafety

/-- Fault causes (R313). -/
def scDiscrepancy : Nat := 1
def scTestPulse : Nat := 2
def scCross : Nat := 3
def scEnvelope : Nat := 4
def scEncoder : Nat := 5
def scStopTimeout : Nat := 6
def scDegradedExpired : Nat := 7

/-- A fault latches the function in SAFE, whether or not another stands (R294, R304). -/
def Dev.latchAgain (d : Dev) (n cause : Nat) : Dev :=
  let d := d.onFn n (fun f => { f with fault := cause, proved := false })
  let d := d.onSafety (fun s => { s with lastFault := (n, cause) })
  (d.event .safeFault (source 9 n) [w32 n, w32 cause]).updateFn n

/-- A fault latches the function in SAFE (R294); a fault already latched stays. -/
def Dev.latchFn (d : Dev) (n cause : Nat) : Dev :=
  if (d.safety.img n).type = 0 || (d.safety.fn n).fault ≠ 0 then d else d.latchAgain n cause

/-- The RESET function whose edges reset a function (R294). -/
def SafetySt.resetOf (s : SafetySt) (n : Nat) : Option Nat :=
  let i := s.img n
  if i.resetFn ≠ 0xFF then some i.resetFn
  else match (List.range 24).find? (fun m =>
      demands (s.img m).type && (s.img m).resetFn ≠ 0xFF && (s.img m).soMask &&& i.soMask ≠ 0) with
    | some m => some (s.img m).resetFn
    | none => none

/-- A reset edge of a RESET function reaches a function (R294 to R296): ignored while a channel is SAFE,
and with a fault before its 50 ms have run. A RESET function's own expiry fault clears at its own edge.
DEDUCED (log 75). -/
def Dev.edgeAtFn (d : Dev) (r n : Nat) : Dev :=
  let i := d.safety.img n
  let f := d.safety.fn n
  if !demands i.type || d.safety.resetOf n ≠ some r then d
  else if (fnChans i.type n).any (fun c => !d.safety.chanRun c) then d
  else if f.fault ≠ 0 && !f.proved then d
  else
    let d := d.onFn n (fun f => { f with fault := 0, proved := false })
    if i.type ≠ 3 && !d.forcedSafe && !d.safety.degraded then d.onFn n (fun f => { f with run := true, stop := none })
    else d

/-- A reset edge (R296): functions, then lock-outs whose feedback has been RUN for 50 ms (R300). In SAFETY_MAINT faults and
lock-outs stay (R310). -/
def Dev.resetEdge (d : Dev) (r : Nat) : Dev :=
  if d.role = .safetyMaint then d else
  let d := d.when ((d.safety.fn r).fault = scDegradedExpired) (fun d => d.onFn r (fun f => { f with fault := 0 }))
  let d := d.each 24 (fun n d => d.edgeAtFn r n)
  let d := d.each 8 (fun k d =>
    let fbRun := match oget d.safety.chans (48 + k) with
      | some t => decide (50000000 ≤ d.since t)
      | none => false
    if (d.safety.pair k).lock ≠ 0 && fbRun && (d.safety.masking k).any (fun n => d.safety.resetOf n = some r) then
      d.onPair k (fun p => { p with lock := 0 })
    else d)
  d.updateFns

/-! ### Channels (R290, R292, R300) -/

/-- Feedback k has changed its filtered level (R300). -/
def Dev.feedbackLevel (d : Dev) (k : Nat) (run : Bool) : Dev :=
  let p := d.safety.pair k
  if p.lock ≠ 0 || !(d.safety.feedback k).1 then d
  else if p.expecting then (if run != p.on then d.onPair k (fun p => { p with expecting := false }) else d)
  else if !d.feedbackJudged then d
  else d.lockPair k loFbChange

/-- The function that a channel belongs to. -/
def SafetySt.owner (s : SafetySt) (c : Nat) : Option Nat :=
  (List.range 24).find? (fun n => demands (s.img n).type && (fnChans (s.img n).type n).contains c)

/-- A channel takes a filtered level (R290). -/
def Dev.setChannel (d : Dev) (c : Nat) (run : Bool) : Dev :=
  if d.safety.chanRun c = run then d
  else
    let was := oget d.safety.chans c
    let d := d.onSafety (fun s => { s with chans := if run then oput s.chans c d.now else oerase s.chans c })
    if 48 ≤ c then (d.feedbackLevel (c - 48) run).driveSafety
    else
      let d := match d.safety.owner c with
        | some n => d.updateFn n
        | none => d
      let d := d.driveSafety
      if !run && c % 2 = 0 && (d.safety.img (c / 2)).type = 5 then
        match was with
        | some t => if 50000000 ≤ d.since t ∧ d.since t ≤ 3000000000 then d.resetEdge (c / 2) else d
        | none => d
      else d

/-- One hand's discrepancy count after a tick (R292). -/
def discCount (differ : Bool) (count : Nat) : Nat := if differ then count + 1 else 0

/-- One tick of a function's discrepancy counts; reaching DISC_T × 10 latches the fault. -/
def Dev.discTick (d : Dev) (n : Nat) : Dev :=
  let i := d.safety.img n
  if !demands i.type then d
  else
    let c := d.safety.chanRun
    let f := d.safety.fn n
    let k1 := discCount (c (2 * n) != c (2 * n + 1)) f.count1
    let k2 := if i.type = 3 then discCount (c (2 * n + 2) != c (2 * n + 3)) f.count2 else 0
    let d := d.onFn n (fun f => { f with count1 := k1, count2 := k2 })
    if k1 = i.discT * 10 ∨ (i.type = 3 ∧ k2 = i.discT * 10) then d.latchFn n scDiscrepancy else d

/-! ### Safe stop (R298, R299) -/

/-- A function's stop ends in torque removal. -/
def Dev.endStop (d : Dev) (n : Nat) : Dev := d.onFn n (fun f => { f with stop := none })

/-- |v| is above the envelope of a stop, in exact arithmetic on counts per 1 ms (R299): `c` and `c0` are the
magnitudes now and at the demand, `dt` ns since the demand. -/
def aboveEnvelope (i : EncImg) (c c0 dt : Nat) : Bool :=
  let fall : Int := if dt ≤ i.startDelay * 1000000 then 0 else i.dEnv * ((dt : Int) - i.startDelay * 1000000)
  let lhs : Int := c * 10 ^ 15
  let sloped : Int := c0 * 10 ^ 15 + i.countsPerMm * (i.vTol * 10 ^ 9 - fall)
  let floor_ : Int := if dt ≤ i.startDelay * 1000000 then sloped else max sloped (i.countsPerMm * (i.vTol * 10 ^ 9))
  decide (floor_ < lhs)

/-- One window of an encoder for one function's stop. -/
def Dev.stopWindow (d : Dev) (e n : Nat) : Dev :=
  let f := d.safety.fn n
  match f.stop with
  | none => d
  | some r =>
    if !testBit (d.safety.img n).encMask e then d
    else
      let c := (d.safety.encoder e).speed.natAbs
      let above := aboveEnvelope (d.safety.encImg e) c (sget (fun _ => 0) r.v0 e) (d.since r.at_)
      let k := if above then sget (fun _ => 0) r.above e + 1 else 0
      let d := d.onFn n (fun f => { f with stop := some { r with above := sput (fun _ => 0) r.above e k } })
      if 2 ≤ k then
        ((d.endStop n).latchFn n scEnvelope).onEnc e (fun x => { x with state := 3 })
      else d

/-! ### Degraded mode (R303 to R305) -/

/-- The processor channel is lost: the bridle enters degraded mode. DEDUCED (log 78). -/
def Dev.enterDegraded (d : Dev) : Dev :=
  if d.safety.degraded || !d.bridle.running then d
  else
    let d := d.onSafety (fun s => { s with degraded := true, degradedAt := d.now, warned := false, lapsed := false })
    (d.event .safeDegraded (source 0 0)).driveSafety

/-- The permit word agrees with every function's state. -/
def Dev.permitAgrees (d : Dev) : Bool :=
  testBit d.bridle.permit.toNat 31
    && d.safety.demanding.all (fun n => testBit d.bridle.permit.toNat n = (d.safety.fn n).run)

/-- Seconds to the expiry of degraded mode. -/
def Dev.degradedLeft (d : Dev) : Nat :=
  match d.safety.params with
  | some p => if d.safety.degraded then p.degrHours * 3600 - d.since d.safety.degradedAt / nsPerSecond else 0
  | none => 0

/-! ### Start and roles (R284, R287, R288) -/

/-- The bridle reads K1.4 to K1.2 and takes the set they select; every function is SAFE (R288). -/
def Dev.takeSafety (d : Dev) : Dev :=
  let n := d.rd R.KEEPER_SAFE_SET
  let p := match d.bridle.safety with
    | some s => if safetySetOk s.bytes n then some (safetySet s.bytes n) else none
    | none => none
  let d := d.onSafety (fun s => { s with
    set := n, params := p
    fns := s.fns.map (fun q => (q.1, { q.2 with run := false, stop := none })) })
  d.updateFns

/-- At an exit from SAFETY_MAINT the bridle runs from its stored copies and reads the set selection; a PROTECT copy
that has not changed keeps its latches (R288, R289). -/
def Dev.leaveMaint (d : Dev) : Dev :=
  let stored : Option ProtectImg := match d.bridle.protect with
    | some s => if s.protectOk then some s.protect else none
    | none => none
  (if stored = d.bridle.params then d else d.takeProtect).takeSafety

/-- A change of role: at entry into ACTIVE or SOLO every function starts SAFE (R284), and outside the
roles that run cycles the trip and permit words are 0 (R269, R283). -/
def Dev.safetyRole (d : Dev) (prev new : Role) : Dev :=
  let d := if new.commanding && !prev.commanding then
      d.onSafety (fun s => { s with fns := s.fns.map (fun q =>
        (q.1, { q.2 with run := false, armed := false, firstHand := none, stop := none })) })
    else d
  let d := if new.runs then d else d.onBridle (fun b => { b with pt := 0, permit := 0 })
  if prev = .safetyMaint && new != .safetyMaint then d.leaveMaint else d.updateFns

/-! ### Registers (R311 to R316) -/

/-- The safety registers, refreshed with the bridle's snapshot. -/
def Dev.mirrorSafety (d : Dev) : Dev :=
  let s := d.safety
  let p := s.params.getD {}
  let mask (f : Nat → Bool) (n : Nat) : Nat := (List.range n).foldl (fun m k => if f k then putBit m k true else m) 0
  let d := (d.wr R.SAFE_STATUS_SET_ACTIVE s.set).wr R.SAFE_STATUS_SET_SWITCH (d.rd R.KEEPER_SAFE_SET)
  let d := (d.flag R.SAFE_STATUS_SET_PENDING (d.rd R.KEEPER_SAFE_SET ≠ s.set)).flag R.SAFE_STATUS_SAFE_VALID s.params.isSome
  let d := (d.flag R.SAFE_STATUS_DEGRADED s.degraded).flag R.SAFE_STATUS_DEGR_WARN s.warned
  let d := (d.flag R.SAFE_STATUS_DEGR_EXPIRED s.expired).flag R.SAFE_STATUS_PERMIT_VALID (testBit d.bridle.permit.toNat 31)
  let d := (d.flag R.SAFE_STATUS_ROLE_ENABLE d.role.commanding).wr R.SAFE_STATUS_SET_CRC p.crc
  let d := d.wr R.SAFE_DEMAND_SAFE (mask (fun n => !(s.fn n).run) 24)
  let d := (d.wr R.SAFE_FAULT_FAULT (mask (fun n => (s.fn n).fault ≠ 0) 24)).wr R.SAFE_FAULT_LAST_FUNC s.lastFault.1
  let d := (d.wr R.SAFE_FAULT_LAST_CAUSE s.lastFault.2).wr R.SAFE_OUT_ON (mask (fun k => (s.pair k).on) 8)
  let d := (d.wr R.SAFE_OUT_LOCKOUT (mask (fun k => (s.pair k).lock ≠ 0) 8)).wr R.SAFE_OUT_FB
    (mask (fun k => s.chanRun (48 + k)) 8)
  let d := (d.wr R.SAFE_OUT_LAST_PAIR s.lastLock.1).wr R.SAFE_OUT_LAST_CAUSE s.lastLock.2
  let d := d.each 4 (fun e d =>
    let x := s.encoder e
    ((d.wr (R.SAFE_STOP_STATE e) x.state).flag (R.SAFE_STOP_ENC_FAULT e) x.fault).flag (R.SAFE_STOP_SUPPLY_OK e) x.supplyOk)
  d.wr R.SAFE_DEGR d.degradedLeft

/-- The whole snapshot of the bridle (R281): nothing is refreshed before the start checks complete. -/
def Dev.bridleMirror (d : Dev) : Dev :=
  if !d.bridle.checked then d
  else
    let d := d.onBridle (fun b => { b with seq := (b.seq + 1) % 65536 })
    d.mirrorState.mirrorEquations.mirrorParams.mirrorSafety

end Sys2Proof.Machine
end

