-- ==== Sys2Proof/Machine/Operands.lean ====
section
/-! DEFINITION. The operand forms of tack code: sign and zero extension, effective addresses, targets, and
which addresses an access is permitted to (R160, R162, R164, R167 to R169). -/

namespace Sys2Proof.Machine

/-- sext and zext of an immediate to 64 bits (R160). -/
def sext16 (imm : BitVec 16) : DWord := imm.signExtend 64
def zext16 (imm : BitVec 16) : DWord := imm.setWidth 64

/-- The effective address: the low 32 bits of ra + sext(imm16) (R160). -/
def effAddr (base : DWord) (imm : BitVec 16) : Nat := (base + sext16 imm).toNat % 2 ^ 32

/-- The target of a branch or jump: the address of the instruction plus sext(offset) × 4 (R160). -/
def relTarget (pc : Word) (off : Int) : Word := pc + BitVec.ofInt 32 (off * 4)

/-- Little-endian bytes of a value (R159). -/
def bytesOf (n : Nat) (v : Nat) : List Byte := leBytes n v

/-- Sign or zero extension of a loaded value of `n` bytes. -/
def extend (n : Nat) (signed : Bool) (v : Nat) : DWord :=
  if signed && testBit v (8 * n - 1) then BitVec.ofNat 64 (v + 2 ^ 64 - 2 ^ (8 * n)) else BitVec.ofNat 64 v

/-! ### Memory map (R164) -/

/-- The top of the data area less the shadow reserve. -/
def PartImg.dataTop (p : PartImg) : Nat := 0x80000 - p.reserveKib * 1024

/-- Whether a range lies in the data area below the shadow reserve. -/
def PartImg.inData (p : PartImg) (a n : Nat) : Bool := 0x20000 ≤ a && a + n ≤ p.dataTop

/-- Whether a device offset is one that tack code may reach: mapped, and in none of the blocks SEC, HIST
and LIFE (R169, R484). -/
def tackDevice (off : Nat) : Bool :=
  (spanOf off).isSome && !(0x800000 ≤ off && off < 0x810000) && !(0x410000 ≤ off && off < 0x420000)
    && !(0x900000 ≤ off && off < 0x910000)

/-- Whether an address lies in device space. -/
def isDevice (a : Nat) : Bool := 0x80000000 ≤ a && a ≤ 0x80FFFFFF

/-- Whether a load of `n` bytes is permitted; `priv` is the privilege of the task. -/
def PartImg.mayLoad (p : PartImg) (priv : Bool) (a n : Nat) : Bool :=
  decide (a + n ≤ p.dataTop) ||
  (0x80000 ≤ a && a + n ≤ 0x80000 + p.inLen) ||
  (n = 8 && 0xA8000 ≤ a && a < 0xB0000 && (p.recvs.any (fun x => x.1 = (a - 0xA8000) / 0x800))) ||
  (0xFFF00 ≤ a && a + n ≤ 0x100000) ||
  (n = 4 && isDevice a && priv && tackDevice (a - 0x80000000))

/-- Whether a store of `n` bytes is permitted. -/
def PartImg.mayStore (p : PartImg) (priv : Bool) (a n : Nat) : Bool :=
  p.inData a n ||
  (0x90000 ≤ a && a + n ≤ 0x90000 + p.outLen) ||
  (n = 8 && 0xA0000 ≤ a && a < 0xA8000 && decide ((a % 0x800) / 8 < 255)
    && (p.sends.any (fun x => x.1 = (a - 0xA0000) / 0x800))) ||
  (n = 4 && isDevice a && priv && tackDevice (a - 0x80000000))

end Sys2Proof.Machine
end

