-- ==== Sys2Proof/Machine/CanOps.lean ====
section
/-! DEFINITION. CAN FD ports: buffers, arbitration, filters, queues, fault confinement, and the registers that
show them, as operations on the module (R402 to R420). -/

namespace Sys2Proof.Machine

/-- A port beside its registers, and its change. -/
def Dev.port (d : Dev) (n : Nat) : CanPort := sget (fun _ => {}) d.can n
def Dev.onPort (d : Dev) (n : Nat) (f : CanPort → CanPort) : Dev :=
  { d with can := sput (fun _ => {}) d.can n (f (d.port n)) }

/-- A transmit buffer of a port, and its change. -/
def CanPort.buf (p : CanPort) (b : Nat) : CanBuf := sget (fun _ => {}) p.bufs b
def CanPort.onBuf (p : CanPort) (b : Nat) (f : CanBuf → CanBuf) : CanPort :=
  { p with bufs := sput (fun _ => {}) p.bufs b (f (p.buf b)) }
def Dev.onBuf (d : Dev) (n b : Nat) (f : CanBuf → CanBuf) : Dev := d.onPort n (fun p => p.onBuf b f)

/-- The settings of a port. -/
def Dev.canImg (d : Dev) (n : Nat) : CanImg :=
  match d.hrn.image with
  | some im => (match im.cans.find? (fun c => c.port = n) with | some c => c | none => { port := n })
  | none => { port := n }

/-! ### Modes and states (R405, R416) -/

/-- `CAN.STATUS.MODE`: 0 NORMAL, 1 MONITOR, 2 INTERNAL_LOOP, 3 EXTERNAL_LOOP. -/
def Dev.canMode (d : Dev) (n : Nat) : Nat :=
  let l := d.rd (R.CAN_CTRL_LOOP n)
  match d.role with
  | .standby => 1
  | .stopped => if l = 1 then 2 else 0
  | .solo => if l = 1 then 2 else if l = 2 then 3 else 0
  | _ => 0

/-- The port sends frames: a used port in ACTIVE or SOLO, or in internal loop-back in STOPPED.
DEDUCED (log 103). -/
def Dev.canSends (d : Dev) (n : Nat) : Bool :=
  d.on (R.CAN_CONFIG_USED n) && (d.role.commanding || d.canMode n = 2)

/-- The port's error state: 0 active, 1 passive, 2 bus-off (R417). -/
def CanPort.errState (p : CanPort) (off : Bool) : Nat :=
  if off then 2 else if 128 ≤ p.tec ∨ 128 ≤ p.rec_ then 1 else 0

/-- Bus-off, as the port keeps it in `CAN.STATUS.STATE`. -/
def Dev.canOff (d : Dev) (n : Nat) : Bool := d.rd (R.CAN_STATUS_STATE n) = 2

/-! ### Frames (R408, R412, R413) -/

/-- LEN is valid for a classic or an FD frame. -/
def canLenOk (fdf : Bool) (len : Nat) : Bool :=
  decide (len ≤ 8) || (fdf && [12, 16, 20, 24, 32, 48, 64].contains len)

/-- A frame as a bus can carry it. -/
def canFrameOk (f : CanFrame) : Bool :=
  canLenOk f.fdf f.data.length && (f.fdf || !f.brs) && !(f.fdf && f.rtr) && (f.ide || f.id.toNat % 2 ^ 18 = 0)

/-- The fields of a buffer's header. -/
def CanBuf.len (b : CanBuf) : Nat := b.hdr.toNat % 128
def CanBuf.ide (b : CanBuf) : Bool := testBit b.hdr.toNat 8
def CanBuf.fdf (b : CanBuf) : Bool := testBit b.hdr.toNat 9
def CanBuf.brs (b : CanBuf) : Bool := testBit b.hdr.toNat 10
def CanBuf.rtr (b : CanBuf) : Bool := testBit b.hdr.toNat 12

/-- The data bytes of a buffer: none for a remote frame. -/
def CanBuf.bytes (b : CanBuf) : List Byte :=
  if b.rtr then [] else
    ((List.range 16).foldl (fun a k => a ++ leBytes 4 (sget (fun _ => (0 : Word)) b.data k).toNat) []).take b.len

/-- The identifier as it is sent: a base identifier in bits 28 to 18. -/
def CanBuf.ident (b : CanBuf) : Nat :=
  if b.ide then b.id.toNat % 2 ^ 29 else b.id.toNat % 2 ^ 29 / 2 ^ 18 * 2 ^ 18

/-- A buffer's frame is a frame seen on the bus (R411); of a remote frame only the length counts. -/
def CanBuf.is (b : CanBuf) (f : CanFrame) : Bool :=
  b.ident = f.id.toNat && b.ide = f.ide && b.fdf = f.fdf && b.brs = f.brs && b.rtr = f.rtr
    && (if b.rtr then b.len = f.data.length else b.bytes = f.data)

/-- The place in the order of arbitration, lowest first: the base identifier, RTR (or SRR), IDE, the extended
bits, RTR (R409). -/
def CanBuf.rank (b : CanBuf) : Nat :=
  let i := b.ident
  (i / 2 ^ 18) * 2 ^ 21 + (if b.ide then 1 else bit b.rtr) * 2 ^ 20 + bit b.ide * 2 ^ 19
    + (if b.ide then i % 2 ^ 18 else 0) * 2 + (if b.ide then bit b.rtr else 0)

/-- The PENDING buffer that the controller chooses (R409). -/
def Dev.canChoose (d : Dev) (n : Nat) : Option Nat :=
  let p := d.port n
  let ws := [0, 1, 2].filter (fun b => (p.buf b).state = 1)
  if d.on (R.CAN_CONFIG_ORDER n) then ws.head?
  else ws.foldl (fun a b =>
    match a with
    | none => some b
    | some c => if (p.buf b).rank < (p.buf c).rank then some b else some c) none

/-- The words of a receive entry (R413). -/
def canEntry (f : CanFrame) (looped : Bool) (filter : Nat) (t : DWord) (num : Word) : List Word :=
  let len := f.data.length
  let words := 5 + (len + 3) / 4
  [w32 (len + bit f.ide * 2 ^ 8 + bit f.fdf * 2 ^ 9 + bit f.brs * 2 ^ 10 + bit f.esi * 2 ^ 11 + bit f.rtr * 2 ^ 12
      + bit looped * 2 ^ 13 + filter * 2 ^ 16 + words * 2 ^ 24),
   w32 f.id.toNat, w32 t.toNat, w32 (t.toNat / 2 ^ 32), num]
    ++ leWords ((len + 3) / 4) (if f.rtr then [] else f.data)

/-- The first pair, in ascending order, that is not disabled and matches: its number and ACTION (R412). -/
def canFilter (fs : List (Word × Word × Nat)) (f : CanFrame) : Option (Nat × Nat) :=
  let key := f.id.toNat + bit f.ide * 2 ^ 29 + bit f.fdf * 2 ^ 30
  (((List.range fs.length).zip fs).find? (fun x =>
    x.2.2.2 ≠ 0 && ((w32 key ^^^ x.2.1) &&& x.2.2.1) = 0)).map (fun x => (x.1, x.2.2.2))

/-- A queue of a port and the fields of its status. -/
def CanPort.queue (p : CanPort) (q : Nat) : List CanEntry := if q = 0 then p.q0 else p.q1
def Dev.putQueue (d : Dev) (n q : Nat) (es : List CanEntry) : Dev :=
  d.onPort n (fun p => if q = 0 then { p with q0 := es } else { p with q1 := es })
def fldLocked (n q : Nat) : Fld := if q = 0 then R.CAN_RXQ0_STATUS_LOCKED n else R.CAN_RXQ1_STATUS_LOCKED n
def fldPos (n q : Nat) : Fld := if q = 0 then R.CAN_RXQ0_STATUS_POS n else R.CAN_RXQ1_STATUS_POS n
def fldOverflow (n q : Nat) : Fld := if q = 0 then R.CAN_RXQ0_STATUS_OVERFLOW n else R.CAN_RXQ1_STATUS_OVERFLOW n

/-- A frame passes the filters and is queued, rejected or dropped (R412, R413). -/
def Dev.canReceive (d : Dev) (n : Nat) (f : CanFrame) (looped : Bool) (t : DWord) (num : Word) : Dev :=
  match canFilter (d.canImg n).filters f with
  | none => d.incSat (R.CAN_RX_COUNT_NO_MATCH n)
  | some (k, action) =>
    let d := d.onPort n (fun p => { p with
      hits := sput (fun _ => 0) p.hits k (min 65535 (sget (fun _ => 0) p.hits k + 1)) })
    if action = 3 then d
    else
      let q := action - 1
      let es := (d.port n).queue q
      if 64 ≤ es.length then
        (d.raise (fldOverflow n q)).incSat (if q = 0 then R.CAN_RX_DROP_OVF0 n else R.CAN_RX_DROP_OVF1 n)
      else
        let d := d.putQueue n q (es ++ [⟨num, canEntry f looped k t num⟩])
        (d.incWrap (R.CAN_RX_COUNT_ACCEPTED n)).wr (R.CAN_LAST_ID_ID n) f.id.toNat

/-! ### Fault confinement (R417, R418) -/

/-- WARN and STATE follow the error counters, with the events of R417. PRESUMED (log 105). -/
def Dev.canErrors (d : Dev) (n : Nat) : Dev :=
  let p := d.port n
  let was := d.rd (R.CAN_STATUS_STATE n)
  let off : Bool := was = 2 || decide (255 < p.tec)
  let now := p.errState off
  let warn : Bool := 96 ≤ p.tec || 96 ≤ p.rec_
  let src := source 7 n
  let d := if warn && !d.on (R.CAN_STATUS_WARN n) then d.event .canErrorWarning src [w32 n] else d
  let d := d.flag (R.CAN_STATUS_WARN n) warn
  if now = was then d
  else
    let d := (d.wr (R.CAN_STATUS_STATE n) now).wr (R.CAN_ERR_T n) (d.timeT.toNat / 1000)
    match now with
    | 0 => d.event .canErrorActive src [w32 n]
    | 1 => (d.raise (R.CAN_STATUS_PASSIVE_SEEN n)).event .canErrorPassive src [w32 n]
    | _ =>
      let d := ((d.raise (R.CAN_STATUS_BUSOFF_SEEN n)).incSat (R.CAN_BUSOFF_COUNT n)).event .canBusOff src [w32 n]
      d.flag (R.CAN_STATUS_RECOVERING n) (d.on (R.CAN_CONFIG_AUTO_RECOVER n))

/-- The attempt of the buffer on the bus ends without its frame: it is retried, or cancelled when a refused
cancel waits (R408, R410). -/
def CanBuf.fail (b : CanBuf) : CanBuf :=
  if b.onBus then { b with onBus := false, cancel := false, state := if b.cancel then 3 else b.state } else b
def Dev.canEndAttempt (d : Dev) (n : Nat) : Dev :=
  d.onPort n (fun p => ((p.onBuf 0 CanBuf.fail).onBuf 1 CanBuf.fail).onBuf 2 CanBuf.fail)

/-- The buffer whose start-of-frame has been sent. -/
def CanPort.sending (p : CanPort) : Option Nat := [0, 1, 2].find? (fun b => (p.buf b).onBus)

/-- An error on the bus (R417, ISO 11898-1): a transmitter adds 8 to TEC, but for an ACK error while error
passive; a receiver adds 1 to REC, or 8 as the standard gives. In bus monitoring mode nothing changes. -/
def Dev.canError (d : Dev) (n kind : Nat) (dataPhase tx heavy : Bool) : Dev :=
  let d := d.wr (if dataPhase then R.CAN_LEC_DLEC n else R.CAN_LEC_LEC n) kind
  if d.canMode n = 1 then d
  else if tx then
    let quiet : Bool := kind = 3 && d.rd (R.CAN_STATUS_STATE n) = 1
    let d := (d.incSat (R.CAN_ERR_COUNT_TX_ERR n)).canEndAttempt n
    (if quiet then d else d.onPort n (fun p => { p with tec := p.tec + 8 })).canErrors n
  else
    let d := d.incSat (R.CAN_ERR_COUNT_RX_ERR n)
    (d.onPort n (fun p => { p with rec_ := min 255 (p.rec_ + if heavy then 8 else 1) })).canErrors n

/-- `CAN.CTRL.RECOVER`. -/
def Dev.canRecover (d : Dev) (n : Nat) : Dev := d.when (d.canOff n) (fun d => d.raise (R.CAN_STATUS_RECOVERING n))

/-- Recovery completes: TEC and REC are 0, and sending resumes (R418). -/
def Dev.canRecovered (d : Dev) (n : Nat) : Dev :=
  if d.on (R.CAN_STATUS_RECOVERING n) then
    let d := (d.onPort n (fun p => { p with tec := 0, rec_ := 0 })).clear [R.CAN_STATUS_RECOVERING n, R.CAN_STATUS_WARN n]
    ((d.wr (R.CAN_STATUS_STATE n) 0).wr (R.CAN_ERR_T n) (d.timeT.toNat / 1000)).event .canErrorActive (source 7 n) [w32 n]
  else d

/-! ### Completion (R406) -/

/-- The load of the last 100 ms in %. -/
def Dev.canLoad (d : Dev) (n busyNs : Nat) : Dev :=
  let b := ((d.port n).busy ++ [(d.now, busyNs)]).filter (fun x => d.since x.1 < 100000000)
  let v := min 100 ((b.foldl (fun a x => a + x.2) 0) / 1000000)
  ((d.onPort n (fun p => { p with busy := b })).wr (R.CAN_LOAD_LAST n) v).maxTo (R.CAN_LOAD_MAX n) v

/-- A buffer becomes SENT with a bus frame number. -/
def Dev.canSent (d : Dev) (n b : Nat) (t : DWord) (num : Word) : Dev :=
  let us := (t - ((d.port n).buf b).reqT).toNat / 1000
  let d := d.onBuf n b (fun x => { x with state := 2, onBus := false, cancel := false, num := num })
  let d := (d.incWrap (R.CAN_TX_COUNT_SENT n)).wr64 (R.CAN_TX_T_LO n) (R.CAN_TX_T_HI n) t
  (d.wrSat (R.CAN_TX_LAT_LAST_US n) us).maxTo (R.CAN_TX_LAT_MAX_US n) us

/-- A shadow buffer that a frame on the bus matches (R411). DEDUCED (log 104). -/
def Dev.canShadow (d : Dev) (n : Nat) (f : CanFrame) : Option Nat :=
  [0, 1, 2].find? (fun b => ((d.port n).buf b).state = 1 && ((d.port n).buf b).is f)

/-- A frame that the module sent completes: `delay` is the measured transceiver delay of an FD frame. -/
def Dev.canOwn (d : Dev) (n b : Nat) (f : CanFrame) (t : DWord) (num : Word) (delay : Option Nat) : Dev :=
  let d := (d.canSent n b t num).onPort n (fun p => { p with tec := p.tec - 1 })
  let d := match delay with
    | some v => d.when (f.fdf && d.on (R.CAN_TDC_EN n)) (fun d => d.wr (R.CAN_TDC_MEASURED n) (min 127 v))
    | none => d
  let d := d.canErrors n
  if 2 ≤ d.canMode n then d.canReceive n f true t num else d

/-- A frame from another node completes. -/
def Dev.canOther (d : Dev) (n : Nat) (f : CanFrame) (t : DWord) (num : Word) : Dev :=
  if d.canMode n = 1 then
    match d.canShadow n f with
    | some b => d.canSent n b t num
    | none => d.canReceive n f false t num
  else
    let r := (d.port n).rec_
    let d := d.onPort n (fun p => { p with rec_ := if 127 < r then 119 + Config.canRec d.free % 9 else r - 1 })
    (({ d with free := d.free + 1 }).canErrors n).canReceive n f false t num

/-- A frame completes without error: it takes the next bus frame number (R406). A measured delay above 127 mtq is a
bit error in the data phase of the attempt (R404). -/
def Dev.canComplete (d : Dev) (n : Nat) (f : CanFrame) (own : Bool) (t : DWord) (busyNs : Nat) (delay : Option Nat) :
    Dev :=
  if !d.alive || !d.on (R.CAN_CONFIG_USED n) || !(d.role.runs || d.canMode n = 2) then d
  else
    let num := w32 (d.rd (R.CAN_RXNUM n) + 1)
    let done (d : Dev) : Dev := (d.wr (R.CAN_RXNUM n) num.toNat).canLoad n busyNs
    if own then
      match (d.port n).sending with
      | some b =>
        if !((d.port n).buf b).is f then d
        else if f.fdf && d.on (R.CAN_TDC_EN n) && (match delay with | some v => decide (127 < v) | none => false) then
          let d := d.wr (R.CAN_TDC_MEASURED n) 127
          ({ d with free := d.free + 1 }).canError n (if Config.canDelayBit d.free then 4 else 5) true true false
        else (done d).canOwn n b f t num delay
      | none => d
    else (done d).canOther n f t num

/-! ### Requests and cancels (R408, R410) -/

/-- A buffer's request is refused. -/
def Dev.canBadRequest (d : Dev) (n : Nat) (b : CanBuf) : Bool :=
  !canLenOk b.fdf b.len || (b.fdf && !d.on (R.CAN_CONFIG_FD n)) || (b.brs && !b.fdf) || (b.rtr && b.fdf)

/-- A request of one buffer. -/
def Dev.canRequest (d : Dev) (n b : Nat) : Dev :=
  let x := (d.port n).buf b
  if x.state = 1 then d
  else if d.canBadRequest n x then d.raise (R.CAN_TX_STATUS_REFUSED n b)
  else d.onBuf n b (fun x => { x with state := 1, onBus := false, cancel := false, reqT := d.timeT })

/-- A cancel of one buffer. -/
def Dev.canCancel (d : Dev) (n b : Nat) : Dev :=
  let x := (d.port n).buf b
  if x.state ≠ 1 then d
  else if x.onBus then (d.raise (R.CAN_TX_STATUS_CANCEL_REFUSED n b)).onBuf n b (fun x => { x with cancel := true })
  else d.onBuf n b (fun x => { x with state := 3 })

/-- The bits of a word written to `CAN.TX_REQ` or `CAN.TX_CANCEL`. -/
def Dev.canBits (d : Dev) (v : Word) (f : Nat → Dev → Dev) : Dev :=
  [0, 1, 2].foldl (fun d b => if testBit v.toNat b then f b d else d) d

/-- A write to the selected buffer; ignored with REFUSED while it is PENDING, and with none selected. -/
def Dev.canEdit (d : Dev) (n : Nat) (f : CanBuf → CanBuf) (after : Dev → Dev) : Dev :=
  let b := d.rd (R.CAN_TXB_SEL_BUF n)
  if b = 3 then d
  else if ((d.port n).buf b).state = 1 then d.raise (R.CAN_TX_STATUS_REFUSED n b)
  else after (d.onBuf n b f)

/-- The port and the register of an offset of the CAN block. -/
def canAt (off : Nat) : Option (Nat × Nat) :=
  if 0x500000 ≤ off ∧ off < 0x504000 then some ((off - 0x500000) / 0x1000, (off - 0x500000) % 0x1000) else none

/-- A write to a transmit register whose lock is open. -/
def Dev.canWrite (d : Dev) (n r : Nat) (v : Word) : Dev :=
  match r with
  | 0x28 => d.canBits v (fun b d => d.canRequest n b)
  | 0x2C => d.canBits v (fun b d => d.canCancel n b)
  | 0x34 => (d.wr (R.CAN_TXB_SEL_BUF n) v.toNat).wr (R.CAN_TXB_SEL_WORD n) (v.toNat / 256)
  | 0x38 => d.canEdit n (fun x => { x with hdr := v &&& 0x177F }) id
  | 0x3C => d.canEdit n (fun x => { x with id := v &&& 0x1FFFFFFF }) id
  | 0x40 =>
    let w := d.rd (R.CAN_TXB_SEL_WORD n)
    d.canEdit n (fun x => { x with data := sput (fun _ => 0) x.data w v })
      (fun d => d.wr (R.CAN_TXB_SEL_WORD n) (w + 1))
  | _ => d

/-- The transmit registers of R415. -/
def isCanTx (off : Nat) : Bool :=
  match canAt off with
  | some (_, r) => [0x28, 0x2C, 0x34, 0x38, 0x3C, 0x40].contains r
  | none => false

/-- The lock of an RWL register of the block: the transmit registers are open to the management plane in STOPPED
and to privileged tasks in ACTIVE, SOLO and STANDBY (R415); LOOP in STOPPED (R416). -/
def Dev.canUnlocked (d : Dev) (tack : Bool) (off : Nat) : Bool :=
  if isCanTx off then (if tack then d.role.runs else d.role = .stopped) else d.role = .stopped

/-! ### Reading a queue (R414, R415) -/

/-- An entry that a reader sees: a task those below the cut (R406). -/
def Dev.canVisible (d : Dev) (tack : Bool) (n : Nat) (e : CanEntry) : Bool :=
  !tack || later (w32 (d.rd (R.CAN_CUT n))) e.num

/-- The locked entry, or the one that a read would lock: its place in the queue. -/
def Dev.canOldest (d : Dev) (tack : Bool) (n q : Nat) : Option CanEntry :=
  match (d.port n).queue q with
  | [] => none
  | e :: _ => if d.on (fldLocked n q) || d.canVisible tack n e then some e else none

/-- A shadow read finds no entry although frames below the cut have not been seen (R407). -/
def Dev.canMissing (d : Dev) (tack : Bool) (n : Nat) : Dev :=
  if tack && d.role = .standby && later (w32 (d.rd (R.CAN_CUT n))) (w32 (d.rd (R.CAN_RXNUM n) + 1)) then
    { (d.incSat (R.CAN_SHADOW_MISSING n)) with twin := { d.twin with divergeDue := some 3 } }
  else d

/-- A read of `CAN.RXQn_WORD`. -/
def Dev.canReadWord (d : Dev) (tack : Bool) (n q : Nat) : Word × Dev :=
  let owner := if q = 0 then R.CAN_CONFIG_Q0_OWNER n else R.CAN_CONFIG_Q1_OWNER n
  if d.on owner = tack then (0, d)
  else match d.canOldest tack n q with
  | none => (0, d.canMissing tack n)
  | some e =>
    let pos := if d.on (fldLocked n q) then d.rd (fldPos n q) else 0
    let w := (e.words[pos]?).getD 0
    if pos + 1 < e.words.length then (w, (d.raise (fldLocked n q)).wr (fldPos n q) (pos + 1))
    else (w, ((d.putQueue n q (((d.port n).queue q).drop 1)).drop (fldLocked n q)).drop (fldPos n q))

/-- DISCARD, FLUSH and CLEAR_OVERFLOW of `CAN.RXQn_CTRL`. -/
def Dev.canDiscard (d : Dev) (n q : Nat) : Dev :=
  if d.on (fldLocked n q) then
    ((d.putQueue n q (((d.port n).queue q).drop 1)).drop (fldLocked n q)).drop (fldPos n q)
  else d
def Dev.canFlush (d : Dev) (n q : Nat) : Dev := ((d.putQueue n q []).drop (fldLocked n q)).drop (fldPos n q)
def Dev.canClearOverflow (d : Dev) (n q : Nat) : Dev := d.drop (fldOverflow n q)

/-- `CAN.CTRL.CLEAR_COUNTS`. -/
def Dev.canClearCounts (d : Dev) (n : Nat) : Dev :=
  (d.onPort n (fun p => { p with hits := [] })).clear
    [R.CAN_ERR_COUNT_TX_ERR n, R.CAN_ERR_COUNT_RX_ERR n, R.CAN_BUSOFF_COUNT n, R.CAN_TX_COUNT_SENT n,
     R.CAN_TX_COUNT_ARB_LOST n, R.CAN_RX_COUNT_ACCEPTED n, R.CAN_RX_COUNT_NO_MATCH n, R.CAN_RX_DROP_OVF0 n,
     R.CAN_RX_DROP_OVF1 n, R.CAN_SHADOW_MISSING n, R.CAN_SHADOW_RESENT n]

/-! ### What the registers show -/

/-- The state of a buffer that a reader sees: to a task a completion is visible below the cut (R406). -/
def Dev.canSeen (d : Dev) (tack : Bool) (n b : Nat) : Nat :=
  let x := (d.port n).buf b
  if x.state = 2 && tack && !later (w32 (d.rd (R.CAN_CUT n))) x.num then 1 else x.state

/-- The value of a register of the block that the port itself determines. -/
def Dev.canWord (d : Dev) (tack : Bool) (n r : Nat) (stored : Word) : Word :=
  let p := d.port n
  let sel := d.rd (R.CAN_TXB_SEL_BUF n)
  let b := if sel = 3 then ({} : CanBuf) else p.buf sel
  let f := ((d.canImg n).filters[d.rd (R.CAN_FLT_SEL_PAIR n)]?).getD (0, 0, 0)
  let per (g : Nat → Nat) : Nat := g 0 + g 1 + g 2
  match r with
  | 0x0 =>
    let w := setField stored ⟨0, 3, 2⟩ (d.canMode n)
    if d.canSends n || d.role = .standby then w else setField w ⟨0, 0, 2⟩ 3
  | 0x18 => w32 (min 255 p.tec + min 127 p.rec_ * 2 ^ 8 + bit (128 ≤ p.rec_) * 2 ^ 15)
  | 0x28 => w32 (per fun b => bit (d.canSeen tack n b = 1) * 2 ^ b)
  | 0x2C => w32 (per fun b => bit (p.buf b).cancel * 2 ^ b)
  | 0x30 =>
    w32 (stored.toNat / 2 ^ 12 * 2 ^ 12 +
      per fun b => (d.canSeen tack n b + bit (p.buf b).onBus * 4) * 2 ^ (4 * b))
  | 0x38 => b.hdr
  | 0x3C => b.id
  | 0x40 => sget (fun _ => 0) b.data (d.rd (R.CAN_TXB_SEL_WORD n))
  | 0x54 => f.1
  | 0x58 => f.2.1
  | 0x5C => w32 (f.2.2 + sget (fun _ => 0) p.hits (d.rd (R.CAN_FLT_SEL_PAIR n)) * 2 ^ 16)
  | 0x60 => setField stored ⟨0, 0, 7⟩ p.q0.length
  | 0x6C => setField stored ⟨0, 0, 7⟩ p.q1.length
  | 0x9C => setField stored ⟨0, 2, 1⟩ (bit (Config.canXcvrOk n d.free))
  | _ => stored

/-! ### Changes of role -/

/-- The ports at a change of role: a frame being sent is broken off; LOOP is cleared at entry into ACTIVE and
STANDBY; at a takeover each buffer still PENDING is sent and counted (R411, R416). -/
def Dev.canRole (d : Dev) (prev new : Role) : Dev :=
  d.each 4 fun n d =>
    let d := if prev = new then d else d.canEndAttempt n
    let d := if new = .active ∨ new = .standby then d.drop (R.CAN_CTRL_LOOP n) else d
    if prev = .standby ∧ new.commanding then
      d.addSat (R.CAN_SHADOW_RESENT n) ([0, 1, 2].filter (fun b => ((d.port n).buf b).state = 1)).length
    else d

/-- The cuts of a round (R406). -/
def Dev.canCut (d : Dev) (nums : List Word) : Dev :=
  d.each 4 (fun n d => match nums[n]? with | some v => d.wr (R.CAN_CUT n) v.toNat | none => d)

end Sys2Proof.Machine
end

