-- ==== Sys2Proof/Machine/IoOps.lean ====
section
/-! DEFINITION. Local field I/O: digital pins, current loops, HART, fast analogue inputs and calibration, as
operations on the module (R380 to R401). -/

namespace Sys2Proof.Machine

/-- Changes the local I/O record. -/
def Dev.onIo (d : Dev) (f : IoSt → IoSt) : Dev := { d with io := f d.io }

/-- An AO channel beside its registers. -/
def IoSt.chan (io : IoSt) (n : Nat) : AoSt := sget (fun _ => {}) io.ao n
def Dev.onAo (d : Dev) (n : Nat) (f : AoSt → AoSt) : Dev :=
  d.onIo (fun io => { io with ao := sput (fun _ => {}) io.ao n (f (io.chan n)) })

/-- The source of an event of a local channel (R423). -/
def sourceAo (n : Nat) : BitVec 16 := source 8 (0x100 + n)
def sourceFa (n : Nat) : BitVec 16 := source 8 (0x200 + n)

/-- FLD_24V is good (R51). -/
def Dev.fldGood (d : Dev) : Bool := d.on R.POWER_FLD_GOOD

/-- FLD_24V is good, and a cycle boundary has passed since (R51). -/
def Dev.fldDrives (d : Dev) : Bool := d.fldGood && !d.io.fldWait

/-- The pins are in the column of ACTIVE and SOLO (R46). -/
def Dev.pinsCommand (d : Dev) : Bool := d.power.pinRole.commanding

/-- FA and FT inputs and the comparators are evaluated: in Starting once the bridle runs (R46). -/
def Dev.faEvaluated (d : Dev) : Bool := d.alive && (d.power.pinRole != Role.starting || d.bridle.running)

/-! ### Digital pins (R382 to R385) -/

/-- The pins that the module drives: released on, in an enabled group, once a commanding role has taken effect, with
FLD_24V good and the switch not latched open (R46, R51, R60, R384). -/
def Dev.dioDriven (d : Dev) : Nat :=
  if d.pinsCommand && d.fldDrives then
    (List.range 32).foldl (fun a n =>
      if testBit (d.rd R.DIO_OUT) n && testBit (d.rd R.DIO_DIR) n && testBit (d.rd R.DIO_STATUS_GROUPS) (n / 8)
          && !testBit d.io.latched n then putBit a n true else a) 0
  else 0

/-- FAULT is 1 while any output channel is faulted and FLD_24V is good; each rise is noted (R384). A switch
that is off is not in current limit. -/
def Dev.showDio (d : Dev) : Dev :=
  let d := d.onIo (fun io => { io with limit := io.limit &&& d.dioDriven })
  let now : Bool := d.fldGood && ((d.io.limit ||| d.io.latched) &&& d.rd R.DIO_DIR) != 0
  let rise : Bool := now && !d.on R.DIO_STATUS_FAULT
  let d := (d.flag R.DIO_STATUS_FAULT now).flag R.DIO_STATUS_FLD_OK d.fldGood
  if rise then
    (((d.raise R.DIO_STATUS_FAULT_SEEN).incSat R.DIO_FAULTS_COUNT).wr R.DIO_FAULT_T (d.timeT.toNat / 1000)).event
      .dioFault (source 8 0)
  else d

/-- A release of output levels: the pins commanded off whose switch has cooled lose their thermal latch, and
the value applies (R166, R381, R384). -/
def Dev.dioRelease (d : Dev) (levels : Word) : Dev :=
  let v := levels.toNat &&& d.rd R.DIO_DIR
  let d := (d.wr R.DIO_OUT v).wr R.DIO_RELEASE (d.cycle.num.toNat % 2 ^ 32)
  (d.onIo (fun io => { io with latched := io.latched &&& (v ||| io.hot) })).showDio

/-- `DIO.CTRL.CLEAR_COUNTS`. -/
def Dev.dioClearCounts (d : Dev) : Dev :=
  d.clear [R.DIO_FAULTS_COUNT, R.DIO_FLD_MIN_MV, R.DIO_CURRENT_MAX_MA, R.DIO_LIMIT_LIMIT]

/-- The filter time of a pin in ns (R382). -/
def Dev.dioFilter (d : Dev) (n : Nat) : Nat :=
  match d.rd (if n < 16 then R.DIO_FILTER0 else R.DIO_FILTER1) / 4 ^ (n % 16) % 4 with
  | 0 => 20000
  | 1 => 500000
  | 2 => 3000000
  | _ => 10000000

/-- A sample of the raw levels; a pin's filter time begins again when its level changes (R382). -/
def Dev.dioRaw (d : Dev) (levels : Word) : Dev :=
  let moved := (List.range 32).filter (fun n => levels.getLsbD n != testBit (d.rd R.DIO_RAW) n)
  (d.onIo (fun io => { io with rawAt := moved.foldl (fun m n => oput m n d.now) io.rawAt })).wr R.DIO_RAW levels.toNat

/-- The raw level of a pin has been steady for its filter time. -/
def Dev.dioSteady (d : Dev) (n : Nat) : Bool :=
  match oget d.io.rawAt n with
  | some c => decide (d.dioFilter n ≤ d.since c)
  | none => true

/-- The filtered level of a pin changes (R382). -/
def Dev.dioLevel (d : Dev) (n : Nat) : Dev :=
  let raw := testBit (d.rd R.DIO_RAW) n
  if testBit (d.rd R.DIO_READBACK) n = raw || !d.dioSteady n then d
  else
    let d := d.wr R.DIO_READBACK (putBit (d.rd R.DIO_READBACK) n raw)
    let f := if raw then R.DIO_RISE else R.DIO_FALL
    d.wr f (putBit (d.rd f) n true)

/-! ### Current loops (R386 to R388) -/

/-- The failure level of a channel in µA. -/
def Dev.aoFail (d : Dev) (n : Nat) : Nat := if d.on (R.CLO_CONFIG_FAIL_HIGH n) then 21500 else 3500

/-- What a channel drives: `CLO.STATUS.LEVEL` and the current in µA (R46, R51, R386 to R389). Before the
first release in a role nothing is driven but a parked current (R398). -/
def Dev.aoOut (d : Dev) (n : Nat) : Nat × Nat :=
  let w := d.rd (R.CLO_SET_CMD_UA n)
  if d.rd (R.CLO_STATUS_MODE n) = 0 then (if d.pinsCommand then (0, 0) else (3, 0))
  else if !d.pinsCommand || !d.fldDrives then (3, 0)
  else if d.rd (R.CLO_STATUS_HART n) = 2 then (2, 4000)
  else if d.on (R.CLO_STATUS_FAULT n) then (1, d.aoFail n)
  else if !(d.io.chan n).released then (3, 0)
  else if w = 0xFFFF then (1, d.aoFail n)
  else (0, min w 22000)

/-- A channel takes the value it drives now; a change suspends the comparison (R387). -/
def Dev.aoShow (d : Dev) (n : Nat) : Dev :=
  let o := d.aoOut n
  let d := if o.2 = d.rd (R.CLO_SET_OUT_UA n) then d
    else (d.wr (R.CLO_SET_OUT_UA n) o.2).onAo n (fun x => { x with changedAt := some d.now })
  d.wr (R.CLO_STATUS_LEVEL n) o.1

/-- Every channel takes the value it drives. -/
def Dev.aoShowAll (d : Dev) : Dev := d.each 16 (fun n d => d.aoShow n)

/-- A release of a channel's word; comparison starts with the first one in a role (R398). -/
def Dev.aoRelease (d : Dev) (n : Nat) (w : Nat) : Dev :=
  let first := !(d.io.chan n).released
  let d := (d.wr (R.CLO_SET_CMD_UA n) w).onAo n (fun x => { x with
    released := true, changedAt := if first then some d.now else x.changedAt })
  d.aoShow n

/-- A calibration record in use: the path's record, or GAIN 2^30 and OFFSET 0 when it failed its CRC (R394). -/
def Dev.calOf (d : Dev) (path : Nat) : CalRec :=
  let r := (oget d.io.calUsed path).getD {}
  if r.good then r else {}

/-- rnd(raw × GAIN, 30) + OFFSET (R394). -/
def CalRec.apply (c : CalRec) (raw : Int) : Int := rnd (raw * c.gain) 30 + c.offset

/-- The mean floor((sum + N/2) / N) (R393). -/
def meanOf (xs : List Int) : Int := (xs.foldl (· + ·) 0 + (xs.length / 2 : Nat)) / (xs.length : Int)

/-- The readback is compared with the value driven: in a commanding role with FLD_24V good, for a channel in
use, 2 ms after each change (R387). -/
def Dev.aoCompares (d : Dev) (n : Nat) : Bool :=
  d.pinsCommand && d.fldDrives && d.rd (R.CLO_STATUS_MODE n) != 0 && (d.io.chan n).released &&
    (match (d.io.chan n).changedAt with
     | some c => decide (2000000 ≤ d.since c)
     | none => false)

/-- The value driven has stood for the 2 ms of the suspension and the 20 ms of a mismatch (R387, R398). -/
def Dev.aoLasted (d : Dev) (n : Nat) : Bool :=
  match (d.io.chan n).changedAt with
  | some c => decide (22000000 ≤ d.since c)
  | none => false

/-- The difference between the readback and the value driven. -/
def Dev.aoDiff (d : Dev) (n : Nat) : Nat :=
  ((d.io.chan n).readback - (d.rd (R.CLO_SET_OUT_UA n) : Int)).natAbs

/-- A measurement of the loop current (R387). -/
def Dev.aoSample (d : Dev) (n : Nat) (raw : Int) : Dev :=
  let v := (d.calOf (48 + n)).apply raw
  let d := d.onAo n (fun x =>
    let xs := (v :: x.raw).take 10
    { x with raw := xs, readback := meanOf xs })
  let d := d.wrInt (R.CLO_READ_READ_UA n) (d.io.chan n).readback
  d.when (d.aoCompares n) (fun d => d.maxTo (R.CLO_READ_DEV_MAX_UA n) (d.aoDiff n))

/-- A channel fault (R388). -/
def Dev.aoFault (d : Dev) (n cause : Nat) : Dev :=
  if d.on (R.CLO_STATUS_FAULT n) then d
  else
    let d := (d.raise (R.CLO_STATUS_FAULT n)).wr (R.CLO_STATUS_CAUSE n) cause
    (d.aoShow n).event .aoFault (sourceAo n) [w32 n, w32 cause]

/-- `CLO.CTRL.FAULT_RESET`: the channel returns to the program's value. -/
def Dev.aoFaultReset (d : Dev) (n : Nat) : Dev :=
  ((d.drop (R.CLO_STATUS_FAULT n)).drop (R.CLO_STATUS_CAUSE n)).aoShow n

/-- `CLO.CTRL.CLEAR_STATS`. -/
def Dev.cloClearStats (d : Dev) (n : Nat) : Dev := d.clear [R.CLO_READ_DEV_MAX_UA n, R.CLO_HART_ERRORS n]

/-! ### HART (R389 to R391) -/

/-- The devices polled on a channel: polling address 0, or those that IOMAP lists (R389). -/
def Dev.hartDevices (d : Dev) (n : Nat) : List Nat :=
  match d.rd (R.CLO_STATUS_HART n) with
  | 1 => [0]
  | 2 => (match d.hrn.image with
    | some im => (match im.ao.find? (fun a => a.num = n) with | some a => a.devices | none => [])
    | none => [])
  | _ => []

/-- The 32-byte block of a device (R390). -/
def hartBlock (vars units : List Byte) (status comm : Nat) (missed : Nat) (current : List Byte) : List Byte :=
  (vars ++ List.replicate 16 0).take 16 ++ (units ++ List.replicate 4 0).take 4 ++ [BitVec.ofNat 8 status,
    BitVec.ofNat 8 comm] ++ leBytes 2 (min missed 65535) ++ (current ++ List.replicate 4 0).take 4 ++
    List.replicate 4 0

/-- A device of a channel, and its change. -/
def AoSt.dev (x : AoSt) (a : Nat) : HartDev := sget (fun _ => {}) x.devs a
def AoSt.onDev (x : AoSt) (a : Nat) (f : HartDev → HartDev) : AoSt :=
  { x with devs := sput (fun _ => {}) x.devs a (f (x.dev a)) }

/-- A device's block after a poll: its answer, or none (R390). A busy device, a communication error and a burst
leave the values as they are. -/
def HartDev.polled (h : HartDev) (answer : Option HartAnswer) : HartDev :=
  let b := if h.block.isEmpty then List.replicate 32 0 else h.block
  match answer with
  | some a =>
    if a.comm = 0 then
      { h with block := hartBlock a.vars a.units a.status.toNat 0 0 a.current, missed := 0 }
    else
      { h with block := hartBlock (b.take 16) ((b.drop 16).take 4) ((b[20]?).getD 0).toNat a.comm.val 0 ((b.drop 24).take 4)
               missed := 0 }
  | none =>
    let m := min (h.missed + 1) 65535
    let comm := if 3 ≤ m then 1 else ((b[21]?).getD 0).toNat
    { h with block := hartBlock (b.take 16) ((b.drop 16).take 4) ((b[20]?).getD 0).toNat comm m ((b.drop 24).take 4)
             missed := m }

/-- A request at the head of the queue is sent when the channel is free (R391). -/
def AoSt.sendQueued (x : AoSt) : AoSt :=
  match x.busy, x.queue with
  | none, q :: _ => { x with busy := some (q.address, true) }
  | _, _ => x

/-- Command 3 is sent to the next listed device; at the first one a new poll period begins (R390). -/
def Dev.hartPoll (d : Dev) (n : Nat) : Dev :=
  let devs := d.hartDevices n
  let x := d.io.chan n
  if d.alive && d.role.commanding && d.pinsCommand && x.busy.isNone then
    match devs[x.next]? with
    | none => d
    | some a =>
      let d := if x.next = 0 then (d.wr (R.CLO_HART_FOUND n) x.found.length).onAo n (fun x => { x with found := [] }) else d
      d.onAo n (fun x => { x with
        busy := some (a, false), next := if x.next + 1 < devs.length then x.next + 1 else 0 })
  else d

/-- A transaction ends with an answer or without (R390, R391). DEDUCED (log 101). -/
def Dev.hartEnd (d : Dev) (n : Nat) (answer : Option HartAnswer) : Dev :=
  let x := d.io.chan n
  match x.busy with
  | none => d
  | some (a, req) =>
    let comm : Nat := match answer with | some r => r.comm.val | none => 1
    let d := d.wr (R.CLO_HART_LAST_COMM n) comm
    let d := if comm = 0 then d else d.incSat (R.CLO_HART_ERRORS n)
    if req then
      let d := d.onAo n (fun x => { x with busy := none, queue := x.queue.drop 1 })
      let d := match x.queue with
        | q :: _ => d.finishRequest rqHartRequest q.client q.id .ok (match answer with | some r => r.bytes | none => [])
        | [] => d
      d.onAo n AoSt.sendQueued
    else
      let d := d.onAo n (fun x => { (x.onDev a (fun h => h.polled answer)) with
        busy := none, found := if answer.isSome && !x.found.contains a then x.found ++ [a] else x.found })
      let d := d.onAo n AoSt.sendQueued
      if answer.isNone && ((d.io.chan n).dev a).missed = 3 then
        d.event .hartNoResponse (sourceAo n) [w32 n, w32 a]
      else d

/-- At a cycle boundary, before the round, the input image's blocks change (R390). -/
def AoSt.showBlocks (x : AoSt) : AoSt :=
  x.devs.foldl (fun x p => x.onDev p.1 (fun h => { h with shown := h.block })) x
def Dev.hartShow (d : Dev) : Dev := d.each 16 (fun n d => d.onAo n AoSt.showBlocks)

/-! ### Fast analogue inputs (R392, R393) -/

/-- The number of conversions of the mean. -/
def Dev.faN (d : Dev) (n : Nat) : Nat := 4 ^ min 4 (d.rd (R.FAI_CONFIG_AVG n))

/-- A converted sample goes through the publish gate to the streams that carry its channel (R13, R441). -/
def Dev.streamFa (d : Dev) (n : Nat) (v : Int) : Dev :=
  { d with hist := { d.hist with streams := d.hist.streams.map (fun (x : Stream) =>
      if x.fa.contains n then
        { x with waiting := oput x.waiting n (sget (fun _ => []) x.waiting n ++ [(d.timeT, BitVec.ofInt 16 v)]) }
      else x) } }

/-- A conversion completes (R392 to R394). -/
def Dev.faConvert (d : Dev) (n : Nat) (raw : Int) : Dev :=
  let c := satTo 16 ((d.calOf n).apply raw)
  let xs := (c.1 :: sget (fun _ => []) d.io.fa n).take (d.faN n)
  let d := (d.onIo (fun io => { io with fa := sput (fun _ => []) io.fa n xs })).streamFa n c.1
  let d := (d.flag (R.FAI_STATUS_OVR n) c.2).when c.2 (fun d => d.raise (R.FAI_STATUS_OVR_SEEN n))
  let d := (d.wrInt (R.FAI_VALUE_LAST n) c.1).wrInt (R.FAI_VALUE_MEAN n) (meanOf xs)
  let d := d.wrInt (R.FAI_MINMAX_MIN n) (min c.1 (d.rdInt (R.FAI_MINMAX_MIN n)))
  d.wrInt (R.FAI_MINMAX_MAX n) (max c.1 (d.rdInt (R.FAI_MINMAX_MAX n)))

/-- `FAI.STATUS.CLEAR_MINMAX`. -/
def Dev.faiClear (d : Dev) (n : Nat) : Dev := (d.wr (R.FAI_MINMAX_MIN n) 0x7FFF).wr (R.FAI_MINMAX_MAX n) 0x8000

/-! ### Calibration (R394 to R397) -/

/-- The record of a path in flash. -/
def IoSt.calRec (io : IoSt) (path : Nat) : CalRec := (oget io.cal path).getD {}

/-- A bit mask of the records from a path on that satisfy a condition. -/
def calMask (io : IoSt) (p : CalRec → Bool) (lo n : Nat) : Nat :=
  (List.range n).foldl (fun a k => if p (io.calRec (lo + k)) then putBit a k true else a) 0

/-- The calibration status in LIFE, CLO and FAI (R400, R401, R482). -/
def Dev.showCal (d : Dev) : Dev :=
  let io := d.io
  let user : CalRec → Bool := fun r => r.user
  let bad : CalRec → Bool := fun r => !r.good
  let d := (d.wr R.LIFE_CAL_VALID ((List.range 64).filter (fun k => (io.calRec k).good)).length).flag
    R.LIFE_CAL_ALL_FACTORY ((List.range 64).all (fun k => !(io.calRec k).user))
  let d := (d.wr R.LIFE_CAL_USER0 (calMask io user 0 32)).wr R.LIFE_CAL_USER1
    (calMask io user 32 16 + calMask io user 48 16 * 2 ^ 16)
  let d := (d.wr R.LIFE_CAL_INVALID0 (calMask io bad 0 32)).wr R.LIFE_CAL_INVALID1
    (calMask io bad 32 16 + calMask io bad 48 16 * 2 ^ 16)
  let d := d.each 32 (fun n d => (d.flag (R.FAI_STATUS_CAL_USER n) (io.calRec n).user).flag
    (R.FAI_STATUS_CAL_INVALID n) (!(io.calRec n).good))
  d.each 16 (fun n d => (d.flag (R.CLO_STATUS_CAL_USER n) (io.calRec (32 + n)).user).flag
    (R.CLO_STATUS_CAL_INVALID n) (!(io.calRec (32 + n)).good || !(io.calRec (48 + n)).good))

/-- Records apply from here on. -/
def Dev.useCal (d : Dev) : Dev := d.onIo (fun io => { io with calUsed := io.cal })

/-- At start the records are checked and applied; each that fails its CRC is reported (R394). -/
def Dev.loadCal (d : Dev) : Dev :=
  let d := d.useCal.showCal
  (d.io.cal.filter (fun p => !p.2.good)).foldl (fun d p =>
    d.event .calInvalid (if p.1 < 32 then sourceFa p.1 else sourceAo ((p.1 - 32) % 16))) d

/-- The pending records are discarded. -/
def Dev.calDrop (d : Dev) : Dev := d.onIo (fun io => { io with points := [], pendingCal := [] })

/-- A reference point of a path: two points 10 mA or 10 V apart define a pending record (R396). References are
in µA and in µV. -/
def Dev.calPoint (d : Dev) (path : Nat) (reference raw : Int) : Dev :=
  let apart : Nat := if path < 32 then 10000000 else 10000
  match oget d.io.points path with
  | some p =>
    if apart ≤ (p.1 - reference).natAbs then
      let f := Config.calFit path p (reference, raw)
      d.onIo (fun io => { io with
        points := oerase io.points path
        pendingCal := oput io.pendingCal path { gain := f.1, offset := f.2, user := true }
        pendingSince := if io.pendingCal.isEmpty then d.now else io.pendingSince })
    else d.onIo (fun io => { io with points := oput io.points path (reference, raw) })
  | none => d.onIo (fun io => { io with points := oput io.points path (reference, raw) })

/-- Whether a point of a path may be captured: for an AO path in a commanding role, on a fault-free channel
not in MULTIDROP that drives 3,500 to 21,500 µA (R396). -/
def Dev.calReady (d : Dev) (path : Nat) : Bool :=
  decide (path < 32) ||
    (let n := (path - 32) % 16
     let o := d.aoOut n
     d.role.commanding && !d.on (R.CLO_STATUS_FAULT n) && d.rd (R.CLO_STATUS_HART n) != 2 &&
       decide (3500 ≤ o.2) && decide (o.2 ≤ 21500))

/-- K1.7 (R42). -/
def Dev.calSwitch (d : Dev) : Bool := testBit (d.rd R.KEEPER_SW) 6

/-- Writes records, each with its event (R397). They apply from the next cycle boundary. -/
def Dev.calWrite (d : Dev) (rs : List (Nat × CalRec)) : Dev :=
  d.flashWrite fun d =>
  let d := rs.foldl (fun d r =>
    (d.onIo (fun io => { io with cal := oput io.cal r.1 r.2 })).event .calWritten
      (if r.1 < 32 then sourceFa r.1 else sourceAo ((r.1 - 32) % 16)) [0, 0, 0]) d
  d.showCal

/-- T in seconds. -/
def Dev.seconds (d : Dev) : Nat := d.timeT.toNat / 1000000000

/-- The calibration file: "CAL1", `MOD.SERIAL`, the hardware issue letter, the records, CRC-32 (R395). -/
def Dev.calFile (d : Dev) : List Byte :=
  let b := [0x43, 0x41, 0x4C, 0x31] ++ leBytes 4 (d.rd R.SERIAL) ++ [BitVec.ofNat 8 (d.rd R.IDENT_HW_ISSUE)] ++
    Config.calBytes ((List.range 64).map (fun k => (k, d.io.calRec k)))
  b ++ leBytes 4 (crc32 b)

/-! ### Changes of role -/

/-- Local I/O at a change of role: outputs leave program control, a HART transaction under way is abandoned and
pending requests are answered ABORTED, and the pending calibration goes (R46, R396, R398). -/
def Dev.ioRole (d : Dev) (prev new : Role) : Dev :=
  let d := d.flag R.DIO_STATUS_LIVE new.commanding
  let d := if prev.commanding && !new.commanding then
      d.each 16 (fun n d =>
        let qs := (d.io.chan n).queue
        let d := d.onAo n (fun x => { x with busy := none, queue := [], next := 0 })
        qs.foldl (fun d q => d.finishRequest rqHartRequest q.client q.id .aborted []) d)
    else d
  let d := if !prev.commanding && new.commanding then
      d.each 16 (fun n d => d.onAo n (fun x => { x with released := false, changedAt := none, next := 0, found := [] }))
    else d
  let d := if prev = new then d else d.calDrop
  d.showDio.aoShowAll

end Sys2Proof.Machine
end

