-- ==== Sys2Proof/Machine/LifeOps.lean ====
section
/-! DEFINITION. Self-test, repair map, seal and service memory, as operations on the module (R467 to R482). -/

namespace Sys2Proof

open Sys2Proof.Machine

/-! ### Repair entries and findings -/

/-- The tile of an entry. -/
def RepairEntry.tileOf : RepairEntry → Nat
  | .row t _ _ => t
  | .col t _ _ => t
  | .tile t => t

/-- Whether an entry is a row, a column or a failed tile. -/
def RepairEntry.isRow : RepairEntry → Bool | .row _ _ _ => true | .col _ _ _ | .tile _ => false
def RepairEntry.isCol : RepairEntry → Bool | .col _ _ _ => true | .row _ _ _ | .tile _ => false
def RepairEntry.isTile : RepairEntry → Bool | .tile _ => true | .row _ _ _ | .col _ _ _ => false

/-- An entry of one replica's bank. -/
def RepairEntry.inBank (t r : Nat) : RepairEntry → Bool
  | .row a b _ => a = t && b = r
  | .col a b _ => a = t && b = r
  | .tile _ => false

/-- Findings of a test: spare rows and columns, failed tiles and failed links. -/
def TestFindings.count (f : TestFindings) : Nat :=
  f.spares.length + f.tiles.length +
    f.links.foldl (fun a x => a + ((List.range 32).filter (fun b => testBit x.2.toNat b)).length) 0

/-- Whether spares are rows and columns of banks that have that many (R472). DEDUCED (log 124). -/
def TestFindings.wellFormed (f : TestFindings) : Bool :=
  f.spares.all fun e =>
    match e with
    | .row t r i => t < 144 && r < 3 && i < 16
    | .col t r i => t < 144 && r < 3 && i < 8
    | .tile _ => false

end Sys2Proof

namespace Sys2Proof.Machine

/-- Changes the service memory's record. -/
def Dev.onLife (d : Dev) (f : LifeSt → LifeSt) : Dev := { d with life := f d.life }

/-! ### The repair map (R472, R473) -/

/-- The newer valid copy of the soft map; none when neither copy is valid. -/
def LifeSt.map (l : LifeSt) : Option RepairMap :=
  match l.map0, l.map1 with
  | some a, some b => some (if later b.seq a.seq then b else a)
  | some a, none => some a
  | none, b => b

/-- Soft entries, and the entries in force: fused ones first, in map order. -/
def LifeSt.soft (l : LifeSt) : List RepairEntry := match l.map with | some m => m.entries | none => []
def LifeSt.entries (l : LifeSt) : List RepairEntry := l.fused ++ l.soft

/-- Writes a new soft map over the older or invalid copy, with the next sequence number. -/
def LifeSt.writeMap (l : LifeSt) (es : List RepairEntry) : LifeSt :=
  match l.map0, l.map1 with
  | none, some b => { l with map0 := some ⟨b.seq + 1, es⟩ }
  | none, none => { l with map0 := some ⟨1, es⟩ }
  | some a, none => { l with map1 := some ⟨a.seq + 1, es⟩ }
  | some a, some b =>
    if later b.seq a.seq then { l with map0 := some ⟨b.seq + 1, es⟩ } else { l with map1 := some ⟨a.seq + 1, es⟩ }

/-- The failed tiles of a cluster in force, and whether a tile has failed. -/
def LifeSt.failedIn (l : LifeSt) (n : Nat) : List Nat :=
  ((l.entries.filter (fun e => e.isTile && clusterOf e.tileOf = n)).map RepairEntry.tileOf).eraseDups
def LifeSt.failed (l : LifeSt) (t : Nat) : Bool := l.entries.contains (.tile t)

/-- Spare rows and columns that a bank uses. -/
def LifeSt.bankUse (l : LifeSt) (t r : Nat) : Nat × Nat :=
  let es := l.entries.filter (fun e => e.inBank t r)
  ((es.filter RepairEntry.isRow).length, (es.filter RepairEntry.isCol).length)

/-- The bank of a cluster that uses the most spares: tile, replica, rows, columns; the first of equals. -/
def LifeSt.worst (l : LifeSt) (n : Nat) : Option (Nat × Nat × Nat × Nat) :=
  let es := l.entries.filter (fun e => !e.isTile && clusterOf e.tileOf = n)
  es.foldl (fun b e =>
    let r : Nat := match e with | .row _ r _ => r | .col _ r _ => r | .tile _ => 0
    let u := l.bankUse e.tileOf r
    match b with
    | none => some (e.tileOf, r, u.1, u.2)
    | some x => if x.2.2.1 + x.2.2.2 < u.1 + u.2 then some (e.tileOf, r, u.1, u.2) else some x) none

/-- The registers of the repair map (R482). `REP_TILE.EXHAUSTED` is the placement's. DEDUCED (log 122). -/
def Dev.showRepair (d : Dev) : Dev :=
  let l := d.life
  let d := d.flag R.LIFE_STATUS_MAP_OK l.map.isSome
  let d := d.wr R.LIFE_REPAIR_SEQ (match l.map with | some m => m.seq.toNat | none => 0)
  let d := d.wr R.LIFE_REPAIR_DIGEST (Config.repairDigest l.soft).toNat
  let d := d.wrSat R.LIFE_FUSE_BURNED l.fused.length
  d.each 9 fun k d =>
    let f := l.failedIn k
    let t (i : Nat) : Nat := (f[i]?).getD 0xFF
    let count (es : List RepairEntry) (p : RepairEntry → Bool) : Nat :=
      (es.filter (fun e => p e && clusterOf e.tileOf = k)).length
    let d := (d.wr (R.LIFE_REP_TILE_FAILED1 k) (t 0)).wr (R.LIFE_REP_TILE_FAILED2 k) (t 1)
    let d := d.flag (R.LIFE_REP_TILE_FUSED1 k) (l.fused.contains (.tile (t 0)))
    let d := d.flag (R.LIFE_REP_TILE_FUSED2 k) (l.fused.contains (.tile (t 1)))
    let d := (d.wrSat (R.LIFE_REP_ROWS_SOFT_ROWS k) (count l.soft RepairEntry.isRow)).wrSat
      (R.LIFE_REP_ROWS_SOFT_COLS k) (count l.soft RepairEntry.isCol)
    let d := (d.wrSat (R.LIFE_REP_FUSE_FUSED_ROWS k) (count l.fused RepairEntry.isRow)).wrSat
      (R.LIFE_REP_FUSE_FUSED_COLS k) (count l.fused RepairEntry.isCol)
    match l.worst k with
    | some w =>
      (((d.wr (R.LIFE_REP_WORST_TILE k) w.1).wr (R.LIFE_REP_WORST_REPLICA k) (2 ^ w.2.1)).wrSat
        (R.LIFE_REP_WORST_ROWS k) w.2.2.1).wrSat (R.LIFE_REP_WORST_COLS k) w.2.2.2
    | none => d.clear [R.LIFE_REP_WORST_TILE k, R.LIFE_REP_WORST_REPLICA k, R.LIFE_REP_WORST_ROWS k,
        R.LIFE_REP_WORST_COLS k]

/-! ### The seal (R470) -/

/-- The running firmware's version as the seal holds it. -/
def Dev.fwWord (d : Dev) : Word := d.word R.FW_VERSION_MAJOR.off

/-- The bytes that the CRC-32 of a seal covers: firmware version, digest, count and T, little-endian. -/
def Seal.covered (s : Seal) : List Byte :=
  leBytes 4 s.fw.toNat ++ leBytes 4 s.digest.toNat ++ leBytes 4 s.findings ++ leBytes 8 s.t.toNat

/-- The seal's CRC is correct; a seal with its CRC. -/
def Seal.intact (s : Seal) : Bool := s.crc = crc32 s.covered
def Seal.sealed (s : Seal) : Seal := { s with crc := crc32 s.covered }

/-- The seal's registers: PRESENT and T. -/
def Dev.showSeal (d : Dev) : Dev :=
  match d.life.sealMark with
  | some s => (d.flag R.LIFE_SEAL_PRESENT (!s.consumed)).wr64 R.LIFE_SEAL_T_LO R.LIFE_SEAL_T_HI s.t
  | none => d.clear [R.LIFE_SEAL_PRESENT, R.LIFE_SEAL_T_LO, R.LIFE_SEAL_T_HI]

/-- Why a start does not use the seal, as `LIFE.SEAL.REJECT` codes it; 0 when it is used. -/
def Dev.sealReject (d : Dev) : Nat :=
  match d.life.sealMark with
  | none => 1
  | some s =>
    if !s.intact then 2
    else if s.consumed then 5
    else if s.fw ≠ d.fwWord then 3
    else if s.digest ≠ Config.repairDigest d.life.soft || d.life.map.isNone then 4
    else 0

/-- At start, before step 6 of R58: the soft entries that CLEAR_SOFT deletes go, the seal is read, and a
consumed record is written for it whether it is used or not (R470, R473). -/
def Dev.readSeal (d : Dev) : Dev :=
  let d := if d.life.clearNext then d.onLife (fun l => { l.writeMap [] with clearNext := false }) else d
  let d := if d.life.map.isNone then d.eventM .repairMapLost else d
  let c := d.sealReject
  let d := (d.wr R.LIFE_SEAL_REJECT c).flag R.LIFE_STATUS_SEAL_USED (c = 0)
  let d := d.onLife (fun l => { l with
    sealUsed := decide (c = 0)
    sealMark := match l.sealMark with | some s => some { s with consumed := true } | none => none })
  d.showSeal.showRepair

/-! ### Tests (R467 to R471) -/

/-- `LIFE.CTRL.SHUTDOWN_TEST`: the test starts only in STOPPED; a write in another role sets REFUSED (R467).
The clusters are powered for it (R471). -/
def Dev.shutdownTest (d : Dev) : Dev :=
  if d.role ≠ .stopped then d.raise R.LIFE_SELFTEST_REFUSED
  else if !d.alive || d.life.testing then d
  else
    let d := (d.raise R.LIFE_STATUS_TESTING).drop R.LIFE_STATUS_SHUTDOWN_READY
    let d := d.each 9 (fun k d => d.raise (R.FAB_STATUS_POWERED k))
    let d := d.each 144 (fun t d => d.raise (R.TILE_STATUS_POWERED t))
    d.onLife (fun l => { l with testing := true, testStart := d.now })

/-- Failed tiles that carry a role in the running image, by cluster; a module without image carries none. -/
def Dev.roleOfTile (d : Dev) (t : Nat) : Nat :=
  match d.hrn.image with
  | some im => (oget im.roles t).getD 0
  | none => 0

/-- The preferred spare of a cluster (R94). -/
def Dev.spareOf (d : Dev) (n : Nat) : Option Nat :=
  match d.hrn.image with
  | some im => oget im.spares n
  | none => none

/-- A cluster's failed tiles are covered by repair (R472). -/
def Dev.covered (d : Dev) (n : Nat) : Bool :=
  let f := (d.life.failedIn n).filter (fun t => d.roleOfTile t ≠ 0)
  match f with
  | [] => true
  | [_] => (match d.spareOf n with | some s => !d.life.failed s | none => false)
  | _ => false

/-- What a test found enters the soft map: each finding that the map in force does not hold (R473). -/
def Dev.applyFindings (d : Dev) (f : TestFindings) : Dev :=
  let es := (f.spares ++ f.tiles.map (fun t => RepairEntry.tile t.val)).filter (fun e => !d.life.entries.contains e)
  if es.isEmpty && d.life.map.isSome then d
  else d.flashWrite (fun d => d.onLife (fun l => l.writeMap (l.soft ++ es.eraseDups)))

/-- Links that a test finds failing stay out of service until the next start (R468). -/
def Dev.failLinks (d : Dev) (f : TestFindings) : Dev :=
  (f.links.foldl (fun d x => d.failIn x.1.val x.2) d).checkRoutes

/-- A test has ended: its registers, and its findings when it was valid (R468 to R470). -/
def Dev.endTest (d : Dev) (kind : Nat) (f : TestFindings) : Dev :=
  let valid : Bool := f.cause = 0
  let d := if valid then (d.applyFindings f).failLinks f else d
  let all : Bool := (List.range 9).all d.covered
  let result := if !valid then 3 else if f.count = 0 then 0 else if all then 1 else 2
  let d := ((d.wr R.LIFE_SELFTEST_KIND kind).wr R.LIFE_SELFTEST_RESULT result).wr R.LIFE_SELFTEST_CAUSE f.cause.val
  let d := (d.wrSat R.LIFE_SELFTEST_FAILS f.count).wrSat R.LIFE_ST_TIME_LAST_MS f.ms
  let d := d.each 5 (fun k d => d.wr (R.LIFE_ST_TILES k)
    (f.tiles.eraseDups.foldl (fun a t => if t.val / 32 = k then putBit a (t.val % 32) true else a) 0))
  let d := if kind = 1 && valid && all then
      d.flashWrite (fun d => d.onLife (fun l => { l with
        sealMark := some ({ fw := d.fwWord, digest := Config.repairDigest l.soft, findings := f.count,
                            t := d.timeT } : Seal).sealed }))
    else d
  d.showSeal.showRepair

/-- A shutdown test is aborted by a START (R481). -/
def Dev.abortTest (d : Dev) : Dev :=
  if d.life.testing then
    ((d.onLife (fun l => { l with testing := false })).drop R.LIFE_STATUS_TESTING).wr R.LIFE_SELFTEST_RESULT 4
  else d

/-- Every cluster is powered off. -/
def Dev.clustersOff (d : Dev) : Dev :=
  let d := d.each 9 (fun k d => d.clear [R.FAB_STATUS_POWERED k, R.FAB_STATUS_STARTED k,
    R.FAB_STATUS_RAIL_OK k])
  d.each 144 (fun t d => d.drop (R.TILE_STATUS_POWERED t))

/-! ### Fuses (R474) -/

/-- Fuse entries used by a bank or a cluster, of the kind of an entry, and their capacity. -/
def fuseUsed (fs : List RepairEntry) : RepairEntry → Nat
  | .row t r _ => (fs.filter (fun e => e.isRow && e.inBank t r)).length
  | .col t r _ => (fs.filter (fun e => e.isCol && e.inBank t r)).length
  | .tile t => (fs.filter (fun e => e.isTile && clusterOf e.tileOf = clusterOf t)).length
def fuseCapacity : RepairEntry → Nat
  | .row _ _ _ => 4
  | .col _ _ _ => 2
  | .tile _ => 2

/-- Soft entries in map order that fit in the fuses. -/
def fuseFit (fused : List RepairEntry) : List RepairEntry → List RepairEntry
  | [] => []
  | e :: es =>
    if fuseUsed fused e < fuseCapacity e then e :: fuseFit (fused ++ [e]) es else fuseFit fused es

/-- K1.6 as the register shows it. -/
def Dev.fuseSwitch (d : Dev) : Bool := testBit (d.rd R.KEEPER_SW) 5

/-- What the management plane reports of the write that is being carried out. -/
def Dev.writeStatus (d : Dev) (s : Status) : Dev := { d with mgmt := { d.mgmt with writeStatus := s } }

/-- `LIFE.CTRL.FUSE_COMMIT`: acted on with K1.6 on at acceptance, in STOPPED outside a test; the keeper is
checked before the state. -/
def Dev.fuseCommit (d : Dev) : Dev :=
  if !d.alive then d
  else if !d.fuseSwitch then d.writeStatus (.hrn 13)
  else if d.role ≠ .stopped || d.life.testing then d.writeStatus (.hrn 14)
  else
    let fit := fuseFit d.life.fused d.life.soft
    (d.onLife (fun l => { l with burning := fit })).wrSat R.LIFE_FUSE_LEFT_SOFT (d.life.soft.length - fit.length)

/-- One entry is burned and verified: it leaves the soft map (R474). -/
def Dev.fuseBurn (d : Dev) : Dev :=
  match d.life.burning with
  | [] => d
  | e :: es =>
    let d := d.onLife (fun l => { l.writeMap (l.soft.filter (· ≠ e)) with fused := l.fused ++ [e], burning := es })
    let d := match e with
      | .tile t =>
        (match d.spareOf (clusterOf t) with
         | some s => d.when (d.rd (R.FAB_SPARE_CARRIES (clusterOf t)) = t && d.rd (R.FAB_SPARE_SPARE_TILE (clusterOf t)) = s)
             (fun d => d.raise (R.FAB_SPARE_FUSED (clusterOf t)))
         | none => d)
      | .row _ _ _ | .col _ _ _ => d
    d.showRepair.eventM .fuseRepair

/-- `LIFE.CTRL.CLEAR_SOFT`: every soft entry goes with the next start. In one write with FUSE_COMMIT the
commit runs first (R473, R481). -/
def Dev.clearSoft (d : Dev) : Dev :=
  if d.role = .stopped && !d.life.testing && d.alive then d.onLife (fun l => { l with clearNext := true }) else d

/-- `LIFE.CTRL.CLEAR_COUNTS`: the counters of +0x20, +0x24 and +0x30. -/
def Dev.lifeClearCounts (d : Dev) : Dev :=
  d.clear [R.LIFE_FLASH_ERR_PROG_FAIL, R.LIFE_FLASH_ERR_ERASE_FAIL, R.LIFE_ERASE_REERASED, R.LIFE_ERASE_SUSPENDS,
    R.LIFE_TAG_WAIT_WAITED, R.LIFE_TAG_WAIT_LOCK_MAX_MS]

/-! ### Flash (R475 to R477) -/

/-- POOL, POOL_LOW and the wear registers. The mean is over all 8,192 blocks. -/
def Dev.showFlash (d : Dev) : Dev :=
  let l := d.life
  let d := (d.wrSat R.LIFE_FLASH_POOL l.pool).flag R.LIFE_FLASH_POOL_LOW (l.pool < 64)
  let d := d.wrSat R.LIFE_WEAR_MAX_PE (l.erases.foldl (fun a x => max a x.2) 0)
  d.wrSat R.LIFE_WEAR_AVG_PE (l.erases.foldl (fun a x => a + x.2) 0 / 8192)

/-- The harness slot, and the retain slot, that holds a block (R475). -/
def blockHrn (b : Nat) : Option Nat := if 64 ≤ b ∧ b < 1088 then some ((b - 64) / 256) else none
def blockRetain (b : Nat) : Option Nat := if 1088 ≤ b ∧ b < 1104 then some ((b - 1088) / 8) else none

/-- One more erase of a block. -/
def LifeSt.countErase (l : LifeSt) (b : Nat) : LifeSt :=
  { l with erases := sput (fun _ => 0) l.erases b (sget (fun _ => 0) l.erases b + 1) }

/-- The block of the event journal that an entry lies in (R430, R475): 16,384 entries to a block. -/
def journalBlock (n : Word) : Nat := 1104 + n.toNat / 16384 % 128

/-- An erase-intent record for each of some blocks (R476). -/
def Dev.openIntents (d : Dev) (bs : List Nat) : Dev := d.onLife (fun l => { l with intents := l.intents ++ bs })

/-- The completion record of a block's verified erase (R476). -/
def Dev.closeIntent (d : Dev) (b : Nat) : Dev :=
  (d.onLife (fun l => { l.countErase b with intents := l.intents.filter (· ≠ b) })).showFlash

/-- An erase that runs is suspended to serve a read or the power-fail save (R476). -/
def Dev.suspendErase (d : Dev) : Dev := if d.life.intents.isEmpty then d else d.incSat R.LIFE_ERASE_SUSPENDS

/-- At start, before step 4 of R58: blocks with an intent record and no completion record (R477). -/
def Dev.reerase (d : Dev) : Dev :=
  let bs := d.life.intents
  let d := bs.foldl (fun d b =>
    let d := match blockHrn b with
      | some k =>
        let s := (oget d.hrn.slots k).getD {}
        { d with hrn := { d.hrn with slots := oput d.hrn.slots k { s with erase := true } } }
      | none => d
    let d := match blockRetain b with
      | some k =>
        (match oget d.cycle.slots k with
         | some r => { d with cycle := { d.cycle with slots := oput d.cycle.slots k { r with complete := false } } }
         | none => d)
      | none => d
    let d := { d with evrec := { d.evrec with journal := d.evrec.journal.filter (fun e => journalBlock e.number ≠ b) } }
    let d := if 1256 ≤ b ∧ b < 1260 then d.onLife (fun l => { l with map0 := none })
      else if 1260 ≤ b ∧ b < 1264 then d.onLife (fun l => { l with map1 := none }) else d
    d.onLife (fun l => l.countErase b)) d
  ((d.onLife (fun l => { l with intents := [] })).addSat R.LIFE_ERASE_REERASED bs.length).showFlash

/-! ### The tag (R478 to R480) -/

/-- A host page as stored: version, 248 bytes of content, CRC-32 (R479). -/
def tagPage (version : Nat) (content : List Byte) : List Byte :=
  let b := leBytes 4 version ++ content
  b ++ leBytes 4 (crc32 b)

/-- The bytes of a tag page; its version when its CRC-32 is correct. -/
def LifeSt.tagBytes (l : LifeSt) (p : Nat) : List Byte := Memory.readBytes l.tag (p * 256) 256
def LifeSt.tagVersion (l : LifeSt) (p : Nat) : Option Word :=
  let b := l.tagBytes p
  if leNat (b.drop 252) = crc32 (b.take 252) then some (w32 (leNat (b.take 4))) else none

/-- The host writes the page of the pair that has the invalid CRC or the earlier version, with the version
raised by 1 (R479). -/
def LifeSt.writeHostPage (l : LifeSt) (n : Nat) (content : List Byte) : LifeSt :=
  let a := 2 + 2 * n
  let target : Nat × Word :=
    match l.tagVersion a, l.tagVersion (a + 1) with
    | none, none => (a, 1)
    | none, some v => (a, v + 1)
    | some v, none => (a + 1, v + 1)
    | some v, some w => if later w v then (a, w + 1) else (a + 1, v + 1)
  { l with tag := Memory.writeBytes l.tag (target.1 * 256) (tagPage target.2.toNat content) }

/-- `LIFE.TAG.QUEUE`. -/
def Dev.showQueue (d : Dev) : Dev := d.wr R.LIFE_TAG_QUEUE d.life.queue.length

/-- A host write of a logical page. While the field holds the tag it queues; a write to a page already queued
replaces that entry, and with the queue full the firmware holds it (R480). DEDUCED (log 126). -/
def Dev.hostWrite (d : Dev) (n : Nat) (content : List Byte) : Dev :=
  if d.life.lock.isNone then d.onLife (fun l => l.writeHostPage n content)
  else if d.life.queue.any (fun x => x.1 = n) then
    d.onLife (fun l => { l with queue := l.queue.map (fun x => if x.1 = n then (n, content) else x) })
  else if d.life.queue.length < 8 then
    (d.onLife (fun l => { l with queue := l.queue ++ [(n, content)] })).showQueue
  else (d.onLife (fun l => { l with holding := l.holding ++ [(n, content)] })).incSat R.LIFE_TAG_WAIT_WAITED

/-- The lock ends: what queues and what the firmware holds is written in order (R480). -/
def Dev.unlockTag (d : Dev) : Dev :=
  match d.life.lock with
  | none => d
  | some k =>
    let ws := d.life.queue ++ d.life.holding
    let d := d.maxTo R.LIFE_TAG_WAIT_LOCK_MAX_MS (d.since k.since / 1000000)
    let d := d.onLife (fun l => { l with lock := none, queue := [], holding := [] })
    let d := ws.foldl (fun d w => d.onLife (fun l => l.writeHostPage w.1 w.2)) d
    (d.clear [R.LIFE_TAG_LOCKED, R.LIFE_TAG_LOCK_PAGE]).showQueue

end Sys2Proof.Machine
end

