-- ==== Sys2Proof/Machine/RingOps.lean ====
section
/-! DEFINITION. The field rings: the station table, frames sent and received, acceptance, dropout, breaks and
link security, as operations on the module (R342 to R361). -/

namespace Sys2Proof.Machine

/-- Changes the rings' record. -/
def Dev.onRing (d : Dev) (f : RingSt → RingSt) : Dev := { d with ring := f d.ring }

/-- A ring port (0: A, 1: B), and its change. -/
def RingSt.port (r : RingSt) (k : Nat) : RingPort := if k = 0 then r.a else r.b
def Dev.onRingPort (d : Dev) (k : Nat) (f : RingPort → RingPort) : Dev :=
  d.onRing (fun r => if k = 0 then { r with a := f r.a } else { r with b := f r.b })

/-- A station, and its change. -/
def RingSt.station (r : RingSt) (n : Nat) : StationSt := sget (fun _ => {}) r.stations n
def Dev.onStation (d : Dev) (n : Nat) (f : StationSt → StationSt) : Dev :=
  d.onRing (fun r => { r with stations := sput (fun _ => {}) r.stations n (f (r.station n)) })

/-! ### The station table (R357) -/

/-- Entry `i` of a STATIONS section. -/
def stationEntry (bs : List Byte) (i : Nat) : StationImg :=
  let f (off size : Nat) : Nat := leNat ((bs.drop (0x40 + i * 32 + off)).take size)
  { number := f 0 1, kind := f 1 1, group := f 2 1, peerPair := f 3 1, outLen := f 4 2, inLen := f 6 2
    dropN := f 8 1, safeOut := f 9 1, safeIn := f 10 1, pos := f 11 1, holdMs := f 12 2 }

/-- The STATIONS section. -/
def stationTable (bs : List Byte) : StationTable :=
  let f (off size : Nat) : Nat := leNat ((bs.drop off).take size)
  { fedPairs := f 2 1, posA := f 3 1, posB := f 4 1, nodes := f 5 1, share := f 6 2, twinReserve := f 8 2
    groups := (List.range 32).map (fun g => f (0x10 + g) 1 = 1)
    entries := (List.range (min 126 (f 0 2))).map (stationEntry bs) }

/-- The table of the running image, and a station's entry. -/
def Dev.stations (d : Dev) : StationTable :=
  match d.hrn.image with
  | some im => im.stations
  | none => {}
def Dev.stationEntry (d : Dev) (n : Nat) : Option StationImg := d.stations.entries.find? (fun e => e.number = n)

/-- A station's group is SUBSTITUTE (R204). -/
def Dev.substitutes (d : Dev) (e : StationImg) : Bool := (d.stations.groups[e.group]?).getD false

/-- Inputs come from a station, or from a publication of another pair (R354). -/
def StationImg.isInput (e : StationImg) : Bool := e.kind = 1 || e.kind = 2 || (e.kind = 3 && e.peerPair != 0)

/-- Sets or clears a station's bit in a map of a ring. -/
def Dev.mapBit (d : Dev) (f : Nat → Fld) (n : Nat) (b : Bool) : Dev :=
  d.wr (f (n / 32)) (putBit (d.rd (f (n / 32))) (n % 32) b)

/-! ### Frames (R344 to R350) -/

/-- The TYPE of a frame, and the known types (R345). -/
def ringType (f : RingFrame) : Nat := ((f.payload[0]?).getD 0).toNat
def knownType (t : Nat) : Bool := [0x01, 0x02, 0x03, 0x48, 0x50, 0x53, 0x54].contains t

/-- The secure data of a frame: EtherType 0x88B5, the 8-byte ring header and the payload (R344). -/
def ringFrameBytes (f : RingFrame) : List Byte :=
  [0x88, 0xB5, f.source, f.station, 0, 0] ++ leBytes 4 f.seq.toNat ++ f.payload

/-- The frame that secure data spell; none with another EtherType, or too short for the header. -/
def readRingFrame (bs : List Byte) : Option RingFrame :=
  match bs with
  | 0x88 :: 0xB5 :: source :: station :: _ :: _ :: a :: b :: c :: e :: payload =>
    some { source := source, station := station, seq := w32 (leNat [a, b, c, e]), payload := payload }
  | _ => none

/-- A little-endian field of a payload. -/
def payField (f : RingFrame) (off size : Nat) : Nat := leNat ((f.payload.drop off).take size)

/-- The module's SOURCE byte (R344). -/
def Dev.ringSource (d : Dev) : Byte :=
  BitVec.ofNat 8 (bit (d.on R.SADDLE_SIDE) + (d.rd R.SADDLE_PAIR % 8) * 2 + 16)

/-- The period number that the module holds now. -/
def Dev.ringSeq (d : Dev) : Word := w32 (d.timeT.toNat / 62500)

/-- The bytes of a frame in a period, counting 90 bytes of overhead (R358). -/
def frameBytes (f : RingFrame) : Nat := f.payload.length + 90

/-- The bytes that a run of lengths takes of a list, 0 where it is shorter. -/
def padTo (n : Nat) (bs : List Byte) : List Byte := (bs ++ List.replicate n 0).take n

/-- The output data of a station, from the released output images and what loop slots and axes deliver. -/
def Dev.stationOutput (d : Dev) (n len : Nat) : List Byte :=
  let m : Memory := match d.hrn.image with
    | none => []
    | some im => im.parts.foldl (fun m p => p.outputs.foldl (fun m o =>
        match o.dst with
        | .station k off =>
          if k = n then Memory.writeBytes m off (Memory.readBytes (d.tile (d.tileOf p.tile)).output o.off o.len) else m
        | .ao _ | .trip | .permit | .publish _ => m) m) []
  let m := (sget (fun _ => []) d.ring.loopOut n).foldl (fun m x => Memory.write m x.1 x.2) m
  Memory.readBytes m 0 len

/-- SYNC, OUTPUT, PEER and SAFETY payloads (R346, R350, R354). -/
def Dev.syncPayload (d : Dev) : List Byte :=
  [0x01, 0, 0, 0] ++ leBytes 4 d.twin.epoch.toNat ++ leBytes 8 (d.timeT.toNat / 62500 * 62500)
def Dev.outputPayload (d : Dev) (type : Byte) (n len : Nat) : List Byte :=
  [type, 0] ++ leBytes 2 len ++ leBytes 4 d.twin.epoch.toNat ++ d.stationOutput n len

/-- The SCRC over the pair number, the station number and the protected bytes (R350). -/
def ringScrc (pair n : Nat) (bs : List Byte) : Nat := crc32c ([BitVec.ofNat 8 pair, BitVec.ofNat 8 n] ++ bs)

/-- The module holds a station's token, as the station reports. -/
def Dev.holdsToken (d : Dev) (n : Nat) : Bool := d.twin.tokens.contains (n, true)

/-- A SAFETY frame's payload: REQUEST until the station reports this module as holder, then HOLDER (R335). -/
def Dev.safetyPayload (d : Dev) (e : StationImg) : List Byte :=
  let held := d.holdsToken e.number
  let b := [0x53, BitVec.ofNat 8 (bit (!held) + bit held * 2)] ++ leBytes 2 (d.timeT.toNat / 125000 % 65536)
    ++ leBytes 4 d.twin.epoch.toNat
    ++ padTo 8 ((Config.safetyOutputs e.number d.free).take e.safeOut) ++ [0, 0, 0, 0]
  b ++ leBytes 4 (ringScrc (d.rd R.SADDLE_PAIR) e.number b)

/-- The frames of a period of a module in ACTIVE or SOLO (R345). -/
def Dev.ringFrames (d : Dev) : List RingFrame :=
  let mk (n : Nat) (p : List Byte) : RingFrame :=
    { source := d.ringSource, station := BitVec.ofNat 8 n, seq := d.ringSeq, payload := p }
  let es := d.stations.entries
  mk 0 d.syncPayload ::
    ((es.filter (fun e => (e.kind = 1 || e.kind = 2) && e.outLen != 0)).map (fun e =>
        mk e.number (d.outputPayload 0x02 e.number e.outLen)) ++
     (es.filter (fun e => e.kind = 3 && e.peerPair = 0 && e.outLen != 0)).map (fun e =>
        mk 0 (d.outputPayload 0x50 e.number e.outLen)) ++
     (if d.ringSeq.toNat % 2 = 0 then
        (es.filter (fun e => e.kind = 2)).map (fun e => mk e.number (d.safetyPayload e))
      else []))

/-! ### The period (R345, R352, R358) -/

/-- The last period of a ring closes: its load, the stations heard, the lock of its port, and whether own frames
have returned (R352, R358, R361). -/
def Dev.closePeriod (d : Dev) (k : Nat) : Dev :=
  let p := d.ring.port k
  let d := (d.wrSat (R.RING_LOAD_LAST k) p.bytes).maxTo (R.RING_LOAD_MAX k) p.bytes
  let d := if 60000 < p.bytes then (d.raise (R.RING_STATUS_OVERLOAD k)).event .ringOverload (source 5 k) [w32 k, w32 p.bytes] else d
  let d := d.each 4 (fun m d => d.wr (R.RING_RX_MAP k m)
    (p.heard.foldl (fun a n => if n / 32 = m then putBit a (n % 32) true else a) 0))
  let d := d.flag (R.RING_STATUS_LINK_UP k) p.received
  let judged := d.role.runs
  let d := d.flag (R.RING_STATUS_SENDING k) judged
  let d := if judged then d.flag (R.RING_STATUS_INTACT k) (!p.broken) else d
  d.onRingPort k (fun p => { p with
    bytes := 0, heard := [], received := false, returned := false
    silent := if !judged || p.returned then 0 else p.silent + 1
    back := if judged && p.returned then p.back + 1 else 0 })

/-- Periods without an accepted frame, by station; a publication's are counted (R351, R361). -/
def Dev.countMissed (d : Dev) : Dev :=
  d.stations.entries.foldl (fun d e =>
    if e.isInput then
      let x := d.ring.station e.number
      let d := if e.kind = 3 && !x.fresh then (d.incSat (R.RING_PEER_LOST 0)).incSat (R.RING_PEER_LOST 1) else d
      d.onStation e.number (fun x => { x with missed := if x.fresh then 0 else min (x.missed + 1) 65535, fresh := false })
    else d) d

/-- The payloads that fit in a number of bytes, and the rest. -/
def twinFit : Nat → List (List Byte) → List (List Byte) × List (List Byte)
  | _, [] => ([], [])
  | room, p :: ps =>
    if p.length + 90 ≤ room then
      (let r := twinFit (room - (p.length + 90)) ps
       (p :: r.1, r.2))
    else ([], p :: ps)

/-- The TWIN frames of this period, within TWIN_RESERVE; the rest waits. With the girth path live again none is sent
(R353). -/
def Dev.sendTwin (d : Dev) : List RingFrame × Dev :=
  if d.on R.TWIN_STATUS_GIRTH_UP then ([], d.onRing (fun r => { r with twinOut := [] }))
  else
    let x := twinFit d.stations.twinReserve d.ring.twinOut
    let d := d.onRing (fun r => { r with twinOut := x.2 })
    let d := d.each 2 (fun k d => d.wr (R.RING_TWIN_TX k) (d.rd (R.RING_TWIN_TX k) + x.1.length))
    (x.1.map (fun p => ({ source := d.ringSource, station := 0, seq := d.ringSeq, payload := p } : RingFrame)), d)

/-- An own frame that will return leaves on a ring (R352, R361). -/
def Dev.noteSent (d : Dev) (k type number : Nat) : Dev :=
  d.onRingPort k (fun p => { p with sentAt := ((type, number, d.now) :: p.sentAt).take 16 })

/-- The frames of the period leave on both rings. -/
def Dev.sendPeriod (d : Dev) : Dev :=
  let (ts, d) := d.sendTwin
  let fs := d.ringFrames ++ ts
  let bytes := fs.foldl (fun a f => a + frameBytes f) 0
  let safety := (fs.filter (fun f => ringType f = 0x53)).length
  let d := d.onRing (fun r => { r with sent := fs })
  let d := d.each 2 (fun k d =>
    let d := (d.wr (R.RING_TX_FRAMES k) (d.rd (R.RING_TX_FRAMES k) + fs.length)).wr (R.RING_PERIOD k) d.ringSeq.toNat
    let d := d.wr (R.RING_SAFETY_TX k) (d.rd (R.RING_SAFETY_TX k) + safety)
    (d.noteSent k 0x01 d.ringSeq.toNat).onRingPort k (fun p => { p with bytes := p.bytes + bytes }))
  let d := match d.twin.gapFrom with
    | some c => { (d.wrSat R.TWIN_LAST_TAKEOVER_GAP_US (d.since c / 1000)) with twin := { d.twin with gapFrom := none } }
    | none => d
  { d with free := d.free + 1 }

/-- A ring period starts. -/
def Dev.ringPeriod (d : Dev) : Dev :=
  if !d.alive then d
  else
    let d := (d.each 2 (fun k d => d.closePeriod k)).countMissed
    if d.role.commanding && !d.committed then d.sendPeriod else d.onRing (fun r => { r with sent := [] })

/-! ### Reception (R343, R349, R351, R356) -/

/-- A frame with an error is counted on its ring. -/
def Dev.ringError (d : Dev) (k : Nat) (f : Fld) : Dev := (d.incSat f).onRingPort k (fun p => { p with errAt := some d.now })

/-- What the checks of a frame come to: counted when it is not valid; without a key of the association none is valid (R356,
R361). DEDUCED (log 91). DESIGN CHOICE (log 129). -/
def Dev.checkFrame (d : Dev) (k : Nat) (c : FrameCheck) (f : RingFrame) : Bool × Dev :=
  let d := d.onRingPort k (fun p => { p with bytes := p.bytes + frameBytes f, received := true })
  match c with
  | .fcs => (false, d.ringError k (R.RING_ERRORS_FCS_ERR k))
  | .icv => (false, d.ringError k (R.RING_ERRORS_ICV_ERR k))
  | .replay => (false, d.ringError k (R.RING_SEC_ERR_REPLAY k))
  | .unknownSc => (false, d.ringError k (R.RING_SEC_ERR_UNKNOWN_SC k))
  | .good =>
    if knownType (ringType f) && d.on (R.RING_STATUS_SECURED k) then
      (true, (d.incWrap (R.RING_RX_FRAMES k)).onRing (fun r => { r with validAt := some d.now }))
    else (false, d)

/-- An agreement round that may name a frame of a station is running: one is due on a TRIAD tile that maps it. -/
def Dev.roundNames (d : Dev) (n : Nat) : Bool :=
  match d.hrn.image with
  | none => false
  | some im => im.parts.any (fun p =>
      p.inputs.any (fun i => match i.src with | .station m _ => m = n | _ => false)
        && d.tiles.any (fun t => t.2.awaitRound && d.rd (R.TILE_POS_LOGICAL t.1) = p.tile))

/-- A frame enters a frame store of the 4 most recent; while a round runs, none of 4 frames gives way, and the new one waits.
DEDUCED (log 145). -/
def StationSt.store (x : StationSt) (roundRuns : Bool) (f : Word × List Byte) : StationSt :=
  if roundRuns && 4 ≤ x.frames.length then { x with held := f :: x.held }
  else { x with frames := (f :: (x.held ++ x.frames)).take 4, held := [] }

/-- The frames that have waited enter. -/
def StationSt.takeHeld (x : StationSt) : StationSt := { x with frames := (x.held ++ x.frames).take 4, held := [] }

/-- A frame is accepted for a station, and a dropped station returns (R130, R349, R351). -/
def Dev.acceptFrame (d : Dev) (k n : Nat) (seq : Word) (data : List Byte) : Dev :=
  let was := (d.ring.station n).dropped
  let names := d.roundNames n
  let d := d.onStation n (fun x => { x.store names (seq, data) with
    last := some seq, missed := 0, dropped := false, fresh := true })
  let d := ((d.incWrap (R.RING_FIRST k)).mapBit (R.RING_USED_MAP k) n true).mapBit (R.RING_USED_MAP (1 - k)) n false
  if was then
    ((d.mapBit (R.RING_DROP_MAP 0) n false).mapBit (R.RING_DROP_MAP 1) n false).event .stationReturn (source 6 n) [w32 n]
  else d

/-- Whether a frame is accepted by its SEQ; one that is not is counted as a duplicate or as earlier (R349). -/
def Dev.acceptSeq (d : Dev) (k n : Nat) (seq : Word) : Bool × Dev :=
  let x := d.ring.station n
  match x.last with
  | none => (true, d)
  | some l =>
    if x.dropped || later seq l then (true, d)
    else if seq = l then (false, d.incWrap (R.RING_DUP k))
    else (false, d.incSat (R.RING_SEQ_REJECT_EARLIER k))

/-- The rank of the pair's commanding module, as far as this module knows it: epoch and side. -/
def Dev.commandRank (d : Dev) : Word × Bool :=
  if d.role.commanding then (d.twin.epoch, d.on R.SADDLE_SIDE)
  else (w32 (d.rd R.TWIN_PARTNER_EPOCH), d.on R.TWIN_IDENT_PARTNER_SIDE)

/-- A valid INPUT frame on a ring shows there whether its station obeys the commanding module (R361).
DEDUCED (log 92). -/
def Dev.noteObeyed (d : Dev) (k n : Nat) (f : RingFrame) : Dev :=
  let obeyed := payField f 8 1
  d.mapBit (R.RING_OTHER_MAP k) n (testBit obeyed 7 || (w32 (payField f 4 4), testBit obeyed 0) ≠ d.commandRank)

/-- What a station reports of itself in an accepted frame: its receive ports, the rank it obeys, its token and its
safety inputs (R318, R334, R347, R350, R361). -/
def Dev.noteStation (d : Dev) (e : StationImg) (f : RingFrame) : Dev :=
  let n := e.number
  let st := payField f 1 1
  let epoch := w32 (payField f 4 4)
  let obeyed : Byte := BitVec.ofNat 8 (payField f 8 1)
  let none_ := testBit obeyed.toNat 7
  let d := (d.mapBit (R.RING_RXLOST_MAP 0) n (!testBit st 0)).mapBit (R.RING_RXLOST_MAP 1) n (!testBit st 1)
  let d := d.onStation n (fun x => { x with epoch := epoch, obeyed := obeyed })
  let d := if none_ then d
    else
      let d := if !d.ring.epochSeen || later epoch (w32 (d.rd R.TWIN_STATION_EPOCH)) then
          (d.wr R.TWIN_STATION_EPOCH epoch.toNat).onRing (fun r => { r with epochSeen := true })
        else d
      let s := d.power.start
      let high := match s.heardEpoch with | some h => later epoch h | none => true
      if s.listening && high then
        { d with power := { d.power with start := { s with heardEpoch := some epoch } } }
      else d
  if e.kind = 2 then
    let t := payField f 9 1
    let held := testBit t 0 && (testBit t 1 = d.on R.SADDLE_SIDE)
    let d := { d with twin := { d.twin with
      tokens := (d.twin.tokens.filter (fun (x : Nat × Bool) => x.1 ≠ n)) ++ [(n, held)] } }
    let d := d.onStation n (fun x => { x with token := BitVec.ofNat 8 t })
    let block := (f.payload.drop 16).take (e.safeIn + 4)
    let scrc := leNat ((f.payload.drop (16 + e.safeIn + 4)).take 4)
    if ringScrc (d.rd R.SADDLE_PAIR) n block = scrc then
      d.onStation n (fun x => { x with safeIn := block.take e.safeIn })
    else d
  else d

/-- `TWIN.TOKENS`, and `TWIN.TOKEN_TIME` once every safety-capable station reports this module as holder (R335). -/
def Dev.showTokens (d : Dev) : Dev :=
  let safe := d.stations.entries.filter (fun e => e.kind = 2)
  let held := (safe.filter (fun e => d.holdsToken e.number)).length
  let d := d.wrSat R.TWIN_TOKENS_HELD held
  let d := d.wrSat R.TWIN_TOKENS_REQUESTED (if d.role.commanding then safe.length - held else 0)
  if d.role.commanding && !d.twin.tokensDone && held = safe.length && safe.length != 0 then
    let us := d.since d.twin.commandSince / 1000
    let d := { d with twin := { d.twin with tokensDone := true } }
    (d.wrSat R.TWIN_TOKEN_TIME_LAST_US us).maxTo R.TWIN_TOKEN_TIME_MAX_US us
  else d

/-- An INPUT frame arrives (R347, R349). DEDUCED (log 93). -/
def Dev.inputFrame (d : Dev) (k : Nat) (c : FrameCheck) (f : RingFrame) : Dev :=
  if !d.alive then d
  else
    let (ok, d) := d.checkFrame k c f
    match d.stationEntry f.station.toNat with
    | none => d
    | some e =>
      if !ok || ringType f ≠ 0x03 || e.kind = 3 then d
      else
        let n := e.number
        let d := d.onRingPort k (fun p => { p with heard := if p.heard.contains n then p.heard else p.heard ++ [n] })
        let d := d.noteObeyed k n f
        let (take, d) := d.acceptSeq k n f.seq
        let d := if take then
            let t := payField f 9 1
            let d := if e.kind = 2 && testBit t 2 && testBit t 0 && (testBit t 1 = d.on R.SADDLE_SIDE) then
                d.incWrap (R.RING_SAFETY_GRANTS k) else d
            let at_ := if e.kind = 2 then 16 + e.safeIn + 8 else 16
            (d.noteStation e f).acceptFrame k n f.seq (padTo e.inLen (f.payload.drop at_))
          else d
        d.showTokens

/-- A PEER frame of another pair arrives: from the highest rank of that pair, it is the publication's input frame
(R348, R354). -/
def Dev.peerFrame (d : Dev) (k : Nat) (c : FrameCheck) (f : RingFrame) : Dev :=
  if !d.alive then d
  else
    let (ok, d) := d.checkFrame k c f
    let pair := f.source.toNat / 2 % 8
    let len := payField f 2 2
    let rank : Word × Bool := (w32 (payField f 4 4), testBit f.source.toNat 0)
    match d.stations.entries.find? (fun e => e.kind = 3 && e.peerPair != 0 && e.peerPair = pair && e.inLen = len) with
    | none => d
    | some e =>
      if !ok || ringType f ≠ 0x50 then d
      else
        let n := e.number
        let x := d.ring.station n
        let d := d.onRingPort k (fun p => { p with heard := if p.heard.contains n then p.heard else p.heard ++ [n] })
        let data := padTo e.inLen (f.payload.drop 8)
        let ofPair := d.stations.entries.filter (fun e => e.kind = 3 && e.peerPair = pair)
        let take (d : Dev) : Dev :=
          let d := ofPair.foldl (fun d e => d.onStation e.number (fun x => { x with rank := some rank })) d
          (d.acceptFrame k n f.seq data).incWrap (R.RING_PEER_RX k)
        match x.rank with
        | none => take d
        | some r =>
          if later rank.1 r.1 || (rank.1 = r.1 && r.2 && !rank.2) then take d
          else if rank = r then
            (let (ok, d) := d.acceptSeq k n f.seq
             if ok then take d else d)
          else d.incSat (R.RING_SEQ_REJECT_RANK k)

/-- A frame that the module does not take: its own one returning is removed, any other is forwarded unchanged
(R343, R352). -/
def Dev.forwardFrame (d : Dev) (k : Nat) (c : FrameCheck) (f : RingFrame) : Dev :=
  if !d.lit then d
  else
    let t := ringType f
    let own := f.source = d.ringSource && t ≠ 0x02 && t ≠ 0x53
    if own then
      let (ok, d) := d.checkFrame k c f
      if ok && (t = 0x01 || t = 0x48) then
        let d := d.onRingPort k (fun p => { p with returned := true })
        let number := if t = 0x01 then f.seq.toNat else payField f 14 2
        match (d.ring.port k).sentAt.find? (fun x => x.1 = t && x.2.1 = number) with
        | some (_, _, s) => (d.wrSat (R.RING_RTT_LAST k) (d.since s / 10)).maxTo (R.RING_RTT_MAX k) (d.since s / 10)
        | none => d
      else d
    else
      let d := d.onRingPort k (fun p => { p with bytes := p.bytes + frameBytes f, received := true, forwarded := some f })
      if c = .good && knownType t && d.on (R.RING_STATUS_SECURED k) then
        let d := d.onRing (fun r => { r with validAt := some d.now })
        if t = 0x01 && !d.role.commanding && f.source.toNat / 2 % 8 = d.rd R.SADDLE_PAIR % 8 then
          (d.incWrap (R.RING_RX_FRAMES k)).wr (R.RING_PERIOD k) f.seq.toNat
        else d
      else d

/-- A station without an accepted frame for DROPOUT_N periods drops out (R351, R204). -/
def Dev.dropStation (d : Dev) (n : Nat) : Dev :=
  match d.stationEntry n with
  | none => d
  | some e =>
    let x := d.ring.station n
    if d.alive && e.isInput && !x.dropped && e.dropN ≤ x.missed then
      let d := d.onStation n (fun x => { x with dropped := true })
      let d := (d.mapBit (R.RING_DROP_MAP 0) n true).mapBit (R.RING_DROP_MAP 1) n true
      d.event (if d.substitutes e then .stationDropout else .stationDropoutHeld) (source 6 n) [w32 n]
    else d

/-! ### Breaks (R352) -/

/-- A ring is declared broken. -/
def Dev.breakRing (d : Dev) (k : Nat) : Dev :=
  let p := d.ring.port k
  if d.role.runs && 2 ≤ p.silent && !p.broken then
    let d := (d.onRingPort k (fun p => { p with broken := true })).raise (R.RING_STATUS_BROKEN k)
    let d := ((d.drop (R.RING_STATUS_INTACT k)).incSat (R.RING_BREAK_COUNT k)).wr (R.RING_BREAK_T k) (d.timeT.toNat / 1000)
    ((d.wr (R.RING_BREAK_NODE k) 0xFF).drop (R.RING_BREAK_LOCATED k)).event .ringBreak (source 5 k) [w32 k]
  else d

/-- Steps in the ring's direction from the module's own position to another; a whole turn to its own. -/
def ringDistance (k own pos : Nat) : Nat :=
  let up := (pos + 256 - own) % 256
  let down := (own + 256 - pos) % 256
  let x := if k = 0 then up else down
  if x = 0 then 256 else x

/-- The first node in the ring's direction that reports its receive port dead: a station by its STATUS, this
module by its own port. -/
def Dev.breakNode (d : Dev) (k : Nat) : Option Nat :=
  let own := if d.on R.SADDLE_SIDE then d.stations.posB else d.stations.posA
  let dead := (d.stations.entries.filter (fun e => (e.kind = 1 || e.kind = 2) &&
      testBit (d.rd (R.RING_RXLOST_MAP k (e.number / 32))) (e.number % 32))).map (·.pos)
  let dead := if d.on (R.RING_STATUS_LINK_UP k) then dead else dead ++ [own]
  dead.foldl (fun a p =>
    match a with
    | none => some p
    | some q => if ringDistance k own p < ringDistance k own q then some p else some q) none

/-- The break is located (R352). -/
def Dev.locateBreak (d : Dev) (k : Nat) : Dev :=
  if (d.ring.port k).broken then
    match d.breakNode k with
    | some p => (d.wr (R.RING_BREAK_NODE k) p).raise (R.RING_BREAK_LOCATED k)
    | none => (d.wr (R.RING_BREAK_NODE k) 0xFF).drop (R.RING_BREAK_LOCATED k)
  else d

/-- A ring is intact again after 16 periods (R352). -/
def Dev.restoreBreak (d : Dev) (k : Nat) : Dev :=
  let p := d.ring.port k
  if p.broken && 16 ≤ p.back then
    ((d.onRingPort k (fun p => { p with broken := false })).raise (R.RING_STATUS_INTACT k)).event .ringRestored (source 5 k) [w32 k]
  else d

/-! ### Link security and counters (R355, R361) -/

/-- A key of the association is distributed: with a connectivity key set, the association is live. -/
def Dev.distributeKey (d : Dev) (peers : Nat) : Dev :=
  if !d.alive then d
  else d.each 2 fun k d =>
    if d.on R.SEC_STATUS_CAK_OK then
      let first := !d.on (R.RING_STATUS_SECURED k)
      let d := (d.wr (R.RING_SEC_MKA_STATE k) 2).wrSat (R.RING_SEC_PEERS k) peers
      let d := if first then d else (d.incWrap (R.RING_SEC_AN k)).incSat (R.RING_SEC_REKEYS k)
      d.raise (R.RING_STATUS_SECURED k)
    else (d.wr (R.RING_SEC_MKA_STATE k) 0).drop (R.RING_STATUS_SECURED k)

/-- `RING.CTRL.CLEAR_COUNTS` and CLEAR_MAX. -/
def Dev.ringClearCounts (d : Dev) (k : Nat) : Dev :=
  d.clear [R.RING_TX_FRAMES k, R.RING_RX_FRAMES k, R.RING_ERRORS_FCS_ERR k, R.RING_ERRORS_ICV_ERR k, R.RING_DUP k,
    R.RING_FIRST k, R.RING_SEQ_REJECT_EARLIER k, R.RING_SEQ_REJECT_RANK k, R.RING_HB_TX k, R.RING_HB_RX k,
    R.RING_SAFETY_TX k, R.RING_SAFETY_GRANTS k, R.RING_TWIN_TX k, R.RING_TWIN_RX k, R.RING_PEER_RX k,
    R.RING_PEER_LOST k, R.RING_SEC_REKEYS k, R.RING_SEC_ERR_REPLAY k, R.RING_SEC_ERR_UNKNOWN_SC k]
def Dev.ringClearMax (d : Dev) (k : Nat) : Dev := d.clear [R.RING_LOAD_MAX k, R.RING_RTT_MAX k]

end Sys2Proof.Machine
end

