-- ==== Sys2Proof/Machine/RegAccess.lean ====
section
/-! DEFINITION. Access to the device registers: the values that registers show, the latches of each path,
writes with their actions, and writes that wait for a cycle boundary (R3, R427, R483 to R489). -/

namespace Sys2Proof.Machine

/-! ### Reading -/

/-- Microseconds since a counter value, limited to a field; 0, the reset value, when there is none. -/
def Dev.ageUs (d : Dev) (c : Option DWord) : Nat :=
  match c with
  | some c => min 65535 (d.since c / 1000)
  | none => 0

/-- The value a register shows now. Those below are computed from the module's state; every other
register shows its stored word. -/
def Dev.liveWord (d : Dev) (tack : Bool) (off : Nat) : Word :=
  if 0x500000 ≤ off ∧ off < 0x504000 then
    d.canWord tack ((off - 0x500000) / 0x1000) ((off - 0x500000) % 0x1000) (d.word off)
  else if off = 0x310000 then setField (d.word off) R.TWIN_STATUS_ROLE d.role.code
  else if off = 0x310014 then w32 (d.ageUs d.twin.girthAt + d.ageUs d.twin.ringAt * 2 ^ 16)
  else if off = 0x310008 then d.twin.epoch
  else if off = 0x320010 then w32 d.timeT.toNat
  else if off = 0x320014 then w32 (d.timeT.toNat / 2 ^ 32)
  else if off = 0x320018 then w32 d.now.toNat
  else if off = 0x32001C then w32 (d.now.toNat / 2 ^ 32)
  else if off = 0x320020 then w32 d.time.offset.toNat
  else if off = 0x320024 then w32 (d.time.offset.toNat / 2 ^ 32)
  else if off = 0x320028 then w32 d.time.c0.toNat
  else if off = 0x32002C then w32 (d.time.c0.toNat / 2 ^ 32)
  else if off = 0x320030 then BitVec.ofInt 32 d.time.rate
  else if off = 0x320070 then
    setField (d.word off) R.TIME_FOLLOW_GIRTH_HOLD (bit (d.role = .standby && !d.on R.TWIN_STATUS_GIRTH_UP))
  else if off = 0x320074 then
    (match d.time.heldSince with
     | some c => w32 (d.since c / nsPerSecond)
     | none => 0)
  else if off = 0x32007C then
    setField (d.word off) R.TIME_OSC_VALID (bit
      ((d.rd R.TIME_STATUS_STATE = tsTracking || d.rd R.TIME_STATUS_STATE = tsFollowing) &&
        (match d.time.lastValid with
         | some c => decide (d.since c ≤ 10 * nsPerSecond)
         | none => false)))
  else if off = 0x14 then w32 (d.now.toNat / 1000000)
  else if off = 0x18 then w32 (d.now.toNat / 1000000 / 2 ^ 32)
  else if off = 0xC4 then w32 d.cycle.num.toNat
  else if off = 0xC8 then w32 (d.cycle.num.toNat / 2 ^ 32)
  else if off = 0x410000 then
    let w := setField (d.word off) R.HIST_STATUS_RUNNING (bit d.histRunning)
    let w := setField w R.HIST_STATUS_KEY_OK (bit d.trust.owner.isSome)
    setField w R.HIST_STATUS_MIRRORED (bit (d.setOk 0 && d.setOk 1 && d.hist.set0 = d.hist.set1))
  else if off = 0x800090 then (if d.word off = 0 then 1 else d.word off)
  else if off = 0x410038 then setField (d.word off) R.HIST_EXPORT_LAST (min d.exportRate 65535)
  else d.word off

/-- The registers that a read of one register latches (R488). -/
def latchSet (off : Nat) : List Nat :=
  if off = 0x320010 then [0x320014]
  else if off = 0x320018 then [0x32001C]
  else if off = 0x320020 then [0x320024, 0x320028, 0x32002C, 0x320030]
  else if off = 0x320040 then [0x320044]
  else if off = 0x320050 then [0x320054]
  else if off = 0xC4 then [0xC8]
  else if off = 0x14 then [0x18]
  else if off = 0x310038 then [0x31003C]
  else if off = 0x410028 then [0x41002C]
  else if off = 0x900014 then [0x900018]
  else if off = 0x800048 then [0x80004C]
  else if 0x500000 ≤ off ∧ off < 0x504000 ∧ (off - 0x500000) % 0x1000 = 0x80 then [off + 4]
  else []

/-- The registers that show a latch (R488). -/
def isLatched (off : Nat) : Bool :=
  [0x320014, 0x32001C, 0x320024, 0x320028, 0x32002C, 0x320030, 0x320044, 0x320054, 0xC8, 0x18, 0x31003C,
   0x41002C, 0x900018, 0x80004C].contains off ||
  (decide (0x500000 ≤ off) && decide (off < 0x504000) && decide ((off - 0x500000) % 0x1000 = 0x84))

/-- Whether a path is that of tack code. -/
def isTack : Path → Bool
  | .mgmt => false
  | .tack _ => true

/-- The key of a latch: its path and its offset. -/
def latchKey (p : Path) (off : Nat) : Nat :=
  match p with
  | .mgmt => off
  | .tack t => (t.val + 1) * 0x1000000 + off

/-- The latch of a register on a path; 0 when its latching register has not been read since reset. -/
def Dev.latch (d : Dev) (p : Path) (off : Nat) : Word := sget (fun _ => 0) d.mgmt.latches (latchKey p off)

/-- Latches registers on a path. -/
def Dev.setLatches (d : Dev) (p : Path) (offs : List Nat) : Dev :=
  { d with mgmt := { d.mgmt with
      latches := offs.foldl (fun m o => sput (fun _ => 0) m (latchKey p o) (d.liveWord (isTack p) o)) d.mgmt.latches } }

/-- A port's `CAN.RXQn_WORD` (R414). -/
def rxqAt (off : Nat) : Option (Nat × Nat) :=
  match canAt off with
  | some (n, 0x64) => some (n, 0)
  | some (n, 0x70) => some (n, 1)
  | _ => none

/-- A read of a register that a map lists, on a path: its value, and the module after it. -/
def Dev.readMapped (d : Dev) (p : Path) (off : Nat) : Word × Dev :=
  if 0x400018 ≤ off ∧ off < 0x400048 then d.readEvData p ((off - 0x400018) / 4)
  else if off = 0x400014 then (w32 (d.evLatch p).2, d)
  else if isLatched off then (d.latch p off, d)
  else match rxqAt off with
  | some (n, q) => d.canReadWord (isTack p) n q
  | none => (d.liveWord (isTack p) off, d.setLatches p (latchSet off))

/-- An access that R484 counts: a hole, an unmapped offset or a refused access. DEDUCED (log 16). -/
def Dev.countAccess (d : Dev) (p : Path) (off : Nat) (write : Bool) : Dev :=
  let tack := match p with | .mgmt => false | .tack _ => true
  let d := d.incSat (if tack then R.ACCESS_ERR_TACK else R.ACCESS_ERR_MGMT)
  (((d.wr R.ACCESS_ADDR_OFFSET off).flag R.ACCESS_ADDR_PATH tack).flag R.ACCESS_ADDR_WRITE write)

/-- A read of an offset inside a block's span: a hole reads 0 and is counted (R484). -/
def Dev.readReg (d : Dev) (p : Path) (off : Nat) : Word × Dev :=
  match regAt off with
  | some _ => d.readMapped p off
  | none => (0, d.countAccess p off false)

/-- A read of one register by a command: the word read is kept as what the read returned. -/
def Dev.readShown (d : Dev) (p : Path) (off : Nat) : Dev :=
  let (w, d) := d.readMapped p off
  { d with mgmt := { d.mgmt with readData := w } }

/-! ### Writing -/

/-- The action of a WO field, by the register's offset and the field's lowest bit. -/
def Dev.runAction (d : Dev) (off k : Nat) : Dev :=
  if off = 0x88 then d.fldReclose
  else if off = 0xA0 then d.perfClear
  else if off = 0xB0 then d.cycleClearMax
  else if 0x10000 ≤ off ∧ off < 0x12400 then
    (let n := (off - 0x10000) / 0x400
     if k = 0 then d.fabClearMax n
     else if k = 1 then d.fabClearCounts n
     else { d.linkTest n (Config.linkTestFound n d.free) with free := d.free + 1 })
  else if off = 0xD0 then (if k = 10 then d.awlArm else if k = 11 then d.awlStart else d.awlStop)
  else if 0x200000 ≤ off ∧ off < 0x200C00 then
    (let n := (off - 0x200000) / 0x40
     if k = 0 then d.loopFaultReset n else if k = 1 then d.loopClearFlags n else d.loopClearStats n)
  else if 0x210000 ≤ off ∧ off < 0x210300 then d.glinkClearCounts ((off - 0x210000) / 0x40)
  else if off = 0x310048 then (if k = 0 then d.twinClearCounts else d.copyNow)
  else if off = 0x320004 then
    (if k = 0 then d.timeRestartCmd else if k = 1 then d.timeClearOverflow
     else if k = 2 then d.timeClearMax else d.timeClearCounts)
  else if off = 0x400004 then (if k = 0 then d.freezeCmd else if k = 1 then d.unfreezeCmd else d.clearLost)
  else if off = 0x410004 then (if k = 0 then d.histRebuild else d.histClearCounts)
  else if off = 0x800004 then d.secClearCounts
  else if off = 0x300004 ∨ off = 0x301004 then
    (let n := (off - 0x300000) / 0x1000
     if k = 0 then d.ringClearCounts n else d.ringClearMax n)
  else if off = 0x600004 then d.dioClearCounts
  else if 0x610000 ≤ off ∧ off < 0x610200 then
    (let n := (off - 0x610000) / 0x20
     if k = 0 then d.aoFaultReset n else d.cloClearStats n)
  else if 0x620000 ≤ off ∧ off < 0x620200 then d.faiClear ((off - 0x620000) / 0x10)
  else if 0x500000 ≤ off ∧ off < 0x504000 then
    (let n := (off - 0x500000) / 0x1000
     match (off - 0x500000) % 0x1000 with
     | 0x4 => if k = 0 then d.canRecover n else d.canClearCounts n
     | 0x68 => if k = 0 then d.canDiscard n 0 else if k = 1 then d.canFlush n 0 else d.canClearOverflow n 0
     | 0x74 => if k = 0 then d.canDiscard n 1 else if k = 1 then d.canFlush n 1 else d.canClearOverflow n 1
     | _ => d)
  else if off = 0x900004 then
    (if k = 0 then d.shutdownTest else if k = 1 then d.fuseCommit else if k = 2 then d.clearSoft else d.lifeClearCounts)
  else d

/-- What follows a write to a register's own fields. FORCE_FALLBACK abandons a return: releases resume at the next
base-period boundary, and the ACTIVE announces it (R217). -/
def Dev.afterWrite (d : Dev) (off : Nat) : Dev :=
  if off = 0x320008 then d.refState
  else if off = 0xA0 then d.drop R.PERF_SEL_VALID
  else if off = 0xB0 then
    (if d.on R.CYCLE_CTRL_FORCE_FALLBACK && d.on R.CYCLE_STATUS_RETURNING && d.role ≠ .standby then
       let n := if d.cycle.began then d.cycle.num + 1 else d.cycle.num
       { d.drop R.CYCLE_STATUS_RETURNING with cycle := { d.cycle with
           below := 0, announced := if d.role = .active then some (n, .resume) else d.cycle.announced } }
     else d)
  else d

/-- Whether the lock condition of a register's RWL fields is met (R415, R416). -/
def Dev.unlocked (d : Dev) (p : Path) (off : Nat) : Bool :=
  if 0x500000 ≤ off ∧ off < 0x504000 then d.canUnlocked (isTack p) off else true

/-- What a write comes to (R3, R485). -/
inductive WriteResult where
  | applied
  | readOnly
  | locked
  deriving DecidableEq, Repr

/-- A write of a word addresses a locked field: one of a register whose writable fields are all RWL, or one that the
word would change. DESIGN CHOICE (log 131). -/
def touchesLocked (fields : List (Nat × Nat × Acc)) (old new : Word) : Bool :=
  hasAcc fields [.rwl] && (!hasAcc fields [.rw, .w1c, .w1s, .wo]
    || fields.any (fun f => f.2.2 = .rwl && old.toNat / 2 ^ f.1 % 2 ^ f.2.1 ≠ new.toNat / 2 ^ f.1 % 2 ^ f.2.1))

/-- What a write of a word to an offset would come to now. -/
def Dev.writeResult (d : Dev) (off : Nat) (v : Word) : WriteResult :=
  match regAt off with
  | none => .readOnly
  | some r =>
    if !d.unlocked .mgmt off && touchesLocked r.fields (d.word off) v then .locked
    else if hasAcc r.fields [.rw, .w1c, .w1s, .wo, .rwl] then .applied
    else .readOnly

/-- A word with each RWL field at the value that a register holds. -/
def keepLocked (fields : List (Nat × Nat × Acc)) (old new : Word) : Word :=
  fields.foldl (fun w f =>
    if f.2.2 = .rwl then setField w ⟨0, f.1, f.2.1⟩ (old.toNat / 2 ^ f.1 % 2 ^ f.2.1) else w) new

/-- A write of a word to a register on a path, with its fields' access codes and its actions. Tack code
does not write `EVREC.CTRL` and `EVREC.REPEAT_WIN` (R427). DEDUCED (log 14). DEDUCED (log 107). -/
def Dev.writeReg (d : Dev) (p : Path) (off : Nat) (v : Word) : Dev :=
  match regAt off with
  | none => d.countAccess p off true
  | some r =>
    if (isTack p) && (off = 0x400004 || off = 0x400058) then d
    else if isCanTx off then
      (if d.unlocked p off then d.canWrite ((off - 0x500000) / 0x1000) ((off - 0x500000) % 0x1000) v else d)
    else if off = 0x400014 then d.setEvLatch p (d.evLatch p).1 (v.toNat % 32768)
    else
      let w := storedAs off (regWrite r.fields (d.unlocked p off) (d.word off) v)
      let d := (d.putWord off w).afterWrite off
      (actions r.fields v).foldl (fun d k => d.runAction off k) d

/-- Whether a block's management writes take effect at once (R483). DEDUCED (log 15). -/
def atOnce (off : Nat) : Bool :=
  [0x320000, 0x400000, 0x410000, 0x800000, 0x900000].any (fun b => b ≤ off && off < b + 0x10000)

/-- Applies the writes that wait, in the order of acceptance (R486). -/
def Dev.applyStaged (d : Dev) : Dev :=
  let ws := d.mgmt.staged
  let d := { d with mgmt := { d.mgmt with staged := [] } }
  ws.foldl (fun d w => d.writeReg .mgmt w.offset w.value) d

/-- A management write (R483, R486): at once, or staged for the next cycle boundary. -/
def Dev.mgmtWrite (d : Dev) (off : Nat) (v : Word) : Dev :=
  if atOnce off || d.role = .stopped || d.role = .safetyMaint then d.writeReg .mgmt off v
  else { d with mgmt := { d.mgmt with staged := d.mgmt.staged ++ [⟨off, v⟩] } }

/-- What a write with a locked field still does to a register's other fields; the locked one keeps its value. -/
def Dev.writeOpen (d : Dev) (off : Nat) (v : Word) : Dev :=
  match regAt off with
  | none => d
  | some r => if hasAcc r.fields [.rw, .w1c, .w1s, .wo] then d.mgmtWrite off (keepLocked r.fields (d.word off) v) else d

/-- A management write of a mapped register, with the status it is answered with (R3, R485). -/
def Dev.reportedWrite (d : Dev) (off : Nat) (v : Word) : Dev :=
  match d.writeResult off v with
  | .readOnly => d.writeStatus (.named "READ_ONLY")
  | .locked => (d.writeOpen off v).writeStatus .locked
  | .applied => (d.writeStatus .ok).mgmtWrite off v

end Sys2Proof.Machine
end

