-- ==== Sys2Proof/Machine/TackOps.lean ====
section
/-! DEFINITION. The core of a replica: registers, store buffer, effects with their stitch, exceptions, and
the shape of every tack instruction (R136, R140 to R142, R157, R158, R164 to R185, R490). -/

namespace Sys2Proof.Machine

/-! ### Registers (R157) -/

/-- A general register; g0 reads 0. -/
def Core.get (c : Core) (k : Fin 32) : DWord := if k = 0 then 0 else sget (fun _ => 0) c.g k.val

/-- Writes a general register; a write to g0 is discarded. -/
def Core.put (c : Core) (k : Fin 32) (v : DWord) : Core :=
  if k = 0 then c else { c with g := sput (fun _ => 0) c.g k.val v }

/-- Registers of a replica. -/
def Replica.get (x : Replica) (k : Fin 32) : DWord := x.core.get k
def Replica.put (x : Replica) (k : Fin 32) (v : DWord) : Replica := { x with core := x.core.put k v }

/-- Continues at an address. -/
def Replica.goto (x : Replica) (pc : Word) : Replica := { x with core := { x.core with pc := pc } }

/-- Continues at the next instruction. -/
def Replica.next (x : Replica) : Replica := x.goto (x.core.pc + 4)

/-- The core at the start of a task instance (R158). -/
def freshCore (k : TaskImg) : Core := { ({} : Core).put 30 (k.spHi.setWidth 64) with pc := k.entry, running := true }

/-! ### SRAM and the store buffer (R172, R173) -/

/-- Every buffered store is written to SRAM, in the order they entered. DEDUCED (log 60). -/
def Replica.drain (x : Replica) : Replica :=
  { x with sram := x.storeBuf.foldl (fun m b => Memory.writeBytes m b.addr b.bytes) x.sram, storeBuf := [] }

/-- The oldest buffered store is written to SRAM. -/
def Replica.drainOne (x : Replica) : Replica :=
  match x.storeBuf with
  | [] => x
  | b :: bs => { x with sram := Memory.writeBytes x.sram b.addr b.bytes, storeBuf := bs }

/-- Two ranges of bytes overlap. -/
def overlaps (a n b m : Nat) : Bool := a < b + m && b < a + n

/-- A load from the code or data area: the value, and the replica after it (R172). -/
def Replica.loadSram (x : Replica) (a n : Nat) : Nat × Replica :=
  match (x.storeBuf.filter (fun b => overlaps a n b.addr b.bytes.length)).getLast? with
  | none => (Memory.readLe x.sram a n, x)
  | some b =>
    if b.addr ≤ a ∧ a + n ≤ b.addr + b.bytes.length then
      (leNat ((b.bytes.drop (a - b.addr)).take n), x.count 2)
    else
      let x := (x.drain).count 3
      (Memory.readLe x.sram a n, x)

/-- A store to the data area enters the store buffer of 8; a full one first drains its oldest (R172, R175). -/
def Replica.storeSram (x : Replica) (a : Nat) (bs : List Byte) : Replica :=
  let x := if 8 ≤ x.storeBuf.length then x.drainOne.count 4 else x
  { x with storeBuf := x.storeBuf ++ [⟨a, bs⟩] }

/-! ### Effects and stitches (R136, R140 to R142) -/

/-- The 16 bytes of an effect record. -/
def Effect.bytes (e : Effect) : List Byte :=
  [BitVec.ofNat 8 e.kind, e.mask, 0, 0] ++ leBytes 4 e.target.toNat ++ leBytes 8 e.data.toNat

/-- One bit of the CRC-64 register: not reflected (R141). -/
def crc64Bit (c : DWord) : DWord :=
  if c.msb then (c <<< 1) ^^^ 0x42F0E1EBA9EA3693 else c <<< 1

/-- One byte, most significant bit first. -/
def crc64Byte (c : DWord) (b : Byte) : DWord :=
  (List.range 8).foldl (fun c _ => crc64Bit c) (c ^^^ (b.setWidth 64 <<< 56))

/-- The stitch after more bytes. DEDUCED (log 58). -/
def crc64 (c : DWord) (bs : List Byte) : DWord := bs.foldl crc64Byte c

/-- The cycle-end and sample-end markers close a window (R142). -/
def isMarker (kind : Nat) : Bool := kind = 0x0F || kind = 0x0E

/-- The record enters the open window, and a full window or a marker closes it. -/
def Replica.stitchRecord (x : Replica) (e : Effect) : Replica :=
  let c := crc64 x.stitch e.bytes
  if isMarker e.kind || x.records + 1 = 1024 then
    { x with stitch := 0xFFFFFFFFFFFFFFFF, records := 0, window := x.window + 1
             closed := x.closed ++ [(x.window, c)] }
  else { x with stitch := c, records := x.records + 1 }

/-- An effect is retired: it leaves for the voter under the next index. -/
def Replica.retireEffect (x : Replica) (kind : Nat) (mask : Byte) (target : Word) (data : DWord)
    (abort : Option (Nat × Nat) := none) : Replica :=
  let e : Effect := { idx := x.effects, kind := kind, mask := mask, target := target, data := data, abort := abort }
  { x with effects := x.effects + 1, outbox := x.outbox ++ [e] }.stitchRecord e

/-! ### The instruction's surroundings -/

/-- What an instruction sees beside its replica: the partition, the task, the instance, the input image of
the instance, the agreed time-stamp, the schedule, and how many effects the tile has issued. -/
structure TackCtx where
  part : PartImg
  task : TaskImg
  run : TaskRun
  tstamp : DWord
  fallback : Bool
  issued : Nat
  held : Nat

/-- What an instruction comes to: it completes, it waits for a shared read, it stalls with no effect, or
it raises an exception with its cause and EVAL; `dev` is set for an access to device space, and says
whether it was a store. -/
inductive TackOut where
  | ok (x : Replica)
  | wait (x : Replica)
  | stall
  | raise (cause : Nat) (eval : DWord) (dev : Option Bool)

/-- Exception causes (R178). -/
def causeIllegal : Nat := 1
def causeAccess : Nat := 2
def causeAlign : Nat := 3
def causeTrap : Nat := 4
def causeStackFault : Nat := 5

/-- The special register STATUS (R170). -/
def TackCtx.status (c : TackCtx) (depth : Nat) : DWord :=
  BitVec.ofNat 64 (c.run.task % 256 + bit c.task.priv * 2 ^ 8 + depth * 2 ^ 9 + bit c.fallback * 2 ^ 12)

/-- A special register by its number; none when it is not listed (R170). -/
def TackCtx.special (c : TackCtx) (x : Replica) (n : Nat) : Option DWord :=
  match n with
  | 0 => some (BitVec.ofNat 64 c.run.release)
  | 1 => some (BitVec.ofNat 64 x.retired)
  | 2 => some (c.task.spLo.setWidth 64)
  | 3 => some (c.task.spHi.setWidth 64)
  | 4 => some x.core.epc
  | 5 => some x.core.ecause
  | 6 => some x.core.eval
  | 7 => some (c.status x.core.depth)
  | 8 => some c.tstamp
  | _ => none

/-! ### Exceptions (R179 to R182) -/

/-- Doublewords written from an address. -/
def writeDwords (m : Memory) (a : Nat) : List DWord → Memory
  | [] => m
  | w :: ws => writeDwords (m.writeBytes a (leBytes 8 w.toNat)) (a + 8) ws

/-- g1 to g11 in order. -/
def Core.g1to11 (c : Core) : List DWord := (List.range 11).map (fun k => sget (fun _ => 0) c.g (k + 1))

/-- The reason for which a frame push is refused (R179); none when it is accepted. -/
def pushRefused (p : PartImg) (k : TaskImg) (c : Core) : Option Nat :=
  let sp := (c.get 30).toNat
  if 4 ≤ c.depth then some 5
  else if sp % 16 ≠ 0 then some 3
  else if sp < 128 ∨ sp - 128 < k.spLo.toNat then some 1
  else if k.spHi.toNat < sp then some 2
  else if !p.inData (sp - 128) 128 then some 4
  else none

/-- The reserve frame (R181). -/
def reserveFrame (c : TackCtx) (x : Replica) (reason cause : Nat) (eval : DWord) : Memory :=
  writeDwords [] 0
    ([x.core.pc.setWidth 64, BitVec.ofNat 64 causeStackFault, x.core.get 30, c.status x.core.depth, x.core.get 31]
      ++ x.core.g1to11
      ++ [BitVec.ofNat 64 reason, BitVec.ofNat 64 cause, c.task.spLo.setWidth 64, c.task.spHi.setWidth 64,
          BitVec.ofNat 64 c.run.task, BitVec.ofNat 64 c.run.release, BitVec.ofNat 64 (x.aborts + 1), eval])

/-- The task instance is aborted on the replica: the reserve frame is written and the marker retired. -/
def Replica.abort (x : Replica) (c : TackCtx) (reason cause : Nat) (eval : DWord) : Replica :=
  let x := { x with reserve := reserveFrame c x reason cause eval, aborts := x.aborts + 1
                    core := { x.core with running := false } }
  x.retireEffect 0x0F 0xFF 0 (BitVec.ofNat 64 c.run.release) (some (c.run.task, reason))

/-- The frame is pushed and the handler entered (R180). -/
def Replica.enterHandler (x : Replica) (c : TackCtx) (cause : Nat) (eval : DWord) : Replica :=
  let sp := x.core.get 30 - 128
  let frame := [x.core.epc, x.core.ecause, x.core.eval, c.status x.core.depth, x.core.get 31] ++ x.core.g1to11
  let k := x.core.put 30 sp
  { x with
    sram := writeDwords x.sram sp.toNat frame
    core := { k with epc := x.core.pc.setWidth 64, ecause := BitVec.ofNat 64 cause, eval := eval
                     depth := x.core.depth + 1, pc := c.task.handler } }

/-- Exception entry (R179 to R181): the store buffer drains, then the push is accepted or refused. -/
def Replica.enterException (x : Replica) (c : TackCtx) (cause : Nat) (eval : DWord) : Replica :=
  let x := x.drain
  if c.task.handler = 0 then x.abort c 0 cause eval
  else match pushRefused c.part c.task x.core with
    | some reason => x.abort c reason cause eval
    | none => x.enterHandler c cause eval

/-! ### The shape of a tack instruction -/

/-- A replica of the tile is in service (R146). -/
def Dev.inService (d : Dev) (t : Nat) (r : Fin 3) : Bool := testBit (d.rd (R.TILE_STATUS_REP_IN t)) r.val

/-- The replicas in service, in the order A, B, C. -/
def Dev.serving (d : Dev) (t : Nat) : List (Fin 3) := [(0 : Fin 3), 1, 2].filter (d.inService t)

/-- The partition that runs on a tile: that of the tile whose role it carries (R95). -/
def Dev.partOf (d : Dev) (t : Nat) : Option PartImg :=
  match d.hrn.image with
  | some im => im.parts.find? (fun p => p.tile = d.rd (R.TILE_POS_LOGICAL t))
  | none => none

/-- A task of a partition. -/
def PartImg.task (p : PartImg) (n : Nat) : Option TaskImg := p.tasks.find? (fun k => k.num = n)

/-- Entries of a replica with an index not yet issued (R138). -/
def Tile.unissued (t : Tile) (r : Fin 3) : Nat :=
  ((t.rep r).outbox.filter (fun e => t.next ≤ e.idx)).length
    + (t.voter.filter (fun p => p.1 = r.val && t.next ≤ p.2.idx)).length

/-- A device store of the replica has not been issued yet (R169). -/
def Tile.deviceStoreWaits (t : Tile) (r : Fin 3) : Bool :=
  (t.rep r).outbox.any (fun e => e.kind = 3 && t.next ≤ e.idx)
    || t.voter.any (fun p => p.1 = r.val && p.2.kind = 3 && t.next ≤ p.2.idx)

/-- A replica runs up to the agreed count of an event that waits (R128). -/
def Tile.mayRun (t : Tile) (x : Replica) : Bool :=
  match t.event with
  | some e => x.retired < e.count
  | none => true

/-- The surroundings of the next instruction of a replica; none where it runs none: out of service, held for a shared read,
at the agreed count of an event, or held for a copy (R127, R128, R154). -/
def Dev.tackCtx (d : Dev) (t : Nat) (r : Fin 3) : Option TackCtx :=
  let x := d.tile t
  if d.alive && d.inService t r && (x.rep r).core.running && (x.rep r).pending.isNone
      && x.mayRun (x.rep r) && !d.on (R.TILE_STATUS_REINTEGRATING t) then
    match x.current, d.partOf t with
    | some run, some p =>
      match p.task run.task with
      | some k => some { part := p, task := k, run := run, tstamp := x.agreed.tstamp
                         fallback := d.on R.CYCLE_STATUS_FALLBACK, issued := x.next, held := x.unissued r }
      | none => none
    | _, _ => none
  else none

/-- The instruction does not complete and the exception is entered (R490). A refused device access is
counted once for the tile (R484). An abort's marker stalls like any other effect (R138). DEDUCED (log 59). -/
def Dev.tackRaise (d : Dev) (t : Fin 144) (r : Fin 3) (c : TackCtx) (cause : Nat) (eval : DWord)
    (dev : Option Bool) : Dev :=
  let x := (d.tile t.val).rep r
  let y := { x with retired := x.retired + 1 }.enterException c cause eval
  if y.effects ≠ x.effects ∧ 16 ≤ c.held then d
  else
    let d := match dev with
      | some write =>
        d.when (cause = causeAccess && (d.serving t.val).head? = some r)
          (fun d => d.countAccess (.tack t) (eval.toNat - 0x80000000) write)
      | none => d
    d.onRep t.val r (fun _ => y)

/-- One instruction on a replica: the fetch check first, then what the instruction does (R490). -/
def Dev.tackStep (d : Dev) (t : Fin 144) (r : Fin 3) (f : TackCtx → Replica → TackOut) : Dev :=
  match d.tackCtx t.val r with
  | none => d
  | some c =>
    let x := (d.tile t.val).rep r
    if 0x20000 ≤ x.core.pc.toNat then d.tackRaise t r c causeAccess (x.core.pc.setWidth 64) none
    else match f c x with
      | .ok y => d.onRep t.val r (fun _ => { y with retired := x.retired + 1 })
      | .wait y => d.onRep t.val r (fun _ => y)
      | .stall => d
      | .raise cause eval dev => d.tackRaise t r c cause eval dev

/-- An instruction that writes one register and goes on. -/
def Dev.tackAlu (d : Dev) (t : Fin 144) (r : Fin 3) (rd : Fin 32) (v : Replica → DWord) : Dev :=
  d.tackStep t r fun _ x => .ok ((x.put rd (v x)).next)

/-! ### Loads and stores (R160, R164 to R169, R172) -/

/-- The word that an LD from a receive port reads (R168). -/
def Replica.portWord (x : Replica) (p w : Nat) : DWord :=
  let port := sget (fun _ => {}) x.ports p
  if w = 255 then
    BitVec.ofNat 64 (port.readable.words.length + bit port.readable.repeated * 2 ^ 8
      + port.swaps % 2 ^ 32 * 2 ^ 32)
  else (oget port.readable.words w).getD 0

/-- What a permitted, aligned load outside device space reads. -/
def TackCtx.load (c : TackCtx) (x : Replica) (a n : Nat) : Nat × Replica :=
  if a < 0x80000 then x.loadSram a n
  else if a < 0x90000 then (Memory.readLe c.run.input (a - 0x80000) n, x)
  else if a < 0xB0000 then ((x.portWord ((a - 0xA8000) / 0x800) (a % 0x800 / 8)).toNat, x)
  else (Memory.readLe x.reserve (a - 0xFFF00) n, x)

/-- A load of `n` bytes. A device load becomes a shared read once every earlier device store of the replica
has been issued. -/
def Dev.tackLoad (d : Dev) (t : Fin 144) (r : Fin 3) (rd ra : Fin 32) (imm : BitVec 16) (n : Nat)
    (signed : Bool) : Dev :=
  d.tackStep t r fun c x =>
    let a := effAddr (x.get ra) imm
    if !c.part.mayLoad c.task.priv a n then
      .raise causeAccess (BitVec.ofNat 64 a) (if isDevice a then some false else none)
    else if a % n ≠ 0 then .raise causeAlign (BitVec.ofNat 64 a) none
    else if isDevice a then
      if (d.tile t.val).deviceStoreWaits r then .stall
      else .wait { x with pending := some ⟨if signed then .lw else .lwu, a, rd.val⟩ }
    else
      let (v, y) := c.load x a n
      .ok ((y.put rd (extend n signed v)).next)

/-- What a permitted, aligned store does: to the data area, the output window, a send channel or a device
register. -/
def TackCtx.store (c : TackCtx) (x : Replica) (a n : Nat) (v : DWord) : Replica :=
  if a < 0x80000 then x.storeSram a (leBytes n v.toNat)
  else if a < 0xA0000 then
    let at_ := a % 8
    x.retireEffect 1 (BitVec.ofNat 8 ((2 ^ n - 1) * 2 ^ at_)) (w32 ((a - 0x90000) / 8 * 8))
      (BitVec.ofNat 64 (v.toNat % 2 ^ (8 * n) * 2 ^ (8 * at_)))
  else if a < 0xB0000 then
    let port := (oget c.part.sends ((a - 0xA0000) / 0x800)).getD 0
    x.retireEffect 2 0xFF (w32 (port % 2 ^ 16 + a % 0x800 / 8 * 2 ^ 16)) v
  else x.retireEffect 3 0x0F (w32 (a - 0x80000000)) (BitVec.ofNat 64 (v.toNat % 2 ^ 32))

/-- A store of `n` bytes. A store that retires an effect stalls while the replica has 16 unissued entries
(R138). -/
def Dev.tackStore (d : Dev) (t : Fin 144) (r : Fin 3) (rs ra : Fin 32) (imm : BitVec 16) (n : Nat) : Dev :=
  d.tackStep t r fun c x =>
    let a := effAddr (x.get ra) imm
    if !c.part.mayStore c.task.priv a n then
      .raise causeAccess (BitVec.ofNat 64 a) (if isDevice a then some true else none)
    else if a % n ≠ 0 then .raise causeAlign (BitVec.ofNat 64 a) none
    else if 0x80000 ≤ a && 16 ≤ c.held then .stall
    else .ok (c.store x a n (x.get rs)).next

/-! ### Branches (R160, R162, R175) -/

/-- A mispredicted branch or JALR: the misprediction, and the wrong-path instructions discarded. -/
def Replica.mispredict (x : Replica) (miss : Option Nat) : Replica :=
  match miss with
  | none => x
  | some n =>
    let x := x.count 1
    x.setCounter 0 (w32 (min ((x.counter 0).toNat + n) 0xFFFFFFFF))

/-- The core continues at a target, which must lie in the code area (R164, R490). -/
def Replica.jump (x : Replica) (target : Word) : TackOut :=
  if 0x20000 ≤ target.toNat then .raise causeAccess (target.setWidth 64) none else .ok (x.goto target)

/-- A conditional branch. -/
def Dev.tackBranch (d : Dev) (t : Fin 144) (r : Fin 3) (ra rb : Fin 32) (off : BitVec 16)
    (miss : Option Nat) (test : DWord → DWord → Bool) : Dev :=
  d.tackStep t r fun _ x =>
    let y := x.mispredict miss
    if test (x.get ra) (x.get rb) then y.jump (relTarget x.core.pc off.toInt) else .ok y.next

/-! ### Shared reads (R127) -/

/-- The result of a shared read reaches a replica, and its instruction completes. -/
def Replica.deliverRead (x : Replica) (v : DWord) : Replica :=
  match x.pending with
  | none => x
  | some p =>
    let w := match p.kind with
      | .rdtime => v
      | .lw => extend 4 true (v.toNat % 2 ^ 32)
      | .lwu => extend 4 false (v.toNat % 2 ^ 32)
    let x := { x with core := if p.rd = 0 then x.core else { x.core with g := sput (fun _ => 0) x.core.g p.rd w } }
    { x with pending := none, retired := x.retired + 1 }.next

end Sys2Proof.Machine
end

