-- ==== Sys2Proof/Machine/LoopOps.lean ====
section
/-! DEFINITION. The loop engine's own operations: samples, the datapath, outputs, command frames, rotor loss
and the awl's signal (R224 to R260). -/

namespace Sys2Proof.Machine

/-! ### Arithmetic (R232, R233) -/

/-- π / 2 in units of 2^−100. -/
def halfPi : Int := 1991220906497848681844175556976

/-- The Taylor series of sin (k = 1) or cos (k = 0) in units of 2^−100: the sum of the terms from `t` on. -/
def trigSeries (x : Int) : Nat → Nat → Int → Int
  | 0, _, _ => 0
  | n + 1, k, t => t + trigSeries x n (k + 2) (-(t * x / 2 ^ 100 * x / 2 ^ 100) / ((k + 1) * (k + 2)))

/-- sin θ × 2^30 and cos θ × 2^30 for θ = 2π × floor(a / 2^12) / 2^20, rounded to nearest with halves away
from zero (R233). DEDUCED (log 69). -/
def sincos (a : Nat) : Int × Int :=
  let k := a / 2 ^ 12 % 2 ^ 20
  let x := halfPi * (k % 2 ^ 18 : Nat) / 2 ^ 18
  let s := trigSeries x 30 1 x
  let c := trigSeries x 30 0 (2 ^ 100)
  let (s, c) := match k / 2 ^ 18 with
    | 0 => (s, c)
    | 1 => (c, -s)
    | 2 => (-s, -c)
    | _ => (-c, s)
  (roundDiv s (2 ^ 70), roundDiv c (2 ^ 70))

/-! ### The datapath of a replica (R226) -/

/-- A node and an accumulator as signed numbers. -/
def LoopRep.node (x : LoopRep) (n : Nat) : Int := (sget (fun _ => (0 : Word)) x.nodes n).toInt
def LoopRep.accum (x : LoopRep) (a : Nat) : Int := (sget (fun _ => (0 : DWord)) x.acc a).toInt

/-- The engine writes a node. -/
def LoopRep.setNode (x : LoopRep) (n : Nat) (v : Int) : LoopRep :=
  { x with nodes := sput (fun _ => 0) x.nodes n (BitVec.ofInt 32 v) }

/-- A step writes a node; below 32 the write is discarded. -/
def LoopRep.stepNode (x : LoopRep) (n : Nat) (v : Int) : LoopRep := if n < 32 then x else x.setNode n v

/-- Writes an accumulator. -/
def LoopRep.setAcc (x : LoopRep) (a : Nat) (v : Int) : LoopRep :=
  { x with acc := sput (fun _ => 0) x.acc a (BitVec.ofInt 64 v) }

/-- The value and the shift of a coefficient entry. -/
def SlotImg.coef (i : SlotImg) (c : Nat) : Int := ((oget i.coefs c).getD (0, 0)).1.toInt
def SlotImg.shift (i : SlotImg) (c : Nat) : Nat := ((oget i.coefs c).getD (0, 0)).2

/-- The coefficient table of a LOOPPAR page: entries of 8 bytes, the value in bytes 0 to 3 and the shift in byte 4 [5:0]
(R226). -/
def coefTable (bs : List Byte) : List (Nat × Word × Nat) :=
  (List.range (min 512 (bs.length / 8))).map (fun k =>
    (k, w32 (leNat ((bs.drop (8 * k)).take 4)), leNat ((bs.drop (8 * k + 4)).take 1) % 64))

/-- The table of a slot's page in the live buffer of its tile (R97). -/
def Dev.liveCoefs (d : Dev) (i : SlotImg) : List (Nat × Word × Nat) :=
  match (d.tile (d.tileOf i.tile)).live.find? (fun p => p.id = i.page) with
  | some p => coefTable p.bytes
  | none => []

/-- A replica's datapath of a slot. -/
def LoopSlot.rep (x : LoopSlot) (r : Fin 3) : LoopRep :=
  match r with
  | 0 => x.repA
  | 1 => x.repB
  | 2 => x.repC

/-- Replaces a replica's datapath. -/
def LoopSlot.setRep (x : LoopSlot) (r : Fin 3) (y : LoopRep) : LoopSlot :=
  match r with
  | 0 => { x with repA := y }
  | 1 => { x with repB := y }
  | 2 => { x with repC := y }

/-- Changes every replica's datapath. -/
def LoopSlot.eachRep (x : LoopSlot) (f : LoopRep → LoopRep) : LoopSlot :=
  { x with repA := f x.repA, repB := f x.repB, repC := f x.repC }

/-- The sticky flags of R233. -/
inductive LoopFlag where
  | satMul
  | satAcc
  | satOut
  | lim
  deriving DecidableEq, Repr

/-- The field of a flag. -/
def LoopFlag.fld (k : Nat) : LoopFlag → Fld
  | .satMul => R.LOOP_STATUS_SAT_MUL k
  | .satAcc => R.LOOP_STATUS_SAT_ACC k
  | .satOut => R.LOOP_STATUS_SAT_OUT k
  | .lim => R.LOOP_STATUS_LIM k

/-- The slot whose sample runs on a tile. -/
def Dev.runningSlot (d : Dev) (t : Nat) : Option SlotImg :=
  match d.hrn.image with
  | some im => im.slots.find? (fun i => i.tile = d.rd (R.TILE_POS_LOGICAL t) && (d.slot i.num).running.isSome)
  | none => none

/-- What a step needs: the running slot with the coefficients its sample began with (R108, R260), on a replica in service whose sample has not ended. -/
def Dev.stepCtx (d : Dev) (t : Nat) (r : Fin 3) : Option SlotImg :=
  if d.alive && d.inService t r then
    ((d.runningSlot t).filter (fun i =>
      ((d.slot i.num).rep r).running && ((d.slot i.num).rep r).step < i.length)).map
      (fun i => { i with coefs := (d.slot i.num).coefs })
  else none

/-- A replica retires the sample-end marker and its sample ends (R233, R140). -/
def Dev.retireEnd (d : Dev) (t : Nat) (r : Fin 3) (k : Nat) : Dev :=
  match (d.slot k).running with
  | none => d
  | some s =>
    let d := d.onSlot k (fun x => x.setRep r { x.rep r with running := false })
    d.onRep t r (fun x => x.retireEffect 0x0E 0xFF 0 s.number)

/-- The replica has 16 unissued effects, so that a step that retires one waits (R138). -/
def Dev.stalled (d : Dev) (t : Nat) (r : Fin 3) : Bool := 16 ≤ (d.tile t).unissued r

/-- After the last step of the program END is implied (R233). -/
def Dev.impliedEnd (d : Dev) (t : Nat) (r : Fin 3) (i : SlotImg) : Dev :=
  if ((d.slot i.num).rep r).running && i.length ≤ ((d.slot i.num).rep r).step && !d.stalled t r then d.retireEnd t r i.num
  else d

/-- One step on one replica: the datapath after it, the flag it sets, and the step's own effect after that. -/
def Dev.loopStepThen (d : Dev) (t : Fin 144) (r : Fin 3) (f : SlotImg → LoopRep → LoopRep × Option LoopFlag)
    (g : SlotImg → LoopRep → Dev → Dev) : Dev :=
  match d.stepCtx t.val r with
  | none => d
  | some i =>
    let x := (d.slot i.num).rep r
    let (y, flag) := f i x
    let d := d.onSlot i.num (fun s => s.setRep r { y with step := x.step + 1 })
    let d := match flag with
      | some w => d.raise (w.fld i.num)
      | none => d
    (g i x d).impliedEnd t.val r i

/-- A step that retires an effect: it waits while the replica is stalled. -/
def Dev.loopRetire (d : Dev) (t : Fin 144) (r : Fin 3) (g : SlotImg → LoopRep → Dev → Dev) : Dev :=
  if d.stalled t.val r then d else d.loopStepThen t r (fun _ x => (x, none)) g

/-- END; past the last step it is the implied END that had to wait. -/
def Dev.loopEnd (d : Dev) (t : Fin 144) (r : Fin 3) : Dev :=
  match d.stepCtx t.val r, d.runningSlot t.val with
  | none, some i => if d.alive && d.inService t.val r then d.impliedEnd t.val r i else d
  | _, _ => d.loopRetire t r (fun i _ d => d.retireEnd t.val r i.num)

/-- One step on one replica with no effect beside its datapath. -/
def Dev.loopStep (d : Dev) (t : Fin 144) (r : Fin 3) (f : SlotImg → LoopRep → LoopRep × Option LoopFlag) : Dev :=
  d.loopStepThen t r f (fun _ _ d => d)

/-- The flag of a saturation, when there is one. -/
def flagIf (b : Bool) (g : LoopFlag) : Option LoopFlag := if b then some g else none

/-- A step that stores a saturated value to an accumulator. -/
def Dev.loopAcc (d : Dev) (t : Fin 144) (r : Fin 3) (a : Fin 4) (v : SlotImg → LoopRep → Int) : Dev :=
  d.loopStep t r fun i x =>
    let (w, sat) := satTo 64 (v i x)
    (x.setAcc a.val w, flagIf sat .satAcc)

/-- A step that stores a saturated value to a node. -/
def Dev.loopNode (d : Dev) (t : Fin 144) (r : Fin 3) (n : Nat) (g : LoopFlag) (v : SlotImg → LoopRep → Int) : Dev :=
  d.loopStep t r fun i x =>
    let (w, sat) := satTo 32 (v i x)
    (x.stepNode n w, flagIf sat g)

/-! ### The check of a program (R231) -/

/-- Every step of a slot passes the check. -/
def SlotImg.programOk (i : SlotImg) : Bool := i.steps.all (fun w => (loopDecode 0 0 w).isSome)

/-! ### Inputs (R227, R236) -/

/-- A source local to the module (R236). -/
def LoopSrc.isLocal : LoopSrc → Bool
  | .fa _ | .enc _ | .time => true
  | _ => false

/-- The value of a source now; the sample time is the time-base counter's. -/
def Dev.loopInput (d : Dev) (i : SlotImg) (src : LoopSrc) : Int :=
  let l := d.link (i.glink.getD 15)
  match src with
  | .measure k => ((l.meas[k]?).getD 0).toInt
  | .linkStatus => l.status.toNat
  | .fa k => d.rdInt (R.FAI_VALUE_LAST k)
  | .enc e => (BitVec.ofInt 32 (d.safety.encoder e).count).toInt
  | .output k o => (sget (fun _ => (0 : Word)) (d.slot k).outs o).toInt
  | .time => (w32 (d.time.at_ d.now).toNat).toInt

/-- What a sample latches at its trigger: every source but the last issued output of another slot (R227). -/
def Dev.latchInputs (d : Dev) (i : SlotImg) : List (Nat × Word) :=
  i.inputs.filterMap (fun p => match p.2 with
    | .output _ _ => none
    | src => some (p.1, BitVec.ofInt 32 (d.loopInput i src)))

/-- The delivered input nodes of a sample: in STANDBY the forwarded values stand for the local sources, and
for every source of a TIMER slot. -/
def Dev.loopInputs (d : Dev) (i : SlotImg) (s : LoopSample) : List (Nat × Int) :=
  i.inputs.map (fun p =>
    if d.role = .standby && (p.2.isLocal || i.trigger = 2) then
      (p.1, (sget (fun _ => (0 : Word)) (d.slot i.num).forwarded p.1).toInt)
    else match oget s.latched p.1 with
      | some v => (p.1, v.toInt)
      | none => (p.1, d.loopInput i p.2))

/-- A slot needs values forwarded by the ACTIVE. -/
def SlotImg.needsForward (i : SlotImg) : Bool := i.trigger = 2 || i.inputs.any (fun p => p.2.isLocal)

/-! ### The awl's signal (R257) -/

/-- PRBS15: x^15 + x^14 + 1. PRESUMED (log 65). -/
def prbsNext (p : BitVec 15) : BitVec 15 := (p <<< 1) ||| BitVec.ofNat 15 (bit (p.getLsbD 14 != p.getLsbD 13))

/-- The signal of the next injected sample. -/
def Dev.awlSignal (d : Dev) : Int :=
  let a : Int := d.rd R.AWL_AMP_AMPLITUDE
  match d.rd R.AWL_INJ_SIGNAL with
  | 1 => a
  | 2 => if d.loop.awl.prbs.getLsbD 14 then a else -a
  | 3 => rnd (a * (sincos d.loop.awl.phase.toNat).1) 30
  | _ => 0

/-- The generator after a sample. -/
def Dev.awlAdvance (d : Dev) : Dev :=
  let hold := 2 ^ d.rd R.AWL_INJ_HOLD_LOG2
  let step := w32 (d.rd R.AWL_FREQ)
  d.onAwl (fun a => { a with
    injected := a.injected + 1, phase := a.phase + step
    prbs := if (a.injected + 1) % hold = 0 then prbsNext a.prbs else a.prbs })

/-- The length of the injection in samples; none until STOP. -/
def Dev.awlLength (d : Dev) : Option Nat :=
  if d.rd R.AWL_INJ_LENGTH_K = 0 then none else some (d.rd R.AWL_INJ_LENGTH_K * 1024)

/-- The injection reaches this sample of this slot. -/
def Dev.awlInjects (d : Dev) (k : Nat) (number : DWord) : Bool :=
  d.rd R.AWL_CTRL_SLOT = k && (match d.loop.awl.startAt with
    | some n => decide (n.toNat ≤ number.toNat)
    | none => false) && (match d.awlLength with
    | some m => decide (d.loop.awl.injected < m)
    | none => true)

/-- Adds the signal to the selected node of every datapath, and counts the sample. -/
def Dev.awlInject (d : Dev) (k : Nat) : Dev :=
  let n := d.rd R.AWL_INJ_NODE
  let v := d.awlSignal
  let d := d.raise R.AWL_STATUS_INJECTING
  let d := d.when (d.rd R.AWL_STATUS_STATE = awlArmed && d.rd R.AWL_CTRL_TRIGGER = 1) Dev.awlTrigger
  let d := if n < 32 then
      let d := d.when (satTo 32 ((d.slot k).repA.node n + v)).2 (fun d => d.raise (R.LOOP_STATUS_SAT_OUT k))
      d.onSlot k (fun s => s.eachRep (fun x => x.setNode n (satTo 32 (x.node n + v)).1))
    else d
  d.awlAdvance

/-- Bitwise 2-of-3. -/
def maj3 (a b c : Nat) : Nat := (a &&& b) ||| (a &&& c) ||| (b &&& c)

/-- The captured words of a slot: its four nodes, voted bitwise 2-of-3; with two replicas in service, those
of the first (R258). -/
def Dev.awlWords (d : Dev) (t k : Nat) : List Word :=
  let s := d.slot k
  let word (x : LoopRep) (n : Nat) : Nat := (BitVec.ofInt 32 (x.node n)).toNat
  [R.AWL_NODES_N0, R.AWL_NODES_N1, R.AWL_NODES_N2, R.AWL_NODES_N3].map fun f =>
    let n := d.rd f
    match d.serving t with
    | [_, _, _] => w32 (maj3 (word s.repA n) (word s.repB n) (word s.repC n))
    | r :: _ => w32 (word (s.rep r) n)
    | [] => 0

/-- Capture after END of a sample of the served slot (R258). -/
def Dev.awlCapture (d : Dev) (t k : Nat) : Dev :=
  let st := d.rd R.AWL_STATUS_STATE
  if d.rd R.AWL_CTRL_SLOT ≠ k then d
  else if st = awlArmed then
    let keep := d.rd R.AWL_CTRL_PRE_TRIGGER
    let w := d.awlWords t k
    let n := d.loop.awl.pre.length + 1 - keep
    d.onAwl (fun a => { a with pre := (a.pre ++ [w]).drop n, preTimes := (a.preTimes ++ [d.timeT]).drop n })
  else if st = awlCapturing then
    let w := d.awlWords t k
    let d := d.onAwl (fun a => { a with buffer := a.buffer ++ [w], times := a.times ++ [d.timeT] })
    let d := d.wr R.AWL_STATUS_COUNT d.loop.awl.buffer.length
    if 65536 ≤ d.loop.awl.buffer.length then d.wr R.AWL_STATUS_STATE awlDone else d
  else d

/-! ### Triggers and deadlines (R225, R237) -/

/-- A gate link's settings. -/
def Dev.linkImg (d : Dev) (g : Nat) : GlinkImg :=
  match d.hrn.image with
  | some im => (im.glinks.find? (fun x => x.num = g)).getD { num := g }
  | none => { num := g }

/-- The deadline of a sample triggered now (R237). -/
def Dev.loopDeadline (d : Dev) (i : SlotImg) : DWord :=
  let g := d.linkImg (i.glink.getD 15)
  let ns : Int := if i.trigger = 1 then (g.halfPeriod * 10 : Int) - 2 * (g.linkDelay * 10) - 1000 else (i.period : Int) - 1000
  d.now + BitVec.ofInt 64 ns

/-- Triggers a sample of a slot, while the module runs its slots. -/
def Dev.triggerSlot (d : Dev) (i : SlotImg) (number : DWord) (stale : Bool) : Dev :=
  if !d.role.runs || d.slotState i.num = lsUnused then d
  else d.onSlot i.num (fun s => { s with
    waiting := s.waiting ++ [{ number := number, at_ := d.now, deadline := d.loopDeadline i
                               latched := d.latchInputs i, stale := stale }] })

/-- The sample after the last triggered one of a slot; before the first one, number 0. DESIGN CHOICE (log 151). -/
def LoopSlot.nextNumber (s : LoopSlot) : DWord :=
  match s.waiting.getLast? with
  | some x => x.number + 1
  | none => match s.running with
    | some x => x.number + 1
    | none => match s.last with
      | some n => n + 1
      | none => 0

/-! ### The start of a sample (R226 to R229, R241, R250, R251) -/

/-- The number of ramp samples J = ceil(100 ms / PERIOD), and r_j (R251). -/
def rampLength (period : Nat) : Nat := (100000000 + max period 1 - 1) / max period 1
def rampFactor (period j : Nat) : Nat := min 65536 (j * 65536 / rampLength period)

/-- A fault reset takes effect at the sample's start: the module's own, which the ACTIVE forwards with the sample's number,
or on the STANDBY the forwarded one from the sample of its number on (R241). -/
def Dev.applyReset (d : Dev) (i : SlotImg) (s : LoopSample) : Dev :=
  let x := d.slot i.num
  let due := match x.resetFrom with | some n => decide (n.toNat ≤ s.number.toNat) | none => false
  if !(x.resetArmed || due) then d
  else
    let init (x : LoopRep) : LoopRep :=
      i.init.foldl (fun x p => x.stepNode p.1 p.2.toInt) { x with nodes := x.nodes.filter (fun p => p.1 < 32), count := 0 }
    let d := (d.setSlotState i.num lsRun).drop (R.LOOP_STATUS_FAULT_CAUSE i.num)
    d.onSlot i.num (fun y => { y.eachRep init with
      resetArmed := false, tripRequest := false, coasting := 0, noEnable := false, ramp := 0
      resetFrom := if due then none else y.resetFrom
      resetSent := if d.role = .active then some s.number else y.resetSent })

/-- Rotor loss and ramp move on with the sample (R250, R251). -/
def Dev.advanceSlot (d : Dev) (i : SlotImg) : Dev :=
  let k := i.num
  match (d.slot k).coasting with
  | 0 =>
    if d.slotState k = lsRamp then
      let j := (d.slot k).ramp + 1
      let d := d.onSlot k (fun s => { s with ramp := j })
      if rampFactor i.period j = 65536 then d.setSlotState k lsRun else d
    else d
  | 1 => (d.setSlotState k lsCatch).onSlot k (fun s =>
      { s.eachRep (fun x => { x with count := 0 }) with coasting := 0, noEnable := false })
  | _ => d.onSlot k (fun s => { s with coasting := 1, noEnable := true })

/-- The set-point that is delivered to a node (R228, R250, R251): `ramp` is r_j of a ramp sample. -/
def Dev.setPoint (d : Dev) (i : SlotImg) (ramp : Option Nat) (w : Nat) : Int :=
  let v := (sget (fun _ => (0 : Word)) (d.slot i.num).set w).toInt
  if 16 + w ≠ i.torqueNode then v
  else if (d.slot i.num).noEnable || d.slotState i.num = lsCatch then 0
  else match ramp with
    | some r => rnd (v * r) 16
    | none => v

/-- The entry step of a sample (R250). -/
def Dev.entryStep (d : Dev) (i : SlotImg) : Nat :=
  if d.slotState i.num = lsCatch then i.catchEntry
  else if d.slotState i.num = lsHold then i.holdEntry else 0

/-- A sample begins: inputs, status and set-points are written, and the awl injects. DEDUCED (log 68). -/
def Dev.beginSample (d : Dev) (t : Nat) (i : SlotImg) (s : LoopSample) (fwd : Option (List (Nat × Word))) : Dev :=
  let k := i.num
  let d := d.applyReset i s
  let d := d.onSlot k (fun x => { x with
    set := x.armed.foldl (fun m p => sput (fun _ => 0) m p.1 p.2) x.set, armed := [] })
  let d := if d.role = .standby && i.needsForward then
      match fwd with
      | some vs => d.onSlot k (fun x => { x with
          forwarded := vs.foldl (fun m p => sput (fun _ => 0) m p.1 p.2) x.forwarded })
      | none => d.onSlot k (fun x => { x with shadowBad := true })
    else d
  let wasRamp := d.slotState k = lsRamp && (d.slot k).coasting = 0
  let d := d.advanceSlot i
  let ramp := if wasRamp then some (rampFactor i.period (d.slot k).ramp) else none
  let ins := d.loopInputs i s
  let status : Int := bit s.stale + 2 * bit d.role.commanding + 4 * bit (d.role = .standby)
  let sets := (List.range 16).map (fun w => (16 + w, d.setPoint i ramp w))
  let mode := d.slotState k
  let entry := d.entryStep i
  let start (x : LoopRep) : LoopRep :=
    { ((ins ++ [(15, status)] ++ sets).foldl (fun (x : LoopRep) (p : Nat × Int) => x.setNode p.1 p.2) x) with
      acc := [], step := entry, running := true, mode := mode, locked := false, lost := false, back := false
      fault := none }
  let d := d.onSlot k (fun x => { x.eachRep start with
    waiting := x.waiting.drop 1, running := some s, coefs := d.liveCoefs i, fresh := [], decided := false })
  let clear (x : Replica) : Replica :=
    { x with effects := 0, given := 0, window := 0, records := 0, stitch := 0xFFFFFFFFFFFFFFFF }
  let tl := d.tile t
  let d := d.putTile t { tl with repA := clear tl.repA, repB := clear tl.repB, repC := clear tl.repC, next := 0
                                 issued := [], majority := [], sample := some (k, s.number) }
  if d.awlInjects k s.number then d.awlInject k else d

/-- The waiting sample that runs next on a tile: the earliest deadline, then the lower slot number (R229). -/
def Dev.nextSample (d : Dev) (t : Nat) : Option (SlotImg × LoopSample) :=
  match d.hrn.image with
  | none => none
  | some im =>
    (im.slots.filter (fun i => i.tile = d.rd (R.TILE_POS_LOGICAL t))).foldl (fun best i =>
      match (d.slot i.num).waiting.head? with
      | none => best
      | some s =>
        match best with
        | none => some (i, s)
        | some (j, u) =>
          if s.deadline.toNat < u.deadline.toNat || (s.deadline = u.deadline && i.num < j.num) then some (i, s)
          else some (j, u)) none

/-- Everything the last sample retired has been issued and compared. DEDUCED (log 63). -/
def Tile.settled (t : Tile) : Bool :=
  t.voter.isEmpty && t.stitches.isEmpty
    && [t.repA, t.repB, t.repC].all (fun x => x.outbox.isEmpty && x.closed.isEmpty)

/-! ### Rotor lock (R249, R250) -/

/-- In-service replicas of a slot's tile that satisfy a condition. -/
def Dev.agreeing (d : Dev) (t k : Nat) (f : LoopRep → Bool) : Nat :=
  ((d.serving t).filter (fun r => f ((d.slot k).rep r))).length

/-- A loss of the rotor, once two replicas have declared it. -/
def Dev.rotorLost (d : Dev) (i : SlotImg) : Dev :=
  let k := i.num
  let d := (d.raise (R.LOOP_STATUS_OBS_LOCK k)).onSlot k (fun s => { s with decided := true })
  let d := d.event .rotorLost (source 3 k)
  match i.rotorAction with
  | 1 => d.loopFault k lcRotorTrip 0
  | 2 => ((d.setSlotState k lsHold).onSlot k (fun s => s.eachRep (fun x => { x with count := 0 }))).awlLoss k
  | _ => (d.onSlot k (fun s => { s with coasting := 2 })).awlLoss k

/-- The lock is re-acquired: CATCH goes to RAMP, HOLD to RUN. -/
def Dev.rotorBack (d : Dev) (k mode : Nat) : Dev :=
  let d := (d.event .rotorReacquired (source 3 k)).onSlot k (fun s =>
    { s.eachRep (fun x => { x with count := 0 }) with decided := true, ramp := 0 })
  d.setSlotState k (if mode = lsCatch then lsRamp else lsRun)

/-- Acts on what two replicas have declared in the running sample; COAST_REACQUIRE, once begun, runs to CATCH (R250). -/
def Dev.loopDecide (d : Dev) (t k : Nat) (i : SlotImg) : Dev :=
  let mode := (d.slot k).repA.mode
  let d := match ((d.serving t).filterMap (fun r => ((d.slot k).rep r).fault)) with
    | c :: _ :: _ => d.loopFault k lcProgram c
    | _ => d
  if (d.slot k).decided || (d.slot k).coasting ≠ 0 || d.slotState k = lsFault then d
  else if 2 ≤ d.agreeing t k (·.lost) then d.rotorLost i
  else if 2 ≤ d.agreeing t k (·.back) then d.rotorBack k mode
  else d

/-- LOCK on one replica (R249). -/
def lockStep (i : SlotImg) (n a c : Nat) (x : LoopRep) : LoopRep :=
  if x.locked then x
  else
    let x := { x with locked := true }
    let limit := (i.coef (c + 3)).toNat
    if x.mode = lsRun ∨ x.mode = lsRamp then
      let bad := i.coef c < x.node a && i.coef (c + 1) < (x.node (a + 1)).natAbs
        && i.coef (c + 2) < (x.node i.torqueNode).natAbs
      let k := if bad then x.count + 1 else 0
      let x := ({ x with count := k }).stepNode n k
      if limit ≤ k then ({ x with lost := true }).setNode i.torqueNode 0 else x
    else if x.mode = lsCatch ∨ x.mode = lsHold then
      let k := if x.node a ≤ i.coef c then x.count + 1 else 0
      { x with count := k, back := limit ≤ k }
    else x

/-! ### Outputs and frames (R227, R238, R243, R245) -/

/-- A clamp to a range, and whether it acted. -/
def clampTo (lo hi v : Int) : Int × Bool := if v < lo then (lo, true) else if hi < v then (hi, true) else (v, false)

/-- The slot may request pulses. -/
def Dev.slotEnables (d : Dev) (k : Nat) : Bool :=
  let st := d.slotState k
  (st = lsRun || st = lsRamp || st = lsHold || st = lsCatch) && !(d.slot k).noEnable

/-- Sends the frame of a sample on the slot's gate link, from the outputs last issued (R238, R245). -/
def Dev.sendFrame (d : Dev) (i : SlotImg) (number : DWord) (repeated : Bool) : Dev :=
  match i.glink with
  | none => d
  | some g =>
    if !d.role.runs || d.committed then d
    else
      let out (o : Nat) : Int := (sget (fun _ => (0 : Word)) (d.slot i.num).outs o).toInt
      let (u, cu) := clampTo 0 65535 (out 0)
      let (v, cv) := clampTo 0 65535 (out 1)
      let (w, cw) := clampTo 0 65535 (out 2)
      let (x, cx) := clampTo (-32768) 32767 (out 3)
      let enable := out 4 ≠ 0 && d.slotEnables i.num
      let l := d.link g
      let unblock := enable && l.blockEnded && l.zeroSent
      let frame := if i.trigger = 1 then w32 number.toNat + 1 else w32 (d.rd (R.GLINK_RX_FRAME g)) + 1
      let f : CmdFrame :=
        { type := if d.role = .standby then 2 else 1, enable := enable, unblock := unblock
          shadowValid := d.role = .standby && !(d.slot i.num).shadowBad && !d.on R.TWIN_STATUS_COPYING
          repeated := repeated, frame := frame, epoch := d.twin.epoch
          u := u.toNat, v := v.toNat, w := w.toNat, aux := x }
      let d := d.onLink g (fun l => { l with
        sent := some f, zeroSent := l.blockEnded && !unblock && (l.zeroSent || !enable), blockEnded := l.blockEnded && !unblock })
      let d := (d.wr (R.GLINK_FRAME g) frame.toNat).wr (R.GLINK_EPOCH g) f.epoch.toNat
      d.when (cu || cv || cw || cx) (fun d => d.raise (R.LOOP_STATUS_SAT_OUT i.num))

/-- The 24 bytes of a command frame (R243). -/
def CmdFrame.bytes (f : CmdFrame) : List Byte :=
  let flags := bit f.enable + 2 * bit f.unblock + 4 * bit f.shadowValid + 8 * bit f.repeated
  let b := [BitVec.ofNat 8 f.type, BitVec.ofNat 8 flags, 0, 0] ++ leBytes 4 f.frame.toNat
    ++ leBytes 4 f.epoch.toNat ++ leBytes 2 f.u ++ leBytes 2 f.v ++ leBytes 2 f.w ++ leBytes 2 (f.aux % 2 ^ 16).toNat
  b ++ leBytes 4 (crc32 b)

/-! ### Message words and receive ports (R167, R168, R228, R256) -/

/-- A word enters the filling buffer of a receive port on every replica of a tile. -/
def Dev.portWrite (d : Dev) (t p w : Nat) (v : DWord) : Dev :=
  let put (x : Replica) : Replica :=
    let q := sget (fun _ => {}) x.ports p
    let f := q.filling
    let f : PortBuf := { words := oput f.words w v, repeated := f.repeated || (oget f.words w).isSome }
    { x with ports := sput (fun _ => {}) x.ports p ({ q with filling := f } : RecvPort) }
  let tl := d.tile t
  d.putTile t { tl with repA := put tl.repA, repB := put tl.repB, repC := put tl.repC }

/-- An issued loop output reaches its mapped destination. -/
def Dev.loopDeliver (d : Dev) (dst : LoopDst) (v : Word) : Dev :=
  match dst with
  | .port t p w => d.portWrite (d.tileOf t) p w (v.signExtend 64)
  | .station n off =>
    let bs := Memory.writeBytes (sget (fun _ => []) d.ring.loopOut n) off (leBytes 4 v.toNat)
    { d with ring := { d.ring with loopOut := sput (fun _ => []) d.ring.loopOut n bs } }
  | .none | .link | .input _ _ => d

/-- The axis group of an axis. -/
def Dev.axisGroup (d : Dev) (a : Nat) : Option AxisGroupImg :=
  match d.hrn.image with
  | some im => im.axes.find? (fun g => g.axes.any (fun x => x.num = a))
  | none => none

/-- An issued message word goes to its destination port: a set-point of a slot (0x0200 + s), an axis command
(0x0300 + axis), or the receive ports that PARTITIONS binds to it. -/
def Dev.messageWord (d : Dev) (port w : Nat) (v : DWord) : Dev :=
  if 0x200 ≤ port ∧ port < 0x230 then
    if w < 16 then
      d.onSlot (port - 0x200) (fun s => { s with staged := sput (fun _ => 0) s.staged w (w32 v.toNat) })
    else d
  else if 0x300 ≤ port ∧ port < 0x320 then
    match d.axisGroup (port - 0x300) with
    | some g => d.onGroup g.num (fun x => { x with
        words := x.words.filter (fun y => y.1 ≠ port - 0x300 ∨ y.2.1 ≠ w) ++ [(port - 0x300, w, v)] })
    | none => d
  else match d.hrn.image with
    | none => d
    | some im => im.parts.foldl (fun d p =>
        p.recvs.foldl (fun d r => if r.2 = port then d.portWrite (d.tileOf p.tile) r.1 w v else d) d) d

/-! ### The end of a sample (R225, R238, R245) -/

/-- Chained slots are triggered when the source's sample has retired END. -/
def Dev.triggerChain (d : Dev) (k : Nat) (number : DWord) : Dev :=
  match d.hrn.image with
  | none => d
  | some im => (im.slots.filter (fun i => i.trigger = 3 && i.chainFrom = k)).foldl
      (fun d i => d.triggerSlot i number false) d

/-- A loop output word is issued (R140, R238): late outputs are discarded. -/
def Dev.issueOutput (d : Dev) (slot o : Nat) (v : Word) : Dev :=
  match (d.slot slot).running with
  | some s => if s.late then d else d.onSlot slot (fun x => { x with fresh := sput (fun _ => 0) x.fresh o v })
  | none => d

/-- Marks the first sample of a list that is not late. -/
def markLate : List LoopSample → List LoopSample
  | [] => []
  | s :: rest => if s.late then s :: markLate rest else { s with late := true } :: rest

/-- The last issued values of a slot go to its mapped destinations. -/
def Dev.deliverOuts (d : Dev) (i : SlotImg) (outs : List (Nat × Word)) : Dev :=
  outs.foldl (fun d p => match oget i.outputs p.1 with
    | some dst => d.loopDeliver dst p.2
    | none => d) d

/-- The deadline of the slot's oldest sample that is not late passes before its outputs are issued: the previous values go
out again, and the third such sample in a row is a loop fault (R237 to R239). -/
def Dev.missDeadline (d : Dev) (i : SlotImg) : Dev :=
  let k := i.num
  let x := d.slot k
  match (x.running.toList ++ x.waiting).find? (fun s => !s.late) with
  | none => d
  | some s =>
    let d := d.onSlot k (fun x => match x.running with
      | some r => if r.late then { x with waiting := markLate x.waiting } else { x with running := some { r with late := true } }
      | none => { x with waiting := markLate x.waiting })
    let d := ((d.deliverOuts i x.outs).sendFrame i s.number true).raise (R.LOOP_STATUS_OVERRUN k)
    let d := (d.incSat (R.LOOP_COUNT_OVERRUNS k)).incSat (R.LOOP_STATUS_OVR_RUN k)
    if d.rd (R.LOOP_STATUS_OVR_RUN k) = 3 then d.loopFault k lcOverrun 0 else d

/-- The voter has issued the sample-end marker: an on-time sample's outputs go to their destinations. A sample is on time
when its last output is issued by its deadline (R237). -/
def Dev.endSample (d : Dev) (t : Nat) : Dev :=
  match d.runningSlot t with
  | none => d
  | some i =>
    match (d.slot i.num).running with
    | none => d
    | some s =>
      let k := i.num
      let late := s.late || s.deadline.toNat < d.now.toNat
      let d := d.when (late && !s.late) (fun d => d.missDeadline i)
      let fresh := (d.slot k).fresh
      let d := d.onSlot k (fun x => { x with running := none, last := some s.number, fresh := [] })
      let d := (d.wrSat (R.LOOP_TIME_LAST_NS k) (d.since s.at_)).maxTo (R.LOOP_TIME_MAX_NS k) (d.since s.at_)
      let d := if late then d
        else
          let d := d.onSlot k (fun x => { x with outs := fresh.foldl (fun m p => sput (fun _ => 0) m p.1 p.2) x.outs })
          ((d.drop (R.LOOP_STATUS_OVR_RUN k)).deliverOuts i fresh).sendFrame i s.number false
      (d.awlCapture t k).triggerChain k s.number

/-! ### Cycle boundaries and roles (R228, R241, R260) -/

/-- At a boundary the set-points and axis commands issued in the cycle are armed, and fault resets become
due with the next sample. -/
def Dev.loopBoundary (d : Dev) : Dev :=
  let slot (x : LoopSlot) : LoopSlot :=
    { x with armed := x.staged.foldl (fun m p => sput (fun _ => 0) m p.1 p.2) x.armed, staged := []
             resetArmed := x.resetArmed || x.resetDue, resetDue := false }
  let group (g : AxisGroup) : AxisGroup := { g with armed := g.armed ++ g.words, words := [] }
  let d := d.usedSlots.foldl (fun d k => d.onSlot k slot) d
  { d with loop := { d.loop with groups := d.loop.groups.map (fun p => (p.1, group p.2)) } }

/-- A slot enters a role: nodes 32 to 255 load from INIT, and the slot runs unless its fault is latched. -/
def Dev.slotEnters (d : Dev) (i : SlotImg) : Dev :=
  let init (_ : LoopRep) : LoopRep := i.init.foldl (fun x p => x.stepNode p.1 p.2.toInt) {}
  let d := d.onSlot i.num (fun s => { s.eachRep init with
    waiting := [], running := none, last := none, outs := [], fresh := [], set := [], armed := [], staged := []
    missRun := 0, passed := none, resetFrom := none, coasting := 0, noEnable := false, ramp := 0, shadowBad := false })
  if d.slotState i.num = lsFault then d else d.setSlotState i.num lsRun

/-- A slot freezes when the module leaves its role. DEDUCED (log 64). -/
def Dev.slotLeaves (d : Dev) (k : Nat) : Dev :=
  let d := d.onSlot k (fun s => { s.eachRep (fun x => { x with running := false }) with waiting := [], running := none })
  if d.slotState k = lsFault then d else d.setSlotState k lsStopped

/-- The loop engine at a change of role (R46, R259, R260). -/
def Dev.loopRole (d : Dev) (prev new : Role) : Dev :=
  let d := d.awlAbort
  match d.hrn.image with
  | none => d
  | some im =>
    if new.runs && !prev.runs then im.slots.foldl (fun d i => d.slotEnters i) d
    else if prev.runs && !new.runs then
      let d := im.slots.foldl (fun d i => d.slotLeaves i.num) d
      { d with loop := { d.loop with links := d.loop.links.map (fun p => (p.1, { p.2 with sent := none })) } }
    else d

end Sys2Proof.Machine
end

