-- ==== Sys2Proof/Machine/AxisOps.lean ====
section
/-! DEFINITION. The axis profile generator: profiles, commands, set-points and status words (R253 to R256). -/

namespace Sys2Proof.Machine

/-! ### The profile of a move from rest (R254, R255) -/

/-- States of the status word (R256). -/
def axIdle : Nat := 0
def axMoving : Nat := 1
def axStopping : Nat := 2
def axHold : Nat := 3
def axFault : Nat := 4

/-- The least number below 2^bits + base that satisfies a condition which, once true, stays true. -/
def leastFrom (p : Nat → Bool) : Nat → Nat → Nat
  | 0, b => b
  | k + 1, b => if p (b + 2 ^ k - 1) then leastFrom p k b else leastFrom p k (b + 2 ^ k)

/-- The least such number of axis periods. -/
def leastPeriods (p : Nat → Bool) : Nat := leastFrom p 48 0

/-- A number to nearest (R232). -/
def nearest (x : Rat) : Int := (x + 1 / 2).floor

/-- A time in whole axis periods, rounded up. -/
def wholePeriods (τ t : Rat) : Nat := (t / τ).ceil.toNat

/-- The path to a peak rate v and from it back to rest is below x: with limits a, d and jerk j, a half that reaches its
limit takes v / a + a / j, one that does not takes 2 √(v / j). -/
def pathBelow (a d j v x : Rat) : Bool :=
  let reached (l : Rat) : Bool := l * l ≤ v * j
  let half (l : Rat) : Rat := if reached l then v / l + l / j else 0
  let roots : Rat := (if reached a then 0 else 1) + (if reached d then 0 else 1)
  let rest := x - v / 2 * (half a + half d)
  0 < rest && roots * roots * (v * v * v) < rest * rest * j

/-- The periods of the seven segments along the path of length 1 from rest to rest (R254): limits v, a, d, j in path per
second, τ the axis period in seconds. A move too short for a limit stays below it, and the segment of that limit is
skipped. DEDUCED (log 70). -/
def pathSegments (v a d j τ : Rat) : List Nat :=
  let short := !pathBelow a d j v 1
  let ramps (l : Rat) : Nat × Nat :=
    if short then
      if pathBelow a d j (l * l / j) 1 then
        (wholePeriods τ (l / j), leastPeriods (fun n => !pathBelow a d j (l * (n * τ + l / j)) 1))
      else (leastPeriods (fun n => !pathBelow a d j (j * (n * τ) * (n * τ)) 1), 0)
    else if l * l ≤ v * j then (wholePeriods τ (l / j), wholePeriods τ (v / l - l / j))
    else (leastPeriods (fun n => v ≤ j * (n * τ) * (n * τ)), 0)
  let (ja, ta) := ramps a
  let (jd, td) := ramps d
  let cruise := if short then 0 else leastPeriods (fun n => !pathBelow a d j v (1 - v * (n * τ)))
  [ja, ta, ja, cruise, jd, td, jd]

/-- Path, rate and acceleration, in periods, after t periods of a rise from rest to rate 1 in segments J, A, J. -/
def rise (j a t : Nat) : Rat × Rat × Rat :=
  let c : Rat := 1 / (j * (j + a))
  if t ≤ j then (c * t ^ 3 / 6, c * t ^ 2 / 2, c * t)
  else if t ≤ j + a then
    let u : Rat := (t - j : Nat)
    (c * (j ^ 3 / 6 + j ^ 2 * u / 2 + j * u ^ 2 / 2), c * (j ^ 2 / 2 + j * u), c * j)
  else
    let r : Rat := (2 * j + a - t : Nat)
    ((2 * j + a) / 2 - r + c * r ^ 3 / 6, 1 - c * r ^ 2 / 2, c * r)

/-- The path s, its rate per period and its acceleration per period² after k periods. -/
def pathAt (segs : List Nat) (k : Nat) : Rat × Rat × Rat :=
  let n (i : Nat) : Nat := (segs[i]?).getD 0
  let acc := 2 * n 0 + n 1
  let dec := 2 * n 4 + n 5
  let total := acc + n 3 + dec
  let peak : Rat := 2 / (acc + 2 * n 3 + dec)
  if total ≤ k then (1, 0, 0)
  else if k ≤ acc then
    let (s, v, a) := rise (n 0) (n 1) k
    (peak * s, peak * v, peak * a)
  else if k ≤ acc + n 3 then (peak * (acc / 2 + (k - acc : Nat)), peak, 0)
  else
    let (s, v, a) := rise (n 4) (n 5) (total - k)
    (1 - peak * s, peak * v, -(peak * a))

/-- The periods of the three segments of a stop from speed v and acceleration a (R256): jerk to the deceleration d,
constant deceleration, jerk to rest; a stop too short for d stays below it. -/
def stopSegments (v a d j τ : Rat) : Nat × Nat × Nat :=
  let short := v * j + a * a / 2 < d * d
  if short then
    let peak2 := j * v + a * a / 2
    (leastPeriods (fun n => 0 ≤ j * (n * τ) - a && peak2 ≤ (j * (n * τ) - a) * (j * (n * τ) - a)), 0,
      leastPeriods (fun n => peak2 ≤ (j * (n * τ)) * (j * (n * τ))))
  else (wholePeriods τ ((a + d) / j), wholePeriods τ ((v + a * a / (2 * j) - d * d / j) / d), wholePeriods τ (d / j))

/-- Position, velocity and acceleration after k periods of a stop with segments n1, n2, n3 from p, v and a: the peak
deceleration is such that it ends at rest. -/
def stopAt (n1 n2 n3 k : Nat) (τ p v a : Rat) : Rat × Rat × Rat :=
  let m : Rat := n1 + 2 * n2 + n3
  let d : Rat := (2 * v + a * n1 * τ) / (τ * m)
  let p1 := p + v * (n1 * τ) + a * (n1 * τ) ^ 2 / 2 - (a + d) * (n1 * τ) ^ 2 / 6
  let v1 := v + n1 * τ * (a - d) / 2
  let p2 := p1 + v1 * (n2 * τ) - d * (n2 * τ) ^ 2 / 2
  let last := d * (n3 * τ) ^ 2 / 6
  if n1 + n2 + n3 ≤ k then (p2 + last, 0, 0)
  else if k ≤ n1 then
    let t : Rat := k * τ
    (p + v * t + a * t ^ 2 / 2 - (a + d) * t ^ 3 / (6 * (n1 * τ)), v + a * t - (a + d) * t ^ 2 / (2 * (n1 * τ)),
      a - (a + d) * k / n1)
  else if k ≤ n1 + n2 then
    let u : Rat := (k - n1 : Nat) * τ
    (p1 + v1 * u - d * u ^ 2 / 2, v1 - d * u, -d)
  else
    let r : Rat := (n1 + n2 + n3 - k : Nat) * τ
    (p2 + last - d * r ^ 3 / (6 * (n3 * τ)), d * r ^ 2 / (2 * (n3 * τ)), -(d * r / (n3 * τ)))

/-- The total periods of a profile. -/
def segTotal (segs : List Nat) : Nat := segs.foldl (· + ·) 0

/-- The segment, 1 to 7, that a period lies in; 0 when the profile has ended. -/
def segmentAt (segs : List Nat) (k : Nat) : Nat :=
  ((List.range segs.length).find? (fun i => k < segTotal (segs.take (i + 1)))).elim 0 (· + 1)

/-- The axis period in seconds. -/
def AxisGroupImg.tau (g : AxisGroupImg) : Rat := (g.period : Rat) / nsPerSecond

/-- The present position, velocity and acceleration of an axis, with 32 fractional bits. -/
def AxisGroup.position (g : AxisGroup) (a : Nat) : Int := sget (fun _ => (0 : Int)) g.pos a
def AxisGroup.velocity (g : AxisGroup) (a : Nat) : Int := sget (fun _ => (0 : Int)) g.vel a
def AxisGroup.acceleration (g : AxisGroup) (a : Nat) : Int := sget (fun _ => (0 : Int)) g.acc a

/-- The length of a trajectory in periods. -/
def AxisMove.length : AxisMove → Nat
  | .none => 0
  | .profile _ _ segs => segTotal segs
  | .stop _ n1 n2 n3 => n1 + n2 + n3
  | .blend id _ => Config.axisBlendLength id + 1

/-- The positions, velocities and accelerations of a trajectory after k periods, each computed exactly and rounded once.
A move begun in motion ends at rest at its targets, and on its way its velocity is a free value within v_max.
DEDUCED (logs 70, 71). -/
def AxisMove.at_ (m : AxisMove) (g : AxisGroupImg) (k : Nat) : List (Nat × Int × Int × Int) :=
  match m with
  | .none => []
  | .profile start dist segs =>
    let (s, v, a) := pathAt segs k
    dist.map (fun p => (p.1, sget (fun _ => 0) start p.1 + nearest (p.2 * s), nearest (p.2 * v / g.tau),
      nearest (p.2 * a / (g.tau * g.tau))))
  | .stop start n1 n2 n3 => start.map (fun p =>
      let (x, v, a) := stopAt n1 n2 n3 k g.tau p.2.1 p.2.2.1 p.2.2.2
      (p.1, nearest x, nearest v, nearest a))
  | .blend id targets => targets.map (fun p =>
      if m.length ≤ k then (p.1, p.2, 0, 0)
      else
        let (x, v, a) := Config.axisBlend id p.1 k
        let top : Int := (g.axes.find? (fun y => y.num = p.1)).elim 0 (fun y => (y.vMax : Int) * 2 ^ 32)
        (p.1, x, (clampTo (-top) top v).1, a))

/-! ### Commands (R256) -/

/-- A group's settings. -/
def Dev.groupImg (d : Dev) (g : Nat) : Option AxisGroupImg :=
  match d.hrn.image with
  | some im => im.axes.find? (fun x => x.num = g)
  | none => none

/-- The override in percent: a word of 1 to 100; any other is a free value. -/
def overridePct (v : Nat) : Nat := if 1 ≤ v ∧ v ≤ 100 then v else Config.axisOverride v

/-- The least of some ratios; 0 without any. -/
def leastOf : List Rat → Rat
  | [] => 0
  | x :: xs => xs.foldl (fun a b => if b < a then b else a) x

/-- The least ratio of a limit to a number over the axes whose number is not 0 (R255). -/
def AxisGroupImg.pathLimit (g : AxisGroupImg) (limit : AxisImg → Nat) (n : Nat → Int) : Rat :=
  leastOf ((g.axes.filter (fun a => n a.num ≠ 0)).map (fun a => (limit a * 2 ^ 32 : Rat) / (n a.num).natAbs))

/-- The segments of a move from rest over distances in units of 2^−32 µm, with the speed override in percent. With a limit
of 0 they are free values. -/
def moveSegments (g : AxisGroupImg) (dist : List (Nat × Int)) (pct free : Nat) : List Nat :=
  let n (a : Nat) : Int := sget (fun _ => (0 : Int)) dist a
  let lim (f : AxisImg → Nat) : Rat := g.pathLimit f n
  if g.axes.all (fun a => n a.num = 0) then []
  else if lim (·.vMax) = 0 || lim (·.aMax) = 0 || lim (·.dMax) = 0 || lim (·.jMax) = 0 || g.period = 0 then
    Config.axisSegments free
  else pathSegments (lim (·.vMax) * pct / 100) (lim (·.aMax)) (lim (·.dMax)) (lim (·.jMax)) g.tau

/-- The stop of a group from its present motion (R256): ramped at the d_max and the j_max of its path. With a limit of 0
its segments are free values. -/
def AxisGroup.stopMove (x : AxisGroup) (g : AxisGroupImg) (free : Nat) : AxisMove :=
  let start := g.axes.map (fun a => (a.num, x.position a.num, x.velocity a.num, x.acceleration a.num))
  match start.find? (fun p => p.2.2.1 ≠ 0) with
  | none => .stop (start.map (fun p => (p.1, p.2.1, 0, 0))) 0 0 0
  | some (_, _, v, a) =>
    let speed : Rat := v.natAbs
    let acc : Rat := if v < 0 then -a else a
    let d := g.pathLimit (·.dMax) x.velocity * speed
    let j := g.pathLimit (·.jMax) x.velocity * speed
    if d = 0 || j = 0 || g.period = 0 then
      .stop start ((Config.axisSegments free)[0]?.getD 0) ((Config.axisSegments free)[1]?.getD 0)
        ((Config.axisSegments free)[2]?.getD 0)
    else
      let (n1, n2, n3) := stopSegments speed acc d j g.tau
      .stop start n1 n2 n3

/-- A group is at rest. -/
def AxisGroup.resting (g : AxisGroup) : Bool := g.move = .none

/-- Starts a move of a group to targets in µm × 2^32: from rest by its profile; in motion from the present
velocity and acceleration, on a trajectory that ends at the targets and is otherwise a free value. -/
def Dev.startMove (d : Dev) (g : AxisGroupImg) (targets : List (Nat × Int)) (pct : Nat) : Dev :=
  let x := d.group g.num
  let dist := targets.map (fun p => (p.1, p.2 - x.position p.1))
  let m : AxisMove :=
    if x.resting then
      .profile (g.axes.map (fun a => (a.num, x.position a.num)))
        (dist.map (fun p => (p.1, p.2))) (moveSegments g dist pct d.free)
    else .blend d.free targets
  ({ d with free := d.free + 1 }).onGroup g.num (fun x => { x with
    state := axMoving, done := false, refused := false, move := m, period := 0, held := some targets })

/-- Positions limit a target (R256). -/
def AxisGroupImg.allowed (g : AxisGroupImg) (targets : List (Nat × Int)) : Bool :=
  targets.all (fun p => g.axes.any (fun a =>
    a.num = p.1 && a.posLo * 2 ^ 32 ≤ p.2 && p.2 ≤ a.posHi * 2 ^ 32))

/-- Targets for every axis of a group; an axis without one stays where it is. -/
def AxisGroup.fullTargets (x : AxisGroup) (g : AxisGroupImg) (ts : List (Nat × Int)) : List (Nat × Int) :=
  g.axes.map (fun a => (a.num, match ts.find? (fun p => p.1 = a.num) with
    | some p => p.2
    | none => x.position a.num))

/-- MOVE_ABS and MOVE_REL: a target outside the limits is refused; in fault no move starts. -/
def Dev.axisMove (d : Dev) (n : Nat) (rel : Bool) (ts : List (Nat × Int)) (pct : Nat) : Dev :=
  match d.groupImg n with
  | none => d
  | some g =>
    let x := d.group n
    let ts := ts.map (fun p => (p.1, p.2 * 2 ^ 32 + (if rel then x.position p.1 else 0)))
    let full := x.fullTargets g ts
    if x.state = axFault || !ts.all (fun p => g.axes.any (fun a => a.num = p.1)) || !g.allowed (full.filter (fun p =>
        ts.any (fun q => q.1 = p.1))) then
      d.onGroup n (fun x => { x with refused := true })
    else d.startMove g full (overridePct pct)

/-- A ramped stop: STOP ends the move, a held one too; HOLD keeps its targets. -/
def Dev.axisRampDown (d : Dev) (n : Nat) (hold : Bool) : Dev :=
  match d.groupImg n with
  | none => d
  | some g =>
    let x := d.group n
    if x.state = axHold ∧ !hold then
      d.onGroup n (fun x => { x with state := if x.resting then axIdle else axStopping, held := none })
    else if x.state ≠ axMoving then d
    else
      ({ d with free := d.free + 1 }).onGroup n (fun x => { x with
        state := if hold then axHold else axStopping, move := x.stopMove g d.free, period := 0
        held := if hold then x.held else none })

/-- RESUME: a held move continues to its targets. -/
def Dev.axisResume (d : Dev) (n : Nat) : Dev :=
  match d.groupImg n, (d.group n).held with
  | some g, some ts => if (d.group n).state = axHold then d.startMove g ts 100 else d
  | _, _ => d

/-- RESET_FAULT. -/
def Dev.axisResetFault (d : Dev) (n : Nat) : Dev :=
  d.onGroup n (fun x => if x.state = axFault then { x with state := axIdle } else x)

/-- The command words of one cycle take effect together: the command word of the lowest axis that has one,
with every axis's target word (R256). -/
def Dev.axisWords (d : Dev) (n : Nat) : Dev :=
  let ws := (d.group n).armed
  let d := d.onGroup n (fun x => { x with armed := [] })
  let word (a w : Nat) : Option DWord := (ws.find? (fun y => y.1 = a ∧ y.2.1 = w)).map (·.2.2)
  match (ws.filter (fun y => y.2.1 = 0)).foldl (fun (b : Option (Nat × DWord)) y =>
      match b with
      | some c => if y.1 < c.1 then some (y.1, y.2.2) else b
      | none => some (y.1, y.2.2)) none with
  | none => d
  | some (a, c) =>
    let ts := (ws.filter (fun y => y.2.1 = 1)).map (fun y => (y.1, y.2.2.toInt))
    let pct := match word a 2 with | some v => v.toNat | none => 100
    match c.toNat with
    | 1 => d.axisMove n false ts pct
    | 2 => d.axisMove n true ts pct
    | 3 => d.axisRampDown n false
    | 4 => d.axisRampDown n true
    | 5 => d.axisResume n
    | 6 => d.axisResetFault n
    | _ => d

/-! ### One axis period (R256) -/

/-- The status word of a group. DEDUCED (log 72). -/
def AxisGroup.status (x : AxisGroup) : DWord :=
  BitVec.ofNat 64 (x.state + 8 * bit x.done + 16 * bit x.refused + 256 * x.segment)

/-- Moves a group on by one period. -/
def Dev.advanceAxis (d : Dev) (g : AxisGroupImg) : Dev :=
  let x := d.group g.num
  if x.resting then d
  else
    let k := x.period + 1
    let pts := x.move.at_ g k
    let ended := x.move.length ≤ k
    d.onGroup g.num (fun x => { x with
      pos := pts.foldl (fun m p => sput (fun _ => 0) m p.1 p.2.1) x.pos
      vel := pts.foldl (fun m p => sput (fun _ => 0) m p.1 p.2.2.1) x.vel
      acc := pts.foldl (fun m p => sput (fun _ => 0) m p.1 p.2.2.2) x.acc
      period := k
      segment := match x.move with
        | .profile _ _ segs => if ended then 0 else segmentAt segs k
        | _ => 0
      move := if ended then .none else x.move
      done := x.done || (ended && x.state = axMoving)
      state := if ended && x.state ≠ axHold then axIdle else x.state })

/-- What the bridle is passed of an axis: its speed and the limits of its ramp (R256). -/
def Dev.passEnvelope (d : Dev) (g : AxisGroupImg) : Dev :=
  let x := d.group g.num
  d.onSafety (fun s => { s with envelope := g.axes.foldl (fun m a =>
    oput m a.num ((x.velocity a.num).natAbs, a.dMax, a.jMax)) s.envelope })

/-- The set-points leave as loop output words of the tile's replicas, the status word goes to its receive port, and the
deceleration envelope to the bridle. PRESUMED (log 73). -/
def Dev.issueAxis (d : Dev) (g : AxisGroupImg) : Dev :=
  let t := d.tileOf g.tile
  let x := d.group g.num
  let word (v : Int) : DWord := BitVec.ofInt 64 (satTo 32 (rnd v 32)).1
  let d := (d.serving t).foldl (fun d r =>
    g.axes.foldl (fun d a => d.onRep t r (fun y =>
      (y.retireEffect 5 0xFF (w32 (0x80 + a.num)) (word (x.position a.num))).retireEffect 5 0xFF
        (w32 (0x80 + a.num + 256)) (word (x.velocity a.num)))) d) d
  let d := d.passEnvelope g
  g.axes.foldl (fun d a => match a.status with
    | .port t p w => d.portWrite (d.tileOf t) p w x.status
    | _ => d) d

/-- An issued set-point of an axis reaches its mapped destination. -/
def Dev.axisDeliver (d : Dev) (axis o : Nat) (v : Word) : Dev :=
  match d.axisGroup axis with
  | none => d
  | some g => match g.axes.find? (fun a => a.num = axis) with
    | none => d
    | some a => match if o = 0 then a.posDst else a.velDst with
      | .input slot node => d.onSlot slot (fun s => s.eachRep (fun x => x.setNode node v.toInt))
      | dst => d.loopDeliver dst v

/-- AXIS_PERIOD: the words in force are taken, the profile moves on, and its words are issued. -/
def Dev.axisTick (d : Dev) (n : Nat) : Dev :=
  match d.groupImg n with
  | none => d
  | some g => if d.role.runs then ((d.axisWords n).advanceAxis g).issueAxis g else d

end Sys2Proof.Machine
end

