-- ==== Sys2Proof/Machine/Axis.lean ====
section
/-! DEFINITION. The meanings of the axis commands (R253 to R256). -/

namespace Sys2Proof.Machine

/-- MOVE_ABS: the group moves to targets in µm. -/
def execMoveAbs (group : Fin 32) (targets : List (Nat × Int)) (override : Nat) (s : State) :
    Host.Outcome State Fault Refusal :=
  s.act fun d => d.axisMove group.val false targets override

/-- MOVE_REL: the group moves by distances in µm. -/
def execMoveRel (group : Fin 32) (distances : List (Nat × Int)) (override : Nat) (s : State) :
    Host.Outcome State Fault Refusal :=
  s.act fun d => d.axisMove group.val true distances override

/-- STOP: ramped at d_max. -/
def execAxisStop (group : Fin 32) (s : State) : Host.Outcome State Fault Refusal :=
  s.act fun d => d.axisRampDown group.val false

/-- HOLD: a ramped stop that keeps the move. -/
def execAxisHold (group : Fin 32) (s : State) : Host.Outcome State Fault Refusal :=
  s.act fun d => d.axisRampDown group.val true

/-- RESUME: the held move continues. -/
def execAxisResume (group : Fin 32) (s : State) : Host.Outcome State Fault Refusal :=
  s.act fun d => d.axisResume group.val

/-- RESET_FAULT. -/
def execAxisResetFault (group : Fin 32) (s : State) : Host.Outcome State Fault Refusal :=
  s.act fun d => d.axisResetFault group.val

/-- AXIS_PERIOD: set-points, status and the profile's next period. -/
def execAxisPeriod (group : Fin 32) (s : State) : Host.Outcome State Fault Refusal :=
  s.act fun d => d.axisTick group.val

end Sys2Proof.Machine
end

