-- ==== Sys2Proof/Machine/Roles.lean ====
section
/-! DEFINITION. Changes of role and module reset, as operations that the commands share (R9 to R12, R26,
R27, R46, R57, R60, R365). -/

namespace Sys2Proof.Machine

/-- Enters a role: `TWIN.TAKE_T` takes T, the cause ROLE of R331 follows the role, and the loop engine,
the safety functions, local I/O and the CAN ports follow it (R260, R284, R398, R416). The pins follow at once into a
role in which no cycles run, and otherwise at the first boundary in the new role (R46: `Dev.takePins`).
DEDUCED (log 29). -/
def Dev.setRole (d : Dev) (r : Role) : Dev :=
  let prev := d.role
  let d := d.wr64 R.TWIN_TAKE_T_LO R.TWIN_TAKE_T_HI d.timeT
  let d := { d with role := r }.setCause 5 (r != Role.standby)
  let d := { d with
    power := { d.power with
      faultStop := d.power.faultStop && r == Role.stopped
      pinRole := if r.runs then d.power.pinRole else r } }
  (((d.loopRole prev r).safetyRole prev r).ioRole prev r).canRole prev r

/-- No cycle runs from here on. -/
def Dev.stopCycles (d : Dev) : Dev :=
  { d with
    tiles := d.tiles.map (fun p => (p.1, p.2.halt))
    cycle := { d.cycle with running := false, began := false, inbox := [], listed := [], waiting := [], delivered := [], pubDue := [] } }

/-- The module goes to STOPPED (or to SAFETY_MAINT): programs stop, every output takes its safe state, and
the writes that wait for a boundary are applied at this entry (R46, R483, R486). -/
def Dev.leaveTo (d : Dev) (r : Role) : Dev :=
  let d := d.stopCycles.setRole r
  let d := (d.drop R.DIO_STATUS_GROUPS).clear
    [R.CYCLE_STATUS_FALLBACK, R.CYCLE_STATUS_RETURNING, R.CYCLE_STATUS_FORCED, R.CYCLE_STATUS_OVER_COUNT]
  let d := { d with power := { d.power with start := { d.power.start with listening := false, waitingA := false } } }
  d.applyStaged

/-- The module goes to STOPPED after a fault. From the commit of a power failure on it keeps its role until reset: the
local outputs hold their last values (R56). -/
def Dev.goStopped (d : Dev) : Dev :=
  let d := { d with power := { d.power with faultStop := true } }
  if d.role = .stopped || d.committed then d else d.leaveTo .stopped

/-- The module enters ACTIVE or SOLO: the step is disarmed, the DIO outputs are enabled in groups from
here, a return from the fall-back schedule ends, and the first cycle in command follows (R60, R201, R217, R367). -/
def Dev.enterCommand (d : Dev) (r : Role) : Dev :=
  let d := d.setRole r
  let d := (d.disarmStep.clear [R.DIO_STATUS_GROUPS, R.CYCLE_STATUS_RETURNING]).wr R.TWIN_TOKENS_HELD 0
  { d with
    cycle := { d.cycle with running := true, firstDue := true, roleDue := true, below := 0 }
    twin := { d.twin with
      commandSince := d.now, tokensDone := false, tokens := d.twin.tokens.map (fun p => (p.1, false)) } }

/-- The module enters STANDBY: its time base restarts to follow the ACTIVE, and a state copy is due
(R330, R375). -/
def Dev.enterStandby (d : Dev) : Dev :=
  let d := (d.setRole .standby).restartTime false
  { d with cycle := { d.cycle with running := true, firstDue := true } }.startCopy

/-- The registers whose bits a module reset keeps: offset and mask. Retained fields, what the supplies,
the switches and the saddle set, and the field fuse (R6, R43, R44, R52, R67, R379, R443, R489).
DESIGN CHOICE (log 21). -/
def keptBits : List (Nat × Nat) :=
  [(0x4, 0xFFFFFFFF), (0x8, 0xFFFFFFFF), (0x10, 0xFFFF0000), (0x80, 0x1DFF), (0x84, 0x80), (0x88, 0xC53),
   (0x320008, 0xFFFFFFFF), (0x32000C, 0xFFFFFFFF), (0x400058, 0xFFFFFFFF)]

/-- The code of `MOD.RESET_CAUSE.CAUSE`. DEDUCED (log 19). -/
def resetCode : ResetCause → Nat
  | .powerUp => 0
  | .seated => 1
  | .holdup => 2
  | .restart => 3
  | .watchdog => 4
  | .thermal => 5

/-- Reset with the electronics still powered ends at RESET_RELEASE; after the loss of the loop or of the
hold-up the electronics are unpowered. DEDUCED (log 20). -/
def keepsPower : ResetCause → Bool
  | .restart | .watchdog | .thermal => true
  | _ => false

/-- The register file after a module reset: every register at its reset value but for the bits kept. -/
def keepRegs (regs : List (Nat × Word)) : List (Nat × Word) :=
  keptBits.foldl (fun m k =>
    let old := (sget resetWord regs k.1).toNat &&& k.2
    sput resetWord m k.1 (w32 (((resetWord k.1).toNat &&& (0xFFFFFFFF - k.2)) ||| old))) []

/-- Reset is asserted, for any cause (R26, R27): everything that is not kept over a reset takes its reset
value, and every output group its reset state. Kept are the flash contents, the root of trust, the
counter, and what the outside sets. A power-fail sequence that it ends in ride-through has written no slot (R57, R67). -/
def Dev.moduleReset (d : Dev) (c : ResetCause) : Dev :=
  let d := if d.power.pf = .rideThrough then d.clear [R.POWER_LAST_PF_SAVED, R.POWER_LAST_PF_INCOMPLETE] else d
  let pointerLost := d.hrn.pointerLost || (c = .holdup && d.hrn.staged.any (·.switched))
  let marked := d.hrn.stagedMark || (c = .holdup && d.hrn.staged.any (fun s => !s.switched))
  let n : Dev :=
    { regs := keepRegs d.regs
      conn := { keeper := d.conn.keeper, pins := d.conn.pins }
      power := { powered := d.power.powered && keepsPower c, inReset := keepsPower c, temps := d.power.temps
                 switchOpenA := d.power.switchOpenA, switchOpenB := d.power.switchOpenB
                 lostA := d.power.lostA, lostB := d.power.lostB, fldLost := d.power.fldLost
                 hot := d.power.hot, stopTold := d.power.stopTold }
      time := { counter := d.time.counter, journalT := d.time.journalT }
      evrec := { journal := d.evrec.journal, nextEntry := d.evrec.nextEntry
                 savedLost := d.evrec.savedLost, savedHead := d.evrec.savedHead }
      hist := { set0 := d.hist.set0, set1 := d.hist.set1, keyOf := d.hist.keyOf }
      trust := { d.trust with fwProven := false }
      hrn := { slots := d.hrn.slots, bootPtr := d.hrn.bootPtr, bootEpoch := d.hrn.bootEpoch
               lastSeq := d.hrn.lastSeq, stagedMark := marked, pointerLost := pointerLost }
      cycle := { slots := d.cycle.slots, named := if c = .restart then d.cycle.named else none
                 sources := d.cycle.sources.map (fun s => { s with results := [] }) }
      twin := { epoch := d.twin.epoch }
      bridle := { protect := d.bridle.protect, safety := d.bridle.safety, volts := d.bridle.volts
                  ft := d.bridle.ft, lines := d.bridle.lines, presA := d.bridle.presA, presB := d.bridle.presB }
      life := { d.life with
        testing := false, burning := [], session := none, lock := none, queue := [], holding := [], sealUsed := false }
      io := { cal := d.io.cal }
      free := d.free }
  (n.wr R.RESET_CAUSE_CAUSE (resetCode c)).incSat R.RESET_CAUSE_COUNT

end Sys2Proof.Machine
end

