-- ==== Sys2Proof/Machine/Bridle.lean ====
section
/-! DEFINITION. The meanings of the bridle's commands (R264 to R281). -/

namespace Sys2Proof.Machine

/-! ### Inputs and evaluation (R267 to R272) -/

/-- COMPARATOR_CROSSING (R267): the input of a comparator comes to a voltage, in 1/16 µV. -/
def execComparatorCrossing (comp : Fin 32) (uv16 : Int) (s : State) : Host.Outcome State Fault Refusal :=
  s.act fun d => d.compare comp.val (some (d.bridle.voltsAt comp.val)) uv16

/-- FT_INPUT_CHANGE (R268): an FT input crosses 11 V. -/
def execFtInputChange (ft : Fin 16) (high : Bool) (s : State) : Host.Outcome State Fault Refusal :=
  s.act fun d => d.onBridle (fun b => { b with ft := putBit b.ft ft.val high })

/-- TRIP_LINE_CHANGE (R268, R34): TRIPBUS0 to TRIPBUS3 (0 to 3), or the presence lines TRIPBUS6 and TRIPBUS7
(4 and 5), as other devices drive them. -/
def execTripLineChange (line : Fin 6) (asserted : Bool) (s : State) : Host.Outcome State Fault Refusal :=
  s.act fun d =>
    if line.val < 4 then d.onBridle (fun b => { b with lines := putBit b.lines line.val asserted })
    else
      let d := d.onBridle (fun b => if line.val = 4 then { b with presA := asserted } else { b with presB := asserted })
      let d := if d.partnerPresent then d else d.onBridle (fun b => { b with missPresent := 0 })
      d.showPresence.showPoller

/-- One bridle cycle: the equations are evaluated, new trips recorded, and the outputs driven. -/
def Dev.bridleCycle (d : Dev) : Dev :=
  let before := d.bridle.true_
  let d := (d.onBridle BridleSt.evaluate).noteTrips before
  d.driveOutputs d.safetyBlock

/-- BRIDLE_EVALUATE (R270): one bridle cycle. -/
def execBridleEvaluate (s : State) : Host.Outcome State Fault Refusal :=
  s.act fun d => if d.lit then d.bridleCycle else d

/-- TERM_DELAY_EXPIRY (R270): a term's source has been asserted in DELAY consecutive samples, and the next
sample makes it true. -/
def execTermDelayExpiry (eq : Fin 64) (term : Fin 4) (s : State) : Host.Outcome State Fault Refusal :=
  s.act fun d =>
    match oget (d.bridle.params.getD {}).eqs eq.val with
    | none => d
    | some e => match e.terms[term.val]? with
      | none => d
      | some t =>
        if d.lit && t.en && d.bridle.evaluates && (d.bridle.source t.src != t.inv) then
          (d.onBridle (fun b => { b with
            terms := sput (fun _ => 0) b.terms (eq.val * 4 + term.val) t.delay })).bridleCycle
        else d

/-- OUTPUT_HOLD_EXPIRY (R272): the 10 µs minimum of an output ends. -/
def execOutputHoldExpiry (out : Fin 32) (s : State) : Host.Outcome State Fault Refusal :=
  s.act fun d =>
    (d.onBridle (fun b => { b with held := putBit b.held out.val false })).driveOutputs d.safetyBlock

/-! ### The processor channel (R269, R283) -/

/-- A mapped word of a released output image; 0 when IOMAP names none. -/
def Dev.outWord (d : Dev) (dst : OutDst) (n : Nat) : Nat :=
  match d.hrn.image with
  | none => 0
  | some im =>
    (im.parts.findSome? (fun p => (p.outputs.find? (fun o => o.dst = dst)).map (fun o =>
      Memory.readLe (d.tile (d.tileOf p.tile)).output o.off n))).getD 0

/-- The trip requests of the loop slots. -/
def Dev.loopRequests (d : Dev) : Nat :=
  d.usedSlots.foldl (fun m k => if (d.slot k).tripRequest then putBit m k true else m) 0

/-- BRIDLE_REFRESH (R269): the last released trip and permit words and the loop requests reach the bridle. -/
def execBridleRefresh (s : State) : Host.Outcome State Fault Refusal :=
  s.act fun d =>
    if !d.lit || !d.bridle.checked then d
    else
      let pt := if d.role.runs then d.outWord .trip 2 else 0
      let permit := if d.role.runs then w32 (d.outWord .permit 4) else 0
      let reqs := d.loopRequests
      (d.onBridle (fun b => { b with pt := pt, permit := permit, loopRequests := reqs, procLost := false })).driveSafety

/-- PROC_LOST (R269, R303): no refresh for 100 µs. -/
def execProcLost (s : State) : Host.Outcome State Fault Refusal :=
  s.act fun d =>
    if !d.lit || !d.bridle.checked then d
    else (d.onBridle (fun b => { b with procLost := true })).enterDegraded

/-! ### Trip reset (R271, R279) -/

/-- What TRIP_RESET comes to on an equation: the rows of R271 in order. -/
def Dev.tripResetStatus (d : Dev) (body : List Byte) : Status :=
  let n := ((body[0]?).getD 0).toNat
  if body.length ≠ 4 ∨ (body.drop 1).any (· ≠ 0) ∨ 63 < n then .badRequest
  else if !d.bridle.evaluates then .named "BRIDLE_NOT_RUNNING"
  else match oget (d.bridle.params.getD {}).eqs n with
    | none => .named "NOT_LATCHED"
    | some e =>
      if !(e.latch && testBit d.bridle.true_ n) then .named "NOT_LATCHED"
      else if testBit d.bridle.ands n then .named "STILL_TRUE"
      else .ok

/-- TRIP_RESET (R271): resets a latched equation whose AND is false in this cycle, and records its result. -/
def execTripReset (req : Req) (body : List Byte) (s : State) : Host.Outcome State Fault Refusal :=
  s.act fun d => d.request rqTripReset req fun d =>
    let d := if d.lit then d.bridleCycle else d
    let st := d.tripResetStatus body
    let n := ((body[0]?).getD 0).toNat
    let d := d.eventM .tripReset [w32 n, w32 st.code]
    if st = .ok then
      let d := d.onBridle (fun b => { b with true_ := putBit b.true_ n false })
      (d.driveOutputs d.safetyBlock).done
    else d.refuse st

/-! ### The trip bus (R275, R276) -/

/-- TB_POLL: a trip-bus cycle begins with the poll of this bridle or of the partner, whichever polls; the polls seen are
counted (R275, R281). -/
def execTbPoll (s : State) : Host.Outcome State Fault Refusal :=
  s.act fun d =>
    let d := d.showPoller
    d.when d.lit (fun d => d.onBridle (fun b => { b with polls := (b.polls + 1) % 2 ^ 32, bothPoll := false }))

/-- The partner's poll is seen in the cycle of this bridle's own poll; from then on no answer of the cycle counts (R280). -/
def Dev.takeWindow (d : Dev) (w : TbWindow) : Dev :=
  match w with
  | .poll => d.onBridle (fun b => { b with polls := (b.polls + 1) % 2 ^ 32, bothPoll := b.poller })
  | _ => d

/-- The six bits of a window. -/
def windowAnswer (w : TbWindow) : Option Nat :=
  match w with
  | .bits b => some b.toNat
  | _ => none

/-- TB_ANSWER: the own answer is read back (`own`), or the partner's window is received. In a cycle in which both bridles
have polled an answer counts as missing (R280). -/
def execTbAnswer (own : Bool) (window : TbWindow) (s : State) : Host.Outcome State Fault Refusal :=
  s.act fun d =>
    if !d.lit || !d.tbTakesPart then d
    else
      let d := d.takeWindow window
      let a := if d.bridle.bothPoll then none else windowAnswer window
      if own then
        let sent := d.tbAnswer
        let good := a = some sent
        d.onBridle (fun b => { b with
          sentAnswer := sent, selfOk := good, selfRun := if good then 0 else b.selfRun + 1 })
      else match a.filter answerOk with
        | some v => d.onBridle (fun b => { b with
            partnerAnswer := v, partnerOk := true, missRun := 0, missPresent := 0, silentTold := false })
        | none => d.onBridle (fun b => { b with
            missed := b.missed + 1, missRun := b.missRun + 1, partnerOk := b.partnerOk && b.missRun < 15
            missPresent := if d.partnerPresent then b.missPresent + 1 else 0 })

/-- TB_POLLER_TAKEOVER: TRIPBUS6 has been released for 1 µs, and identity B polls. -/
def execTbPollerTakeover (s : State) : Host.Outcome State Fault Refusal :=
  s.act fun d =>
    if d.lit && d.tbTakesPart && d.identity = some true && !d.bridle.presA then
      d.onBridle (fun b => { b with poller := true })
    else d

/-- TB_PARTNER_SILENT (R276): 16 consecutive missing answers while the partner's presence line is asserted. -/
def execTbPartnerSilent (s : State) : Host.Outcome State Fault Refusal :=
  s.act fun d =>
    if 16 ≤ d.bridle.missPresent && d.partnerPresent && !d.bridle.silentTold then
      (d.onBridle (fun b => { b with partnerOk := false, silentTold := true })).event .tbPartnerSilent (source 0 0)
    else d

/-- TB_SELF_FAIL (R276): 16 consecutive failed readbacks of the own answer. -/
def execTbSelfFail (s : State) : Host.Outcome State Fault Refusal :=
  s.act fun d =>
    if 16 ≤ d.bridle.selfRun then
      (d.onBridle (fun b => { b with selfRun := 0 })).event .tbSelfFail (source 0 0)
    else d

/-! ### Diagnostics (R277, R278, R281) -/

/-- A fault of the bridle's own: it latches until module reset, darkens and blocks every output, releases the
trip lines, makes every function SAFE, and the module goes to STOPPED. -/
def Dev.ownFault (d : Dev) (cause index : Nat) : Dev :=
  if !d.lit || cause = 0 || d.bridle.fault ≠ 0 || !d.bridle.running then d
  else
    let d := d.onBridle (fun b => { b with fault := cause, faultIndex := index, held := b.held % 2 ^ 28 })
    let d := d.updateFns.event .bridleFault (source 0 0) [w32 cause, w32 index]
    d.goStopped

/-- BRIDLE_FAULT (R278). -/
def execBridleFault (cause : Fin 9) (index : Nat) (s : State) : Host.Outcome State Fault Refusal :=
  s.act fun d => d.ownFault cause.val index

/-- BRIDLE_DIAG_ROUND (R277): a 1 ms round with the DAC deviations in mV, the oscillator's in ppm, and the monitors that
differ from their commands; a deviation above 25 mV, or a stored copy that fails its CRC, is a fault. -/
def execBridleDiagRound (dacMv : List (Nat × Int)) (round : DiagRound) (s : State) : Host.Outcome State Fault Refusal :=
  s.act fun d =>
    if !d.lit || !d.bridle.running then d
    else
      let errs := (List.range 32).foldl (fun m k =>
        sput (fun _ => (0 : Int)) m k (((dacMv.find? (fun p => p.1 = k)).map (·.2)).getD 0)) []
      let d := d.onBridle (fun b => { b with
        passes := (b.passes + 1) % 2 ^ 32, dacErr := errs, oscPpm := round.oscPpm
        lightOdd := round.lightOdd, blockOdd := round.blockOdd })
      match errs.find? (fun p => 25 < p.2.natAbs) with
      | some p => d.ownFault 3 p.1
      | none => match d.bridle.protect with
        | some c => if d.bridle.params.isSome && !c.protectOk then d.ownFault 7 0 else d
        | none => d

/-- BRIDLE_MIRROR_REFRESH (R281): the registers are refreshed as one snapshot. -/
def execBridleMirrorRefresh (s : State) : Host.Outcome State Fault Refusal :=
  s.act fun d => if d.lit then d.bridleMirror else d

/-- FIRST_OUT_REARM (R281): 1 ms with no equation true and no output dark. -/
def execFirstOutRearm (s : State) : Host.Outcome State Fault Refusal :=
  s.act fun d =>
    if d.bridle.true_ = 0 ∧ d.bridle.outputs % 2 ^ 16 = 0 then d.onBridle (fun b => { b with firstOut := none }) else d

/-- BRIDLE_START_CHECKS (R58, R277): the start checks complete with the CAUSE of the first failed test, or 0,
after a time in ms. -/
def execBridleStartChecks (cause : Fin 9) (ms : Nat) (s : State) : Host.Outcome State Fault Refusal :=
  s.act fun d =>
    if !d.alive || d.bridle.checked then d
    else
      let d := d.onBridle (fun b => { b with
        checked := true, running := cause.val = 0, startCause := cause.val, startMs := ms })
      let d := { d with power := { d.power with start := { d.power.start with bridle := cause.val = 0 } } }
      if cause.val = 0 then d.takeProtect.takeSafety
      else (d.updateFns.event .bridleFault (source 0 0) [w32 cause.val]).goStopped

end Sys2Proof.Machine
end

