-- ==== Sys2Proof/Machine/HarnessOps.lean ====
section
/-! DEFINITION. Harness images: layout, fingerprint, signature, slot checks, and what a module takes from
an image it loads (R89 to R103). -/

namespace Sys2Proof.Machine

/-! ### The bytes of a slot (R89 to R91) -/

/-- A slot of the module. -/
def Dev.hrnSlot (d : Dev) (k : Nat) : HrnSlot := (oget d.hrn.slots k).getD {}

/-- Replaces a slot. -/
def Dev.putSlot (d : Dev) (k : Nat) (s : HrnSlot) : Dev :=
  { d with hrn := { d.hrn with slots := oput d.hrn.slots k s } }

/-- A little-endian field of an image. -/
def imgField (m : Memory) (off size : Nat) : Nat := m.readLe off size

/-- The header of R90. -/
def imgHeader (m : Memory) : ImageHeader :=
  { hwIssue := imgField m 0x18 1, fwMajor := imgField m 0x19 1, fwMinor := imgField m 0x1A 1
    pairMode := imgField m 0x1B 1, secver := imgField m 0x1C 4
    predecessor := BitVec.ofNat 128 (beNat (m.readBytes 0x20 16))
    successorWindow := imgField m 0x30 4, stageTimeout := imgField m 0x34 2
    imageLength := imgField m 0x08 8, signedLength := imgField m 0x10 8 }

/-- Entry `k` of the directory (R91). -/
def imgEntry (m : Memory) (k : Nat) : DirEntry :=
  let a := 0x800 + 64 * k
  { id := imgField m a 2, version := imgField m (a + 2) 2, flags := imgField m (a + 4) 4
    offset := imgField m (a + 8) 8, length := imgField m (a + 16) 8
    digest := beNat (m.readBytes (a + 24) 32) }

/-- The directory: as many entries as the header names. -/
def imgDir (m : Memory) : List DirEntry := (List.range (min 32 (imgField m 0x06 2))).map (imgEntry m)

/-- The bytes of a section. -/
def imgSection (m : Memory) (e : DirEntry) : List Byte := m.readBytes e.offset e.length

/-- The section of an ID. -/
def findSection (dir : List DirEntry) (id : Nat) : Option DirEntry := dir.find? (fun e => e.id = id)

/-- The fingerprint (R98). -/
def imgFingerprint (m : Memory) : BitVec 128 :=
  BitVec.ofNat 128 (sha384 (m.readBytes 0 (imgHeader m).signedLength) / 2 ^ 256)

/-- The SHA-384 over the first SIGNED_LENGTH bytes, the SUBJECT of a HARNESS change (R459). -/
def imgSubject (m : Memory) : BitVec 384 := BitVec.ofNat 384 (sha384 (m.readBytes 0 (imgHeader m).signedLength))

/-! ### Change classes (R92, R104) -/

/-- Section IDs with a length the manual fixes (R265, R285). -/
def idProtect : Nat := 0x000A
def idSafety : Nat := 0x000B
def idSecurity : Nat := 0x000C
def idPartitions : Nat := 0x0003
def idStations : Nat := 0x0007

/-- The IDs the module knows, and their change class (R92); PARTITIONS is 2, or 3 under R96. -/
def sectionClass (id : Nat) : Option Nat :=
  match id with
  | 0x1 | 0x2 | 0x6 | 0x7 | 0x8 | 0xA | 0xB | 0xF | 0x11 => some 3
  | 0x3 | 0x4 | 0xD => some 2
  | 0x5 | 0x9 | 0xC | 0xE | 0x10 | 0x12 => some 1
  | _ => none

/-- Sections every image carries (R92). -/
def requiredIds : List Nat := [0x1, 0x2, 0x3, 0x4, 0xC]

/-! ### Well-formed images (R93) -/

/-- The tile role map breaks a condition of R94. -/
def Image.roleMapBad (im : Image) : Bool :=
  let role (t : Nat) : Nat := (oget im.roles t).getD 0
  let used := (List.range 144).filter (fun t => role t = 1 || role t = 2)
  (List.range 9).any (fun n =>
    match im.spares.filter (fun x => x.1 = n) with
    | [x] => !(clusterTiles n).contains x.2 || role x.2 ≠ 0
    | _ => true)
  || 135 < used.length
  || used.any (fun t => role t = 2 && 4 < (im.slots.filter (fun i => i.tile = t)).length)
  || im.slots.any (fun i => 47 < i.num || role i.tile ≠ 2 || 1 < (im.slots.filter (fun j => j.num = i.num)).length)
  || im.parts.any (fun p => role p.tile ≠ 1 || 1 < (im.parts.filter (fun q => q.num = p.num)).length)

/-- A set of pages breaks R97. -/
def pagesBad (ps : List ParamPage) : Bool :=
  512 < ps.length || ps.any (fun p => 4096 < p.bytes.length || 1 < (ps.filter (fun q => q.id = p.id)).length)

/-- Every byte of a range is 0. -/
def zeroRange (m : Memory) (a b : Nat) : Bool := (m.filter (fun p => a ≤ p.1 && p.1 < b && p.2 ≠ 0)).isEmpty

/-- Entries ascend by OFFSET without overlap from a lower bound, and the gaps between hold 0. -/
def dirOrdered (m : Memory) : Nat → List DirEntry → Bool
  | _, [] => true
  | lo, e :: es => decide (lo ≤ e.offset) && zeroRange m lo e.offset && dirOrdered m (e.offset + e.length) es

/-- No two entries share an ID. -/
def idsDistinct : List DirEntry → Bool
  | [] => true
  | e :: es => es.all (fun x => x.id ≠ e.id) && idsDistinct es

/-- A STATIONS section holds a value outside R357. -/
def stationsMalformed (bs : List Byte) : Bool :=
  let f (off size : Nat) : Nat := leNat ((bs.drop off).take size)
  let n := f 0 2
  let t := stationTable bs
  126 < n || bs.length < 0x40 + 32 * n || t.fedPairs < 1 || 4 < t.fedPairs || 134 < t.nodes || t.share < t.twinReserve
    || (List.range 32).any (fun g => 1 < f (0x10 + g) 1)
    || ((List.range n).zip t.entries).any (fun x =>
      let e := x.2
      e.number < 1 || 126 < e.number || e.kind < 1 || 3 < e.kind || 31 < e.group || 4 < e.peerPair || 1024 < e.outLen
        || 1024 < e.inLen || e.dropN < 1 || 16 < e.dropN || 8 < e.safeOut || 8 < e.safeIn || e.holdMs < 1 || 1000 < e.holdMs
        || f (0x40 + x.1 * 32 + 14) 18 ≠ 0)

/-- A section of an ID that the module knows holds a value that its format does not list (R93). The formats of STATIONS,
PROTECT and SAFETY are the manual's; the others are the image's own. -/
def sectionBad (id : Nat) (bs : List Byte) : Bool :=
  if id = idStations then stationsMalformed bs
  else if id = idProtect then protectMalformed bs
  else if id = idSafety then safetyMalformed bs
  else Config.sectionMalformed id bs

/-- One directory entry breaks no rule of R89 to R93. The DIGEST of a section with an unknown ID and CRITICAL clear is not
checked: R93 has every section's DIGEST match, and has such a section ignored. DESIGN CHOICE (log 139). -/
def entryOk (m : Memory) (e : DirEntry) : Bool :=
  e.offset % 4096 = 0 && 4096 ≤ e.offset && e.flags < 2 &&
  (match sectionClass e.id with
   | none => e.flags = 0
   | some _ =>
     e.digest = sha384 (imgSection m e) / 2 ^ 128 && !sectionBad e.id (imgSection m e))

/-- The image of a slot is malformed (R93). -/
def imgMalformed (m : Memory) : Bool :=
  let h := imgHeader m
  let n := imgField m 0x06 2
  let dir := imgDir m
  let last := dir.foldl (fun a e => max a (e.offset + e.length)) 4096
  !(imgField m 0 4 = 0x314E5248 && imgField m 4 2 = 1 && 1 ≤ n && n ≤ 32
    && h.imageLength ≤ 256 * 2 ^ 20 && 8192 ≤ h.imageLength && h.signedLength + 4096 = h.imageLength
    && last ≤ h.signedLength
    && h.successorWindow ≤ 1440 && h.stageTimeout ≤ 600 && imgField m 0x36 2 = 0
    && zeroRange m (h.signedLength + 0x68) h.imageLength
    && zeroRange m 0x80 0x800 && zeroRange m (0x800 + 64 * n) 0x1000
    && (List.range n).all (fun k => imgField m (0x800 + 64 * k + 0x38) 8 = 0)
    && dirOrdered m 4096 dir && idsDistinct dir
    && requiredIds.all (fun i => (findSection dir i).isSome)
    && dir.all (entryOk m))

/-- What the module takes from the image of a slot. -/
def loadImage (m : Memory) : Image :=
  let im := Config.sections (m.readBytes 0 (imgHeader m).signedLength)
  { im with
    header := imgHeader m, dir := imgDir m, fp := imgFingerprint m
    stations := match findSection (imgDir m) idStations with
      | some e => stationTable (imgSection m e)
      | none => {}
    retainDigest := match findSection (imgDir m) 0x11 with
      | some e => e.digest
      | none => 0 }

/-- A number stands twice in a list. -/
def repeats : List Nat → Bool
  | [] => false
  | x :: xs => xs.contains x || repeats xs

/-- The task settings of a partition break R194. -/
def PartImg.tasksBad (p : PartImg) : Bool :=
  let periodic := p.tasks.filter (fun t => t.num < 32)
  repeats (p.tasks.map (fun t => t.num)) || repeats (periodic.map (fun t => t.priority))
  || 1 < (periodic.filter (fun t => t.commandTask)).length
  || (p.retain.isSome && (periodic.filter (fun t => t.retainTask)).length ≠ 1)
  || p.tasks.any (fun t => 96 < t.num || (t.num < 32 && (t.period < 1 || 1024 < t.period)) || 31 < t.priority)

/-- A partition breaks R95, R194 or R207. -/
def PartImg.bad (p : PartImg) : Bool :=
  192 < p.reserveKib || p.reserveKib % 4 ≠ 0 || p.tasksBad
  || (match p.retain with | some (_, n) => n % 64 ≠ 0 || 65536 < n | none => false)

/-- A loop slot breaks R224. -/
def SlotImg.bad (i : SlotImg) : Bool :=
  i.trigger < 1 || 3 < i.trigger || (match i.glink with | some g => 11 < g | none => false)
  || (i.trigger ≠ 3 && (i.period < 20000 || 1000000 < i.period)) || (i.trigger = 2 && i.period ≤ i.phase)
  || (i.trigger = 3 && 47 < i.chainFrom) || i.length < 1 || 1024 < i.length || i.torqueNode < 16 || 31 < i.torqueNode
  || 2 < i.rotorAction

/-- A LOOPPAR page holds an entry outside R226. -/
def loopPageBad (p : ParamPage) : Bool :=
  (List.range (p.bytes.length / 8)).any (fun k =>
    47 < leNat ((p.bytes.drop (8 * k + 4)).take 1) || leNat ((p.bytes.drop (8 * k + 5)).take 3) ≠ 0)

/-- The axis groups break R253. -/
def Image.axesBad (im : Image) : Bool :=
  let axes := im.axes.flatMap (fun g => g.axes.map (fun a => a.num))
  repeats axes || axes.any (fun n => 31 < n)
  || im.axes.any (fun g => g.axes.length < 1 || 8 < g.axes.length || (oget im.roles g.tile).getD 0 ≠ 2
    || !([250000, 500000, 1000000, 2000000].contains g.period)
    || 8 < ((im.axes.filter (fun h => h.tile = g.tile)).flatMap (fun h => h.axes)).length)

/-- A historian tag breaks R436. -/
def TagImg.bad (t : TagImg) : Bool :=
  t.period < 1 || 3600000 < t.period || t.maxInterval < t.period || 86400000 < t.maxInterval

/-- What the sections of an image say breaks a range that the manual gives for it: R94, R95, R97, R191, R194, R207, R224,
R226, R253 and R436. DEDUCED (log 149). -/
def Image.bad (im : Image) : Bool :=
  im.roleMapBad || pagesBad im.params || pagesBad im.loopPages || im.loopPages.any loopPageBad
  || im.limitUs < 50 || 65535 < im.limitUs || im.limitUs < im.minUs
  || im.parts.any PartImg.bad
  || 4 * 2 ^ 20 < (im.parts.map (fun p => match p.retain with | some (_, n) => n | none => 0)).sum
  || im.slots.any SlotImg.bad || im.axesBad || 65536 < im.tags.length || im.tags.any TagImg.bad

/-- The signature of an image (R99): its key identifier names an enrolled harness-signing key that is not
revoked, and the signature verifies with it. -/
def imgSigned (d : Dev) (m : Memory) : Bool :=
  let at_ := (imgHeader m).signedLength
  match d.trust.owner with
  | none => false
  | some o =>
    match o.harnessKeys.find? (fun k => k.keyId.toNat = imgField m at_ 8 && !k.revoked) with
    | none => false
    | some k =>
      ecdsaVerify k.key (imgSubject m).toNat
        ⟨beNat (m.readBytes (at_ + 8) 48), beNat (m.readBytes (at_ + 56) 48)⟩

/-- The checks of R100 in their order: 0, or the CAUSE of the first that fails. -/
def Dev.slotCause (d : Dev) (s : HrnSlot) : Nat :=
  let m := s.bytes
  let h := imgHeader m
  if !s.committed then 1
  else if s.erase then 2
  else if imgMalformed m || (loadImage m).bad then 3
  else if !imgSigned d m then 4
  else if d.rd R.IDENT_HW_ISSUE < h.hwIssue then 5
  else if h.fwMajor ≠ d.rd R.FW_VERSION_MAJOR ∨ d.rd R.FW_VERSION_MINOR < h.fwMinor then 6
  else if h.secver < d.trust.minSecver.toNat then 7
  else if h.pairMode = 0 ∨ (h.pairMode = 1 ∧ d.on R.SADDLE_CODE_VALID) then 0
  else 8

/-- A slot holds nothing, and no check has found that. -/
def HrnSlot.empty (s : HrnSlot) : Bool := s.bytes.isEmpty && !s.committed && !s.writing && !s.checked

/-- Shows a slot in `MOD.HRN_SLOT`: STATE, CAUSE and SEQ (R120). -/
def Dev.showSlot (d : Dev) (k : Nat) : Dev :=
  let s := d.hrnSlot k
  let cause := d.slotCause s
  let state := if s.writing then 3 else if s.empty then 0 else if cause = 0 then 1 else 2
  let d := (d.wr (R.HRN_SLOT_STATE k) state).wr (R.HRN_SLOT_CAUSE k) (if state = 2 then cause else 0)
  let d := (d.wr (R.HRN_SLOT_SEQ k) (s.seq.toNat % 2 ^ 16)).flag (R.HRN_SLOT_BOOT_PTR k) (d.hrn.bootPtr = k)
  (d.flag (R.HRN_SLOT_RUNNING k) (d.hrn.image.isSome && d.hrn.slot = k)).flag (R.HRN_SLOT_STAGED k)
    (match d.hrn.staged with | some g => g.slot = k | none => false)

/-- The checks of R100 run on a slot: one that is not committed is INVALID from then on. -/
def Dev.checkSlot (d : Dev) (k : Nat) : Dev :=
  let s := d.hrnSlot k
  (d.putSlot k { s with checked := !s.committed, writing := false }).showSlot k

/-- At start the checks run on every slot but an EMPTY one, which R120 and R114 tell apart from an INVALID one.
DEDUCED (log 142). -/
def Dev.checkAtStart (d : Dev) (k : Nat) : Dev := if (d.hrnSlot k).empty then d.showSlot k else d.checkSlot k

/-- A slot is VALID by its last checks. -/
def Dev.slotValid (d : Dev) (k : Nat) : Bool := d.rd (R.HRN_SLOT_STATE k) = 1

/-- The marks of the slots that do not come from the checks of R100. -/
def Dev.showMarks (d : Dev) : Dev :=
  let d := d.each 4 (fun k d =>
    let d := (d.flag (R.HRN_SLOT_BOOT_PTR k) (d.hrn.bootPtr = k)).flag (R.HRN_SLOT_RUNNING k)
      (d.hrn.image.isSome && d.hrn.slot = k)
    d.flag (R.HRN_SLOT_STAGED k) (match d.hrn.staged with | some g => g.slot = k | none => false))
  let d := (d.wr R.HRN_BOOT_RUNNING_SLOT d.hrn.slot).wr R.HRN_BOOT_POINTER_SLOT d.hrn.bootPtr
  d.wr R.HRN_EPOCH d.hrn.epoch.toNat

/-! ### Loading an image -/

/-- The registers of the loop engine that the image sets (R261, R262). -/
def Dev.showLoops (d : Dev) (im : Image) : Dev :=
  let d := d.each 48 fun k d =>
    match im.slots.find? (fun i => i.num = k) with
    | none => (d.putWord (0x200008 + k * 0x40) 0).putWord (0x20000C + k * 0x40) 0
    | some i =>
      let d := ((d.wr (R.LOOP_CONFIG_TILE k) i.tile).wr (R.LOOP_CONFIG_TRIGGER k) i.trigger).wr (R.LOOP_CONFIG_GLINK k)
        (i.glink.getD 15)
      let d := (d.wr (R.LOOP_CONFIG_CHAIN_FROM k) i.chainFrom).wr (R.LOOP_CONFIG_ROTOR_ACTION k) i.rotorAction
      let d := d.flag (R.LOOP_CONFIG_FAULT_TRIP k) i.faultTrip
      (d.wr (R.LOOP_PERIOD_PERIOD_NS k) i.period).wr (R.LOOP_PERIOD_STEPS k) i.length
  d.each 12 fun g d =>
    let slot := match im.slots.find? (fun i => i.glink = some g) with | some i => i.num | none => 0xFF
    let l : GlinkImg := (im.glinks.find? (fun l => l.num = g)).getD { num := g, halfPeriod := 0 }
    ((d.wr (R.GLINK_CONFIG_HALF_PERIOD g) l.halfPeriod).wr (R.GLINK_CONFIG_SLOT g) slot).wr (R.GLINK_CONFIG_LINK_DELAY g) l.linkDelay

/-- The registers of local I/O that the image sets (R399 to R401). -/
def Dev.showIo (d : Dev) (im : Image) : Dev :=
  let filter (k : Nat) : Nat := (List.range 16).foldl (fun a m => a + (oget im.dioFilter (16 * k + m)).getD 0 % 4 * 4 ^ m) 0
  let d := ((d.wr R.DIO_DIR im.dioDir).wr R.DIO_FILTER0 (filter 0)).wr R.DIO_FILTER1 (filter 1)
  let d := d.each 16 fun n d =>
    let c : AoImg := (im.ao.find? (fun c => c.num = n)).getD { num := n, poll := 0 }
    let d := ((d.wr (R.CLO_STATUS_MODE n) c.mode).wr (R.CLO_STATUS_HART n) c.hart).flag (R.CLO_CONFIG_FAIL_HIGH n) c.failHigh
    (d.wr (R.CLO_CONFIG_DEVICES n) c.devices.length).wr (R.CLO_CONFIG_POLL n) c.poll
  d.each 32 fun n d =>
    let c : FaImg := (im.fa.find? (fun c => c.num = n)).getD { num := n }
    (d.wr (R.FAI_CONFIG_AVG n) c.avg).flag (R.FAI_CONFIG_MAPPED n) c.mapped

/-- The registers of the CAN ports and the rings that the image sets (R361, R420). -/
def Dev.showPorts (d : Dev) (im : Image) : Dev :=
  let d := d.each 4 fun n d =>
    let c : CanImg := (im.cans.find? (fun c => c.port = n)).getD { port := n }
    let d := ((d.putWord (0x500008 + n * 0x1000) c.config).putWord (0x50000C + n * 0x1000) c.nbt).putWord (0x500010 + n * 0x1000) c.dbt
    (d.wr (R.CAN_TDC_EN n) c.tdc.toNat).wr (R.CAN_TDC_TDCO n) (c.tdc.toNat / 2)
  d.each 2 fun k d =>
    ((d.wr (R.RING_CONFIG_STATIONS k) im.stations.entries.length).wr (R.RING_CONFIG_FED_PAIRS k) im.stations.fedPairs).wr
      (R.RING_CONFIG_SHARE k) im.stations.share

/-- Shows a running image in the registers that its sections set (R122, R220, R261, R361, R399, R444, R466). -/
def Dev.showImage (d : Dev) : Dev :=
  match d.hrn.image with
  | none => d.clear [R.HRN_FP 0, R.HRN_FP 1, R.HRN_FP 2, R.HRN_FP 3, R.CYCLE_LIMIT_LIMIT_US,
      R.CYCLE_LIMIT_MIN_US, R.HIST_CONFIG_TAGS]
  | some im =>
    let d := d.each 4 (fun k d => d.wr (R.HRN_FP k) (im.fp.toNat / 2 ^ (96 - 32 * k) % 2 ^ 32))
    let d := (d.wr R.CYCLE_LIMIT_LIMIT_US im.limitUs).wr R.CYCLE_LIMIT_MIN_US im.minUs
    let d := (d.flag R.CYCLE_STATUS_RETURN_EN im.returnEn).wr R.HIST_CONFIG_TAGS im.tags.length
    let d := (d.wr R.SEC_APPROVERS_COUNT im.security.approvers.length).raise R.SEC_APPROVERS_FROM_IMAGE
    let d := (d.wr R.SEC_CLIENTS_TABLE im.security.clients.length).wr R.SEC_REVOKED_COUNT
      im.security.revoked.length
    let d := d.flag R.SEC_STATUS_CAK_OK (match d.trust.owner with
      | some o => Config.cakUnwraps o.wrapKey im.security.wrappedCak
      | none => false)
    ((d.showLoops im).showIo im).showPorts im

/-- The image of a slot becomes the running image. -/
def Dev.runImage (d : Dev) (k : Nat) : Dev :=
  let im := loadImage (d.hrnSlot k).bytes
  ({ d with hrn := { d.hrn with image := some im, slot := k } }.showImage).showMarks

/-- The VALID slot with the highest store sequence number among some (R102). -/
def Dev.newestValid (d : Dev) (ks : List Nat) : Option Nat :=
  (ks.filter d.slotValid).foldl (fun b k =>
    match b with
    | none => some k
    | some j => if (d.hrnSlot j).seq.toNat < (d.hrnSlot k).seq.toNat then some k else b) none

end Sys2Proof.Machine
end

