-- ==== Sys2Proof/Machine/Can.lean ====
section
/-! DEFINITION. The meanings of the CAN ports' commands (R402 to R420). -/

namespace Sys2Proof.Machine

/-- CAN_FRAME_COMPLETE (R406): a frame completes on the bus at its last bit of EOF but one. `own` says that the
module sent it; `tSof` is T at its start-of-frame edge, `busyNs` its time on the bus. -/
def execCanFrameComplete (port : Fin 4) (frame : CanFrame) (own : Bool) (tSof : DWord) (busyNs : Nat)
    (delay : Option Nat) (s : State) : Host.Outcome State Fault Refusal :=
  s.actIf (canFrameOk frame) fun d => d.canComplete port.val frame own tSof busyNs delay

/-- CAN_BUS_ERROR (R417): `kind` as `CAN.LEC` codes it, 1 to 6; `heavy` where ISO 11898-1 adds 8 to REC. -/
def execCanBusError (port : Fin 4) (kind : Nat) (dataPhase tx heavy : Bool) (s : State) :
    Host.Outcome State Fault Refusal :=
  s.actIf (1 ≤ kind ∧ kind ≤ 6) fun d =>
    if d.alive && d.on (R.CAN_CONFIG_USED port.val) && (d.canSends port.val || d.role = .standby) &&
        !d.canOff port.val then d.canError port.val kind dataPhase tx heavy
    else d

/-- CAN_TX_SELECT (R409): before a start-of-frame the controller chooses among the PENDING buffers, and the
start-of-frame of the chosen one is sent. -/
def execCanTxSelect (port : Fin 4) (s : State) : Host.Outcome State Fault Refusal :=
  s.act fun d =>
    if d.alive && d.canSends port.val && !d.canOff port.val && (d.port port.val).sending.isNone then
      match d.canChoose port.val with
      | some b => d.onBuf port.val b (fun x => { x with onBus := true })
      | none => d
    else d

/-- CAN_ARBITRATION_LOST (R408, R410): the attempt ends, and the buffer is retried or cancelled. -/
def execCanArbitrationLost (port : Fin 4) (s : State) : Host.Outcome State Fault Refusal :=
  s.act fun d =>
    if (d.port port.val).sending.isSome then (d.incSat (R.CAN_TX_COUNT_ARB_LOST port.val)).canEndAttempt port.val else d

/-- CAN_RECOVER (R418). -/
def execCanRecover (port : Fin 4) (s : State) : Host.Outcome State Fault Refusal := s.act fun d => d.canRecover port.val

/-- CAN_RECOVERY_DONE (R418): 128 occurrences of 11 consecutive recessive bits. -/
def execCanRecoveryDone (port : Fin 4) (s : State) : Host.Outcome State Fault Refusal :=
  s.act fun d => d.canRecovered port.val

/-- CAN_CLEAR_COUNTS (R420). -/
def execCanClearCounts (port : Fin 4) (s : State) : Host.Outcome State Fault Refusal :=
  s.act fun d => d.canClearCounts port.val

/-- CAN_LOOP_SELECT (R416): a write of `CAN.CTRL.LOOP`, open only in STOPPED. -/
def execCanLoopSelect (port : Fin 4) (value : Fin 4) (s : State) : Host.Outcome State Fault Refusal :=
  s.act fun d => if d.role = .stopped then d.wr (R.CAN_CTRL_LOOP port.val) value.val else d.writeStatus .locked

/-- The write of a path to a transmit register of a port; on the management path a refused one is reported LOCKED
(R3, R415). -/
def Dev.canTxWrite (d : Dev) (path : Path) (n r : Nat) (v : Word) : Dev :=
  if !d.alive then d
  else if d.canUnlocked (isTack path) (0x500000 + n * 0x1000 + r) then d.canWrite n r v
  else if isTack path then d else d.writeStatus .locked

/-- TX_REQ (R408). -/
def execTxReq (path : Path) (port : Fin 4) (mask : BitVec 3) (s : State) : Host.Outcome State Fault Refusal :=
  s.act fun d => d.canTxWrite path port.val 0x28 (mask.zeroExtend 32)

/-- TX_CANCEL (R410). -/
def execTxCancel (path : Path) (port : Fin 4) (mask : BitVec 3) (s : State) : Host.Outcome State Fault Refusal :=
  s.act fun d => d.canTxWrite path port.val 0x2C (mask.zeroExtend 32)

/-- TXB_DATA (R420): stores data word WORD of the selected buffer and increments WORD. -/
def execTxbData (path : Path) (port : Fin 4) (value : Word) (s : State) : Host.Outcome State Fault Refusal :=
  s.act fun d => d.canTxWrite path port.val 0x40 value

/-- RXQ_WORD (R414, R415): a read of the queue's word on a path. -/
def execRxqWord (path : Path) (port : Fin 4) (q : Fin 2) (s : State) : Host.Outcome State Fault Refusal :=
  s.act fun d => d.readShown path (0x500000 + port.val * 0x1000 + (if q.val = 0 then 0x64 else 0x70))

/-- RXQ_DISCARD (R414). -/
def execRxqDiscard (port : Fin 4) (q : Fin 2) (s : State) : Host.Outcome State Fault Refusal :=
  s.act fun d => d.canDiscard port.val q.val

/-- RXQ_FLUSH (R414). -/
def execRxqFlush (port : Fin 4) (q : Fin 2) (s : State) : Host.Outcome State Fault Refusal :=
  s.act fun d => d.canFlush port.val q.val

/-- RXQ_CLEAR_OVERFLOW (R420). -/
def execRxqClearOverflow (port : Fin 4) (q : Fin 2) (s : State) : Host.Outcome State Fault Refusal :=
  s.act fun d => d.canClearOverflow port.val q.val

end Sys2Proof.Machine
end

