-- ==== Sys2Proof/Machine/HistOps.lean ====
section
/-! DEFINITION. The historian's own operations: drive sets, the publish gate's copies, samples and
aggregates (R433 to R441). -/

namespace Sys2Proof.Machine

/-! ### Drives and sets (R433, R434) -/

/-- The mounted drives of a set. -/
def Dev.setDrives (d : Dev) (k : Nat) : List Drive :=
  (d.hist.drives.filter (fun p => p.1 / 4 = k)).map (·.2)

/-- The total capacity of a set in GB. -/
def Dev.setTotal (d : Dev) (k : Nat) : Nat := ((d.setDrives k).map (·.capGb)).foldl (· + ·) 0

/-- A set is mounted: it has a mounted drive. -/
def Dev.setMounted (d : Dev) (k : Nat) : Bool := !(d.setDrives k).isEmpty

/-- The usable capacity: the smaller of the two sets' totals, at most 256 TB (R433). -/
def Dev.usableGb (d : Dev) : Nat :=
  let a := d.setTotal 0
  let b := d.setTotal 1
  min 256000 (if a = 0 then b else if b = 0 then a else min a b)

/-- The registers that show the sets. -/
def Dev.showSets (d : Dev) : Dev :=
  let d := d.flag R.HIST_STATUS_SET0_OK (d.setMounted 0 && !d.hist.set0.failed)
  let d := d.flag R.HIST_STATUS_SET1_OK (d.setMounted 1 && !d.hist.set1.failed)
  let d := d.flag R.HIST_STATUS_MOUNTED (d.setMounted 0 || d.setMounted 1)
  let d := d.flag R.SEC_STORAGE_SET0_KEY (d.setMounted 0 && d.trust.owner.isSome)
  let d := d.flag R.SEC_STORAGE_SET1_KEY (d.setMounted 1 && d.trust.owner.isSome)
  d.wr R.HIST_CAPACITY d.usableGb

/-- A drive fits its set: a 4,096-byte format, up to 64 TB, and the capacity of the others (R433).
DESIGN CHOICE (log 113). -/
def Dev.driveFits (d : Dev) (bay : Nat) (x : Drive) : Bool :=
  x.formatOk && 0 < x.capGb && x.capGb ≤ 64000
    && (d.hist.drives.filter (fun p => p.1 / 4 = bay / 4 && p.1 ≠ bay)).all (fun p => p.2.capGb = x.capGb)

/-- A bay shows its drive. -/
def Dev.showDrive (d : Dev) (bay : Nat) (x : Drive) : Dev :=
  let d := (d.raise (R.HIST_DRV_STATUS_PRESENT bay)).raise (R.HIST_DRV_STATUS_LINK_UP bay)
  let d := (d.wr (R.HIST_DRV_STATUS_WIDTH bay) x.width).wr (R.HIST_DRV_STATUS_GEN bay) x.gen
  let d := (d.wr (R.HIST_DRV_CAP bay) x.capGb).wrSat (R.HIST_DRV_HEALTH_WEAR bay) x.wear
  d.wrInt (R.HIST_DRV_HEALTH_TEMP bay) x.temp

/-- A rebuild ends without completion (R434). -/
def Dev.dropRebuild (d : Dev) : Dev :=
  if d.on R.HIST_STATUS_REBUILDING then
    let k := d.rd R.HIST_REBUILD_SET
    let d := d.drop R.HIST_STATUS_REBUILDING
    (d.setBays k).foldl (fun d b =>
      if d.rd (R.HIST_DRV_STATUS_STATE b) = 3 then d.wr (R.HIST_DRV_STATUS_STATE b) 1 else d) d
  else d

/-! ### Values of declared variables -/

/-- The exact value of a VALUE: of a double in units of 2 to the power −1074, of an integer as it is. -/
def exactValue (float : Bool) (v : DWord) : Int :=
  if float then
    let e := v.toNat / 2 ^ 52 % 2 ^ 11
    let m : Nat := v.toNat % 2 ^ 52
    let a := if e = 0 then m else (2 ^ 52 + m) * 2 ^ (e - 1)
    if v.msb then -(a : Int) else a
  else v.toInt

/-- A double is finite. -/
def finite (v : DWord) : Bool := v.toNat / 2 ^ 52 % 2 ^ 11 != 2047

/-- Two samples differ by more than the deadband (R436). -/
def beyond (float : Bool) (a b deadband : DWord) : Bool :=
  if float && !(finite a && finite b && finite deadband) then Config.nonFiniteDiffers a b deadband
  else exactValue float deadband < (exactValue float a - exactValue float b).natAbs

/-- An aggregate with one more publish copy. -/
def Agg.add (float : Bool) (a : Option Agg) (v : DWord) : Agg :=
  match a with
  | none => { least := v, greatest := v, sum := exactValue float v, count := 1, final := v }
  | some g =>
    { least := if exactValue float v < exactValue float g.least then v else g.least
      greatest := if exactValue float g.greatest < exactValue float v then v else g.greatest
      sum := g.sum + exactValue float v, count := g.count + 1, final := v }

/-- The mean of an aggregate; where it is no integer its rounding is open. -/
def Agg.mean (float : Bool) (g : Agg) : DWord :=
  if !float && g.sum % g.count = 0 then BitVec.ofInt 64 (g.sum / g.count)
  else Config.meanRounded float g.sum g.count

/-! ### Tags (R436) -/

/-- A declared tag and its variable. -/
def Dev.tagOf (d : Dev) (tag : Nat) : Option (TagImg × PubVar) :=
  match d.hrn.image with
  | none => none
  | some im =>
    match im.tags[tag]? with
    | none => none
    | some t => match im.publish[t.var]? with
      | some v => some (t, v)
      | none => none

/-- The number of declared tags. -/
def Dev.tagCount (d : Dev) : Nat := match d.hrn.image with | some im => im.tags.length | none => 0

/-- The running state of a tag. -/
def Dev.tagRun (d : Dev) (tag : Nat) : TagRun := sget (fun _ => {}) d.hist.tags tag

/-- Replaces the running state of a tag. -/
def Dev.putTag (d : Dev) (tag : Nat) (x : TagRun) : Dev :=
  { d with hist := { d.hist with tags := sput (fun _ => {}) d.hist.tags tag x } }

/-- The VALUE of a variable in the publish copy that the data plane reads. -/
def Dev.pubValue (d : Dev) (var : Nat) (v : PubVar) : DWord :=
  Config.varValue v.type ((oget d.cycle.reading var).getD [])

/-- The data plane takes the publish copy last written, and every tag's aggregates take its value (R436). -/
def Dev.readPublish (d : Dev) : Dev :=
  let d := { d with cycle := { d.cycle with publishRead := true, reading := d.cycle.published } }
  if d.histRunning then
    d.each d.tagCount fun k d =>
      match d.tagOf k with
      | none => d
      | some (t, v) =>
        let r := d.tagRun k
        let fl := Config.varIsFloat v.type
        let x := d.pubValue t.var v
        d.putTag k { r with
          second := some (Agg.add fl r.second x), minute := some (Agg.add fl r.minute x)
          hour := some (Agg.add fl r.hour x) }
  else d

/-- The control plane writes the publish copy that the data plane is not reading (R15): an older one not yet taken is
replaced, counted, and marks the next RAW sample of every tag. A data plane that is not busy takes the new copy. -/
def Dev.writePublish (d : Dev) (copy : List (Nat × List Byte)) (dataBusy : Bool) : Dev :=
  let d := if d.histRunning && !d.cycle.publishRead then
      (d.incWrap R.HIST_GAPS).each d.tagCount (fun k d => d.putTag k { d.tagRun k with gap := true })
    else d
  let d := { d with cycle := { d.cycle with published := copy, publishRead := false } }
  if dataBusy then d else d.readPublish

/-- The quality of the next stored sample of a tag (R436, R437, R440, R442). DEDUCED (log 111). -/
def TagRun.quality (r : TagRun) : Quality :=
  if r.gap then .gap else if r.dropped then .dropped else if r.last.isNone then .restart else .good

/-- A RAW sample is kept (R436). -/
def TagRun.keeps (r : TagRun) (t : TagImg) (float : Bool) (x : TagSample) : Bool :=
  match r.last with
  | none => true
  | some l =>
    beyond float x.value l.value t.deadband || x.quality ≠ l.quality
      || t.maxInterval * 1000000 ≤ (x.t - l.t).toNat

/-- The oldest RAW sample held, in the registers. -/
def Dev.showOldest (d : Dev) : Dev :=
  let x := if d.setOk 0 then d.hist.set0.raw else d.hist.set1.raw
  d.wr64 R.HIST_OLDEST_LO R.HIST_OLDEST_HI (match x with | r :: _ => r.t | [] => 0)

/-- Stores a RAW sample, or does not keep it. -/
def Dev.storeRaw (d : Dev) (tag : Nat) (t : TagImg) (v : PubVar) : Dev :=
  let r := d.tagRun tag
  let x : TagSample := { tag := tag, quality := r.quality, t := d.timeT, value := d.pubValue t.var v }
  if r.keeps t (Config.varIsFloat v.type) x then
    ((d.onSets (fun s => { s with raw := s.raw ++ [x] })).putTag tag
      { r with last := some x, gap := false, dropped := false }).showOldest
  else d

/-! ### Export (R439 to R441) -/

/-- The 24 bytes of a sample record (R440). -/
def TagSample.bytes (x : TagSample) : List Byte :=
  let q := match x.quality with
    | .good => 0 | .gap => 1 | .dropped => 2 | .restart => 3
  leBytes 4 x.tag ++ [BitVec.ofNat 8 x.type, q, 0, 0] ++ leBytes 8 x.t.toNat ++ leBytes 8 x.value.toNat

/-- The set that a query reads: the first that is mounted and not FAILED. -/
def Dev.queried (d : Dev) : DriveSet := if d.setOk 0 then d.hist.set0 else if d.setOk 1 then d.hist.set1 else {}

/-- Export sends bytes: the rate of the last second and its maximum (R444). -/
def Dev.noteExport (d : Dev) (n : Nat) : Dev :=
  let log := d.hist.exported.filter (fun p => d.since p.1 < nsPerSecond) ++ [(d.now, n)]
  let d := { d with hist := { d.hist with exported := log } }
  (d.wrSat R.HIST_EXPORT_LAST d.exportRate).maxTo R.HIST_EXPORT_MAX d.exportRate

/-- An export request on an open session sends a response. -/
def Dev.exportReply (d : Dev) (session : Nat) (body : List Byte) : Dev :=
  if d.hist.sessions.contains session then
    { d with hist := { d.hist with response := body } }.noteExport body.length
  else d

end Sys2Proof.Machine
end

