-- ==== Sys2Proof/Machine/TrustOps.lean ====
section
/-! DEFINITION. The root of trust's own operations: what its registers show, firmware copies, client
certificates and approvals (R446 to R463). -/

namespace Sys2Proof.Machine

/-- A 32-bit word of a value of `total` bytes, byte 4k in [31:24]. -/
def wordBe (v total k : Nat) : Nat := v / 2 ^ (8 * total - 32 * (k + 1)) % 2 ^ 32

/-- The firmware copy that runs. -/
def Dev.fwCopy (d : Dev) : FwCopy := (d.trust.fw[d.trust.fwRunning]?).getD {}

/-- The registers that are loaded from the root of trust (R466). DESIGN CHOICE (log 118). -/
def Dev.showTrust (d : Dev) : Dev :=
  let o := d.trust.owner
  let d := (d.flag R.SEC_STATUS_OWNER o.isSome).flag R.SEC_STATUS_TLS_CERT d.trust.tlsCert.isSome
  let d := (d.flag R.SEC_STATUS_KW_OK o.isSome).wr R.SEC_STATUS_FW_COPY d.trust.fwRunning
  let fp := match o with | some o => o.rootFp.toNat | none => 0
  let d := d.each 4 (fun k d =>
    (d.wr (R.SEC_OWNER_FP k) (wordBe fp 16 k)).wr (R.SEC_DEV_FP k) (wordBe d.trust.devFp.toNat 16 k))
  let d := (d.wr R.SEC_MIN_SECVER d.trust.minSecver.toNat).wr R.SEC_FW_SECVER_RUNNING d.fwCopy.secver.toNat
  let d := d.wr R.SEC_FW_SECVER_MIN d.trust.fwMin.toNat
  let ks := match o with | some o => o.harnessKeys | none => []
  let d := d.wr R.SEC_HKEYS_ENROLLED (2 ^ min 8 ks.length - 1)
  let d := d.wr R.SEC_HKEYS_REVOKED
    ((List.range 8).foldl (fun a i => a + (match ks[i]? with | some k => bit k.revoked | none => 0) * 2 ^ i) 0)
  let d := (d.wr R.SEC_APPROVERS_COUNT d.approvers.length).flag R.SEC_APPROVERS_FROM_IMAGE d.hrn.image.isSome
  let d := d.wr64 R.SEC_CERT_EXP_LO R.SEC_CERT_EXP_HI
    (match d.trust.tlsCert with | some c => c.notAfter | none => 0)
  d.each 8 (fun k d => d.wr (R.SEC_FW_MEAS k) (wordBe d.fwCopy.digest.toNat 48 k))

/-- The slots and drive sets after a change of owner (R450). -/
def Dev.ownerChanged (d : Dev) : Dev :=
  let d := d.showTrust.showSets
  d.each 4 (fun k d => d.showSlot k)

/-! ### Client certificates (R448, R452) -/

/-- Validity dates are checked while the time base has stepped or is FOLLOWING. DEDUCED (log 114). -/
def Dev.datesChecked (d : Dev) : Bool :=
  d.on R.TIME_STATUS_STEPPED || d.rd R.TIME_STATUS_STATE = tsFollowing

/-- The client ID and rights that a certificate gives, if it is accepted. -/
def Dev.admits (d : Dev) (h : ClientHello) : Option (Word × Nat) :=
  match d.trust.owner with
  | none => if h.x6 then some (0, 1) else none
  | some _ =>
    let sec : SecurityImg := match d.hrn.image with | some im => im.security | none => {}
    let sT := d.timeT.toNat / nsPerSecond
    match h.levels with
    | none => none
    | some n =>
      if 3 < n || sec.revoked.contains h.serial then none
      else if d.datesChecked && !(h.notBefore ≤ sT && sT ≤ h.notAfter) then none
      else match sec.clients.find? (fun c => c.digest16 = h.digest16) with
      | some c => some (c.id, c.rights)
      | none => none

/-- A refused session (R452). -/
def Dev.authFail (d : Dev) (ip : Nat) : Dev :=
  let recent := d.mgmt.refusals.filter (fun p => d.since p.2 ≤ 60 * nsPerSecond) ++ [(ip, d.now)]
  let hits := (recent.filter (fun p => p.1 = ip)).length
  let d := (d.incSat R.SEC_AUTH_FAIL_COUNT).event .authFail (source 14 0)
  if 16 ≤ hits then
    let d := { d with mgmt := { d.mgmt with
      refusals := recent.filter (fun p => p.1 ≠ ip), blocked := d.mgmt.blocked ++ [(ip, d.now)] } }
    d.wrSat R.SEC_AUTH_FAIL_BLOCKED d.mgmt.blocked.length
  else { d with mgmt := { d.mgmt with refusals := recent } }

/-! ### Approval statements (R449, R461) -/

/-- A signature over an approval statement verifies. -/
def statementSigned (key : PubKey) (bytes : List Byte) (sig : Sig) : Bool := ecdsaVerify key (sha384 bytes) sig

/-- The owner fingerprint. -/
def Dev.ownerFp (d : Dev) : BitVec 128 := match d.trust.owner with | some o => o.rootFp | none => 0

/-- The statement of an approval on a pending change of this module. -/
def Dev.approvalBytes (d : Dev) (p : Pending) : List Byte :=
  statementBytes 0x31565041 d.ownerFp (BitVec.ofNat 8 p.kind) d.pairByte p.id p.subject

/-- The fields of a sequence of 2-byte tags, 4-byte lengths and values (R449); none after one that is cut short. -/
def tlvFields : Nat → List Byte → List (Nat × List Byte)
  | 0, _ => []
  | n + 1, bs =>
    let len := leNat ((bs.drop 2).take 4)
    if bs.length < 6 + len then [] else (leNat (bs.take 2), (bs.drop 6).take len) :: tlvFields n (bs.drop (6 + len))

/-- A field with its tag and length. -/
def tlvBytes (f : Nat × List Byte) : List Byte := leBytes 2 f.1 ++ leBytes 4 f.2.length ++ f.2

/-- An enrolment record is spelled by its bytes: tags 0x0001 to 0x0007 in order, the fingerprint that of the key of tag 0x0001
and the minimum that of tag 0x0006. DEDUCED (log 161). -/
def recordSpelled (r : EnrolRecord) : Bool :=
  let fs := tlvFields 7 r.withSig
  let value (k : Nat) : List Byte := match fs[k - 1]? with | some f => f.2 | none => []
  fs.map (·.1) = [1, 2, 3, 4, 5, 6, 7] && r.withSig = fs.flatMap tlvBytes && r.bytes = (fs.take 6).flatMap tlvBytes
    && r.rootFp = BitVec.ofNat 128 (sha384 (value 1) / 2 ^ 256) && (value 6).length = 4 && r.minSecver = w32 (leNat (value 6))

/-- A statement of an enrolment record carries the fields of R449 and verifies with the key it names. -/
def Dev.enrolStatement (d : Dev) (r : EnrolRecord) (st : Statement) : Bool :=
  let subject := BitVec.ofNat 384 (sha384 r.withSig)
  st.magic = 0x31565041 && st.ownerFp = r.rootFp && st.kind = 5 && st.pair = d.pairByte && st.pendingId = 0
    && st.subject = subject &&
  (match r.approvers[st.keyIndex]? with
   | some k => statementSigned k (statementBytes st.magic st.ownerFp st.kind st.pair st.pendingId st.subject) st.sig
   | none => false)

/-- Two statements with two distinct keys. -/
def Dev.enrolApproved (d : Dev) (r : EnrolRecord) : Bool :=
  match r.approvals with
  | [a, b] =>
    d.enrolStatement r a && d.enrolStatement r b && r.approvers[a.keyIndex]? ≠ r.approvers[b.keyIndex]?
  | _ => false

/-- The register slot for a new pending change: the first empty one, or that of the ended change with the
lowest ID. -/
def Dev.pendSlot (d : Dev) : Option Nat :=
  match (List.range 8).find? (fun k => (oget d.mgmt.pend k).isNone) with
  | some k => some k
  | none =>
    (d.mgmt.pend.filter (fun x => !x.2.open_)).foldl (fun b x =>
      match b with
      | none => some x.1
      | some k => match oget d.mgmt.pend k with
        | some y => if x.2.id.toNat < y.id.toNat then some x.1 else b
        | none => b) none

/-- The SUBJECT of a release: the digest of `MOD.SERIAL` (R459). -/
def Dev.releaseSubject (d : Dev) : BitVec 384 := BitVec.ofNat 384 (sha384 (leBytes 4 (d.rd R.SERIAL)))

/-- Reads consecutive registers in ascending order (R485). -/
def Dev.readMany (d : Dev) (off : Nat) : Nat → List Word × Dev
  | 0 => ([], d)
  | n + 1 =>
    let r := d.readReg .mgmt off
    let rest := r.2.readMany (off + 4) n
    (r.1 :: rest.1, rest.2)

/-- The attestation report's content in the order of R465. -/
def Dev.attestReport (d : Dev) (nonce : BitVec 256) : List Byte :=
  let fp := match d.hrn.image with | some im => im.fp.toNat | none => 0
  beBytes 32 nonce.toNat ++ leBytes 4 (d.rd R.SERIAL) ++ leBytes 4 (d.word 0).toNat ++ leBytes 4 (d.word 4).toNat
    ++ beBytes 48 d.fwCopy.digest.toNat ++ leBytes 4 (d.word 0x80001C).toNat ++ beBytes 16 fp
    ++ leBytes 4 d.trust.minSecver.toNat ++ beBytes 16 d.ownerFp.toNat ++ leBytes 4 (d.word 0x80).toNat
    ++ [BitVec.ofNat 8 d.role.code] ++ leBytes 4 d.twin.epoch.toNat ++ leBytes 8 d.timeT.toNat

end Sys2Proof.Machine
end

