-- ==== Sys2Proof/Machine/TriadOps.lean ====
section
/-! DEFINITION. Triads: the voter, stitches, odd replicas, shared reads, task instances and reintegration, as
operations on the module (R125 to R154, R166, R181, R188 to R192). -/

namespace Sys2Proof.Machine

/-! ### Tiles and replicas -/

/-- Changes a tile. -/
def Dev.onTile (d : Dev) (t : Nat) (f : Tile → Tile) : Dev := d.putTile t (f (d.tile t))

/-- Changes every replica of a tile. -/
def Tile.eachRep (x : Tile) (f : Replica → Replica) : Tile :=
  { x with repA := f x.repA, repB := f x.repB, repC := f x.repC }

/-- The tiles in a role: 1 TRIAD, 2 LOOP (R88). -/
def Dev.tilesIn (d : Dev) (role : Nat) : List Nat := (List.range 144).filter (fun t => d.rd (R.TILE_STATUS_ROLE t) = role)

/-- The replicas of a tile in a bit mask. -/
def repMask (rs : List (Fin 3)) : Nat := rs.foldl (fun a r => a + 2 ^ r.val) 0

/-- A tile that takes part in cycles or samples: the module is alive and the tile has not stopped. -/
def Dev.tileLive (d : Dev) (t : Nat) : Bool :=
  d.alive && d.role.runs && !d.on (R.TILE_STATUS_STOPPED t) && !(d.serving t).isEmpty

/-- `MOD.TRIAD`: the tiles with a retired and with a halted replica (R155). -/
def Dev.showTriads (d : Dev) : Dev :=
  (d.wrSat R.TRIAD_DUPLEX_TILES ((d.tiles.filter (fun p => p.2.retired ≠ 0)).length)).wrSat R.TRIAD_HALTED_TILES
    ((d.tiles.filter (fun p => p.2.halted ≠ 0)).length)

/-! ### Tile stop (R152) -/

/-- A tile stops: under R80 for a port fault, else for a duplex stop. The module goes to STOPPED. -/
def Dev.tileStop (d : Dev) (t : Nat) (portFault : Bool := false) : Dev :=
  let d := d.when portFault (fun d => d.raise (R.TILE_FAULT_PORT_FAULT t))
  if d.on (R.TILE_STATUS_STOPPED t) then d
  else
    let d := (d.raise (R.TILE_STATUS_STOPPED t)).when (!portFault) (fun d => d.raise (R.TILE_FAULT_DUPLEX_STOP t))
    let d := (d.onTile t Tile.halt).event .tileStop (source 1 t) [w32 t]
    if d.role.runs then d.goStopped else d

/-! ### Odd replicas (R145, R146, R151) -/

/-- Cause codes of R145. -/
def ocStitch : Nat := 1
def ocVoterTimeout : Nat := 2
def ocRoundTimeout : Nat := 3
def ocSram : Nat := 4
def ocLag : Nat := 5
def ocEvent : Nat := 6
def ocReintVerify : Nat := 7
def ocRead : Nat := 8

/-- The count of a replica in `TILE.MISCNT`. -/
def misFld (t : Nat) (r : Fin 3) : Fld :=
  match r with
  | 0 => R.TILE_MISCNT_MIS_A t
  | 1 => R.TILE_MISCNT_MIS_B t
  | 2 => R.TILE_MISCNT_MIS_C t

/-- The fault bit that a cause also sets (R145). -/
def oddFlag (t cause : Nat) : Option Fld :=
  match cause with
  | 1 | 8 => some (R.TILE_FAULT_STITCH_MISMATCH t)
  | 2 | 3 | 5 | 6 => some (R.TILE_FAULT_VOTER_TIMEOUT t)
  | 4 => some (R.TILE_FAULT_SRAM_UNCORR t)
  | _ => none

/-- An odd finding is counted, shown and recorded, with the time of it kept for R151. -/
def Dev.countOdd (d : Dev) (t : Nat) (r : Fin 3) (cause : Nat) : Dev :=
  let d := (d.incSat (misFld t r)).wr (R.TILE_FAULT_LAST_ODD t) (2 ^ r.val)
  let d := match oddFlag t cause with
    | some f => d.raise f
    | none => d
  let d := ((d.wr R.TRIAD_LAST_TILE t).wr R.TRIAD_LAST_REPLICA (2 ^ r.val)).wr R.TRIAD_LAST_CAUSE cause
  let d := (d.drop R.TRIAD_LAST_RETIRED).event .replicaOdd (source 1 t) [w32 t, w32 (2 ^ r.val), w32 cause]
  d.onTile t (fun x => { x with odd := (x.odd.filter (fun o => d.since o.2 ≤ 10 * nsPerSecond)) ++ [(r.val, d.now)] })

/-- The replica is out of service and everything it has delivered is discarded. -/
def Dev.haltRep (d : Dev) (t : Nat) (r : Fin 3) : Dev :=
  let d := d.wr (R.TILE_STATUS_REP_IN t) (putBit (d.rd (R.TILE_STATUS_REP_IN t)) r.val false)
  d.onTile t (fun x => { (x.setRep r (x.rep r).halt) with
    halted := putBit x.halted r.val true
    voter := x.voter.filter (fun e => e.1 ≠ r.val), stitches := x.stitches.filter (fun e => e.1 ≠ r.val) })

/-- The third finding within 10 s: the replica is retired and the tile runs duplex. -/
def Dev.retireRep (d : Dev) (t : Nat) (r : Fin 3) : Dev :=
  let d := d.onTile t (fun x => { x with
    halted := putBit x.halted r.val false, retired := putBit x.retired r.val true })
  let d := ((d.raise (R.TILE_STATUS_DUPLEX t)).raise (R.TILE_FAULT_REPLICA_RETIRED t)).raise R.TRIAD_LAST_RETIRED
  d.event .replicaRetired (source 1 t) [w32 t, w32 (2 ^ r.val)]

/-- A replica is found odd. A finding for a replica already out of service counts only as REINT_VERIFY for a
halted one. With fewer than two replicas left the tile stops (R154). On a LOOP tile the copy begins at once.
DEDUCED (log 49). DEDUCED (log 50). -/
def Dev.odd (d : Dev) (t : Nat) (r : Fin 3) (cause : Nat) : Dev :=
  let counts := d.inService t r || (cause = ocReintVerify && testBit (d.tile t).halted r.val)
  if !counts || d.on (R.TILE_STATUS_STOPPED t) then d
  else
    let d := (d.countOdd t r cause).haltRep t r
    let d := if 3 ≤ ((d.tile t).odd.filter (fun o => o.1 = r.val)).length then d.retireRep t r else d
    let d := d.showTriads
    let d := d.flag (R.TILE_STATUS_REINTEGRATING t)
      (d.on (R.TILE_STATUS_REINTEGRATING t) || (d.rd (R.TILE_STATUS_ROLE t) = 2)) |>.when ((d.tile t).halted = 0)
        (fun d => d.drop (R.TILE_STATUS_REINTEGRATING t))
    if (d.serving t).length < 2 then d.tileStop t else d

/-! ### Releases (R166, R215, R381) -/

/-- The bytes of an output-image write that its mask marks. -/
def maskedWrite (m : Memory) (target : Nat) (mask : Byte) (data : DWord) : Memory :=
  (List.range 8).foldl (fun m k =>
    if testBit mask.toNat k then Memory.write m (target + k) (BitVec.ofNat 8 (data.toNat / 2 ^ (8 * k))) else m) m

/-- The local outputs take their values from the released output images (R380, R381). -/
def Dev.releaseLocal (d : Dev) (t : Nat) (p : PartImg) : Dev :=
  match d.hrn.image.filter (fun _ => !d.committed) with
  | none => d
  | some im =>
    let out := (d.tile t).output
    let pins := im.dioOut.filter (fun x => x.2.1 = p.num)
    let d := if pins.isEmpty then d
      else
        let v := pins.foldl (fun v x => putBit v x.1 (testBit (Memory.read out (x.2.2 / 8)).toNat (x.2.2 % 8))) (d.rd R.DIO_OUT)
        d.dioRelease (w32 v)
    p.outputs.foldl (fun d o =>
      match o.dst with
      | .ao k => d.aoRelease k (Memory.readLe out o.off 2)
      | .station _ _ | .trip | .permit | .publish _ => d) d

/-- Result-area slot `k` of a partition. -/
def PartImg.resultAt (p : PartImg) (k : Nat) : Nat := p.outLen - 128 + 16 * k

/-- A release of result-area slots is matched with the commands that were delivered in them (R215). -/
def Dev.takeResults (d : Dev) (t : Nat) (p : PartImg) (staged : List Effect) : Dev :=
  let out := (d.tile t).output
  let touched (a : Nat) : Bool := staged.any (fun e => e.kind = 1 && e.target.toNat < a + 16 && a < e.target.toNat + 8)
  let answer (c : PlantCmd) : PlantCmd :=
    match c.slot with
    | some k =>
      let a := p.resultAt k
      if c.part = p.num && touched a && Memory.readLe out a 4 = c.serial.toNat then
        { c with result := some (w32 (Memory.readLe out (a + 4) 4), Memory.readBytes out (a + 8) 8) }
      else c
    | none => c
  { d with cycle := { d.cycle with inbox := d.cycle.inbox.map answer } }

/-- The staged writes and message words of an instance are released. DEDUCED (log 51). -/
def Dev.releaseStaged (d : Dev) (t : Nat) : Dev :=
  let staged := (d.tile t).staged
  let d := d.onTile t (fun x => { x with
    staged := []
    output := (staged.filter (fun e => e.kind = 1)).foldl (fun m e => maskedWrite m e.target.toNat e.mask e.data) x.output })
  let d := (staged.filter (fun e => e.kind = 2)).foldl
    (fun d e => d.messageWord (e.target.toNat % 2 ^ 16) (e.target.toNat / 2 ^ 16 % 256) e.data) d
  match d.partOf t with
  | some p => (d.releaseLocal t p).takeResults t p staged
  | none => d

/-! ### Errors (R202, R203) -/

/-- An error found while tasks run is listed at the next opportunity. -/
def Dev.listNext (d : Dev) (part : Option Nat) (code task detail : Nat) : Dev :=
  { d with cycle := { d.cycle with waiting := d.cycle.waiting ++ [⟨part, code, task, detail, d.timeT⟩] } }

/-- An error known when the round completes is listed in the same cycle. -/
def Dev.listNow (d : Dev) (part : Option Nat) (code task detail : Nat) : Dev :=
  { d with cycle := { d.cycle with listed := d.cycle.listed ++ [⟨part, code, task, detail, d.timeT⟩] } }

/-! ### Task instances (R158, R190, R195) -/

/-- The reason that marks an abort by the task watchdog. DESIGN CHOICE (log 55). -/
def watchdogReason : Nat := 256

/-- A task instance begins, or a pre-empted one resumes, on every replica in service. -/
def Dev.startRun (d : Dev) (t : Nat) (run : TaskRun) : Dev :=
  match (d.partOf t).bind (fun p => p.task run.task) with
  | none => d
  | some k =>
    let core (r : Fin 3) : Core := if run.cores.isEmpty then freshCore k else (run.cores[r.val]?).getD (freshCore k)
    let d := d.onTile t (fun x => { x with
      current := some { run with cores := [], staged := [] }, ended := false, ranFrom := d.now, staged := run.staged })
    (d.serving t).foldl (fun d r => d.onRep t r (fun x => { x with core := core r })) d

/-- The place of a task among the released instances: WARM_START or COLD_START before all others (R210), the error task,
then by priority, periodic before event, and lower number (R195). -/
def taskRank (p : PartImg) (task : Nat) : Nat :=
  if task = 32 ∨ task = 33 then 0
  else if task = 96 then 1
  else match p.task task with
    | some k => (1 + k.priority) * 1024 + (if 32 ≤ task then 512 else 0) + task
    | none => 2 ^ 20

/-- The instance that runs next under the fall-back schedule, of those released and those pre-empted. -/
def Tile.nextRun (x : Tile) (p : PartImg) : Option TaskRun :=
  (x.waiting ++ x.preempted).foldl (fun b r =>
    match b with
    | none => some r
    | some y => if taskRank p r.task < taskRank p y.task then some r else some y) none

/-- The next instance begins: of the cycle's sequence, or under the fall-back schedule by priority. -/
def Dev.startNext (d : Dev) (t : Nat) : Dev :=
  match d.partOf t with
  | none => d
  | some p =>
    let x := d.tile t
    if d.on R.CYCLE_STATUS_FALLBACK then
      match x.nextRun p with
      | none => d
      | some r =>
        let d := d.onTile t (fun x => { x with
          waiting := x.waiting.filter (fun y => y.task ≠ r.task), preempted := x.preempted.filter (fun y => y.task ≠ r.task) })
        d.startRun t r
    else match x.todo with
      | [] => d
      | k :: ks =>
        let d := d.onTile t (fun x => { x with todo := ks })
        d.startRun t { task := k, release := d.cycle.num.toNat, input := x.input }

/-! ### Deliveries at the end of the last task (R188, R207) -/

/-- A byte of the replicas' SRAM as it is delivered: bitwise 2-of-3, and with two replicas none when they
differ. -/
def Dev.votedByte (d : Dev) (t a : Nat) : Option Byte :=
  let b (r : Fin 3) : Byte := Memory.read ((d.tile t).rep r).sram a
  match d.serving t with
  | [x, y, z] => some (BitVec.ofNat 8 (maj3 (b x).toNat (b y).toNat (b z).toNat))
  | [x, y] => if b x = b y then some (b x) else none
  | _ => none

/-- A range of the replicas' SRAM as it is delivered. -/
def Dev.votedRange (d : Dev) (t a n : Nat) : Option (List Byte) :=
  (List.range n).foldr (fun k acc =>
    match d.votedByte t (a + k), acc with
    | some b, some bs => some (b :: bs)
    | _, _ => none) (some [])

/-- The publish variables of a tile, by their place in PUBLISH. -/
def Dev.pubOf (d : Dev) (p : PartImg) : List (Nat × PubVar) :=
  match d.hrn.image with
  | none => []
  | some im => ((List.range im.publish.length).zip im.publish).filter (fun v => v.2.part = p.num)

/-- A tile delivers its publish variables; a word on which a duplex tile's replicas differ stops it. -/
def Dev.deliverPublish (d : Dev) (t : Nat) (p : PartImg) : Dev :=
  (d.pubOf p).foldl (fun d v =>
    match d.votedRange t v.2.addr v.2.len with
    | some bs => { d with cycle := { d.cycle with pubDue := oput d.cycle.pubDue v.1 bs } }
    | none => d.tileStop t) d

/-- A tile delivers its retain range. -/
def Dev.deliverRetain (d : Dev) (t : Nat) (p : PartImg) : Dev :=
  match p.retain with
  | none => d
  | some (a, n) =>
    match d.votedRange t a n with
    | some bs => { d with cycle := { d.cycle with delivered := oput d.cycle.delivered p.num bs } }
    | none => d.tileStop t

/-- The complete copy under the fall-back schedule: each partition's latest delivered range (R207). -/
def Dev.copyLatest (d : Dev) (part : Nat) : Dev :=
  match oget d.cycle.delivered part with
  | none => d
  | some bs =>
    let old := match d.cycle.copy with | some c => c.2 | none => []
    { d with cycle := { d.cycle with copy := some (d.cycle.num, oput old part bs) } }

/-- Execution time of the latest completed instance of a task (R198). -/
def Dev.noteTime (d : Dev) (part task ns : Nat) : Dev :=
  { d with cycle := { d.cycle with
      times := d.cycle.times.filter (fun x => x.1 ≠ part ∨ x.2.1 ≠ task) ++ [(part, task, ns)] } }

/-! ### Plant commands completed (R215, R216) -/

/-- The result of a delivered command: the last matching one, ABORTED or NO_RESULT. -/
def PlantCmd.outcome (c : PlantCmd) (aborted : Bool) : Word × List Byte :=
  match c.result with
  | some r => r
  | none => (if aborted then 0xFFFFFFFE else 0xFFFFFFFF, List.replicate 8 0)

/-- The result is stored with its source, and the request that waits for it is answered. -/
def Dev.completeCommand (d : Dev) (c : PlantCmd) (aborted : Bool) : Dev :=
  let o := c.outcome aborted
  let d := { d with cycle := { d.cycle with
      inbox := d.cycle.inbox.filter (fun x => x.source ≠ c.source ∨ x.serial ≠ c.serial)
      sources := d.cycle.sources.map (fun (s : CmdSource) =>
        if s.client = c.source then { s with results := ((c.serial, o.1, o.2) :: s.results).take 64 } else s) } }
  d.finishRequest rqPlantCommand c.source c.id .ok (leBytes 4 o.1.toNat ++ o.2)

/-- The delivering cycle or instance of a partition ends: its delivered commands are completed. -/
def Dev.completePart (d : Dev) (part : Nat) (aborted : Bool) : Dev :=
  (d.cycle.inbox.filter (fun c => c.part = part && c.slot.isSome)).foldl (fun d c => d.completeCommand c aborted) d

/-! ### The end of an instance (R166, R181, R192) -/

/-- The running instance of a tile is one of a task. -/
def Tile.runs (x : Tile) (task : Nat) : Bool := match x.current with | some r => r.task = task | none => false

/-- The voter has issued the marker of an instance: its staged effects are released, or after an abort
discarded (R166, R181). The watchdog's abort of an instance that waits or is pre-empted leaves the running one as it is
(R197). An abort of the error task is not listed again (R185). -/
def Dev.issueMarker (d : Dev) (t : Nat) (abort : Option (Nat × Nat)) : Dev :=
  let part := match d.partOf t with | some p => p.num | none => 0
  match abort with
  | none => (d.releaseStaged t).onTile t (fun x => { x with ended := true })
  | some (task, reason) =>
    let d := d.onTile t (fun x =>
      if x.runs task then { x with staged := [], ended := true, aborted := true } else { x with aborted := true })
    if reason = watchdogReason then d
    else
      let d := d.event .stackFault (source 1 t) [w32 t, w32 task, w32 reason]
      if task = 96 then d.onTile t (fun x => { x with reserveLeft := max 1 x.reserveLeft })
      else (d.onTile t (fun x => { x with reserveLeft := 2 })).listNext (some part) 1 task reason

/-- What the end of a task instance brings beside its release: its time, and under the fall-back schedule the
retain range of the retain task, the publish variables, and the results of the command task. -/
def Dev.closeRun (d : Dev) (t : Nat) (run : TaskRun) : Dev :=
  match d.partOf t with
  | none => d
  | some p =>
    let d := d.noteTime p.num run.task (run.ran + d.since (d.tile t).ranFrom)
    if d.on R.CYCLE_STATUS_FALLBACK then
      let d := d.deliverPublish t p
      match p.task run.task with
      | some k =>
        let d := if k.retainTask then (d.deliverRetain t p).copyLatest p.num else d
        if k.commandTask then d.completePart p.num (d.tile t).aborted else d
      | none => d
    else d

/-- The last task of the cycle has ended: the retain range and the publish variables are delivered. -/
def Dev.deliverCycle (d : Dev) (t : Nat) : Dev :=
  match d.partOf t with
  | none => d.onTile t (fun x => { x with delivered := true })
  | some p => ((d.deliverRetain t p).deliverPublish t p).onTile t (fun x => { x with delivered := true })

/-- The present instance has ended on every replica in service and its marker is issued: the next one begins,
or the cycle's deliveries are made. -/
def Dev.advanceTasks (d : Dev) (t : Nat) : Dev :=
  let x := d.tile t
  match x.current with
  | none => d
  | some run =>
    if x.ended && (d.serving t).all (fun r => !(x.rep r).core.running && (x.rep r).outbox.isEmpty) then
      let d := (d.onTile t (fun x => { x with current := none, ended := false })).closeRun t run
      let d := d.startNext t
      if (d.tile t).current.isNone && !d.on R.CYCLE_STATUS_FALLBACK && !d.on (R.TILE_STATUS_STOPPED t) then d.deliverCycle t
      else d
    else d

/-! ### The voter (R136 to R139) -/

/-- Two entries are identical in every bit. -/
def Effect.same (a b : Effect) : Bool :=
  a.idx = b.idx && a.kind = b.kind && a.mask = b.mask && a.target = b.target && a.data = b.data

/-- Bitwise 2-of-3 of three entries. -/
def majority (a b c : Effect) : Effect :=
  { idx := a.idx, kind := maj3 a.kind b.kind c.kind
    mask := BitVec.ofNat 8 (maj3 a.mask.toNat b.mask.toNat c.mask.toNat)
    target := w32 (maj3 a.target.toNat b.target.toNat c.target.toNat)
    data := BitVec.ofNat 64 (maj3 a.data.toNat b.data.toNat c.data.toNat)
    abort := if a.abort = b.abort || a.abort = c.abort then a.abort else b.abort }

/-- What the voter does about the next index. -/
inductive Vote where
  | wait
  | issue (e : Effect)
  | stop

/-- The entries of the next index, in the order A, B, C. -/
def Tile.entries (x : Tile) : List Effect :=
  [0, 1, 2].filterMap (fun r => (x.voter.find? (fun e => e.1 = r && e.2.idx = x.next)).map (·.2))

/-- The decision on the next index (R137, R139). -/
def Dev.vote (d : Dev) (t : Nat) : Vote :=
  match (d.tile t).entries with
  | [a, b, c] => .issue (majority a b c)
  | [a, b] => if a.same b then .issue a else if (d.serving t).length = 2 then .stop else .wait
  | _ => .wait

/-- An effect leaves the tile (R137, R140): writes and message words are staged, device stores act at once. -/
def Dev.issueEffect (d : Dev) (t : Fin 144) (e : Effect) : Dev :=
  match e.kind with
  | 1 | 2 => d.onTile t.val (fun x => { x with staged := x.staged ++ [e] })
  | 3 => d.writeReg (.tack t) e.target.toNat (w32 e.data.toNat)
  | 5 =>
    let u := e.target.toNat % 256
    let o := e.target.toNat / 256 % 256
    if u < 0x80 then d.issueOutput u o (w32 e.data.toNat) else d.axisDeliver (u - 0x80) o (w32 e.data.toNat)
  | 0x0E => d.endSample t.val
  | 0x0F => d.issueMarker t.val e.abort
  | _ => d

/-- The next index has been issued; entries are kept until every replica in service has delivered its own. -/
def Dev.noteIssued (d : Dev) (t : Nat) (e : Effect) : Dev :=
  let least := (d.serving t).foldl (fun m r => min m ((d.tile t).rep r).given) (e.idx + 1)
  d.onTile t (fun x =>
    let all := (x.issued ++ [e]).filter (fun y => least ≤ y.idx)
    { x with next := e.idx + 1, voter := x.voter.filter (fun y => e.idx < y.2.idx)
             issued := all.drop (all.length - 64) })

/-- A replica more than 64 indices behind the most recently issued effect is odd (R138). -/
def Dev.checkLag (d : Dev) (t : Nat) : Dev :=
  match (d.serving t).find? (fun r => ((d.tile t).rep r).given + 64 < (d.tile t).next) with
  | some r => d.odd t r ocLag
  | none => d

/-- Issues every effect that can be issued, in ascending index order. -/
def Dev.pumpVoter (d : Dev) (t : Fin 144) : Nat → Dev
  | 0 => d
  | n + 1 =>
    if !d.tileLive t.val then d
    else match d.vote t.val with
      | .wait => d.advanceTasks t.val
      | .stop => d.tileStop t.val
      | .issue e => (((d.noteIssued t.val e).issueEffect t e).checkLag t.val).pumpVoter t n

/-- The voter acts on what it holds. -/
def Dev.runVoter (d : Dev) (t : Fin 144) : Dev := d.pumpVoter t ((d.tile t.val).voter.length + 1)

/-- A replica is found odd, and the voter acts on what is left. -/
def Dev.oddVoted (d : Dev) (t : Fin 144) (r : Fin 3) (cause : Nat) : Dev := (d.odd t.val r cause).runVoter t

/-- VOTER_ENTRY: the oldest effect under way from a replica reaches the voter. -/
def Dev.voterEntry (d : Dev) (t : Fin 144) (r : Fin 3) : Dev :=
  if !d.tileLive t.val || !d.inService t.val r then d
  else match ((d.tile t.val).rep r).outbox with
    | [] => d
    | e :: es =>
      let late := e.idx < (d.tile t.val).next
      let d := d.onTile t.val (fun x => { (x.setRep r { x.rep r with outbox := es, given := e.idx + 1 }) with
        voter := if late then x.voter else x.voter ++ [(r.val, e)] })
      d.runVoter t

/-- A replica in service that has not delivered an issued entry, the oldest such entry first. -/
def Dev.undelivered (d : Dev) (t : Nat) : Option (Fin 3) :=
  (d.tile t).issued.findSome? (fun e => (d.serving t).find? (fun r => ((d.tile t).rep r).given ≤ e.idx))

/-! ### Stitches (R141 to R143) -/

/-- The majority stitch of a window is kept for the twin comparison (R143, R328). -/
def Dev.noteStitch (d : Dev) (t w : Nat) (s : DWord) : Dev :=
  if d.rd (R.TILE_STATUS_ROLE t) = 2 then
    match (d.tile t).sample with
    | some (k, n) => { d with twin := { d.twin with loopStitches := d.twin.loopStitches ++ [(k, n.toNat, s)] } }
    | none => d
  else d.onTile t (fun x => { x with majority := x.majority ++ [(w, s)] })

/-- The delivered stitches of a window, by replica. -/
def Tile.stitchesOf (x : Tile) (w : Nat) : List (Nat × DWord) :=
  (x.stitches.filter (fun s => s.2.1 = w)).map (fun s => (s.1, s.2.2))

/-- The replica of an index. -/
def repOf (n : Nat) : Fin 3 := if n = 0 then 0 else if n = 1 then 1 else 2

/-- A window whose stitches every replica in service has delivered is compared. DEDUCED (log 54). -/
def Dev.compareStitches (d : Dev) (t : Fin 144) (w : Nat) : Dev :=
  let ss := (d.tile t.val).stitchesOf w
  if ss.length < (d.serving t.val).length ∨ ss.length < 2 then d
  else
    let d := d.onTile t.val (fun x => { x with stitches := x.stitches.filter (fun s => s.2.1 ≠ w) })
    let differ (d : Dev) : Dev := (d.raise (R.TILE_FAULT_STITCH_MISMATCH t.val)).tileStop t.val
    match ss with
    | [(_, x), (_, y)] => if x = y then d.noteStitch t.val w x else differ d
    | [(a, x), (b, y), (c, z)] =>
      if x = y ∧ y = z then d.noteStitch t.val w x
      else if x = y then (d.noteStitch t.val w x).oddVoted t (repOf c) ocStitch
      else if x = z then (d.noteStitch t.val w x).oddVoted t (repOf b) ocStitch
      else if y = z then (d.noteStitch t.val w y).oddVoted t (repOf a) ocStitch
      else differ d
    | _ => d

/-- Compares every window that can be compared, lowest first. -/
def Dev.compareAll (d : Dev) (t : Fin 144) : Dev :=
  let ws := ((d.tile t.val).stitches.map (fun s => s.2.1)).eraseDups
  ws.foldl (fun d w => if d.tileLive t.val then d.compareStitches t w else d) d

/-- A replica is found odd: the voter and the stitch unit act on what the others have delivered (R143, R146). -/
def Dev.oddThen (d : Dev) (t : Fin 144) (r : Fin 3) (cause : Nat) : Dev := (d.oddVoted t r cause).compareAll t

/-- VOTER_TIMEOUT: 5 µs have passed and an entry is still missing: of an issued effect, whose missing replica is
odd, else of the next index, and the tile stops (R137, R139). -/
def Dev.voterTimeout (d : Dev) (t : Fin 144) : Dev :=
  if !d.tileLive t.val then d
  else match d.undelivered t.val with
    | some r => d.oddThen t r ocVoterTimeout
    | none => if (d.tile t.val).entries.isEmpty then d else d.tileStop t.val

/-- STITCH_DELIVER: a replica delivers the stitch of its oldest closed window. -/
def Dev.stitchDeliver (d : Dev) (t : Fin 144) (r : Fin 3) : Dev :=
  if !d.tileLive t.val || !d.inService t.val r then d
  else match ((d.tile t.val).rep r).closed with
    | [] => d
    | (w, s) :: rest =>
      let d := d.onTile t.val (fun x => { (x.setRep r { x.rep r with closed := rest }) with
        stitches := x.stitches ++ [(r.val, w, s)] })
      d.compareAll t

/-- STITCH_TIMEOUT: 5 µs after the second stitch of a window the third is still missing. -/
def Dev.stitchTimeout (d : Dev) (t : Fin 144) (r : Fin 3) : Dev :=
  if !d.tileLive t.val || !d.inService t.val r then d
  else
    let x := d.tile t.val
    match (x.stitches.map (fun s => s.2.1)).find? (fun w => (x.stitchesOf w).length = 2 && !(x.stitchesOf w).any (fun s => s.1 = r.val)) with
    | some _ => d.oddThen t r ocVoterTimeout
    | none => d

/-! ### Shared reads (R127) -/

/-- Two reads agree: same kind and address. -/
def PendingRead.agrees (a b : PendingRead) : Bool := a.kind = b.kind && (a.kind = .rdtime || a.addr = b.addr)

/-- The replicas in service that have issued a read, with it. -/
def Dev.reads (d : Dev) (t : Nat) : List (Fin 3 × PendingRead) :=
  (d.serving t).filterMap (fun r => (((d.tile t).rep r).pending).map (fun p => (r, p)))

/-- One read is made, and its result goes to some replicas. -/
def Dev.makeRead (d : Dev) (t : Fin 144) (p : PendingRead) (rs : List (Fin 3)) : Dev :=
  let (v, d) : DWord × Dev := match p.kind with
    | .rdtime => (d.timeT, d)
    | .lw | .lwu => let (w, d) := d.readReg (.tack t) (p.addr - 0x80000000); (w.setWidth 64, d)
  rs.foldl (fun d r => d.onRep t.val r (fun x => x.deliverRead v)) d

/-- A shared-read mismatch with no majority: nothing is read and the tile stops. -/
def Dev.readStop (d : Dev) (t : Nat) : Dev := (d.raise (R.TILE_FAULT_STITCH_MISMATCH t)).tileStop t

/-- SHARED_READ: every replica in service has issued its read, and the reads are compared. -/
def Dev.sharedRead (d : Dev) (t : Fin 144) : Dev :=
  if !d.tileLive t.val then d
  else
    let rs := d.reads t.val
    if rs.length < (d.serving t.val).length then d
    else match rs with
      | [(a, x), (b, y)] => if x.agrees y then d.makeRead t x [a, b] else d.readStop t.val
      | [(a, x), (b, y), (c, z)] =>
        if x.agrees y && y.agrees z then d.makeRead t x [a, b, c]
        else if x.agrees y then (d.makeRead t x [a, b]).oddThen t c ocRead
        else if x.agrees z then (d.makeRead t x [a, c]).oddThen t b ocRead
        else if y.agrees z then (d.makeRead t y [b, c]).oddThen t a ocRead
        else d.readStop t.val
      | _ => d

/-- SHARED_READ_TIMEOUT: 5 µs have passed and a read is still missing. -/
def Dev.sharedReadTimeout (d : Dev) (t : Fin 144) : Dev :=
  if !d.tileLive t.val then d
  else
    let rs := d.reads t.val
    let absent := (d.serving t.val).filter (fun r => !rs.any (fun x => x.1 = r))
    match absent, rs with
    | [r], [(a, x), (b, y)] =>
      if x.agrees y then (d.makeRead t x [a, b]).oddThen t r ocVoterTimeout else d.readStop t.val
    | _ :: _, [_] => d.tileStop t.val
    | _, _ => d

/-! ### Events (R128, R195) -/

/-- The highest retired-instruction count among the replicas in service: the count K at which an event enters. -/
def Dev.topCount (d : Dev) (t : Nat) : Nat := (d.serving t).foldl (fun m r => max m ((d.tile t).rep r).retired) 0

/-- An event waits for the tile's replicas, each of which stops at its next retirement or at K. One event waits at a time. -/
def Dev.postEvent (d : Dev) (t : Nat) (abort : Option Nat) : Dev :=
  if (d.tile t).event.isSome then d
  else d.onTile t (fun x => { x with event := some ⟨d.topCount t, abort⟩ })

/-- Every replica in service has reached K. -/
def Dev.eventReached (d : Dev) (t : Nat) (e : TileEvent) : Bool :=
  (d.serving t).all (fun r => e.count ≤ ((d.tile t).rep r).retired)

/-- A released instance goes before the running one. -/
def Dev.preemptDue (d : Dev) (t : Nat) : Bool :=
  let x := d.tile t
  match x.current, d.partOf t with
  | some run, some p =>
    (match x.nextRun p with
     | some r => !x.ended && taskRank p r.task < taskRank p run.task
     | none => false)
  | _, _ => false

/-- A release enters: the running instance is pre-empted, and its state kept in the task context store, unless it has ended
before K (R195). -/
def Dev.preempt (d : Dev) (t : Nat) : Dev :=
  let x := d.tile t
  match x.current with
  | some run =>
    if d.preemptDue t && (d.serving t).all (fun r => (x.rep r).core.running) then
      let saved : TaskRun := { run with
        ran := run.ran + d.since x.ranFrom, cores := [x.repA.core, x.repB.core, x.repC.core], staged := x.staged }
      (d.onTile t (fun x => { x with preempted := saved :: x.preempted, current := none })).startNext t
    else d
  | none => d

/-- The records of a watchdog abort. -/
def Dev.recordWatchdog (d : Dev) (t part task : Nat) : Dev :=
  let d := (d.event .taskWatchdog (source 1 t) [w32 t, w32 task]).raise R.CYCLE_STATUS_WATCHDOG
  d.listNext (some part) 2 task 0

/-- A replica retires the marker of an instance that the watchdog ends; its store buffer drains, and the instance ends on it
when it is the running one (R173, R192). -/
def Replica.watchdogEnd (x : Replica) (run : TaskRun) (running : Bool) : Replica :=
  let y := if running then { x with core := { x.core with running := false }, pending := none } else x
  y.drain.retireEffect 0x0F 0xFF 0 (BitVec.ofNat 64 run.release) (some (run.task, watchdogReason))

/-- The watchdog ends an instance: its marker is retired on every replica in service. Of the partition's remaining instances
of a free-running cycle none runs; an instance that waits or is pre-empted is dropped, and with the command task's the
delivered commands complete as ABORTED (R192, R197, R215). -/
def Dev.endRun (d : Dev) (t : Nat) (p : PartImg) (run : TaskRun) : Dev :=
  let running := (d.tile t).runs run.task
  let d := (d.serving t).foldl (fun d r => d.onRep t r (fun x => x.watchdogEnd run running)) d
  let d := d.onTile t (fun x =>
    if running then { x with todo := [] }
    else { x with
      aborted := true
      waiting := x.waiting.filter (fun r => r.task ≠ run.task), preempted := x.preempted.filter (fun r => r.task ≠ run.task) })
  let d := match p.task run.task with
    | some k => if !running && k.commandTask then d.completePart p.num true else d
    | none => d
  d.recordWatchdog t p.num run.task

/-- The instance of a task that is released and has not ended; a running one still runs on a replica in service. -/
def Dev.openRun (d : Dev) (t task : Nat) : Option TaskRun :=
  let x := d.tile t
  match x.current.filter (fun r => r.task = task) with
  | some r => if !x.ended && (d.serving t).any (fun q => (x.rep q).core.running) then some r else none
  | none => (x.preempted ++ x.waiting).find? (fun r => r.task = task)

/-- An event enters every replica at K. The marker of an abort stalls like any other effect while a replica has 16 unissued
entries (R138); an instance that has ended before K is not aborted. -/
def Dev.enterEvent (d : Dev) (t : Nat) (e : TileEvent) : Dev :=
  match e.abort, d.partOf t with
  | none, _ => (d.onTile t (fun x => { x with event := none })).preempt t
  | some task, some p =>
    (match d.openRun t task with
     | some run =>
       if (d.serving t).any (fun r => 16 ≤ (d.tile t).unissued r) then d
       else (d.onTile t (fun x => { x with event := none })).endRun t p run
     | none => d.onTile t (fun x => { x with event := none }))
  | some _, none => d.onTile t (fun x => { x with event := none })

/-- An event that waits enters once every replica in service has reached K. -/
def Dev.tryEvent (d : Dev) (t : Nat) : Dev :=
  match (d.tile t).event with
  | some e => if d.eventReached t e then d.enterEvent t e else d
  | none => d

/-- EVENT_DELIVERY: a release of higher priority than the running instance is due, or an event waits: K is taken, and the
event enters the replicas as soon as all of them stand at K. DEDUCED (log 143). -/
def Dev.eventDelivery (d : Dev) (t : Fin 144) : Dev :=
  if !d.tileLive t.val then d
  else
    let d := if d.preemptDue t.val then d.postEvent t.val none else d
    d.tryEvent t.val

/-- EVENT_TIMEOUT: an event waits, and a replica has not reached K within 5 µs. -/
def Dev.eventTimeout (d : Dev) (t : Fin 144) (r : Fin 3) : Dev :=
  match (d.tile t.val).event with
  | some e =>
    if d.tileLive t.val && d.inService t.val r && ((d.tile t.val).rep r).retired < e.count then d.oddThen t r ocEvent
    else d
  | none => d

/-! ### SRAM errors (R88, R145, R154) -/

/-- The count of corrected errors of a replica. -/
def eccFld (t : Nat) (r : Fin 3) : Fld :=
  match r with
  | 0 => R.TILE_ECC_CORR_A t
  | 1 => R.TILE_ECC_CORR_B t
  | 2 => R.TILE_ECC_CORR_C t

/-- The source of a copy: the first replica in service. -/
def Dev.copySource (d : Dev) (t : Nat) : Option (Fin 3) := (d.serving t).head?

/-- An uncorrectable error in any replica is shown, and the replica is odd. In the source of a running copy that leaves one
replica, and the tile stops (R154). -/
def Dev.sramUncorr (d : Dev) (t : Fin 144) (r : Fin 3) : Dev :=
  let d := d.when (d.lit && d.on (R.TILE_STATUS_POWERED t.val)) (fun d => d.raise (R.TILE_FAULT_SRAM_UNCORR t.val))
  if d.tileLive t.val then d.oddThen t r ocSram else d

/-! ### Reintegration (R147 to R150) -/

/-- The target of a copy takes the source's core state, SRAM, receive ports, reserve frame and counts; its
performance counters run on. -/
def Replica.copyFrom (target src : Replica) : Replica := { src with perf := target.perf }

/-- The task context store of a replica is copied: the saved core of a pre-empted instance (R195). -/
def TaskRun.copyCore (x : TaskRun) (target src : Fin 3) : TaskRun :=
  match x.cores[src.val]? with
  | some c => { x with cores := x.cores.set target.val c }
  | none => x

/-- The copy to a halted replica is done, and its digest compared (R148, R149). -/
def Dev.finishCopy (d : Dev) (t : Fin 144) (r : Fin 3) (ok : Bool) : Dev :=
  match d.copySource t.val with
  | none => d
  | some s =>
    let x := d.tile t.val
    let d := d.onRep t.val r (fun y => y.copyFrom (x.rep s))
    let d := d.onTile t.val (fun x => { x with preempted := x.preempted.map (fun y => y.copyCore r s) })
    if ok then
      let d := d.wr (R.TILE_STATUS_REP_IN t.val) (putBit (d.rd (R.TILE_STATUS_REP_IN t.val)) r.val true)
      let d := d.onTile t.val (fun x => { x with halted := putBit x.halted r.val false })
      ((d.drop (R.TILE_STATUS_REINTEGRATING t.val)).incSat R.TRIAD_REINT_COUNT).showTriads
    else
      let d := d.onRep t.val r Replica.halt
      if d.rd (R.TILE_STATUS_ROLE t.val) = 2 then d.odd t.val r ocReintVerify
      else (d.drop (R.TILE_STATUS_REINTEGRATING t.val)).odd t.val r ocReintVerify

/-- The halted replica of a tile. -/
def Tile.haltedRep (x : Tile) : Option (Fin 3) := [(0 : Fin 3), 1, 2].find? (fun r => testBit x.halted r.val)

/-- REINTEGRATION_DONE on a TRIAD tile. -/
def Dev.reintegrationDone (d : Dev) (t : Fin 144) (ok : Bool) : Dev :=
  if d.tileLive t.val && d.rd (R.TILE_STATUS_ROLE t.val) = 1 && d.on (R.TILE_STATUS_REINTEGRATING t.val) then
    match (d.tile t.val).haltedRep with
    | some r => d.finishCopy t r ok
    | none => d
  else d

/-- LOOP_REINTEGRATION_DONE: the target rejoins at a sample boundary, with the loop state of the source.
DEDUCED (log 62). -/
def Dev.loopReintegrationDone (d : Dev) (t : Fin 144) (ok : Bool) : Dev :=
  if d.tileLive t.val && d.rd (R.TILE_STATUS_ROLE t.val) = 2 && d.on (R.TILE_STATUS_REINTEGRATING t.val)
      && (d.runningSlot t.val).isNone then
    match (d.tile t.val).haltedRep, d.copySource t.val, d.hrn.image with
    | some r, some s, some im =>
      let mine := im.slots.filter (fun i => i.tile = d.rd (R.TILE_POS_LOGICAL t.val))
      let d := mine.foldl (fun d i => d.onSlot i.num (fun x => x.setRep r (x.rep s))) d
      d.finishCopy t r ok
    | _, _, _ => d
  else d

end Sys2Proof.Machine
end

