-- ==== Sys2Proof/Machine/TwinFrames.lean ====
section
/-! DEFINITION. Forwarded records and stitch summaries on the rings: the bytes of a record, TWIN frames and their
assembly (R326, R328, R353). -/

namespace Sys2Proof.Machine

/-! ### The bytes of a forwarded record (R326) -/

/-- Zero bytes up to the next 8-byte boundary. -/
def pad8 (bs : List Byte) : List Byte := bs ++ List.replicate ((8 - bs.length % 8) % 8) 0

/-- A section: KIND, content length, content. -/
def recSection (kind : Nat) (content : List Byte) : List Byte :=
  pad8 (leBytes 2 kind ++ [0, 0] ++ leBytes 4 content.length ++ content)

/-- Signed words of a list, as many as a section holds. -/
def intWords (n : Nat) (xs : List Int) : List Byte :=
  (List.range n).flatMap (fun k => leBytes 4 (BitVec.ofInt 32 ((xs[k]?).getD 0)).toNat)

/-- Words of a list. -/
def words (n : Nat) (xs : List Word) : List Byte := (List.range n).flatMap (fun k => leBytes 4 ((xs[k]?).getD 0).toNat)

/-- KIND 1: 126 sequence numbers and the map of stations that have one. -/
def stationSection (ss : List (Nat × Word)) : List Byte :=
  (List.range 126).flatMap (fun k => leBytes 4 ((oget ss (k + 1)).getD 0).toNat)
    ++ leBytes 16 (ss.foldl (fun a s => putBit a s.1 true) 0)

/-- KIND 4: the digital values. -/
def digitalSection (c : Contribution) : List Byte :=
  leBytes 4 c.dio.toNat ++ [c.fb] ++ leBytes 2 c.ft.toNat ++ [0] ++ leBytes 6 c.si.toNat

/-- KIND 8: the partition, and the 1,024 bytes of its module area (R326); on the rings only the inbox slots whose VALID is
1 (R353). -/
def areaSection (ring : Bool) (part : Nat) (area : List Byte) : List Byte :=
  leBytes 2 part ++ List.replicate 6 0
    ++ (if ring then
      (List.range 8).flatMap (fun k =>
        let s := (area.drop (256 + 64 * k)).take 64
        if testBit (leNat ((s.drop 10).take 1)) 0 then s else [])
    else padTo 1024 area)

/-- The sections of a record, in the form of the girth link or in that of the rings. DEDUCED (log 46). -/
def recSections (ring : Bool) (r : FwdRecord) : List (List Byte) :=
  let c := r.local_
  [recSection 1 (stationSection r.stations), recSection 2 (intWords 32 c.fa), recSection 3 (intWords 16 c.ao),
   recSection 4 (digitalSection c), recSection 5 (words 4 c.enc), recSection 6 (words 4 r.canNum)]
  ++ (if r.hart.isEmpty then [] else
    [recSection 7 (r.hart.flatMap (fun h => leBytes 1 (h.1 / 256) ++ leBytes 1 h.1 ++ [0, 0] ++ padTo 32 h.2))])
  ++ r.areas.map (fun a => recSection 8 (areaSection ring a.1 a.2))

/-- The header with a CRC field. -/
def recHeader (r : FwdRecord) (len sections crc : Nat) : List Byte :=
  leBytes 8 r.cycle.toNat ++ leBytes 8 r.tstamp.toNat ++ leBytes 4 len ++ leBytes 2 sections ++ List.replicate 6 0
    ++ leBytes 4 crc

/-- A record's bytes, on the rings or on the girth link. -/
def recordBytes (ring : Bool) (r : FwdRecord) : List Byte :=
  let ss := recSections ring r
  let body := ss.flatten
  let n := 32 + body.length
  recHeader r n ss.length (crc32 (recHeader r n ss.length 0 ++ body)) ++ body

/-- The sections of a record by KIND, at most as many as its header says. -/
def readSections : Nat → List Byte → List (Nat × List Byte)
  | 0, _ => []
  | n + 1, bs =>
    let len := leNat ((bs.drop 4).take 4)
    (leNat (bs.take 2), (bs.drop 8).take len) :: readSections n (bs.drop (8 + (len + 7) / 8 * 8))

/-- Consecutive pieces of a list. -/
def chunks (size : Nat) : Nat → List Byte → List (List Byte)
  | 0, _ => []
  | n + 1, bs => if bs.isEmpty then [] else bs.take size :: chunks size n (bs.drop size)

/-- Words of a section. -/
def readWords (n : Nat) (bs : List Byte) : List Word := (List.range n).map (fun k => w32 (leNat ((bs.drop (4 * k)).take 4)))
def readInts (n : Nat) (bs : List Byte) : List Int := (readWords n bs).map (fun w => w.toInt)

/-- What one section brings. -/
def takeSection (ring : Bool) (r : FwdRecord) (s : Nat × List Byte) : FwdRecord :=
  let f (off n : Nat) : Nat := leNat ((s.2.drop off).take n)
  match s.1 with
  | 1 => { r with stations := ((List.range 126).filter (fun k => testBit (f 504 16) (k + 1))).map (fun k => (k + 1, w32 (f (4 * k) 4))) }
  | 2 => { r with local_ := { r.local_ with fa := readInts 32 s.2 } }
  | 3 => { r with local_ := { r.local_ with ao := readInts 16 s.2 } }
  | 4 => { r with local_ := { r.local_ with
      dio := w32 (f 0 4), fb := BitVec.ofNat 8 (f 4 1), ft := BitVec.ofNat 16 (f 5 2), si := BitVec.ofNat 48 (f 8 6) } }
  | 5 => { r with local_ := { r.local_ with enc := readWords 4 s.2 } }
  | 6 => { r with canNum := readWords 4 s.2 }
  | 7 => { r with hart := (chunks 36 128 s.2).map (fun h =>
      (leNat (h.take 1) * 256 + leNat ((h.drop 1).take 1), h.drop 4)) }
  | 8 => { r with areas := r.areas ++ [(f 0 2, padTo 1024 ((if ring then List.replicate 256 0 else []) ++ s.2.drop 8))] }
  | _ => r

/-- The record that bytes from the rings or from the girth link spell; its CRC is checked over the length it names. -/
def readRecord (ring : Bool) (bs : List Byte) : FwdRecord :=
  let f (off n : Nat) : Nat := leNat ((bs.drop off).take n)
  let r : FwdRecord :=
    { cycle := BitVec.ofNat 64 (f 0 8), tstamp := BitVec.ofNat 64 (f 8 8), derived := ring
      crcOk := bs.length = f 16 4 && crc32 (bs.take 28 ++ [0, 0, 0, 0] ++ bs.drop 32) = f 28 4 }
  (readSections (f 20 2) (bs.drop 32)).foldl (takeSection ring) r

/-! ### TWIN frames (R353) -/

/-- The payloads of a message: up to 1,408 bytes of content in each. -/
def twinPayloads (kind : Nat) (cycle : DWord) (content : List Byte) : List (List Byte) :=
  let cs := chunks 1408 (content.length / 1408 + 1) content
  ((List.range cs.length).zip cs).map (fun x =>
    [0x54, BitVec.ofNat 8 kind] ++ leBytes 2 (x.1 + (if x.1 + 1 = cs.length then 32768 else 0)) ++ leBytes 8 cycle.toNat
      ++ [0, 0, 0, 0] ++ x.2)

/-- While the girth path is silent, the ACTIVE's message waits for the next periods. DEDUCED (log 90). -/
def Dev.queueTwin (d : Dev) (kind : Nat) (cycle : DWord) (content : List Byte) : Dev :=
  if d.role = .active && !d.on R.TWIN_STATUS_GIRTH_UP then
    d.onRing (fun r => { r with twinOut := r.twinOut ++ twinPayloads kind cycle content })
  else d

/-- A fragment arrives: the content of its message, once every fragment is there. One that came over the other ring
already is dropped. -/
def Dev.takeFragment (d : Dev) (x : TwinFragment) : Option (List Byte) × Dev :=
  if oget d.ring.twinDone x.kind = some x.cycle then (none, d)
  else
    let same (y : TwinFragment) : Bool := y.kind = x.kind && y.cycle = x.cycle
    let fs := if d.ring.fragments.any (fun y => same y && y.index = x.index) then d.ring.fragments else d.ring.fragments ++ [x]
    let mine := fs.filter same
    match mine.find? (·.last) with
    | none => (none, d.onRing (fun r => { r with fragments := fs }))
    | some l =>
      let parts := (List.range (l.index + 1)).map (fun k => (mine.find? (fun y => y.index = k)).map (·.content))
      if parts.all (·.isSome) then
        (some ((parts.map (fun p => p.getD [])).flatten),
         d.onRing (fun r => { r with
           fragments := fs.filter (fun y => y.kind ≠ x.kind), twinDone := oput r.twinDone x.kind x.cycle }))
      else (none, d.onRing (fun r => { r with fragments := fs }))

end Sys2Proof.Machine
end

