-- ==== Sys2Proof/Machine/RoundOps.lean ====
section
/-! DEFINITION. The input agreement round: agreed values, station data, the module area, triggers, and the task
instances that a cycle or a base period releases (R130 to R135, R190, R194 to R206, R214). -/

namespace Sys2Proof.Machine

/-! ### Agreed values (R131 to R133) -/

/-- The median of three under an order. -/
def med3 {α : Type} (lt : α → α → Bool) (a b c : α) : α :=
  if lt a b then (if lt b c then b else if lt a c then c else a)
  else if lt a c then a else if lt b c then c else b

/-- The order of sequence numbers; no frame is earlier than any (R131). -/
def seqBefore (a b : Option Word) : Bool :=
  match a, b with
  | none, some _ => true
  | some x, some y => later y x
  | _, none => false

/-- The median of three, or the lesser of two. -/
def agreeBy {α : Type} (lt : α → α → Bool) (dflt : α) : List α → α
  | [a, b, c] => med3 lt a b c
  | [a, b] => if lt b a then b else a
  | a :: _ => a
  | [] => dflt

/-- Bitwise 2-of-3, or with two the first. -/
def agreeBits : List Nat → Nat
  | [a, b, c] => maj3 a b c
  | a :: _ => a
  | [] => 0

/-- The agreed values of the contributions, in the order A, B, C; the time-stamp of two is the first's. -/
def agree (ns : List Nat) (cs : List Contribution) : Contribution :=
  let seq (n : Nat) : Option Word :=
    agreeBy seqBefore none (cs.map (fun c => (c.stations.find? (fun s => s.1 = n)).map (·.2)))
  { stations := ns.filterMap (fun n => (seq n).map (fun s => (n, s)))
    fa := (List.range 32).map (fun k => agreeBy (fun (a b : Int) => a < b) 0 (cs.map (fun c => (c.fa[k]?).getD 0)))
    ao := (List.range 16).map (fun k => agreeBy (fun (a b : Int) => a < b) 0 (cs.map (fun c => (c.ao[k]?).getD 0)))
    enc := (List.range 4).map (fun k => agreeBy (fun a b => later b a) 0 (cs.map (fun c => (c.enc[k]?).getD 0)))
    dio := w32 (agreeBits (cs.map (·.dio.toNat)))
    fb := BitVec.ofNat 8 (agreeBits (cs.map (·.fb.toNat)))
    ft := BitVec.ofNat 16 (agreeBits (cs.map (·.ft.toNat)))
    si := BitVec.ofNat 48 (agreeBits (cs.map (·.si.toNat)))
    can := (List.range 4).map (fun k => agreeBy (fun a b => later b a) 0 (cs.map (fun c => (c.can[k]?).getD 0)))
    tstamp := match cs with
      | [a, b, c] => med3 (fun (x y : DWord) => x.toNat < y.toNat) a.tstamp b.tstamp c.tstamp
      | a :: _ => a.tstamp
      | [] => 0 }

/-- What the STANDBY distributes in place of its own samples (R327). -/
def recordAgreed (r : FwdRecord) : Contribution :=
  { r.local_ with stations := r.stations, can := r.canNum, tstamp := r.tstamp }

/-! ### Station data (R132, R204 to R206) -/

/-- The stations that a partition maps. -/
def PartImg.stations (p : PartImg) : List Nat :=
  (p.inputs.filterMap (fun i => match i.src with | .station n _ => some n | _ => none)).eraseDups

/-- A station is dropped out for the module, with its events (R204, R205). -/
def Dev.treatDropped (d : Dev) (n : Nat) : Dev :=
  if (d.ring.station n).dropped then d
  else match d.stationEntry n with
    | none => d
    | some e =>
      let d := d.onStation n (fun x => { x with dropped := true })
      let d := (d.mapBit (R.RING_DROP_MAP 0) n true).mapBit (R.RING_DROP_MAP 1) n true
      d.event (if d.substitutes e then .stationDropout else .stationDropoutHeld) (source 6 n) [w32 n]

/-- What one station's round comes to on a tile: its frame's bytes when they are new, and whether substitute
values begin. -/
structure StationRound where
  num : Nat
  fresh : Option (List Byte) := none
  newSubst : Bool := false

/-- One station of a round: the agreed frame, and what the tile keeps of it (R132, R204 to R206). A frame that a
STANDBY does not hold is a divergence (R328). -/
def Dev.roundStation (d : Dev) (t : Nat) (agreed : Option Word) (n : Nat) : Dev × StationRound :=
  let used := oget (d.tile t).frames n
  let isNew := match agreed with
    | some s => (match used with | some u => u.1 != s | none => true)
    | none => false
  let frame : Option (List Byte) := if isNew then
      (((d.ring.station n).frames ++ (d.ring.station n).held).find? (fun f => some f.1 = agreed)).map (·.2)
    else none
  match agreed, frame with
  | some s, some bs =>
    (d.onTile t (fun x => { x with
      frames := oput x.frames n (s, bs), stale := x.stale.filter (· ≠ n), subst := x.subst.filter (· ≠ n) }),
     { num := n, fresh := some bs })
  | _, _ =>
    let d := if isNew && d.role = .standby then
        (d.incSat R.TWIN_FWD_MISSING) |> fun d => { d with twin := { d.twin with divergeDue := d.twin.divergeDue.or (some 3) } }
      else d
    let d := if d.cycle.first && agreed.isNone && used.isNone then d.treatDropped n else d
    let sub := (d.ring.station n).dropped && (match d.stationEntry n with | some e => d.substitutes e | none => false)
    let newSub := sub && !(d.tile t).subst.contains n
    (d.onTile t (fun x => { x with
      stale := if x.stale.contains n then x.stale else x.stale ++ [n]
      subst := if newSub then x.subst ++ [n] else x.subst }),
     { num := n, newSubst := newSub })

/-- Every station of a round, in rising order of the partition's map. -/
def Dev.roundStations (d : Dev) (t : Nat) (a : Contribution) (ns : List Nat) : Dev × List StationRound :=
  ns.foldl (fun acc n =>
    let r := acc.1.roundStation t ((a.stations.find? (fun s => s.1 = n)).map (·.2)) n
    (r.1, acc.2 ++ [r.2])) (d, [])

/-! ### The input image (R132, R165) -/

/-- The value of an input point before any data: its initial value, or 0. -/
def PartImg.substByte (p : PartImg) (a : Nat) : Byte :=
  match oget p.inSubst a with
  | some b => b
  | none => (oget p.inInit a).getD 0

/-- The block of a HART device by channel and place in IOMAP; in STANDBY as forwarded (R325, R390). -/
def Dev.hartBlockOf (d : Dev) (ch dv : Nat) : List Byte :=
  match d.role, d.twin.record with
  | .standby, some r => (oget r.hart (ch * 256 + dv)).getD []
  | _, _ => ((d.io.chan ch).dev (((d.hartDevices ch)[dv]?).getD 0)).shown

/-- The bytes that a range of the input image takes in a round; none where the range keeps its value. -/
def Dev.inputBytes (d : Dev) (p : PartImg) (a : Contribution) (rs : List StationRound) (i : InMap) : Option (List Byte) :=
  match i.src with
  | .station n off =>
    match rs.find? (fun r => r.num = n) with
    | some r =>
      (match r.fresh with
       | some bs => some (padTo i.len (bs.drop off))
       | none => if r.newSubst then some ((List.range i.len).map (fun k => p.substByte (i.off + k))) else none)
    | none => none
  | .fa k => some (padTo i.len (leBytes 4 (BitVec.ofInt 32 ((a.fa[k]?).getD 0)).toNat))
  | .ao k => some (padTo i.len (leBytes 4 (BitVec.ofInt 32 ((a.ao[k]?).getD 0)).toNat))
  | .enc k => some (padTo i.len (leBytes 4 ((a.enc[k]?).getD 0).toNat))
  | .fb => some (padTo i.len [a.fb])
  | .ft => some (padTo i.len (leBytes 2 a.ft.toNat))
  | .si => some (padTo i.len (leBytes 6 a.si.toNat))
  | .hart ch dv => some (padTo i.len (d.hartBlockOf ch dv))
  | .dio _ _ | .dioFault _ => none

/-- A range of the input image after a round. -/
def Dev.inputRange (d : Dev) (p : PartImg) (a : Contribution) (rs : List StationRound) (m : Memory) (i : InMap) : Memory :=
  let setBit (m : Memory) (k : Nat) (b : Bool) : Memory :=
    Memory.write m i.off (BitVec.ofNat 8 (putBit (Memory.read m i.off).toNat k b))
  match i.src with
  | .dio pin k => setBit m k (testBit a.dio.toNat pin)
  | .dioFault k => setBit m k (d.on R.DIO_STATUS_FAULT)
  | _ => match d.inputBytes p a rs i with
    | some bs => Memory.writeBytes m i.off bs
    | none => m

/-! ### The error list (R202, R203) -/

/-- An entry was found before another. -/
def ErrEntry.before (a b : ErrEntry) : Bool := a.t.toNat < b.t.toNat || (a.t = b.t && a.code < b.code)

/-- An entry goes before another in the list: by code, then by time (R217). DEDUCED (log 144). -/
def ErrEntry.above (a b : ErrEntry) : Bool := a.code < b.code || (a.code = b.code && a.t.toNat < b.t.toNat)

/-- Insertion in an order. -/
def errInsert (lt : ErrEntry → ErrEntry → Bool) (x : ErrEntry) : List ErrEntry → List ErrEntry
  | [] => [x]
  | y :: ys => if lt y x then y :: errInsert lt x ys else x :: y :: ys

/-- The entries due for a partition, by detection time. -/
def Dev.errorsOf (d : Dev) (part : Nat) : List ErrEntry :=
  ((d.cycle.listed.filter (fun e => e.part = none ∨ e.part = some part)).foldr (errInsert ErrEntry.before) [])

/-- The list: the first 8 by detection time. -/
def listedErrors (es : List ErrEntry) : List ErrEntry := (es.take 8).foldr (errInsert ErrEntry.above) []

/-- The 16 bytes of an entry. -/
def ErrEntry.bytes (e : ErrEntry) : List Byte :=
  leBytes 2 e.code ++ [BitVec.ofNat 8 e.task, 0] ++ leBytes 4 e.detail ++ leBytes 8 e.t.toNat

/-! ### The module area (R200, R201, R214) -/

/-- A station map of 16 bytes. -/
def stationMap (ns : List Nat) : List Byte := leBytes 16 (ns.foldl (fun a n => putBit a n true) 0)

/-- The status block of a partition. -/
def Dev.statusBlock (d : Dev) (t part : Nat) : List Byte :=
  let es := d.errorsOf part
  let flags := d.rd R.CYCLE_STATUS_RESTART_KIND + 4 * bit d.cycle.first + 8 * bit (d.on R.CYCLE_STATUS_FALLBACK)
    + 16 * bit (d.on R.CYCLE_STATUS_RETAIN_INVALID) + 256 * min 8 es.length + 8192 * bit (8 < es.length)
  leBytes 8 d.cycle.num.toNat ++ leBytes 8 flags ++ stationMap (d.tile t).stale ++ stationMap (d.tile t).subst
    ++ leBytes 8 d.cycle.lastNs ++ List.replicate 24 0
    ++ padTo 128 ((listedErrors es).foldl (fun a e => a ++ e.bytes) []) ++ List.replicate 48 0

/-- An inbox slot. -/
def PlantCmd.slotBytes (c : PlantCmd) : List Byte :=
  leBytes 4 c.serial.toNat ++ leBytes 4 c.source.toNat ++ leBytes 2 c.code ++ [1, 0, 0, 0, 0, 0] ++ padTo 48 c.args

/-- A command is shown in the inbox of its partition: only in the cycle or release of its delivery (R214). -/
def Dev.delivers (d : Dev) (part : Nat) (c : PlantCmd) : Bool :=
  c.part = part && c.slot.isSome && c.deliveredIn = d.cycle.num

/-- The 512 bytes of a partition's command inbox. -/
def Dev.inboxBytes (d : Dev) (part : Nat) : List Byte :=
  (List.range 8).foldl (fun a k =>
    a ++ (match d.cycle.inbox.find? (fun c => d.delivers part c && c.slot = some k) with
      | some c => c.slotBytes
      | none => List.replicate 64 0)) []

/-- The module area of a partition: in STANDBY as forwarded; a record sent over the rings leaves the status block to the
STANDBY (R353). -/
def Dev.moduleArea (d : Dev) (t part : Nat) : List Byte :=
  match d.role, d.twin.record with
  | .standby, some r =>
    let area := padTo 1024 ((oget r.areas part).getD [])
    if r.derived then padTo 256 (d.statusBlock t part) ++ area.drop 256 else area
  | _, _ => d.statusBlock t part ++ d.inboxBytes part ++ List.replicate 256 0

/-! ### Plant commands delivered (R214) -/

/-- The standby's acknowledgement is awaited. -/
def Dev.awaitsAck (d : Dev) : Bool :=
  d.role.commanding && d.on R.TWIN_STATUS_ELIGIBLE && d.on R.TWIN_STATUS_GIRTH_UP

/-- A command's own steps are complete. -/
def Dev.commandReady (d : Dev) (c : PlantCmd) : Bool := c.journalled && (c.acked || !d.awaitsAck)

/-- `MOD.CMD_STATUS.QUEUED`. -/
def Dev.showCommands (d : Dev) : Dev := d.wrSat R.CMD_STATUS_QUEUED d.cycle.queue.length

/-- At most 8 ready commands of a partition are delivered into its inbox, strictly in order of acceptance. -/
def Dev.deliverCommands (d : Dev) (part : Nat) : Dev :=
  let due := ((d.cycle.queue.filter (fun c => c.part = part)).takeWhile d.commandReady).take 8
  let placed := ((List.range due.length).zip due).map (fun (x : Nat × PlantCmd) =>
    { x.2 with slot := some x.1, deliveredIn := d.cycle.num })
  { d with cycle := { d.cycle with
      queue := d.cycle.queue.filter (fun c => !due.contains c), inbox := d.cycle.inbox ++ placed } }.showCommands

/-! ### Triggers (R194) -/

/-- A trigger has occurred, from the image before and after the round. -/
def Dev.triggered (d : Dev) (t part : Nat) (old new : Memory) (g : Trigger) : Bool :=
  match g with
  | .none => false
  | .inputEdge byte k rising falling =>
    let a := testBit (Memory.read old byte).toNat k
    let b := testBit (Memory.read new byte).toNat k
    (rising && !a && b) || (falling && a && !b)
  | .message p => !(sget (fun _ => {}) (d.tile t).repA.ports p).readable.words.isEmpty
      || !(sget (fun _ => {}) (d.tile t).repB.ports p).readable.words.isEmpty
  | .station n => (d.ring.station n).dropped != (d.tile t).dropped.contains n
  | .role => d.cycle.roleEntered
  | .command => d.cycle.inbox.any (d.delivers part)

/-- WARM_START and COLD_START, when due (R190, R210). -/
def Dev.restartTasks (d : Dev) : List Nat := (if d.cycle.coldDue then [33] else []) ++ (if d.cycle.warmDue then [32] else [])

/-- The triggered event tasks, in ascending number. -/
def Dev.eventTasks (d : Dev) (t : Nat) (p : PartImg) (old new : Memory) : List Nat :=
  ((List.range 62).map (· + 34)).filter (fun k =>
    match p.task k with
    | some x => d.triggered t p.num old new x.trigger
    | none => false)

/-! ### Task instances released (R190, R195, R197) -/

/-- The sequence of a free-running cycle. -/
def Dev.cycleTasks (d : Dev) (p : PartImg) (events : List Nat) : List Nat :=
  let err := if (d.errorsOf p.num).isEmpty then [] else [96]
  (d.restartTasks ++ err ++ events ++ p.order).filter (fun k => (p.task k).isSome)

/-- An instance of a task is released and has not ended. -/
def Tile.unfinished (x : Tile) (task : Nat) : Bool :=
  (match x.current with | some r => r.task = task | none => false)
    || (x.waiting ++ x.preempted).any (fun r => r.task = task)

/-- A skipped release of a periodic task (R197). -/
def Dev.skipTask (d : Dev) (p : PartImg) (k : TaskImg) : Dev :=
  let n := (match d.cycle.skips.find? (fun x => x.1 = p.num && x.2.1 = k.num) with | some x => x.2.2 | none => 0) + 1
  let d := { d with cycle := { d.cycle with
    skips := d.cycle.skips.filter (fun (x : Nat × Nat × Nat) => x.1 ≠ p.num ∨ x.2.1 ≠ k.num) ++ [(p.num, k.num, n)] } }
  let d := d.listNext (some p.num) 3 k.num (d.cycle.num.toNat % 2 ^ 32)
  if k.mustRun && n = 3 then
    ((d.event .taskStarved (source 1 (d.tileOf p.tile)) [w32 (d.tileOf p.tile), w32 k.num]).raise R.CYCLE_STATUS_STARVED).goStopped
  else d

/-- The buffers of a receive port swap (R168). DEDUCED (log 53). -/
def RecvPort.swap (q : RecvPort) : RecvPort :=
  { readable := q.filling, filling := {}, swaps := (q.swaps + 1) % 2 ^ 32 }

/-- The receive ports of a tile that satisfy a condition swap on every replica. -/
def Dev.swapPorts (d : Dev) (t : Nat) (p : PartImg) (which : Nat → Bool) : Dev :=
  let one (x : Replica) : Replica :=
    p.recvs.foldl (fun x r => if which r.1 then
      { x with ports := sput (fun _ => {}) x.ports r.1 (sget (fun _ => {}) x.ports r.1).swap } else x) x
  d.onTile t (fun x => x.eachRep one)

/-- A task instance is released under the fall-back schedule. DEDUCED (log 52). -/
def Dev.releaseTask (d : Dev) (t : Nat) (p : PartImg) (task : Nat) : Dev :=
  let d := d.swapPorts t p (fun q => oget p.recvTasks q = some task)
  let d := { d with cycle := { d.cycle with
    skips := d.cycle.skips.filter (fun (x : Nat × Nat × Nat) => x.1 ≠ p.num ∨ x.2.1 ≠ task) } }
  d.onTile t (fun x => { x with
    waiting := x.waiting ++ [{ task := task, release := d.cycle.num.toNat, input := x.input }] })

/-- The periodic tasks due at this base period. -/
def Dev.periodicDue (d : Dev) (p : PartImg) : List TaskImg :=
  p.tasks.filter (fun k => k.num < 32 && d.cycle.bases % max 1 k.period = 0)

/-- Every release of a base-period boundary on a tile. -/
def Dev.releaseTasks (d : Dev) (t : Nat) (p : PartImg) (events : List Nat) : Dev :=
  let x := d.tile t
  let start := d.restartTasks.filter (fun k => (p.task k).isSome)
  let err := if !(d.errorsOf p.num).isEmpty && (p.task 96).isSome && !x.unfinished 96 then [96] else []
  let d := (start ++ err ++ events.filter (fun k => !x.unfinished k)).foldl (fun d k => d.releaseTask t p k) d
  (d.periodicDue p).foldl (fun d k =>
    if x.unfinished k.num then d.skipTask p k else d.releaseTask t p k.num) d

/-- Under the fall-back schedule, outside a return, instances are released (R195, R198). -/
def Dev.releasing (d : Dev) : Bool := d.on R.CYCLE_STATUS_FALLBACK && !d.on R.CYCLE_STATUS_RETURNING

/-- The command task of a partition is released at this base period, so that commands are delivered. -/
def Dev.commandTaskDue (d : Dev) (t : Nat) (p : PartImg) : Bool :=
  d.releasing && (d.periodicDue p).any (fun k => k.commandTask && !(d.tile t).unfinished k.num)

/-- The commands of a release of the command task are delivered in it, and aborts count from here on (R214, R215). -/
def Dev.deliverRelease (d : Dev) (t : Nat) (p : PartImg) : Dev :=
  if d.commandTaskDue t p then
    (d.when d.role.commanding (fun d => d.deliverCommands p.num)).onTile t (fun x => { x with aborted := false })
  else d

/-- A dropout known when the round completes is listed in the same cycle; while the error task has not ended, it waits for
that task's next run (R203). -/
def Dev.listDropout (d : Dev) (t part n : Nat) : Dev :=
  if (d.tile t).unfinished 96 || d.on R.CYCLE_STATUS_RETURNING then d.listNext (some part) 4 0 n else d.listNow (some part) 4 0 n

/-! ### The round (R132 to R135, R190) -/

/-- A round may be completed on a tile: one is due, and no reintegration is running (R147). In STANDBY the
forwarded record of the cycle is held (R327). -/
def Dev.roundDue (d : Dev) (t : Nat) : Bool :=
  d.tileLive t && d.rd (R.TILE_STATUS_ROLE t) = 1 && (d.tile t).awaitRound
    && (d.tilesIn 1).all (fun u => !d.on (R.TILE_STATUS_REINTEGRATING u))
    && (d.role != .standby || d.twin.record.isSome)

/-- What the ACTIVE forwards after its rounds (R325): the agreed values of its tiles. DEDUCED (log 56). -/
def Dev.forwardRecord (d : Dev) : FwdRecord :=
  let ts := d.tilesIn 1
  let a := match ts.head? with | some t => (d.tile t).agreed | none => {}
  let stations := ts.foldl (fun m t => (d.tile t).agreed.stations.foldl (fun m s => oput m s.1 s.2) m) []
  let blocks := (List.range 16).foldl (fun l n => l ++ (List.range (d.hartDevices n).length).map (fun k => (n * 256 + k, d.hartBlockOf n k))) []
  { cycle := d.cycle.num, tstamp := a.tstamp, stations := stations, local_ := { a with stations := [], can := [] }
    canNum := a.can, hart := blocks
    areas := ts.filterMap (fun t => (d.partOf t).map (fun p =>
      (p.num, Memory.readBytes (d.tile t).input (p.inLen - 1024) 1024))) }

/-- When the last tile's round is complete, the forwarded record leaves. -/
def Dev.sendRecord (d : Dev) : Dev :=
  if d.role = .active && (d.tilesIn 1).all (fun u => !(d.tile u).awaitRound) then
    let r := d.forwardRecord
    (d.when (d.on R.TWIN_STATUS_GIRTH_UP) (fun d => { d with twin := { d.twin with sentRecord := recordBytes false r } })).queueTwin 1 r.cycle
      (recordBytes true r)
  else d

/-- The stations that are dropped out. -/
def Dev.droppedStations (d : Dev) : List Nat :=
  (d.stations.entries.map (·.number)).filter (fun n => (d.ring.station n).dropped)

/-- The first instance of a cycle starts, or instances are released under the fall-back schedule; during a return nothing
is released (R198). -/
def Dev.startTasks (d : Dev) (t : Nat) (p : PartImg) (events : List Nat) : Dev :=
  if d.on R.CYCLE_STATUS_FALLBACK then
    let d := if d.releasing then d.releaseTasks t p events else d
    if (d.tile t).current.isNone then d.startNext t else d
  else
    let d := (d.onTile t (fun x => { x with todo := d.cycleTasks p events })).startNext t
    if (d.tile t).current.isNone then d.deliverCycle t else d

/-- Frames that waited in the I/O die for the end of the rounds enter the frame stores (R130). -/
def Dev.releaseFrames (d : Dev) : Dev :=
  d.stations.entries.foldl (fun d e =>
    if d.roundNames e.number || (d.ring.station e.number).held.isEmpty then d
    else d.onStation e.number StationSt.takeHeld) d

/-- A round's agreed values reach the tile: the input image is written, errors are listed, triggers are evaluated,
and the first instance starts or instances are released. -/
def Dev.completeRound (d : Dev) (t : Nat) (p : PartImg) (a : Contribution) : Dev :=
  let (d, rs) := d.roundStations t a p.stations
  let d := rs.foldl (fun d r => if r.newSubst then d.listDropout t p.num r.num else d) d
  let d := d.deliverRelease t p
  let old := (d.tile t).input
  let m := p.inputs.foldl (fun m i => d.inputRange p a rs m i) old
  let new := Memory.writeBytes m (p.inLen - 1024) (d.moduleArea t p.num)
  let d := d.onTile t (fun x => { x with input := new, agreed := a, awaitRound := false })
  let d := d.canCut a.can
  let events := d.eventTasks t p old new
  let d := d.onTile t (fun x => { x with dropped := d.droppedStations })
  (d.startTasks t p events).releaseFrames.sendRecord

/-- The contributions of the replicas in service, in order. -/
def Dev.contributions (d : Dev) (t : Nat) (a b c : Option Contribution) : List (Fin 3 × Contribution) :=
  (d.serving t).filterMap (fun r =>
    (match r with | 0 => a | 1 => b | 2 => c).map (fun x => (r, x)))

/-- A tile without a partition has no round to run. -/
def Dev.runRound (d : Dev) (t : Nat) (cs : List Contribution) : Dev :=
  match d.partOf t with
  | none => d.onTile t (fun x => { x with awaitRound := false, delivered := true })
  | some p =>
    match d.role, d.twin.record with
    | .standby, some r => d.completeRound t p (recordAgreed r)
    | _, _ => d.completeRound t p (agree p.stations cs)

/-- AGREEMENT_ROUND: every replica in service contributes. -/
def Dev.agreementRound (d : Dev) (t : Nat) (a b c : Option Contribution) : Dev :=
  let cs := d.contributions t a b c
  if d.roundDue t && cs.length = (d.serving t).length then d.runRound t (cs.map (·.2)) else d

/-- ROUND_TIMEOUT: a replica's contribution is missing 5 µs after the first, and the round completes with two. -/
def Dev.roundTimeout (d : Dev) (t : Fin 144) (a b c : Option Contribution) : Dev :=
  let cs := d.contributions t.val a b c
  if d.roundDue t.val && !cs.isEmpty then
    match (d.serving t.val).find? (fun r => !cs.any (fun x => x.1 = r)) with
    | none => d
    | some r =>
      let d := d.odd t.val r ocRoundTimeout
      if d.roundDue t.val && cs.length = (d.serving t.val).length then d.runRound t.val (cs.map (·.2)) else d
  else d

end Sys2Proof.Machine
end

