-- ==== Sys2Proof/Machine/StageOps.lean ====
section
/-! DEFINITION. Harness changes: slots written over the management plane, the section compare and the change class,
staging, the switch, standby-first, and how each of them ends (R96, R101, R104 to R115, R289, R463). -/

namespace Sys2Proof.Machine

/-! ### Slots over the management plane (R100, R101, R453) -/

/-- The bytes of a slot. -/
def slotBytes : Nat := 256 * 2 ^ 20

/-- A slot that R101 protects: running, named by the boot pointer, or staged. -/
def Dev.slotInUse (d : Dev) (k : Nat) : Bool :=
  (d.hrn.image.isSome && d.hrn.slot = k) || d.hrn.bootPtr = k
    || (match d.hrn.staged with | some g => g.slot = k | none => false)

/-- A slot is written from nothing, as a first write finds it, and is in state WRITING. DEDUCED (log 36). -/
def HrnSlot.write (s : HrnSlot) (off : Nat) (data : List Byte) : HrnSlot :=
  let old : Memory := if s.writing then s.bytes else []
  { s with
    bytes := Memory.writeBytes old off data, writing := true, committed := false, erase := false, checked := false
    erased := if s.writing then s.erased else [] }

/-- The 1 MiB blocks of a slot that bytes at an offset lie in. -/
def blocksAt (off len : Nat) : List Nat :=
  if len = 0 then [] else (List.range ((off + len - 1) / 2 ^ 20 - off / 2 ^ 20 + 1)).map (fun i => off / 2 ^ 20 + i)

/-- Bytes are written into a slot; the erase of each block that this writing has not reached yet begins (R476).
DESIGN CHOICE (log 125). -/
def Dev.programSlot (d : Dev) (k off : Nat) (data : List Byte) : Dev :=
  let s := (d.hrnSlot k).write off data
  let fresh := (blocksAt off data.length).filter (fun b => !s.erased.contains b)
  (d.putSlot k { s with erased := s.erased ++ fresh }).openIntents (fresh.map (fun b => 64 + 256 * k + b))

/-- A slot is committed with the next store sequence number, and the checks of R100 run. Its blocks have been erased
by then: their erases are completed. -/
def Dev.commitSlot (d : Dev) (k : Nat) : Dev :=
  let seq := d.hrn.lastSeq + 1
  let d := (d.life.intents.filter (fun b => blockHrn b = some k)).foldl (fun d b => d.closeIntent b) d
  let d := d.putSlot k { d.hrnSlot k with writing := false, committed := true, seq := seq }
  { d with hrn := { d.hrn with lastSeq := seq } }.showSlot k

/-- SLOT_WRITE. -/
def Dev.slotWrite (d : Dev) (k off : Nat) (data : List Byte) : Reply :=
  if slotBytes < off + data.length then d.refuse .badRequest
  else if d.slotInUse k then d.refuse (.hrn 6)
  else if d.poolEmpty then d.wornFlash.refuse (.named "FLASH_WORN")
  else ((d.programSlot k off data).showSlot k).done

/-- SLOT_COMMIT. -/
def Dev.slotCommit (d : Dev) (k : Nat) : Reply :=
  if !(d.hrnSlot k).writing then d.refuse (.named "SLOT_NOT_WRITING")
  else
    let d := d.commitSlot k
    { dev := d, status := if d.slotValid k then .ok else .hrn 7 }

/-- SLOT_READ. -/
def Dev.slotRead (d : Dev) (k off len : Nat) : Reply :=
  if slotBytes < off + len then d.refuse .badRequest
  else d.suspendErase.done (Memory.readBytes (d.hrnSlot k).bytes off len)

/-! ### The section compare (R96, R104) -/

/-- The known sections that differ between two directories, by ID. -/
def changedIds (old new : List DirEntry) : List Nat :=
  let known := (old ++ new).filter (fun e => (sectionClass e.id).isSome)
  ((known.map (·.id)).eraseDups).filter (fun i =>
    match findSection old i, findSection new i with
    | some a, some b => a.digest != b.digest
    | none, none => false
    | _, _ => true)

/-- What PARTITIONS holds of a partition. -/
def PartImg.sameContent (p q : PartImg) : Bool :=
  p.tile = q.tile && p.reserveKib = q.reserveKib && p.code = q.code && p.init = q.init && p.vars = q.vars
    && p.tasks = q.tasks && p.retain = q.retain && p.digest = q.digest

/-- A variable of the new content keeps its name, type and address. DEDUCED (log 48). -/
def keptVars (old new : PartImg) : List VarImg :=
  new.vars.filter (fun v => old.vars.any (fun u => u.name = v.name && u.type = v.type && u.addr = v.addr))

/-- The initial data that differs from the old content's. -/
def changedInit (old new : PartImg) : List (Nat × Byte) := new.init.filter (fun b => !old.init.contains b)

/-- A change of one partition is class 3 (R96); a partition that only one of the images holds comes with a change
of its reserve. -/
def partStructural (old new : PartImg) : Bool :=
  old.tile != new.tile || old.reserveKib != new.reserveKib
    || decide (new.reserveKib * 1024 < 4 * new.code.length + (changedInit old new).length)
    || new.vars.any (fun v => old.vars.any (fun u => u.name = v.name && (u.type != v.type || u.addr != v.addr)))

/-- The partitions that a change of PARTITIONS affects, by number. -/
def changedParts (old new : Image) : List Nat :=
  (new.parts.filter (fun p => !old.parts.any (fun q => q.num = p.num && q.sameContent p))).map (·.num)

/-- The class of a change to PARTITIONS (R96). -/
def partitionsClass (old new : Image) : Nat :=
  let lost := old.parts.any (fun q => !new.parts.any (fun p => p.num = q.num))
  let structural := new.parts.any (fun p =>
    match old.parts.find? (fun q => q.num = p.num) with
    | some q => !q.sameContent p && partStructural q p
    | none => true)
  if lost || structural then 3 else 2

/-- The class of a change by the sections that differ (R104); 0 with none. DEDUCED (log 39). -/
def changeClass (old new : Image) (ids : List Nat) : Nat :=
  ids.foldl (fun c i =>
    max c (if i = idPartitions then partitionsClass old new else (sectionClass i).getD 0)) 0

/-! ### The staging state (R107, R123) -/

/-- Changes the staged change. -/
def Dev.onStaged (d : Dev) (f : Staged → Staged) : Dev :=
  { d with hrn := { d.hrn with staged := d.hrn.staged.map f } }

/-- `MOD.HRN_STAGE.RESULT`. DEDUCED (log 38). DESIGN CHOICE (log 40). -/
def Dev.stageResult (d : Dev) (r : Nat) : Dev := d.wr R.HRN_STAGE_RESULT r

/-- The staged change is dropped: nothing is staged, and RESULT tells how it ended. -/
def Dev.endStage (d : Dev) (r : Nat) : Dev :=
  let d := { d with
    hrn := { d.hrn with staged := none }, tiles := d.tiles.map (fun (p : Nat × Tile) => (p.1, { p.2 with shadow := [], loaded := none })) }
  let d := d.clear [R.HRN_STAGE_STATE, R.HRN_STAGE_CLASS, R.HRN_STAGE_SLOT, R.HRN_STAGE_NOT_READY, R.HRN_STAGE_POSTPONED]
  (d.stageResult r).showMarks

/-- A change is staged. -/
def Dev.beginStage (d : Dev) (g : Staged) (state : Nat) : Dev :=
  let d := { d with hrn := { d.hrn with staged := some g } }
  let d := ((d.wr R.HRN_STAGE_STATE state).wr R.HRN_STAGE_CLASS g.cls).wr R.HRN_STAGE_SLOT g.slot
  ((d.clear [R.HRN_STAGE_NOT_READY, R.HRN_STAGE_POSTPONED]).stageResult 1).showMarks

/-- Partitions whose shadow reserve is not complete. -/
def Staged.missing (g : Staged) : List Nat := g.parts.filter (fun p => !g.ready.contains p)

/-- An image's PROTECT or SAFETY section as the bridle would store it (R289). -/
def Dev.newSection (d : Dev) (k id : Nat) : Option StoredSection :=
  let m := (d.hrnSlot k).bytes
  (findSection (imgDir m) id).map (fun e => { version := e.version, bytes := imgSection m e, crc := crc32 (imgSection m e) })

/-- The bridle starts to write the sections that a change touches. -/
def Dev.beginSafetyWrite (d : Dev) (k : Nat) (ids : List Nat) : Dev :=
  let p : Option StoredSection := if ids.contains idProtect then d.newSection k idProtect else none
  let s : Option StoredSection := if ids.contains idSafety then d.newSection k idSafety else none
  { d with bridle := { d.bridle with writing := some (p, s) } }

/-- The running image, or one without sections. -/
def Dev.image (d : Dev) : Image := d.hrn.image.getD {}

/-- The pages of an image that a logical tile reads: those that its partition names, and the coefficient pages of its loop
slots (R97). -/
def Image.pagesOf (im : Image) (logical : Nat) : List ParamPage :=
  im.params.filter (fun x => im.parts.any (fun p => p.tile = logical && p.pages.contains x.id))
    ++ im.loopPages.filter (fun x => im.slots.any (fun i => i.tile = logical && i.page = x.id))

/-- Changes every tile that reads a page of an image. -/
def Dev.onReaders (d : Dev) (im : Image) (f : Nat → Tile → Tile) : Dev :=
  ((im.parts.map (·.tile) ++ im.slots.map (·.tile)).eraseDups).foldl (fun d t => d.onTile (d.tileOf t) (f t)) d

/-- The live buffers of every tile that reads a page take the image's pages. -/
def Dev.loadPages (d : Dev) : Dev :=
  let im := d.image
  d.onReaders im (fun t x => { x with live := im.pagesOf t, shadow := [] })

/-- The pages of an image that the harness gate writes into shadow buffers: those that differ from the live ones (R108). -/
def Dev.shadowPages (d : Dev) (new : Image) : Dev :=
  d.onReaders new (fun t x => { x with shadow := (new.pagesOf t).filter (fun p => !x.live.contains p) })

/-- A tile's shadow buffers become live: each replaces the live buffer of its page. -/
def Tile.swapPages (x : Tile) : Tile :=
  { x with live := x.live.filter (fun p => !x.shadow.any (fun q => q.id = p.id)) ++ x.shadow, shadow := [] }

/-- The live and the shadow buffer of a page on a tile. DEDUCED (log 47). -/
def Dev.livePage (d : Dev) (t : Nat) (id : BitVec 16) : Option ParamPage := (d.tile t).live.find? (fun p => p.id = id)
def Dev.shadowPage (d : Dev) (t : Nat) (id : BitVec 16) : Option ParamPage := (d.tile t).shadow.find? (fun p => p.id = id)

/-- The sections of a slot that differ from the running image. -/
def Dev.changedBy (d : Dev) (k : Nat) : List Nat := changedIds d.image.dir (imgDir (d.hrnSlot k).bytes)

/-- What is staged of a slot. -/
def Dev.newStaged (d : Dev) (k : Nat) (mode : StageMode) : Staged :=
  let m := (d.hrnSlot k).bytes
  let new := loadImage m
  let ids := d.changedBy k
  let cls := changeClass d.image new ids
  { slot := k, mode := mode, cls := cls, fp := imgFingerprint m
    bridle := ids.contains idProtect || ids.contains idSafety, security := ids.contains idSecurity
    at_ := d.now, timeout := if d.image.header.stageTimeout = 0 then 10 else d.image.header.stageTimeout
    parts := if cls = 2 && ids.contains idPartitions then changedParts d.image new else []
    oldSlot := d.hrn.slot, oldFp := d.image.fp }

/-! ### Staging (R104 to R107, R112, R114) -/

/-- The partner's part in a change staged here: an eligible standby. -/
def Dev.hasStandby (d : Dev) : Bool := d.role = .active && d.on R.TWIN_STATUS_ELIGIBLE

/-- The mode that a change staged now would run in, or the status that refuses it (R106, R112, R114). The table of R106 has
no row for Starting, which is treated as STOPPED. DESIGN CHOICE (log 141). -/
def Dev.stageMode (d : Dev) (cls : Nat) (predecessor : BitVec 128) : Except Nat StageMode :=
  if !d.role.commanding then .ok .load
  else if cls = 3 then
    (if !d.hasStandby then .error 8
     else if predecessor ≠ d.image.fp then .error 9
     else if !d.on R.TWIN_STATUS_GIRTH_UP then .error 11
     else .ok .first)
  else if d.role = .active && d.on R.TWIN_STATUS_PARTNER_SEEN && !d.on R.TWIN_STATUS_GIRTH_UP then .error 11
  else if d.hasStandby then .ok .pair
  else .ok .alone

/-- The protection conditions of R105 at acceptance, in their order: the pending change to consume, none where the
change is not protected. -/
def Dev.stageAllowed (d : Dev) (g : Staged) : Except Status (Option (Nat × Pending)) :=
  if !(g.bridle || g.security) then .ok none
  else match d.approvedFor 1 (imgSubject (d.hrnSlot g.slot).bytes) with
    | .error e => .error e
    | .ok p =>
      if g.bridle && g.mode = .load then
        (if !testBit (d.rd R.KEEPER_SW) 0 then .error (.hrn 13)
         else if d.role ≠ .safetyMaint then .error (.hrn 14)
         else .ok (some p))
      else .ok (some p)

/-- A staging request is refused with a status, which RESULT shows when it is one of R116. -/
def Dev.refuseStage (d : Dev) (s : Status) : Reply :=
  match s with
  | .hrn n => { dev := d.stageResult n, status := s }
  | _ => d.refuse s

/-- An accepted change begins: loaded for the next start, loading beside the running image, or standby-first. -/
def Dev.acceptStage (d : Dev) (g : Staged) : Dev :=
  match g.mode with
  | .first => d.beginStage g 4
  | .load =>
    if g.bridle then (d.beginStage { g with phase := .writing } 1).beginSafetyWrite g.slot (d.changedBy g.slot)
    else d.beginStage g 2
  | _ => (d.beginStage g (if g.parts.isEmpty then 2 else 1)).shadowPages (loadImage (d.hrnSlot g.slot).bytes)

/-- STAGE. -/
def Dev.stage (d : Dev) (k : Nat) : Reply :=
  if d.role = .standby then d.refuseStage (.hrn 10)
  else if d.hrn.staged.isSome then d.refuseStage (.hrn 5)
  else
    let d := d.checkSlot k
    if !d.slotValid k then d.refuseStage (.hrn 7)
    else if (d.changedBy k).isEmpty then d.refuse (.hrn 4)
    else
      let g := d.newStaged k .load
      match d.stageMode g.cls (imgHeader (d.hrnSlot k).bytes).predecessor with
      | .error n => d.refuseStage (.hrn n)
      | .ok mode =>
        let g := { g with mode := mode }
        match d.stageAllowed g with
        | .error e => d.refuseStage e
        | .ok p =>
          let d := match p with
            | some (j, p) => d.pendState j p .consumed
            | none => d
          { dev := d.acceptStage g, status := .hrn 1 }

/-! ### Loading beside the running image (R108 to R111) -/

/-- The content of a slot's PARTITIONS section matches its DIGEST (R109). -/
def Dev.partitionsDigest (d : Dev) (k : Nat) : Bool :=
  let m := (d.hrnSlot k).bytes
  match findSection (imgDir m) idPartitions with
  | some e => e.digest = sha384 (imgSection m e) / 2 ^ 128
  | none => false

/-- A partition's new content is in the shadow reserve of its tile. -/
def Dev.loadReserve (d : Dev) (k part : Nat) : Dev :=
  match (loadImage (d.hrnSlot k).bytes).parts.find? (fun p => p.num = part) with
  | some q => d.onTile (d.tileOf q.tile) (fun x => { x with loaded := some q })
  | none => d

/-- PARTITION_READY: a partition's shadow reserve holds its new content, which passes the digest check. -/
def Dev.partitionReady (d : Dev) (part : Nat) : Dev :=
  match d.hrn.staged with
  | some g =>
    if d.alive && g.missing.contains part && !g.switched && d.partitionsDigest g.slot then
      let g := { g with ready := g.ready ++ [part] }
      let d := (d.onStaged (fun _ => g)).loadReserve g.slot part
      if g.missing.isEmpty && d.rd R.HRN_STAGE_STATE = 1 then d.wr R.HRN_STAGE_STATE 2 else d
    else d
  | none => d

/-- STAGE_TIMEOUT (R111): PARTNER_NOT_READY when only the standby was missing. -/
def Dev.stageTimeout (d : Dev) : Dev :=
  match d.hrn.staged with
  | some g =>
    if d.alive && (g.mode = .alone || g.mode = .pair) && !g.switched && g.timeout * nsPerSecond ≤ d.since g.at_ then
      d.endStage (if g.mode = .pair && g.missing.isEmpty && !g.partnerReady && !d.on R.CYCLE_STATUS_FALLBACK then 10 else 15)
    else d
  | none => d

/-- The conditions of R111 hold, but for the standby's report, which only a pair waits for. DEDUCED (log 42). -/
def Dev.switchReady (d : Dev) (g : Staged) : Bool :=
  g.missing.isEmpty && (g.mode != .pair || g.partnerReady) && !d.on R.CYCLE_STATUS_FALLBACK

/-- A boundary at which the switch is due and its conditions fail (R111). -/
def Dev.postponeSwitch (d : Dev) (g : Staged) : Dev :=
  let d := (d.wr R.HRN_STAGE_STATE 3).incSat R.HRN_STAGE_POSTPONED
  (d.wrSat R.HRN_STAGE_NOT_READY g.missing.length).stageResult 3

/-! ### The switch (R108, R110, R113) -/

/-- An address belongs to one of some variables. -/
def inVars (vs : List VarImg) (a : Nat) : Bool := vs.any (fun v => v.addr ≤ a && a < v.addr + v.len)

/-- The initial data that a switched partition takes: all of a new variable's, and what changed outside the variables that
keep their values. -/
def freshInit (old new : PartImg) : List (Nat × Byte) :=
  let kept := keptVars old new
  let added := new.vars.filter (fun v => !kept.contains v)
  added.flatMap (fun v => (List.range v.len).map (fun k => (v.addr + k, (0 : Byte))))
    ++ new.init.filter (fun b => inVars added b.1 || (!inVars kept b.1 && !old.init.contains b))

/-- The code region of a replica takes a partition's code; the data area stays. -/
def putCode (m : Memory) (code : List Word) : Memory :=
  Memory.writeBytes (m.clear 0 0x20000) 0 (code.flatMap (fun w => leBytes 4 w.toNat))

/-- Every replica of an affected tile copies its shadow reserve into its code and data areas. -/
def Tile.copyReserve (x : Tile) (old : PartImg) : Tile :=
  match x.loaded with
  | some q =>
    { x.eachRep (fun r => { r with
        sram := (freshInit old q).foldl (fun m b => Memory.write m b.1 b.2) (putCode r.sram q.code) }) with loaded := none }
  | none => x
def Dev.copyReserve (d : Dev) (old : Image) (part : Nat) : Dev :=
  match old.parts.find? (fun p => p.num = part) with
  | some p => d.onTile (d.tileOf p.tile) (fun x => x.copyReserve p)
  | none => d

/-- The switch at a boundary: the new content is live, and the switch epoch is one higher. The boot pointer and the
event follow (steps 4 and 5 of R113). A SECURITY change withdraws what has not been consumed (R462). -/
def Dev.switchHarness (d : Dev) (g : Staged) (epoch : Word) : Dev :=
  let old := d.image
  let d := d.runImage g.slot
  let d : Dev := { d with tiles := d.tiles.map (fun (p : Nat × Tile) => (p.1, p.2.swapPages)) }
  let d : Dev := g.parts.foldl (fun (d : Dev) p => d.copyReserve old p) d
  let d := { d with hrn := { d.hrn with epoch := epoch } }
  let d := if g.security then d.withdrawAll else d
  (d.onStaged (fun g => { g with switched := true })).showMarks

/-- HRN_SWITCHED: the epoch and the boot pointer are stored, and the event is recorded. P0 and P1 hold the first 32 bits
of the old and of the new fingerprint. DESIGN CHOICE (log 140). -/
def Dev.storeSwitch (d : Dev) (g : Staged) : Dev :=
  let d := { d with hrn := { d.hrn with bootPtr := g.slot, bootEpoch := d.hrn.epoch } }
  (d.eventM .hrnSwitched [w32 (g.oldFp.toNat / 2 ^ 96), w32 (g.fp.toNat / 2 ^ 96)]).endStage 2
def Dev.hrnSwitched (d : Dev) : Dev :=
  match d.hrn.staged with
  | some g => if d.alive && g.switched then d.storeSwitch g else d
  | none => d

/-- A START takes the image that was loaded in STOPPED or SAFETY_MAINT (R106). -/
def Dev.takeLoaded (d : Dev) : Dev :=
  match d.hrn.staged with
  | some g =>
    if g.mode = .load && g.phase = .idle then
      let d := d.runImage g.slot
      let d := { d with hrn := { d.hrn with epoch := d.hrn.epoch + 1 } }
      (if g.security then d.withdrawAll else d).storeSwitch g
    else d
  | none => d

/-! ### Loading a role (R58, R114) -/

/-- The clusters are loaded from the running image: steps 6 to 8 of R58 are due. -/
def Dev.beginLoading (d : Dev) : Dev :=
  let d := (d.leaveTo .starting).clustersOff
  { d with power := { d.power with start := { d.power.start with
      clusters := 0, selfTest := false, loaded := false, coldWait := false, coldRecorded := false
      heardOwn := false, heardRole := none, heardEpoch := none } } }

/-- The module reloads its clusters from a slot in the course of a standby-first change. -/
def Dev.reload (d : Dev) (slot : Nat) : Dev := (d.runImage slot).beginLoading

/-- The module rejoins as STANDBY on its running image, without a START command (R115, R289); with a condition of R86 it
stays STOPPED. -/
def Dev.rejoin (d : Dev) : Dev :=
  let d := d.leaveTo .stopped
  if testBit d.twin.causes 6 || d.on R.TWIN_STATUS_IDENT_CLASH then d else d.enterStandby

/-! ### Standby-first (R114, R463) -/

/-- The slot of the standby that an image is copied into (step 1 of R114): the lowest EMPTY or INVALID one, else the
oldest VALID one that is neither running nor the boot pointer. -/
def Dev.copySlot (d : Dev) : Option Nat :=
  let free := [0, 1, 2, 3].filter (fun k => d.rd (R.HRN_SLOT_STATE k) = 0 || d.rd (R.HRN_SLOT_STATE k) = 2)
  match free.head? with
  | some k => some k
  | none =>
    ([0, 1, 2, 3].filter (fun k => d.slotValid k && !d.slotInUse k)).foldl (fun b k =>
      match b with
      | none => some k
      | some j => if (d.hrnSlot k).seq.toNat < (d.hrnSlot j).seq.toNat then some k else b) none

/-- The STANDBY's own check of the approvals that came with an image (R463): two distinct approvers of its own, both
signatures over the statement of this image, and receipts within 600 s of each other. -/
def Dev.approvalsHold (d : Dev) (subject : BitVec 384) (as : List SentApproval) : Bool :=
  let owner : BitVec 128 := match d.trust.owner with | some o => o.rootFp | none => 0
  let ok (a : SentApproval) : Bool :=
    let s := a.statement
    match d.approvers[s.keyIndex]? with
    | some k => s.magic = 0x31565041 && s.ownerFp = owner && s.kind = 1 && s.pair = d.pairByte && s.subject = subject
        && ecdsaVerify k (sha384 (statementBytes s.magic s.ownerFp s.kind s.pair s.pendingId s.subject)) s.sig
    | none => false
  match as with
  | [a, b] =>
    ok a && ok b && a.statement.keyIndex ≠ b.statement.keyIndex && a.statement.pendingId = b.statement.pendingId
      && ((b.at_ - a.at_).toNat ≤ 600 * nsPerSecond || (a.at_ - b.at_).toNat ≤ 600 * nsPerSecond)
  | _ => false

/-- The module begins its own part of a standby-first change: it reloads, after the bridle's store has been written
in SAFETY_MAINT where the change touches PROTECT or SAFETY (R10, R114). -/
def Dev.beginOwnPart (d : Dev) (g : Staged) : Dev :=
  if g.bridle then
    let d := (d.onStaged (fun g => { g with phase := .writing })).beginSafetyWrite g.slot (d.changedBy g.slot)
    d.leaveTo .safetyMaint
  else (d.onStaged (fun g => { g with phase := .reloading })).reload g.slot

/-- STANDBY_IMAGE_COPIED: over a girth link that is up, the copy is committed into the standby's slot (R324). A class 3 change is taken up (step 2 of
R114); one of class 1 or 2 is loaded in shadow, and reported ready (R111). -/
def Dev.imageCopied (d : Dev) (image : List (Nat × Byte)) (as : List SentApproval) : Dev :=
  if !(d.alive && d.role = .standby && d.on R.TWIN_STATUS_GIRTH_UP && d.hrn.staged.isNone) then d
  else match d.copySlot with
    | none => d
    | some k =>
      let d := (d.putSlot k ((({} : HrnSlot).write 0 []))).putSlot k
        { bytes := image.foldl (fun m b => Memory.write m b.1 b.2) [], writing := true }
      let d := d.commitSlot k
      if !d.slotValid k || (d.changedBy k).isEmpty then d
      else
        let g := d.newStaged k .shadow
        let approved := !(g.bridle || g.security) || d.approvalsHold (imgSubject (d.hrnSlot k).bytes) as
        if g.cls < 3 then
          (if approved then
            (d.beginStage g (if g.parts.isEmpty then 2 else 1)).shadowPages (loadImage (d.hrnSlot k).bytes)
           else d.stageResult 12)
        else if !approved then d.stageResult 12
        else if g.bridle && !testBit (d.rd R.KEEPER_SW) 0 then d.stageResult 13
        else
          let g := { g with mode := .follow }
          (d.beginStage g 4).beginOwnPart g

/-- STANDBY_READY_REPORT at the ACTIVE: ready for the staged fingerprint, or refused at step 2 of R114. -/
def Dev.standbyReport (d : Dev) (fp : BitVec 128) (r : StandbyReport) : Dev :=
  match d.hrn.staged with
  | some g =>
    if d.alive && d.role = .active && g.fp = fp && (g.mode = .pair || g.mode = .first) && !g.switched && !g.swapped then
      match r with
      | .ready => d.onStaged (fun g => { g with partnerReady := true })
      | .approvalNeeded => d.endStage 12
      | .keeperRequired => d.endStage 13
      | .writeFailed => d.endStage (Status.code (.named "SAFETY_WRITE_FAILED") % 256)
    else d
  | none => d

/-! ### The mixed state (R338) -/

/-- The mixed state begins: SUCCESSOR_WINDOW minutes are left. -/
def Dev.beginMixed (d : Dev) (older : Bool) (window : Nat) : Dev :=
  let d := ((d.raise R.TWIN_STATUS_MIXED).wr R.TWIN_MIXED_REMAIN_MIN window).flag R.TWIN_MIXED_OLDER older
  let d := d.stageResult 19
  let d := d.wr R.HRN_STAGE_STATE 5
  let d := { d with twin := { d.twin with mixedAt := d.now } }
  if older && window = 0 then (d.raise R.TWIN_MIXED_EXPIRED).eventM .successorExpired else d

/-- The mixed state ends. -/
def Dev.endMixed (d : Dev) : Dev :=
  d.clear [R.TWIN_STATUS_MIXED, R.TWIN_MIXED_REMAIN_MIN, R.TWIN_MIXED_OLDER]

/-- A module that has completed its part of a standby-first change stores its boot pointer and switch epoch.
DEDUCED (log 43). -/
def Dev.storeSuccessor (d : Dev) : Dev :=
  let d := { d with hrn := { d.hrn with bootPtr := d.hrn.slot, epoch := d.hrn.epoch + 1, bootEpoch := d.hrn.epoch + 1 } }
  d.showMarks

/-- The image's SUCCESSOR_WINDOW of a slot. -/
def Dev.windowOf (d : Dev) (k : Nat) : Nat := (imgHeader (d.hrnSlot k).bytes).successorWindow

/-- The reload has ended and the module is STANDBY again (steps 3 and 5 of R114, R115). -/
def Dev.successorDone (d : Dev) (g : Staged) : Dev :=
  match g.phase, g.mode with
  | .back r, _ => d.endMixed.endStage r
  | .reloading, .follow => (d.onStaged (fun g => { g with phase := .successor })).beginMixed false (d.windowOf g.slot)
  | .reloading, _ => d.storeSuccessor.endMixed.endStage 2
  | _, _ => d

/-- Step 5 of R114 on the former ACTIVE, now STANDBY: with K1.1 off it waits. -/
def Dev.formerActive (d : Dev) (g : Staged) (hold : Bool) : Dev :=
  let d := d.onStaged (fun g => { g with swapped := true })
  if hold then d.onStaged (fun g => { g with phase := .hold })
  else if g.bridle && !testBit (d.rd R.KEEPER_SW) 0 then
    (((d.onStaged (fun g => { g with phase := .waitKeeper })).stageResult 13).eventM .keeperRequired)
  else d.beginOwnPart g

/-! ### Ends (R107, R115, R212, R289) -/

/-- The change is aborted on this module. A standby that has begun its part reloads its old image, or leaves
SAFETY_MAINT and rejoins. -/
def Dev.abortStage (d : Dev) (r : Nat) : Dev :=
  match d.hrn.staged with
  | none => d
  | some g =>
    if g.switched then d
    else match g.mode, g.phase with
      | .follow, .writing =>
        ({ d with bridle := { d.bridle with writing := none } }.endStage r).rejoin
      | .follow, .reloading | .follow, .successor =>
        ((d.onStaged (fun g => { g with phase := .back r })).endMixed.stageResult r).reload g.oldSlot
      | .follow, .back _ => d
      | .load, .writing => { d with bridle := { d.bridle with writing := none } }.endStage r
      | .first, _ => if g.swapped then d.endStage r else d.endMixed.endStage r
      | _, _ => d.endStage r

/-- ABORT_STAGE. DEDUCED (log 41). -/
def Dev.abortRequest (d : Dev) : Reply :=
  match d.hrn.staged with
  | none => d.done
  | some g => if g.switched then d.refuse (.hrn 5) else { dev := d.abortStage 18, status := .hrn 18 }

/-- A takeover by this STANDBY (R115): a change that it has not switched in shadow is aborted; a successor carries on
with its new image. -/
def Dev.takeoverStage (d : Dev) : Dev :=
  match d.hrn.staged with
  | none => d
  | some g =>
    match g.mode, g.phase with
    | .shadow, _ => if g.switched then d else d.endStage 16
    | .follow, .successor => d.storeSuccessor.endMixed.endStage 2
    | .first, .waitKeeper | .first, .hold => d.endMixed.endStage 16
    | _, _ => d

/-- K1.1 is cleared while the module is in SAFETY_MAINT (R10, R115): the bridle keeps its old copies. A step of a
standby-first change is refused, and the module rejoins. -/
def Dev.maintKeeperOff (d : Dev) : Dev :=
  if d.role ≠ .safetyMaint then d
  else
    let d := { d with bridle := { d.bridle with writing := none } }
    match d.hrn.staged with
    | some g =>
      (match g.mode, g.phase with
       | .follow, .writing => (d.endStage 13).rejoin
       | .first, .writing => ((d.onStaged (fun g => { g with phase := .waitKeeper })).stageResult 13).rejoin
       | .load, .writing => (d.endStage 13).leaveTo .stopped
       | _, _ => d.leaveTo .stopped)
    | none => d.leaveTo .stopped

/-- The CRC of set n of a SAFETY section (R285). -/
def safetySetCrc (bs : List Byte) (n : Nat) : Word := w32 (crc32 ((bs.drop (n * 0x400)).take 0x3FC))

/-- The CRCs that the bridle's write of R289 is to return: that of the PROTECT copy, then those of the SAFETY sets. -/
def writeCrcs (p s : Option StoredSection) : List Word :=
  p.toList.map (fun x => w32 (crc32 x.bytes)) ++ s.toList.flatMap (fun x => (List.range 8).map (safetySetCrc x.bytes))

/-- The CRC of a stored copy, or a free value where there is no copy. -/
def Dev.oldCrc (d : Dev) (crc : StoredSection → Word) (x : Option StoredSection) : Word :=
  match x with
  | some y => crc y
  | none => Config.eventParam .safetyWritten 0 d.free

/-- SAFETY_WRITTEN with the old and the new CRC of a copy, where they differ. -/
def Dev.noteWritten (d : Dev) (crc : StoredSection → Word) (old new : Option StoredSection) : Dev :=
  match new with
  | none => d
  | some y => if old.map crc = some (crc y) then d else d.eventM .safetyWritten [d.oldCrc crc old, crc y]

/-- The bridle's new copies replace the old ones together, and one event for each copy and set that differs tells of it:
the old CRC, then the new one. DESIGN CHOICE (log 155). -/
def Dev.storeSections (d : Dev) (p s : Option StoredSection) : Dev :=
  let b := d.bridle
  let d := d.noteWritten (fun x => w32 (crc32 x.bytes)) b.protect p
  let d := (List.range 8).foldl (fun d n => d.noteWritten (fun x => safetySetCrc x.bytes n) b.safety s) d
  { d with bridle := { d.bridle with protect := p.or d.bridle.protect, safety := s.or d.bridle.safety, writing := none } }

/-- SAFETY_WRITTEN (R289): with every CRC right the new copies are stored, and a standby-first change goes on; else
the bridle keeps its old copies and the change is refused. -/
def Dev.safetyWritten (d : Dev) (crcs : List Word) : Dev :=
  match if d.alive && d.role = .safetyMaint then d.bridle.writing else none with
  | none => d
  | some (p, s) =>
    let failed := Status.code (.named "SAFETY_WRITE_FAILED") % 256
    let crcOk := crcs = writeCrcs p s
    let d := if crcOk then d.storeSections p s else { d with bridle := { d.bridle with writing := none } }
    match d.hrn.staged with
    | some g =>
      (match g.mode with
       | .load =>
         if crcOk then (d.onStaged (fun g => { g with phase := .idle })).wr R.HRN_STAGE_STATE 2 else d.endStage failed
       | _ =>
         if crcOk then
           ((d.onStaged (fun g => { g with phase := .reloading })).leaveTo .stopped).reload g.slot
         else (d.endStage failed).rejoin)
    | none => d

/-- A staged change ends with the command that restarts the module (R212), or with a power failure after commit
(R115): ABORTED_POWER then shows at the next start. -/
def Dev.dropStage (d : Dev) : Dev :=
  match d.hrn.staged with
  | some g => if g.switched then d else d.endStage 18
  | none => d

end Sys2Proof.Machine
end

