-- ==== Sys2Proof/Machine/TwinOps.lean ====
section
/-! DEFINITION. Twin operation: heartbeats, silence, takeover and yield, divergence, state copies and the mixed
state, as operations on the module (R317 to R341). -/

namespace Sys2Proof.Machine

/-- Changes the twin logic. -/
def Dev.onTwin (d : Dev) (f : TwinSt → TwinSt) : Dev := { d with twin := f d.twin }

/-! ### Epoch and rank (R317, R318) -/

/-- The higher of two epochs. -/
def maxEpoch (a b : Word) : Word := if later b a then b else a

/-- The partner's rank is higher than the own one: its epoch, or with equal epochs identity A. -/
def Dev.outranked (d : Dev) (epoch : Word) (sideB : Bool) : Bool :=
  later epoch d.twin.epoch || (epoch = d.twin.epoch && !sideB && d.on R.SADDLE_SIDE)

/-- The higher of the own epoch and the last one received from the partner, if any. DEDUCED (log 88). -/
def Dev.pairEpoch (d : Dev) : Word :=
  if d.on R.TWIN_IDENT_PARTNER_KNOWN then maxEpoch d.twin.epoch (w32 (d.rd R.TWIN_PARTNER_EPOCH)) else d.twin.epoch

/-- The epoch of a takeover or a planned swap: E + 1. -/
def Dev.nextEpoch (d : Dev) : Word := d.pairEpoch + 1

/-- An epoch that has been heard counts beside another. -/
def withHeard (e : Word) (h : Option Word) : Word := match h with | some x => maxEpoch e x | none => e

/-- The epoch of an entry into a commanding role at start: M + 1, with M the highest of the journalled epoch, of any received
from the partner and of any obeyed epoch heard in the listen window. -/
def Dev.startEpoch (d : Dev) : Word := withHeard (withHeard d.twin.epoch d.twin.heardMax) d.power.start.heardEpoch + 1

/-! ### Yield (R333) -/

/-- The change that is staged with the partner ends with the loss of command (R115). -/
def Dev.yieldStage (d : Dev) : Dev :=
  match d.hrn.staged with
  | some g => if (g.mode = .pair || (g.mode = .first && !g.swapped)) && !g.switched then d.abortStage 16 else d
  | none => d

/-- A module in a commanding role stops sending at once and goes to STOPPED until a START command. From the commit of a
power failure on it sends nothing any more, and its local outputs hold until reset (R54, R56). -/
def Dev.yield (d : Dev) : Dev :=
  if !d.role.commanding || d.committed then d
  else
    let d := (d.goStopped.raise R.TWIN_STATUS_YIELDED).incSat R.TWIN_DUAL_CMD_YIELDS
    let d := (d.wr R.TWIN_LAST_TAKEOVER_CAUSE 3).event .dualActiveYield (source 13 0)
    (d.onTwin (fun t => { t with yielded := true, swap := none })).yieldStage

/-- RING_RX_SILENT: in a twin pair, no valid frame on either ring port for 100 µs. -/
def Dev.ringRxSilent (d : Dev) : Dev :=
  let quiet (c : DWord) : Bool := 100000 ≤ d.since c
  if d.alive && d.role.commanding && d.image.header.pairMode = 1 && quiet d.twin.commandSince
      && (match d.ring.validAt with | some c => quiet c | none => true) then
    d.yield
  else d

/-! ### Takeover (R332) -/

/-- The later of two counter values that may be absent. -/
def laterOf (a b : Option DWord) : Option DWord :=
  match a, b with
  | some x, some y => some (if x.toNat < y.toNat then y else x)
  | some x, none => some x
  | none, y => y

/-- The STANDBY enters ACTIVE with the next epoch and its shadow output image; its own rounds follow from the next
cycle on. A comparison that is pending is dropped (R340). -/
def Dev.becomeActive (d : Dev) (cause : Nat) : Dev :=
  let gap := laterOf d.twin.girthAt d.twin.ringAt
  let d := d.onTwin (fun t => { t with
    epoch := d.nextEpoch, held := [], record := none, divergeDue := none, gapFrom := gap, summaries := [], ownSummaries := []
    loopStitches := [], slotWait := [], switchAt := none })
  let d := (d.drop R.TWIN_SHADOW_LAG).wr R.TWIN_LAST_TAKEOVER_CAUSE cause
  d.enterCommand .active

/-- A takeover: an announced swap reads REFUSED (R340), and a staged change ends as R115 gives.
DEDUCED (log 57). -/
def Dev.takeover (d : Dev) : Dev :=
  let d := if d.twin.swap.isSome then (d.wr R.TWIN_SWAP_STATE 3).onTwin (fun t => { t with swap := none }) else d
  let d := (d.becomeActive 1).incSat R.TWIN_TAKEOVERS_FAILOVERS
  { d.takeoverStage with cycle := { d.takeoverStage.cycle with announced := none } }

/-! ### Silence (R323) -/

/-- The partner is lost. -/
def Dev.losePartner (d : Dev) : Dev :=
  let eligible : Bool := d.twin.causes = 0
  let d := (d.drop R.TWIN_STATUS_PARTNER_SEEN).raise R.TWIN_STATUS_PARTNER_LOST
  let d := (d.onTwin (fun t => { t with partnerLost := true })).setCause 8 true
  if d.role.commanding then d.event .partnerLost (source 13 0)
  else if d.role = .standby then
    (if eligible then d.takeover else (d.event .partnerLostIneligible (source 13 0)).goStopped)
  else d

/-- A path is still live: its last valid heartbeat from a partner that runs is less than 100 µs old. -/
def Dev.pathLive (d : Dev) (girth : Bool) : Bool :=
  match if girth then d.twin.girthAt else d.twin.ringAt with
  | some c => d.on (if girth then R.TWIN_STATUS_GIRTH_UP else R.TWIN_STATUS_RING_HB) && d.since c < 100000
  | none => false

/-- A path that was live is shown silent; a STANDBY freezes its rate with the girth path (R375). -/
def Dev.dropPath (d : Dev) (girth : Bool) : Dev :=
  if girth then
    if d.on R.TWIN_STATUS_GIRTH_UP then
      let d := (d.clear [R.TWIN_STATUS_GIRTH_UP, R.TWIN_GIRTH_LINK_UP]).incSat R.TWIN_HB_MISS_GIRTH_SILENT
      d.when (d.role = .standby) (fun d => d.onTime (fun t => { t with followSum := 0, followN := 0, rebase := none }))
    else d
  else if d.on R.TWIN_STATUS_RING_HB then (d.drop R.TWIN_STATUS_RING_HB).incSat R.TWIN_HB_MISS_RING_SILENT
  else d

/-- PATH_SILENT: a path without a valid heartbeat for 100 µs. DEDUCED (log 87). -/
def Dev.pathSilent (d : Dev) (girth : Bool) : Dev :=
  let was := d.on (if girth then R.TWIN_STATUS_GIRTH_UP else R.TWIN_STATUS_RING_HB)
  if !(d.alive && was && !d.pathLive girth) then d
  else
    let d := d.dropPath girth
    if d.pathLive (!girth) then
      (if d.role.runs then
        (if girth then (d.raise R.TWIN_GIRTH_ON_RING).event .girthDown (source 13 0)
         else d.event .ringHbLost (source 13 0))
      else d)
    else (d.dropPath (!girth)).losePartner

/-! ### Heartbeats (R320 to R322) -/

/-- The FLAGS of a heartbeat. -/
def Dev.beatFlags (d : Dev) : Nat :=
  bit (d.on R.TWIN_STATUS_GIRTH_UP) + 2 * bit d.safety.degraded + 4 * bit (d.on R.TWIN_STATUS_MIXED)
    + 8 * bit (d.on R.TWIN_STATUS_COPYING)

/-- The heartbeat that leaves now with a sequence number of its path. -/
def Dev.beat (d : Dev) (seq : Nat) : Beat :=
  { role := d.role.code, side := bit (d.on R.SADDLE_SIDE), pair := d.rd R.SADDLE_PAIR, flags := d.beatFlags
    epoch := d.twin.epoch, fwMajor := d.rd R.FW_VERSION_MAJOR, fwMinor := d.rd R.FW_VERSION_MINOR
    safeSet := d.safety.set, elig := d.twin.causes, seq := seq, fp := d.image.fp
    cycle := if d.role = .standby then d.twin.shadow.getD 0 else d.cycle.num, time := d.timeT }

/-- The 48 bytes of a heartbeat (R321). -/
def beatBytes (b : Beat) : List Byte :=
  [0x48, BitVec.ofNat 8 b.role, BitVec.ofNat 8 (b.side % 2 + 2 * (b.pair % 8)), BitVec.ofNat 8 b.flags] ++ leBytes 4 b.epoch.toNat
    ++ [BitVec.ofNat 8 b.fwMajor, BitVec.ofNat 8 b.fwMinor, BitVec.ofNat 8 b.safeSet, 0] ++ leBytes 2 b.elig ++ leBytes 2 b.seq
    ++ beBytes 16 b.fp.toNat ++ leBytes 8 b.cycle.toNat ++ leBytes 8 b.time.toNat

/-- The heartbeat that 48 bytes spell; `checkOk` is the frame check of its path. A frame of another length or TYPE is none. -/
def readBeat (bs : List Byte) (checkOk : Bool) : Beat :=
  let f (off n : Nat) : Nat := leNat ((bs.drop off).take n)
  { role := f 1 1, side := f 2 1 % 2, pair := f 2 1 / 2 % 8, flags := f 3 1, epoch := w32 (f 4 4), fwMajor := f 8 1, fwMinor := f 9 1
    safeSet := f 10 1, elig := f 12 2, seq := f 14 2, fp := BitVec.ofNat 128 (beNat ((bs.drop 16).take 16))
    cycle := BitVec.ofNat 64 (f 32 8), time := BitVec.ofNat 64 (f 40 8), checkOk := checkOk && bs.length = 48 && f 0 1 = 0x48 }

/-- HEARTBEAT_SEND: on the girth link, and in a role that runs on both rings. -/
def Dev.sendBeat (d : Dev) : Dev :=
  if !d.alive || d.committed || !d.conn.identified then d
  else
    let g := d.twin.sendSeqGirth
    let d := d.onTwin (fun t => { t with sentGirth := beatBytes (d.beat g), sendSeqGirth := (g + 1) % 65536 })
    if d.role.runs then
      let r := d.twin.sendSeqRing
      let d := d.onTwin (fun t => { t with sentRing := beatBytes (d.beat r), sendSeqRing := (r + 1) % 65536 })
      d.each 2 (fun k d => (((d.incWrap (R.RING_HB_TX k)).incWrap (R.RING_TX_FRAMES k)).noteSent k 0x48 r).onRingPort k
        (fun p => { p with bytes := p.bytes + 138 }))
    else d

/-- A heartbeat with the module's own pair number and side (R320). -/
def Dev.identClash (d : Dev) : Dev :=
  let d := if d.on R.TWIN_STATUS_IDENT_CLASH then d
    else ((d.raise R.TWIN_STATUS_IDENT_CLASH).event .identClash (source 13 0)).setCause 7 true
  let d := if d.power.start.listening then
      { d with power := { d.power with start := { d.power.start with heardOwn := true } } }
    else d
  if d.role = .standby then d.goStopped else d

/-- The successor relation of two images (R331, R338): one of them names the other in PREDECESSOR. The partner's
header is known where a slot of this module holds its image. -/
def Dev.relates (d : Dev) (fp : BitVec 128) : Bool :=
  d.image.header.predecessor = fp
    || d.hrn.slots.any (fun s => s.2.committed && imgFingerprint s.2.bytes = fp && (imgHeader s.2.bytes).predecessor = d.image.fp)

/-- The partner's registers (R341). -/
def Dev.showPartner (d : Dev) (b : Beat) : Dev :=
  let d := ((d.wr R.TWIN_IDENT_PARTNER_SIDE b.side).wr R.TWIN_IDENT_PARTNER_PAIR b.pair).raise R.TWIN_IDENT_PARTNER_KNOWN
  let d := (d.wr R.TWIN_PARTNER_EPOCH b.epoch.toNat).onTwin (fun t => { t with heardMax := some (withHeard b.epoch t.heardMax) })
  let d := d.each 4 (fun k d => d.wr (R.TWIN_PARTNER_FP k) (b.fp.toNat / 2 ^ (96 - 32 * k) % 2 ^ 32))
  let d := ((d.wr R.TWIN_PARTNER_FW_MINOR b.fwMinor).wr R.TWIN_PARTNER_FW_MAJOR b.fwMajor).wr R.TWIN_PARTNER_FW_SAFE_SET b.safeSet
  let d := (d.wr R.TWIN_PARTNER_STATE_ROLE b.role).flag R.TWIN_PARTNER_STATE_GIRTH_UP (testBit b.flags 0)
  let d := (d.flag R.TWIN_PARTNER_STATE_DEGRADED (testBit b.flags 1)).flag R.TWIN_PARTNER_STATE_COPYING (testBit b.flags 3)
  d.wr R.TWIN_PARTNER_STATE_ELIG b.elig

/-- The causes that a heartbeat decides (R331). -/
def Dev.beatCauses (d : Dev) (b : Beat) : Dev :=
  let d := d.setCause 0 (b.fp != d.image.fp && !d.relates b.fp)
  let d := d.setCause 1 (b.fwMajor != d.rd R.FW_VERSION_MAJOR)
  d.setCause 2 (b.safeSet != d.safety.set)

/-- What the listen window hears (R339). -/
def Dev.hear (d : Dev) (b : Beat) : Dev :=
  let s := d.power.start
  if s.listening || s.waitingA then
    let e := match s.heardEpoch with | some h => maxEpoch h b.epoch | none => b.epoch
    { d with power := { d.power with start := { s with heardRole := Role.ofCode b.role, heardEpoch := some e } } }
  else d

/-- A heartbeat of a partner that runs keeps its path live; a state copy that waits for the girth link starts (R324). -/
def Dev.livePath (d : Dev) (path : Nat) : Dev :=
  let d := (d.raise R.TWIN_STATUS_PARTNER_SEEN).onTwin (fun t => { t with partnerLost := false })
  let d := d.setCause 8 false
  if path = 0 then
    let d := (((d.raise R.TWIN_STATUS_GIRTH_UP).raise R.TWIN_GIRTH_LINK_UP).drop R.TWIN_GIRTH_ON_RING).onTwin (fun t =>
      { t with girthAt := some d.now })
    if d.role = .standby && d.copyDue && !d.on R.TWIN_STATUS_COPYING then d.startCopy else d
  else (d.raise R.TWIN_STATUS_RING_HB).onTwin (fun t => { t with ringAt := some d.now })

/-- The difference of the corrected times, after the girth delay (R331), and on a STANDBY the following sample
(R375). -/
def Dev.girthTime (d : Dev) (b : Beat) : Dev :=
  let e := signed64 (d.timeT - (b.time + BitVec.ofNat 64 (10 * d.rd R.TWIN_GIRTH_DELAY)))
  let lim : Int := 2 ^ 31 - 1
  let d := d.wrInt R.TWIN_TIME_SKEW (max (-lim) (min lim e))
  let skew := 10000 < e.natAbs
  let d := if skew && !d.on R.TWIN_STATUS_TIME_SKEW then d.event .timeSkew (source 13 0) else d
  (d.flag R.TWIN_STATUS_TIME_SKEW skew).onTime (fun t => { t with followSum := t.followSum + e, followN := t.followN + 1 })

/-- The mixed state as heartbeats show it (R114, R338): it begins on the ACTIVE when the standby runs the staged
image as successor, and ends when both run one fingerprint. -/
def Dev.mixedBeat (d : Dev) (b : Beat) : Dev :=
  if d.on R.TWIN_STATUS_MIXED then
    if b.fp = d.image.fp && (b.role = 1 || b.role = 2) then
      let d := d.endMixed
      match d.hrn.staged with
      | some g =>
        if g.fp = d.image.fp then (if g.phase = .successor then d.endStage 2 else d)
        else if g.mode = .first then d.endStage 10 else d
      | none => d
    else d
  else match d.hrn.staged with
    | some g =>
      if g.mode = .first && !g.swapped && b.role = 2 && testBit b.flags 2 && b.fp = g.fp then
        d.beginMixed true (d.windowOf g.slot)
      else d
    | none => d

/-- The module joins as STANDBY; with its identity in clash it stays out (R211, R320). -/
def Dev.joinChecked (d : Dev) : Dev :=
  if d.on R.TWIN_STATUS_IDENT_CLASH then d.goStopped else d.enterStandby.wr R.CYCLE_STATUS_RESTART_KIND 3

/-- A valid heartbeat of a partner that runs (R318, R322, R333, R339). -/
def Dev.runningBeat (d : Dev) (path : Nat) (b : Beat) : Dev :=
  let commands : Bool := b.role = 1 || b.role = 3
  let d := d.livePath path
  let d := if d.role = .standby && commands then d.onTwin (fun t => { t with epoch := b.epoch }) else d
  let d := if path = 0 && d.role = .standby && commands then d.girthTime b else d
  let d := d.mixedBeat b
  if d.role.commanding && commands && d.outranked b.epoch (b.side = 1) then d.yield
  else if d.power.start.waitingA && commands && d.on R.POWER_HOLDUP_READY then
    let d := { d with power := { d.power with start := { d.power.start with waitingA := false } } }
    d.joinChecked
  else d

/-- A valid heartbeat of the partner. -/
def Dev.validBeat (d : Dev) (path : Nat) (b : Beat) : Dev :=
  let was := d.rd R.TWIN_PARTNER_STATE_ROLE
  let d := ((d.showPartner b).beatCauses b).hear b
  let d := if d.role = .active && was = 2 && (b.role = 0 || b.role = 4) then d.event .partnerStopped (source 13 0) else d
  let d := if b.role = 1 || b.role = 2 || b.role = 3 then d.runningBeat path b else d
  d.showElig

/-- HEARTBEAT: on the girth link (path 0) or a ring (1: A, 2: B), where no frame is valid without a key (R356).
DEDUCED (log 80). -/
def Dev.heartbeat (d : Dev) (path : Nat) (b : Beat) : Dev :=
  if !d.alive then d
  else if !b.checkOk then
    (if path = 0 then (d.incSat R.TWIN_GIRTH_FRAME_ERR).onTwin (fun t => { t with girthErrAt := some d.now })
     else d.ringError (path - 1) (R.RING_ERRORS_FCS_ERR (path - 1)))
  else if path ≠ 0 && !d.on (R.RING_STATUS_SECURED (path - 1)) then
    d.onRingPort (path - 1) (fun p => { p with received := true, bytes := p.bytes + 138 })
  else
    let d := if path = 0 then d
      else ((d.incWrap (R.RING_RX_FRAMES (path - 1))).onRing (fun r => { r with validAt := some d.now })).onRingPort (path - 1)
        (fun p => { p with received := true, bytes := p.bytes + 138 })
    if !d.conn.identified || b.pair ≠ d.rd R.SADDLE_PAIR then d
    else if b.side = bit (d.on R.SADDLE_SIDE) then d.identClash
    else ((if path = 0 then d else d.incWrap (R.RING_HB_RX (path - 1))).validBeat path b)

/-! ### Divergence and state copies (R328 to R330) -/

/-- A divergence: its cause, and the tiles and slots that differ (R329, R341). DEDUCED (log 82). -/
def Dev.diverge (d : Dev) (cause : Nat) (tiles slots : List Nat) : Dev :=
  let least (ns : List Nat) : Nat := ns.foldl min 255
  let unit := if tiles.isEmpty then (if slots.isEmpty then 0xFF else 0x90 + least slots) else least tiles
  let d := (d.incSat R.TWIN_DIVERGE_COUNT).wr R.TWIN_DIVERGE_LAST_UNIT unit
  let d := d.wr R.TWIN_DIVERGE_LAST_CAUSE cause
  let map (ns : List Nat) (k : Nat) : Nat := ns.foldl (fun a n => if n / 32 = k then putBit a (n % 32) true else a) 0
  let d := d.each 5 (fun k d => d.wr (R.TWIN_DIV_TILES k) (map tiles k))
  let d := (d.wr R.TWIN_DIV_SLOTS_LO (map slots 0)).wr R.TWIN_DIV_SLOTS_HI_SLOTS (map slots 1)
  let d := d.onTwin (fun t => { t with lastRecordAt := none })
  (d.event .twinDiverged (source 13 0) [w32 unit, w32 cause]).startCopy

/-- The other image of the mixed state, where a slot holds it. DEDUCED (log 44). -/
def Dev.otherImage (d : Dev) : Option Image :=
  match d.hrn.staged with
  | some g => some (loadImage (d.hrnSlot (if d.hrn.slot = g.slot then g.oldSlot else g.slot)).bytes)
  | none => none

/-- The comparison of a tile (by the tile whose role it carries) or a slot is not suspended (R338). -/
def Dev.tileCompared (d : Dev) (t : Nat) : Bool :=
  !d.on R.TWIN_STATUS_MIXED || (match d.otherImage, d.partOf (d.tileOf t) with
    | some o, some p => o.parts.any (fun q => q.num = p.num && q.sameContent p)
    | _, _ => false)
def Dev.slotCompared (d : Dev) (k : Nat) : Bool :=
  !d.on R.TWIN_STATUS_MIXED || (match d.otherImage with
    | some o =>
      let own := d.image.slots.find? (fun s => s.num = k)
      let page (im : Image) : Option ParamPage := own.bind (fun s => im.loopPages.find? (fun p => p.id = s.page))
      (o.slots.find? (fun s => s.num = k)) = own && (page o).map (·.bytes) = (page d.image).map (·.bytes)
    | none => false)

/-- Where a comparison is suspended, the module with the successor image takes at a cycle boundary what the other module has
sent of its variables and loop nodes. DEDUCED (log 159). -/
def Dev.mixedLoad (d : Dev) : Dev :=
  match d.twin.mixedState with
  | some m =>
    if d.on R.TWIN_STATUS_MIXED && !d.on R.TWIN_MIXED_OLDER then
      let d := (m.tiles.filter (fun x => !d.tileCompared (d.tileOf x.1.val))).foldl (fun d x =>
        d.onTile (d.tileOf x.1.val) (fun t => t.eachRep (fun r => { r with
          sram := (x.2.filter (fun b => 0x20000 ≤ b.1 && b.1 < 0xC0000)).foldl (fun m b => Memory.write m b.1 b.2) r.sram }))) d
      let rep (ns : List (Nat × Word)) (x : LoopRep) : LoopRep := { x with
        nodes := (ns.filter (fun n => 32 ≤ n.1 && n.1 < 256)).foldl (fun m n => sput (fun _ => (0 : Word)) m n.1 n.2) x.nodes }
      let d := (m.slots.filter (fun x => !d.slotCompared x.1.val)).foldl (fun d x => d.onSlot x.1.val (fun s => { s with
        repA := rep x.2 s.repA, repB := rep x.2 s.repB, repC := rep x.2 s.repC, shadowBad := false })) d
      d.onTwin (fun t => { t with mixedState := none })
    else d.onTwin (fun t => { t with mixedState := none })
  | none => d

/-- SHADOW_VALID of a slot whose comparison is suspended waits for the first load of the mixed state. -/
def Dev.mixedHold (d : Dev) : Dev :=
  let suspended := (List.range 48).filter (fun k => !d.slotCompared k)
  suspended.foldl (fun d k => d.onSlot k (fun s => { s with shadowBad := true })) d

/-- The tiles whose cycle stitches differ. -/
def tilesDiffering (a b : Summary) : List Nat :=
  ((a.tiles ++ b.tiles).map (·.1)).eraseDups.filter (fun t => oget a.tiles t ≠ oget b.tiles t)

/-- A sample that a list holds a stitch of. -/
def sameSample (a b : Nat × Nat × DWord) : Bool := a.1 = b.1 && a.2.1 = b.2.1

/-- A cycle's summaries of both modules are compared. Sample stitches are compared as soon as both have them. -/
def Dev.compareSummaries (d : Dev) (own their : Summary) : Dev :=
  let mine := d.twin.loopStitches
  let theirs := d.twin.slotWait ++ their.slots
  let slots := ((theirs.filter (fun x => mine.any (fun y => sameSample x y && x.2.2 ≠ y.2.2))).map (·.1)).eraseDups
  let slots := slots.filter d.slotCompared
  let tiles := (tilesDiffering own their).filter d.tileCompared
  let d := d.onTwin (fun t => { t with
    loopStitches := mine.filter (fun y => !theirs.any (sameSample y)), slotWait := theirs.filter (fun x => !mine.any (sameSample x))
    ownSummaries := t.ownSummaries.filter (fun s => s.cycle ≠ own.cycle), summaries := t.summaries.filter (fun s => s.cycle ≠ own.cycle) })
  if tiles.isEmpty && slots.isEmpty then d else d.diverge (if tiles.isEmpty then 2 else 1) tiles slots

/-- STITCH_SUMMARY: compared with the own summary of the cycle, or kept until it is there. -/
def Dev.stitchSummary (d : Dev) (s : Summary) : Dev :=
  if !(d.alive && d.role = .standby) || d.copyDue then d
  else match d.twin.ownSummaries.find? (fun x => x.cycle = s.cycle) with
    | some own => d.compareSummaries own s
    | none => d.onTwin (fun t => { t with summaries := t.summaries ++ [s] })

/-- The STANDBY's own summary of a cycle is ready. -/
def Dev.ownSummary (d : Dev) (s : Summary) : Dev :=
  match d.twin.summaries.find? (fun x => x.cycle = s.cycle) with
  | some their => d.compareSummaries s their
  | none => d.onTwin (fun t => { t with ownSummaries := t.ownSummaries ++ [s] })

/-- FORWARD_LATE: record n has not arrived 2 cycles after record n − 1. -/
def Dev.forwardLate (d : Dev) : Dev :=
  if d.alive && d.role = .standby && !d.copyDue && d.twin.lastRecordAt.isSome then
    (d.incSat R.TWIN_FWD_LATE).diverge 5 [] []
  else d

/-- `TWIN.SHADOW`. -/
def Dev.showLag (d : Dev) : Dev :=
  let n := d.twin.held.length
  (d.wrSat R.TWIN_SHADOW_LAG n).maxTo R.TWIN_SHADOW_MAX_LAG n

/-- A forwarded record is held; more than 2 behind is a divergence. A record whose CRC fails is absent (R326). -/
def Dev.takeRecord (d : Dev) (r : FwdRecord) : Dev :=
  if !(d.alive && d.role = .standby && r.crcOk) then d
  else
    let d := (d.onTwin (fun t => { t with held := t.held ++ [r], lastRecordAt := some d.now })).showLag
    if 2 < d.twin.held.length && !d.copyDue then (d.diverge 4 [] []).setCause 4 true else d

/-- One tile takes what a copy brings of it. -/
def Dev.copyTile (d : Dev) (t : Nat) (c : TileCopy) : Dev :=
  let data := (c.sram.filter (fun b => 0x20000 ≤ b.1)).foldl (fun m b => Memory.write m b.1 b.2)
  let ports := c.ports.foldl (fun m p => sput (fun _ => ({} : RecvPort)) m p.1 p.2) []
  let d := d.onTile t (fun x => x.eachRep (fun r => { r with sram := data (r.sram.filter (fun b => b.1 < 0x20000)), ports := ports }))
  d.onTile t (fun x => { x with preempted := c.preempted, waiting := c.waiting, current := none, todo := [], delivered := true, ended := false })

/-- One loop slot takes what a copy brings of it. -/
def Dev.copySlotState (d : Dev) (k : Nat) (c : SlotCopy) : Dev :=
  let rep (x : LoopRep) : LoopRep := { x with
    nodes := (c.nodes.filter (fun n => 32 ≤ n.1 && n.1 < 256)).foldl (fun m n => sput (fun _ => (0 : Word)) m n.1 n.2) x.nodes,
    count := c.count }
  let d := d.onSlot k (fun x => { x with
    repA := rep x.repA, repB := rep x.repB, repC := rep x.repC, ramp := c.ramp, shadowBad := false })
  d.wr (R.LOOP_STATUS_STATE k) c.state

/-- The command journal takes a serial of a source, with its last 64 accepted serials (R216). -/
def journalSerial (ss : List CmdSource) (source serial : Word) : List CmdSource :=
  if ss.any (fun s => s.client = source) then
    ss.map (fun (s : CmdSource) =>
      if s.client = source && !s.accepted.contains serial then
        { s with highest := if later serial s.highest then serial else s.highest, accepted := (serial :: s.accepted).take 64 }
      else s)
  else ss ++ [({ client := source, highest := serial, accepted := [serial] } : CmdSource)]

/-- The stored results of plant commands that a copy brings (R216). -/
def Dev.copyResults (d : Dev) (rs : List (Word × Word × Word × List Byte)) : Dev :=
  let add (ss : List CmdSource) (r : Word × Word × Word × List Byte) : List CmdSource :=
    let result : Word × Word × List Byte := (r.2.1, r.2.2.1, r.2.2.2)
    (journalSerial ss r.1 r.2.1).map (fun (s : CmdSource) => if s.client = r.1 then
      { s with results := (result :: s.results.filter (fun x => x.1 ≠ r.2.1)).take 64 } else s)
  { d with cycle := { d.cycle with sources := rs.foldl add d.cycle.sources } }

/-- A state copy is complete at a boundary of the ACTIVE (R330): the STANDBY holds the state of its end, and the next
shadow cycle is the one after it. DEDUCED (log 86). -/
def Dev.takeCopy (d : Dev) (c : StateCopy) : Dev :=
  let d := c.tiles.foldl (fun d x => d.copyTile (d.tileOf x.1) x.2) d
  let d := (c.slots.filter (fun x => x.1 < 48)).foldl (fun d x => d.copySlotState x.1 x.2) d
  let d := c.axes.foldl (fun d x => { d with loop := { d.loop with groups := oput d.loop.groups x.1 x.2 } }) d
  let d := (d.copyResults c.results).each 4 (fun k d =>
    match c.canNum[k]? with
    | some n => d.wr (R.CAN_RXNUM k) n.toNat
    | none => d)
  let ms := d.since d.twin.copyStarted / 1000000
  let d := ((d.wr R.TWIN_COPY_STATE 2).wr R.TWIN_COPY_PERCENT 100).incSat R.TWIN_COPY_COUNT
  let d := ((d.wrSat R.TWIN_COPY_TIME_LAST_MS ms).maxTo R.TWIN_COPY_TIME_MAX_MS ms).wr R.TWIN_COPY_BYTES c.kib
  let d := ((d.drop R.TWIN_STATUS_COPYING).setCause 3 false).setCause 4 false
  let d := { d with cycle := { d.cycle with num := c.cycle + 1, began := false, running := true, copy := c.retain, inbox := [] } }
  (d.onTwin (fun t => { t with held := t.held.filter (fun r => c.cycle.toNat < r.cycle.toNat), shadow := some c.cycle })).showLag

/-- STATE_COPY_DONE. -/
def Dev.stateCopyDone (d : Dev) (c : StateCopy) : Dev :=
  if d.alive && d.role = .standby && d.on R.TWIN_STATUS_COPYING && d.on R.TWIN_STATUS_GIRTH_UP then d.takeCopy c else d

/-- STATE_COPY_FAILED: recorded, and restarted at once. -/
def Dev.stateCopyFailed (d : Dev) : Dev :=
  if d.alive && d.role = .standby && d.on R.TWIN_STATUS_COPYING then
    ((d.wr R.TWIN_COPY_STATE 3).event .stateCopyFailed (source 13 0)).startCopy
  else d

/-- SUCCESSOR_RELOAD_DONE: the reloaded module has the state of a copy and is STANDBY again (R114). -/
def Dev.reloadDone (d : Dev) (c : StateCopy) : Dev :=
  match d.hrn.staged with
  | some g =>
    let reloads := match g.phase with | .reloading | .back _ => true | _ => false
    if d.alive && d.role = .starting && reloads && d.power.start.loaded && d.pathLive true then
      (if d.on R.TWIN_STATUS_IDENT_CLASH then d.goStopped
       else
        let d := (d.joinChecked.takeCopy c).successorDone g
        d.when (d.on R.TWIN_STATUS_MIXED) Dev.mixedHold)
    else d
  | none => d

/-! ### Planned role swap (R337) -/

/-- ROLE_SWAP. -/
def Dev.roleSwap (d : Dev) (hold : Bool) : Reply :=
  if d.role ≠ .active then d.refuse (.hrn 10)
  else if !d.on R.TWIN_STATUS_GIRTH_UP then d.refuse (.hrn 11)
  else if !d.on R.TWIN_STATUS_ELIGIBLE then d.refuse (.hrn 10)
  else
    let n := d.cycle.num + 2
    let d := d.onTwin (fun t => { t with swap := some (n, hold) })
    (((d.wr R.TWIN_SWAP_STATE 1).flag R.TWIN_SWAP_HOLD hold).wr R.TWIN_SWAP_CYCLE (n.toNat % 2 ^ 32)).done

/-- The swap at its boundary on the ACTIVE: it is STANDBY with the state it holds, and needs no copy. With a partner
that is no longer eligible the swap is refused. DEDUCED (log 81). -/
def Dev.swapOut (d : Dev) (hold : Bool) : Dev :=
  let d := d.onTwin (fun t => { t with swap := none })
  if !d.on R.TWIN_STATUS_ELIGIBLE then d.wr R.TWIN_SWAP_STATE 3
  else
    let d := ((d.wr R.TWIN_SWAP_STATE 2).incSat R.TWIN_TAKEOVERS_SWAPS).wr R.TWIN_LAST_TAKEOVER_CAUSE 2
    let d := ((d.setRole .standby).restartTime false).drop R.CYCLE_STATUS_RETURNING
    let d := d.onTwin (fun t => { t with held := [], record := none, shadow := some d.cycle.num })
    match d.hrn.staged with
    | some g => if g.mode = .first then d.formerActive g hold else d
    | none => d

/-- The swap at its boundary on the STANDBY: it takes the next epoch and is ACTIVE. -/
def Dev.swapIn (d : Dev) : Dev :=
  let d := d.onTwin (fun t => { t with swap := none })
  if d.twin.causes ≠ 0 then d.wr R.TWIN_SWAP_STATE 3
  else
    let d := ((d.wr R.TWIN_SWAP_STATE 2).incSat R.TWIN_TAKEOVERS_SWAPS).becomeActive 2
    match d.hrn.staged with
    | some g => if g.mode = .follow then (d.onStaged (fun g => { g with swapped := true })).storeSuccessor else d
    | none => d

/-- SWITCH_ANNOUNCE: the STANDBY hears what the ACTIVE has announced. -/
def Dev.announcement (d : Dev) (a : Announcement) : Dev :=
  let joins : Bool := d.role = .standby || d.role = .starting || d.role = .safetyMaint
  if !d.alive then d
  else match a with
    | .mixedState m => d.when d.role.runs (fun d => d.onTwin (fun t => { t with mixedState := some m }))
    | _ => if !joins then d else match a with
    | .mixedState _ => d
    | .harness cycle epoch =>
      (match d.hrn.staged with
       | some g =>
         if g.mode = .shadow && !g.switched then
           (d.onStaged (fun g => { g with announcedFor := some cycle })).onTwin (fun t => { t with switchAt := some (cycle, epoch) })
         else d
       | none => d)
    | .schedule cycle change => { d with cycle := { d.cycle with announced := some (cycle, change) } }
    | .command source serial => { d with cycle := { d.cycle with sources := journalSerial d.cycle.sources source serial } }
    | .loopReset slot number => d.onSlot slot.val (fun x => { x with resetFrom := some number })
    | .swap cycle hold =>
      let d := d.onTwin (fun t => { t with swap := some (cycle, hold) })
      ((d.wr R.TWIN_SWAP_STATE 1).flag R.TWIN_SWAP_HOLD hold).wr R.TWIN_SWAP_CYCLE (cycle.toNat % 2 ^ 32)
    | .abort r => d.abortStage r.val

/-! ### The mixed state's end (R338) -/

/-- MIXED_MINUTE. -/
def Dev.mixedMinute (d : Dev) : Dev :=
  if d.alive && d.on R.TWIN_STATUS_MIXED then d.wr R.TWIN_MIXED_REMAIN_MIN (d.rd R.TWIN_MIXED_REMAIN_MIN - 1) else d

/-- SUCCESSOR_EXPIRED: REMAIN_MIN is 0 on the module with the predecessor image, and again every hour. -/
def Dev.successorExpired (d : Dev) : Dev :=
  if d.alive && d.on R.TWIN_STATUS_MIXED && d.on R.TWIN_MIXED_OLDER && d.rd R.TWIN_MIXED_REMAIN_MIN = 0
      && (!d.on R.TWIN_MIXED_EXPIRED || 3600 * nsPerSecond ≤ d.since d.twin.mixedAt) then
    ((d.raise R.TWIN_MIXED_EXPIRED).event .successorExpired (source 13 0)).onTwin (fun t => { t with mixedAt := d.now })
  else d

end Sys2Proof.Machine
end

