-- ==== Sys2Proof/Machine/CycleOps.lean ====
section
/-! DEFINITION. The control cycle: its end, the boundary with its holding work, the fall-back tasked schedule, and the
task watchdog, as operations on the module (R186 to R199, R207, R328, R385). -/

namespace Sys2Proof.Machine

/-- Changes the cycle engine. -/
def Dev.onCycle (d : Dev) (f : CycleSt → CycleSt) : Dev := { d with cycle := f d.cycle }

/-! ### When a boundary is due (R186) -/

/-- The number of the cycle that a boundary now would begin: the first one is prepared by the start or the copy. -/
def Dev.nextNum (d : Dev) : DWord := if d.cycle.began then d.cycle.num + 1 else d.cycle.num

/-- A tile has ended its tasks, delivered its ranges, and its stitches are compared. -/
def Dev.tileDone (d : Dev) (t : Nat) : Bool :=
  let x := d.tile t
  x.current.isNone && x.todo.isEmpty && x.voter.isEmpty && x.stitches.isEmpty && x.delivered && !x.awaitRound
    && (d.serving t).all (fun r => (x.rep r).outbox.isEmpty && (x.rep r).closed.isEmpty)

/-- Every TRIAD tile has. -/
def Dev.tilesDone (d : Dev) : Bool := (d.tilesIn 1).all d.tileDone

/-- A swap is announced for the cycle that comes next. -/
def Dev.swapDue (d : Dev) : Option Bool :=
  match d.twin.swap with
  | some (n, hold) => if n = d.nextNum then some hold else none
  | none => none

/-- The ACTIVE has announced a change of schedule for the boundary that comes next (R199). -/
def Dev.scheduleDue (d : Dev) : Option ScheduleChange :=
  match d.cycle.announced with
  | some (n, c) => if n = d.nextNum then some c else none
  | none => none

/-- An entry into the fall-back schedule is announced for the boundary that comes next, with its FORCED. -/
def Dev.entryDue (d : Dev) : Option Bool :=
  match d.scheduleDue with
  | some (.enter forced) => some forced
  | _ => none

/-- The ACTIVE announces a change of schedule for a boundary. DEDUCED (log 85). -/
def Dev.announceSchedule (d : Dev) (n : DWord) (c : ScheduleChange) : Dev :=
  d.onCycle (fun x => { x with announced := if d.role = .active then some (n, c) else x.announced })

/-- What a boundary of the STANDBY waits for: a record, or a swap or an entry announced for it; no copy runs. -/
def Dev.shadowDue (d : Dev) : Bool :=
  d.role != .standby
    || (!d.copyDue && (!d.twin.held.isEmpty || d.swapDue.isSome || d.entryDue.isSome))

/-- CYCLE_MIN has elapsed since the previous boundary. -/
def Dev.minElapsed (d : Dev) : Bool := !d.cycle.began || d.image.minUs * 1000 ≤ d.since d.cycle.startedAt

/-- The next free-running boundary can be declared. From the commit of a power failure on none is (R54). -/
def Dev.boundaryDue (d : Dev) : Bool :=
  d.alive && d.role.runs && d.cycle.running && !d.on R.CYCLE_STATUS_FALLBACK && !d.committed
    && d.tilesDone && d.minElapsed && d.shadowDue

/-! ### The end of a cycle (R191, R207, R215, R328, R447) -/

/-- The length of the cycle that ends, and in a commanding role its comparison with CYCLE_LIMIT (R191, R199). -/
def Dev.measureCycle (d : Dev) : Dev :=
  let ns := d.since d.cycle.startedAt
  let d := ((d.wrSat R.CYCLE_LAST ns).maxTo R.CYCLE_MAX ns).onCycle (fun c => { c with lastNs := ns })
  if d.role.commanding then
    d.wr R.CYCLE_STATUS_OVER_COUNT
      (if d.image.limitUs * 1000 < ns then min 3 (d.rd R.CYCLE_STATUS_OVER_COUNT + 1) else 0)
  else d

/-- The commands that the cycle delivered are completed, for every partition (R215). -/
def Dev.completeParts (d : Dev) : Dev :=
  d.image.parts.foldl (fun d p => d.completePart p.num (d.tile (d.tileOf p.tile)).aborted) d

/-- The complete copy is the cycle's when every partition with a retain range has delivered in it; where no partition
has one there is none (R54, R207). -/
def Dev.completeCopy (d : Dev) : Dev :=
  let ps := d.image.parts.filter (fun p => p.retain.isSome)
  let all := !ps.isEmpty && ps.all (fun p => (oget d.cycle.delivered p.num).isSome)
  d.onCycle (fun c => { c with copy := if all then some (c.num, c.delivered) else c.copy, delivered := [] })

/-- The cycle stitch of a tile (R328): the CRC-64 over its majority window stitches in window order. -/
def Tile.cycleStitch (x : Tile) : DWord :=
  let ws := x.majority.foldl (fun m s => oput m s.1 s.2) []
  crc64 0xFFFFFFFFFFFFFFFF (ws.foldl (fun bs s => bs ++ leBytes 8 s.2.toNat) [])

/-- The stitch summary of the cycle: tiles by the tile whose role they carry, so that both modules name them alike. -/
def Dev.summary (d : Dev) : Summary :=
  { cycle := d.cycle.num, slots := d.twin.loopStitches
    tiles := (d.tilesIn 1).foldl (fun m t => oput m (d.rd (R.TILE_POS_LOGICAL t)) (d.tile t).cycleStitch) [] }

/-- The ACTIVE sends its summary; the STANDBY compares its own, and has run the cycle in shadow (R328). -/
def Dev.summarise (d : Dev) : Dev :=
  let s := d.summary
  if d.role = .standby then (d.onTwin (fun t => { t with shadow := some d.cycle.num })).ownSummary s
  else (d.onTwin (fun t => { t with sentSummary := some s, loopStitches := [] })).queueTwin 2 s.cycle (Config.summaryBytes s)

/-- The firmware that has completed its first cycle raises the minimum to its security version (R447). -/
def Dev.proveFirmware (d : Dev) : Dev :=
  if d.trust.fwProven then d
  else
    let v := d.fwCopy.secver
    { d with trust := { d.trust with fwProven := true, fwMin := if d.trust.fwMin.toNat < v.toNat then v else d.trust.fwMin } }.showTrust

/-- The cycle that has run ends. -/
def Dev.endCycle (d : Dev) (dataBusy : Bool) : Dev :=
  if !d.cycle.began then d
  else
    let d := d.measureCycle.completeParts.completeCopy
    let d := (d.writePublish d.cycle.pubDue dataBusy).onCycle (fun c => { c with
      pubDue := [], completed := true, warmDue := false, coldDue := false })
    d.proveFirmware.summarise

/-! ### The holding work (R108, R112, R113, R148, R168, R181, R187, R228, R337, R375, R390, R396, R486) -/

/-- A harness switch on a module that commands alone or with a standby: at the boundary that was announced, or with
no standby at once; else it is postponed (R111, R112). -/
def Dev.switchDue (d : Dev) (g : Staged) : Dev :=
  if d.switchReady g then d.switchHarness g (d.hrn.epoch + 1) else d.postponeSwitch g

/-- The ACTIVE announces the switch for the next boundary, and switches at the announced one. An announcement whose boundary
came while the fall-back schedule was in use is made again. -/
def Dev.pairSwitch (d : Dev) (g : Staged) : Dev :=
  let again := { g with announcedFor := none }
  let announce (d : Dev) : Dev :=
    if d.switchReady g then d.onStaged (fun g => { g with announcedFor := some (d.cycle.num + 1) })
    else (d.onStaged (fun _ => again)).postponeSwitch again
  match g.announcedFor with
  | some n =>
    if n = d.cycle.num then (d.onStaged (fun _ => again)).switchDue again
    else if d.cycle.num.toNat < n.toNat && d.switchReady g then d
    else announce d
  | none => announce d

/-- The harness gate at a boundary, of either schedule; the number of the cycle that begins is in force. -/
def Dev.harnessGate (d : Dev) : Dev :=
  match d.hrn.staged with
  | none => d
  | some g =>
    if g.switched then d
    else match g.mode with
      | .alone => d.switchDue g
      | .pair => if d.role.commanding then (if d.hasStandby then d.pairSwitch g else d.switchDue { g with mode := .alone }) else d
      | .shadow =>
        (match d.twin.switchAt with
         | some (c, e) =>
           if c = d.cycle.num && d.role = .standby then
             (if d.on R.CYCLE_STATUS_FALLBACK then d.postponeSwitch g else d.switchHarness g e).onTwin (fun t => { t with switchAt := none })
           else d
         | none => d)
      | .load | .first | .follow => d

/-- Reintegration of the halted replicas is due at this boundary (R148). -/
def Dev.dueReintegrations (d : Dev) : Dev :=
  (d.tilesIn 1).foldl (fun d t =>
    if (d.tile t).halted ≠ 0 then d.raise (R.TILE_STATUS_REINTEGRATING t) else d) d

/-- The receive ports of every tile swap, those that a condition names (R168). -/
def Dev.swapAll (d : Dev) (which : PartImg → Nat → Bool) : Dev :=
  (d.tilesIn 1).foldl (fun d t =>
    match d.partOf t with
    | some p => d.swapPorts t p (which p)
    | none => d) d

/-- The reserve frame is cleared at the boundary after the one that follows its abort (R181). -/
def Replica.clearReserve (x : Replica) : Replica := { x with reserve := [] }
def Tile.countReserve (x : Tile) : Tile :=
  if x.reserveLeft = 1 then { x.eachRep Replica.clearReserve with reserveLeft := 0 }
  else { x with reserveLeft := x.reserveLeft - 1 }

/-- The role takes effect at the pins (R46): at the first boundary in it, and after a start once the first cycle has
completed. -/
def Dev.takePins (d : Dev) : Dev :=
  if d.power.pinRole = d.role || (d.power.pinRole = .starting && !d.cycle.completed) then d
  else { d with power := { d.power with pinRole := d.role } }.showDio.aoShowAll

/-- What every boundary brings beside the cycle: the role at the pins, staged writes, a restart of the time base that
waits, the loop engine's boundary, the HART blocks and the calibration records. -/
def Dev.boundaryWork (d : Dev) : Dev :=
  let d := d.takePins.applyStaged
  let d := if d.time.restartAtBoundary then d.restartTime false else d
  let d := if d.io.fldWait then ({ d with io := { d.io with fldWait := false } }.showDio).aoShowAll else d
  d.loopBoundary.hartShow.useCal

/-- A tile's counts for the cycle that begins: effects and windows number from 0 (R136, R141). -/
def Replica.newCycle (x : Replica) : Replica :=
  { x with effects := 0, given := 0, retired := 0, window := 0, records := 0, stitch := 0xFFFFFFFFFFFFFFFF, aborts := 0 }
def Tile.newCycle (x : Tile) : Tile :=
  { x.eachRep Replica.newCycle with
    next := 0, issued := [], majority := [], aborted := false, awaitRound := true, delivered := false }

/-- Changes every TRIAD tile. -/
def Dev.onTriads (d : Dev) (f : Tile → Tile) : Dev := (d.tilesIn 1).foldl (fun d t => d.onTile t f) d

/-- Errors that wait are listed. -/
def Dev.listWaiting (d : Dev) : Dev := d.onCycle (fun c => { c with listed := c.waiting, waiting := [] })

/-! ### Plant commands of the forwarded record (R214) -/

/-- An inbox slot of a forwarded module area, when its VALID bit is set. -/
def inboxCmd (cycle : DWord) (part k : Nat) (area : List Byte) : Option PlantCmd :=
  let b := (area.drop (0x100 + 64 * k)).take 64
  if testBit (leNat ((b.drop 10).take 1)) 0 then
    some { source := w32 (leNat ((b.drop 4).take 4)), serial := w32 (leNat (b.take 4)), part := part
           code := leNat ((b.drop 8).take 2), args := b.drop 16, journalled := true, acked := true, slot := some k
           deliveredIn := cycle }
  else none

/-- The commands that a record brings, delivered in shadow in the same cycle or release; those of a release whose command
task has not ended stay (R214). DEDUCED (log 84). -/
def Dev.shadowCommands (d : Dev) (r : FwdRecord) : Dev :=
  let cs : List PlantCmd := r.areas.foldl (fun l a => l ++ (List.range 8).filterMap (fun k => inboxCmd r.cycle a.1 k a.2)) []
  d.onCycle (fun c => { c with
    inbox := c.inbox ++ cs, sources := cs.foldl (fun ss x => journalSerial ss x.source x.serial) c.sources })

/-- The STANDBY takes up its oldest record: the number of its cycle and the commands in it (R326, R327). -/
def Dev.takeHeld (d : Dev) : Dev :=
  match d.twin.held with
  | [] => d
  | r :: rs =>
    ((d.onTwin (fun t => { t with held := rs, record := some r })).onCycle (fun c => { c with num := r.cycle })).shadowCommands r
      |>.showLag

/-! ### Entry into the fall-back schedule (R193, R199) -/

/-- SCHEDULE_FALLBACK is listed for every partition at the first release. -/
def Dev.listFallback (d : Dev) (forced : Bool) : Dev :=
  d.image.parts.foldl (fun d p => d.listNext (some p.num) 5 0 (bit forced)) d

/-- The module enters the fall-back schedule at a boundary. The ACTIVE announces it. What the boundary marks for its first
round (FIRST, and entry into a commanding role) is due with the first release. -/
def Dev.enterFallback (d : Dev) (forced : Bool) : Dev :=
  let d := d.announceSchedule d.cycle.num (.enter forced)
  let d := ((d.raise R.CYCLE_STATUS_FALLBACK).flag R.CYCLE_STATUS_FORCED forced).incSat R.CYCLE_STATUS_FALLBACK_ENTRIES
  let d := (d.eventM .fallbackEntered).onCycle (fun c => { c with
    bases := 0, below := 0, began := false, running := true, firstDue := c.first, roleDue := c.roleEntered })
  d.listFallback forced

/-- Fall-back is due: by R191, by command, or announced by the ACTIVE with its FORCED. -/
def Dev.fallbackDue (d : Dev) (announced : Option Bool) : Option Bool :=
  if d.role = .standby then announced
  else if d.rd R.CYCLE_STATUS_OVER_COUNT = 3 then some false
  else if d.on R.CYCLE_CTRL_FORCE_FALLBACK then some true
  else none

/-! ### The boundary (R186, R187) -/

/-- The cycle that begins: commands are delivered, and each tile's round is due. -/
def Dev.openCycle (d : Dev) : Dev :=
  let d := if d.role = .standby then d.takeHeld
    else d.image.parts.foldl (fun d p => d.deliverCommands p.num) d
  (d.onTriads Tile.newCycle).onCycle (fun c => { c with startedAt := d.now, began := true })

/-- A boundary that goes on in the role that it began in. A harness switch that is due is applied, and then fall-back is
entered (R217). With the entry no cycle begins: receive ports, reserve frames and the error list wait for the first release.
DEDUCED (log 146). -/
def Dev.beginCycle (d : Dev) : Dev :=
  let entry : Option Bool := match d.cycle.announced with
    | some (n, .enter forced) => if n = d.cycle.num then some forced else none
    | _ => none
  let d := d.takePins.applyStaged.harnessGate.mixedLoad.boundaryWork.dueReintegrations
  match d.fallbackDue entry with
  | some forced => d.enterFallback forced
  | none => (((d.swapAll (fun _ _ => true)).onTriads Tile.countReserve).listWaiting).openCycle

/-- A swap that is due at this boundary (R337). The former ACTIVE runs no cycle of its own any more. -/
def Dev.swapAt (d : Dev) (hold : Bool) : Dev :=
  if d.role.commanding then
    let d := d.swapOut hold
    if d.role.commanding then d.beginCycle else d.boundaryWork
  else d.swapIn.beginCycle

/-- A boundary is declared: the cycle ends, and the next one begins unless the end brought a state copy. -/
def Dev.declareBoundary (d : Dev) (dataBusy : Bool) : Dev :=
  let n := d.nextNum
  let swap := d.swapDue
  let d := d.endCycle dataBusy
  if !d.role.runs || (d.role = .standby && d.copyDue) then d
  else
    let d := d.onCycle (fun c => { c with
      num := n, began := false, first := c.firstDue, roleEntered := c.roleDue, firstDue := false, roleDue := false })
    match swap with
    | some hold => d.swapAt hold
    | none => d.beginCycle

/-- CYCLE_BOUNDARY. -/
def Dev.cycleBoundary (d : Dev) (dataBusy : Bool) : Dev := if d.boundaryDue then d.declareBoundary dataBusy else d

/-! ### The fall-back schedule (R193 to R198) -/

/-- No released or pre-empted instance is left on a tile, and no round is due. -/
def Tile.idle (x : Tile) : Bool := x.current.isNone && x.waiting.isEmpty && x.preempted.isEmpty && !x.awaitRound

/-- The equivalent cycle E in ns (R198). -/
def Dev.equivalentCycle (d : Dev) : Nat :=
  let sum (p : PartImg) : Nat := (d.cycle.times.filter (fun x => x.1 = p.num && x.2.1 < 32)).foldl (fun a x => a + x.2.2) 0
  (d.tilesIn 1).foldl (fun m t => match d.partOf t with | some p => max m (sum p) | none => m) 0 + 3200

/-- E at a base-period boundary: shown, and counted while below 80 % of CYCLE_LIMIT. -/
def Dev.judgeReturn (d : Dev) : Dev :=
  let e := d.equivalentCycle
  let below := if e * 10 < 8 * (d.image.limitUs * 1000) then d.cycle.below + 1 else 0
  (d.wrSat R.CYCLE_LAST e).onCycle (fun c => { c with lastNs := e, below := below })

/-- A return begins at this boundary. -/
def Dev.returnBegins (d : Dev) : Bool :=
  d.role.commanding && d.image.returnEn && !d.on R.CYCLE_CTRL_FORCE_FALLBACK && 1000 ≤ d.cycle.below

/-- Every unfinished instance is one base period older. -/
def TaskRun.older (r : TaskRun) : TaskRun := { r with age := r.age + 1 }
def Tile.older (x : Tile) : Tile :=
  { x with current := x.current.map TaskRun.older, waiting := x.waiting.map TaskRun.older, preempted := x.preempted.map TaskRun.older }

/-- Errors are listed at a release; those of a partition whose error task has not ended wait (R203). -/
def Dev.listForRelease (d : Dev) : Dev :=
  let busy (e : ErrEntry) : Bool := d.image.parts.any (fun p =>
    e.part = some p.num && (d.tile (d.tileOf p.tile)).unfinished 96)
  d.onCycle (fun c => { c with listed := c.waiting.filter (fun e => !busy e), waiting := c.waiting.filter busy })

/-- The publish copy under the fall-back schedule: the variables delivered since the last boundary replace their
values in the copy before it. -/
def Dev.publishMerged (d : Dev) (dataBusy : Bool) : Dev :=
  if d.cycle.pubDue.isEmpty then d
  else (d.writePublish (d.cycle.pubDue.foldl (fun m v => oput m v.1 v.2) d.cycle.published) dataBusy).onCycle
    (fun c => { c with pubDue := [] })

/-- A tile's reserve frame waits while its error task has not ended. -/
def Tile.releaseReserve (x : Tile) : Tile := if x.unfinished 96 then x else x.countReserve

/-- What every base-period boundary brings: the harness gate, the work of a boundary and due reintegrations; and a round is
due on every tile (R196). -/
def Dev.baseRound (d : Dev) : Dev :=
  let d := d.harnessGate.mixedLoad.boundaryWork.dueReintegrations
  (d.onTriads (fun x => { x with awaitRound := true, majority := [] })).onCycle (fun c => { c with began := true })

/-- A release boundary on the tiles: receive ports with a receiving task swap with that task's release (R168). -/
def Dev.releaseBoundary (d : Dev) : Dev :=
  let d := d.baseRound.swapAll (fun p q => (oget p.recvTasks q).isNone)
  ((d.onTriads Tile.releaseReserve).listForRelease).onCycle (fun c => { c with
    lastRelease := d.now, first := c.firstDue, roleEntered := c.roleDue, firstDue := false, roleDue := false })

/-- The numbers of a base-period boundary: the release number, the periods since entry, and the STANDBY's record. With the
second one the first release since a restart is over. -/
def Dev.countBase (d : Dev) : Dev :=
  let d := d.onCycle (fun c => { c with
    num := d.nextNum, bases := if c.began then c.bases + 1 else 0, completed := c.completed || c.began
    warmDue := c.warmDue && !c.began, coldDue := c.coldDue && !c.began })
  let d := d.onTriads Tile.older
  if d.role = .standby then (d.onTwin (fun t => { t with shadow := some d.cycle.num })).takeHeld else d

/-- The instances started before the return have had CYCLE_LIMIT since the last release (R198). -/
def Dev.returnLate (d : Dev) : Bool := d.image.limitUs * 1000 < d.since d.cycle.lastRelease

/-- A boundary of a return: its round runs, nothing is released and nothing is listed (R196, R198). -/
def Dev.returnBoundary (d : Dev) : Dev := d.baseRound.onCycle (fun c => { c with listed := [], first := false, roleEntered := false })

/-- A return begins; the ACTIVE announces it. -/
def Dev.beginReturn (d : Dev) : Dev :=
  ((d.announceSchedule d.cycle.num .returning).raise R.CYCLE_STATUS_RETURNING).returnBoundary

/-- A base-period boundary outside a return, in the role that it began in. -/
def Dev.releaseBase (d : Dev) : Dev :=
  let d := d.judgeReturn
  if d.returnBegins || (d.role = .standby && d.cycle.announced = some (d.cycle.num, .returning)) then d.beginReturn
  else d.releaseBoundary

/-- Releases resume: the instances have overstayed, or FORCE_FALLBACK was written during the return, and the count restarts
(R198, R217). -/
def Dev.resumeReleases (d : Dev) : Dev :=
  let d := (d.announceSchedule d.cycle.num .resume).drop R.CYCLE_STATUS_RETURNING
  (d.onCycle (fun c => { c with below := 0 })).releaseBoundary

/-- A return ends at this boundary without leaving the fall-back schedule. -/
def Dev.resumeDue (d : Dev) : Bool :=
  if d.role = .standby then d.cycle.announced = some (d.cycle.num, .resume)
  else d.returnLate || d.on R.CYCLE_CTRL_FORCE_FALLBACK

/-- A base-period boundary during a return: E is judged there too. -/
def Dev.returningBase (d : Dev) : Dev :=
  let d := d.applyStaged.judgeReturn
  if d.resumeDue then d.resumeReleases else d.returnBoundary

/-- A boundary at which a swap is due: the former ACTIVE goes on in shadow. -/
def Dev.swapBase (d : Dev) (hold : Bool) : Dev :=
  if d.role.commanding then
    let d := d.swapOut hold
    if d.role.commanding then d.releaseBase else d.boundaryWork
  else d.swapIn.releaseBase

/-- What a STANDBY's base-period boundary waits for: a record, or a swap announced for it. -/
def Dev.shadowBase (d : Dev) : Bool :=
  d.role != .standby || (!d.copyDue && (!d.twin.held.isEmpty || d.swapDue.isSome))

/-- BASE_PERIOD_BOUNDARY. During a return nothing is released until releases resume. -/
def Dev.basePeriod (d : Dev) (dataBusy : Bool) : Dev :=
  if !(d.alive && d.role.runs && d.cycle.running && d.on R.CYCLE_STATUS_FALLBACK && !d.committed && d.shadowBase) then d
  else
    let swap := d.swapDue
    let d := (d.countBase.publishMerged dataBusy)
    match swap with
    | some hold => d.swapBase hold
    | none => if d.on R.CYCLE_STATUS_RETURNING then d.returningBase else d.releaseBase

/-- The return: the module declares a free-running boundary. -/
def Dev.leaveFallback (d : Dev) (dataBusy : Bool) : Dev :=
  let n := d.nextNum
  let d := d.announceSchedule n .leave
  let d := d.clear [R.CYCLE_STATUS_FALLBACK, R.CYCLE_STATUS_RETURNING, R.CYCLE_STATUS_FORCED, R.CYCLE_STATUS_OVER_COUNT]
  let d := (d.eventM .fallbackLeft).onCycle (fun c => { c with num := n, began := false })
  (d.onTriads (fun x => { x with delivered := true, awaitRound := false })).cycleBoundary dataBusy

/-- FALLBACK_LEFT: every started instance has ended within CYCLE_LIMIT of the last release; the STANDBY returns when the
ACTIVE has announced it. -/
def Dev.fallbackLeft (d : Dev) (dataBusy : Bool) : Dev :=
  let idle := (d.tilesIn 1).all (fun t => (d.tile t).idle)
  let due := if d.role = .standby then d.scheduleDue = some .leave
    else d.on R.CYCLE_STATUS_RETURNING && !d.returnLate
  if d.alive && d.role.runs && d.on R.CYCLE_STATUS_FALLBACK && idle && due then d.leaveFallback dataBusy else d

/-! ### The task watchdog (R192, R197) -/

/-- An instance has run too long: 4 × CYCLE_LIMIT in a free-running cycle; 8 of its periods under the fall-back
schedule, and for an event or error instance 8 base periods. -/
def Dev.overdue (d : Dev) (p : PartImg) (run : TaskRun) : Bool :=
  if d.on R.CYCLE_STATUS_FALLBACK then
    let n := if run.task < 32 then (match p.task run.task with | some k => max 1 k.period | none => 1) else 1
    8 * n ≤ run.age
  else 4 * d.image.limitUs * 1000 ≤ d.since d.cycle.startedAt

/-- TASK_WATCHDOG: the overdue instance of a tile, the running one first, is ended at an agreed retired-instruction count
(R128, R192). -/
def Dev.taskWatchdog (d : Dev) (t : Fin 144) : Dev :=
  if !d.tileLive t.val then d
  else match d.partOf t.val with
    | none => d
    | some p =>
      let x := d.tile t.val
      let late := (match x.current with | some r => [r] | none => []) ++ (if d.on R.CYCLE_STATUS_FALLBACK then x.preempted ++ x.waiting else [])
      match late.find? (fun r => d.overdue p r && (d.openRun t.val r.task).isSome) with
      | some run => (d.postEvent t.val (some run.task)).tryEvent t.val
      | none => d

end Sys2Proof.Machine
end

