-- ==== Sys2Proof/Machine/Cycle.lean ====
section
/-! DEFINITION. The meanings of the control cycle's events and commands (R186 to R218). -/

namespace Sys2Proof.Machine

/-! ### Boundaries (R186 to R199) -/

/-- CYCLE_BOUNDARY (R186, R187); `dataBusy`: the data plane is still reading the publish copy (R15). -/
def execCycleBoundary (dataBusy : Bool) (s : State) : Host.Outcome State Fault Refusal :=
  s.act fun d => d.cycleBoundary dataBusy

/-- TASK_WATCHDOG (R192, R197). -/
def execTaskWatchdog (tile : Fin 144) (s : State) : Host.Outcome State Fault Refusal :=
  s.act fun d => d.taskWatchdog tile

/-- BASE_PERIOD_BOUNDARY (R194 to R198). -/
def execBasePeriodBoundary (dataBusy : Bool) (s : State) : Host.Outcome State Fault Refusal :=
  s.act fun d => d.basePeriod dataBusy

/-- FALLBACK_LEFT (R198, R199). -/
def execFallbackLeft (dataBusy : Bool) (s : State) : Host.Outcome State Fault Refusal :=
  s.act fun d => d.fallbackLeft dataBusy

/-- FORCE_FALLBACK (R218): a write to `MOD.CYCLE_CTRL`. -/
def execForceFallback (value : Word) (s : State) : Host.Outcome State Fault Refusal :=
  s.act fun d => if d.alive then d.writeReg .mgmt 0xB0 value else d

/-- CYCLE_CLEAR_MAX (R218). -/
def execCycleClearMax (s : State) : Host.Outcome State Fault Refusal := s.act Dev.cycleClearMax

/-! ### Plant commands (R213 to R216) -/

/-- Body fields of a PLANT_COMMAND. -/
def cmdSerial (b : List Byte) : Word := w32 (leNat (b.take 4))
def cmdPart (b : List Byte) : Nat := leNat ((b.drop 4).take 2)

/-- The body breaks a rule of R213. -/
def cmdMalformed (b : List Byte) : Bool :=
  let n := leNat ((b.drop 8).take 1)
  b.length ≠ 60 || 48 < n || ((b.drop 9).take 3).any (· ≠ 0) || (b.drop (12 + n)).any (· ≠ 0)

/-- A source of plant commands. -/
def Dev.cmdSource (d : Dev) (source : Word) : Option CmdSource := d.cycle.sources.find? (fun s => s.client = source)

/-- A command of a source that has been accepted and is not yet completed. -/
def Dev.cmdOpen (d : Dev) (source serial : Word) : Bool :=
  (d.cycle.queue ++ d.cycle.inbox).any (fun c => c.source = source && c.serial = serial)

/-- The stored result of a completed command; UNKNOWN for a serial that only the journal holds (R216). -/
def CmdSource.result (s : CmdSource) (serial : Word) : Option (Word × List Byte) :=
  match s.results.find? (fun r => r.1 = serial) with
  | some r => some r.2
  | none => if s.accepted.contains serial then some (0xFFFFFFFD, List.replicate 8 0) else none

/-- A command is accepted: it is queued, its serial is recorded, and its result follows on completion. -/
def Dev.acceptCommand (d : Dev) (r : Req) (b : List Byte) : Reply :=
  let c : PlantCmd :=
    { source := r.client, serial := cmdSerial b, part := cmdPart b, code := leNat ((b.drop 6).take 2), args := b.drop 12
      id := r.id }
  let d := (d.onCycle (fun x => { x with
    queue := x.queue ++ [c], sources := journalSerial x.sources c.source c.serial })).incSat R.CMD_STATUS_ACCEPTED
  { dev := d.showCommands.respond rqPlantCommand r (.named "ACCEPTED"), status := .named "ACCEPTED", later := true }

/-- PLANT_COMMAND: the rows of R213 in their order. -/
def Dev.plantCommand (d : Dev) (r : Req) (b : List Byte) : Reply :=
  let serial := cmdSerial b
  if cmdMalformed b then d.refuse .badRequest
  else if !d.role.commanding then d.refuse (.named "NOT_ACTIVE")
  else if !d.image.parts.any (fun p => p.num = cmdPart b) then d.refuse (.named "UNKNOWN_PARTITION")
  else
    let src := d.cmdSource r.client
    if src.isNone && 256 ≤ d.cycle.sources.length then d.refuse (.named "SOURCE_LIMIT")
    else if d.cmdOpen r.client serial then d.refuse .inProgress
    else match src.bind (fun s => s.result serial) with
      | some x => { dev := d, status := .ok, body := leBytes 4 x.1.toNat ++ x.2, dup := true }
      | none =>
        let stale : Bool := match src with
          | some s => !later serial s.highest
          | none => false
        if stale then d.refuse (.named "STALE_SERIAL")
        else if 64 ≤ (d.cycle.queue.filter (fun c => c.part = cmdPart b)).length then d.refuse (.named "QUEUE_FULL")
        else d.acceptCommand r b

/-- PLANT_COMMAND (R213): its source is the request's client ID. -/
def execPlantCommand (req : Req) (body : List Byte) (s : State) : Host.Outcome State Fault Refusal :=
  s.act fun d => d.request rqPlantCommand req fun d => d.plantCommand req body

/-- Changes the waiting commands of a source and serial. -/
def Dev.onCommand (d : Dev) (source serial : Word) (f : PlantCmd → PlantCmd) : Dev :=
  d.onCycle (fun c => { c with
    queue := c.queue.map (fun (x : PlantCmd) => if x.source = source && x.serial = serial then f x else x) })

/-- The latest of some serials. -/
def latestSerial (ss : List Word) : Option Word :=
  ss.foldl (fun b s => match b with | some x => if later s x then some s else b | none => some s) none

/-- The journal does not hold a serial: it is not recorded for its source. -/
def dropSerial (ss : List CmdSource) (source serial : Word) : List CmdSource :=
  ss.filterMap (fun (s : CmdSource) =>
    if s.client = source then
      (let rest := s.accepted.filter (· ≠ serial)
       match latestSerial rest with
       | some h => some { s with accepted := rest, highest := h }
       | none => none)
    else some s)

/-- The journal write of a command failed: the command is refused with QUEUE_FULL (R223). DEDUCED (log 119). -/
def Dev.refuseCommand (d : Dev) (c : PlantCmd) : Dev :=
  let d := (d.raise R.CMD_STATUS_JOURNAL_FAULT).onCycle (fun x => { x with
    queue := x.queue.filter (fun y => y.source ≠ c.source || y.serial ≠ c.serial)
    sources := dropSerial x.sources c.source c.serial })
  d.showCommands.finishRequest rqPlantCommand c.source c.id (.named "QUEUE_FULL") []

/-- COMMAND_JOURNAL_WRITTEN (R214). -/
def execCommandJournalWritten (source serial : Word) (ok : Bool) (s : State) : Host.Outcome State Fault Refusal :=
  s.act fun d =>
    match d.cycle.queue.find? (fun c => c.source = source && c.serial = serial && !c.journalled) with
    | none => d
    | some c =>
      if d.poolEmpty then d.wornFlash.refuseCommand c
      else if ok then d.onCommand source serial (fun c => { c with journalled := true }) else d.refuseCommand c

/-- COMMAND_ACK (R214). -/
def execCommandAck (source serial : Word) (s : State) : Host.Outcome State Fault Refusal :=
  s.act fun d => d.onCommand source serial (fun c => { c with acked := true })

end Sys2Proof.Machine
end

