-- ==== Sys2Proof/Machine/EventRecorder.lean ====
section
/-! DEFINITION. The meanings of the event recorder's commands (R421 to R432, R443). -/

namespace Sys2Proof.Machine

/-- EVENT_INSERT (R424 to R428): the next presented record is merged, inserted, overwrites one of equal or
lower severity, enters the holding FIFO, or is dropped. -/
def execEventInsert (s : State) : Host.Outcome State Fault Refusal := s.act Dev.recorderTick

/-- A full journal begins the erase of its oldest 16,384 entries (R430, R476). -/
def Dev.eraseJournal (d : Dev) : Dev :=
  ({ d with evrec := { d.evrec with journal := d.evrec.journal.drop 16384 } }).openIntents
    [journalBlock d.evrec.nextEntry]

/-- EVENT_JOURNAL_WRITE (R430): a record of severity CHANGE or higher, or a merge into one, is written to
the flash journal. A full journal first erases its oldest block, and the write waits for that erase. -/
def execEventJournalWrite (s : State) : Host.Outcome State Fault Refusal :=
  s.act fun d =>
    if d.alive then
      match d.journalDue with
      | some (k, r) =>
        if 2097152 ≤ d.evrec.journal.length then d.flashWrite Dev.eraseJournal
        else if d.life.intents.contains (journalBlock d.evrec.nextEntry) then d
        else d.journalSlot k r
      | none => d
    else d

/-- EVREC_DATA0 (R427): latches the slot that READ_IDX names, and returns its first word. -/
def execEvrecData0 (path : Path) (s : State) : Host.Outcome State Fault Refusal :=
  s.act fun d => d.readShown path 0x400018

/-- EVREC_DATA11 (R427): returns the last word of the latched copy, and advances READ_IDX. -/
def execEvrecData11 (path : Path) (s : State) : Host.Outcome State Fault Refusal :=
  s.act fun d => d.readShown path 0x400044

/-- FREEZE (R428): by a request, or by a write of `EVREC.CTRL.FREEZE`. -/
def execFreeze (req : Option Req) (s : State) : Host.Outcome State Fault Refusal :=
  s.act fun d =>
    match req with
    | none => d.freezeCmd
    | some r => d.request rqFreeze r fun d =>
      match d.beginFreeze with
      | .ok d' => d'.done
      | .error e => d.refuse (.named e)

/-- UNFREEZE (R428): the freeze ends and the holding FIFO drains. -/
def execUnfreeze (req : Option Req) (s : State) : Host.Outcome State Fault Refusal :=
  s.act fun d =>
    match req with
    | none => d.unfreezeCmd
    | some r => d.request rqUnfreeze r fun d => d.endFreeze.done

/-- FREEZE_EXPIRY (R428): 100 ms after its start the freeze ends. -/
def execFreezeExpiry (s : State) : Host.Outcome State Fault Refusal :=
  s.act fun d => if 100000000 ≤ d.since d.evrec.frozenAt then d.endFreeze else d

/-- CLEAR_LOST (R443). -/
def execClearLost (s : State) : Host.Outcome State Fault Refusal := s.act Dev.clearLost

/-! ### The event catalogue (R422) -/

/-- The name of each event, as the manual gives it. -/
def Ev.name : Ev → String
  | .aoFault => "AO_FAULT" | .approval => "APPROVAL" | .authFail => "AUTH_FAIL" | .bothFeedsLost => "BOTH_FEEDS_LOST"
  | .bridleFault => "BRIDLE_FAULT" | .calInvalid => "CAL_INVALID" | .calWritten => "CAL_WRITTEN"
  | .canBusOff => "CAN_BUS_OFF" | .canErrorActive => "CAN_ERROR_ACTIVE" | .canErrorPassive => "CAN_ERROR_PASSIVE"
  | .canErrorWarning => "CAN_ERROR_WARNING" | .clusterPower => "CLUSTER_POWER" | .coldStart => "COLD_START"
  | .degradedExpired => "DEGRADED_EXPIRED" | .degradedExpiring => "DEGRADED_EXPIRING" | .dioFault => "DIO_FAULT"
  | .dualActiveYield => "DUAL_ACTIVE_YIELD" | .fallbackEntered => "FALLBACK_ENTERED" | .fallbackLeft => "FALLBACK_LEFT"
  | .feedDip => "FEED_DIP" | .feedLost => "FEED_LOST" | .flashPoolLow => "FLASH_POOL_LOW" | .flashWorn => "FLASH_WORN"
  | .fldFuse => "FLD_FUSE" | .fldLost => "FLD_LOST" | .fuseRepair => "FUSE_REPAIR" | .girthDown => "GIRTH_DOWN"
  | .guOnPartner => "GU_ON_PARTNER" | .hartNoResponse => "HART_NO_RESPONSE" | .histBacklog => "HIST_BACKLOG"
  | .histRebuilt => "HIST_REBUILT" | .histSetFailed => "HIST_SET_FAILED" | .histStopped => "HIST_STOPPED"
  | .histUnmirrored => "HIST_UNMIRRORED" | .holdupLow => "HOLDUP_LOW" | .hrnFallbackSlot => "HRN_FALLBACK_SLOT"
  | .hrnPartnerSlot => "HRN_PARTNER_SLOT" | .hrnPointerLost => "HRN_POINTER_LOST" | .hrnSwitched => "HRN_SWITCHED"
  | .identClash => "IDENT_CLASH" | .keeperChanged => "KEEPER_CHANGED" | .keeperCoverOpen => "KEEPER_COVER_OPEN"
  | .keeperRequired => "KEEPER_REQUIRED" | .linkFailed => "LINK_FAILED" | .loopFault => "LOOP_FAULT"
  | .loopProgram => "LOOP_PROGRAM" | .noImage => "NO_IMAGE" | .ownerEnrolled => "OWNER_ENROLLED"
  | .paceMargin => "PACE_MARGIN" | .paceSlow => "PACE_SLOW" | .partnerLost => "PARTNER_LOST"
  | .partnerLostIneligible => "PARTNER_LOST_INELIGIBLE" | .partnerStopped => "PARTNER_STOPPED"
  | .pendingState => "PENDING_STATE" | .positionChanged => "POSITION_CHANGED" | .positionCode => "POSITION_CODE"
  | .powerFail => "POWER_FAIL" | .protectAbsent => "PROTECT_ABSENT" | .protectInvalid => "PROTECT_INVALID"
  | .protectMismatch => "PROTECT_MISMATCH" | .railHigh => "RAIL_HIGH" | .railLow => "RAIL_LOW" | .railOver => "RAIL_OVER"
  | .repairExhausted => "REPAIR_EXHAUSTED" | .repairMapLost => "REPAIR_MAP_LOST" | .replicaOdd => "REPLICA_ODD"
  | .replicaRetired => "REPLICA_RETIRED" | .retainInvalid => "RETAIN_INVALID" | .ringBreak => "RING_BREAK"
  | .ringHbLost => "RING_HB_LOST" | .ringOverload => "RING_OVERLOAD" | .ringRestored => "RING_RESTORED"
  | .rotorLost => "ROTOR_LOST" | .rotorReacquired => "ROTOR_REACQUIRED" | .routeLost => "ROUTE_LOST"
  | .safetyAbsent => "SAFETY_ABSENT" | .safetyMismatch => "SAFETY_MISMATCH" | .safetySetInvalid => "SAFETY_SET_INVALID"
  | .safetyWritten => "SAFETY_WRITTEN" | .safeChannelBack => "SAFE_CHANNEL_BACK" | .safeDegraded => "SAFE_DEGRADED"
  | .safeFault => "SAFE_FAULT" | .safeSetChanged => "SAFE_SET_CHANGED" | .soLockout => "SO_LOCKOUT"
  | .stackFault => "STACK_FAULT" | .stateCopyFailed => "STATE_COPY_FAILED" | .stationDropout => "STATION_DROPOUT"
  | .stationDropoutHeld => "STATION_DROPOUT_HELD" | .stationReturn => "STATION_RETURN"
  | .successorExpired => "SUCCESSOR_EXPIRED" | .taskStarved => "TASK_STARVED" | .taskWatchdog => "TASK_WATCHDOG"
  | .tbPartnerSilent => "TB_PARTNER_SILENT" | .tbSelfFail => "TB_SELF_FAIL" | .thermalHigh => "THERMAL_HIGH"
  | .thermalStop => "THERMAL_STOP" | .tileStop => "TILE_STOP" | .timeDiverged => "TIME_DIVERGED"
  | .timeHoldover => "TIME_HOLDOVER" | .timeRefBack => "TIME_REF_BACK" | .timeRestart => "TIME_RESTART"
  | .timeSkew => "TIME_SKEW" | .timeStepped => "TIME_STEPPED" | .trip => "TRIP" | .tripReset => "TRIP_RESET"
  | .tsqOverflow => "TSQ_OVERFLOW" | .twinDiverged => "TWIN_DIVERGED"

/-- Every event that the manual names, in four parts. -/
def Ev.part1 : List Ev :=
  [.aoFault, .approval, .authFail, .bothFeedsLost, .bridleFault, .calInvalid, .calWritten, .canBusOff, .canErrorActive,
   .canErrorPassive, .canErrorWarning, .clusterPower, .coldStart, .degradedExpired, .degradedExpiring, .dioFault,
   .dualActiveYield, .fallbackEntered, .fallbackLeft, .feedDip, .feedLost, .flashPoolLow, .flashWorn, .fldFuse, .fldLost,
   .fuseRepair, .girthDown]
def Ev.part2 : List Ev :=
  [.guOnPartner, .hartNoResponse, .histBacklog, .histRebuilt, .histSetFailed, .histStopped, .histUnmirrored, .holdupLow,
   .hrnFallbackSlot, .hrnPartnerSlot, .hrnPointerLost, .hrnSwitched, .identClash, .keeperChanged, .keeperCoverOpen,
   .keeperRequired, .linkFailed, .loopFault, .loopProgram, .noImage, .ownerEnrolled, .paceMargin, .paceSlow, .partnerLost,
   .partnerLostIneligible, .partnerStopped, .pendingState]
def Ev.part3 : List Ev :=
  [.positionChanged, .positionCode, .powerFail, .protectAbsent, .protectInvalid, .protectMismatch, .railHigh, .railLow,
   .railOver, .repairExhausted, .repairMapLost, .replicaOdd, .replicaRetired, .retainInvalid, .ringBreak, .ringHbLost,
   .ringOverload, .ringRestored, .rotorLost, .rotorReacquired, .routeLost, .safetyAbsent, .safetyMismatch, .safetySetInvalid,
   .safetyWritten, .safeChannelBack, .safeDegraded]
def Ev.part4 : List Ev :=
  [.safeFault, .safeSetChanged, .soLockout, .stackFault, .stateCopyFailed, .stationDropout, .stationDropoutHeld,
   .stationReturn, .successorExpired, .taskStarved, .taskWatchdog, .tbPartnerSilent, .tbSelfFail, .thermalHigh, .thermalStop,
   .tileStop, .timeDiverged, .timeHoldover, .timeRefBack, .timeRestart, .timeSkew, .timeStepped, .trip, .tripReset,
   .tsqOverflow, .twinDiverged]
def Ev.all : List Ev := Ev.part1 ++ Ev.part2 ++ Ev.part3 ++ Ev.part4

/-- A text in a field of bytes, padded with 0. -/
def textField (n : Nat) (s : String) : List Byte :=
  (s.toList.map (fun (c : Char) => BitVec.ofNat 8 c.toNat) ++ List.replicate n 0).take n

/-- An entry of the catalogue, 256 bytes: CODE, the severity, the name, and the meanings of P0, P1 and P2. -/
def Ev.entry (e : Ev) : List Byte :=
  leBytes 2 (Config.eventCode e).toNat ++ [BitVec.ofNat 8 e.severity.val, 0] ++ textField 60 e.name
    ++ (List.range 3).flatMap (fun k => (Config.eventMeaning e k ++ List.replicate 64 0).take 64)

/-- Puts an event in its place by ascending CODE. -/
def codeInsert (e : Ev) : List Ev → List Ev
  | [] => [e]
  | f :: es => if (Config.eventCode f).toNat < (Config.eventCode e).toNat then f :: codeInsert e es else e :: f :: es

/-- The body of EVENT_CATALOGUE: COUNT, 2 zero bytes and the entries. -/
def eventCatalogue : List Byte :=
  let es := Ev.all.foldr codeInsert []
  leBytes 2 es.length ++ [0, 0] ++ es.flatMap Ev.entry

/-- EVENT_CATALOGUE (R422): the catalogue of the firmware major version. -/
def execEventCatalogue (req : Req) (s : State) : Host.Outcome State Fault Refusal :=
  s.act fun d => d.request rqEventCatalogue req fun d => d.done eventCatalogue

end Sys2Proof.Machine
end

