-- ==== Sys2Proof/Machine/FabOps.lean ====
section
/-! DEFINITION. The self-timed fabric: flits and retransmissions, links and ports that fail, pace monitors and rail
sensors, as operations on the module (R77 to R86). -/

namespace Sys2Proof.Machine

/-- The module stops when a route has been lost. -/
def Dev.routeStop (d : Dev) : Dev :=
  if (List.range 9).any (fun n => d.on (R.FAB_STATUS_ROUTE_LOST n)) && d.role ≠ .stopped then d.goStopped else d

/-- A link goes to its detour: failed with an event, or degraded. -/
def Dev.linkLost (d : Dev) (t dir : Nat) (degraded : Bool) : Dev :=
  let d := d.loseLink t dir degraded
  let d := if degraded then d else d.event .linkFailed (source 2 (clusterOf t)) [w32 t, w32 dir]
  d.checkRoutes.routeStop

/-- A tile whose injection or ejection lane has failed for good stops (R80, R152). -/
def Dev.portStop (d : Dev) (t : Nat) : Dev := (d.wr (R.TILE_PORTS_INJ_EJ t) 2).tileStop t true

/-- The receiving ports of a link, of the injection and ejection pair (2), and of the I/O port (3). -/
def linkPorts (t dir : Nat) : List (Nat × Nat) :=
  match dir with
  | 0 => [(t, 1), (t + 1, 3)]
  | 1 => [(t, 0), (t + 12, 2)]
  | 2 => [(t, 4), (t, 5)]
  | _ => [(t, 6), (t, 7)]

/-- LINK_FAILED: one flit has been rejected four times in a row on a link, on the injection and ejection pair, or on the
I/O port of a primary tile. -/
def Dev.linkFailed (d : Dev) (t : Nat) (dir : Nat) : Dev :=
  if !d.lit || !(linkPorts t dir).any (fun p => d.rejectedOut p.1 p.2) then d
  else if dir = 2 then d.portStop t
  else if dir = 3 then d.loseIoPort t
  else if linkExists t dir && !testBit (d.rd (R.FAB_LINK_FAIL (clusterOf t))) (linkBit t dir) then d.linkLost t dir false
  else d

/-- LINK_DEGRADED: more than 64 retransmissions within 1 ms on a link or on an I/O port. The injection and ejection pair has
no degraded state (R80, R88). -/
def Dev.linkDegraded (d : Dev) (t dir : Nat) : Dev :=
  let k := if dir = 3 then 512 + clusterOf t else t * 2 + dir
  let n := (((oget d.fab.again k).getD []).filter (fun c => d.since c ≤ 1000000)).length
  if !d.lit || n ≤ 64 || dir = 2 then d
  else if dir = 3 then d.loseIoPort t
  else if linkExists t dir && !d.linkOut t dir then d.linkLost t dir true else d

/-- PORT_COMPLETION_TIMEOUT: a router port's 1-of-4 completion is missing for 100 ns. Port 4 is the injection and ejection
pair, and port 5 the port to the cluster's I/O port (R77, R79). -/
def Dev.portTimeout (d : Dev) (t port : Nat) : Dev :=
  if !(d.lit && d.on (R.TILE_STATUS_POWERED t)) then d
  else if port = 4 then d.portStop t
  else if port = 5 then d.loseIoPort t
  else match portLink t port with
    | some (o, dir) =>
      if testBit (d.rd (R.FAB_LINK_FAIL (clusterOf o))) (linkBit o dir) then d else d.linkLost o dir false
    | none => d

/-! ### Pace monitors (R84, R85) -/

/-- The windows in a row in which a monitor was above 1,600 ps; monitor 16 is the cluster-fabric island. -/
def Dev.slowRun (d : Dev) (n m : Nat) : Nat := sget (fun _ => 0) d.fab.slow (n * 32 + m)

/-- One monitor's window. -/
def Dev.paceOne (d : Dev) (n m period : Nat) : Dev :=
  let run := if 1600 < period then min 255 (d.slowRun n m + 1) else 0
  let d := d.onFab (fun f => { f with slow := sput (fun _ => 0) f.slow (n * 32 + m) run })
  match (clusterTiles n)[m]? with
  | some t => (d.wrSat (R.TILE_PACE_PERIOD t) period).maxTo (R.TILE_PACE_PERIOD_MAX t) period
  | none => d

/-- The slowest monitor of a window as `FAB.PACE.SLOWEST` names it, with its period: the first of equals. -/
def slowestOf (n : Nat) (periods : List Nat) : Nat × Nat :=
  ((List.range periods.length).zip periods).foldl (fun b x =>
    if b.2 < x.2 then (((clusterTiles n)[x.1]?).getD 0xFF, x.2) else b) (0, 0)

/-- The warning is recorded at most once a minute. -/
def Dev.marginWarning (d : Dev) (n : Nat) : Dev :=
  match oget d.fab.marginAt n with
  | some c => if d.since c < 60 * 1000000000 then d else
      (d.event .paceMargin (source 2 n) [w32 n]).onFab (fun f => { f with marginAt := oput f.marginAt n d.now })
  | none => (d.event .paceMargin (source 2 n) [w32 n]).onFab (fun f => { f with marginAt := oput f.marginAt n d.now })

/-- PACE_WINDOW: a cluster's 17 monitors report. -/
def Dev.paceWindow (d : Dev) (n : Nat) (periods : List Nat) : Dev :=
  if !(d.lit && d.on (R.FAB_STATUS_POWERED n)) then d
  else
    let d := ((List.range periods.length).zip periods).foldl (fun d x => d.paceOne n x.1 x.2) d
    let d := if (List.range 17).any (fun m => 3 ≤ d.slowRun n m) then d
      else d.onFab (fun f => { f with slowTold := f.slowTold.filter (· ≠ n) })
    let s := slowestOf n periods
    let d := (d.wrSat (R.FAB_PACE_PERIOD n) s.2).wr (R.FAB_PACE_SLOWEST n) s.1
    let d := if d.rd (R.FAB_PACE_MAX_PERIOD_MAX n) < s.2 then
        (d.wrSat (R.FAB_PACE_MAX_PERIOD_MAX n) s.2).wr (R.FAB_PACE_MAX_SLOWEST_MAX n) s.1
      else d
    let margin := periods.any (fun p => d.rd (R.FAB_THRESH_MARGIN_PS n) < p)
    let d := d.flag (R.FAB_STATUS_PACE_MARGIN n) margin
    if margin then d.marginWarning n else d

/-- The module stops for a condition of R86, which lasts until it restarts. -/
def Dev.clusterStop (d : Dev) : Dev := (d.setCause 6 true) |> fun d => if d.role = .stopped then d else d.goStopped

/-- PACE_SLOW: a monitor was above 1,600 ps in 3 consecutive windows. Its flags are set; the event is one for the
cluster's condition, which stands until no monitor of it is slow any more (R85). -/
def Dev.paceSlow (d : Dev) (n m : Nat) : Dev :=
  if d.lit && 3 ≤ d.slowRun n m then
    let d := d.raise (R.FAB_STATUS_PACE_SLOW n)
    let t := (clusterTiles n)[m]?
    let d := match t with
      | some t => d.raise (R.TILE_FAULT_PACE_SLOW t)
      | none => d
    if d.fab.slowTold.contains n then d
    else ((d.event .paceSlow (source 2 n) [w32 (t.getD 0xFF)]).onFab (fun f => { f with slowTold := n :: f.slowTold })).clusterStop
  else d

/-! ### Rail and temperature (R84) -/

/-- A cluster is powered off. -/
def Dev.clusterOff (d : Dev) (n : Nat) : Dev :=
  let d := d.clear [R.FAB_STATUS_POWERED n, R.FAB_STATUS_RAIL_OK n, R.FAB_STATUS_STARTED n]
  (clusterTiles n).foldl (fun d t => d.drop (R.TILE_STATUS_POWERED t)) d

/-- The measured values in the registers, with the lowest rail and the highest temperature. -/
def Dev.showRail (d : Dev) (n mv : Nat) (tj : Int) : Dev :=
  let d := (d.wrSat (R.FAB_RAIL_RAIL_MV n) mv).wr (R.FAB_RAIL_RAIL_MIN_MV n) (min mv (d.rd (R.FAB_RAIL_RAIL_MIN_MV n)))
  let d := (d.wrInt (R.FAB_TEMP_TJ n) tj).wrInt (R.FAB_TEMP_TJ_MAX n) (max tj (d.rdInt (R.FAB_TEMP_TJ_MAX n)))
  d.flag (R.FAB_STATUS_RAIL_OK n) (776 ≤ mv && mv ≤ 824)

/-- Changes the power record. -/
def Dev.onPower (d : Dev) (f : PowerSt → PowerSt) : Dev := { d with power := f d.power }

/-- THERMAL_SAMPLE: a sensor in tenths of a degree; clusters 0 to 8, the I/O die 9, the bridle 10. -/
def Dev.thermalSample (d : Dev) (k : Nat) (tenths : Int) : Dev :=
  let d := d.onPower (fun p => { p with
    temps := oput p.temps k tenths
    stopTold := if tenths ≤ 1050 then p.stopTold.filter (· ≠ k) else p.stopTold
    hot := if tenths ≤ 1050 then oerase p.hot k else (match oget p.hot k with | some _ => p.hot | none => oput p.hot k d.now) })
  if !d.lit then d
  else
    let high := d.power.temps.any (fun t => 1000 ≤ t.2)
    let rise := high && !d.on R.POWER_THERMAL_HIGH
    let d := d.flag R.POWER_THERMAL_HIGH high
    if rise then d.eventM .thermalHigh else d

/-- RAIL_SAMPLE: each condition that begins with this measurement is acted on, one event for each, in the order of
R84. The junction temperature is the cluster's sensor of R63. DEDUCED (log 31). -/
def Dev.railSample (d : Dev) (n mv : Nat) (tj : Int) : Dev :=
  if !(d.lit && d.on (R.FAB_STATUS_POWERED n)) then d
  else
    let was := d.rd (R.FAB_RAIL_RAIL_MV n)
    let low := mv < 776 && !(0 < was && was < 776)
    let high := 824 < mv && was ≤ 824
    let tooHigh := 880 < mv
    let d := (d.showRail n mv tj).thermalSample n tj
    let d := if low then (d.raise (R.FAB_STATUS_RAIL_LOW n)).event .railLow (source 2 n) [w32 n, w32 mv] else d
    let d := if 824 < mv then d.raise (R.FAB_STATUS_RAIL_HIGH n) else d
    let d := if high then d.event .railHigh (source 2 n) [w32 n, w32 mv] else d
    let d := if tooHigh then ((d.clusterOff n).raise (R.FAB_STATUS_RAIL_OVER n)).event .railOver (source 2 n) [w32 n, w32 mv] else d
    if low || tooHigh then d.clusterStop else d

end Sys2Proof.Machine
end

