-- ==== Sys2Proof/Machine/Fabric.lean ====
section
/-! DEFINITION. The meanings of the fabric's events and commands (R77 to R87). -/

namespace Sys2Proof.Machine

/-- FLIT_RECEIVE (R74 to R78): a flit arrives at a port of a tile, with its number and the verdict of its check; its
content is the operand's where a tile's interface or the I/O die hands it over (ports 4 and 6). -/
def execFlitReceive (tile : Fin 144) (port : Fin 8) (flit : NumberedFlit) (ok : Bool) (s : State) :
    Host.Outcome State Fault Refusal :=
  s.act fun d => d.flitReceive tile.val port.val flit.seq.toNat ok flit.flit

/-- LINK_FAILED (R77, R79 to R83): the fourth rejection of one flit, on a tile's east (0) or north (1) link, on its
injection and ejection pair (2), or on its port to the I/O port (3). -/
def execLinkFailed (tile : Fin 144) (dir : Fin 4) (s : State) : Host.Outcome State Fault Refusal :=
  s.act fun d => d.linkFailed tile.val dir.val

/-- LINK_DEGRADED (R77, R79, R81): more than 64 retransmissions within 1 ms, with the directions of LINK_FAILED. -/
def execLinkDegraded (tile : Fin 144) (dir : Fin 4) (s : State) : Host.Outcome State Fault Refusal :=
  s.act fun d => d.linkDegraded tile.val dir.val

/-- PORT_COMPLETION_TIMEOUT (R77, R79, R80): a port's completion is missing for 100 ns. -/
def execPortCompletionTimeout (tile : Fin 144) (port : Fin 6) (s : State) : Host.Outcome State Fault Refusal :=
  s.act fun d => d.portTimeout tile.val port.val

/-- PACE_WINDOW (R84): the 17 pace monitors of a cluster report their periods in ps, the tiles by local index and then
the cluster-fabric island. -/
def execPaceWindow (cluster : Fin 9) (periods : List Nat) (s : State) : Host.Outcome State Fault Refusal :=
  s.actIf (periods.length = 17) fun d => d.paceWindow cluster.val periods

/-- PACE_SLOW (R84, R86): a monitor above 1,600 ps in 3 consecutive windows. -/
def execPaceSlow (cluster : Fin 9) (monitor : Fin 17) (s : State) : Host.Outcome State Fault Refusal :=
  s.act fun d => d.paceSlow cluster.val monitor.val

/-- RAIL_SAMPLE (R84 to R86): a cluster's rail in mV and its junction temperature in tenths of a degree. -/
def execRailSample (cluster : Fin 9) (mv : BitVec 16) (tj : BitVec 16) (s : State) : Host.Outcome State Fault Refusal :=
  s.act fun d => d.railSample cluster.val mv.toNat tj.toInt

/-- FAB_CLEAR_MAX (R87). -/
def execFabClearMax (cluster : Fin 9) (s : State) : Host.Outcome State Fault Refusal :=
  s.act fun d => d.fabClearMax cluster.val

/-- FAB_CLEAR_COUNTS (R87). -/
def execFabClearCounts (cluster : Fin 9) (s : State) : Host.Outcome State Fault Refusal :=
  s.act fun d => d.fabClearCounts cluster.val

/-- LINK_TEST (R87): the cluster's links are tested at once, in STOPPED; the word tells which fail. -/
def execLinkTest (cluster : Fin 9) (failing : Word) (s : State) : Host.Outcome State Fault Refusal :=
  s.act fun d => d.linkTest cluster.val failing

end Sys2Proof.Machine
end

