-- ==== Sys2Proof/Machine/Life.lean ====
section
/-! DEFINITION. The meanings of the self-test, repair, flash and tag commands, and the placement of tiles at start
(R467 to R482). -/

namespace Sys2Proof.Machine

/-! ### Placement (R472) -/

/-- The role that a tile shows: 0 SPARE, 1 TRIAD, 2 LOOP, and the logical tile that it carries. -/
def Dev.putRole (d : Dev) (t role logical : Nat) (substitute : Bool) : Dev :=
  ((d.wr (R.TILE_STATUS_ROLE t) role).wr (R.TILE_POS_LOGICAL t) logical).flag (R.TILE_STATUS_SUBSTITUTE t) substitute

/-- A cluster's tiles are placed: each logical tile on its own physical tile, or on the preferred spare when that
tile has failed. A cluster that repair does not cover is EXHAUSTED. -/
def Dev.placeCluster (d : Dev) (n : Nat) : Dev :=
  let d := (clusterTiles n).foldl (fun d t => d.putRole t (if d.life.failed t then 0 else d.roleOfTile t) t false) d
  let d := ((d.wr (R.FAB_SPARE_SPARE_TILE n) ((d.spareOf n).getD 0)).wr (R.FAB_SPARE_CARRIES n) 0xFF).clear
    [R.FAB_SPARE_FUSED n, R.FAB_STATUS_SPARE_IN_USE n]
  let need := (d.life.failedIn n).filter (fun t => d.roleOfTile t ≠ 0)
  let d := match need, d.spareOf n with
    | t :: _, some s =>
      if d.life.failed s then d
      else
        let d := (d.putRole s (d.roleOfTile t) t true).putRole t 0 t false
        let d := (d.wr (R.FAB_SPARE_CARRIES n) t).raise (R.FAB_STATUS_SPARE_IN_USE n)
        d.flag (R.FAB_SPARE_FUSED n) (d.life.fused.contains (.tile t))
    | _, _ => d
  if d.covered n then d.drop (R.LIFE_REP_TILE_EXHAUSTED n)
  else (d.raise (R.LIFE_REP_TILE_EXHAUSTED n)).event .repairExhausted (source 2 n) [w32 n]

/-- Every cluster is placed; with a cluster exhausted the module goes to STOPPED. -/
def Dev.placeTiles (d : Dev) : Dev :=
  let d := d.each 9 (fun n d => d.placeCluster n)
  if (List.range 9).any (fun n => d.on (R.LIFE_REP_TILE_EXHAUSTED n)) then d.goStopped else d

/-! ### Self-test (R467 to R471) -/

/-- SHUTDOWN_TEST (R467). -/
def execShutdownTest (s : State) : Host.Outcome State Fault Refusal := s.act Dev.shutdownTest

/-- The host pages that a test's end rewrites (R479) are written by TAG_PAGE_WRITE. SHUTDOWN_TEST_DONE (R470):
the findings enter the map, the seal is written, and the clusters go off. -/
def execShutdownTestDone (findings : TestFindings) (s : State) : Host.Outcome State Fault Refusal :=
  s.actIf findings.wellFormed fun d =>
    if d.life.testing then
      let d := (d.endTest 1 findings).clustersOff
      ((d.onLife (fun l => { l with testing := false })).drop R.LIFE_STATUS_TESTING).raise R.LIFE_STATUS_SHUTDOWN_READY
    else d

/-! ### Repair (R473, R474) -/

/-- FUSE_COMMIT (R474). -/
def execFuseCommit (s : State) : Host.Outcome State Fault Refusal := s.act Dev.fuseCommit

/-- FUSE_REPAIR (R474): the next entry is burned, verified and leaves the soft map. -/
def execFuseRepair (s : State) : Host.Outcome State Fault Refusal :=
  s.act fun d => if d.alive then d.fuseBurn else d

/-- CLEAR_SOFT (R473). -/
def execClearSoft (s : State) : Host.Outcome State Fault Refusal := s.act Dev.clearSoft

/-- LIFE_CLEAR_COUNTS (R482). -/
def execLifeClearCounts (s : State) : Host.Outcome State Fault Refusal := s.act Dev.lifeClearCounts

/-! ### Flash (R475, R476) -/

/-- FLASH_BLOCK_FAIL (R475): the block is retired and replaced from the pool; with none left the module is WORN. -/
def execFlashBlockFail (block : Fin 8192) (erase : Bool) (s : State) : Host.Outcome State Fault Refusal :=
  s.act fun d =>
    if !d.alive then d
    else
      (d.incSat (if erase then R.LIFE_FLASH_ERR_ERASE_FAIL else R.LIFE_FLASH_ERR_PROG_FAIL)).flashWrite fun d =>
        let d := d.onLife (fun l => { l with pool := l.pool - 1, replaced := l.replaced ++ [block.val] })
        let was := d.on R.LIFE_FLASH_POOL_LOW
        let d := d.showFlash
        if !was && d.on R.LIFE_FLASH_POOL_LOW then d.eventM .flashPoolLow else d

/-- FLASH_ERASE_COMPLETE (R476): the completion record of a block's erase is appended. -/
def execFlashEraseComplete (block : Fin 8192) (s : State) : Host.Outcome State Fault Refusal :=
  s.act fun d =>
    if d.alive then d.closeIntent block.val else d

/-! ### The tag (R479, R480) -/

/-- TAG_PAGE_WRITE (R479): the host writes a logical page, or queues it while the field holds the tag. Pages 5 to 23
are reserved and hold 0 (R478). -/
def execTagPageWrite (page : Fin 24) (content : List Byte) (s : State) : Host.Outcome State Fault Refusal :=
  s.actIf (content.length = 248) fun d =>
    if d.alive then d.hostWrite page.val (if 5 ≤ page.val then List.replicate 248 0 else content) else d

/-- TAG_FIELD_SESSION (R480): a reader's session starts, and K1.8 is read. The field powers the tag. -/
def execTagFieldSession (s : State) : Host.Outcome State Fault Refusal :=
  s.act fun d => (d.raise R.LIFE_TAG_FIELD).onLife (fun l => { l with session := some (testBit (d.rd R.KEEPER_SW) 7) })

/-- TAG_FIELD_WRITE (R480): a write of the field to a page of the service notes, with K1.8 on at the start of its
session; it locks the page. -/
def execTagFieldWrite (page : Fin 64) (content : List Byte) (s : State) : Host.Outcome State Fault Refusal :=
  s.actIf (content.length = 256) fun d =>
    match d.life.session with
    | some true =>
      if 50 ≤ page.val ∧ page.val ≤ 57 then
        let d := d.onLife (fun l => { l with
          tag := Memory.writeBytes l.tag (page.val * 256) content
          lock := match l.lock with | some k => some k | none => some ⟨page.val, d.now⟩ })
        let d := (d.raise R.LIFE_TAG_LOCKED).wr R.LIFE_TAG_LOCK_PAGE (match d.life.lock with | some k => k.page | none => page.val)
        (d.raise R.LIFE_TAG_NOTES_WRITTEN).incSat R.LIFE_TAG_FIELD_WRITES
      else d
    | _ => d

/-- TAG_LOCK_EXPIRY (R480): the tag releases the lock at 200 ms, and the queue drains. -/
def execTagLockExpiry (s : State) : Host.Outcome State Fault Refusal :=
  s.act fun d =>
    match d.life.lock with
    | some k => if 200000000 ≤ d.since k.since then d.unlockTag else d
    | none => d

/-- TAG_FIELD_RELEASE (R480): the reader releases its lock or its field leaves, and the queue drains. -/
def execTagFieldRelease (s : State) : Host.Outcome State Fault Refusal :=
  s.act fun d => (d.unlockTag.drop R.LIFE_TAG_FIELD).onLife (fun l => { l with session := none })

end Sys2Proof.Machine
end

