-- ==== Sys2Proof/Machine/BootOps.lean ====
section
/-! DEFINITION. Power, start and restart, as operations on the module: the electronics are powered, the identity is
latched, the image is selected, clusters are powered and loaded, and a role is entered; the supplies and the power-fail
sequence; the keeper (R25 to R31, R41, R47 to R63, R102, R103, R207 to R212, R264, R287, R339). -/

namespace Sys2Proof.Machine

/-- Changes the start sequence, or the connectors. -/
def Dev.onStart (d : Dev) (f : StartSt → StartSt) : Dev := d.onPower (fun p => { p with start := f p.start })
def Dev.onConn (d : Dev) (f : ConnSt → ConnSt) : Dev := { d with conn := f d.conn }

/-- The start sequence runs. -/
def Dev.isStarting (d : Dev) : Bool := d.alive && d.role = .starting

/-- The debounced switches and the cover in `MOD.KEEPER` (R43). -/
def Dev.showKeeper (d : Dev) : Dev :=
  let v := d.conn.keeper.value
  ((d.wr R.KEEPER_SW v).flag R.KEEPER_COVER_OPEN (testBit v 8)).wr R.KEEPER_SAFE_SET (v / 2)

/-! ### The electronics (R25, R58, R447) -/

/-- A firmware copy is acceptable to the boot ROM. -/
def Dev.fwAcceptable (d : Dev) (k : Nat) : Bool :=
  match d.trust.fw[k]? with
  | some c => c.signed && d.trust.fwMin.toNat ≤ c.secver.toNat
  | none => false

/-- The copy that the boot ROM starts. -/
def Dev.bootCopy (d : Dev) : Option Nat :=
  if d.fwAcceptable d.trust.fwFirst then some d.trust.fwFirst
  else if d.fwAcceptable (1 - d.trust.fwFirst) then some (1 - d.trust.fwFirst)
  else none

/-- The version of the running firmware (R118). -/
def Dev.showVersion (d : Dev) : Dev :=
  ((d.wr R.FW_VERSION_MAJOR d.fwCopy.major.toNat).wr R.FW_VERSION_MINOR d.fwCopy.minor.toNat).wr R.FW_VERSION_BUILD
    d.fwCopy.build.toNat

/-- Step 1 of R58: the boot ROM starts the firmware, which restores the recorder and the time base, erases again what an
open intent names, shows what the outside sets, and begins the start sequence. A field supply that is lost is recorded
(R51). With no acceptable copy it does not run. -/
def Dev.boot (d : Dev) : Dev :=
  match d.bootCopy with
  | none => { d with trust := { d.trust with noFirmware := true } }
  | some k =>
    let d := { d with trust := { d.trust with fwRunning := k, fwFirst := k, noFirmware := false } }
    let d := d.onPower (fun p => { p with start := { firmware := true } })
    let d := (d.reerase.restoreRing.restartTime true).showTrust.showVersion
    let d := d.showRepair.showSeal.showFlash.showKeeper.showPresence
    (d.when d.power.fldLost (fun d => (d.raise R.POWER_FLD_LOW).eventM .fldLost)).setRole .starting

/-- The electronics can be powered: seated for 100 ms, and after a hold-up loss with a good feed (R25, R57). -/
def Dev.canPower (d : Dev) : Bool :=
  d.on R.SADDLE_SEATED && d.power.seatingWait && !d.power.powered
    && (d.rd R.RESET_CAUSE_CAUSE != 2 || d.on R.POWER_PWR_A_GOOD || d.on R.POWER_PWR_B_GOOD)

/-- ELECTRONICS_POWER_ON: the counter starts, and the field fuse is closed (R52, R362). -/
def Dev.powerOn (d : Dev) : Dev :=
  if !d.canPower then d
  else
    let d := d.onPower (fun p => { p with powered := true, inReset := false, seatingWait := false, pf := .idle })
    (d.onTime (fun t => { t with counter := 0 })).fldReclose.boot

/-- RESET_RELEASE: reset ends with the electronics still powered; at or above 115 °C it stays asserted. -/
def Dev.resetRelease (d : Dev) : Dev :=
  if d.power.powered && d.power.inReset && d.power.temps.all (fun t => t.2 < 1150) then
    (d.onPower (fun p => { p with inReset := false })).boot
  else d

/-- The SEATED loop opens (R25). -/
def Dev.unseat (d : Dev) : Dev :=
  (((d.moduleReset .seated).drop R.SADDLE_SEATED)).onPower (fun p => { p with seatingWait := false })

/-- The SEATED loop closes. -/
def Dev.seat (d : Dev) : Dev := (d.raise R.SADDLE_SEATED).onPower (fun p => { p with seatingWait := true })

/-! ### The position code (R29 to R31) -/

/-- POSP makes the number of 1s odd; and the pair number lies between 1 and 4 (R29). -/
def parityOk (pins : Nat) : Bool := (bitsOf 5 pins).length % 2 = 1
def codeValid (pins : Nat) : Bool := parityOk pins && 1 ≤ pins % 8 && pins % 8 ≤ 4

/-- The agreed code and K1.5 are shown and latched; debouncing goes on from them. -/
def Dev.showCode (d : Dev) (pins : Nat) (k15 : Bool) : Dev :=
  let d := ((d.wr R.SADDLE_PAIR pins).flag R.SADDLE_SIDE (testBit pins 3)).flag R.SADDLE_PARITY_OK (parityOk pins)
  let d := (d.flag R.SADDLE_CODE_VALID (codeValid pins)).flag R.SADDLE_ID_MISMATCH (testBit pins 3 != k15)
  let fix (x : Debounce) : Debounce :=
    { value := putBit x.value 4 k15, last := putBit x.last 4 k15, prev := putBit x.prev 4 k15 }
  ((d.flag R.KEEPER_ID_LATCHED k15).onConn (fun c => { c with
    latched := some (pins, k15), pins := ⟨pins, pins, pins⟩, keeper := fix c.keeper })).showKeeper

/-- The module takes its twin identity. -/
def Dev.takeIdentity (d : Dev) (pins : Nat) : Dev :=
  let d := (d.flag R.TWIN_IDENT_SIDE (testBit pins 3)).wr R.TWIN_IDENT_PAIR pins
  ((d.onConn (fun c => { c with identified := true })).onStart (fun s => { s with position := true })).showPresence

/-- The start stops at the position code, with the case and the last sample; the module takes no twin identity. -/
def Dev.positionStop (d : Dev) (reason pins : Nat) (k15 : Bool) : Dev :=
  ((d.onConn (fun c => { c with identified := false })).showPresence.eventM .positionCode
    [w32 reason, w32 pins, w32 (bit k15)]).goStopped

/-- Case 1 of R30: nothing is latched, and the registers of the code read 0. -/
def Dev.clearCode (d : Dev) : Dev :=
  (d.clear [R.SADDLE_PAIR, R.SADDLE_SIDE, R.SADDLE_PARITY_OK, R.SADDLE_CODE_VALID, R.SADDLE_ID_MISMATCH,
    R.KEEPER_ID_LATCHED]).onConn (fun c => { c with latched := none })

/-- A start reads the position code again, with ten attempts of its own (R30, R31). -/
def Dev.readCodeAgain (d : Dev) : Dev :=
  (d.onConn (fun c => { c with attempts := 0 })).onStart (fun s => { s with position := false })

/-- POSITION_SAMPLE_ATTEMPT: three raw samples; bits 0 to 4 are POS0 to POS3 and POSP, bit 5 is K1.5. -/
def Dev.positionAttempt (d : Dev) (a b c : Nat) : Dev :=
  if !d.isStarting || d.power.start.position then d
  else
    let pins := c % 32
    let k15 := testBit c 5
    if a = b ∧ b = c then
      let d := d.showCode pins k15
      if !codeValid pins then d.positionStop 2 pins k15
      else if testBit pins 3 ≠ k15 then d.positionStop 3 pins k15
      else d.takeIdentity pins
    else
      let d := d.onConn (fun x => { x with attempts := x.attempts + 1 })
      if 10 ≤ d.conn.attempts then d.clearCode.positionStop 1 pins k15 else d

/-- A sample of a group of inputs: each bit follows after three equal samples (R41). DEDUCED (log 22). -/
def Debounce.sample (x : Debounce) (n width : Nat) : Debounce :=
  let settled (k : Nat) : Bool := testBit n k = testBit x.last k && testBit n k = testBit x.prev k
  { value := (List.range width).foldl (fun v k => if settled k then putBit v k (testBit n k) else v) x.value
    last := n, prev := x.last }

/-- A departure from the latched value (R31): P0 is 0 for the pins and 1 for K1.5. -/
def Dev.positionChanged (d : Dev) (k15 : Bool) : Dev :=
  (d.raise (if k15 then R.KEEPER_ID_CHANGED else R.SADDLE_CODE_CHANGED)).eventM .positionChanged [w32 (bit k15)]

/-- POSITION_PIN_SAMPLE. -/
def Dev.pinSample (d : Dev) (pins : Nat) : Dev :=
  if !d.lit then d
  else
    let old := d.conn.pins.value
    let d := d.onConn (fun c => { c with pins := c.pins.sample pins 5 })
    match d.conn.latched with
    | some (code, _) => if old = code ∧ d.conn.pins.value ≠ code then d.positionChanged false else d
    | none => d

/-! ### The keeper (R41, R42, R288) -/

/-- What follows a debounced change of K1.5: it departs from the latched identity. -/
def Dev.twinSwitch (d : Dev) (on_ : Bool) : Dev :=
  match d.conn.latched with
  | some (_, side) => if on_ ≠ side then d.positionChanged true else d
  | none => d

/-- What follows a debounced change of K1.1: cleared, SAFETY_MAINT ends; set, the former ACTIVE of a standby-first change
that waits for it begins its own part (R10, R114). -/
def Dev.maintSwitch (d : Dev) (on_ : Bool) : Dev :=
  if !on_ then d.maintKeeperOff
  else match d.hrn.staged with
    | some g => if g.phase = .waitKeeper && d.role = .standby && d.on R.TWIN_STATUS_MIXED then d.beginOwnPart g else d
    | none => d

/-- A debounced change of a switch, or of the cover (8), is recorded and acted on. -/
def Dev.keeperChange (d : Dev) (k : Nat) (on_ : Bool) : Dev :=
  let d := d.eventM .keeperChanged [w32 (k + 1), w32 (bit on_)]
  if k = 8 then (if on_ then (d.raise R.KEEPER_COVER_OPENED).eventM .keeperCoverOpen else d)
  else if k = 4 then d.twinSwitch on_
  else if k = 0 then d.maintSwitch on_
  else d

/-- KEEPER_SAMPLE: bits 0 to 7 are K1.1 to K1.8 and bit 8 the cover. -/
def Dev.keeperSample (d : Dev) (n : Nat) : Dev :=
  if !d.lit then d
  else
    let old := d.conn.keeper.value
    let d := (d.onConn (fun c => { c with keeper := c.keeper.sample n 9 })).showKeeper
    let new := d.conn.keeper.value
    let changed := (List.range 9).filter (fun k => testBit old k != testBit new k)
    let d := if changed.any (fun k => 1 ≤ k && k ≤ 3) then
        (d.flag R.SAFE_STATUS_SET_PENDING (new / 2 % 8 ≠ d.safety.set)).eventM .safeSetChanged
      else d
    changed.foldl (fun d k => d.keeperChange k (testBit new k)) d

/-! ### The harness slot (R102, R103, R264, R287) -/

/-- The stored PROTECT copy is compared with the image's section. DEDUCED (log 45). -/
def Dev.compareProtect (d : Dev) : Dev :=
  match d.bridle.protect with
  | none => d.event .protectAbsent (source 0 0)
  | some s =>
    if !s.protectOk then d.event .protectInvalid (source 0 0)
    else
      let same : Bool := match d.newSection d.hrn.slot idProtect with
        | some n => n.crc = s.crc
        | none => false
      if same then d else (d.event .protectMismatch (source 0 0)).goStopped

/-- The stored SAFETY copy is compared with the image's section. -/
def Dev.compareSafety (d : Dev) : Dev :=
  match d.bridle.safety with
  | none => d.event .safetyAbsent (source 0 0)
  | some s =>
    let same : Bool := match d.newSection d.hrn.slot idSafety with
      | some n => n.bytes = s.bytes
      | none => false
    if !same then (d.event .safetyMismatch (source 0 0)).goStopped
    else if !safetySetOk s.bytes d.safety.set then d.event .safetySetInvalid (source 0 0)
    else d

/-- Both comparisons. -/
def Dev.compareBridle (d : Dev) : Dev := d.compareProtect.compareSafety

/-- The fingerprint that the partner shows. -/
def Dev.partnerFp (d : Dev) : BitVec 128 :=
  BitVec.ofNat 128 ((List.range 4).foldl (fun a k => a * 2 ^ 32 + d.rd (R.TWIN_PARTNER_FP k)) 0)

/-- A slot that holds the image of an ACTIVE partner, where the boot slot holds another (R103). -/
def Dev.partnerSlot (d : Dev) (k : Nat) : Option Nat :=
  if d.rd R.TWIN_PARTNER_STATE_ROLE = 1 && d.pathLive true && imgFingerprint (d.hrnSlot k).bytes ≠ d.partnerFp then
    d.newestValid ([0, 1, 2, 3].filter (fun j => imgFingerprint (d.hrnSlot j).bytes = d.partnerFp))
  else none

/-- The marks of a change that a power failure ended are reported (R115). -/
def Dev.reportMarks (d : Dev) : Dev :=
  let d := if d.hrn.pointerLost then d.eventM .hrnPointerLost else d
  let d := if d.hrn.stagedMark then d.stageResult 17 else d
  { d with hrn := { d.hrn with pointerLost := false, stagedMark := false } }

/-- The boot slot by R102: the boot pointer's, else the newest VALID one. -/
def Dev.pickSlot (d : Dev) : Option Nat × Dev :=
  if d.slotValid d.hrn.bootPtr then (some d.hrn.bootPtr, d)
  else match d.newestValid [0, 1, 2, 3] with
    | some k => (some k, (d.raise R.HRN_BOOT_FALLBACK).eventM .hrnFallbackSlot)
    | none => (none, ((d.raise R.HRN_BOOT_NONE).eventM .noImage).goStopped)

/-- The image of the partner is taken instead (R103). -/
def Dev.preferPartner (d : Dev) (k : Nat) : Nat × Dev :=
  match d.partnerSlot k with
  | some j => (j, ({ d with hrn := { d.hrn with bootPtr := j } }.raise R.HRN_BOOT_PARTNER_SLOT).eventM .hrnPartnerSlot)
  | none => (k, d)

/-- HARNESS_BOOT_SELECT: step 4 of R58. -/
def Dev.bootSelect (d : Dev) : Dev :=
  let s := d.power.start
  if !(d.isStarting && s.position && s.bridle && !s.image) then d
  else
    let d := d.reportMarks.each 4 (fun k d => d.checkAtStart k)
    let d := { d with hrn := { d.hrn with epoch := d.hrn.bootEpoch } }
    match d.pickSlot with
    | (none, d) => d.showMarks
    | (some k, d) =>
      let (k, d) := d.preferPartner k
      let d := ((d.runImage k).readSeal).loadCal
      (d.onStart (fun s => { s with image := true })).compareBridle

/-! ### Clusters (R58 to R61) -/

/-- A die sensor reads below −20 °C. -/
def Dev.cold (d : Dev) : Bool := d.power.temps.any (fun t => t.2 < -200)

/-- CLUSTER_POWER_UP: cluster n at its step; a cold start waits. -/
def Dev.clusterUp (d : Dev) (n : Nat) : Dev :=
  if !(d.isStarting && d.power.start.position && d.power.start.image && n = d.power.start.clusters) then d
  else if d.cold then
    let d := if d.power.start.coldRecorded then d else d.eventM .coldStart
    d.onStart (fun s => { s with coldWait := true, coldRecorded := true })
  else
    let d := (clusterTiles n).foldl (fun d t => d.raise (R.TILE_STATUS_POWERED t)) (d.raise (R.FAB_STATUS_POWERED n))
    d.onStart (fun s => { s with clusters := n + 1 })

/-- CLUSTER_POWER: the rail of a cluster that is being powered does not settle. -/
def Dev.clusterFault (d : Dev) (n : Nat) : Dev :=
  if d.isStarting && d.on (R.FAB_STATUS_POWERED n) then ((d.event .clusterPower (source 2 n)).clusterOff n).goStopped else d

/-- COLD_START_WAIT_END. -/
def Dev.coldEnd (d : Dev) : Dev :=
  if d.power.start.coldWait && !d.cold then d.onStart (fun s => { s with coldWait := false }) else d

/-- The links and ports that an earlier test found are in service again, before a test at start (R468), with no flit on
their way. ROUTE_LOST stays until the module reset (R87). -/
def Dev.freshLinks (d : Dev) : Dev :=
  let d := { d with fab := { slow := d.fab.slow, slowTold := d.fab.slowTold, marginAt := d.fab.marginAt } }
  let d := d.each 9 (fun n d => d.clear [R.FAB_LINK_FAIL n, R.FAB_LINK_DEGR n, R.FAB_IOPORT_ON_ALT n,
    R.FAB_STATUS_IOPORT_ALT n])
  d.each 144 (fun t d => d.putWord (R.TILE_PORTS_N t).off (resetWord (R.TILE_PORTS_N t).off))

/-- The self-test at start ends (R470). A cluster with a lost route stops the module (R82). DEDUCED (log 123). -/
def Dev.startTested (d : Dev) (f : TestFindings) : Dev :=
  if !(d.isStarting && d.power.start.clusters = 9) then d
  else
    let d := if f.cause = 0 then d.freshLinks else d
    ((d.endTest 2 f).onStart (fun s => { s with selfTest := true })).routeStop

/-! ### Loading (R58, R209, R210, R231) -/

/-- The newer of two retain slots by save sequence number. -/
def Dev.newerRetain (d : Dev) : Option (Nat × RetainSlot) :=
  d.cycle.slots.foldl (fun b x =>
    match b with
    | some y => if later x.2.save y.2.save then some x else some y
    | none => some x) none

/-- What the CRC of a retain slot covers: the header in the order of R208 and the data.
DESIGN CHOICE (log 147). -/
def RetainSlot.covered (s : RetainSlot) : List Byte :=
  leBytes 4 s.save.toNat ++ leBytes 8 s.cycle.toNat ++ beBytes 32 s.digest ++ leBytes 4 s.length ++ s.data.flatMap (·.2)

/-- The length and the CRC of a slot hold. -/
def RetainSlot.intact (s : RetainSlot) : Bool := s.length = (s.data.flatMap (·.2)).length && s.crc = crc32 s.covered

/-- A slot as a save writes it (R208). -/
def retainSave (save : Word) (digest : Nat) (c : DWord × List (Nat × List Byte)) : RetainSlot :=
  let s : RetainSlot :=
    { save := save, cycle := c.1, digest := digest, length := (c.2.flatMap (·.2)).length, crc := 0, data := c.2, complete := false }
  { s with crc := crc32 s.covered }

/-- The checks of R209 on the newer slot, in their order: 0, or the cause of the first that fails. -/
def Dev.retainCause (d : Dev) : Nat :=
  match d.newerRetain with
  | none => 1
  | some (_, s) =>
    if s.consumed then 1
    else if !s.complete then 2
    else if !s.intact then 3
    else if s.digest ≠ d.image.retainDigest then 4
    else 0

/-- The newer slot is judged for this start, and marked consumed (R208, R211). -/
def Dev.judgeRetain (d : Dev) : Dev :=
  let cause := d.retainCause
  match d.newerRetain with
  | none => d.onCycle (fun c => { c with judged := some (0, cause) })
  | some (k, s) =>
    d.onCycle (fun c => { c with judged := some (k, cause), slots := oput c.slots k { s with consumed := true } })

/-- A replica as it is loaded: code and initial data. -/
def PartImg.fresh (p : PartImg) : Replica :=
  { sram := p.init.foldl (fun m b => Memory.write m b.1 b.2) (putCode [] p.code) }

/-- The bytes of an image as INIT gives them. -/
def initBytes (bs : List (Nat × Byte)) (m : Memory) : Memory := bs.foldl (fun m b => Memory.write m b.1 b.2) m

/-- A partition is loaded into its tile; performance counters run on (R175). -/
def Dev.loadPart (d : Dev) (p : PartImg) : Dev :=
  let x := d.tile (d.tileOf p.tile)
  let rep (r : Replica) : Replica := { p.fresh with perf := r.perf }
  d.putTile (d.tileOf p.tile) { repA := rep x.repA, repB := rep x.repB, repC := rep x.repC, input := initBytes p.inInit [] }

/-- Every tile that carries a role has its three replicas in service; each cluster is started. -/
def Dev.startTiles (d : Dev) : Dev :=
  let d := d.each 9 (fun n d => d.raise (R.FAB_STATUS_STARTED n))
  let d := d.each 144 (fun t d =>
    if d.rd (R.TILE_STATUS_ROLE t) = 0 then d.drop (R.TILE_STATUS_REP_IN t)
    else (d.wr (R.TILE_STATUS_REP_IN t) 7).clear
      [R.TILE_STATUS_DUPLEX t, R.TILE_STATUS_REINTEGRATING t, R.TILE_STATUS_STOPPED t])
  d.showTriads

/-- The loop slots of the image are STOPPED and the others unused. A slot whose program fails the check of R231 is not
started, with an event; the module stops. Such a slot reads UNUSED. DESIGN CHOICE (log 154). -/
def Dev.loadLoops (d : Dev) : Dev :=
  let d := d.each 48 (fun k d => d.setSlotState k (if (d.slotImg k).isSome then lsStopped else lsUnused))
  let bad := d.image.slots.filter (fun i => !i.programOk)
  let d := bad.foldl (fun d i => (d.setSlotState i.num lsUnused).event .loopProgram (source 3 i.num)) d
  if bad.isEmpty then d else d.goStopped

/-- Plant commands accepted before the restart are answered as ABORTED, and stored results are gone (R216). -/
def Dev.forgetCommands (d : Dev) : Dev :=
  let cs := d.cycle.queue ++ d.cycle.inbox
  let d := d.onCycle (fun c => { c with
    queue := [], inbox := [], sources := c.sources.map (fun (s : CmdSource) => { s with results := [] }) })
  (cs.foldl (fun d c => d.finishRequest rqPlantCommand c.source c.id .aborted []) d).showCommands

/-- The cycle engine is fresh for this start. -/
def Dev.freshCycle (d : Dev) : Dev :=
  d.onCycle (fun c => ({ slots := c.slots, judged := c.judged, sources := c.sources, named := c.named } : CycleSt))

/-- The listen window begins (R339). -/
def Dev.listen (d : Dev) : Dev :=
  d.onStart (fun s => { s with listening := true, waitingA := false, heardOwn := false, heardRole := none, heardEpoch := none })

/-! ### Entry into a role (R53, R209 to R211, R339) -/

/-- The copy that a warm restart uses: the module's own, or the partner's with the later cycle number. -/
def Dev.retainCopy (d : Dev) (partner : Option (DWord × List (Nat × List Byte))) : Option (DWord × List (Nat × List Byte)) :=
  let own : Option (DWord × List (Nat × List Byte)) :=
    match d.cycle.judged with
    | some (k, 0) => (oget d.cycle.slots k).map (fun s => (s.cycle, s.data))
    | _ => none
  match own, partner with
  | some a, some b => if a.1.toNat < b.1.toNat then some b else some a
  | some a, none => some a
  | none, b => b

/-- A partition's retain range is restored. -/
def Dev.restoreRange (d : Dev) (p : PartImg) (data : List (Nat × List Byte)) : Dev :=
  match p.retain, oget data p.num with
  | some (a, n), some bs =>
    d.onTile (d.tileOf p.tile) (fun x => x.eachRep (fun r => { r with sram := Memory.writeBytes r.sram a (bs.take n) }))
  | _, _ => d

/-- Every partition's output image before the first cycle. -/
def Dev.presetOutputs (d : Dev) (warm : Bool) : Dev :=
  d.image.parts.foldl (fun d p =>
    let m := initBytes p.outInit []
    d.onTile (d.tileOf p.tile) (fun x => { x with output := if warm then initBytes p.outSubst m else m })) d

/-- A warm restart (R210). -/
def Dev.warmStart (d : Dev) (c : DWord × List (Nat × List Byte)) : Dev :=
  let d := (d.image.parts.foldl (fun d p => d.restoreRange p c.2) d).presetOutputs true
  (d.wr R.CYCLE_STATUS_RESTART_KIND 1).onCycle (fun x => { x with num := c.1 + 1, warmDue := true })

/-- A cold restart. -/
def Dev.coldStart (d : Dev) : Dev :=
  ((d.presetOutputs false).wr R.CYCLE_STATUS_RESTART_KIND 2).onCycle (fun x => { x with num := 0, coldDue := true })

/-- A warm restart was due and no slot is valid: RETAIN_INVALID with the cause, for every partition (R202, R209). -/
def Dev.retainInvalid (d : Dev) : Dev :=
  let cause := match d.cycle.judged with | some (_, c) => c | none => 1
  ((d.raise R.CYCLE_STATUS_RETAIN_INVALID).eventM .retainInvalid).listNext none 6 0 cause

/-- The restart kind: named by the command, or the image's. -/
def Dev.restartState (d : Dev) (partner : Option (DWord × List (Nat × List Byte))) : Dev :=
  let warm := d.cycle.named.getD d.image.warmRestart
  let d := d.onCycle (fun c => { c with named := none })
  if warm then
    (match d.retainCopy partner with
     | some c => d.warmStart c
     | none => d.retainInvalid.coldStart)
  else d.coldStart

/-- The local outputs go out with their values before the first cycle (R210). -/
def Dev.releaseAll (d : Dev) : Dev :=
  d.image.parts.foldl (fun d p => d.releaseLocal (d.tileOf p.tile) p) d

/-- The module enters a commanding role at the end of its start (R318). -/
def Dev.enterFromStart (d : Dev) (r : Role) (partner : Option (DWord × List (Nat × List Byte))) : Dev :=
  let d := d.restartState partner
  let d := d.onTwin (fun t => { t with epoch := d.startEpoch })
  ((d.onStart (fun s => { s with listening := false, waitingA := false })).enterCommand r).releaseAll

/-- The module joins as STANDBY (R211). -/
def Dev.joinStandby (d : Dev) : Dev :=
  let d := (d.onStart (fun s => { s with listening := false, waitingA := false })).onCycle (fun c => { c with named := none })
  d.enterStandby.wr R.CYCLE_STATUS_RESTART_KIND 3

/-- A start without a listen window ends: PAIR_MODE 0 enters SOLO once the bank is charged (R53, R339). -/
def Dev.enterSolo (d : Dev) : Dev :=
  if d.isStarting && d.power.start.loaded && d.image.header.pairMode = 0 && d.on R.POWER_HOLDUP_READY then
    (if d.on R.TWIN_STATUS_IDENT_CLASH then d.goStopped else d.enterFromStart .solo none)
  else d

/-- Whether the module is reloading in the course of a standby-first change: it rejoins without a listen window. -/
def Dev.reloading (d : Dev) : Bool :=
  match d.hrn.staged with
  | some g => (match g.phase with | .reloading | .back _ => true | _ => false)
  | none => false

/-- CLUSTERS_LOADED: step 7 of R58. -/
def Dev.clustersLoaded (d : Dev) : Dev :=
  let s := d.power.start
  if !(d.isStarting && s.image && s.clusters = 9 && s.selfTest && !s.loaded) then d
  else
    let d := d.placeTiles.forgetCommands.freshCycle.judgeRetain
    let d := ((d.image.parts.foldl Dev.loadPart d).startTiles).loadPages.loadLoops
    if d.role ≠ .starting then d
    else
      let d := d.onStart (fun s => { s with loaded := true })
      if d.reloading then d
      else if d.image.header.pairMode = 0 then d.enterSolo
      else d.listen

/-- LISTEN_WINDOW_END: the table of R339 in its order. DEDUCED (log 25). -/
def Dev.listenEnd (d : Dev) (partner : Option (DWord × List (Nat × List Byte))) : Dev :=
  let s := d.power.start
  if !(d.isStarting && s.listening && d.on R.POWER_HOLDUP_READY) then d
  else if s.heardOwn || d.on R.TWIN_STATUS_IDENT_CLASH then d.goStopped
  else if d.rd R.TWIN_ELIG_CAUSES / 64 % 2 = 1 then d.goStopped
  else match s.heardRole with
    | some .active | some .solo => d.joinStandby
    | some .starting =>
      if d.on R.SADDLE_SIDE then d.onStart (fun s => { s with listening := false, waitingA := true })
      else d.enterFromStart .active partner
    | _ => d.enterFromStart .active none

/-- STANDBY_WAIT_TIMEOUT: B listens again. -/
def Dev.standbyWait (d : Dev) : Dev := if d.isStarting && d.power.start.waitingA then d.listen else d

/-! ### START and RESTART (R209, R212, R333, R481) -/

/-- A START command begins a new start: what counts since the start is 0 again on the tiles, in the cycle engine and in the
twin logic (R88, R155, R156, R219, R223, R341). DEDUCED (log 148). -/
def Dev.freshCounts (d : Dev) : Dev :=
  let d := d.each 144 (fun t d => d.clear [R.TILE_MISCNT_MIS_A t, R.TILE_MISCNT_MIS_B t, R.TILE_MISCNT_MIS_C t,
    R.TILE_ECC_CORR_A t, R.TILE_ECC_CORR_B t, R.TILE_ECC_CORR_C t])
  let d := (d.putWord 0x94 (resetWord 0x94)).clear [R.TRIAD_REINT_COUNT, R.CYCLE_STATUS_FALLBACK_ENTRIES, R.CMD_STATUS_ACCEPTED]
  d.clear [R.TWIN_SHADOW_MAX_LAG, R.TWIN_DIVERGE_COUNT, R.TWIN_COPY_COUNT, R.TWIN_COPY_TIME_MAX_MS, R.TWIN_TOKEN_TIME_MAX_US]

/-- START from STOPPED with the restart kind it names. DEDUCED (log 23). DEDUCED (log 83). -/
def Dev.startCommand (d : Dev) (warm : Bool) : Reply :=
  if d.role ≠ .stopped || d.on R.TWIN_STATUS_IDENT_CLASH || testBit d.twin.causes 6 || !d.bridle.running then
    d.refuse .notPermitted
  else
    let d := d.abortTest.takeLoaded
    if d.hrn.image.isNone then d.refuse (.hrn 7)
    else
      let d := d.onTwin (fun t => { t with yielded := false })
      let d := (d.freshCounts.onCycle (fun c => { c with named := some warm })).beginLoading.readCodeAgain
      d.compareBridle.done

/-! ### Power failure (R48, R49, R54 to R57, R207, R208, R431) -/

/-- The feeds' flags. -/
def feedGoodFld (x : Nat) : Fld := if x = 0 then R.POWER_PWR_A_GOOD else R.POWER_PWR_B_GOOD
def feedLostFld (x : Nat) : Fld := if x = 0 then R.POWER_PWR_A_LOST else R.POWER_PWR_B_LOST

/-- A feed has been declared lost, or carries the module again; one that R48 has not yet judged carries it (R47).
DEDUCED (log 17). -/
def Dev.setLost (d : Dev) (x : Nat) (b : Bool) : Dev :=
  d.onPower (fun p => if x = 0 then { p with lostA := b } else { p with lostB := b })
def Dev.bothLost (d : Dev) : Bool := d.power.lostA && d.power.lostB

/-- FEED_GOOD. -/
def Dev.feedGood (d : Dev) (x : Nat) : Dev :=
  ((d.raise (feedGoodFld x)).setLost x false).onPower (fun p =>
    if x = 0 then { p with switchOpenA := false } else { p with switchOpenB := false })

/-- Both feeds are lost: the sequence of R54 starts, or with the bank not charged reset is asserted at once and no slot is
written (R57, R67). -/
def Dev.beginPowerFail (d : Dev) : Dev :=
  if !d.on R.POWER_HOLDUP_READY then (d.clear [R.POWER_LAST_PF_SAVED, R.POWER_LAST_PF_INCOMPLETE]).moduleReset .holdup
  else match d.power.pf with
    | .idle => ((d.raise R.POWER_RIDE_THROUGH).eventM .bothFeedsLost).onPower (fun p => { p with pf := .rideThrough })
    | _ => d

/-- FEED_LOST; an overvoltage also opens the feed's input switch. PWR_x_LOST is 0 after power-up and reset and is set
from then on (R6, R48). DEDUCED (log 18). -/
def Dev.feedLost (d : Dev) (x : Nat) (tooHigh : Bool) : Dev :=
  let d := ((d.drop (feedGoodFld x)).when d.lit (fun d => d.raise (feedLostFld x))).setLost x true
  let d := if tooHigh then d.onPower (fun p => if x = 0 then { p with switchOpenA := true } else { p with switchOpenB := true }) else d
  if !d.lit then d
  else if d.bothLost then d.beginPowerFail
  else if d.on (feedGoodFld (1 - x)) then d.eventM .feedLost [w32 x]
  else d

/-- FEED_DIP: a feed has been above 17.5 V for 1 ms in the ride-through. HOLDUP_READY is left as it is: the manual gives
no clearing of it but a reset, whatever the bank has delivered. DESIGN CHOICE (log 130). -/
def Dev.feedDip (d : Dev) (x : Nat) : Dev :=
  if d.lit && d.power.pf = .rideThrough then
    (((d.setLost x false).drop R.POWER_RIDE_THROUGH).eventM .feedDip).onPower (fun p => { p with pf := .idle })
  else d

/-- Commit (step 3 of R54); a freeze of the recorder ends (R428). -/
def Dev.commitPower (d : Dev) : Dev :=
  let d := (d.endFreeze.clear [R.POWER_RIDE_THROUGH, R.POWER_LAST_PF_SAVED, R.POWER_LAST_PF_INCOMPLETE]).eventM .powerFail
  let d := { d with loop := { d.loop with links := d.loop.links.map (fun (p : Nat × Glink) => (p.1, { p.2 with sent := none })) } }
  d.onPower (fun p => { p with pf := .committed })

/-- POWER_FAIL_COMMIT. -/
def Dev.powerFailCommit (d : Dev) : Dev := if d.lit && d.power.pf = .rideThrough then d.commitPower else d

/-- The retain slot that a save goes to: the one that does not hold the previous save. DEDUCED (log 120). -/
def Dev.saveSlot (d : Dev) : Nat × Word :=
  match d.newerRetain with
  | some (k, s) => (1 - k, s.save + 1)
  | none => (0, 0)

/-- The power-fail journal is being written: from here on nothing is inserted into the ring (R431). -/
def Dev.beginJournal (d : Dev) : Dev :=
  let d := { d.powerFailJournal with evrec := { d.powerFailJournal.evrec with closed := true } }
  d.onPower (fun p => { p with pf := .journalling })

/-- The frozen copy is being written. -/
def Dev.beginSave (d : Dev) (c : DWord × List (Nat × List Byte)) : Dev :=
  if d.poolEmpty then d.wornFlash.beginJournal else
  let d := d.suspendErase
  let (k, n) := d.saveSlot
  let slot := retainSave n d.image.retainDigest c
  let d := (d.onCycle (fun x => { x with slots := oput x.slots k slot, saving := some k })).raise R.POWER_LAST_PF_INCOMPLETE
  d.onPower (fun p => { p with pf := .saving })

/-- The cycle that runs completes, or is abandoned; the clusters go off, and the save begins (steps 4 to 6 of R54). -/
def Dev.freezeRetain (d : Dev) : Dev :=
  let d := if d.role.runs && d.cycle.began && d.tilesDone && !d.on R.CYCLE_STATUS_FALLBACK then
      d.completeParts.completeCopy else d
  let d := { d with tiles := d.tiles.map (fun (p : Nat × Tile) => (p.1, p.2.halt)) }.clustersOff
  match d.cycle.copy with
  | some c => d.beginSave c
  | none => d.beginJournal


/-- PF_CYCLE_END. -/
def Dev.pfCycleEnd (d : Dev) : Dev := if d.lit && d.power.pf = .committed then d.freezeRetain else d

/-- PF_RETAIN_SAVED. -/
def Dev.pfRetainSaved (d : Dev) : Dev :=
  match d.cycle.saving with
  | some k =>
    if d.lit && d.power.pf = .saving then
      let d := d.onCycle (fun c => { c with
        slots := (match oget c.slots k with | some s => oput c.slots k { s with complete := true } | none => c.slots)
        saving := none })
      ((d.raise R.POWER_LAST_PF_SAVED).drop R.POWER_LAST_PF_INCOMPLETE).beginJournal
    else d
  | none => d

/-- PF_JOURNAL_WRITTEN: reset is asserted; after a warm RESTART with the electronics still powered. -/
def Dev.pfJournalWritten (d : Dev) : Dev :=
  if d.lit && d.power.pf = .journalling then d.moduleReset (if d.power.pfRestart then .restart else .holdup) else d

/-- HOLDUP_EXHAUSTED: the bank is at 20 V. -/
def Dev.holdupExhausted (d : Dev) : Dev := if d.lit && d.bothLost then d.moduleReset .holdup else d

/-- HOLDUP_CHARGED: the bank is at 45 V; its capacitance in units of 0.1 mF (R53). -/
def Dev.holdupCharged (d : Dev) (cap : Nat) : Dev :=
  if !d.alive then d
  else
    let d := (d.wr R.POWER_HOLDUP_CAP cap).raise R.POWER_HOLDUP_READY
    (if cap < 85 then d.eventM .holdupLow else d).enterSolo

/-- RESTART with the kind it names (R212): a change that is staged is aborted. -/
def Dev.restartCommand (d : Dev) (warm : Bool) : Reply :=
  if !d.role.runs then d.refuse .notPermitted
  else (d.dropStage.onCycle (fun c => { c with named := some warm })).done

/-- An accepted RESTART is carried out: steps 3 to 8 of R54, or reset at once. DEDUCED (log 26). -/
def Dev.restartNow (d : Dev) : Dev :=
  if !d.role.runs then d
  else match d.cycle.named with
    | some true => if d.committed then d else (d.onPower (fun p => { p with pfRestart := true })).commitPower
    | some false => d.moduleReset .restart
    | none => d

/-! ### The field supply (R51, R52, R60) -/

/-- FLD_GOOD: outputs return at the next cycle boundary. DEDUCED (log 28). -/
def Dev.fldGoodNow (d : Dev) : Dev :=
  if d.on R.POWER_FLD_TRIPPED then d
  else
    let d := ((d.raise R.POWER_FLD_GOOD).drop R.DIO_STATUS_GROUPS)
    let d := d.onPower (fun p => { p with fldLost := false })
    (({ d with io := { d.io with fldWait := true } }.updateFns.showDio).aoShowAll)

/-- FLD_24V is lost, whether or not it had become good: the loss is shown and recorded while the module is out of reset,
outputs are commanded to their safe states, and every safety function goes SAFE. -/
def Dev.fldLostNow (d : Dev) : Dev :=
  if d.power.fldLost then d
  else
    let d := (d.drop R.POWER_FLD_GOOD).onPower (fun p => { p with fldLost := true })
    let d := d.when d.lit (fun d => (d.raise R.POWER_FLD_LOW).eventM .fldLost)
    ((d.drop R.DIO_STATUS_GROUPS).updateFns.showDio).aoShowAll

/-- FLD_FUSE; a fuse that is open opens no more. -/
def Dev.fuseOpens (d : Dev) : Dev :=
  if d.on R.POWER_FLD_TRIPPED then d
  else
    let d := d.raise R.POWER_FLD_TRIPPED
    (if d.lit then d.eventM .fldFuse else d).fldLostNow

/-- DIO_GROUP_ENABLE: the next group of 8 outputs, once outputs are in program control. -/
def Dev.groupEnable (d : Dev) : Dev :=
  let g := d.rd R.DIO_STATUS_GROUPS
  if d.lit && d.role.commanding && d.fldDrives && g < 15 then (d.wr R.DIO_STATUS_GROUPS (2 * g + 1)).showDio else d

/-! ### Temperature (R61, R63) -/

/-- The sensors that have been above 105 °C for 1 s. -/
def Dev.tooHot (d : Dev) : List Nat := (d.power.hot.filter (fun h => nsPerSecond ≤ d.since h.2)).map (·.1)

/-- THERMAL_STOP: a sensor has been above 105 °C for 1 s. Each such excursion is recorded, and none lets the module run. -/
def Dev.thermalStop (d : Dev) : Dev :=
  let hot := d.tooHot
  if d.lit && !hot.isEmpty && (d.role ≠ .stopped || hot.any (fun k => !d.power.stopTold.contains k)) then
    ((d.raise R.POWER_THERMAL_STOP).onPower (fun p => { p with stopTold := hot })).eventM .thermalStop |>.goStopped
  else d

/-- THERMAL_RESET. -/
def Dev.thermalReset (d : Dev) : Dev :=
  if d.lit && d.power.temps.any (fun t => 1150 ≤ t.2) then d.moduleReset .thermal else d

end Sys2Proof.Machine
end

