-- ==== Sys2Proof/Machine/General.lean ====
section
/-! DEFINITION. The meanings of the commands and events of the module itself: registers, SAFETY_MAINT, seating, start,
keeper, supplies and temperature (R3, R10, R25 to R67). -/

namespace Sys2Proof.Machine

/-! ### Registers (R3, R483 to R486) -/

/-- A write of a word to a register's address on a path. A management write of a locked field is reported LOCKED, and
waits for the cycle boundary where R486 says so. -/
def Dev.registerWrite (d : Dev) (p : Path) (off : Nat) (v : Word) : Dev :=
  if !d.lit then d
  else match p, regAt off with
    | .mgmt, some _ => d.reportedWrite off v
    | .mgmt, none => (d.countAccess .mgmt off true).writeStatus (.named (if (spanOf off).isSome then "READ_ONLY" else "UNMAPPED"))
    | .tack _, _ => d.writeReg p off v

/-- REGISTER_WRITE (R3). -/
def execRegisterWrite (path : Path) (offset : BitVec 24) (value : Word) (s : State) : Host.Outcome State Fault Refusal :=
  s.act fun d => d.registerWrite path offset.toNat value

/-! ### SAFETY_MAINT (R10) -/

/-- ENTER_SAFETY_MAINT: from STOPPED or STANDBY with K1.1 on. DESIGN CHOICE (log 24). -/
def Dev.enterMaint (d : Dev) : Reply :=
  if d.role ≠ .stopped ∧ d.role ≠ .standby then d.refuse .notPermitted
  else if !testBit (d.rd R.KEEPER_SW) 0 then d.refuse (.hrn 13)
  else (d.abortTest.leaveTo .safetyMaint).done
def execEnterSafetyMaint (req : Req) (s : State) : Host.Outcome State Fault Refusal :=
  s.act fun d => d.request rqStart req Dev.enterMaint

/-- LEAVE_SAFETY_MAINT: to STOPPED; the bridle keeps its old copies where a write runs. -/
def Dev.leaveMaintCommand (d : Dev) : Reply :=
  if d.role ≠ .safetyMaint then d.refuse .notPermitted
  else ({ d with bridle := { d.bridle with writing := none } }.leaveTo .stopped).done
def execLeaveSafetyMaint (req : Req) (s : State) : Host.Outcome State Fault Refusal :=
  s.act fun d => d.request rqStart req Dev.leaveMaintCommand

/-! ### Seating, power and reset (R25 to R27, R57, R58) -/

/-- SEATED_LOOP_CLOSE (R25): the 100 ms wait begins. -/
def execSeatedLoopClose (s : State) : Host.Outcome State Fault Refusal := s.act Dev.seat

/-- ELECTRONICS_POWER_ON (R25, R58). -/
def execElectronicsPowerOn (s : State) : Host.Outcome State Fault Refusal := s.act Dev.powerOn

/-- SEATED_LOOP_OPEN (R25): reset at once, whatever the role. -/
def execSeatedLoopOpen (s : State) : Host.Outcome State Fault Refusal := s.act Dev.unseat

/-- MODULE_RESET (R26, R27): reset is asserted for a cause. -/
def Dev.resetFor (d : Dev) (c : ResetCause) : Dev :=
  match c with
  | .powerUp => d
  | .seated => d.unseat
  | .holdup | .restart | .watchdog | .thermal => d.moduleReset c
def execModuleReset (cause : ResetCause) (s : State) : Host.Outcome State Fault Refusal :=
  s.act fun d => if d.power.powered then d.resetFor cause else d

/-- RESET_RELEASE (R57, R58, R212). -/
def execResetRelease (s : State) : Host.Outcome State Fault Refusal := s.act Dev.resetRelease

/-! ### Identity and keeper (R30, R31, R41) -/

/-- POSITION_SAMPLE_ATTEMPT (R30): bits 0 to 4 of a sample are POS0 to POS3 and POSP, bit 5 is K1.5. -/
def execPositionSampleAttempt (first second third : BitVec 6) (s : State) : Host.Outcome State Fault Refusal :=
  s.act fun d => d.positionAttempt first.toNat second.toNat third.toNat

/-- POSITION_PIN_SAMPLE (R31). -/
def execPositionPinSample (pins : BitVec 5) (s : State) : Host.Outcome State Fault Refusal :=
  s.act fun d => d.pinSample pins.toNat

/-- KEEPER_SAMPLE (R41): bits 0 to 7 are K1.1 to K1.8 and bit 8 the open cover. -/
def execKeeperSample (switches : BitVec 9) (s : State) : Host.Outcome State Fault Refusal :=
  s.act fun d => d.keeperSample switches.toNat

/-! ### Feeds and power failure (R48 to R57) -/

/-- FEED_GOOD (R48). -/
def execFeedGood (feed : Fin 2) (s : State) : Host.Outcome State Fault Refusal := s.act fun d => d.feedGood feed.val

/-- FEED_LOST (R48, R49, R54). -/
def execFeedLost (feed : Fin 2) (s : State) : Host.Outcome State Fault Refusal := s.act fun d => d.feedLost feed.val false

/-- FEED_OVERVOLTAGE (R48). -/
def execFeedOvervoltage (feed : Fin 2) (s : State) : Host.Outcome State Fault Refusal :=
  s.act fun d => d.feedLost feed.val true

/-- FEED_DIP (R55). -/
def execFeedDip (feed : Fin 2) (s : State) : Host.Outcome State Fault Refusal := s.act fun d => d.feedDip feed.val

/-- POWER_FAIL_COMMIT (R54). -/
def execPowerFailCommit (s : State) : Host.Outcome State Fault Refusal := s.act Dev.powerFailCommit

/-- PF_CYCLE_END (R54). -/
def execPfCycleEnd (s : State) : Host.Outcome State Fault Refusal := s.act Dev.pfCycleEnd

/-- PF_RETAIN_SAVED (R54). -/
def execPfRetainSaved (s : State) : Host.Outcome State Fault Refusal := s.act Dev.pfRetainSaved

/-- PF_JOURNAL_WRITTEN (R54, R431). -/
def execPfJournalWritten (s : State) : Host.Outcome State Fault Refusal := s.act Dev.pfJournalWritten

/-- HOLDUP_EXHAUSTED (R57). -/
def execHoldupExhausted (s : State) : Host.Outcome State Fault Refusal := s.act Dev.holdupExhausted

/-- HOLDUP_CHARGED (R53): with the bank's capacitance in units of 0.1 mF. -/
def execHoldupCharged (cap : Byte) (s : State) : Host.Outcome State Fault Refusal :=
  s.act fun d => d.holdupCharged cap.toNat

/-! ### The field supply (R51, R52, R60) -/

/-- FLD_GOOD (R51). -/
def execFldGood (s : State) : Host.Outcome State Fault Refusal := s.act Dev.fldGoodNow

/-- FLD_LOST (R51). -/
def execFldLost (s : State) : Host.Outcome State Fault Refusal := s.act Dev.fldLostNow

/-- FLD_FUSE (R52). -/
def execFldFuse (s : State) : Host.Outcome State Fault Refusal := s.act Dev.fuseOpens

/-- FLD_RECLOSE (R52). -/
def execFldReclose (s : State) : Host.Outcome State Fault Refusal := s.act Dev.fldReclose

/-- DIO_GROUP_ENABLE (R60). -/
def execDioGroupEnable (s : State) : Host.Outcome State Fault Refusal := s.act Dev.groupEnable

/-! ### Start (R58 to R61, R102, R103, R339, R470) -/

/-- HARNESS_BOOT_SELECT (R102, R103, R264, R287). -/
def execHarnessBootSelect (s : State) : Host.Outcome State Fault Refusal := s.act Dev.bootSelect

/-- CLUSTER_POWER_UP (R59, R61). -/
def execClusterPowerUp (cluster : Fin 9) (s : State) : Host.Outcome State Fault Refusal :=
  s.act fun d => d.clusterUp cluster.val

/-- CLUSTER_POWER (R59): the rail of a cluster has not settled. -/
def execClusterPower (cluster : Fin 9) (s : State) : Host.Outcome State Fault Refusal :=
  s.act fun d => d.clusterFault cluster.val

/-- COLD_START_WAIT_END (R61). -/
def execColdStartWaitEnd (s : State) : Host.Outcome State Fault Refusal := s.act Dev.coldEnd

/-- START_SELF_TEST_DONE (R470): during start, after the clusters are powered, the findings apply at once. -/
def execStartSelfTestDone (findings : TestFindings) (s : State) : Host.Outcome State Fault Refusal :=
  s.actIf findings.wellFormed fun d => d.startTested findings

/-- CLUSTERS_LOADED (R58, R231). -/
def execClustersLoaded (s : State) : Host.Outcome State Fault Refusal := s.act Dev.clustersLoaded

/-- LISTEN_WINDOW_END (R339): with the retain slot that a partner in Starting offers, by cycle number and data (R211). -/
def execListenWindowEnd (partnerSlot : Option (DWord × List (Nat × List Byte))) (s : State) :
    Host.Outcome State Fault Refusal :=
  s.act fun d => d.listenEnd partnerSlot

/-- STANDBY_WAIT_TIMEOUT (R339). -/
def execStandbyWaitTimeout (s : State) : Host.Outcome State Fault Refusal := s.act Dev.standbyWait

/-- START (R209). -/
def execStart (req : Req) (warm : Bool) (s : State) : Host.Outcome State Fault Refusal :=
  s.act fun d => d.request rqStart req fun d => d.startCommand warm

/-- RESTART (R212). -/
def execRestart (req : Req) (warm : Bool) (s : State) : Host.Outcome State Fault Refusal :=
  s.act fun d => (d.request rqRestart req fun d => d.restartCommand warm).restartNow

/-! ### Temperature (R63) -/

/-- THERMAL_SAMPLE (R63): a sensor in tenths of a degree; clusters 0 to 8, the I/O die 9, the bridle 10. -/
def execThermalSample (sensor : Fin 11) (tenths : Int) (s : State) : Host.Outcome State Fault Refusal :=
  s.act fun d => d.thermalSample sensor.val tenths

/-- THERMAL_STOP (R63). -/
def execThermalStop (s : State) : Host.Outcome State Fault Refusal := s.act Dev.thermalStop

/-- THERMAL_RESET (R63). -/
def execThermalReset (s : State) : Host.Outcome State Fault Refusal := s.act Dev.thermalReset

end Sys2Proof.Machine
end

