-- ==== Sys2Proof/Machine/Historian.lean ====
section
/-! DEFINITION. The meanings of the historian's commands (R433 to R441, R444). -/

namespace Sys2Proof.Machine

/-- HIST_DRIVE_MOUNT (R433, R434): a drive is checked and mounted into its set, or its bay shows FAILED. -/
def execHistDriveMount (bay : Fin 8) (drive : Drive) (s : State) : Host.Outcome State Fault Refusal :=
  s.act fun d =>
    if !d.alive then d
    else
      let k := bay.val / 4
      let first := !d.setMounted k && (d.setBays (1 - k)).isEmpty
      let fits := d.driveFits bay drive
      let d := (d.showDrive bay drive).wr (R.HIST_DRV_STATUS_STATE bay) (if fits then 1 else 2)
      if fits then
        let d := { d with hist := { d.hist with drives := oput d.hist.drives bay drive } }.showSets
        d.when first (fun d => d.event .histUnmirrored (source 11 bay))
      else d

/-- HIST_SET_FAILED (R434): a drive fails, is removed or reports a media error it cannot correct, and its
whole set is FAILED. -/
def execHistSetFailed (bay : Fin 8) (loss : DriveLoss) (s : State) : Host.Outcome State Fault Refusal :=
  s.act fun d =>
    let k := bay.val / 4
    if d.alive ∧ (oget d.hist.drives bay).isSome then
      let d := match loss with
        | .removed =>
          d.clear [R.HIST_DRV_STATUS_PRESENT bay, R.HIST_DRV_STATUS_LINK_UP bay, R.HIST_DRV_STATUS_STATE bay]
        | .failed => d.wr (R.HIST_DRV_STATUS_STATE bay) 2
        | .media => (d.wr (R.HIST_DRV_STATUS_STATE bay) 2).incSat (R.HIST_DRV_ERR_MEDIA bay)
      let d := { d with hist := { d.hist with drives := oerase d.hist.drives bay } }
      let was := (d.driveSet k).failed
      let d := (d.putSet k { d.driveSet k with failed := true }).showSets
      let d := d.dropRebuild
      if was then d
      else
        let d := (d.raise R.HIST_STATUS_FAILED_SEEN).event .histSetFailed (source 11 bay)
        d.when (d.driveSet (1 - k)).failed (fun d => d.event .histStopped (source 0 0))
    else d

/-- HIST_REBUILD (R434): a write of `HIST.CTRL.REBUILD`. -/
def execHistRebuild (s : State) : Host.Outcome State Fault Refusal := s.act Dev.histRebuild

/-- HIST_REBUILT (R434): the copy completes, and the set is mirrored again. -/
def execHistRebuilt (s : State) : Host.Outcome State Fault Refusal :=
  s.act fun d =>
    if d.on R.HIST_STATUS_REBUILDING then
      let k := d.rd R.HIST_REBUILD_SET
      let d := d.dropRebuild.putSet k { d.driveSet (1 - k) with failed := false }
      ((d.showSets.wr R.HIST_REBUILD_PERCENT 100).drop R.HIST_REBUILD_ETA_H).event .histRebuilt (source 0 0)
    else d

/-- HIST_CLEAR_COUNTS (R444). -/
def execHistClearCounts (s : State) : Host.Outcome State Fault Refusal := s.act Dev.histClearCounts

/-- HIST_FORMAT (R433, R435): the set's key is discarded, which makes its former content unreadable, and a
drive that was not formatted right is now. -/
def execHistFormat (req : Req) (set : Fin 2) (formatId : Nat) (s : State) : Host.Outcome State Fault Refusal :=
  s.act fun d => d.request rqHistFormat req fun d =>
    let k := set.val
    let drives := d.hist.drives.map (fun p => if p.1 / 4 = k then (p.1, { p.2 with formatId := formatId }) else p)
    let d := { d with hist := { d.hist with drives := drives } }
    let d := d.putSet k { failed := (d.driveSet k).failed }
    let d := (d.setBays k).foldl (fun d b =>
      let cap := d.rd (R.HIST_DRV_CAP b)
      let x : Drive := { capGb := cap, width := d.rd (R.HIST_DRV_STATUS_WIDTH b)
                         gen := d.rd (R.HIST_DRV_STATUS_GEN b), formatId := formatId }
      if d.rd (R.HIST_DRV_STATUS_STATE b) = 2 && !(d.driveSet k).failed && d.driveFits b x then
        { d with hist := { d.hist with drives := oput d.hist.drives b x } }.wr (R.HIST_DRV_STATUS_STATE b) 1
      else d) d
    (d.showSets.showOldest).done

/-- What the full tiers of a set have overwritten is gone (R436). -/
def overwritten (use : DriveUse) (x : DriveSet) : DriveSet :=
  let gone (k : Nat) : Nat := if use.tiersFull.getLsbD k then (use.overwritten[k]?).getD 0 else 0
  { x with
    raw := x.raw.drop (gone 0), seconds := x.seconds.drop (gone 1), minutes := x.minutes.drop (gone 2)
    hours := x.hours.drop (gone 3), events := x.events.drop (gone 4) }

/-- HIST_SAMPLE (R436, R437): at a multiple of a tag's period, a RAW sample of the publish copy that
follows is stored, not kept, or dropped. -/
def execHistSample (tag : Nat) (use : DriveUse) (s : State) : Host.Outcome State Fault Refusal :=
  s.act fun d =>
    match if d.alive && d.histRunning then d.tagOf tag else none with
    | none => d
    | some (t, v) =>
      let d := if d.cycle.publishRead then d else d.readPublish
      let d := (d.wr R.HIST_BUFFER_FILL use.fill).maxTo R.HIST_BUFFER_MAX use.fill
      let d := ((d.wr R.HIST_USED use.usedGb).wrSat R.HIST_RATE_LAST use.rateMbs).maxTo R.HIST_RATE_MAX use.rateMbs
      let d := d.wr R.HIST_TIER_FULL_TIERS use.tiersFull.toNat
      let d := (d.onSets (overwritten use)).showOldest
      let high := decide (90 < use.fill)
      let d := d.when (high && !d.on R.HIST_STATUS_BACKLOG) (fun d => d.event .histBacklog (source 0 0))
      let d := d.flag R.HIST_STATUS_BACKLOG high
      if !testBit t.tiers 0 then d
      else if high then (d.incSat R.HIST_DROPPED).putTag tag { d.tagRun tag with dropped := true }
      else d.storeRaw tag t v

/-- The tier of an aggregate: its length in ns, its bit in a tag's mask, and the running aggregate. -/
def aggOf (r : TagRun) : Fin 3 → Option Agg
  | 0 => r.second
  | 1 => r.minute
  | 2 => r.hour

/-- The running state of a tag with one tier's aggregate begun anew. -/
def aggReset (r : TagRun) : Fin 3 → TagRun
  | 0 => { r with second := none }
  | 1 => { r with minute := none }
  | 2 => { r with hour := none }

/-- The length of a tier's interval in ns. -/
def aggUnit : Fin 3 → Nat
  | 0 => nsPerSecond
  | 1 => 60 * nsPerSecond
  | 2 => 3600 * nsPerSecond

/-- A set with samples added to an aggregate tier. -/
def DriveSet.addTier (x : DriveSet) (tier : Fin 3) (xs : List TagSample) : DriveSet :=
  match tier with
  | 0 => { x with seconds := x.seconds ++ xs }
  | 1 => { x with minutes := x.minutes ++ xs }
  | 2 => { x with hours := x.hours ++ xs }

/-- The four records of an aggregate: TYPE 1 to 4 at the interval's start (R440). -/
def aggRecords (tag : Nat) (float : Bool) (t : DWord) (g : Agg) : List TagSample :=
  [{ tag := tag, type := 1, t := t, value := g.least }, { tag := tag, type := 2, t := t, value := g.greatest },
   { tag := tag, type := 3, t := t, value := g.mean float }, { tag := tag, type := 4, t := t, value := g.final }]

/-- HIST_AGGREGATE (R436): at the end of a second, a minute or an hour of T, minimum, maximum, mean and
last of every tag of the tier are stored. -/
def execHistAggregate (tier : Fin 3) (s : State) : Host.Outcome State Fault Refusal :=
  s.act fun d =>
    if d.alive && d.histRunning then
      let start := BitVec.ofNat 64 ((d.timeT.toNat / aggUnit tier - 1) * aggUnit tier)
      d.each d.tagCount fun k d =>
        match d.tagOf k, aggOf (d.tagRun k) tier with
        | some (t, v), some g =>
          let d := d.putTag k (aggReset (d.tagRun k) tier)
          if testBit t.tiers (tier.val + 1) then
            d.onSets (fun x => x.addTier tier (aggRecords k (Config.varIsFloat v.type) start g))
          else d
        | _, _ => d
    else d

/-- HIST_SESSION_OPEN (R439): up to 16 sessions, with a certificate under the security policy. -/
def execHistSessionOpen (session : Nat) (certOk : Bool) (s : State) : Host.Outcome State Fault Refusal :=
  s.act fun d =>
    if !d.alive || d.hist.sessions.contains session then d
    else if !certOk then d
    else if 16 ≤ d.hist.sessions.length then d.incSat R.HIST_SESSIONS_REFUSED
    else
      let d := { d with hist := { d.hist with sessions := d.hist.sessions ++ [session] } }
      d.wr R.HIST_SESSIONS_OPEN d.hist.sessions.length

/-- The samples of a tier in a set. -/
def DriveSet.tier (x : DriveSet) : Fin 4 → List TagSample
  | 0 => x.raw
  | 1 => x.seconds
  | 2 => x.minutes
  | 3 => x.hours

/-- Puts a sample in its place by T; samples of one T keep their order. -/
def sampleInsert (x : TagSample) : List TagSample → List TagSample
  | [] => [x]
  | y :: ys => if y.t.toNat < x.t.toNat then y :: sampleInsert x ys else x :: y :: ys

/-- TAG_QUERY (R439, R440): the stored samples of up to 256 tags in a range of T, in T order. -/
def execTagQuery (session : Nat) (tags : List Nat) (t0 t1 : DWord) (tier : Fin 4) (s : State) :
    Host.Outcome State Fault Refusal :=
  s.act fun d =>
    if tags.length ≤ 256 then
      d.exportReply session ((((d.queried.tier tier).filter (fun x =>
        tags.contains x.tag && t0.toNat ≤ x.t.toNat && x.t.toNat ≤ t1.toNat)).foldr sampleInsert []).flatMap TagSample.bytes)
    else d

/-- EVENT_QUERY (R439, R440): the stored records of a range of SEQ, counted on from its first one, or of T, and a
lowest severity, in SEQ order. -/
def execEventQuery (session : Nat) (byTime : Bool) (lo hi : DWord) (minSev : Fin 8) (s : State) :
    Host.Outcome State Fault Refusal :=
  s.act fun d =>
    let inRange (r : EvRec) : Bool :=
      if byTime then lo.toNat ≤ r.tFirst.toNat && r.tFirst.toNat ≤ hi.toNat
      else (r.seq - w32 lo.toNat).toNat ≤ (w32 hi.toNat - w32 lo.toNat).toNat
    let rs := (d.queried.events.filter (fun r => inRange r && minSev ≤ r.sev)).foldr seqInsert []
    d.exportReply session (rs.flatMap EvRec.bytes)

/-- STREAM_OPEN (R441): a stream of up to 8 FA channels or of the awl capture, at most 8 on the module. -/
def execStreamOpen (session stream : Nat) (fa : List (Fin 32)) (awl : Bool) (s : State) :
    Host.Outcome State Fault Refusal :=
  s.act fun d =>
    if d.hist.sessions.contains session && d.hist.streams.length < 8 && fa.length ≤ 8
        && d.hist.streams.all (fun x => x.id ≠ stream) then
      let x : Stream := { id := stream, session := session, fa := fa.map (·.val), awl := awl }
      let d := { d with hist := { d.hist with streams := d.hist.streams ++ [x] } }
      d.wr R.HIST_SESSIONS_STREAMS d.hist.streams.length
    else d

/-- STREAM_CLOSE (R441). -/
def execStreamClose (session stream : Nat) (s : State) : Host.Outcome State Fault Refusal :=
  s.act fun d =>
    let d := { d with hist := { d.hist with
      streams := d.hist.streams.filter (fun x => !(x.id = stream && x.session = session)) } }
    d.wr R.HIST_SESSIONS_STREAMS d.hist.streams.length

/-- The two halves of a word, low half first. -/
def halves (w : Word) : List (BitVec 16) := [w.setWidth 16, (w >>> 16).setWidth 16]

/-- T of the first sample and the 1,024 samples of a stream's next message on a channel (R441): an FA channel's, or those
of an awl node, two halves for each captured word; none while there are fewer. -/
def Dev.streamNext (d : Dev) (x : Stream) (channel : Nat) : Option (DWord × List (BitVec 16)) :=
  if 0x80 ≤ channel then
    if !x.awl || 0x84 ≤ channel then none else
    let n := sget (fun _ => 0) x.sent (channel - 0x80)
    let ws := (d.loop.awl.buffer.drop n).take 512
    match d.loop.awl.times[n]? with
    | some t => if ws.length = 512 then some (t, ws.flatMap (fun w => halves ((w[channel - 0x80]?).getD 0))) else none
    | none => none
  else if x.fa.contains channel then
    let q := sget (fun _ => []) x.waiting channel
    match q with
    | p :: _ => if 1024 ≤ q.length then some (p.1, (q.take 1024).map (·.2)) else none
    | [] => none
  else none

/-- A stream's samples leave with a message, which bears the next number whether or not it is taken. -/
def Stream.leave (x : Stream) (channel : Nat) : Stream :=
  let x := { x with next := x.next + 1 }
  if 0x80 ≤ channel then
    { x with sent := oput x.sent (channel - 0x80) (sget (fun _ => 0) x.sent (channel - 0x80) + 512) }
  else { x with waiting := oput x.waiting channel ((sget (fun _ => []) x.waiting channel).drop 1024) }

/-- STREAM_MESSAGE (R441): a message of 1,024 samples of an FA channel, or of a node position of the awl, is sent, or dropped
where the session cannot take it; the gap shows in the message numbers. -/
def execStreamMessage (session stream : Nat) (awl : Bool) (place : Fin 32) (taken : Bool) (s : State) :
    Host.Outcome State Fault Refusal :=
  s.act fun d =>
    let channel : Byte := BitVec.ofNat 8 (128 * bit awl + place.val)
    match d.hist.streams.find? (fun x => x.id = stream && x.session = session) with
    | none => d
    | some x =>
      match d.streamNext x channel.toNat with
      | none => d
      | some (t, samples) =>
        let d := { d with hist := { d.hist with
          streams := d.hist.streams.map (fun y => if y.id = stream then y.leave channel.toNat else y) } }
        if taken then
          let m := [channel, 0] ++ leBytes 2 1024 ++ leBytes 4 x.next.toNat ++ leBytes 8 t.toNat
            ++ samples.flatMap (fun v => leBytes 2 v.toNat)
          { d with hist := { d.hist with message := m } }.noteExport m.length
        else d

end Sys2Proof.Machine
end

