-- ==== Sys2Proof/Machine/Io.lean ====
section
/-! DEFINITION. The meanings of the local field I/O commands (R380 to R401). -/

namespace Sys2Proof.Machine

/-- The field inputs are sampled: the firmware runs and the pins have left the column of Starting (R46). -/
def Dev.samples (d : Dev) : Bool := d.alive && d.power.pinRole != Role.starting

/-- DIO_SAMPLE (R382): the raw level of every pin, FLD_24V and the sum of the output currents. -/
def execDioSample (levels : Word) (fldMv ma : Nat) (s : State) : Host.Outcome State Fault Refusal :=
  s.act fun d =>
    if d.samples then
      let d := d.dioRaw levels
      let low := d.rd R.DIO_FLD_MIN_MV
      let v := min fldMv 65535
      let d := (d.wr R.DIO_FLD_MV v).wr R.DIO_FLD_MIN_MV (if low = 0 ∨ v < low then v else low)
      (d.wrSat R.DIO_CURRENT_MA ma).maxTo R.DIO_CURRENT_MAX_MA ma
    else d

/-- DIO_LEVEL_CHANGE (R382): a raw level that has been steady for the filter time becomes the filtered level. -/
def execDioLevelChange (pin : Fin 32) (s : State) : Host.Outcome State Fault Refusal :=
  s.act fun d => if d.samples then d.dioLevel pin.val else d

/-- DIO_CURRENT_LIMIT (R384): an output has been in current limit without interruption for a number of units of
10 µs; with none it has left it. More than 1 ms is a fault. DEDUCED (log 100). -/
def execDioCurrentLimit (pin : Fin 32) (units : Nat) (s : State) : Host.Outcome State Fault Refusal :=
  s.act fun d =>
    if units = 0 then (d.onIo (fun io => { io with limit := putBit io.limit pin.val false })).showDio
    else if testBit d.dioDriven pin.val then
      let d := d.maxTo R.DIO_LIMIT_LIMIT units
      if 100 < units then (d.onIo (fun io => { io with limit := putBit io.limit pin.val true })).showDio else d
    else d

/-- DIO_THERMAL_SHUTDOWN (R384): the switch of an output opens and is latched open. -/
def execDioThermalShutdown (pin : Fin 32) (s : State) : Host.Outcome State Fault Refusal :=
  s.act fun d =>
    if d.lit && d.fldGood && testBit (d.rd R.DIO_DIR) pin.val then
      (d.onIo (fun io => { io with latched := putBit io.latched pin.val true, hot := putBit io.hot pin.val true })).showDio
    else d

/-- DIO_SWITCH_COOLED (R384): the switch is below 130 °C; the latch of a pin that a release has commanded off
clears. -/
def execDioSwitchCooled (pin : Fin 32) (s : State) : Host.Outcome State Fault Refusal :=
  s.act fun d =>
    let off := !testBit (d.rd R.DIO_OUT) pin.val
    (d.onIo (fun io => { io with
      hot := putBit io.hot pin.val false
      latched := if off then putBit io.latched pin.val false else io.latched })).showDio

/-- DIO_CLEAR_COUNTS (R399). -/
def execDioClearCounts (s : State) : Host.Outcome State Fault Refusal := s.act Dev.dioClearCounts

/-- AO_READBACK_SAMPLE (R387). -/
def execAoReadbackSample (ch : Fin 16) (raw : Int) (s : State) : Host.Outcome State Fault Refusal :=
  s.act fun d => if d.samples then d.aoSample ch.val raw else d

/-- AO_READBACK_FAULT (R387): a difference above 0.1 mA has lasted 20 ms. A change of the value begins the time again after its
2 ms (R398). -/
def execAoReadbackFault (ch : Fin 16) (s : State) : Host.Outcome State Fault Refusal :=
  s.act fun d => if d.aoCompares ch.val && d.aoLasted ch.val && 100 < d.aoDiff ch.val then d.aoFault ch.val 1 else d

/-- AO_OVERTEMP (R387): the output stage is above its temperature limit. -/
def execAoOvertemp (ch : Fin 16) (s : State) : Host.Outcome State Fault Refusal :=
  s.act fun d => if d.alive && d.rd (R.CLO_STATUS_MODE ch.val) != 0 then d.aoFault ch.val 2 else d

/-- AO_FAULT_RESET (R388). -/
def execAoFaultReset (ch : Fin 16) (s : State) : Host.Outcome State Fault Refusal :=
  s.act fun d => d.aoFaultReset ch.val

/-- CLO_CLEAR_STATS (R400). -/
def execCloClearStats (ch : Fin 16) (s : State) : Host.Outcome State Fault Refusal :=
  s.act fun d => d.cloClearStats ch.val

/-- HART_POLL (R390): command 3 goes to the next listed device. -/
def execHartPoll (ch : Fin 16) (s : State) : Host.Outcome State Fault Refusal := s.act fun d => d.hartPoll ch.val

/-- HART_RESPONSE (R390, R391): the transaction under way ends with an answer, or without one. -/
def execHartResponse (ch : Fin 16) (answer : Option HartAnswer) (s : State) : Host.Outcome State Fault Refusal :=
  s.actIf (match answer with | some a => a.comm ≠ 1 | none => true) fun d => d.hartEnd ch.val answer

/-- HART_REQUEST (R391): queued for the channel; its answer follows. -/
def execHartRequest (req : Req) (ch : Fin 16) (addr : Nat) (cmd : List Byte) (s : State) :
    Host.Outcome State Fault Refusal :=
  s.act fun d => d.request rqHartRequest req fun d =>
    let n := ch.val
    if !d.role.commanding then d.refuse (.named "NOT_ACTIVE")
    else if d.rd (R.CLO_STATUS_HART n) = 0 || 63 < addr then d.refuse .badRequest
    else if 4 ≤ (d.io.chan n).queue.length then d.refuse (.named "QUEUE_FULL")
    else
      { dev := d.onAo n (fun x => ({ x with queue := x.queue ++ [(⟨req.client, req.id, addr, cmd⟩ : HartReq)] }).sendQueued)
        status := .ok, later := true }

/-- FA_CONVERSION (R392, R393). -/
def execFaConversion (ch : Fin 32) (raw : Int) (s : State) : Host.Outcome State Fault Refusal :=
  s.act fun d => if d.faEvaluated then d.faConvert ch.val raw else d

/-- FAI_CLEAR_MINMAX (R401). -/
def execFaiClearMinmax (ch : Fin 32) (s : State) : Host.Outcome State Fault Refusal := s.act fun d => d.faiClear ch.val

/-- CAL_EXPORT (R395). -/
def execCalExport (req : Req) (s : State) : Host.Outcome State Fault Refusal :=
  s.act fun d => d.request rqCalExport req fun d =>
    (d.wr R.LIFE_CAL_EXPORT_T (d.seconds % 2 ^ 32)).done d.calFile

/-- CAL_POINT (R396). -/
def execCalPoint (req : Req) (path : Fin 64) (reference raw : Int) (s : State) : Host.Outcome State Fault Refusal :=
  s.act fun d => d.request rqCalPoint req fun d =>
    if 32 ≤ path.val && !d.role.commanding then d.refuse (.named "NOT_ACTIVE")
    else if !d.calReady path.val then d.refuse .badRequest
    else (d.calPoint path.val reference raw).done

/-- CAL_COMMIT (R397): the pending records are written, with K1.7 on at acceptance. A certificate number of another
length than 16 bytes is a malformed request (R4). -/
def execCalCommit (req : Req) (cert : List Byte) (s : State) : Host.Outcome State Fault Refusal :=
  s.act fun d => d.request rqCalCommit req fun d =>
    if cert.length ≠ 16 then d.refuse .badRequest
    else if !d.calSwitch then d.refuse (.hrn 13)
    else
      let rs := d.io.pendingCal.map (fun (p : Nat × CalRec) => (p.1, { p.2 with time := d.seconds, cert := cert }))
      (d.calWrite rs).calDrop.done

/-- CAL_IMPORT (R397): the records of a file, with K1.7 on, the module's serial and every CRC correct. -/
def execCalImport (req : Req) (file : List Byte) (s : State) : Host.Outcome State Fault Refusal :=
  s.act fun d => d.request rqCalImport req fun d =>
    let body := file.take (file.length - 4)
    let rs := Config.calRecords body
    if !d.calSwitch then d.refuse (.hrn 13)
    else if file.take 4 ≠ [0x43, 0x41, 0x4C, 0x31] then d.refuse .badRequest
    else if leNat ((file.drop 4).take 4) ≠ d.rd R.SERIAL then d.refuse (.named "CAL_SERIAL_MISMATCH")
    else if leNat (file.drop (file.length - 4)) ≠ crc32 body || rs.any (fun r => !r.2.good || 64 ≤ r.1) then
      d.refuse .badRequest
    else (d.calWrite rs).done

/-- CAL_ABORT (R396). -/
def execCalAbort (req : Req) (s : State) : Host.Outcome State Fault Refusal :=
  s.act fun d => d.request rqCalAbort req fun d => d.calDrop.done

/-- CAL_PENDING_TIMEOUT (R396): 30 minutes without a commit. -/
def execCalPendingTimeout (s : State) : Host.Outcome State Fault Refusal :=
  s.act fun d => if 1800 * nsPerSecond ≤ d.since d.io.pendingSince then d.calDrop else d

end Sys2Proof.Machine
end

