-- ==== Sys2Proof/Machine/Loop.lean ====
section
/-! DEFINITION. The meanings of the loop engine's commands: frames, triggers, steps, timeouts and the awl
(R225 to R263). -/

namespace Sys2Proof.Machine

/-! ### Return frames and triggers (R225, R229, R238 to R240, R244) -/

/-- The FRAME slots of a gate link. -/
def Dev.frameSlots (d : Dev) (g : Nat) : List SlotImg :=
  match d.hrn.image with
  | some im => im.slots.filter (fun i => i.trigger = 1 && i.glink = some g)
  | none => []

/-- A return frame that is valid (R242, R244): delimiters, TYPE and CRC. -/
def returnValid (bytes : List Byte) (delimited : Bool) : Bool :=
  delimited && bytes.length = 24 && bytes.head? = some 0x10
    && crc32 (bytes.take 20) = leNat ((bytes.drop 20).take 4)

/-- A frame that did not arrive, or not valid: a stale sample, and the third in a row is a loop fault (R240).
DEDUCED (log 67). -/
def Dev.frameLost (d : Dev) (g : Nat) : Dev :=
  let d := (d.drop (R.GLINK_STATUS_RX_VALID g)).raise (R.GLINK_STATUS_RX_LOST g)
  (d.frameSlots g).foldl (fun d i =>
    let d := d.when d.role.runs (fun d => d.onSlot i.num (fun s => { s with
      missRun := s.missRun + 1, shadowBad := s.shadowBad || d.role = .standby }))
    let n := (d.slot i.num).nextNumber
    let d := (d.triggerSlot i n true).onSlot i.num (fun s => { s with passed := some n })
    if 3 ≤ (d.slot i.num).missRun then d.loopFault i.num lcInputLost 0 else d) d

/-- The sample of a frame number has been triggered already, since the frame was missing at its time (R240). -/
def Dev.frameLate (d : Dev) (g n : Nat) : Bool :=
  (d.frameSlots g).any (fun i => (d.slot i.num).passed = some (BitVec.ofNat 64 n))

/-- A valid return frame (R244, R248): its registers, measurements and STATUS, and the samples it triggers. One that comes
too late triggers none, and RX_VALID stays 0. -/
def Dev.frameTaken (d : Dev) (g : Nat) (bytes : List Byte) : Dev :=
  let status := (bytes[1]?).getD 0
  let n := leNat ((bytes.drop 4).take 4)
  let was := d.on (R.GLINK_STATUS_GU_ON_PARTNER g)
  let late := d.frameLate g n
  let d := (d.raise (R.GLINK_STATUS_LINK_UP g)).flag (R.GLINK_STATUS_RX_VALID g) (!late)
  let d := d.wr (R.GLINK_RX_FRAME g) n
  let d := (d.wr (R.GLINK_GU_STATUS_STATUS g) status.toNat).flag (R.GLINK_STATUS_GU_BLOCKED g) (status.getLsbD 0)
  let d := (d.flag (R.GLINK_STATUS_GU_FAULT g) (status.getLsbD 1)).flag (R.GLINK_STATUS_GU_ON_PARTNER g) (status.getLsbD 2)
  let d := d.onLink g (fun l => { l with
    status := status
    meas := (List.range 6).map (fun k => BitVec.ofNat 16 (leNat ((bytes.drop (8 + 2 * k)).take 2))) })
  let d := d.when (status.getLsbD 2 && !was) (fun d => d.event .guOnPartner (source 4 g))
  if late then d
  else (d.frameSlots g).foldl (fun d i =>
    (d.onSlot i.num (fun s => { s with missRun := 0 })).triggerSlot i (BitVec.ofNat 64 n) false) d

/-- RETURN_FRAME (R244): a frame is received and checked. -/
def execReturnFrame (link : Fin 12) (bytes : List Byte) (delimited : Bool) (s : State) :
    Host.Outcome State Fault Refusal :=
  s.act fun d =>
    if !d.alive then d
    else if returnValid bytes delimited then d.frameTaken link.val bytes
    else (d.incSat (R.GLINK_ERRORS_CRC_ERR link.val)).frameLost link.val

/-- A link whose frame did not arrive may have lost its symbol lock (R262). -/
def Dev.linkUnsure (d : Dev) (g : Nat) : Dev :=
  if d.on (R.GLINK_STATUS_LINK_UP g) then
    ({ d with free := d.free + 1 }).flag (R.GLINK_STATUS_LINK_UP g) (Config.glinkLocked d.free)
  else d

/-- RETURN_FRAME_MISSING (R240): none has arrived 2 µs after its expected arrival. -/
def execReturnFrameMissing (link : Fin 12) (s : State) : Host.Outcome State Fault Refusal :=
  s.act fun d =>
    if !d.alive then d
    else ((d.linkUnsure link.val).incSat (R.GLINK_ERRORS_MISSING link.val)).frameLost link.val

/-- TIMER_SAMPLE_TRIGGER (R225): T has reached PHASE + k × PERIOD for a k not yet triggered. -/
def execTimerSampleTrigger (slot : Fin 48) (s : State) : Host.Outcome State Fault Refusal :=
  s.act fun d =>
    match d.slotImg slot.val with
    | none => d
    | some i =>
      let t := d.timeT.toNat
      let k := BitVec.ofNat 64 ((t - i.phase) / max i.period 1)
      let done : Bool := match (d.slot i.num).waiting.getLast? with
        | some x => x.number = k
        | none => match (d.slot i.num).running with
          | some x => x.number = k
          | none => (d.slot i.num).last = some k
      if i.trigger ≠ 2 ∨ t < i.phase ∨ done then d else d.triggerSlot i k false

/-- LOOP_SAMPLE_START (R229): the earliest-deadline waiting sample of a tile starts, one at a time. In
STANDBY `fwd` holds the values that the ACTIVE has forwarded for it (R236). -/
def execLoopSampleStart (tile : Fin 144) (fwd : Option (List (Nat × Word))) (s : State) :
    Host.Outcome State Fault Refusal :=
  s.act fun d =>
    if !d.alive || !d.role.runs || (d.runningSlot tile.val).isSome || !(d.tile tile.val).settled then d
    else match d.nextSample tile.val with
      | some (i, x) => d.beginSample tile.val i x fwd
      | none => d

/-- SAMPLE_DEADLINE (R238, R239): the deadline of a slot's sample passes before its outputs are issued. -/
def execSampleDeadline (slot : Fin 48) (s : State) : Host.Outcome State Fault Refusal :=
  s.act fun d =>
    match d.slotImg slot.val with
    | some i => d.missDeadline i
    | none => d

/-! ### Steps (R233) -/

/-- NOP: nothing. -/
def execLoopNop (tile : Fin 144) (rep : Fin 3) (s : State) : Host.Outcome State Fault Refusal :=
  s.act fun d => d.loopStep tile rep fun _ x => (x, none)

/-- CLR: acc[D] := 0. -/
def execLoopClr (tile : Fin 144) (rep : Fin 3) (d : Fin 4) (s : State) : Host.Outcome State Fault Refusal :=
  s.act fun m => m.loopAcc tile rep d fun _ _ => 0

/-- MAC: acc[D] := sat64(acc[D] + rnd(node[A] × c_C, s_C)). -/
def execLoopMac (tile : Fin 144) (rep : Fin 3) (d : Fin 4) (a : Fin 256) (c : Fin 512) (s : State) :
    Host.Outcome State Fault Refusal :=
  s.act fun m => m.loopAcc tile rep d fun i x => x.accum d.val + rnd (x.node a.val * i.coef c.val) (i.shift c.val)

/-- MSB: acc[D] := sat64(acc[D] − rnd(node[A] × c_C, s_C)). -/
def execLoopMsb (tile : Fin 144) (rep : Fin 3) (d : Fin 4) (a : Fin 256) (c : Fin 512) (s : State) :
    Host.Outcome State Fault Refusal :=
  s.act fun m => m.loopAcc tile rep d fun i x => x.accum d.val - rnd (x.node a.val * i.coef c.val) (i.shift c.val)

/-- MACN: acc[D] := sat64(acc[D] + node[A] × node[B]). -/
def execLoopMacn (tile : Fin 144) (rep : Fin 3) (d : Fin 4) (a b : Fin 256) (s : State) :
    Host.Outcome State Fault Refusal :=
  s.act fun m => m.loopAcc tile rep d fun _ x => x.accum d.val + x.node a.val * x.node b.val

/-- ADDA: acc[D] := sat64(acc[D] + node[A] × 2^S). -/
def execLoopAdda (tile : Fin 144) (rep : Fin 3) (d : Fin 4) (a : Fin 256) (sh : Fin 32) (s : State) :
    Host.Outcome State Fault Refusal :=
  s.act fun m => m.loopAcc tile rep d fun _ x => x.accum d.val + x.node a.val * 2 ^ sh.val

/-- STA: node[D] := sat32(rnd(acc[A], S)). -/
def execLoopSta (tile : Fin 144) (rep : Fin 3) (d : Fin 256) (a : Fin 4) (sh : Fin 48) (s : State) :
    Host.Outcome State Fault Refusal :=
  s.act fun m => m.loopNode tile rep d.val .satOut fun _ x => rnd (x.accum a.val) sh.val

/-- MUL: node[D] := sat32(rnd(node[A] × c_C, s_C)). -/
def execLoopMul (tile : Fin 144) (rep : Fin 3) (d a : Fin 256) (c : Fin 512) (s : State) :
    Host.Outcome State Fault Refusal :=
  s.act fun m => m.loopNode tile rep d.val .satMul fun i x => rnd (x.node a.val * i.coef c.val) (i.shift c.val)

/-- ADD: node[D] := sat32(node[A] + node[B]). -/
def execLoopAdd (tile : Fin 144) (rep : Fin 3) (d a b : Fin 256) (s : State) : Host.Outcome State Fault Refusal :=
  s.act fun m => m.loopNode tile rep d.val .satOut fun _ x => x.node a.val + x.node b.val

/-- SUB: node[D] := sat32(node[A] − node[B]). -/
def execLoopSub (tile : Fin 144) (rep : Fin 3) (d a b : Fin 256) (s : State) : Host.Outcome State Fault Refusal :=
  s.act fun m => m.loopNode tile rep d.val .satOut fun _ x => x.node a.val - x.node b.val

/-- node[A] clamped to node[B] below and node[B + 1] above, and whether that changed it (R233, LIM). -/
def limValue (v lo hi : Int) : Int × Bool :=
  if hi < lo then (lo, v ≠ lo) else clampTo lo hi v

/-- LIM: node[D] := node[A] between node[B] and node[B + 1]. -/
def execLoopLim (tile : Fin 144) (rep : Fin 3) (d a : Fin 256) (b : Fin 255) (s : State) :
    Host.Outcome State Fault Refusal :=
  s.act fun m => m.loopStep tile rep fun _ x =>
    let (v, hit) := limValue (x.node a.val) (x.node b.val) (x.node (b.val + 1))
    (x.stepNode d.val v, flagIf hit .lim)

/-- MOV: node[D] := node[A]. -/
def execLoopMov (tile : Fin 144) (rep : Fin 3) (d a : Fin 256) (s : State) : Host.Outcome State Fault Refusal :=
  s.act fun m => m.loopStep tile rep fun _ x => (x.stepNode d.val (x.node a.val), none)

/-- LDC: node[D] := c_C. -/
def execLoopLdc (tile : Fin 144) (rep : Fin 3) (d : Fin 256) (c : Fin 512) (s : State) :
    Host.Outcome State Fault Refusal :=
  s.act fun m => m.loopStep tile rep fun i x => (x.stepNode d.val (i.coef c.val), none)

/-- SEL: node[D] := node[A] when node[B] is not 0. -/
def execLoopSel (tile : Fin 144) (rep : Fin 3) (d a b : Fin 256) (s : State) : Host.Outcome State Fault Refusal :=
  s.act fun m => m.loopStep tile rep fun _ x =>
    (if x.node b.val ≠ 0 then x.stepNode d.val (x.node a.val) else x, none)

/-- SINCOS: node[D] and node[D + 1] take the sine and the cosine. -/
def execLoopSincos (tile : Fin 144) (rep : Fin 3) (d : Fin 255) (a : Fin 256) (s : State) :
    Host.Outcome State Fault Refusal :=
  s.act fun m => m.loopStep tile rep fun _ x =>
    let (sn, cs) := sincos (BitVec.ofInt 32 (x.node a.val)).toNat
    ((x.stepNode d.val sn).stepNode (d.val + 1) cs, none)

/-- LOCK (R249): rotor-lock supervision. -/
def execLoopLock (tile : Fin 144) (rep : Fin 3) (d : Fin 256) (a : Fin 255) (c : Fin 509) (s : State) :
    Host.Outcome State Fault Refusal :=
  s.act fun m => m.loopStepThen tile rep (fun i x => (lockStep i d.val a.val c.val x, none))
    (fun i _ m => m.loopDecide tile.val i.num i)

/-- OUT: output F := node[A]; retires a loop output word. -/
def execLoopOut (tile : Fin 144) (rep : Fin 3) (a : Fin 256) (o : Fin 8) (s : State) :
    Host.Outcome State Fault Refusal :=
  s.act fun m => m.loopRetire tile rep (fun i x m =>
    m.onRep tile.val rep (fun y =>
      y.retireEffect 5 0xFF (w32 (i.num + o.val * 256)) (BitVec.ofInt 64 (x.node a.val))))

/-- FLT: a node that is not 0 raises a PROGRAM loop fault with the code. -/
def execLoopFlt (tile : Fin 144) (rep : Fin 3) (a : Fin 256) (code : Byte) (s : State) :
    Host.Outcome State Fault Refusal :=
  s.act fun m => m.loopStepThen tile rep
    (fun _ x => (if x.node a.val ≠ 0 ∧ x.fault = none then { x with fault := some code.toNat } else x, none))
    (fun i _ m => m.loopDecide tile.val i.num i)

/-- END: retires the sample-end marker and ends the sample on the replica. -/
def execLoopEnd (tile : Fin 144) (rep : Fin 3) (s : State) : Host.Outcome State Fault Refusal :=
  s.act fun m => m.loopEnd tile rep

/-! ### Timeouts and register commands (R241, R250, R261, R262) -/

/-- CATCH_TIMEOUT (R250): 250 ms without re-acquisition. -/
def execCatchTimeout (slot : Fin 48) (s : State) : Host.Outcome State Fault Refusal :=
  s.act fun d => if d.slotState slot.val = lsCatch then d.loopFault slot.val lcReacquire 0 else d

/-- HOLD_TIMEOUT (R250): 50 ms in HOLD; COAST_REACQUIRE begins with the current sample. -/
def execHoldTimeout (slot : Fin 48) (s : State) : Host.Outcome State Fault Refusal :=
  s.act fun d =>
    if d.slotState slot.val = lsHold then d.onSlot slot.val (fun x => { x with coasting := 2 }) else d

/-- LOOP_FAULT_RESET (R241). -/
def execLoopFaultReset (slot : Fin 48) (s : State) : Host.Outcome State Fault Refusal :=
  s.act fun d => d.loopFaultReset slot.val

/-- LOOP_CLEAR_FLAGS (R261). -/
def execLoopClearFlags (slot : Fin 48) (s : State) : Host.Outcome State Fault Refusal :=
  s.act fun d => d.loopClearFlags slot.val

/-- LOOP_CLEAR_STATS (R261). -/
def execLoopClearStats (slot : Fin 48) (s : State) : Host.Outcome State Fault Refusal :=
  s.act fun d => d.loopClearStats slot.val

/-- GLINK_CLEAR_COUNTS (R262). -/
def execGlinkClearCounts (link : Fin 12) (s : State) : Host.Outcome State Fault Refusal :=
  s.act fun d => d.glinkClearCounts link.val

/-! ### The awl (R257 to R259) -/

/-- AWL_ARM (R258). -/
def execAwlArm (s : State) : Host.Outcome State Fault Refusal := s.act Dev.awlArm

/-- AWL_START (R257). -/
def execAwlStart (s : State) : Host.Outcome State Fault Refusal := s.act Dev.awlStart

/-- AWL_STOP (R259). -/
def execAwlStop (s : State) : Host.Outcome State Fault Refusal := s.act Dev.awlStop

/-- AWL_ANNOUNCE (R259): the STANDBY learns the injection's first sample number and its settings. -/
def execAwlAnnounce (start : DWord) (slot : Fin 48) (inj amp freq : Word) (s : State) :
    Host.Outcome State Fault Refusal :=
  s.act fun d =>
    if d.role ≠ .standby then d
    else
      let d := (d.wr R.AWL_CTRL_SLOT slot.val).putWord 0xD4 (inj &&& 0xFFFF3FFF)
      let d := (d.putWord 0xD8 (amp &&& 0xFFFF)).putWord 0xDC freq
      d.onAwl (fun a => { a with startAt := some start, injected := 0, prbs := 0x7FFF, phase := 0 })

/-- AWL_INJECTION_END (R257): LENGTH_K × 1,024 samples have been injected. -/
def execAwlInjectionEnd (s : State) : Host.Outcome State Fault Refusal :=
  s.act fun d => match d.awlLength with
    | some n => if n ≤ d.loop.awl.injected then d.awlStopInject else d
    | none => d

/-- AWL_READ (R258, R453): captured samples, four words each. -/
def execAwlRead (req : Req) (first count : Nat) (s : State) : Host.Outcome State Fault Refusal :=
  s.act fun d => d.request rqAwlRead req fun d =>
    if d.loop.awl.buffer.length < first + count then d.refuse .badRequest
    else d.done (((d.loop.awl.buffer.drop first).take count).flatMap (fun ws => ws.flatMap (fun w => leBytes 4 w.toNat)))

end Sys2Proof.Machine
end

