-- ==== Sys2Proof/Machine/Management.lean ====
section
/-! DEFINITION. The meanings of the management plane's commands: sessions, register access, firmware,
approvals, enrolment and attestation (R445 to R466, R485). -/

namespace Sys2Proof.Machine

/-! ### Sessions (R451, R452) -/

/-- SESSION_OPEN (R452): a TLS session is accepted or refused by its certificate. -/
def execSessionOpen (hello : ClientHello) (s : State) : Host.Outcome State Fault Refusal :=
  s.act fun d =>
    if !d.alive || 16 ≤ d.mgmt.sessions.length || (d.session hello.session).isSome then d
    else if d.mgmt.blocked.any (fun p => p.1 = hello.ip) then d
    else
      let d := d.flag R.SEC_STATUS_DATES_UNCHECKED (!d.datesChecked)
      match d.admits hello with
      | none => d.authFail hello.ip
      | some (client, rights) =>
        let x : Session := { id := hello.session, client := client, rights := rights, ip := hello.ip
                             unowned := d.trust.owner.isNone, lastUse := d.now }
        let d := { d with mgmt := { d.mgmt with sessions := d.mgmt.sessions ++ [x] } }
        d.wr R.SEC_CLIENTS_SESSIONS d.mgmt.sessions.length

/-- SESSION_IDLE_TIMEOUT (R451): a session idle for 300 s is closed. -/
def execSessionIdleTimeout (session : Nat) (s : State) : Host.Outcome State Fault Refusal :=
  s.act fun d =>
    match d.session session with
    | some x => if 300 * nsPerSecond ≤ d.since x.lastUse then d.closeSession session else d
    | none => d

/-- SESSION_CLOSE (R455): the client or the network closes a session. -/
def execSessionClose (session : Nat) (s : State) : Host.Outcome State Fault Refusal :=
  s.act fun d => d.closeSession session

/-- ADDRESS_BLOCK_EXPIRY (R452): after 300 s an address is accepted again. -/
def execAddressBlockExpiry (ip : Nat) (s : State) : Host.Outcome State Fault Refusal :=
  s.act fun d =>
    let d := { d with mgmt := { d.mgmt with blocked := d.mgmt.blocked.filter (fun p =>
      p.1 ≠ ip || decide (d.since p.2 < 300 * nsPerSecond)) } }
    d.wrSat R.SEC_AUTH_FAIL_BLOCKED d.mgmt.blocked.length

/-! ### Registers (R484, R485) -/

/-- READ_REG (R485): consecutive words, each read in ascending order; a hole reads 0. -/
def execReadReg (req : Req) (offset : Word) (count : BitVec 16) (s : State) : Host.Outcome State Fault Refusal :=
  s.act fun d => d.request rqReadReg req fun d =>
    let off := offset.toNat
    let n := count.toNat
    if off % 4 ≠ 0 ∨ n = 0 ∨ 256 < n then d.refuse .badRequest
    else match spanOf off with
    | none => (d.countAccess .mgmt off false).refuse (.named "UNMAPPED")
    | some (base, _) =>
      if base + 0x10000 < off + 4 * n then d.refuse .badRequest
      else
        let r := d.readMany off n
        r.2.done (r.1.flatMap (fun w => leBytes 4 w.toNat))

/-- WRITE_REG (R485, R486): one register, at once or staged for the next cycle boundary. -/
def execWriteReg (req : Req) (offset value : Word) (s : State) : Host.Outcome State Fault Refusal :=
  s.act fun d => d.request rqWriteReg req fun d =>
    let off := offset.toNat
    if off % 4 ≠ 0 then d.refuse .badRequest
    else match spanOf off with
    | none => (d.countAccess .mgmt off true).refuse (.named "UNMAPPED")
    | some _ =>
      match regAt off with
      | none => (d.countAccess .mgmt off true).refuse (.named "READ_ONLY")
      | some _ =>
        let d := d.reportedWrite off value
        if d.mgmt.writeStatus = .ok then d.done else d.refuse d.mgmt.writeStatus

/-- STATUS_CATALOGUE (R458). -/
def execStatusCatalogue (req : Req) (s : State) : Host.Outcome State Fault Refusal :=
  s.act fun d => d.request rqStatusCatalogue req fun d => d.done Config.statusCatalogue

/-- ATTEST (R465): the report, signed with the device identity key, with its certificate chain. -/
def execAttest (req : Req) (nonce : BitVec 256) (s : State) : Host.Outcome State Fault Refusal :=
  s.act fun d => d.request rqAttest req fun d =>
    let report := d.attestReport nonce
    (d.incWrap R.SEC_ATTEST).done (report ++ Config.attestProof report)

/-- FW_UPDATE (R447): the copy that is not running is written, under an approved FIRMWARE change.
DEDUCED (log 117). -/
def execFwUpdate (req : Req) (copy : FwCopy) (s : State) : Host.Outcome State Fault Refusal :=
  s.act fun d => d.request rqFwUpdate req fun d =>
    if d.role ≠ .stopped ∧ d.role ≠ .standby then d.refuse .notPermitted
    else match d.approvedFor 4 copy.digest with
    | .error e => d.refuse e
    | .ok (k, p) =>
      let other := 1 - d.trust.fwRunning
      let d := { d with trust := { d.trust with fw := d.trust.fw.set other copy, fwFirst := other } }
      ((d.raise R.SEC_STATUS_FW_PENDING).pendState k p .consumed).done

/-- SEC_CLEAR_COUNTS (R466). -/
def execSecClearCounts (s : State) : Host.Outcome State Fault Refusal := s.act Dev.secClearCounts

/-! ### Pending changes (R460 to R462) -/

/-- PROPOSE (R460): a pending change of a kind for a subject; its ID is returned. -/
def execPropose (req : Req) (kind : Byte) (subject : BitVec 384) (s : State) : Host.Outcome State Fault Refusal :=
  s.act fun d => d.request rqPropose req fun d =>
    let kd := kind.toNat
    if kd = 0 ∨ 5 < kd then d.refuse .badRequest
    else match d.mgmt.pend.find? (fun x => x.2.open_ && x.2.kind = kd && x.2.subject = subject) with
    | some x => d.done (leBytes 4 x.2.id.toNat)
    | none =>
      match d.pendSlot with
      | none => d.refuse .pendingFull
      | some k =>
        let id := w32 (max 1 (d.rd R.SEC_PEND_NEXT))
        let p : Pending := { id := id, kind := kd, subject := subject, created := d.timeT }
        ((d.pendState k p .proposed).wr R.SEC_PEND_NEXT (id.toNat + 1)).done (leBytes 4 id.toNat)

/-- APPROVE (R461): a signed approval is added to a pending change; with two distinct live keys it becomes
APPROVED. -/
def execApprove (req : Req) (pendingId : Word) (keyIndex : Nat) (sig : Sig) (s : State) :
    Host.Outcome State Fault Refusal :=
  s.act fun d => d.request rqApprove req fun d =>
    match d.findPend pendingId with
    | none => d.refuse .unknownPending
    | some (k, p) =>
      match d.approvers[keyIndex]? with
      | none => d.refuse .approverUnknown
      | some key =>
        if !statementSigned key (d.approvalBytes p) sig then d.refuse .signatureBad
        else if p.approvals.any (fun a => a.key = key && a.live d.timeT) then d.refuse .sameApprover
        else
          let a : Approval := { keyIndex := keyIndex, key := key, sig := sig, t := d.timeT }
          let d := d.event .approval (source 14 req.client.toNat) [p.id, w32 keyIndex]
          if p.state = .approved then d.done
          else
            let p := { p with approvals := p.approvals.filter (fun x => x.live d.timeT) ++ [a] }
            if 2 ≤ p.approvals.length then
              (d.pendState k { p with approvedAt := d.timeT } .approved).done
            else (d.putPend k p).done

/-- WITHDRAW (R460). -/
def execWithdraw (req : Req) (pendingId : Word) (s : State) : Host.Outcome State Fault Refusal :=
  s.act fun d => d.request rqWithdraw req fun d =>
    match d.findPend pendingId with
    | none => d.refuse .unknownPending
    | some (k, p) => (d.pendState k p .withdrawn).done

/-- APPROVAL_LAPSE (R461): approvals older than 600 s of changes not yet approved lapse. -/
def execApprovalLapse (s : State) : Host.Outcome State Fault Refusal :=
  s.act fun d => d.mgmt.pend.foldl (fun d x =>
    if x.2.state = .proposed then
      d.putPend x.1 { x.2 with approvals := x.2.approvals.filter (fun a => a.live d.timeT) }
    else d) d

/-- PENDING_LAPSE (R460): 3,600 s after its creation without approval, or after its approval without use,
a pending change is LAPSED. -/
def execPendingLapse (pendingId : Word) (s : State) : Host.Outcome State Fault Refusal :=
  s.act fun d =>
    match d.findPend pendingId with
    | some (k, p) => if p.lapses d.timeT then d.pendState k p .lapsed else d
    | none => d

/-! ### Ownership (R448 to R450) -/

/-- CSR (R449): a certificate signing request for the TLS key. -/
def execCsr (req : Req) (s : State) : Host.Outcome State Fault Refusal :=
  s.act fun d => d.request rqCsr req fun d =>
    match d.trust.tlsKey with
    | some k => d.done (Config.csrBody k)
    | none => d.refuse .notEnrolled

/-- INSTALL_CERT (R449): a certificate that chains to the owner CA and carries the TLS key. -/
def execInstallCert (req : Req) (cert : TlsCert) (s : State) : Host.Outcome State Fault Refusal :=
  s.act fun d => d.request rqInstallCert req fun d =>
    if d.trust.tlsKey = none then d.refuse .notEnrolled
    else if !cert.chains || d.trust.tlsKey ≠ some cert.key then d.refuse .badRequest
    else ({ d with trust := { d.trust with tlsCert := some cert } }.showTrust).done

/-- The root of trust stores an enrolment record and generates the TLS key. Content of drives under
another owner's key cannot be read (R435). Minimum versions are monotonic: a record does not lower one. -/
def Dev.storeOwner (d : Dev) (r : EnrolRecord) : Dev :=
  let o : Owner := { rootKey := r.rootKey, rootFp := r.rootFp, ca := r.ca, harnessKeys := r.harnessKeys
                     approvers := r.approvers, wrapKey := r.wrapKey }
  let t := { d.trust with owner := some o, tlsKey := some (Config.tlsKey d.free), tlsCert := none
                          minSecver := if d.trust.minSecver.toNat < r.minSecver.toNat then r.minSecver else d.trust.minSecver }
  let same := d.hist.keyOf = some r.wrapKey || d.hist.keyOf = none
  let h := if same then { d.hist with keyOf := some r.wrapKey }
    else { d.hist with keyOf := some r.wrapKey, set0 := { failed := d.hist.set0.failed }
                       set1 := { failed := d.hist.set1.failed } }
  ({ d with trust := t, hist := h, free := d.free + 1 }.ownerChanged).eventM .ownerEnrolled

/-- ENROL (R449): the conditions at acceptance, then the record is stored. DEDUCED (log 115). -/
def execEnrol (req : Req) (record : EnrolRecord) (s : State) : Host.Outcome State Fault Refusal :=
  s.act fun d => d.request rqEnrol req fun d =>
    let nk := record.harnessKeys.length
    let na := record.approvers.length
    if d.role ≠ .stopped then d.refuse .notPermitted
    else if !d.on R.KEEPER_COVER_OPEN then d.refuse .presenceRequired
    else if nk = 0 ∨ 8 < nk ∨ na < 2 ∨ 16 < na ∨ recordSpelled record = false then d.refuse .badRequest
    else if !ecdsaVerify record.rootKey (sha384 record.bytes) record.rootSig then d.refuse .signatureBad
    else if !d.enrolApproved record then d.refuse .signatureBad
    else if !Config.wrapKeyUnwraps record.wrapKey then d.refuse .badRequest
    else (d.storeOwner record).done

/-- RELEASE_OWNER (R450): in STOPPED, under an approved OWNER change, every owner item is erased. -/
def execReleaseOwner (req : Req) (s : State) : Host.Outcome State Fault Refusal :=
  s.act fun d => d.request rqReleaseOwner req fun d =>
    if d.role ≠ .stopped then d.refuse .notPermitted
    else match d.approvedFor 5 d.releaseSubject with
    | .error e => d.refuse e
    | .ok (k, p) =>
      let d := d.pendState k p .consumed
      let d := { d with trust := { d.trust with owner := none, tlsKey := none, tlsCert := none } }
      let d := { d with hrn := { d.hrn with image := none } }
      let d := d.showImage.clear [R.SEC_CLIENTS_TABLE, R.SEC_REVOKED_COUNT, R.SEC_STATUS_CAK_OK]
      d.ownerChanged.done

end Sys2Proof.Machine
end

