-- ==== Sys2Proof/Machine/Rings.lean ====
section
/-! DEFINITION. The meanings of the field rings' events and commands (R342 to R361). -/

namespace Sys2Proof.Machine

/-- RING_PERIOD (R345). -/
def execRingPeriod (s : State) : Host.Outcome State Fault Refusal := s.act Dev.ringPeriod

/-- A station obeys a rank above the module's own (R333). -/
def Dev.stationOutranks (d : Dev) (n : Nat) : Bool :=
  let x := d.ring.station n
  !testBit x.obeyed.toNat 7 && d.outranked x.epoch (testBit x.obeyed.toNat 0)

/-- INPUT_FRAME (R333, R347, R349). -/
def execInputFrame (ring : Fin 2) (check : FrameCheck) (frame : RingFrame) (s : State) : Host.Outcome State Fault Refusal :=
  s.act fun d =>
    let d := d.inputFrame ring.val check frame
    if check = .good && d.on (R.RING_STATUS_SECURED ring.val) && ringType frame = 0x03 && (d.stationEntry frame.station.toNat).isSome
        && d.stationOutranks frame.station.toNat then d.yield
    else d

/-- STATION_DROPOUT (R351). -/
def execStationDropout (station : Nat) (s : State) : Host.Outcome State Fault Refusal :=
  s.act fun d => d.dropStation station

/-- RING_FRAME_FORWARD (R343). -/
def execRingFrameForward (ring : Fin 2) (check : FrameCheck) (frame : RingFrame) (s : State) :
    Host.Outcome State Fault Refusal :=
  s.act fun d => d.forwardFrame ring.val check frame

/-- RING_BREAK (R352). -/
def execRingBreak (ring : Fin 2) (s : State) : Host.Outcome State Fault Refusal := s.act fun d => d.breakRing ring.val

/-- RING_BREAK_LOCATED (R352). -/
def execRingBreakLocated (ring : Fin 2) (s : State) : Host.Outcome State Fault Refusal :=
  s.act fun d => d.locateBreak ring.val

/-- RING_RESTORED (R352). -/
def execRingRestored (ring : Fin 2) (s : State) : Host.Outcome State Fault Refusal :=
  s.act fun d => d.restoreBreak ring.val

/-- A TWIN frame, valid with a key of the association (R356): a STANDBY keeps its fragment, and acts on a message that is complete (R353). -/
def Dev.twinFrame (d : Dev) (k : Nat) (x : TwinFragment) : Dev :=
  if !d.alive then d
  else
    let d := d.onRingPort k (fun p => { p with bytes := p.bytes + x.content.length + 106, received := true })
    if !d.on (R.RING_STATUS_SECURED k) then d
    else
    let d := ((d.incWrap (R.RING_RX_FRAMES k)).incWrap (R.RING_TWIN_RX k)).onRing (fun r => { r with validAt := some d.now })
    if d.role ≠ .standby then d
    else match d.takeFragment x with
      | (none, d) => d
      | (some content, d) =>
        if x.kind = 1 then d.takeRecord (readRecord true content) else d.stitchSummary (Config.summaryOf x.cycle content)

/-- TWIN_FRAME (R353): a fragment of a forwarded record (KIND 1) or a stitch summary (2). -/
def execTwinFrame (ring : Fin 2) (kind index : Nat) (last : Bool) (cycle : DWord) (content : List Byte) (s : State) :
    Host.Outcome State Fault Refusal :=
  s.act fun d => if kind = 1 || kind = 2 then d.twinFrame ring.val ⟨kind, cycle, index, last, content⟩ else d

/-- PEER_FRAME (R354). -/
def execPeerFrame (ring : Fin 2) (check : FrameCheck) (frame : RingFrame) (s : State) : Host.Outcome State Fault Refusal :=
  s.act fun d => d.peerFrame ring.val check frame

/-- MKA_KEY_DISTRIBUTION (R355). -/
def execMkaKeyDistribution (peers : Nat) (s : State) : Host.Outcome State Fault Refusal :=
  s.act fun d => d.distributeKey peers

/-- RING_CLEAR_COUNTS and RING_CLEAR_MAX (R361). -/
def execRingClearCounts (ring : Fin 2) (s : State) : Host.Outcome State Fault Refusal :=
  s.act fun d => d.ringClearCounts ring.val
def execRingClearMax (ring : Fin 2) (s : State) : Host.Outcome State Fault Refusal :=
  s.act fun d => d.ringClearMax ring.val

end Sys2Proof.Machine
end

