-- ==== Sys2Proof/Machine/SafetyFns.lean ====
section
/-! DEFINITION. The meanings of the safety functions' commands (R290 to R305). -/

namespace Sys2Proof.Machine

/-! ### Channels (R290 to R292) -/

/-- SAFETY_CHANNEL_RUN (R290): a channel is at 11 V or above. -/
def execSafetyChannelRun (ch : Fin 56) (s : State) : Host.Outcome State Fault Refusal :=
  s.act fun d => if d.lit && d.bridle.running then d.setChannel ch.val true else d

/-- SAFETY_CHANNEL_SAFE (R290): a channel has been below 11 V for 1 ms. -/
def execSafetyChannelSafe (ch : Fin 56) (s : State) : Host.Outcome State Fault Refusal :=
  s.act fun d => if d.lit && d.bridle.running then d.setChannel ch.val false else d

/-- The channels fed from a test-pulse source with the function each belongs to; hand 2 of a TWOHAND is fed
as the entry after it says (R286). -/
def SafetySt.fedFrom (x : SafetySt) (src : Nat) : List (Nat × Nat) :=
  (List.range 24).flatMap (fun n =>
    let i := x.img n
    let own := (if i.tpA = src then [(n, 2 * n)] else []) ++ (if i.tpB = src && i.type ≠ 5 then [(n, 2 * n + 1)] else [])
    let j := x.img (n + 1)
    let hand := (if j.tpA = src then [(n, 2 * n + 2)] else []) ++ (if j.tpB = src then [(n, 2 * n + 3)] else [])
    if i.type = 0 then [] else if i.type = 3 then own ++ hand else own)

/-- TEST_PULSE_CHECK (R291): the raw levels 300 µs into the off-pulse of a source. -/
def execTestPulseCheck (tp : Fin 4) (high : BitVec 48) (s : State) : Host.Outcome State Fault Refusal :=
  s.act fun d =>
    if !d.lit || !d.bridle.running || !d.on R.POWER_FLD_GOOD then d
    else
      ((d.safety.fedFrom (tp.val + 1)).foldl (fun d p =>
        let k := if high.getLsbD p.2 then sget (fun _ => 0) d.safety.pulse p.2 + 1 else 0
        let d := d.onSafety (fun x => { x with pulse := sput (fun _ => 0) x.pulse p.2 k })
        if 2 ≤ k then d.latchFn p.1 scTestPulse else d) d).driveSafety

/-- DISCREPANCY_TICK (R292): a 0.5 ms tick of the bridle oscillator. -/
def execDiscrepancyTick (s : State) : Host.Outcome State Fault Refusal :=
  s.act fun d =>
    if d.lit && d.bridle.running then (d.each 24 (fun n d => d.discTick n)).driveSafety else d

/-- DISCREPANCY (R292): the count of a function has reached DISC_T × 10. -/
def execDiscrepancy (fn : Fin 24) (s : State) : Host.Outcome State Fault Refusal :=
  s.act fun d =>
    let i := d.safety.img fn.val
    let f := d.safety.fn fn.val
    if demands i.type && (i.discT * 10 ≤ f.count1 || (i.type = 3 && i.discT * 10 ≤ f.count2)) then
      (d.latchFn fn.val scDiscrepancy).driveSafety
    else d

/-! ### Safe stop (R298, R299) -/

/-- The supply of an encoder is in its range, unless a fault of it has been seen: then a window may show it to be back. -/
def Dev.encoderSupply (d : Dev) (e : Nat) : Dev :=
  if (d.safety.encoder e).supplyBad then
    let back := Config.encoderSupplyBack d.free
    ({ d with free := d.free + 1 }).onEnc e (fun x => { x with supplyOk := back, supplyBad := !back })
  else d.onEnc e (fun x => { x with supplyOk := true })

/-- ENCODER_SPEED_WINDOW (R299): the counts of the last 1 ms. An encoder that moves again is no longer at standstill. -/
def execEncoderSpeedWindow (enc : Fin 4) (counts : Int) (s : State) : Host.Outcome State Fault Refusal :=
  s.act fun d =>
    if !d.lit || !d.bridle.running then d
    else
      let i := d.safety.encImg enc.val
      let slow := decide (counts.natAbs * 10 ^ 6 < i.vStill * i.countsPerMm)
      let monitored := d.safety.monitored enc.val
      let d := d.encoderSupply enc.val
      let d := d.onEnc enc.val (fun x => { x with
        count := x.count + counts, speed := counts, still := if slow then x.still + 1 else 0
        state := if monitored && x.state = 2 && !slow then 1 else x.state })
      (d.each 24 (fun n d => d.stopWindow enc.val n)).driveSafety

/-- Every monitored encoder of a stop is at standstill. -/
def Dev.allStill (d : Dev) (n : Nat) : Bool :=
  (bitsOf 4 (d.safety.img n).encMask).all (fun e => (d.safety.encoder e).state = 2)

/-- STANDSTILL (R299): below V_STILL for STILL_T; a CAT1 stop whose monitored encoders all stand still removes
torque. -/
def execStandstill (enc : Fin 4) (s : State) : Host.Outcome State Fault Refusal :=
  s.act fun d =>
    let e := enc.val
    let x := d.safety.encoder e
    if !d.safety.monitored e || x.still < (d.safety.encImg e).stillT then d
    else
      let d := d.onEnc e (fun x => { x with state := 2 })
      (d.each 24 (fun n d => if (d.safety.fn n).stop.isSome && d.allStill n then d.endStop n else d)).driveSafety

/-- STOP_TIMEOUT (R298): T_MAX after the demand. -/
def execStopTimeout (fn : Fin 24) (s : State) : Host.Outcome State Fault Refusal :=
  s.act fun d =>
    match (d.safety.fn fn.val).stop with
    | some r =>
      if (d.safety.img fn.val).tMax * 10000000 ≤ d.since r.at_ then
        ((d.endStop fn.val).latchFn fn.val scStopTimeout).driveSafety
      else d
    | none => d

/-- ENCODER_FAULT (R299): a signal fault, or the supply outside ±10 %, of an encoder. -/
def execEncoderFault (enc : Fin 4) (supply : Bool) (s : State) : Host.Outcome State Fault Refusal :=
  s.act fun d =>
    if !d.lit || !d.bridle.running then d
    else
      let e := enc.val
      let d := d.onEnc e (fun x => { x with fault := true, supplyOk := x.supplyOk && !supply, supplyBad := x.supplyBad || supply })
      (d.safety.demanding.foldl (fun d n =>
        if testBit (d.safety.img n).encMask e then (d.latchFn n scEncoder).endStop n else d) d).driveSafety

/-! ### Outputs (R300, R301) -/

/-- FEEDBACK_CHANGE (R300): a filtered change of FB k. -/
def execFeedbackChange (fb : Fin 8) (run : Bool) (s : State) : Host.Outcome State Fault Refusal :=
  s.act fun d =>
    if d.lit && d.bridle.running && d.power.pinRole != Role.starting then d.setChannel (48 + fb.val) run else d

/-- FB_TIMEOUT (R300): FB k has not followed a switching within FB_T. -/
def execFbTimeout (pair : Fin 8) (s : State) : Host.Outcome State Fault Refusal :=
  s.act fun d =>
    if (d.safety.pair pair.val).expecting && d.feedbackJudged then (d.lockPair pair.val loFbTimeout).driveSafety
    else d

/-- OUTPUT_SWITCH_TEST (R301): an off-test of an energised pair, and whether it passed. -/
def execOutputSwitchTest (pair : Fin 8) (ok : Bool) (s : State) : Host.Outcome State Fault Refusal :=
  s.act fun d =>
    if (d.safety.pair pair.val).on && !ok then (d.lockPair pair.val loSwitch).driveSafety else d

/-- SWITCH_READBACK_FAULT (R301): a readback has differed from the command for 2 ms. -/
def execSwitchReadbackFault (pair : Fin 8) (s : State) : Host.Outcome State Fault Refusal :=
  s.act fun d =>
    if d.lit && d.bridle.running then (d.lockPair pair.val loSwitch).driveSafety else d

/-! ### Cross-comparison and degraded mode (R302 to R305) -/

/-- CROSS (R302): a permit bit has disagreed with the function's state for CROSS_MS. -/
def execCross (fn : Fin 24) (s : State) : Host.Outcome State Fault Refusal :=
  s.act fun d =>
    let n := fn.val
    if d.role.commanding && testBit d.bridle.permit.toNat 31 && !d.safety.degraded
        && demands (d.safety.img n).type && (testBit d.bridle.permit.toNat n != (d.safety.fn n).run) then
      (d.latchFn n scCross).driveSafety
    else d

/-- PERMIT_VALID_TIMEOUT (R303): VALID has been 0 for CROSS_MS in a commanding role. -/
def execPermitValidTimeout (s : State) : Host.Outcome State Fault Refusal :=
  s.act fun d =>
    if d.role.commanding && d.safety.defines && !testBit d.bridle.permit.toNat 31 then d.enterDegraded
    else d

/-- DEGRADED_EXPIRING (R304): 10 min before DEGR_HOURS. -/
def execDegradedExpiring (s : State) : Host.Outcome State Fault Refusal :=
  s.act fun d =>
    if d.safety.degraded && d.safety.params.isSome && !d.safety.warned && d.degradedLeft ≤ 600 then
      (d.onSafety (fun x => { x with warned := true })).event .degradedExpiring (source 0 0)
    else d

/-- DEGRADED_EXPIRED (R304): every function is SAFE with torque removed, and latches its fault. -/
def execDegradedExpired (s : State) : Host.Outcome State Fault Refusal :=
  s.act fun d =>
    if d.safety.degraded && d.safety.params.isSome && d.degradedLeft = 0 && !d.safety.lapsed then
      let d := d.onSafety (fun x => { x with
        expired := true, lapsed := true, fns := x.fns.map (fun p => (p.1, { p.2 with run := false, stop := none })) })
      let d := d.event .degradedExpired (source 0 0)
      (d.each 24 (fun n d => if (d.safety.img n).type = 0 then d else d.latchAgain n scDegradedExpired)).driveSafety
    else d

/-- SAFE_CHANNEL_BACK (R305): the permit word has been VALID and has agreed for 1 s. -/
def execSafeChannelBack (s : State) : Host.Outcome State Fault Refusal :=
  s.act fun d =>
    if d.safety.degraded && d.permitAgrees && !d.bridle.procLost then
      let d := d.onSafety (fun x => { x with degraded := false, warned := false })
      (d.event .safeChannelBack (source 0 0)).updateFns
    else d

end Sys2Proof.Machine
end

