-- ==== Sys2Proof/Machine/Stage.lean ====
section
/-! DEFINITION. The meanings of the harness slots, of staging, and of the bridle's store (R101 to R115, R289). -/

namespace Sys2Proof.Machine

/-! ### Slots (R100, R101, R453) -/

/-- SLOT_WRITE (R101). -/
def execSlotWrite (req : Req) (slot : Fin 4) (offset : Nat) (data : List Byte) (s : State) :
    Host.Outcome State Fault Refusal :=
  s.act fun d => d.request rqSlotWrite req fun d => d.slotWrite slot.val offset data

/-- SLOT_COMMIT (R100, R101). -/
def execSlotCommit (req : Req) (slot : Fin 4) (s : State) : Host.Outcome State Fault Refusal :=
  s.act fun d => d.request rqSlotCommit req fun d => d.slotCommit slot.val

/-- SLOT_READ (R453). -/
def execSlotRead (req : Req) (slot : Fin 4) (offset length : Nat) (s : State) : Host.Outcome State Fault Refusal :=
  s.act fun d => d.request rqSlotRead req fun d => d.slotRead slot.val offset length

/-! ### Staging (R104 to R115) -/

/-- STAGE (R104 to R106). -/
def execStage (req : Req) (slot : Fin 4) (s : State) : Host.Outcome State Fault Refusal :=
  s.act fun d => d.request rqStage req fun d => d.stage slot.val

/-- ABORT_STAGE (R107). -/
def execAbortStage (req : Req) (s : State) : Host.Outcome State Fault Refusal :=
  s.act fun d => d.request rqAbortStage req Dev.abortRequest

/-- PARTITION_READY (R109): a partition's shadow reserve is complete. -/
def execPartitionReady (part : Nat) (s : State) : Host.Outcome State Fault Refusal :=
  s.act fun d => d.partitionReady part

/-- STAGE_TIMEOUT (R111). -/
def execStageTimeout (s : State) : Host.Outcome State Fault Refusal := s.act Dev.stageTimeout

/-- HRN_SWITCHED (R113). -/
def execHrnSwitched (s : State) : Host.Outcome State Fault Refusal := s.act Dev.hrnSwitched

/-- SWITCH_ANNOUNCE (R112, R199, R337). -/
def execSwitchAnnounce (a : Announcement) (s : State) : Host.Outcome State Fault Refusal :=
  s.act fun d => d.announcement a

/-- STANDBY_READY_REPORT (R111, R114). -/
def execStandbyReadyReport (fp : BitVec 128) (report : StandbyReport) (s : State) : Host.Outcome State Fault Refusal :=
  s.act fun d => d.standbyReport fp report

/-- STANDBY_IMAGE_COPIED (R114, R463). -/
def execStandbyImageCopied (image : List (Nat × Byte)) (approvals : List SentApproval) (s : State) :
    Host.Outcome State Fault Refusal :=
  s.act fun d => d.imageCopied image approvals

/-- SUCCESSOR_RELOAD_DONE (R114). -/
def execSuccessorReloadDone (copy : StateCopy) (s : State) : Host.Outcome State Fault Refusal :=
  s.act fun d => d.reloadDone copy

/-- SAFETY_WRITTEN (R289): the bridle has written beside its store, and returns the CRCs of what it holds there. -/
def execSafetyWritten (crcs : List Word) (s : State) : Host.Outcome State Fault Refusal :=
  s.act fun d => d.safetyWritten crcs

end Sys2Proof.Machine
end

