-- ==== Sys2Proof/Machine/Tack.lean ====
section
/-! DEFINITION. The meanings of the tack instructions on one replica of a tile (R162, R163, R166 to R172,
R178 to R182, R490). -/

namespace Sys2Proof.Machine

/-! ### ALU, register forms -/

/-- ADD (R162): rd := ra + rb. -/
def execAdd (tile : Fin 144) (rep : Fin 3) (rd ra rb : Fin 32) (s : State) :
    Host.Outcome State Fault Refusal :=
  s.act fun d => d.tackAlu tile rep rd fun x => x.get ra + x.get rb

/-- SUB (R162): rd := ra − rb. -/
def execSub (tile : Fin 144) (rep : Fin 3) (rd ra rb : Fin 32) (s : State) :
    Host.Outcome State Fault Refusal :=
  s.act fun d => d.tackAlu tile rep rd fun x => x.get ra - x.get rb

/-- AND (R162): rd := ra and rb. -/
def execAnd (tile : Fin 144) (rep : Fin 3) (rd ra rb : Fin 32) (s : State) :
    Host.Outcome State Fault Refusal :=
  s.act fun d => d.tackAlu tile rep rd fun x => x.get ra &&& x.get rb

/-- OR (R162): rd := ra or rb. -/
def execOr (tile : Fin 144) (rep : Fin 3) (rd ra rb : Fin 32) (s : State) :
    Host.Outcome State Fault Refusal :=
  s.act fun d => d.tackAlu tile rep rd fun x => x.get ra ||| x.get rb

/-- XOR (R162): rd := ra xor rb. -/
def execXor (tile : Fin 144) (rep : Fin 3) (rd ra rb : Fin 32) (s : State) :
    Host.Outcome State Fault Refusal :=
  s.act fun d => d.tackAlu tile rep rd fun x => x.get ra ^^^ x.get rb

/-- The shift count in a register: its low 6 bits (R162). -/
def shiftCount (v : DWord) : Nat := v.toNat % 64

/-- SHL (R162): ra shifted left by rb[5:0]. -/
def execShl (tile : Fin 144) (rep : Fin 3) (rd ra rb : Fin 32) (s : State) :
    Host.Outcome State Fault Refusal :=
  s.act fun d => d.tackAlu tile rep rd fun x => x.get ra <<< shiftCount (x.get rb)

/-- SHR (R162): ra shifted right by rb[5:0], zero fill. -/
def execShr (tile : Fin 144) (rep : Fin 3) (rd ra rb : Fin 32) (s : State) :
    Host.Outcome State Fault Refusal :=
  s.act fun d => d.tackAlu tile rep rd fun x => x.get ra >>> shiftCount (x.get rb)

/-- SAR (R162): ra shifted right by rb[5:0], sign fill. -/
def execSar (tile : Fin 144) (rep : Fin 3) (rd ra rb : Fin 32) (s : State) :
    Host.Outcome State Fault Refusal :=
  s.act fun d => d.tackAlu tile rep rd fun x => (x.get ra).sshiftRight (shiftCount (x.get rb))

/-- A comparison writes 1 or 0 (R162). -/
def truth (b : Bool) : DWord := if b then 1 else 0

/-- SLT (R162): 1 if ra < rb signed, else 0. -/
def execSlt (tile : Fin 144) (rep : Fin 3) (rd ra rb : Fin 32) (s : State) :
    Host.Outcome State Fault Refusal :=
  s.act fun d => d.tackAlu tile rep rd fun x => truth ((x.get ra).slt (x.get rb))

/-- SLTU (R162): 1 if ra < rb unsigned, else 0. -/
def execSltu (tile : Fin 144) (rep : Fin 3) (rd ra rb : Fin 32) (s : State) :
    Host.Outcome State Fault Refusal :=
  s.act fun d => d.tackAlu tile rep rd fun x => truth ((x.get ra).ult (x.get rb))

/-- A signed value saturated to 64 bits (R162). -/
def sat64 (v : Int) : DWord := BitVec.ofInt 64 (max (-(2 ^ 63)) (min (2 ^ 63 - 1) v))

/-- SADD (R162): ra + rb signed, saturated. -/
def execSadd (tile : Fin 144) (rep : Fin 3) (rd ra rb : Fin 32) (s : State) :
    Host.Outcome State Fault Refusal :=
  s.act fun d => d.tackAlu tile rep rd fun x => sat64 ((x.get ra).toInt + (x.get rb).toInt)

/-- SSUB (R162): ra − rb signed, saturated. -/
def execSsub (tile : Fin 144) (rep : Fin 3) (rd ra rb : Fin 32) (s : State) :
    Host.Outcome State Fault Refusal :=
  s.act fun d => d.tackAlu tile rep rd fun x => sat64 ((x.get ra).toInt - (x.get rb).toInt)

/-- MUL (R162): the low 64 bits of the product. -/
def execMul (tile : Fin 144) (rep : Fin 3) (rd ra rb : Fin 32) (s : State) :
    Host.Outcome State Fault Refusal :=
  s.act fun d => d.tackAlu tile rep rd fun x => x.get ra * x.get rb

/-- MULH (R162): the high 64 bits of the signed product. -/
def execMulh (tile : Fin 144) (rep : Fin 3) (rd ra rb : Fin 32) (s : State) :
    Host.Outcome State Fault Refusal :=
  s.act fun d => d.tackAlu tile rep rd fun x => BitVec.ofInt 64 ((x.get ra).toInt * (x.get rb).toInt / 2 ^ 64)

/-- MULHU (R162): the high 64 bits of the unsigned product. -/
def execMulhu (tile : Fin 144) (rep : Fin 3) (rd ra rb : Fin 32) (s : State) :
    Host.Outcome State Fault Refusal :=
  s.act fun d => d.tackAlu tile rep rd fun x => BitVec.ofNat 64 ((x.get ra).toNat * (x.get rb).toNat / 2 ^ 64)

/-- Signed division truncated toward zero; by zero 0 (R163). −2^63 by −1 wraps to −2^63. -/
def divSigned (a b : DWord) : DWord := if b = 0 then 0 else BitVec.ofInt 64 (a.toInt.tdiv b.toInt)

/-- The signed remainder, with the sign of the dividend; by zero the dividend (R163). -/
def remSigned (a b : DWord) : DWord := if b = 0 then a else BitVec.ofInt 64 (a.toInt.tmod b.toInt)

/-- Unsigned division and remainder; by zero 0 and the dividend (R163). -/
def divUnsigned (a b : DWord) : DWord := if b = 0 then 0 else BitVec.ofNat 64 (a.toNat / b.toNat)
def remUnsigned (a b : DWord) : DWord := if b = 0 then a else BitVec.ofNat 64 (a.toNat % b.toNat)

/-- DIV (R162): ra / rb signed (R163). -/
def execDiv (tile : Fin 144) (rep : Fin 3) (rd ra rb : Fin 32) (s : State) :
    Host.Outcome State Fault Refusal :=
  s.act fun d => d.tackAlu tile rep rd fun x => divSigned (x.get ra) (x.get rb)

/-- DIVU (R162): ra / rb unsigned (R163). -/
def execDivu (tile : Fin 144) (rep : Fin 3) (rd ra rb : Fin 32) (s : State) :
    Host.Outcome State Fault Refusal :=
  s.act fun d => d.tackAlu tile rep rd fun x => divUnsigned (x.get ra) (x.get rb)

/-- REM (R162): the signed remainder (R163). -/
def execRem (tile : Fin 144) (rep : Fin 3) (rd ra rb : Fin 32) (s : State) :
    Host.Outcome State Fault Refusal :=
  s.act fun d => d.tackAlu tile rep rd fun x => remSigned (x.get ra) (x.get rb)

/-- REMU (R162): the unsigned remainder (R163). -/
def execRemu (tile : Fin 144) (rep : Fin 3) (rd ra rb : Fin 32) (s : State) :
    Host.Outcome State Fault Refusal :=
  s.act fun d => d.tackAlu tile rep rd fun x => remUnsigned (x.get ra) (x.get rb)

/-! ### ALU, immediate forms -/

/-- ADDI (R162): rd := ra + sext(imm16). -/
def execAddi (tile : Fin 144) (rep : Fin 3) (rd ra : Fin 32) (imm : BitVec 16) (s : State) :
    Host.Outcome State Fault Refusal :=
  s.act fun d => d.tackAlu tile rep rd fun x => x.get ra + sext16 imm

/-- ANDI (R162): rd := ra and zext(imm16). -/
def execAndi (tile : Fin 144) (rep : Fin 3) (rd ra : Fin 32) (imm : BitVec 16) (s : State) :
    Host.Outcome State Fault Refusal :=
  s.act fun d => d.tackAlu tile rep rd fun x => x.get ra &&& zext16 imm

/-- ORI (R162): rd := ra or zext(imm16). -/
def execOri (tile : Fin 144) (rep : Fin 3) (rd ra : Fin 32) (imm : BitVec 16) (s : State) :
    Host.Outcome State Fault Refusal :=
  s.act fun d => d.tackAlu tile rep rd fun x => x.get ra ||| zext16 imm

/-- XORI (R162): rd := ra xor zext(imm16). -/
def execXori (tile : Fin 144) (rep : Fin 3) (rd ra : Fin 32) (imm : BitVec 16) (s : State) :
    Host.Outcome State Fault Refusal :=
  s.act fun d => d.tackAlu tile rep rd fun x => x.get ra ^^^ zext16 imm

/-- SHLI (R162): ra shifted left by imm16[5:0]. -/
def execShli (tile : Fin 144) (rep : Fin 3) (rd ra : Fin 32) (sh : BitVec 6) (s : State) :
    Host.Outcome State Fault Refusal :=
  s.act fun d => d.tackAlu tile rep rd fun x => x.get ra <<< sh.toNat

/-- SHRI (R162): ra shifted right by imm16[5:0], zero fill. -/
def execShri (tile : Fin 144) (rep : Fin 3) (rd ra : Fin 32) (sh : BitVec 6) (s : State) :
    Host.Outcome State Fault Refusal :=
  s.act fun d => d.tackAlu tile rep rd fun x => x.get ra >>> sh.toNat

/-- SARI (R162): ra shifted right by imm16[5:0], sign fill. -/
def execSari (tile : Fin 144) (rep : Fin 3) (rd ra : Fin 32) (sh : BitVec 6) (s : State) :
    Host.Outcome State Fault Refusal :=
  s.act fun d => d.tackAlu tile rep rd fun x => (x.get ra).sshiftRight sh.toNat

/-- SLTI (R162): 1 if ra < sext(imm16) signed, else 0. -/
def execSlti (tile : Fin 144) (rep : Fin 3) (rd ra : Fin 32) (imm : BitVec 16) (s : State) :
    Host.Outcome State Fault Refusal :=
  s.act fun d => d.tackAlu tile rep rd fun x => truth ((x.get ra).slt (sext16 imm))

/-- SLTIU (R162): 1 if ra < sext(imm16) unsigned, else 0. -/
def execSltiu (tile : Fin 144) (rep : Fin 3) (rd ra : Fin 32) (imm : BitVec 16) (s : State) :
    Host.Outcome State Fault Refusal :=
  s.act fun d => d.tackAlu tile rep rd fun x => truth ((x.get ra).ult (sext16 imm))

/-- LUI (R162): rd := sext(imm16) shifted left by 16. -/
def execLui (tile : Fin 144) (rep : Fin 3) (rd : Fin 32) (imm : BitVec 16) (s : State) :
    Host.Outcome State Fault Refusal :=
  s.act fun d => d.tackAlu tile rep rd fun _ => sext16 imm <<< 16

/-! ### Loads -/

/-- LB (R162): loads a byte, sign-extended. -/
def execLb (tile : Fin 144) (rep : Fin 3) (rd ra : Fin 32) (imm : BitVec 16) (s : State) :
    Host.Outcome State Fault Refusal :=
  s.act fun d => d.tackLoad tile rep rd ra imm 1 true

/-- LBU (R162): loads a byte, zero-extended. -/
def execLbu (tile : Fin 144) (rep : Fin 3) (rd ra : Fin 32) (imm : BitVec 16) (s : State) :
    Host.Outcome State Fault Refusal :=
  s.act fun d => d.tackLoad tile rep rd ra imm 1 false

/-- LH (R162): loads 2 bytes, sign-extended. -/
def execLh (tile : Fin 144) (rep : Fin 3) (rd ra : Fin 32) (imm : BitVec 16) (s : State) :
    Host.Outcome State Fault Refusal :=
  s.act fun d => d.tackLoad tile rep rd ra imm 2 true

/-- LHU (R162): loads 2 bytes, zero-extended. -/
def execLhu (tile : Fin 144) (rep : Fin 3) (rd ra : Fin 32) (imm : BitVec 16) (s : State) :
    Host.Outcome State Fault Refusal :=
  s.act fun d => d.tackLoad tile rep rd ra imm 2 false

/-- LW (R162): loads 4 bytes, sign-extended; in device space a shared read (R169). -/
def execLw (tile : Fin 144) (rep : Fin 3) (rd ra : Fin 32) (imm : BitVec 16) (s : State) :
    Host.Outcome State Fault Refusal :=
  s.act fun d => d.tackLoad tile rep rd ra imm 4 true

/-- LWU (R162): loads 4 bytes, zero-extended; in device space a shared read (R169). -/
def execLwu (tile : Fin 144) (rep : Fin 3) (rd ra : Fin 32) (imm : BitVec 16) (s : State) :
    Host.Outcome State Fault Refusal :=
  s.act fun d => d.tackLoad tile rep rd ra imm 4 false

/-- LD (R162): loads 8 bytes. -/
def execLd (tile : Fin 144) (rep : Fin 3) (rd ra : Fin 32) (imm : BitVec 16) (s : State) :
    Host.Outcome State Fault Refusal :=
  s.act fun d => d.tackLoad tile rep rd ra imm 8 false

/-! ### Stores -/

/-- SB (R162): stores a byte; in the output window an effect of kind 0x01 (R166). -/
def execSb (tile : Fin 144) (rep : Fin 3) (rs ra : Fin 32) (imm : BitVec 16) (s : State) :
    Host.Outcome State Fault Refusal :=
  s.act fun d => d.tackStore tile rep rs ra imm 1

/-- SH (R162): stores 2 bytes. -/
def execSh (tile : Fin 144) (rep : Fin 3) (rs ra : Fin 32) (imm : BitVec 16) (s : State) :
    Host.Outcome State Fault Refusal :=
  s.act fun d => d.tackStore tile rep rs ra imm 2

/-- SW (R162): stores 4 bytes; in device space an effect of kind 0x03 (R169). -/
def execSw (tile : Fin 144) (rep : Fin 3) (rs ra : Fin 32) (imm : BitVec 16) (s : State) :
    Host.Outcome State Fault Refusal :=
  s.act fun d => d.tackStore tile rep rs ra imm 4

/-- SD (R162): stores 8 bytes; to a send channel a message word (R167). -/
def execSd (tile : Fin 144) (rep : Fin 3) (rs ra : Fin 32) (imm : BitVec 16) (s : State) :
    Host.Outcome State Fault Refusal :=
  s.act fun d => d.tackStore tile rep rs ra imm 8

/-! ### Branches and jumps -/

/-- BEQ (R162): branch if ra = rb. -/
def execBeq (tile : Fin 144) (rep : Fin 3) (ra rb : Fin 32) (off : BitVec 16) (miss : Option Nat)
    (s : State) : Host.Outcome State Fault Refusal :=
  s.act fun d => d.tackBranch tile rep ra rb off miss (fun a b => a == b)

/-- BNE (R162): branch if ra ≠ rb. -/
def execBne (tile : Fin 144) (rep : Fin 3) (ra rb : Fin 32) (off : BitVec 16) (miss : Option Nat)
    (s : State) : Host.Outcome State Fault Refusal :=
  s.act fun d => d.tackBranch tile rep ra rb off miss (fun a b => a != b)

/-- BLT (R162): branch if ra < rb signed. -/
def execBlt (tile : Fin 144) (rep : Fin 3) (ra rb : Fin 32) (off : BitVec 16) (miss : Option Nat)
    (s : State) : Host.Outcome State Fault Refusal :=
  s.act fun d => d.tackBranch tile rep ra rb off miss (fun a b => a.slt b)

/-- BGE (R162): branch if ra ≥ rb signed. -/
def execBge (tile : Fin 144) (rep : Fin 3) (ra rb : Fin 32) (off : BitVec 16) (miss : Option Nat)
    (s : State) : Host.Outcome State Fault Refusal :=
  s.act fun d => d.tackBranch tile rep ra rb off miss (fun a b => !a.slt b)

/-- BLTU (R162): branch if ra < rb unsigned. -/
def execBltu (tile : Fin 144) (rep : Fin 3) (ra rb : Fin 32) (off : BitVec 16) (miss : Option Nat)
    (s : State) : Host.Outcome State Fault Refusal :=
  s.act fun d => d.tackBranch tile rep ra rb off miss (fun a b => a.ult b)

/-- BGEU (R162): branch if ra ≥ rb unsigned. -/
def execBgeu (tile : Fin 144) (rep : Fin 3) (ra rb : Fin 32) (off : BitVec 16) (miss : Option Nat)
    (s : State) : Host.Outcome State Fault Refusal :=
  s.act fun d => d.tackBranch tile rep ra rb off miss (fun a b => !a.ult b)

/-- J (R162): jump to PC + sext(off26) × 4. -/
def execJump (tile : Fin 144) (rep : Fin 3) (off : BitVec 26) (s : State) : Host.Outcome State Fault Refusal :=
  s.act fun d => d.tackStep tile rep fun _ x => x.jump (relTarget x.core.pc off.toInt)

/-- JAL (R162): g31 := PC + 4, then as J. -/
def execJal (tile : Fin 144) (rep : Fin 3) (off : BitVec 26) (s : State) : Host.Outcome State Fault Refusal :=
  s.act fun d => d.tackStep tile rep fun _ x =>
    (x.put 31 ((x.core.pc + 4).setWidth 64)).jump (relTarget x.core.pc off.toInt)

/-- JALR (R162): rd := PC + 4; PC := the low 32 bits of ra + sext(imm16). A target outside the code area raises ACCESS,
and one that is not a multiple of 4 ALIGN; rd is then unchanged (R490). -/
def execJalr (tile : Fin 144) (rep : Fin 3) (rd ra : Fin 32) (imm : BitVec 16) (miss : Option Nat) (s : State) :
    Host.Outcome State Fault Refusal :=
  s.act fun d => d.tackStep tile rep fun _ x =>
    let target := effAddr (x.get ra) imm
    if target < 0x20000 ∧ target % 4 ≠ 0 then .raise causeAlign (BitVec.ofNat 64 target) none
    else ((x.mispredict miss).put rd ((x.core.pc + 4).setWidth 64)).jump (w32 target)

/-! ### System -/

/-- FENCE (R162, R173): the store buffer is empty after it. -/
def execFence (tile : Fin 144) (rep : Fin 3) (s : State) : Host.Outcome State Fault Refusal :=
  s.act fun d => d.tackStep tile rep fun _ x => .ok x.drain.next

/-- ENDC (R162, R166): the store buffer drains, the cycle-end marker is retired, and the task instance
ends on the replica. -/
def execEndc (tile : Fin 144) (rep : Fin 3) (s : State) : Host.Outcome State Fault Refusal :=
  s.act fun d => d.tackStep tile rep fun c x =>
    if 16 ≤ c.held then .stall
    else
      let x := x.drain
      let x := { x with core := { x.core with running := false } }
      .ok (x.next.retireEffect 0x0F 0xFF 0 (BitVec.ofNat 64 c.run.release))

/-- The instruction word of RFE. -/
def rfeWord : Word := 0xC0000002

/-- RFE (R182): the checks in their order, then the return from the exception. -/
def execRfe (tile : Fin 144) (rep : Fin 3) (s : State) : Host.Outcome State Fault Refusal :=
  s.act fun d => d.tackStep tile rep fun c x =>
    let sp := x.core.get 30
    if x.core.depth = 0 then .raise causeIllegal (rfeWord.setWidth 64) none
    else if sp.toNat % 16 ≠ 0 then .raise causeAlign sp none
    else if !c.part.inData sp.toNat 128 then .raise causeAccess sp none
    else
      let x := x.drain
      let at_ (k : Nat) : DWord := BitVec.ofNat 64 (Memory.readLe x.sram (sp.toNat + 8 * k) 8)
      let core := (List.range 11).foldl
        (fun (k : Core) n => { k with g := sput (fun _ => 0) k.g (n + 1) (at_ (5 + n)) }) x.core
      let core := (core.put 31 (at_ 4)).put 30 (sp + 128)
      .ok { x with core := { core with
              pc := w32 (x.core.epc.toNat / 4 * 4), epc := at_ 0, ecause := at_ 1, eval := at_ 2
              depth := x.core.depth - 1 } }

/-- RDTIME (R171): the running time T, as a shared read. -/
def execRdtime (tile : Fin 144) (rep : Fin 3) (rd : Fin 32) (s : State) : Host.Outcome State Fault Refusal :=
  s.act fun d => d.tackStep tile rep fun _ x => .wait { x with pending := some ⟨.rdtime, 0, rd.val⟩ }

/-- RDSR (R170): reads a special register; an unlisted number raises ILLEGAL. -/
def execRdsr (tile : Fin 144) (rep : Fin 3) (rd num : Fin 32) (s : State) : Host.Outcome State Fault Refusal :=
  s.act fun d => d.tackStep tile rep fun c x =>
    match c.special x num.val with
    | some v => .ok ((x.put rd v).next)
    | none => .raise causeIllegal ((wordR 0x30 rd 0 num 0x004).setWidth 64) none

/-- WRSR (R170): writes a special register; one that is not writable raises ILLEGAL. Only EPC is writable. -/
def execWrsr (tile : Fin 144) (rep : Fin 3) (ra num : Fin 32) (s : State) : Host.Outcome State Fault Refusal :=
  s.act fun d => d.tackStep tile rep fun _ x =>
    if num.val = 4 then .ok { x with core := { x.core with epc := x.get ra } }.next
    else .raise causeIllegal ((wordR 0x30 0 ra num 0x005).setWidth 64) none

/-- TRAP (R162): raises TRAP with EVAL := zext(imm16). -/
def execTrap (tile : Fin 144) (rep : Fin 3) (imm : BitVec 16) (s : State) : Host.Outcome State Fault Refusal :=
  s.act fun d => d.tackStep tile rep fun _ _ => .raise causeTrap (zext16 imm) none

/-- ILLEGAL_INSTRUCTION (R159): a word that no row lists raises ILLEGAL, with the word in EVAL. A word that
decodes is another command's. -/
def execIllegalInstruction (tile : Fin 144) (rep : Fin 3) (word : Word) (s : State) :
    Host.Outcome State Fault Refusal :=
  s.act fun d =>
    if (tackDecode tile rep word).isSome then d
    else d.tackStep tile rep fun _ _ => .raise causeIllegal (word.setWidth 64) none

/-! ### Performance counters (R176) -/

/-- PERF_SELECT (R176): a write of a selection clears VALID. -/
def execPerfSelect (value : Word) (s : State) : Host.Outcome State Fault Refusal :=
  s.act fun d => if d.alive then d.writeReg .mgmt 0xA0 (value &&& 0x7FFFFFFF) else d

/-- PERF_DATA_VALID (R176): within 1 µs the selected counter is loaded and VALID is set. -/
def execPerfDataValid (s : State) : Host.Outcome State Fault Refusal :=
  s.act fun d => if d.alive then d.perfLoad else d

/-- PERF_CLEAR (R176): the selection in the write takes effect, and the selected counter is zeroed. -/
def execPerfClear (value : Word) (s : State) : Host.Outcome State Fault Refusal :=
  s.act fun d => if d.alive then d.writeReg .mgmt 0xA0 (value ||| 0x80000000) else d

end Sys2Proof.Machine
end

