-- ==== Sys2Proof/Machine/TimeBase.lean ====
section
/-! DEFINITION. The meanings of the time base's commands and of the reads that latch (R362 to R379, R488). -/

namespace Sys2Proof.Machine

/-! ### Samples (R369 to R374) -/

/-- PTP_SAMPLE (R373): a PTP offset computation. A sample whose transmit stamp was discarded is invalid.
PRESUMED (log 98). -/
def execPtpSample (ref : DWord) (stampOk : Bool) (delayNs : Word) (stepsRemoved : Nat) (utcOffset : Int)
    (s : State) : Host.Outcome State Fault Refusal :=
  s.act fun d =>
    if !d.alive then d
    else
      let d := ((d.wr R.TIME_PTP_DELAY delayNs.toNat).wrSat R.TIME_PTP_STATUS_STEPS_REMOVED stepsRemoved).wrInt
        R.TIME_PTP_STATUS_UTC_OFFSET utcOffset
      let d := (d.wr R.TIME_PTP_STATUS_PORT_STATE 9).raise R.TIME_STATUS_PTP_SLAVE
      if d.rd R.TIME_CONFIG_SOURCE ≠ 1 then d
      else if stampOk then d.presentSample ref
      else d.incSat R.TIME_SAMPLES_REJECTED

/-- The second that labels an edge under SOURCE 3: the one SET_TIME gave for the first valid edge more
than 100 ms after it, and counted on from there (R372). -/
def Dev.ppsLabel (d : Dev) : Option DWord × Dev :=
  let given := d.time.setTime.filter (fun g => 100000000 < d.since g.2)
  match given, d.time.label with
  | some g, _ => (some g.1, d.onTime (fun t => { t with setTime := none, label := some (g.1, t.counter) }))
  | none, some (sec, c) =>
    let n := sec + BitVec.ofNat 64 ((d.since c + nsPerSecond / 2) / nsPerSecond)
    (some n, d.onTime (fun t => { t with label := some (n, t.counter) }))
  | none, none => (none, d)

/-- PPS_EDGE (R374): a rising edge on PPS_IN of a pulse width, with the PTP time at the edge. -/
def execPpsEdge (widthNs : Nat) (ptpTime : DWord) (s : State) : Host.Outcome State Fault Refusal :=
  s.act fun d =>
    if !d.alive then d
    else if widthNs < 1000 ∨ 500000000 < widthNs then d.incSat R.TIME_PPS_BAD
    else
      let prev := d.time.ppsPrev
      let d := d.onTime (fun t => { t with ppsPrev := some t.counter })
      let src := d.rd R.TIME_CONFIG_SOURCE
      let inTime := match prev with
        | some c => 999800000 ≤ d.since c && d.since c ≤ 1000200000
        | none => false
      let off := ptpTime.toNat % nsPerSecond
      let onSecond := src ≠ 2 || off ≤ 100000 || nsPerSecond - 100000 ≤ off
      if !(inTime && onSecond) then d.incSat R.TIME_PPS_BAD
      else
        let d := (d.incWrap R.TIME_PPS_EDGES).wr64 R.TIME_PPS_CAP_LO R.TIME_PPS_CAP_HI d.now
        if src = 2 then
          d.presentSample (BitVec.ofNat 64 ((ptpTime.toNat + nsPerSecond / 2) / nsPerSecond * nsPerSecond))
        else if src = 3 then
          match d.ppsLabel with
          | (some sec, d) => d.presentSample (sec * BitVec.ofNat 64 nsPerSecond)
          | (none, d) => d
        else d

/-- The valid sample that waits is used. -/
def Dev.takeSample (d : Dev) : Dev :=
  match d.time.sample with
  | some x => (d.onTime (fun t => { t with sample := none })).useSample x
  | none => d

/-- TIME_SAMPLE (R368, R369, R370): the valid sample that waits is used; while a rebase is pending it goes on waiting (R378). -/
def execTimeSample (s : State) : Host.Outcome State Fault Refusal :=
  s.act fun d => if d.time.rebase.isSome then d else d.takeSample

/-- REBASE (R364): at c1 the offset, c0 and the rate are replaced together; then a sample that waits is used (R378). -/
def execRebase (s : State) : Host.Outcome State Fault Refusal :=
  s.act fun d => if d.time.rebase.isSome then d.rebaseTime.takeSample else d

/-- TIME_HOLDOVER (R371): no valid sample for 3 intervals. A qualification begins again (R378). -/
def execTimeHoldover (s : State) : Host.Outcome State Fault Refusal :=
  s.act fun d =>
    let d := (d.drop R.TIME_STATUS_REF_VALID).onTime (fun t => { t with qual := none })
    if d.rd R.TIME_STATUS_STATE = tsTracking then
      let d := d.onTime (fun t => { t with rebase := none, heldSince := some t.counter })
      (d.wr R.TIME_STATUS_STATE tsHoldover).event .timeHoldover (source 12 0)
    else d

/-- FOLLOWING_UPDATE (R375): each 1 ms, one servo sample from the mean following error. -/
def execFollowingUpdate (s : State) : Host.Outcome State Fault Refusal := s.act Dev.followTime

/-- TIME_JOURNAL (R367): every 10 s the current T is written to the flash journal. -/
def execTimeJournal (s : State) : Host.Outcome State Fault Refusal :=
  s.act fun d => if d.alive then d.flashWrite (fun d => d.onTime (fun t => { t with journalT := some (t.at_ t.counter) })) else d

/-! ### PTP ports (R373) -/

/-- PTP_ANNOUNCE_TIMEOUT (R373): PTP moves to the secondary port, where one is set. -/
def execPtpAnnounceTimeout (s : State) : Host.Outcome State Fault Refusal :=
  s.act fun d =>
    let sec := d.rd R.TIME_PTP_CONFIG_SECONDARY
    if !d.alive then d
    else
      let d := (d.wr R.TIME_PTP_STATUS_PORT_STATE 4).drop R.TIME_STATUS_PTP_SLAVE
      if sec = 7 then d else d.wr R.TIME_PTP_STATUS_PORT sec

/-- PTP_MOVE_BACK (R373): the primary port has been valid for the same time, and PTP moves back. -/
def execPtpMoveBack (s : State) : Host.Outcome State Fault Refusal :=
  s.act fun d => if d.alive then d.wr R.TIME_PTP_STATUS_PORT (d.rd R.TIME_PTP_CONFIG_PRIMARY) else d

/-! ### Commands (R367, R372) -/

/-- TIME_RESTART (R367): acted on only in STOPPED or STANDBY; a request in another role returns
NOT_PERMITTED and a register write is ignored. -/
def execTimeRestart (req : Option Req) (s : State) : Host.Outcome State Fault Refusal :=
  s.act fun d =>
    match req with
    | none => d.timeRestartCmd
    | some r => d.request rqTimeRestart r fun d =>
      if d.role = .stopped ∨ d.role = .standby then (d.restartTime false).done else d.refuse .notPermitted

/-- SET_TIME (R372): the TAI second of the first valid edge more than 100 ms after the request. -/
def execSetTime (req : Req) (second : DWord) (s : State) : Host.Outcome State Fault Refusal :=
  s.act fun d => d.request rqSetTime req fun d =>
    (d.onTime (fun t => { t with setTime := some (second, t.counter) })).done

/-! ### Transmit stamps (R376) -/

/-- Shows the oldest entry of the stamp queue. -/
def Dev.showTsq (d : Dev) : Dev :=
  let d := d.wr R.TIME_TSQ_STATUS_LEVEL d.time.tsq.length
  match d.time.tsq with
  | x :: _ =>
    let d := ((d.wr R.TIME_TSQ_ID_FRAME_ID x.frameId.toNat).wr R.TIME_TSQ_ID_PORT x.port).raise R.TIME_TSQ_ID_VALID
    d.wr64 R.TIME_TSQ_LO R.TIME_TSQ_HI x.t
  | [] => d.clear [R.TIME_TSQ_ID_FRAME_ID, R.TIME_TSQ_ID_PORT, R.TIME_TSQ_ID_VALID, R.TIME_TSQ_LO, R.TIME_TSQ_HI]

/-- TX_TIMESTAMP (R376): a sent PTP message's stamp enters the queue of 32, or is discarded. -/
def execTxTimestamp (frameId : BitVec 16) (port : Fin 5) (s : State) : Host.Outcome State Fault Refusal :=
  s.act fun d =>
    if !d.alive then d
    else if d.time.tsq.length < 32 then
      (d.onTime (fun t => { t with tsq := t.tsq ++ [⟨frameId, port.val, t.at_ t.counter⟩] })).showTsq
    else
      let d := (d.raise R.TIME_TSQ_STATUS_OVERFLOW).incSat R.TIME_TSQ_STATUS_DISCARDED
      let due := match d.time.tsqWarned with | some c => nsPerSecond ≤ d.since c | none => true
      d.when due (fun d =>
        (d.event .tsqOverflow (source 12 0)).onTime (fun t => { t with tsqWarned := some t.counter }))

/-- TSQ_REMOVE (R376): the PTP engine removes the oldest entry. -/
def execTsqRemove (s : State) : Host.Outcome State Fault Refusal :=
  s.act fun d => (d.onTime (fun t => { t with tsq := t.tsq.drop 1 })).showTsq

/-- TIME_CLEAR_OVERFLOW (R379). -/
def execTimeClearOverflow (s : State) : Host.Outcome State Fault Refusal := s.act Dev.timeClearOverflow

/-- TIME_CLEAR_MAX (R379). -/
def execTimeClearMax (s : State) : Host.Outcome State Fault Refusal := s.act Dev.timeClearMax

/-- TIME_CLEAR_COUNTS (R379). -/
def execTimeClearCounts (s : State) : Host.Outcome State Fault Refusal := s.act Dev.timeClearCounts

/-! ### Reads that latch (R488) -/

/-- TIME_T_LO: returns T and latches `TIME.T_HI` on its path. -/
def execTimeTLo (path : Path) (s : State) : Host.Outcome State Fault Refusal :=
  s.act fun d => d.readShown path 0x320010

/-- TIME_COUNT_LO: latches `TIME.COUNT_HI`. -/
def execTimeCountLo (path : Path) (s : State) : Host.Outcome State Fault Refusal :=
  s.act fun d => d.readShown path 0x320018

/-- TIME_OFFSET_LO: latches OFFSET_HI, C0 and RATE as one set. -/
def execTimeOffsetLo (path : Path) (s : State) : Host.Outcome State Fault Refusal :=
  s.act fun d => d.readShown path 0x320020

/-- TIME_STEP_LO: latches `TIME.STEP_HI`. -/
def execTimeStepLo (path : Path) (s : State) : Host.Outcome State Fault Refusal :=
  s.act fun d => d.readShown path 0x320040

/-- TIME_PPS_CAP_LO: latches `TIME.PPS_CAP_HI`. -/
def execTimePpsCapLo (path : Path) (s : State) : Host.Outcome State Fault Refusal :=
  s.act fun d => d.readShown path 0x320050

/-- CYCLE_NUM_LO: latches `MOD.CYCLE_NUM_HI`. -/
def execCycleNumLo (path : Path) (s : State) : Host.Outcome State Fault Refusal :=
  s.act fun d => d.readShown path 0xC4

/-- TAKE_T_LO: latches `TWIN.TAKE_T_HI`. -/
def execTakeTLo (path : Path) (s : State) : Host.Outcome State Fault Refusal :=
  s.act fun d => d.readShown path 0x310038

/-- CAN_TX_T_LO: latches `CAN.TX_T_HI` of the port. -/
def execCanTxTLo (path : Path) (port : Fin 4) (s : State) : Host.Outcome State Fault Refusal :=
  s.act fun d => d.readShown path (0x500080 + port.val * 0x1000)

/-- HIST_OLDEST_LO: latches `HIST.OLDEST_HI`. -/
def execHistOldestLo (path : Path) (s : State) : Host.Outcome State Fault Refusal :=
  s.act fun d => d.readShown path 0x410028

/-- SEAL_T_LO: latches `LIFE.SEAL_T_HI`. -/
def execSealTLo (path : Path) (s : State) : Host.Outcome State Fault Refusal :=
  s.act fun d => d.readShown path 0x900014

/-- CERT_EXP_LO: latches `SEC.CERT_EXP_HI`. -/
def execCertExpLo (path : Path) (s : State) : Host.Outcome State Fault Refusal :=
  s.act fun d => d.readShown path 0x800048

/-- UPTIME_LO: latches `MOD.UPTIME_HI`. -/
def execUptimeLo (path : Path) (s : State) : Host.Outcome State Fault Refusal :=
  s.act fun d => d.readShown path 0x14

end Sys2Proof.Machine
end

