-- ==== Sys2Proof/Machine/Triads.lean ====
section
/-! DEFINITION. The meanings of the triad's events: rounds, shared reads, events, the voter, stitches, SRAM errors
and reintegration (R125 to R154). -/

namespace Sys2Proof.Machine

/-- A frame that a forwarded record names and this STANDBY has not received is a divergence (R328). -/
def Dev.declareMissing (d : Dev) : Dev :=
  match d.twin.divergeDue with
  | some c => (d.onTwin (fun t => { t with divergeDue := none })).diverge c [] []
  | none => d

/-- AGREEMENT_ROUND (R132, R133, R135): the contributions of a tile's replicas are settled. -/
def execAgreementRound (tile : Fin 144) (a b c : Option Contribution) (s : State) :
    Host.Outcome State Fault Refusal :=
  s.act fun d => (d.agreementRound tile.val a b c).declareMissing

/-- ROUND_TIMEOUT (R134): a contribution is missing 5 µs after the first. -/
def execRoundTimeout (tile : Fin 144) (a b c : Option Contribution) (s : State) :
    Host.Outcome State Fault Refusal :=
  s.act fun d => (d.roundTimeout tile a b c).declareMissing

/-- SHARED_READ (R127): the reads of the replicas in service are compared, and one read is made. -/
def execSharedRead (tile : Fin 144) (s : State) : Host.Outcome State Fault Refusal :=
  s.act fun d => d.sharedRead tile

/-- SHARED_READ_TIMEOUT (R127): a read is still missing after 5 µs. -/
def execSharedReadTimeout (tile : Fin 144) (s : State) : Host.Outcome State Fault Refusal :=
  s.act fun d => d.sharedReadTimeout tile

/-- EVENT_DELIVERY (R128, R195): a release enters the replicas at one retired-instruction count. -/
def execEventDelivery (tile : Fin 144) (s : State) : Host.Outcome State Fault Refusal :=
  s.act fun d => d.eventDelivery tile

/-- EVENT_TIMEOUT (R128): a replica has not reached the agreed count within 5 µs. -/
def execEventTimeout (tile : Fin 144) (rep : Fin 3) (s : State) : Host.Outcome State Fault Refusal :=
  s.act fun d => d.eventTimeout tile rep

/-- VOTER_ENTRY (R136 to R139): the next effect of a replica reaches the voter. -/
def execVoterEntry (tile : Fin 144) (rep : Fin 3) (s : State) : Host.Outcome State Fault Refusal :=
  s.act fun d => d.voterEntry tile rep

/-- VOTER_TIMEOUT (R137, R139): an entry is still missing after 5 µs. -/
def execVoterTimeout (tile : Fin 144) (s : State) : Host.Outcome State Fault Refusal :=
  s.act fun d => d.voterTimeout tile

/-- STITCH_DELIVER (R143): a replica delivers a window's stitch. -/
def execStitchDeliver (tile : Fin 144) (rep : Fin 3) (s : State) : Host.Outcome State Fault Refusal :=
  s.act fun d => d.stitchDeliver tile rep

/-- STITCH_TIMEOUT (R143): a stitch is missing 5 µs after the second. -/
def execStitchTimeout (tile : Fin 144) (rep : Fin 3) (s : State) : Host.Outcome State Fault Refusal :=
  s.act fun d => d.stitchTimeout tile rep

/-- SRAM_UNCORR (R145, R154): an uncorrectable SRAM error makes the replica odd. -/
def execSramUncorr (tile : Fin 144) (rep : Fin 3) (s : State) : Host.Outcome State Fault Refusal :=
  s.act fun d => d.sramUncorr tile rep

/-- SRAM_CORRECTED (R88): a corrected SRAM error is counted. -/
def execSramCorrected (tile : Fin 144) (rep : Fin 3) (s : State) : Host.Outcome State Fault Refusal :=
  s.act fun d => if d.lit then d.incSat (eccFld tile.val rep) else d

/-- REINTEGRATION_DONE (R148, R149): the copy to a halted replica of a TRIAD tile ends. -/
def execReintegrationDone (tile : Fin 144) (ok : Bool) (s : State) : Host.Outcome State Fault Refusal :=
  s.act fun d => d.reintegrationDone tile ok

/-- LOOP_REINTEGRATION_DONE (R150): a replica of a LOOP tile rejoins at a sample boundary. -/
def execLoopReintegrationDone (tile : Fin 144) (ok : Bool) (s : State) : Host.Outcome State Fault Refusal :=
  s.act fun d => d.loopReintegrationDone tile ok

end Sys2Proof.Machine
end

