-- ==== Sys2Proof/Machine/Twin.lean ====
section
/-! DEFINITION. The meanings of the twin's events and commands (R317 to R341). -/

namespace Sys2Proof.Machine

/-- HEARTBEAT_SEND (R320 to R322). -/
def execHeartbeatSend (s : State) : Host.Outcome State Fault Refusal := s.act Dev.sendBeat

/-- HEARTBEAT (R320, R322): on the girth link (0), ring A (1) or ring B (2). DESIGN CHOICE (log 128). -/
def execHeartbeat (path : Fin 3) (beat : Beat) (s : State) : Host.Outcome State Fault Refusal :=
  s.act fun d => d.heartbeat path.val beat

/-- PATH_SILENT (R323, R332): the girth path (0) or the ring path (1). -/
def execPathSilent (path : Fin 2) (s : State) : Host.Outcome State Fault Refusal :=
  s.act fun d => d.pathSilent (path.val = 0)

/-- RING_RX_SILENT (R333). -/
def execRingRxSilent (s : State) : Host.Outcome State Fault Refusal := s.act Dev.ringRxSilent

/-- FORWARDED_RECORD (R327): the record is held, and the shadow cycle or release that waits for it begins. -/
def Dev.forwarded (d : Dev) (r : FwdRecord) (dataBusy : Bool) : Dev :=
  let d := d.takeRecord r
  if d.role ≠ .standby then d
  else if d.on R.CYCLE_STATUS_FALLBACK then d
  else d.cycleBoundary dataBusy
def execForwardedRecord (bytes : List Byte) (dataBusy : Bool) (s : State) : Host.Outcome State Fault Refusal :=
  s.act fun d => d.forwarded (readRecord false bytes) dataBusy

/-- FORWARD_LATE (R328). -/
def execForwardLate (s : State) : Host.Outcome State Fault Refusal := s.act Dev.forwardLate

/-- STITCH_SUMMARY (R328). -/
def execStitchSummary (summary : Summary) (s : State) : Host.Outcome State Fault Refusal :=
  s.act fun d => d.stitchSummary summary

/-- STATE_COPY_DONE (R330, R406). -/
def execStateCopyDone (copy : StateCopy) (s : State) : Host.Outcome State Fault Refusal :=
  s.act fun d => d.stateCopyDone copy

/-- STATE_COPY_FAILED (R329). -/
def execStateCopyFailed (s : State) : Host.Outcome State Fault Refusal := s.act Dev.stateCopyFailed

/-- COPY_NOW (R341). -/
def execCopyNow (s : State) : Host.Outcome State Fault Refusal := s.act Dev.copyNow

/-- TWIN_CLEAR_COUNTS (R341). -/
def execTwinClearCounts (s : State) : Host.Outcome State Fault Refusal := s.act Dev.twinClearCounts

/-- ROLE_SWAP (R337). -/
def execRoleSwap (req : Req) (hold : Bool) (s : State) : Host.Outcome State Fault Refusal :=
  s.act fun d => d.request rqRoleSwap req fun d => d.roleSwap hold

/-- MIXED_MINUTE (R338). -/
def execMixedMinute (s : State) : Host.Outcome State Fault Refusal := s.act Dev.mixedMinute

/-- SUCCESSOR_EXPIRED (R338). -/
def execSuccessorExpired (s : State) : Host.Outcome State Fault Refusal := s.act Dev.successorExpired

/-- GIRTH_LINK_TRAINED (R331): the link is up, with the measured one-way delay in units of 10 ns. -/
def execGirthLinkTrained (delay : Byte) (s : State) : Host.Outcome State Fault Refusal :=
  s.act fun d => if d.alive then (d.raise R.TWIN_GIRTH_LINK_UP).wr R.TWIN_GIRTH_DELAY delay.toNat else d

end Sys2Proof.Machine
end

