-- ==== Sys2Proof/Machine/Dispatch.lean ====
section
/-! DEFINITION. One arm per command: each arm is one direct call of the command's meaning. -/

namespace Sys2Proof.Machine

/-- The effect of a command on everything but the queue. -/
def exec (i : Instr) (s : State) : Host.Outcome State Fault Refusal :=
  match i with
  | .registerWrite path offset value => Sys2Proof.Machine.execRegisterWrite path offset value s
  | .enterSafetyMaint req => Sys2Proof.Machine.execEnterSafetyMaint req s
  | .leaveSafetyMaint req => Sys2Proof.Machine.execLeaveSafetyMaint req s
  | .seatedLoopClose => Sys2Proof.Machine.execSeatedLoopClose s
  | .electronicsPowerOn => Sys2Proof.Machine.execElectronicsPowerOn s
  | .seatedLoopOpen => Sys2Proof.Machine.execSeatedLoopOpen s
  | .moduleReset cause => Sys2Proof.Machine.execModuleReset cause s
  | .positionSampleAttempt first second third => Sys2Proof.Machine.execPositionSampleAttempt first second third s
  | .positionPinSample pins => Sys2Proof.Machine.execPositionPinSample pins s
  | .keeperSample switches => Sys2Proof.Machine.execKeeperSample switches s
  | .feedGood feed => Sys2Proof.Machine.execFeedGood feed s
  | .feedLost feed => Sys2Proof.Machine.execFeedLost feed s
  | .feedOvervoltage feed => Sys2Proof.Machine.execFeedOvervoltage feed s
  | .feedDip feed => Sys2Proof.Machine.execFeedDip feed s
  | .powerFailCommit => Sys2Proof.Machine.execPowerFailCommit s
  | .pfCycleEnd => Sys2Proof.Machine.execPfCycleEnd s
  | .pfRetainSaved => Sys2Proof.Machine.execPfRetainSaved s
  | .pfJournalWritten => Sys2Proof.Machine.execPfJournalWritten s
  | .holdupExhausted => Sys2Proof.Machine.execHoldupExhausted s
  | .holdupCharged cap => Sys2Proof.Machine.execHoldupCharged cap s
  | .fldGood => Sys2Proof.Machine.execFldGood s
  | .fldLost => Sys2Proof.Machine.execFldLost s
  | .fldFuse => Sys2Proof.Machine.execFldFuse s
  | .fldReclose => Sys2Proof.Machine.execFldReclose s
  | .coldStartWaitEnd => Sys2Proof.Machine.execColdStartWaitEnd s
  | .bridleStartChecks cause ms => Sys2Proof.Machine.execBridleStartChecks cause ms s
  | .harnessBootSelect => Sys2Proof.Machine.execHarnessBootSelect s
  | .clusterPowerUp cluster => Sys2Proof.Machine.execClusterPowerUp cluster s
  | .clusterPower cluster => Sys2Proof.Machine.execClusterPower cluster s
  | .startSelfTestDone findings => Sys2Proof.Machine.execStartSelfTestDone findings s
  | .clustersLoaded => Sys2Proof.Machine.execClustersLoaded s
  | .listenWindowEnd partnerSlot => Sys2Proof.Machine.execListenWindowEnd partnerSlot s
  | .standbyWaitTimeout => Sys2Proof.Machine.execStandbyWaitTimeout s
  | .thermalSample sensor tenths => Sys2Proof.Machine.execThermalSample sensor tenths s
  | .thermalStop => Sys2Proof.Machine.execThermalStop s
  | .thermalReset => Sys2Proof.Machine.execThermalReset s
  | .dioGroupEnable => Sys2Proof.Machine.execDioGroupEnable s
  | .flitReceive tile port flit ok => Sys2Proof.Machine.execFlitReceive tile port flit ok s
  | .linkFailed tile dir => Sys2Proof.Machine.execLinkFailed tile dir s
  | .linkDegraded tile dir => Sys2Proof.Machine.execLinkDegraded tile dir s
  | .portCompletionTimeout tile port => Sys2Proof.Machine.execPortCompletionTimeout tile port s
  | .paceWindow cluster periods => Sys2Proof.Machine.execPaceWindow cluster periods s
  | .paceSlow cluster monitor => Sys2Proof.Machine.execPaceSlow cluster monitor s
  | .railSample cluster mv tj => Sys2Proof.Machine.execRailSample cluster mv tj s
  | .fabClearMax cluster => Sys2Proof.Machine.execFabClearMax cluster s
  | .fabClearCounts cluster => Sys2Proof.Machine.execFabClearCounts cluster s
  | .linkTest cluster failing => Sys2Proof.Machine.execLinkTest cluster failing s
  | .slotWrite req slot offset data => Sys2Proof.Machine.execSlotWrite req slot offset data s
  | .slotCommit req slot => Sys2Proof.Machine.execSlotCommit req slot s
  | .slotRead req slot offset length => Sys2Proof.Machine.execSlotRead req slot offset length s
  | .stage req slot => Sys2Proof.Machine.execStage req slot s
  | .abortStage req => Sys2Proof.Machine.execAbortStage req s
  | .partitionReady part => Sys2Proof.Machine.execPartitionReady part s
  | .stageTimeout => Sys2Proof.Machine.execStageTimeout s
  | .hrnSwitched => Sys2Proof.Machine.execHrnSwitched s
  | .switchAnnounce a => Sys2Proof.Machine.execSwitchAnnounce a s
  | .standbyReadyReport fp report => Sys2Proof.Machine.execStandbyReadyReport fp report s
  | .standbyImageCopied image approvals => Sys2Proof.Machine.execStandbyImageCopied image approvals s
  | .successorReloadDone copy => Sys2Proof.Machine.execSuccessorReloadDone copy s
  | .agreementRound tile a b c => Sys2Proof.Machine.execAgreementRound tile a b c s
  | .roundTimeout tile a b c => Sys2Proof.Machine.execRoundTimeout tile a b c s
  | .sharedRead tile => Sys2Proof.Machine.execSharedRead tile s
  | .sharedReadTimeout tile => Sys2Proof.Machine.execSharedReadTimeout tile s
  | .eventDelivery tile => Sys2Proof.Machine.execEventDelivery tile s
  | .eventTimeout tile rep => Sys2Proof.Machine.execEventTimeout tile rep s
  | .voterEntry tile rep => Sys2Proof.Machine.execVoterEntry tile rep s
  | .voterTimeout tile => Sys2Proof.Machine.execVoterTimeout tile s
  | .stitchDeliver tile rep => Sys2Proof.Machine.execStitchDeliver tile rep s
  | .stitchTimeout tile rep => Sys2Proof.Machine.execStitchTimeout tile rep s
  | .sramUncorr tile rep => Sys2Proof.Machine.execSramUncorr tile rep s
  | .sramCorrected tile rep => Sys2Proof.Machine.execSramCorrected tile rep s
  | .reintegrationDone tile ok => Sys2Proof.Machine.execReintegrationDone tile ok s
  | .loopReintegrationDone tile ok => Sys2Proof.Machine.execLoopReintegrationDone tile ok s
  | .add tile rep rd ra rb => Sys2Proof.Machine.execAdd tile rep rd ra rb s
  | .sub tile rep rd ra rb => Sys2Proof.Machine.execSub tile rep rd ra rb s
  | .and tile rep rd ra rb => Sys2Proof.Machine.execAnd tile rep rd ra rb s
  | .or tile rep rd ra rb => Sys2Proof.Machine.execOr tile rep rd ra rb s
  | .xor tile rep rd ra rb => Sys2Proof.Machine.execXor tile rep rd ra rb s
  | .shl tile rep rd ra rb => Sys2Proof.Machine.execShl tile rep rd ra rb s
  | .shr tile rep rd ra rb => Sys2Proof.Machine.execShr tile rep rd ra rb s
  | .sar tile rep rd ra rb => Sys2Proof.Machine.execSar tile rep rd ra rb s
  | .slt tile rep rd ra rb => Sys2Proof.Machine.execSlt tile rep rd ra rb s
  | .sltu tile rep rd ra rb => Sys2Proof.Machine.execSltu tile rep rd ra rb s
  | .sadd tile rep rd ra rb => Sys2Proof.Machine.execSadd tile rep rd ra rb s
  | .ssub tile rep rd ra rb => Sys2Proof.Machine.execSsub tile rep rd ra rb s
  | .mul tile rep rd ra rb => Sys2Proof.Machine.execMul tile rep rd ra rb s
  | .mulh tile rep rd ra rb => Sys2Proof.Machine.execMulh tile rep rd ra rb s
  | .mulhu tile rep rd ra rb => Sys2Proof.Machine.execMulhu tile rep rd ra rb s
  | .div tile rep rd ra rb => Sys2Proof.Machine.execDiv tile rep rd ra rb s
  | .divu tile rep rd ra rb => Sys2Proof.Machine.execDivu tile rep rd ra rb s
  | .rem tile rep rd ra rb => Sys2Proof.Machine.execRem tile rep rd ra rb s
  | .remu tile rep rd ra rb => Sys2Proof.Machine.execRemu tile rep rd ra rb s
  | .addi tile rep rd ra imm => Sys2Proof.Machine.execAddi tile rep rd ra imm s
  | .andi tile rep rd ra imm => Sys2Proof.Machine.execAndi tile rep rd ra imm s
  | .ori tile rep rd ra imm => Sys2Proof.Machine.execOri tile rep rd ra imm s
  | .xori tile rep rd ra imm => Sys2Proof.Machine.execXori tile rep rd ra imm s
  | .shli tile rep rd ra sh => Sys2Proof.Machine.execShli tile rep rd ra sh s
  | .shri tile rep rd ra sh => Sys2Proof.Machine.execShri tile rep rd ra sh s
  | .sari tile rep rd ra sh => Sys2Proof.Machine.execSari tile rep rd ra sh s
  | .slti tile rep rd ra imm => Sys2Proof.Machine.execSlti tile rep rd ra imm s
  | .sltiu tile rep rd ra imm => Sys2Proof.Machine.execSltiu tile rep rd ra imm s
  | .lui tile rep rd imm => Sys2Proof.Machine.execLui tile rep rd imm s
  | .lb tile rep rd ra imm => Sys2Proof.Machine.execLb tile rep rd ra imm s
  | .lbu tile rep rd ra imm => Sys2Proof.Machine.execLbu tile rep rd ra imm s
  | .lh tile rep rd ra imm => Sys2Proof.Machine.execLh tile rep rd ra imm s
  | .lhu tile rep rd ra imm => Sys2Proof.Machine.execLhu tile rep rd ra imm s
  | .lw tile rep rd ra imm => Sys2Proof.Machine.execLw tile rep rd ra imm s
  | .lwu tile rep rd ra imm => Sys2Proof.Machine.execLwu tile rep rd ra imm s
  | .ld tile rep rd ra imm => Sys2Proof.Machine.execLd tile rep rd ra imm s
  | .sb tile rep rs ra imm => Sys2Proof.Machine.execSb tile rep rs ra imm s
  | .sh tile rep rs ra imm => Sys2Proof.Machine.execSh tile rep rs ra imm s
  | .sw tile rep rs ra imm => Sys2Proof.Machine.execSw tile rep rs ra imm s
  | .sd tile rep rs ra imm => Sys2Proof.Machine.execSd tile rep rs ra imm s
  | .beq tile rep ra rb off miss => Sys2Proof.Machine.execBeq tile rep ra rb off miss s
  | .bne tile rep ra rb off miss => Sys2Proof.Machine.execBne tile rep ra rb off miss s
  | .blt tile rep ra rb off miss => Sys2Proof.Machine.execBlt tile rep ra rb off miss s
  | .bge tile rep ra rb off miss => Sys2Proof.Machine.execBge tile rep ra rb off miss s
  | .bltu tile rep ra rb off miss => Sys2Proof.Machine.execBltu tile rep ra rb off miss s
  | .bgeu tile rep ra rb off miss => Sys2Proof.Machine.execBgeu tile rep ra rb off miss s
  | .jump tile rep off => Sys2Proof.Machine.execJump tile rep off s
  | .jal tile rep off => Sys2Proof.Machine.execJal tile rep off s
  | .jalr tile rep rd ra imm miss => Sys2Proof.Machine.execJalr tile rep rd ra imm miss s
  | .fence tile rep => Sys2Proof.Machine.execFence tile rep s
  | .endc tile rep => Sys2Proof.Machine.execEndc tile rep s
  | .rfe tile rep => Sys2Proof.Machine.execRfe tile rep s
  | .rdtime tile rep rd => Sys2Proof.Machine.execRdtime tile rep rd s
  | .rdsr tile rep rd num => Sys2Proof.Machine.execRdsr tile rep rd num s
  | .wrsr tile rep ra num => Sys2Proof.Machine.execWrsr tile rep ra num s
  | .trap tile rep imm => Sys2Proof.Machine.execTrap tile rep imm s
  | .illegalInstruction tile rep word => Sys2Proof.Machine.execIllegalInstruction tile rep word s
  | .perfSelect value => Sys2Proof.Machine.execPerfSelect value s
  | .perfDataValid => Sys2Proof.Machine.execPerfDataValid s
  | .perfClear value => Sys2Proof.Machine.execPerfClear value s
  | .cycleBoundary dataBusy => Sys2Proof.Machine.execCycleBoundary dataBusy s
  | .taskWatchdog tile => Sys2Proof.Machine.execTaskWatchdog tile s
  | .basePeriodBoundary dataBusy => Sys2Proof.Machine.execBasePeriodBoundary dataBusy s
  | .fallbackLeft dataBusy => Sys2Proof.Machine.execFallbackLeft dataBusy s
  | .forceFallback value => Sys2Proof.Machine.execForceFallback value s
  | .cycleClearMax => Sys2Proof.Machine.execCycleClearMax s
  | .start req warm => Sys2Proof.Machine.execStart req warm s
  | .restart req warm => Sys2Proof.Machine.execRestart req warm s
  | .plantCommand req body => Sys2Proof.Machine.execPlantCommand req body s
  | .commandJournalWritten source serial ok => Sys2Proof.Machine.execCommandJournalWritten source serial ok s
  | .commandAck source serial => Sys2Proof.Machine.execCommandAck source serial s
  | .returnFrame link bytes delimited => Sys2Proof.Machine.execReturnFrame link bytes delimited s
  | .returnFrameMissing link => Sys2Proof.Machine.execReturnFrameMissing link s
  | .timerSampleTrigger slot => Sys2Proof.Machine.execTimerSampleTrigger slot s
  | .loopSampleStart tile fwd => Sys2Proof.Machine.execLoopSampleStart tile fwd s
  | .sampleDeadline slot => Sys2Proof.Machine.execSampleDeadline slot s
  | .loopNop tile rep => Sys2Proof.Machine.execLoopNop tile rep s
  | .loopClr tile rep d => Sys2Proof.Machine.execLoopClr tile rep d s
  | .loopMac tile rep d a c => Sys2Proof.Machine.execLoopMac tile rep d a c s
  | .loopMsb tile rep d a c => Sys2Proof.Machine.execLoopMsb tile rep d a c s
  | .loopMacn tile rep d a b => Sys2Proof.Machine.execLoopMacn tile rep d a b s
  | .loopAdda tile rep d a sh => Sys2Proof.Machine.execLoopAdda tile rep d a sh s
  | .loopSta tile rep d a sh => Sys2Proof.Machine.execLoopSta tile rep d a sh s
  | .loopMul tile rep d a c => Sys2Proof.Machine.execLoopMul tile rep d a c s
  | .loopAdd tile rep d a b => Sys2Proof.Machine.execLoopAdd tile rep d a b s
  | .loopSub tile rep d a b => Sys2Proof.Machine.execLoopSub tile rep d a b s
  | .loopLim tile rep d a b => Sys2Proof.Machine.execLoopLim tile rep d a b s
  | .loopMov tile rep d a => Sys2Proof.Machine.execLoopMov tile rep d a s
  | .loopLdc tile rep d c => Sys2Proof.Machine.execLoopLdc tile rep d c s
  | .loopSel tile rep d a b => Sys2Proof.Machine.execLoopSel tile rep d a b s
  | .loopSincos tile rep d a => Sys2Proof.Machine.execLoopSincos tile rep d a s
  | .loopLock tile rep d a c => Sys2Proof.Machine.execLoopLock tile rep d a c s
  | .loopOut tile rep a o => Sys2Proof.Machine.execLoopOut tile rep a o s
  | .loopFlt tile rep a code => Sys2Proof.Machine.execLoopFlt tile rep a code s
  | .loopEnd tile rep => Sys2Proof.Machine.execLoopEnd tile rep s
  | .catchTimeout slot => Sys2Proof.Machine.execCatchTimeout slot s
  | .holdTimeout slot => Sys2Proof.Machine.execHoldTimeout slot s
  | .loopFaultReset slot => Sys2Proof.Machine.execLoopFaultReset slot s
  | .loopClearFlags slot => Sys2Proof.Machine.execLoopClearFlags slot s
  | .loopClearStats slot => Sys2Proof.Machine.execLoopClearStats slot s
  | .glinkClearCounts link => Sys2Proof.Machine.execGlinkClearCounts link s
  | .moveAbs group targets override => Sys2Proof.Machine.execMoveAbs group targets override s
  | .moveRel group distances override => Sys2Proof.Machine.execMoveRel group distances override s
  | .axisStop group => Sys2Proof.Machine.execAxisStop group s
  | .axisHold group => Sys2Proof.Machine.execAxisHold group s
  | .axisResume group => Sys2Proof.Machine.execAxisResume group s
  | .axisResetFault group => Sys2Proof.Machine.execAxisResetFault group s
  | .axisPeriod group => Sys2Proof.Machine.execAxisPeriod group s
  | .awlArm => Sys2Proof.Machine.execAwlArm s
  | .awlStart => Sys2Proof.Machine.execAwlStart s
  | .awlStop => Sys2Proof.Machine.execAwlStop s
  | .awlAnnounce start slot inj amp freq => Sys2Proof.Machine.execAwlAnnounce start slot inj amp freq s
  | .awlInjectionEnd => Sys2Proof.Machine.execAwlInjectionEnd s
  | .awlRead req first count => Sys2Proof.Machine.execAwlRead req first count s
  | .comparatorCrossing comp uv16 => Sys2Proof.Machine.execComparatorCrossing comp uv16 s
  | .ftInputChange ft high => Sys2Proof.Machine.execFtInputChange ft high s
  | .tripLineChange line asserted => Sys2Proof.Machine.execTripLineChange line asserted s
  | .bridleEvaluate => Sys2Proof.Machine.execBridleEvaluate s
  | .termDelayExpiry eq term => Sys2Proof.Machine.execTermDelayExpiry eq term s
  | .outputHoldExpiry out => Sys2Proof.Machine.execOutputHoldExpiry out s
  | .bridleRefresh => Sys2Proof.Machine.execBridleRefresh s
  | .procLost => Sys2Proof.Machine.execProcLost s
  | .tripReset req body => Sys2Proof.Machine.execTripReset req body s
  | .tbPoll => Sys2Proof.Machine.execTbPoll s
  | .tbAnswer own window => Sys2Proof.Machine.execTbAnswer own window s
  | .tbPollerTakeover => Sys2Proof.Machine.execTbPollerTakeover s
  | .tbPartnerSilent => Sys2Proof.Machine.execTbPartnerSilent s
  | .tbSelfFail => Sys2Proof.Machine.execTbSelfFail s
  | .bridleDiagRound dacMv round => Sys2Proof.Machine.execBridleDiagRound dacMv round s
  | .bridleFault cause index => Sys2Proof.Machine.execBridleFault cause index s
  | .bridleMirrorRefresh => Sys2Proof.Machine.execBridleMirrorRefresh s
  | .firstOutRearm => Sys2Proof.Machine.execFirstOutRearm s
  | .safetyWritten crcs => Sys2Proof.Machine.execSafetyWritten crcs s
  | .safetyChannelRun ch => Sys2Proof.Machine.execSafetyChannelRun ch s
  | .safetyChannelSafe ch => Sys2Proof.Machine.execSafetyChannelSafe ch s
  | .testPulseCheck tp high => Sys2Proof.Machine.execTestPulseCheck tp high s
  | .discrepancyTick => Sys2Proof.Machine.execDiscrepancyTick s
  | .discrepancy fn => Sys2Proof.Machine.execDiscrepancy fn s
  | .encoderSpeedWindow enc counts => Sys2Proof.Machine.execEncoderSpeedWindow enc counts s
  | .standstill enc => Sys2Proof.Machine.execStandstill enc s
  | .stopTimeout fn => Sys2Proof.Machine.execStopTimeout fn s
  | .encoderFault enc supply => Sys2Proof.Machine.execEncoderFault enc supply s
  | .feedbackChange fb run => Sys2Proof.Machine.execFeedbackChange fb run s
  | .fbTimeout pair => Sys2Proof.Machine.execFbTimeout pair s
  | .outputSwitchTest pair ok => Sys2Proof.Machine.execOutputSwitchTest pair ok s
  | .switchReadbackFault pair => Sys2Proof.Machine.execSwitchReadbackFault pair s
  | .cross fn => Sys2Proof.Machine.execCross fn s
  | .permitValidTimeout => Sys2Proof.Machine.execPermitValidTimeout s
  | .degradedExpiring => Sys2Proof.Machine.execDegradedExpiring s
  | .degradedExpired => Sys2Proof.Machine.execDegradedExpired s
  | .safeChannelBack => Sys2Proof.Machine.execSafeChannelBack s
  | .heartbeatSend => Sys2Proof.Machine.execHeartbeatSend s
  | .heartbeat path beat => Sys2Proof.Machine.execHeartbeat path beat s
  | .pathSilent path => Sys2Proof.Machine.execPathSilent path s
  | .ringRxSilent => Sys2Proof.Machine.execRingRxSilent s
  | .forwardedRecord bytes dataBusy => Sys2Proof.Machine.execForwardedRecord bytes dataBusy s
  | .forwardLate => Sys2Proof.Machine.execForwardLate s
  | .stitchSummary summary => Sys2Proof.Machine.execStitchSummary summary s
  | .stateCopyDone copy => Sys2Proof.Machine.execStateCopyDone copy s
  | .stateCopyFailed => Sys2Proof.Machine.execStateCopyFailed s
  | .copyNow => Sys2Proof.Machine.execCopyNow s
  | .twinClearCounts => Sys2Proof.Machine.execTwinClearCounts s
  | .roleSwap req hold => Sys2Proof.Machine.execRoleSwap req hold s
  | .mixedMinute => Sys2Proof.Machine.execMixedMinute s
  | .successorExpired => Sys2Proof.Machine.execSuccessorExpired s
  | .ringPeriod => Sys2Proof.Machine.execRingPeriod s
  | .inputFrame ring check frame => Sys2Proof.Machine.execInputFrame ring check frame s
  | .stationDropout station => Sys2Proof.Machine.execStationDropout station s
  | .ringFrameForward ring check frame => Sys2Proof.Machine.execRingFrameForward ring check frame s
  | .ringBreak ring => Sys2Proof.Machine.execRingBreak ring s
  | .ringBreakLocated ring => Sys2Proof.Machine.execRingBreakLocated ring s
  | .ringRestored ring => Sys2Proof.Machine.execRingRestored ring s
  | .twinFrame ring kind index last cycle content => Sys2Proof.Machine.execTwinFrame ring kind index last cycle content s
  | .peerFrame ring check frame => Sys2Proof.Machine.execPeerFrame ring check frame s
  | .mkaKeyDistribution peers => Sys2Proof.Machine.execMkaKeyDistribution peers s
  | .ringClearCounts ring => Sys2Proof.Machine.execRingClearCounts ring s
  | .ringClearMax ring => Sys2Proof.Machine.execRingClearMax ring s
  | .ptpSample ref stampOk delayNs stepsRemoved utcOffset => Sys2Proof.Machine.execPtpSample ref stampOk delayNs stepsRemoved utcOffset s
  | .ppsEdge widthNs ptpTime => Sys2Proof.Machine.execPpsEdge widthNs ptpTime s
  | .timeSample => Sys2Proof.Machine.execTimeSample s
  | .rebase => Sys2Proof.Machine.execRebase s
  | .timeHoldover => Sys2Proof.Machine.execTimeHoldover s
  | .followingUpdate => Sys2Proof.Machine.execFollowingUpdate s
  | .timeJournal => Sys2Proof.Machine.execTimeJournal s
  | .ptpAnnounceTimeout => Sys2Proof.Machine.execPtpAnnounceTimeout s
  | .timeRestart req => Sys2Proof.Machine.execTimeRestart req s
  | .setTime req second => Sys2Proof.Machine.execSetTime req second s
  | .txTimestamp frameId port => Sys2Proof.Machine.execTxTimestamp frameId port s
  | .tsqRemove => Sys2Proof.Machine.execTsqRemove s
  | .timeClearOverflow => Sys2Proof.Machine.execTimeClearOverflow s
  | .timeClearMax => Sys2Proof.Machine.execTimeClearMax s
  | .timeClearCounts => Sys2Proof.Machine.execTimeClearCounts s
  | .timeTLo path => Sys2Proof.Machine.execTimeTLo path s
  | .timeCountLo path => Sys2Proof.Machine.execTimeCountLo path s
  | .timeOffsetLo path => Sys2Proof.Machine.execTimeOffsetLo path s
  | .timeStepLo path => Sys2Proof.Machine.execTimeStepLo path s
  | .timePpsCapLo path => Sys2Proof.Machine.execTimePpsCapLo path s
  | .cycleNumLo path => Sys2Proof.Machine.execCycleNumLo path s
  | .takeTLo path => Sys2Proof.Machine.execTakeTLo path s
  | .canTxTLo path port => Sys2Proof.Machine.execCanTxTLo path port s
  | .histOldestLo path => Sys2Proof.Machine.execHistOldestLo path s
  | .sealTLo path => Sys2Proof.Machine.execSealTLo path s
  | .certExpLo path => Sys2Proof.Machine.execCertExpLo path s
  | .uptimeLo path => Sys2Proof.Machine.execUptimeLo path s
  | .dioSample levels fldMv ma => Sys2Proof.Machine.execDioSample levels fldMv ma s
  | .dioLevelChange pin => Sys2Proof.Machine.execDioLevelChange pin s
  | .dioCurrentLimit pin units => Sys2Proof.Machine.execDioCurrentLimit pin units s
  | .dioThermalShutdown pin => Sys2Proof.Machine.execDioThermalShutdown pin s
  | .dioClearCounts => Sys2Proof.Machine.execDioClearCounts s
  | .aoReadbackSample ch raw => Sys2Proof.Machine.execAoReadbackSample ch raw s
  | .aoReadbackFault ch => Sys2Proof.Machine.execAoReadbackFault ch s
  | .aoOvertemp ch => Sys2Proof.Machine.execAoOvertemp ch s
  | .aoFaultReset ch => Sys2Proof.Machine.execAoFaultReset ch s
  | .cloClearStats ch => Sys2Proof.Machine.execCloClearStats ch s
  | .hartPoll ch => Sys2Proof.Machine.execHartPoll ch s
  | .hartResponse ch answer => Sys2Proof.Machine.execHartResponse ch answer s
  | .hartRequest req ch addr cmd => Sys2Proof.Machine.execHartRequest req ch addr cmd s
  | .faConversion ch raw => Sys2Proof.Machine.execFaConversion ch raw s
  | .faiClearMinmax ch => Sys2Proof.Machine.execFaiClearMinmax ch s
  | .calExport req => Sys2Proof.Machine.execCalExport req s
  | .calPoint req path reference raw => Sys2Proof.Machine.execCalPoint req path reference raw s
  | .calCommit req cert => Sys2Proof.Machine.execCalCommit req cert s
  | .calImport req file => Sys2Proof.Machine.execCalImport req file s
  | .calAbort req => Sys2Proof.Machine.execCalAbort req s
  | .calPendingTimeout => Sys2Proof.Machine.execCalPendingTimeout s
  | .canFrameComplete port frame own tSof busyNs delay => Sys2Proof.Machine.execCanFrameComplete port frame own tSof busyNs delay s
  | .canBusError port kind dataPhase tx heavy => Sys2Proof.Machine.execCanBusError port kind dataPhase tx heavy s
  | .canTxSelect port => Sys2Proof.Machine.execCanTxSelect port s
  | .canArbitrationLost port => Sys2Proof.Machine.execCanArbitrationLost port s
  | .canRecover port => Sys2Proof.Machine.execCanRecover port s
  | .canRecoveryDone port => Sys2Proof.Machine.execCanRecoveryDone port s
  | .canClearCounts port => Sys2Proof.Machine.execCanClearCounts port s
  | .canLoopSelect port value => Sys2Proof.Machine.execCanLoopSelect port value s
  | .txReq path port mask => Sys2Proof.Machine.execTxReq path port mask s
  | .txCancel path port mask => Sys2Proof.Machine.execTxCancel path port mask s
  | .txbData path port value => Sys2Proof.Machine.execTxbData path port value s
  | .rxqWord path port q => Sys2Proof.Machine.execRxqWord path port q s
  | .rxqDiscard port q => Sys2Proof.Machine.execRxqDiscard port q s
  | .rxqFlush port q => Sys2Proof.Machine.execRxqFlush port q s
  | .rxqClearOverflow port q => Sys2Proof.Machine.execRxqClearOverflow port q s
  | .eventInsert => Sys2Proof.Machine.execEventInsert s
  | .eventJournalWrite => Sys2Proof.Machine.execEventJournalWrite s
  | .evrecData0 path => Sys2Proof.Machine.execEvrecData0 path s
  | .evrecData11 path => Sys2Proof.Machine.execEvrecData11 path s
  | .freeze req => Sys2Proof.Machine.execFreeze req s
  | .unfreeze req => Sys2Proof.Machine.execUnfreeze req s
  | .freezeExpiry => Sys2Proof.Machine.execFreezeExpiry s
  | .clearLost => Sys2Proof.Machine.execClearLost s
  | .eventCatalogue req => Sys2Proof.Machine.execEventCatalogue req s
  | .histDriveMount bay drive => Sys2Proof.Machine.execHistDriveMount bay drive s
  | .histSetFailed bay loss => Sys2Proof.Machine.execHistSetFailed bay loss s
  | .histRebuild => Sys2Proof.Machine.execHistRebuild s
  | .histRebuilt => Sys2Proof.Machine.execHistRebuilt s
  | .histClearCounts => Sys2Proof.Machine.execHistClearCounts s
  | .histFormat req set formatId => Sys2Proof.Machine.execHistFormat req set formatId s
  | .histSample tag use => Sys2Proof.Machine.execHistSample tag use s
  | .histAggregate tier => Sys2Proof.Machine.execHistAggregate tier s
  | .histSessionOpen session certOk => Sys2Proof.Machine.execHistSessionOpen session certOk s
  | .tagQuery session tags t0 t1 tier => Sys2Proof.Machine.execTagQuery session tags t0 t1 tier s
  | .eventQuery session byTime lo hi minSev => Sys2Proof.Machine.execEventQuery session byTime lo hi minSev s
  | .streamOpen session stream fa awl => Sys2Proof.Machine.execStreamOpen session stream fa awl s
  | .streamClose session stream => Sys2Proof.Machine.execStreamClose session stream s
  | .streamMessage session stream awl place taken => Sys2Proof.Machine.execStreamMessage session stream awl place taken s
  | .sessionOpen hello => Sys2Proof.Machine.execSessionOpen hello s
  | .sessionIdleTimeout session => Sys2Proof.Machine.execSessionIdleTimeout session s
  | .addressBlockExpiry ip => Sys2Proof.Machine.execAddressBlockExpiry ip s
  | .readReg req offset count => Sys2Proof.Machine.execReadReg req offset count s
  | .writeReg req offset value => Sys2Proof.Machine.execWriteReg req offset value s
  | .statusCatalogue req => Sys2Proof.Machine.execStatusCatalogue req s
  | .attest req nonce => Sys2Proof.Machine.execAttest req nonce s
  | .fwUpdate req copy => Sys2Proof.Machine.execFwUpdate req copy s
  | .propose req kind subject => Sys2Proof.Machine.execPropose req kind subject s
  | .approve req pendingId keyIndex sig => Sys2Proof.Machine.execApprove req pendingId keyIndex sig s
  | .withdraw req pendingId => Sys2Proof.Machine.execWithdraw req pendingId s
  | .approvalLapse => Sys2Proof.Machine.execApprovalLapse s
  | .pendingLapse pendingId => Sys2Proof.Machine.execPendingLapse pendingId s
  | .csr req => Sys2Proof.Machine.execCsr req s
  | .installCert req cert => Sys2Proof.Machine.execInstallCert req cert s
  | .enrol req record => Sys2Proof.Machine.execEnrol req record s
  | .releaseOwner req => Sys2Proof.Machine.execReleaseOwner req s
  | .secClearCounts => Sys2Proof.Machine.execSecClearCounts s
  | .shutdownTest => Sys2Proof.Machine.execShutdownTest s
  | .shutdownTestDone findings => Sys2Proof.Machine.execShutdownTestDone findings s
  | .fuseCommit => Sys2Proof.Machine.execFuseCommit s
  | .fuseRepair => Sys2Proof.Machine.execFuseRepair s
  | .clearSoft => Sys2Proof.Machine.execClearSoft s
  | .lifeClearCounts => Sys2Proof.Machine.execLifeClearCounts s
  | .flashBlockFail block erase => Sys2Proof.Machine.execFlashBlockFail block erase s
  | .tagPageWrite page content => Sys2Proof.Machine.execTagPageWrite page content s
  | .tagFieldSession => Sys2Proof.Machine.execTagFieldSession s
  | .tagFieldWrite page content => Sys2Proof.Machine.execTagFieldWrite page content s
  | .tagLockExpiry => Sys2Proof.Machine.execTagLockExpiry s
  | .resetRelease => Sys2Proof.Machine.execResetRelease s
  | .girthLinkTrained delay => Sys2Proof.Machine.execGirthLinkTrained delay s
  | .ptpMoveBack => Sys2Proof.Machine.execPtpMoveBack s
  | .sessionClose session => Sys2Proof.Machine.execSessionClose session s
  | .tagFieldRelease => Sys2Proof.Machine.execTagFieldRelease s
  | .dioSwitchCooled pin => Sys2Proof.Machine.execDioSwitchCooled pin s
  | .flashEraseComplete block => Sys2Proof.Machine.execFlashEraseComplete block s

end Sys2Proof.Machine
end

