-- ==== Sys2Proof/Machine/Step.lean ====
section
/-! DEFINITION. One step: the command at the front of the queue, or a tick of the counter on an empty queue. -/

namespace Sys2Proof.Machine

/-- A tick of the 1 GHz counter, which runs while the electronics are powered (R362). DESIGN CHOICE (log 1).
DESIGN CHOICE (log 127). -/
def Dev.tick (d : Dev) : Dev :=
  if d.power.powered then { d with time := { d.time with counter := d.time.counter + 1 } } else d

/-- One step of the block. -/
def step (s : State) : Host.Outcome State Fault Refusal :=
  match s.pending with
  | [] => .next { s with dev := s.dev.tick }
  | c :: rest => exec c { s with pending := rest }

/-- The command that a word spells is put at the front of the queue. -/
def State.withFetchWord (s : State) (nbits w : Nat) : State :=
  match decodeTableWord nbits w with
  | some c => { s with pending := c :: s.pending }
  | none => s

end Sys2Proof.Machine
end

