-- ==== Sys2Proof/WellFormed.lean ====
section
/-! DEFINITION. Commands that can be sent: the checks on operands that the types do not make. The meaning of a command
named here changes nothing where its check fails (log 7); any operands of the others are well formed. -/

namespace Sys2Proof

open Sys2Proof.Machine

/-- The operands of a command are well formed. -/
def Instr.wellFormed : Instr → Bool
  | .startSelfTestDone findings => findings.wellFormed
  | .paceWindow _ periods => (periods.length = 17)
  | .hartResponse _ answer => (match answer with | some a => a.comm ≠ 1 | none => true)
  | .canFrameComplete _ frame _ _ _ _ => (canFrameOk frame)
  | .canBusError _ kind _ _ _ => (1 ≤ kind ∧ kind ≤ 6)
  | .shutdownTestDone findings => findings.wellFormed
  | .tagPageWrite _ content => (content.length = 248)
  | .tagFieldWrite _ content => (content.length = 256)
  | .registerWrite .. | .enterSafetyMaint .. | .leaveSafetyMaint .. | .seatedLoopClose | .electronicsPowerOn
  | .seatedLoopOpen | .moduleReset .. | .positionSampleAttempt .. | .positionPinSample .. | .keeperSample ..
  | .feedGood .. | .feedLost .. | .feedOvervoltage .. | .feedDip .. | .powerFailCommit | .pfCycleEnd | .pfRetainSaved
  | .pfJournalWritten | .holdupExhausted | .holdupCharged .. | .fldGood | .fldLost | .fldFuse | .fldReclose
  | .coldStartWaitEnd | .bridleStartChecks .. | .harnessBootSelect | .clusterPowerUp .. | .clusterPower ..
  | .clustersLoaded | .listenWindowEnd .. | .standbyWaitTimeout | .thermalSample .. | .thermalStop | .thermalReset
  | .dioGroupEnable | .flitReceive .. | .linkFailed .. | .linkDegraded .. | .portCompletionTimeout .. | .paceSlow ..
  | .railSample .. | .fabClearMax .. | .fabClearCounts .. | .linkTest .. | .slotWrite .. | .slotCommit ..
  | .slotRead .. | .stage .. | .abortStage .. | .partitionReady .. | .stageTimeout | .hrnSwitched
  | .switchAnnounce .. | .standbyReadyReport .. | .standbyImageCopied .. | .successorReloadDone ..
  | .agreementRound .. | .roundTimeout .. | .sharedRead .. | .sharedReadTimeout .. | .eventDelivery ..
  | .eventTimeout .. | .voterEntry .. | .voterTimeout .. | .stitchDeliver .. | .stitchTimeout .. | .sramUncorr ..
  | .sramCorrected .. | .reintegrationDone .. | .loopReintegrationDone .. | .add .. | .sub .. | .and .. | .or ..
  | .xor .. | .shl .. | .shr .. | .sar .. | .slt .. | .sltu .. | .sadd .. | .ssub .. | .mul .. | .mulh .. | .mulhu ..
  | .div .. | .divu .. | .rem .. | .remu .. | .addi .. | .andi .. | .ori .. | .xori .. | .shli .. | .shri ..
  | .sari .. | .slti .. | .sltiu .. | .lui .. | .lb .. | .lbu .. | .lh .. | .lhu .. | .lw .. | .lwu .. | .ld ..
  | .sb .. | .sh .. | .sw .. | .sd .. | .beq .. | .bne .. | .blt .. | .bge .. | .bltu .. | .bgeu .. | .jump ..
  | .jal .. | .jalr .. | .fence .. | .endc .. | .rfe .. | .rdtime .. | .rdsr .. | .wrsr .. | .trap ..
  | .illegalInstruction .. | .perfSelect .. | .perfDataValid | .perfClear .. | .cycleBoundary .. | .taskWatchdog ..
  | .basePeriodBoundary .. | .fallbackLeft .. | .forceFallback .. | .cycleClearMax | .start .. | .restart ..
  | .plantCommand .. | .commandJournalWritten .. | .commandAck .. | .returnFrame .. | .returnFrameMissing ..
  | .timerSampleTrigger .. | .loopSampleStart .. | .sampleDeadline .. | .loopNop .. | .loopClr .. | .loopMac ..
  | .loopMsb .. | .loopMacn .. | .loopAdda .. | .loopSta .. | .loopMul .. | .loopAdd .. | .loopSub .. | .loopLim ..
  | .loopMov .. | .loopLdc .. | .loopSel .. | .loopSincos .. | .loopLock .. | .loopOut .. | .loopFlt .. | .loopEnd ..
  | .catchTimeout .. | .holdTimeout .. | .loopFaultReset .. | .loopClearFlags .. | .loopClearStats ..
  | .glinkClearCounts .. | .moveAbs .. | .moveRel .. | .axisStop .. | .axisHold .. | .axisResume ..
  | .axisResetFault .. | .axisPeriod .. | .awlArm | .awlStart | .awlStop | .awlAnnounce .. | .awlInjectionEnd
  | .awlRead .. | .comparatorCrossing .. | .ftInputChange .. | .tripLineChange .. | .bridleEvaluate
  | .termDelayExpiry .. | .outputHoldExpiry .. | .bridleRefresh | .procLost | .tripReset .. | .tbPoll | .tbAnswer ..
  | .tbPollerTakeover | .tbPartnerSilent | .tbSelfFail | .bridleDiagRound .. | .bridleFault .. | .bridleMirrorRefresh
  | .firstOutRearm | .safetyWritten .. | .safetyChannelRun .. | .safetyChannelSafe .. | .testPulseCheck ..
  | .discrepancyTick | .discrepancy .. | .encoderSpeedWindow .. | .standstill .. | .stopTimeout .. | .encoderFault ..
  | .feedbackChange .. | .fbTimeout .. | .outputSwitchTest .. | .switchReadbackFault .. | .cross ..
  | .permitValidTimeout | .degradedExpiring | .degradedExpired | .safeChannelBack | .heartbeatSend | .heartbeat ..
  | .pathSilent .. | .ringRxSilent | .forwardedRecord .. | .forwardLate | .stitchSummary .. | .stateCopyDone ..
  | .stateCopyFailed | .copyNow | .twinClearCounts | .roleSwap .. | .mixedMinute | .successorExpired | .ringPeriod
  | .inputFrame .. | .stationDropout .. | .ringFrameForward .. | .ringBreak .. | .ringBreakLocated ..
  | .ringRestored .. | .twinFrame .. | .peerFrame .. | .mkaKeyDistribution .. | .ringClearCounts ..
  | .ringClearMax .. | .ptpSample .. | .ppsEdge .. | .timeSample | .rebase | .timeHoldover | .followingUpdate
  | .timeJournal | .ptpAnnounceTimeout | .timeRestart .. | .setTime .. | .txTimestamp .. | .tsqRemove
  | .timeClearOverflow | .timeClearMax | .timeClearCounts | .timeTLo .. | .timeCountLo .. | .timeOffsetLo ..
  | .timeStepLo .. | .timePpsCapLo .. | .cycleNumLo .. | .takeTLo .. | .canTxTLo .. | .histOldestLo .. | .sealTLo ..
  | .certExpLo .. | .uptimeLo .. | .dioSample .. | .dioLevelChange .. | .dioCurrentLimit .. | .dioThermalShutdown ..
  | .dioClearCounts | .aoReadbackSample .. | .aoReadbackFault .. | .aoOvertemp .. | .aoFaultReset ..
  | .cloClearStats .. | .hartPoll .. | .hartRequest .. | .faConversion .. | .faiClearMinmax .. | .calExport ..
  | .calPoint .. | .calCommit .. | .calImport .. | .calAbort .. | .calPendingTimeout | .canTxSelect ..
  | .canArbitrationLost .. | .canRecover .. | .canRecoveryDone .. | .canClearCounts .. | .canLoopSelect ..
  | .txReq .. | .txCancel .. | .txbData .. | .rxqWord .. | .rxqDiscard .. | .rxqFlush .. | .rxqClearOverflow ..
  | .eventInsert | .eventJournalWrite | .evrecData0 .. | .evrecData11 .. | .freeze .. | .unfreeze .. | .freezeExpiry
  | .clearLost | .eventCatalogue .. | .histDriveMount .. | .histSetFailed .. | .histRebuild | .histRebuilt
  | .histClearCounts | .histFormat .. | .histSample .. | .histAggregate .. | .histSessionOpen .. | .tagQuery ..
  | .eventQuery .. | .streamOpen .. | .streamClose .. | .streamMessage .. | .sessionOpen .. | .sessionIdleTimeout ..
  | .addressBlockExpiry .. | .readReg .. | .writeReg .. | .statusCatalogue .. | .attest .. | .fwUpdate ..
  | .propose .. | .approve .. | .withdraw .. | .approvalLapse | .pendingLapse .. | .csr .. | .installCert ..
  | .enrol .. | .releaseOwner .. | .secClearCounts | .shutdownTest | .fuseCommit | .fuseRepair | .clearSoft
  | .lifeClearCounts | .flashBlockFail .. | .tagFieldSession | .tagLockExpiry | .resetRelease | .girthLinkTrained ..
  | .ptpMoveBack | .sessionClose .. | .tagFieldRelease | .dioSwitchCooled .. | .flashEraseComplete .. => true

end Sys2Proof
end

