-- ==== Sys2Proof/Safety.lean ====
section
/-! DEFINITION. The terms in which statements about the block are made: what a command answers, what it leaves
unchanged, and what a safe run is. -/

namespace Sys2Proof.Machine

/-! ### Tack words -/

/-- The tile and the replica of a tack instruction that has a word. -/
def tackOf (i : Instr) : Option (Fin 144 × Fin 3) :=
  match i with
  | .add t r .. | .sub t r .. | .and t r .. | .or t r .. | .xor t r .. | .shl t r .. | .shr t r ..
  | .sar t r .. | .slt t r .. | .sltu t r .. | .sadd t r .. | .ssub t r .. | .mul t r .. | .mulh t r ..
  | .mulhu t r .. | .div t r .. | .divu t r .. | .rem t r .. | .remu t r .. | .addi t r .. | .andi t r ..
  | .ori t r .. | .xori t r .. | .shli t r .. | .shri t r .. | .sari t r .. | .slti t r .. | .sltiu t r ..
  | .lui t r .. | .lb t r .. | .lbu t r .. | .lh t r .. | .lhu t r .. | .lw t r .. | .lwu t r .. | .ld t r ..
  | .sb t r .. | .sh t r .. | .sw t r .. | .sd t r .. | .beq t r .. | .bne t r .. | .blt t r .. | .bge t r ..
  | .bltu t r .. | .bgeu t r .. | .jump t r .. | .jal t r .. | .jalr t r .. | .fence t r | .endc t r
  | .rfe t r | .rdtime t r .. | .rdsr t r .. | .wrsr t r .. | .trap t r .. => some (t, r)
  | _ => none

/-- A branch or an indexed jump whose target was predicted; every other command. -/
def predicted (i : Instr) : Bool :=
  match i with
  | .beq _ _ _ _ _ m | .bne _ _ _ _ _ m | .blt _ _ _ _ _ m | .bge _ _ _ _ _ m | .bltu _ _ _ _ _ m
  | .bgeu _ _ _ _ _ m | .jalr _ _ _ _ _ m => m.isNone
  | _ => true

/-! ### Answers and runs -/

/-- A command at a state answers a next state with the queue as it was, and the module after it satisfies a
condition. -/
def Answers (c : Instr) (s : State) (P : Dev → Prop) : Prop := ∃ d, exec c s = .next { s with dev := d } ∧ P d

/-- A state that a step answers. -/
def StepsTo (s t : State) : Prop := step s = .next t

/-- A state that a number of steps lead to. -/
inductive Runs : Nat → State → State → Prop where
  | zero (s : State) : Runs 0 s s
  | succ {n : Nat} {s t u : State} : StepsTo s t → Runs n t u → Runs (n + 1) s u

/-- A safe run: no step of it ends in a fault or a refusal. -/
def SafeFrom (s : State) : Prop := ∀ n t, Runs n s t → ∃ u, StepsTo t u

/-! ### What a command leaves unchanged -/

/-- Two fields share no bit. -/
abbrev Fld.separate (f g : Fld) : Prop := f.off ≠ g.off ∨ f.lo + f.wd ≤ g.lo ∨ g.lo + g.wd ≤ f.lo

/-- The module after a command differs from the module before it in its registers at most, and there in some fields
only. -/
def OnlyFields (d d' : Dev) (fs : List Fld) : Prop :=
  d' = { d with regs := d'.regs } ∧ ∀ g : Fld, (∀ f ∈ fs, f.separate g) → d'.rd g = d.rd g

/-- The registers after a command are those before it but for some fields; the rest of the module may differ. -/
def OtherFields (d d' : Dev) (fs : List Fld) : Prop := ∀ g : Fld, (∀ f ∈ fs, f.separate g) → d'.rd g = d.rd g

/-- The module after a command differs from the module before it in one replica of one tile at most. -/
def OnlyReplica (d d' : Dev) (t : Fin 144) (r : Fin 3) : Prop :=
  d' = { d with tiles := d'.tiles } ∧
    ∀ u : Nat, d'.tile u = if u = t.val then (d.tile u).setRep r ((d'.tile u).rep r) else d.tile u

/-- The records that a command has presented to the event recorder, oldest first, by event and SOURCE. -/
def Presents (d d' : Dev) (es : List (Ev × BitVec 16)) : Prop :=
  ∃ rs : List EvRec, d'.evrec.presented = d.evrec.presented ++ rs ∧ rs.map (fun r => (r.code, r.src)) = es

/-! ### Tack instructions -/

/-- A replica is about to execute an instruction, from an address at which a fetch is permitted. -/
def TackReady (s : State) (t : Fin 144) (r : Fin 3) (c : TackCtx) : Prop :=
  s.dev.tackCtx t.val r = some c ∧ ((s.dev.tile t.val).rep r).core.pc.toNat < 0x20000

/-- The replica of a tile in a state. -/
def theReplica (s : State) (t : Fin 144) (r : Fin 3) : Replica := (s.dev.tile t.val).rep r

/-- A command changes one replica only, into `y`. -/
def ReplicaBecomes (i : Instr) (s : State) (t : Fin 144) (r : Fin 3) (P : Replica → Prop) : Prop :=
  Answers i s fun d => OnlyReplica s.dev d t r ∧ P ((d.tile t.val).rep r)

/-- An instruction writes one register (a write to g0 is discarded), goes on at the next address and retires; it
changes nothing else of the replica and nothing of the module beside it. -/
def WritesRegister (i : Instr) (s : State) (t : Fin 144) (r : Fin 3) (rd : Fin 32) (v : DWord) : Prop :=
  ReplicaBecomes i s t r fun y =>
    let x := theReplica s t r
    (∀ k, y.get k = if k = rd ∧ k ≠ 0 then v else x.get k) ∧
      y = { x with core := { x.core with g := y.core.g, pc := x.core.pc + 4 }, retired := x.retired + 1 }

/-- An instruction raises an exception: it does not complete, and the exception is entered with a cause and EVAL. -/
def RaisesException (i : Instr) (s : State) (t : Fin 144) (r : Fin 3) (c : TackCtx) (cause : Nat) (eval : DWord) : Prop :=
  ReplicaBecomes i s t r fun y =>
    y = { theReplica s t r with retired := (theReplica s t r).retired + 1 }.enterException c cause eval

/-! ### Counters and flags that a command clears -/

/-- A command sets some fields to 0 and changes nothing else of the module. -/
def ClearsOnly (c : Instr) (s : State) (fs : List Fld) : Prop :=
  Answers c s fun d => (∀ f ∈ fs, d.rd f = 0) ∧ OnlyFields s.dev d fs

/-! ### Management requests (R451 to R458) -/

/-- A request that is executed: its session is open and holds the right with that mask bit, the client is the session's,
the module has an owner, and neither a running nor a stored request has its ID (R455). -/
def FreshRequest (s : State) (r : Req) (right : Nat) : Prop :=
  s.dev.alive = true ∧ s.dev.trust.owner.isSome = true ∧ r.magic = 0x31474D4E ∧ r.length ≤ 1048576 ∧
    (∃ x, s.dev.session r.session = some x ∧ x.unowned = false ∧ x.client = r.client ∧ testBit x.rights right = true) ∧
    (∀ y ∈ s.dev.mgmt.running, y.client ≠ r.client) ∧ (∀ y ∈ s.dev.mgmt.completed, y.client ≠ r.client)

/-- The module answers a request with a status and a body, and has recorded it as completed (R454 to R456). -/
def Replied (d : Dev) (opcode : Nat) (r : Req) (st : Status) (body : List Byte) : Prop :=
  d.mgmt.response = some { opcode := opcode, status := st, client := r.client, id := r.id, duplicate := false
                           truncated := false, body := body } ∧
    ∃ x ∈ d.mgmt.completed, x.client = r.client ∧ x.id = r.id ∧ x.digest = r.digest ∧ x.status = st

/-- The module answers a fresh request with a status and a body, counts it and keeps its result; besides, the registers
change in some fields only, and the module after it satisfies a condition (R454 to R456, R466). -/
def Carries (c : Instr) (s : State) (r : Req) (right opcode : Nat) (st : Status) (body : List Byte) (fs : List Fld)
    (P : Dev → Prop) : Prop :=
  FreshRequest s r right → Answers c s fun d =>
    Replied d opcode r st body ∧ d.rd R.SEC_REQUESTS = (s.dev.rd R.SEC_REQUESTS + 1) % 2 ^ 32 ∧
      OtherFields s.dev d (R.SEC_REQUESTS :: fs) ∧ P d

/-- Of the management plane, only the session's last use, the stored results and the last response have changed. -/
def OnlyAnswered (d d' : Dev) : Prop :=
  d'.mgmt = { d.mgmt with
    sessions := d'.mgmt.sessions, completed := d'.mgmt.completed, response := d'.mgmt.response }

/-! ### Several effects at once -/

/-- Fields read certain values after a command, and every field that shares no bit with them is unchanged. -/
def Sets (d d' : Dev) (fs : List (Fld × Nat)) : Prop :=
  (∀ p ∈ fs, d'.rd p.1 = p.2) ∧ OtherFields d d' (fs.map fun p => p.1)

/-- Some fields take values, and nothing else of the module changes. -/
def SetsOnly (d d' : Dev) (fs : List (Fld × Nat)) : Prop := Sets d d' fs ∧ d' = { d with regs := d'.regs }

/-- Some fields take values, records are presented to the recorder, and nothing else of the module changes. -/
def SetsAndTells (d d' : Dev) (fs : List (Fld × Nat)) (es : List (Ev × BitVec 16)) : Prop :=
  Sets d d' fs ∧ Presents d d' es ∧
    d' = { d with regs := d'.regs, free := d.free + es.length, evrec := { d.evrec with presented := d'.evrec.presented } }

/-- A read returns a word and latches another register on its path; every other latch is kept, and nothing else of the
module changes (R488). -/
def ReadsAndLatches (c : Instr) (s : State) (p : Path) (v : Word) (ws : List (Nat × Word)) : Prop :=
  Answers c s fun d =>
    d.mgmt.readData = v ∧ (∀ w ∈ ws, d.latch p w.1 = w.2) ∧
      (∀ (q : Path) (o : Nat), o < 2 ^ 24 → (q ≠ p ∨ o ∉ ws.map fun w => w.1) → d.latch q o = s.dev.latch q o) ∧
      d = { s.dev with mgmt := { s.dev.mgmt with readData := v, latches := d.mgmt.latches } }

/-- Reset has been asserted for a cause (R26, R27, R57): the module is in STOPPED with its queue of work, its tiles and its
ring of records empty; every register is at its reset value but for the bits that a reset keeps, of which the outcome of
the last save is cleared where a power-fail sequence ends in its ride-through (R57, R67); the cause is shown and resets
are counted; the electronics stay powered in reset, or are unpowered. What is in flash, in fuses, in the tag
and in the root of trust is kept, and so is the counter. -/
def ResetTaken (d d' : Dev) (c : ResetCause) : Prop :=
  d'.role = .stopped ∧ d'.tiles = [] ∧ d'.evrec.ring = [] ∧ d'.mgmt = {} ∧ d'.loop = {} ∧ d'.can = [] ∧ d'.ring = {} ∧
    (∀ o : Nat, (∀ k ∈ keptBits, k.1 ≠ o) → d'.word o = resetWord o) ∧
    (let e := if d.power.pf = .rideThrough then d.clear [R.POWER_LAST_PF_SAVED, R.POWER_LAST_PF_INCOMPLETE] else d
     ∀ k ∈ keptBits, k.1 ≠ 0x10 → d'.word k.1 =
       (resetWord k.1 &&& ~~~BitVec.ofNat 32 k.2) ||| (e.word k.1 &&& BitVec.ofNat 32 k.2)) ∧
    d'.rd R.RESET_CAUSE_CAUSE = resetCode c ∧ d'.rd R.RESET_CAUSE_COUNT = min (d.rd R.RESET_CAUSE_COUNT + 1) 65535 ∧
    d'.power.inReset = keepsPower c ∧ d'.power.powered = (d.power.powered && keepsPower c) ∧
    d'.evrec.journal = d.evrec.journal ∧ d'.hrn.slots = d.hrn.slots ∧ d'.bridle.protect = d.bridle.protect ∧
    d'.bridle.safety = d.bridle.safety ∧ d'.life.fused = d.life.fused ∧ d'.life.tag = d.life.tag ∧
    d'.trust.owner = d.trust.owner ∧ d'.trust.minSecver = d.trust.minSecver ∧ d'.time.counter = d.time.counter ∧
    d'.cycle.slots = d.cycle.slots

/-! ### The root of trust and pending changes -/

/-- The fields that show the root of trust, and those that show pending change `k` (R466). -/
def trustFlds : List Fld :=
  [R.SEC_STATUS_OWNER, R.SEC_STATUS_TLS_CERT, R.SEC_STATUS_KW_OK, R.SEC_STATUS_FW_COPY, R.SEC_MIN_SECVER,
   R.SEC_FW_SECVER_RUNNING, R.SEC_FW_SECVER_MIN, R.SEC_HKEYS_ENROLLED, R.SEC_HKEYS_REVOKED, R.SEC_APPROVERS_COUNT,
   R.SEC_APPROVERS_FROM_IMAGE, R.SEC_CERT_EXP_LO, R.SEC_CERT_EXP_HI] ++ (List.range 4).map R.SEC_OWNER_FP ++
  (List.range 4).map R.SEC_DEV_FP ++ (List.range 8).map R.SEC_FW_MEAS
def pendFlds (k : Nat) : List Fld := [R.SEC_PEND_ID_LO k, R.SEC_PEND_STATE k, R.SEC_PEND_KIND k, R.SEC_PEND_APPROVALS k]

/-- Slot `k` holds a pending change in a state, and shows it; the other slots are as they were. -/
def PendIs (d d' : Dev) (k : Nat) (p : Pending) : Prop :=
  oget d'.mgmt.pend k = some p ∧ (∀ j, j ≠ k → oget d'.mgmt.pend j = oget d.mgmt.pend j) ∧
    d'.rd (R.SEC_PEND_ID_LO k) = p.id.toNat % 2 ^ 16 ∧ d'.rd (R.SEC_PEND_STATE k) = p.state.code ∧
    d'.rd (R.SEC_PEND_KIND k) = p.kind % 16 ∧ d'.rd (R.SEC_PEND_APPROVALS k) = min 2 p.approvals.length

/-- The one pending change is approved, of a kind and for a subject (R462). -/
def HoldsApproved (d : Dev) (k : Nat) (p : Pending) (kind : Nat) (subject : BitVec 384) : Prop :=
  d.mgmt.pend = [(k, p)] ∧ k < 8 ∧ p.state = .approved ∧ p.kind = kind ∧ p.subject = subject

/-- A request on a module without owner that is executed if it needs no right (R448, R455). -/
def UnownedRequest (s : State) (r : Req) : Prop :=
  s.dev.alive = true ∧ s.dev.trust.owner = none ∧ r.magic = 0x31474D4E ∧ r.length ≤ 1048576 ∧
    (∃ x, s.dev.session r.session = some x ∧ x.unowned = true) ∧
    (∀ y ∈ s.dev.mgmt.running, y.client ≠ r.client) ∧ (∀ y ∈ s.dev.mgmt.completed, y.client ≠ r.client)

/-! ### Harness slots and staging -/

/-- The fields that show slot `k`, those that show the staged change, and those that mark which slot is what (R120,
R122, R123). -/
def slotFlds (k : Nat) : List Fld :=
  [R.HRN_SLOT_STATE k, R.HRN_SLOT_CAUSE k, R.HRN_SLOT_SEQ k, R.HRN_SLOT_BOOT_PTR k, R.HRN_SLOT_RUNNING k, R.HRN_SLOT_STAGED k]
def stageFlds : List Fld :=
  [R.HRN_STAGE_STATE, R.HRN_STAGE_CLASS, R.HRN_STAGE_SLOT, R.HRN_STAGE_RESULT, R.HRN_STAGE_NOT_READY, R.HRN_STAGE_POSTPONED]
def markFlds : List Fld :=
  (List.range 4).flatMap slotFlds ++ [R.HRN_BOOT_RUNNING_SLOT, R.HRN_BOOT_POINTER_SLOT, R.HRN_EPOCH]

/-- The fields that show the flash (R475). -/
def flashFlds : List Fld := [R.LIFE_FLASH_POOL, R.LIFE_FLASH_POOL_LOW, R.LIFE_WEAR_MAX_PE, R.LIFE_WEAR_AVG_PE]

/-- Nothing is staged any more, and RESULT tells how the change ended; of the harness state only that has changed. -/
def StageEnded (d d' : Dev) (result : Nat) : Prop :=
  d'.hrn = { d.hrn with staged := none } ∧ d'.rd R.HRN_STAGE_RESULT = result ∧ d'.rd R.HRN_STAGE_STATE = 0 ∧
    OtherFields d d' (R.SEC_REQUESTS :: stageFlds ++ markFlds)

/-- A change is staged, and the registers show it. -/
def StageBegun (d d' : Dev) (g : Staged) (state : Nat) : Prop :=
  d'.hrn = { d.hrn with staged := some g } ∧ d'.rd R.HRN_STAGE_RESULT = 1 ∧ d'.rd R.HRN_STAGE_STATE = state ∧
    d'.rd R.HRN_STAGE_SLOT = g.slot % 4 ∧ d'.rd R.HRN_STAGE_CLASS = g.cls % 4

/-! ### Triads -/

/-- A running tile with three replicas in service, no odd finding in its memory, nothing in its voter and no marker
issued. -/
def TriadQuiet (s : State) (t : Fin 144) : Prop :=
  s.dev.tileLive t.val = true ∧ s.dev.rd (R.TILE_STATUS_REP_IN t.val) = 7 ∧ (s.dev.tile t.val).odd = [] ∧
    (s.dev.tile t.val).voter = [] ∧ (s.dev.tile t.val).ended = false ∧ (s.dev.tile t.val).halted = 0 ∧
    (s.dev.tile t.val).retired = 0

/-- A replica has been found odd for a cause (R145, R146): it is counted and shown, an event tells of it, and the replica
is out of service with its instance ended. -/
def FoundOdd (d d' : Dev) (t : Fin 144) (r : Fin 3) (cause : Nat) : Prop :=
  d'.rd (misFld t.val r) = min (d.rd (misFld t.val r) + 1) 255 ∧ d'.rd (R.TILE_FAULT_LAST_ODD t.val) = 2 ^ r.val ∧
    d'.rd R.TRIAD_LAST_TILE = t.val ∧ d'.rd R.TRIAD_LAST_REPLICA = 2 ^ r.val ∧ d'.rd R.TRIAD_LAST_CAUSE = cause ∧
    d'.rd (R.TILE_STATUS_REP_IN t.val) = 7 - 2 ^ r.val ∧ (d'.tile t.val).halted = 2 ^ r.val ∧
    ((d'.tile t.val).rep r).core.running = false ∧ (∃ rec ∈ d'.evrec.presented, rec.code = .replicaOdd ∧
      rec.src = source 1 t.val) ∧ d'.role = d.role

/-! ### Loop steps -/

/-- A replica is about to execute a step of the running sample of a slot that is not the last of its program. -/
def StepReady (s : State) (t : Fin 144) (r : Fin 3) (i : SlotImg) : Prop :=
  s.dev.stepCtx t.val r = some i ∧ ((s.dev.slot i.num).rep r).step + 1 < i.length

/-- A step turns a replica's datapath into one that satisfies `P`, moves on to the next step, leaves every other replica
and slot as it is, sets its sticky flag where `hit`, and changes nothing else of the module. -/
def StepBecomes (c : Instr) (s : State) (r : Fin 3) (i : SlotImg) (flag : Fld) (hit : Prop) (P : LoopRep → Prop) : Prop :=
  Answers c s fun d =>
    let y := (d.slot i.num).rep r
    P y ∧ y.step = ((s.dev.slot i.num).rep r).step + 1 ∧
      (hit → d.rd flag = 1) ∧ (¬hit → d.rd flag = s.dev.rd flag) ∧ OtherFields s.dev d [flag] ∧
      d = { s.dev with regs := d.regs, loop := d.loop } ∧ d.loop = { s.dev.loop with slots := d.loop.slots } ∧
      ∀ k, d.slot k = if k = i.num then (s.dev.slot k).setRep r y else s.dev.slot k

/-- A step stores a value, saturated to 64 bits, to an accumulator. -/
def StoresAcc (c : Instr) (s : State) (r : Fin 3) (i : SlotImg) (a : Fin 4) (v : Int) : Prop :=
  let x := (s.dev.slot i.num).rep r
  StepBecomes c s r i (R.LOOP_STATUS_SAT_ACC i.num) (v < -2 ^ 63 ∨ 2 ^ 63 ≤ v) fun y =>
    (∀ b : Nat, y.accum b = if b = a.val then max (-2 ^ 63) (min (2 ^ 63 - 1) v) else x.accum b) ∧
      y = { x with acc := y.acc, step := y.step }

/-- A step stores a value, saturated to 32 bits, to a node; a write below node 32 is discarded. -/
def StoresNode (c : Instr) (s : State) (r : Fin 3) (i : SlotImg) (flag : Fld) (n : Nat) (v : Int) : Prop :=
  let x := (s.dev.slot i.num).rep r
  StepBecomes c s r i flag (v < -2 ^ 31 ∨ 2 ^ 31 ≤ v) fun y =>
    (∀ k : Nat, y.node k = if k = n ∧ 32 ≤ n then max (-2 ^ 31) (min (2 ^ 31 - 1) v) else x.node k) ∧
      y = { x with nodes := y.nodes, step := y.step }

/-! ### Conditions on a state -/

/-- A register whose write has no action of its own and whose value no limit changes on the way to it: not a transmit
register of a CAN port, not READ_IDX, and with no WO field that the word writes 1 to. -/
def PlainWrite (row : RegRow) (off : Nat) (v : Word) : Prop :=
  regAt off = some row ∧ isCanTx off = false ∧ off ∉ [0x400014, 0x400004, 0x400058, 0x320008, 0xA0, 0xB0] ∧
    actions row.fields v = []

/-- A state in which the module is lit, and nothing waits for a cycle boundary. -/
def LitAndSettled (s : State) : Prop := s.dev.lit = true ∧ s.dev.mgmt.staged = []

/-- Every link is in service and no route is lost. -/
def LinksWhole (s : State) : Prop :=
  ∀ n : Nat, n < 9 → s.dev.rd (R.FAB_LINK_FAIL n) = 0 ∧ s.dev.rd (R.FAB_LINK_DEGR n) = 0 ∧
    s.dev.rd (R.FAB_STATUS_ROUTE_LOST n) = 0

end Sys2Proof.Machine
end

