-- ==== Sys2Proof/Certificates/Slice0/Obligations.lean ====
section
/-! DEFINITION. The statements about the block, for the provers. Each says in its comment which rules of the manual it
formalises. -/

open Sys2Proof
open Sys2Proof.Machine

/-! ### Steps, answers and reset -/

/-- A step takes the command at the front of the queue and is that command's execution with the queue's rest. -/
def Obligations.StepRunsTheFrontCommand : Prop :=
  ∀ (s : State) (c : Instr) (rest : List Instr), s.pending = c :: rest → step s = exec c { s with pending := rest }

/-- Every command answers a next state and leaves the queue as it is; a command whose operands no sender can send changes
nothing (the model's own choice, log entry 7); every run goes on; and (the model's own choice, log entry 1) a step on
an empty queue is one tick of the counter where the electronics are powered. -/
def Obligations.EveryCommandAnswers : Prop :=
  (∀ (c : Instr) (s : State), ∃ d, exec c s = .next { s with dev := d }) ∧
  (∀ (c : Instr) (s : State), c.wellFormed = false → exec c s = .next s) ∧
  (∀ s : State, SafeFrom s) ∧
  (∀ s : State, s.pending = [] → ∃ t, step s = .next t ∧ t.pending = [] ∧
    t.dev = { s.dev with time := { s.dev.time with
      counter := if s.dev.power.powered then s.dev.time.counter + 1 else s.dev.time.counter } })

/-- After reset (R6, R9, R25, R44, R87, R88, R312, R489): the queue is empty, the module is unpowered and in STOPPED, and
the registers whose reset values are not 0 hold them. The state after reset is in canonical form. Where the rules
leave a point open it states the model's own choices: log entry 2. -/
def Obligations.ResetHoldsTheResetValues : Prop :=
  (let d := State.reset.dev
   State.reset.pending = [] ∧ d.role = .stopped ∧ d.power.powered = false ∧ d.time.counter = 0 ∧
   d.word 0x0 = 0x00430C08 ∧ d.word 0xC = 0x01110A14 ∧ d.rd R.SADDLE_SEATED = 1 ∧ d.word 0x94 = 0xFF ∧
   d.word 0xF4 = 0x00FFFFFF ∧ d.rd (R.FAB_RAIL_RAIL_MIN_MV 4) = 0xFFFF ∧ d.rd (R.FAB_TEMP_TJ_MAX 8) = 0x8000 ∧
   d.rd (R.FAB_IOPORT_PRIMARY 8) = 104 ∧ d.rd (R.TILE_POS_LOGICAL 143) = 143 ∧ d.rd (R.TILE_PORTS_N 143) = 3 ∧
   d.rd (R.RING_CONFIG_DIRECTION 1) = 1 ∧ d.word 0x310010 = 0x100 ∧ d.rd R.TIME_CONFIG_SLEW_S = 8 ∧
   d.rd R.EVREC_REPEAT_WIN_MS = 1000 ∧ d.word 0x62010C = 0x80007FFF ∧ d.word 0x10 = 0 ∧ d.word 0xF0 = 0) ∧
  (swf resetWord State.reset.dev.regs = true ∧ Memory.wf State.reset.dev.life.tag = true ∧
     swf (fun _ => (0 : Word)) State.reset.dev.mgmt.latches = true)

/-! ### Tack words (R159 to R162) -/

/-- Decoding and encoding agree (R159): every tack instruction with a correctly predicted branch has a word, and that word
decodes to it on its tile and replica; and every word that decodes is the word of what it decodes to, so no two words
decode to one instruction. -/
def Obligations.TackWordsDecodeAsEncoded : Prop :=
  (∀ (t : Fin 144) (r : Fin 3) (i : Instr) (w : Word), tackEncode i = some w → tackOf i = some (t, r) →
    predicted i = true → tackDecode t r w = some i) ∧
  (∀ (t : Fin 144) (r : Fin 3) (i : Instr) (w : Word), tackDecode t r w = some i →
    tackEncode i = some w ∧ tackOf i = some (t, r))

/-- Words written out from the formats and tables of R159 to R162 decode to their instructions, and words that R159 does
not list do not decode. -/
def Obligations.WrittenOutTackWordsDecode : Prop :=
  ∀ (t : Fin 144) (r : Fin 3),
    tackDecode t r 0x28A00008 = some (.lui t r 5 8) ∧ tackDecode t r 0x58C50140 = some (.ld t r 6 5 0x140) ∧
    tackDecode t r 0x04E004B0 = some (.addi t r 7 0 1200) ∧ tackDecode t r 0x01063808 = some (.slt t r 8 6 7) ∧
    tackDecode t r 0x61090022 = some (.sb t r 8 9 0x22) ∧ tackDecode t r 0xC0000001 = some (.endc t r) ∧
    tackDecode t r 0x54C50204 = some (.lwu t r 6 5 0x204) ∧ tackDecode t r 0x02 = some (.and t r 0 0 0) ∧
    tackDecode t r 0x0000000C = none ∧ tackDecode t r 0x28A10008 = none ∧ tackDecode t r 0x14A00040 = none ∧
    tackDecode t r 0xC0200001 = none ∧ tackDecode t r 0xFC000000 = none

/-! ### Invariants -/

/-- The register file, the service memory and the latches are in canonical form after every step that starts with them so,
whatever the command: no register is listed at its reset value and no byte of the tag at 0, and keys rise. -/
def Obligations.EveryStepKeepsTheCanonicalForm : Prop :=
  ∀ s t : State, swf resetWord s.dev.regs = true → Memory.wf s.dev.life.tag = true →
    swf (fun _ => (0 : Word)) s.dev.mgmt.latches = true → step s = .next t →
    swf resetWord t.dev.regs = true ∧ Memory.wf t.dev.life.tag = true ∧
      swf (fun _ => (0 : Word)) t.dev.mgmt.latches = true

/-- The minimum security versions of images and of firmware never fall, and no fuse entry is ever lost, whatever the
command (R446, R447, R473). -/
def Obligations.VersionFloorsAndFusesOnlyGrow : Prop :=
  ∀ s t : State, step s = .next t →
    s.dev.trust.minSecver.toNat ≤ t.dev.trust.minSecver.toNat ∧ s.dev.trust.fwMin.toNat ≤ t.dev.trust.fwMin.toNat ∧
    ∀ e ∈ s.dev.life.fused, e ∈ t.dev.life.fused

/-! ### Order, time and tiles -/

/-- Order with wrap (R131): a is later than b when (a − b) mod 2^32 lies between 1 and 2^31 − 1. So no value is later than
itself, and of two different values one is later, unless they lie 2^31 apart. No frame is earlier than any number. -/
def Obligations.LaterFollowsR131 : Prop :=
  (∀ a b : Word, later a b = true ↔ ∃ k : Nat, 1 ≤ k ∧ k ≤ 2 ^ 31 - 1 ∧ a = b + BitVec.ofNat 32 k) ∧
  (∀ a b : Word, later a b = true → later b a = false) ∧
  (∀ a b : Word, a ≠ b → a - b ≠ 0x80000000 → later a b = true ∨ later b a = true) ∧
  (∀ a b : Word, seqBefore (some a) (some b) = later b a ∧ seqBefore none (some b) = true ∧ seqBefore (some a) none = false)

/-- The corrected time (R363): T = offset + d + floor((d × rate + 2^39) / 2^40), with the product on 128 bits; one tick of
the counter advances it by 0, 1 or 2 ns while the rate is within its limit, so T never decreases but at a step (R364);
and every command keeps the rate, and one that waits to take effect, within ±549,755,813. -/
def Obligations.CorrectedTimeFollowsR363 : Prop :=
  (∀ (t : TimeSt) (c : DWord), ∃ q : Int, t.at_ c = t.offset + (c - t.c0) + BitVec.ofInt 64 q ∧
    q * 2 ^ 40 ≤ ((c - t.c0).toNat : Int) * t.rate + 2 ^ 39 ∧ ((c - t.c0).toNat : Int) * t.rate + 2 ^ 39 < (q + 1) * 2 ^ 40) ∧
  (∀ (t : TimeSt) (c : DWord), -549755813 ≤ t.rate → t.rate ≤ 549755813 → (c - t.c0).toNat < 2 ^ 64 - 1 →
    (t.at_ (c + 1) - t.at_ c).toNat ≤ 2) ∧
  (let within (r : Int) : Prop := -549755813 ≤ r ∧ r ≤ 549755813
   let kept (d : Dev) : Prop := within d.time.rate ∧ within d.time.freq ∧ ∀ r, d.time.rebase = some r → within r
   kept State.reset.dev ∧ ∀ s t : State, kept s.dev → step s = .next t → kept t.dev)

/-- The bits of a register after a write (R3, R4): a bit that no listed field covers is unchanged; a bit of an RW field
takes the written bit; of a W1C field it is cleared by a 1, and of a W1S field set by a 1; of an RWL field it is taken
while the register is unlocked; and a bit of an RO, ROS or WO field is unchanged. REGISTER_WRITE (R3, R4, R427, R483
to R486). In STOPPED and SAFETY_MAINT a management write of a plain register acts at once; in every other role it
waits for the next cycle boundary, unless its block is one whose writes act at once; a register that has nothing to
write is refused; one that is locked is refused too, and only its other fields take the write; a hole or an unmapped
offset is refused and counted; and tack code's write acts at once. Where the rules leave a point open it states the
model's own choices: log entries 14, 15, 107 and 131. -/
def Obligations.RegisterWritesFollowTheAccessCodes : Prop :=
  (∀ (fields : List (Nat × Nat × Acc)) (free : Bool) (old new : Word) (k : Nat), k < 32 →
     (∀ f ∈ fields, f.1 + f.2.1 ≤ 32) →
     fields.Pairwise (fun f g => f.1 + f.2.1 ≤ g.1 ∨ g.1 + g.2.1 ≤ f.1) →
     let w := regWrite fields free old new
     ((∀ f ∈ fields, k < f.1 ∨ f.1 + f.2.1 ≤ k) → w.getLsbD k = old.getLsbD k) ∧
     ∀ f ∈ fields, f.1 ≤ k → k < f.1 + f.2.1 →
       w.getLsbD k = (match f.2.2 with
         | .rw => new.getLsbD k
         | .w1c => old.getLsbD k && !new.getLsbD k
         | .w1s => old.getLsbD k || new.getLsbD k
         | .rwl => if free then new.getLsbD k else old.getLsbD k
         | .ro | .ros | .wo => old.getLsbD k)) ∧
  (∀ (s : State) (off : BitVec 24) (v : Word) (row : RegRow) (t : Fin 144), s.dev.lit = true →
     let o := off.toNat
     let stored (p : Path) (d : Dev) : Prop :=
       d.word o = storedAs o (regWrite row.fields (s.dev.unlocked p o) (s.dev.word o) v) ∧
         ∀ k : Nat, k ≠ o → d.word k = s.dev.word k
     (PlainWrite row o v → s.dev.writeResult o v = .applied → (atOnce o = true ∨ s.dev.role = .stopped ∨ s.dev.role = .safetyMaint) →
       Answers (.registerWrite .mgmt off v) s fun d => stored .mgmt d ∧
         d = { s.dev with regs := d.regs, mgmt := { s.dev.mgmt with writeStatus := .ok } }) ∧
     (s.dev.writeResult o v = .applied → regAt o = some row → atOnce o = false → s.dev.role ≠ .stopped → s.dev.role ≠ .safetyMaint →
       Answers (.registerWrite .mgmt off v) s fun d => d = { s.dev with mgmt := { s.dev.mgmt with
         writeStatus := .ok, staged := s.dev.mgmt.staged ++ [⟨o, v⟩] } }) ∧
     (s.dev.writeResult o v = .locked → regAt o = some row → hasAcc row.fields [.rw, .w1c, .w1s, .wo] = false →
       Answers (.registerWrite .mgmt off v) s fun d =>
         d = { s.dev with mgmt := { s.dev.mgmt with writeStatus := .locked } }) ∧
     (s.dev.writeResult o v = .locked → regAt o = some row → hasAcc row.fields [.rw, .w1c, .w1s, .wo] = true →
       atOnce o = false → s.dev.role ≠ .stopped → s.dev.role ≠ .safetyMaint → Answers (.registerWrite .mgmt off v) s fun d =>
         d = { s.dev with mgmt := { s.dev.mgmt with
           writeStatus := .locked, staged := s.dev.mgmt.staged ++ [⟨o, keepLocked row.fields (s.dev.word o) v⟩] } }) ∧
     (s.dev.writeResult o v = .readOnly → regAt o = some row →
       Answers (.registerWrite .mgmt off v) s fun d => d = { s.dev with mgmt := { s.dev.mgmt with writeStatus := .named "READ_ONLY" } }) ∧
     (regAt o = none → Answers (.registerWrite .mgmt off v) s fun d =>
       Sets s.dev d [(R.ACCESS_ERR_MGMT, min (s.dev.rd R.ACCESS_ERR_MGMT + 1) 65535), (R.ACCESS_ADDR_OFFSET, o),
         (R.ACCESS_ADDR_PATH, 0), (R.ACCESS_ADDR_WRITE, 1)] ∧
       d = { s.dev with regs := d.regs, mgmt := { s.dev.mgmt with
         writeStatus := .named (if (spanOf o).isSome then "READ_ONLY" else "UNMAPPED") } }) ∧
     (PlainWrite row o v → Answers (.registerWrite (.tack t) off v) s fun d =>
       stored (.tack t) d ∧ d = { s.dev with regs := d.regs }) ∧
     ((o = 0x400004 ∨ o = 0x400058) → Answers (.registerWrite (.tack t) off v) s fun d => d = s.dev))

/-! ### Clear commands -/

/-- Each clear command sets its counters, maxima or flags to 0 and changes nothing else (R79, R87, R218, R238, R245, R341,
R361, R379, R399, R400, R420, R443, R444, R466, R482). The clear commands that change something else (R52, R87, R401,
R420): FLD_RECLOSE closes the field fuse, so a loss of FLD_24V that the fuse caused is over, but FLD_24V has yet to
become good; the cluster's lowest rail becomes 0xFFFF, its highest temperature 0x8000 and its highest periods 0; the
extremes of an FA channel become MIN 0x7FFF and MAX 0x8000; and with the counters of a CAN port the hit counts of its
filters go. Nothing else changes. -/
def Obligations.ClearCommandsClearTheirFieldsOnly : Prop :=
  (∀ (s : State) (n : Fin 9) (k : Fin 48) (g : Fin 12) (x : Fin 2) (a : Fin 16) (p : Fin 4) (q : Fin 2),
     ClearsOnly (.fabClearCounts n) s (R.FAB_RETRY n.val :: (clusterTiles n.val).map R.TILE_RETRY) ∧
     ClearsOnly .cycleClearMax s [R.CYCLE_MAX] ∧
     ClearsOnly (.loopClearFlags k) s [R.LOOP_STATUS_SAT_MUL k.val, R.LOOP_STATUS_SAT_ACC k.val,
       R.LOOP_STATUS_SAT_OUT k.val, R.LOOP_STATUS_LIM k.val, R.LOOP_STATUS_OVERRUN k.val, R.LOOP_STATUS_OBS_LOCK k.val] ∧
     ClearsOnly (.loopClearStats k) s [R.LOOP_COUNT_OVERRUNS k.val, R.LOOP_COUNT_FAULTS k.val, R.LOOP_TIME_MAX_NS k.val] ∧
     ClearsOnly (.glinkClearCounts g) s [R.GLINK_ERRORS_CRC_ERR g.val, R.GLINK_ERRORS_MISSING g.val] ∧
     ClearsOnly .twinClearCounts s [R.TWIN_HB_MISS_GIRTH_SILENT, R.TWIN_HB_MISS_RING_SILENT, R.TWIN_GIRTH_FRAME_ERR,
       R.TWIN_FWD_LATE, R.TWIN_FWD_MISSING, R.TWIN_DUAL_CMD_YIELDS, R.TWIN_DUAL_CMD_LONGEST_US] ∧
     ClearsOnly .timeClearOverflow s [R.TIME_TSQ_STATUS_OVERFLOW] ∧
     ClearsOnly .timeClearMax s [R.TIME_ERROR_MAX] ∧
     ClearsOnly .timeClearCounts s [R.TIME_SAMPLES_VALID, R.TIME_SAMPLES_REJECTED, R.TIME_PPS_EDGES, R.TIME_PPS_BAD,
       R.TIME_TSQ_STATUS_DISCARDED] ∧
     ClearsOnly .clearLost s ((List.range 8).map lostFld) ∧
     ClearsOnly .histClearCounts s [R.HIST_GAPS, R.HIST_DROPPED, R.HIST_RATE_MAX, R.HIST_BUFFER_MAX, R.HIST_EXPORT_MAX,
       R.HIST_SESSIONS_REFUSED] ∧
     ClearsOnly .secClearCounts s [R.SEC_AUTH_FAIL_COUNT, R.SEC_DUPLICATES_DUPLICATE, R.SEC_DUPLICATES_IN_PROGRESS] ∧
     ClearsOnly .dioClearCounts s [R.DIO_FAULTS_COUNT, R.DIO_FLD_MIN_MV, R.DIO_CURRENT_MAX_MA, R.DIO_LIMIT_LIMIT] ∧
     ClearsOnly (.cloClearStats a) s [R.CLO_READ_DEV_MAX_UA a.val, R.CLO_HART_ERRORS a.val] ∧
     ClearsOnly (.rxqClearOverflow p q) s [fldOverflow p.val q.val] ∧
     ClearsOnly .lifeClearCounts s [R.LIFE_FLASH_ERR_PROG_FAIL, R.LIFE_FLASH_ERR_ERASE_FAIL, R.LIFE_ERASE_REERASED,
       R.LIFE_ERASE_SUSPENDS, R.LIFE_TAG_WAIT_WAITED, R.LIFE_TAG_WAIT_LOCK_MAX_MS] ∧
     ClearsOnly (.ringClearMax x) s [R.RING_LOAD_MAX x.val, R.RING_RTT_MAX x.val] ∧
     ClearsOnly (.ringClearCounts x) s [R.RING_TX_FRAMES x.val, R.RING_RX_FRAMES x.val, R.RING_ERRORS_FCS_ERR x.val,
       R.RING_ERRORS_ICV_ERR x.val, R.RING_DUP x.val, R.RING_FIRST x.val, R.RING_SEQ_REJECT_EARLIER x.val,
       R.RING_SEQ_REJECT_RANK x.val, R.RING_HB_TX x.val, R.RING_HB_RX x.val, R.RING_SAFETY_TX x.val,
       R.RING_SAFETY_GRANTS x.val, R.RING_TWIN_TX x.val, R.RING_TWIN_RX x.val, R.RING_PEER_RX x.val,
       R.RING_PEER_LOST x.val, R.RING_SEC_REKEYS x.val, R.RING_SEC_ERR_REPLAY x.val, R.RING_SEC_ERR_UNKNOWN_SC x.val]) ∧
  (∀ (s : State) (n : Fin 9) (c : Fin 32) (p : Fin 4),
     Answers .fldReclose s (fun d => d.rd R.POWER_FLD_TRIPPED = 0 ∧ OtherFields s.dev d [R.POWER_FLD_TRIPPED] ∧
       d = { s.dev with regs := d.regs, power := { s.dev.power with
         fldLost := s.dev.power.fldLost && !s.dev.on R.POWER_FLD_TRIPPED } }) ∧
     Answers (.fabClearMax n) s (fun d =>
       d.rd (R.FAB_RAIL_RAIL_MIN_MV n.val) = 0xFFFF ∧ d.rd (R.FAB_TEMP_TJ_MAX n.val) = 0x8000 ∧
       d.rd (R.FAB_PACE_MAX_PERIOD_MAX n.val) = 0 ∧ d.rd (R.FAB_PACE_MAX_SLOWEST_MAX n.val) = 0 ∧
       (∀ t ∈ clusterTiles n.val, d.rd (R.TILE_PACE_PERIOD_MAX t) = 0) ∧
       OnlyFields s.dev d ([R.FAB_RAIL_RAIL_MIN_MV n.val, R.FAB_TEMP_TJ_MAX n.val, R.FAB_PACE_MAX_PERIOD_MAX n.val,
         R.FAB_PACE_MAX_SLOWEST_MAX n.val] ++ (clusterTiles n.val).map R.TILE_PACE_PERIOD_MAX)) ∧
     Answers (.faiClearMinmax c) s (fun d => d.rd (R.FAI_MINMAX_MIN c.val) = 0x7FFF ∧ d.rd (R.FAI_MINMAX_MAX c.val) = 0x8000 ∧
       OnlyFields s.dev d [R.FAI_MINMAX_MIN c.val, R.FAI_MINMAX_MAX c.val]) ∧
     (let fs := [R.CAN_ERR_COUNT_TX_ERR p.val, R.CAN_ERR_COUNT_RX_ERR p.val, R.CAN_BUSOFF_COUNT p.val,
        R.CAN_TX_COUNT_SENT p.val, R.CAN_TX_COUNT_ARB_LOST p.val, R.CAN_RX_COUNT_ACCEPTED p.val,
        R.CAN_RX_COUNT_NO_MATCH p.val, R.CAN_RX_DROP_OVF0 p.val, R.CAN_RX_DROP_OVF1 p.val, R.CAN_SHADOW_MISSING p.val,
        R.CAN_SHADOW_RESENT p.val]
      Answers (.canClearCounts p) s (fun d => (∀ f ∈ fs, d.rd f = 0) ∧ OtherFields s.dev d fs ∧
        (d.port p.val).hits = [] ∧ (∀ k : Nat, k ≠ p.val → d.port k = s.dev.port k) ∧
        d = { s.dev with regs := d.regs, can := d.can })))

/-- The tiles of a cluster (R17): tile (x, y) is number 12 y + x and belongs to cluster (y div 4) × 3 + (x div 4) and to
die 0 when x ≤ 5 and die 1 when x ≥ 6, as its position register also shows; every cluster has sixteen tiles. -/
def Obligations.TilesBelongToClustersByR17 : Prop :=
  (∀ x y : Nat, x < 12 → y < 12 → clusterOf (12 * y + x) = y / 4 * 3 + x / 4 ∧
    State.reset.dev.rd (R.TILE_POS_CLUSTER (12 * y + x)) = y / 4 * 3 + x / 4 ∧
    State.reset.dev.rd (R.TILE_POS_DIE (12 * y + x)) = if x ≤ 5 then 0 else 1) ∧
  (∀ n t : Nat, n < 9 → (t ∈ clusterTiles n ↔ t < 144 ∧ clusterOf t = n)) ∧
  (∀ n : Nat, n < 9 → (clusterTiles n).length = 16 ∧ (clusterTiles n).Nodup)

/-! ### Words, heartbeats and frames as bytes -/

/-- The words of loop programs (R231, R233): the word of every loop step decodes to that step, and every word that passes
the check is the word of the step that it stands for, so no two words stand for one step. The worked MUL of R233 is
0x1CA4_A00C. Heartbeats and ring frames (R321, R344): the 48 bytes of a heartbeat and the bytes of a ring frame read
as what they were written from; a heartbeat of another length or TYPE is not valid, and bytes of another EtherType are
no ring frame. -/
def Obligations.LoopWordsHeartbeatsAndRingFramesReadAsWritten : Prop :=
  ((∀ (i : Instr) (w : Word), loopEncode i = some w → ∃ (t : Fin 144) (r : Fin 3), loopDecode t r w = some i) ∧
   (∀ (t : Fin 144) (r : Fin 3) (i : Instr) (w : Word), loopDecode t r w = some i → loopEncode i = some w) ∧
   ∀ (t : Fin 144) (r : Fin 3), loopDecode t r 0x1CA4A00C = some (.loopMul t r 41 40 12) ∧ loopDecode t r 0 = some (.loopNop t r) ∧
     loopDecode t r 1 = none ∧ loopDecode t r 0x4C000000 = none) ∧
  ((∀ b : Beat, b.role < 256 → b.side < 2 → b.pair < 8 → b.flags < 256 → b.fwMajor < 256 → b.fwMinor < 256 → b.safeSet < 256 →
     b.elig < 65536 → b.seq < 65536 → (beatBytes b).length = 48 ∧ readBeat (beatBytes b) b.checkOk = b) ∧
   (∀ (bs : List Byte) (ok : Bool), bs.length ≠ 48 ∨ bs[0]? ≠ some 0x48 → (readBeat bs ok).checkOk = false) ∧
   (∀ f : RingFrame, (ringFrameBytes f).length = 10 + f.payload.length ∧ readRingFrame (ringFrameBytes f) = some f) ∧
   (∀ bs : List Byte, bs.take 2 ≠ [0x88, 0xB5] ∨ bs.length < 10 → readRingFrame bs = none))

/-! ### Tack code (chapter 07) -/

/-- Division (R162, R163): by zero 0 for DIV and DIVU and ra for REM and REMU; −2^63 by −1 gives −2^63 and 0; else the
quotient truncated toward zero and its remainder. The register ALU instructions of R162: for a replica about to
execute, each writes its result to rd (a write to g0 is discarded), goes on at PC + 4 and retires, and changes nothing
else. "[b]" is the low 6 bits. The immediate ALU instructions of R162, with sext and zext of R160. -/
def Obligations.TackArithmeticFollowsR162AndR163 : Prop :=
  (∀ (s : State) (t : Fin 144) (r : Fin 3) (rd ra rb : Fin 32) (c : TackCtx), TackReady s t r c →
     let x := theReplica s t r
     let a := x.get ra
     let b := x.get rb
     (b = 0 → WritesRegister (.div t r rd ra rb) s t r rd 0 ∧ WritesRegister (.divu t r rd ra rb) s t r rd 0 ∧
       WritesRegister (.rem t r rd ra rb) s t r rd a ∧ WritesRegister (.remu t r rd ra rb) s t r rd a) ∧
     (a.toInt = -2 ^ 63 → b.toInt = -1 → WritesRegister (.div t r rd ra rb) s t r rd a ∧
       WritesRegister (.rem t r rd ra rb) s t r rd 0) ∧
     (b ≠ 0 → ¬(a.toInt = -2 ^ 63 ∧ b.toInt = -1) →
       (∀ q m : Int, a.toInt = q * b.toInt + m → m.natAbs < b.toInt.natAbs → 0 ≤ m * a.toInt →
         WritesRegister (.div t r rd ra rb) s t r rd (BitVec.ofInt 64 q) ∧
         WritesRegister (.rem t r rd ra rb) s t r rd (BitVec.ofInt 64 m))) ∧
     (b ≠ 0 → WritesRegister (.divu t r rd ra rb) s t r rd (BitVec.ofNat 64 (a.toNat / b.toNat)) ∧
       WritesRegister (.remu t r rd ra rb) s t r rd (BitVec.ofNat 64 (a.toNat % b.toNat)))) ∧
  (∀ (s : State) (t : Fin 144) (r : Fin 3) (rd ra rb : Fin 32) (c : TackCtx), TackReady s t r c →
     let x := theReplica s t r
     let a := x.get ra
     let b := x.get rb
     WritesRegister (.add t r rd ra rb) s t r rd (a + b) ∧
     WritesRegister (.sub t r rd ra rb) s t r rd (a - b) ∧
     WritesRegister (.and t r rd ra rb) s t r rd (a &&& b) ∧
     WritesRegister (.or t r rd ra rb) s t r rd (a ||| b) ∧
     WritesRegister (.xor t r rd ra rb) s t r rd (a ^^^ b) ∧
     WritesRegister (.shl t r rd ra rb) s t r rd (a <<< (b.extractLsb' 0 6).toNat) ∧
     WritesRegister (.shr t r rd ra rb) s t r rd (a >>> (b.extractLsb' 0 6).toNat) ∧
     WritesRegister (.sar t r rd ra rb) s t r rd (a.sshiftRight (b.extractLsb' 0 6).toNat) ∧
     WritesRegister (.slt t r rd ra rb) s t r rd (if a.toInt < b.toInt then 1 else 0) ∧
     WritesRegister (.sltu t r rd ra rb) s t r rd (if a.toNat < b.toNat then 1 else 0) ∧
     WritesRegister (.sadd t r rd ra rb) s t r rd
       (BitVec.ofInt 64 (max (-2 ^ 63) (min (2 ^ 63 - 1) (a.toInt + b.toInt)))) ∧
     WritesRegister (.ssub t r rd ra rb) s t r rd
       (BitVec.ofInt 64 (max (-2 ^ 63) (min (2 ^ 63 - 1) (a.toInt - b.toInt)))) ∧
     WritesRegister (.mul t r rd ra rb) s t r rd (BitVec.ofNat 64 (a.toNat * b.toNat % 2 ^ 64)) ∧
     WritesRegister (.mulh t r rd ra rb) s t r rd (((a.signExtend 128) * (b.signExtend 128)).extractLsb' 64 64) ∧
     WritesRegister (.mulhu t r rd ra rb) s t r rd (((a.setWidth 128) * (b.setWidth 128)).extractLsb' 64 64)) ∧
  (∀ (s : State) (t : Fin 144) (r : Fin 3) (rd ra : Fin 32) (imm : BitVec 16) (sh : BitVec 6) (c : TackCtx),
     TackReady s t r c →
     let a := (theReplica s t r).get ra
     WritesRegister (.addi t r rd ra imm) s t r rd (a + imm.signExtend 64) ∧
     WritesRegister (.andi t r rd ra imm) s t r rd (a &&& imm.setWidth 64) ∧
     WritesRegister (.ori t r rd ra imm) s t r rd (a ||| imm.setWidth 64) ∧
     WritesRegister (.xori t r rd ra imm) s t r rd (a ^^^ imm.setWidth 64) ∧
     WritesRegister (.shli t r rd ra sh) s t r rd (a <<< sh.toNat) ∧
     WritesRegister (.shri t r rd ra sh) s t r rd (a >>> sh.toNat) ∧
     WritesRegister (.sari t r rd ra sh) s t r rd (a.sshiftRight sh.toNat) ∧
     WritesRegister (.slti t r rd ra imm) s t r rd (if a.toInt < imm.toInt then 1 else 0) ∧
     WritesRegister (.sltiu t r rd ra imm) s t r rd (if a.toNat < (imm.signExtend 64).toNat then 1 else 0) ∧
     WritesRegister (.lui t r rd imm) s t r rd (imm.signExtend 64 <<< 16))

/-- Loads from the data area (R160, R162, R172) where no buffered store overlaps: rd is the little-endian value, sign or
zero extended; nothing else changes. A store to the data area (R162, R172) enters the store buffer with its bytes,
least significant first, and the replica changes in nothing else; every byte that a drain then writes lies in the
stored bytes. Stores to the output window (R166): they retire an effect of kind 0x01 under the next index, with the
byte mask, the aligned offset and the data in place, and change no memory. Where the rules leave a point open it
states the model's own choices: log entries 16, 59, 60 and 61. -/
def Obligations.TackLoadsAndStores : Prop :=
  (∀ (s : State) (t : Fin 144) (r : Fin 3) (rd ra : Fin 32) (imm : BitVec 16) (c : TackCtx), TackReady s t r c →
     let x := theReplica s t r
     let a := (x.get ra + imm.signExtend 64).toNat % 2 ^ 32
     let byte (k : Nat) : Byte := Memory.read x.sram (a + k)
     x.storeBuf = [] → 0x20000 ≤ a →
     (a + 1 ≤ c.part.dataTop → WritesRegister (.lb t r rd ra imm) s t r rd ((byte 0).signExtend 64) ∧
       WritesRegister (.lbu t r rd ra imm) s t r rd ((byte 0).setWidth 64)) ∧
     (a + 2 ≤ c.part.dataTop → a % 2 = 0 →
       WritesRegister (.lh t r rd ra imm) s t r rd ((byte 1 ++ byte 0 : BitVec 16).signExtend 64) ∧
       WritesRegister (.lhu t r rd ra imm) s t r rd ((byte 1 ++ byte 0 : BitVec 16).setWidth 64)) ∧
     (a + 4 ≤ c.part.dataTop → a % 4 = 0 →
       WritesRegister (.lw t r rd ra imm) s t r rd ((byte 3 ++ byte 2 ++ byte 1 ++ byte 0 : BitVec 32).signExtend 64) ∧
       WritesRegister (.lwu t r rd ra imm) s t r rd ((byte 3 ++ byte 2 ++ byte 1 ++ byte 0 : BitVec 32).setWidth 64)) ∧
     (a + 8 ≤ c.part.dataTop → a % 8 = 0 →
       WritesRegister (.ld t r rd ra imm) s t r rd
         (byte 7 ++ byte 6 ++ byte 5 ++ byte 4 ++ byte 3 ++ byte 2 ++ byte 1 ++ byte 0 : BitVec 64))) ∧
  (∀ (s : State) (t : Fin 144) (r : Fin 3) (rs ra : Fin 32) (imm : BitVec 16) (c : TackCtx), TackReady s t r c →
     let x := theReplica s t r
     let a := effAddr (x.get ra) imm
     x.storeBuf = [] →
     ∀ i n, (i, n) ∈ [(Instr.sb t r rs ra imm, 1), (.sh t r rs ra imm, 2), (.sw t r rs ra imm, 4), (.sd t r rs ra imm, 8)] →
       0x20000 ≤ a → a + n ≤ c.part.dataTop → c.part.dataTop ≤ 0x80000 → a % n = 0 →
       ReplicaBecomes i s t r (fun y =>
         (∃ bs : List Byte, bs.length = n ∧ (∀ k : Fin 8, k.val < n → bs[k.val]? = some ((x.get rs).extractLsb' (8 * k.val) 8)) ∧
           y = { x with core := { x.core with pc := x.core.pc + 4 }, retired := x.retired + 1, storeBuf := [⟨a, bs⟩] }) ∧
         ∀ b : Nat, (b < a ∨ a + n ≤ b) → Memory.read y.drain.sram b = Memory.read x.sram b)) ∧
  (∀ (s : State) (t : Fin 144) (r : Fin 3) (rs ra : Fin 32) (imm : BitVec 16) (c : TackCtx), TackReady s t r c →
     let x := theReplica s t r
     let a := effAddr (x.get ra) imm
     c.held < 16 → c.part.outLen ≤ 0x10000 →
     ∀ i n, (i, n) ∈ [(Instr.sb t r rs ra imm, 1), (.sh t r rs ra imm, 2), (.sw t r rs ra imm, 4), (.sd t r rs ra imm, 8)] →
       0x90000 ≤ a → a + n ≤ 0x90000 + c.part.outLen → a % n = 0 →
       ReplicaBecomes i s t r (fun y => y.sram = x.sram ∧ y.storeBuf = x.storeBuf ∧ y.core.g = x.core.g ∧
         y.core.pc = x.core.pc + 4 ∧ y.effects = x.effects + 1 ∧
         ∃ e : Effect, y.outbox = x.outbox ++ [e] ∧ e.idx = x.effects ∧ e.kind = 1 ∧ e.target.toNat = (a - 0x90000) / 8 * 8 ∧
           (∀ k : Fin 8, (e.mask.getLsbD k.val = true ↔ a % 8 ≤ k.val ∧ k.val < a % 8 + n) ∧
             (a % 8 ≤ k.val → k.val < a % 8 + n →
               e.data.extractLsb' (8 * k.val) 8 = (x.get rs).extractLsb' (8 * (k.val - a % 8)) 8))))

/-- Branches and jumps (R160, R162, R490) to a target in the code area: where the instruction stream goes on. A
misprediction only counts. The system instructions that complete on the replica (R162, R166, R170, R171, R173): FENCE
drains the store buffer; ENDC drains it, retires the cycle-end marker and ends the instance; RDTIME waits for its
shared read; RDSR and WRSR. The contents of the special registers that RDSR reads (R170); a number that is not listed
raises ILLEGAL, and so does WRSR of a register that is not writable. Where the rules leave a point open it states the
model's own choices: log entries 59 and 60. -/
def Obligations.TackBranchesAndSystemInstructions : Prop :=
  (∀ (s : State) (t : Fin 144) (r : Fin 3) (ra rb rd : Fin 32) (off imm : BitVec 16) (off26 : BitVec 26) (c : TackCtx),
     TackReady s t r c →
     let x := theReplica s t r
     let a := x.get ra
     let b := x.get rb
     let goesTo (i : Instr) (pc : Word) : Prop :=
       pc.toNat < 0x20000 → ReplicaBecomes i s t r fun y => y = { x with core := { x.core with pc := pc }, retired := x.retired + 1 }
     let branch (taken : Prop) (i : Instr) : Prop :=
       (taken → goesTo i (x.core.pc + (off.signExtend 32 <<< 2))) ∧
       (¬taken → ReplicaBecomes i s t r fun y =>
         y = { x with core := { x.core with pc := x.core.pc + 4 }, retired := x.retired + 1 })
     let target := (a + imm.signExtend 64).setWidth 32
     branch (a = b) (.beq t r ra rb off none) ∧
     branch (a ≠ b) (.bne t r ra rb off none) ∧
     branch (a.toInt < b.toInt) (.blt t r ra rb off none) ∧
     branch (b.toInt ≤ a.toInt) (.bge t r ra rb off none) ∧
     branch (a.toNat < b.toNat) (.bltu t r ra rb off none) ∧
     branch (b.toNat ≤ a.toNat) (.bgeu t r ra rb off none) ∧
     goesTo (.jump t r off26) (x.core.pc + (off26.signExtend 32 <<< 2)) ∧
     ((x.core.pc + (off26.signExtend 32 <<< 2)).toNat < 0x20000 → ReplicaBecomes (.jal t r off26) s t r (fun y =>
       (∀ k, y.get k = if k = 31 then (x.core.pc + 4).setWidth 64 else x.get k) ∧
       y = { x with core := { x.core with g := y.core.g, pc := x.core.pc + (off26.signExtend 32 <<< 2) }
                    retired := x.retired + 1 })) ∧
     (target.toNat % 4 = 0 → target.toNat < 0x20000 → ReplicaBecomes (.jalr t r rd ra imm none) s t r (fun y =>
       (∀ k, y.get k = if k = rd ∧ k ≠ 0 then (x.core.pc + 4).setWidth 64 else x.get k) ∧
       y = { x with core := { x.core with g := y.core.g, pc := target }, retired := x.retired + 1 }))) ∧
  (∀ (s : State) (t : Fin 144) (r : Fin 3) (rd ra num : Fin 32) (c : TackCtx), TackReady s t r c →
     let x := theReplica s t r
     ReplicaBecomes (.fence t r) s t r (fun y =>
       y = { x with core := { x.core with pc := x.core.pc + 4 }, retired := x.retired + 1, storeBuf := []
                    sram := y.sram } ∧ y.sram = x.drain.sram) ∧
     (c.held < 16 → ReplicaBecomes (.endc t r) s t r (fun y =>
       y.storeBuf = [] ∧ y.sram = x.drain.sram ∧ y.core.running = false ∧ y.core.g = x.core.g ∧
       y.retired = x.retired + 1 ∧ y.effects = x.effects + 1 ∧
       ∃ e : Effect, y.outbox = x.outbox ++ [e] ∧ e.idx = x.effects ∧ e.kind = 0x0F ∧
         e.data = BitVec.ofNat 64 c.run.release ∧ e.abort = none)) ∧
     ReplicaBecomes (.rdtime t r rd) s t r (fun y => y = { x with pending := some ⟨.rdtime, 0, rd.val⟩ }) ∧
     (∀ v, c.special x num.val = some v → WritesRegister (.rdsr t r rd num) s t r rd v) ∧
     ReplicaBecomes (.wrsr t r ra 4) s t r (fun y =>
       y = { x with core := { x.core with epc := x.get ra, pc := x.core.pc + 4 }, retired := x.retired + 1 })) ∧
  (∀ (s : State) (t : Fin 144) (r : Fin 3) (rd ra num : Fin 32) (c : TackCtx), TackReady s t r c →
     let x := theReplica s t r
     (∀ v, c.special x num.val = some v ↔
       (num = 0 ∧ v = BitVec.ofNat 64 c.run.release) ∨ (num = 1 ∧ v = BitVec.ofNat 64 x.retired) ∨
       (num = 2 ∧ v = c.task.spLo.setWidth 64) ∨ (num = 3 ∧ v = c.task.spHi.setWidth 64) ∨
       (num = 4 ∧ v = x.core.epc) ∨ (num = 5 ∧ v = x.core.ecause) ∨ (num = 6 ∧ v = x.core.eval) ∨
       (num = 7 ∧ v = c.status x.core.depth) ∨ (num = 8 ∧ v = c.tstamp)) ∧
     (c.held < 16 → 8 < num.val → ∃ w : Word, tackDecode t r w = some (.rdsr t r rd num) ∧
       RaisesException (.rdsr t r rd num) s t r c 1 (w.setWidth 64)) ∧
     (c.held < 16 → num ≠ 4 → ∃ w : Word, tackDecode t r w = some (.wrsr t r ra num) ∧
       RaisesException (.wrsr t r ra num) s t r c 1 (w.setWidth 64)))

/-- Taking an exception whose push is accepted (R180), by TRAP (cause 4, EVAL the immediate) and by a word that does not
decode (cause 1, EVAL the word): the frame below g30, the exception registers, and the handler. The checks of R490 in
their order: an instruction that raises an exception does not complete. A load that is not permitted raises ACCESS (2)
even where it is misaligned; a permitted one that is misaligned raises ALIGN (3); EVAL is the address. The same for a
store. A taken branch, a jump or a JALR to a target outside the code area raises ACCESS with the target as EVAL, and a
JALR to a misaligned target inside it ALIGN. Device space is excepted here. RFE (R182): its checks in their order,
then what it restores. Where the rules leave a point open it states the model's own choices: log entries 16 and 59. -/
def Obligations.TackExceptionsEnterAndReturn : Prop :=
  (∀ (s : State) (t : Fin 144) (r : Fin 3) (imm : BitVec 16) (w : Word) (c : TackCtx), TackReady s t r c →
     let x := theReplica s t r
     let sp := (x.get 30).toNat
     c.task.handler ≠ 0 → x.storeBuf = [] → x.core.depth < 4 → sp % 16 = 0 → 128 ≤ sp → c.task.spLo.toNat ≤ sp - 128 →
     sp ≤ c.task.spHi.toNat → 0x20000 ≤ sp - 128 → sp ≤ c.part.dataTop →
     let entered (i : Instr) (cause : Nat) (eval : DWord) : Prop := ReplicaBecomes i s t r fun y =>
       y.core.pc = c.task.handler ∧ y.core.epc = x.core.pc.setWidth 64 ∧ y.core.ecause = BitVec.ofNat 64 cause ∧
       y.core.eval = eval ∧ y.core.depth = x.core.depth + 1 ∧ (y.get 30).toNat = sp - 128 ∧
       (∀ k, k ≠ 30 → y.get k = x.get k) ∧ y.effects = x.effects ∧ y.outbox = x.outbox ∧
       (∀ b, (b < sp - 128 ∨ sp ≤ b) → Memory.read y.sram b = Memory.read x.sram b) ∧
       (∀ k : Fin 5, ∀ v, ([x.core.epc, x.core.ecause, x.core.eval, c.status x.core.depth, x.get 31] : List DWord)[k.val]? = some v →
         Memory.readLe y.sram (sp - 128 + 8 * k.val) 8 = v.toNat) ∧
       (∀ k : Fin 11, Memory.readLe y.sram (sp - 88 + 8 * k.val) 8 = (sget (fun _ => (0 : DWord)) x.core.g (k.val + 1)).toNat)
     entered (.trap t r imm) 4 (imm.setWidth 64) ∧
     (tackDecode t r w = none → entered (.illegalInstruction t r w) 1 (w.setWidth 64))) ∧
  (∀ (s : State) (t : Fin 144) (r : Fin 3) (rd ra : Fin 32) (imm off : BitVec 16) (off26 : BitVec 26) (c : TackCtx),
     TackReady s t r c →
     let x := theReplica s t r
     let rel := x.core.pc + (off.signExtend 32 <<< 2)
     let far := x.core.pc + (off26.signExtend 32 <<< 2)
     let a := (x.get ra + imm.signExtend 64).toNat % 2 ^ 32
     c.held < 16 → a < 0x80000000 →
     (∀ i n, (i, n) ∈ [(Instr.lb t r rd ra imm, 1), (.lbu t r rd ra imm, 1), (.lhu t r rd ra imm, 2), (.lwu t r rd ra imm, 4), (.lh t r rd ra imm, 2), (.lw t r rd ra imm, 4), (.ld t r rd ra imm, 8)] →
       (c.part.mayLoad c.task.priv a n = false → RaisesException i s t r c 2 (BitVec.ofNat 64 a)) ∧
       (c.part.mayLoad c.task.priv a n = true → a % n ≠ 0 → RaisesException i s t r c 3 (BitVec.ofNat 64 a))) ∧
     (∀ i n, (i, n) ∈ [(Instr.sb t r rd ra imm, 1), (.sh t r rd ra imm, 2), (.sw t r rd ra imm, 4), (.sd t r rd ra imm, 8)] →
       (c.part.mayStore c.task.priv a n = false → RaisesException i s t r c 2 (BitVec.ofNat 64 a)) ∧
       (c.part.mayStore c.task.priv a n = true → a % n ≠ 0 → RaisesException i s t r c 3 (BitVec.ofNat 64 a))) ∧
     (0x20000 ≤ rel.toNat →
       (x.get rd = x.get ra → RaisesException (.beq t r rd ra off none) s t r c 2 (rel.setWidth 64)) ∧
       (x.get rd ≠ x.get ra → RaisesException (.bne t r rd ra off none) s t r c 2 (rel.setWidth 64)) ∧
       ((x.get rd).toInt < (x.get ra).toInt → RaisesException (.blt t r rd ra off none) s t r c 2 (rel.setWidth 64)) ∧
       ((x.get ra).toInt ≤ (x.get rd).toInt → RaisesException (.bge t r rd ra off none) s t r c 2 (rel.setWidth 64)) ∧
       ((x.get rd).toNat < (x.get ra).toNat → RaisesException (.bltu t r rd ra off none) s t r c 2 (rel.setWidth 64)) ∧
       ((x.get ra).toNat ≤ (x.get rd).toNat → RaisesException (.bgeu t r rd ra off none) s t r c 2 (rel.setWidth 64))) ∧
     (0x20000 ≤ far.toNat → RaisesException (.jump t r off26) s t r c 2 (far.setWidth 64) ∧
       RaisesException (.jal t r off26) s t r c 2 (far.setWidth 64)) ∧
     (0x20000 ≤ a → RaisesException (.jalr t r rd ra imm none) s t r c 2 (BitVec.ofNat 64 a)) ∧
     (a < 0x20000 → a % 4 ≠ 0 → RaisesException (.jalr t r rd ra imm none) s t r c 3 (BitVec.ofNat 64 a))) ∧
  (∀ (s : State) (t : Fin 144) (r : Fin 3) (c : TackCtx), TackReady s t r c → c.held < 16 →
     let x := theReplica s t r
     let sp := (x.get 30).toNat
     (x.core.depth = 0 → RaisesException (.rfe t r) s t r c 1 0xC0000002) ∧
     (x.core.depth ≠ 0 → sp % 16 ≠ 0 → RaisesException (.rfe t r) s t r c 3 (x.get 30)) ∧
     (x.core.depth ≠ 0 → sp % 16 = 0 → ¬(0x20000 ≤ sp ∧ sp + 128 ≤ c.part.dataTop) →
       RaisesException (.rfe t r) s t r c 2 (x.get 30)) ∧
     (x.core.depth ≠ 0 → sp % 16 = 0 → 0x20000 ≤ sp → sp + 128 ≤ c.part.dataTop →
       ReplicaBecomes (.rfe t r) s t r (fun y =>
         let dword (k : Nat) : DWord := BitVec.ofNat 64 (Memory.readLe x.drain.sram (sp + 8 * k) 8)
         y.core.epc = dword 0 ∧ y.core.ecause = dword 1 ∧ y.core.eval = dword 2 ∧ y.core.depth = x.core.depth - 1 ∧
         y.get 31 = dword 4 ∧ y.get 30 = x.get 30 + 128 ∧ (∀ k : Fin 32, 1 ≤ k.val → k.val ≤ 11 → y.get k = dword (k.val + 4)) ∧
         (∀ k : Fin 32, 12 ≤ k.val → k.val ≤ 29 → y.get k = x.get k) ∧ y.sram = x.drain.sram ∧ y.storeBuf = [] ∧
         (x.core.epc.toNat % 4 = 0 → y.core.pc = x.core.epc.setWidth 32))))

/-! ### The loop engine (chapter 09) -/

/-- Rounding and saturation (R232): rnd is the floor of (p + 2^(S−1)) / 2^S, to nearest with halves toward positive
infinity; a saturation clamps to the signed range and says whether it did. The steps of R233 that store to an
accumulator. The steps of R233 that store to a node; a write below node 32 is discarded (R226). SINCOS (R233) writes
the sine to node[D] and the cosine to node[D + 1], by the model's function `sincos` (that this function rounds the
true sine and cosine is not claimed here but at the quarter turns). -/
def Obligations.LoopArithmeticFollowsR232 : Prop :=
  ((∀ p : Int, rnd p 0 = p) ∧
   (∀ (p : Int) (n : Nat), 1 ≤ n → rnd p n * 2 ^ n ≤ p + 2 ^ (n - 1) ∧ p + 2 ^ (n - 1) < (rnd p n + 1) * 2 ^ n) ∧
   (∀ (p : Int) (n : Nat), 1 ≤ n → 2 * (rnd p n * 2 ^ n - p).natAbs ≤ 2 ^ n) ∧
   (∀ v : Int, satTo 32 v = (max (-2 ^ 31) (min (2 ^ 31 - 1) v), decide (v < -2 ^ 31 ∨ 2 ^ 31 ≤ v))) ∧
   (∀ v : Int, satTo 64 v = (max (-2 ^ 63) (min (2 ^ 63 - 1) v), decide (v < -2 ^ 63 ∨ 2 ^ 63 ≤ v)))) ∧
  (∀ (s : State) (t : Fin 144) (r : Fin 3) (i : SlotImg) (D : Fin 4) (A B : Fin 256) (C : Fin 512) (S : Fin 32),
     StepReady s t r i →
     let x := (s.dev.slot i.num).rep r
     StoresAcc (.loopClr t r D) s r i D 0 ∧
     StoresAcc (.loopMac t r D A C) s r i D (x.accum D.val + rnd (x.node A.val * i.coef C.val) (i.shift C.val)) ∧
     StoresAcc (.loopMsb t r D A C) s r i D (x.accum D.val - rnd (x.node A.val * i.coef C.val) (i.shift C.val)) ∧
     StoresAcc (.loopMacn t r D A B) s r i D (x.accum D.val + x.node A.val * x.node B.val) ∧
     StoresAcc (.loopAdda t r D A S) s r i D (x.accum D.val + x.node A.val * 2 ^ S.val)) ∧
  (∀ (s : State) (t : Fin 144) (r : Fin 3) (i : SlotImg) (D A B : Fin 256) (a : Fin 4) (C : Fin 512) (S : Fin 48)
     (L : Fin 255), StepReady s t r i →
     let x := (s.dev.slot i.num).rep r
     let k := i.num
     StoresNode (.loopSta t r D a S) s r i (R.LOOP_STATUS_SAT_OUT k) D.val (rnd (x.accum a.val) S.val) ∧
     StoresNode (.loopMul t r D A C) s r i (R.LOOP_STATUS_SAT_MUL k) D.val (rnd (x.node A.val * i.coef C.val) (i.shift C.val)) ∧
     StoresNode (.loopAdd t r D A B) s r i (R.LOOP_STATUS_SAT_OUT k) D.val (x.node A.val + x.node B.val) ∧
     StoresNode (.loopSub t r D A B) s r i (R.LOOP_STATUS_SAT_OUT k) D.val (x.node A.val - x.node B.val) ∧
     StoresNode (.loopMov t r D A) s r i (R.LOOP_STATUS_SAT_OUT k) D.val (x.node A.val) ∧
     StoresNode (.loopLdc t r D C) s r i (R.LOOP_STATUS_SAT_OUT k) D.val (i.coef C.val) ∧
     (x.node B.val ≠ 0 → StoresNode (.loopSel t r D A B) s r i (R.LOOP_STATUS_SAT_OUT k) D.val (x.node A.val)) ∧
     (x.node B.val = 0 → StepBecomes (.loopSel t r D A B) s r i (R.LOOP_STATUS_SAT_OUT k) False
       (fun y => y = { x with step := y.step })) ∧
     (let lo := x.node L.val
      let hi := x.node (L.val + 1)
      let v := x.node A.val
      let w := if hi < lo then lo else max lo (min hi v)
      StepBecomes (.loopLim t r D A L) s r i (R.LOOP_STATUS_LIM k) (w ≠ v) (fun y =>
        (∀ n : Nat, y.node n = if n = D.val ∧ 32 ≤ D.val then w else x.node n) ∧ y = { x with nodes := y.nodes, step := y.step }))) ∧
  ((∀ (s : State) (t : Fin 144) (r : Fin 3) (i : SlotImg) (D : Fin 255) (A : Fin 256), StepReady s t r i →
     let x := (s.dev.slot i.num).rep r
     let v := sincos (BitVec.ofInt 32 (x.node A.val)).toNat
     StepBecomes (.loopSincos t r D A) s r i (R.LOOP_STATUS_SAT_OUT i.num) False (fun y =>
       (32 ≤ D.val → y.node D.val = (BitVec.ofInt 32 v.1).toInt) ∧
       (31 ≤ D.val → y.node (D.val + 1) = (BitVec.ofInt 32 v.2).toInt) ∧
       ∀ n : Nat, 32 ≤ n → n ≠ D.val → n ≠ D.val + 1 → y.node n = x.node n)) ∧
   sincos 0 = (0, 2 ^ 30) ∧ sincos (2 ^ 30) = (2 ^ 30, 0) ∧ sincos (2 ^ 31) = (0, -2 ^ 30) ∧ sincos (3 * 2 ^ 30) = (-2 ^ 30, 0))

/-- The steps without a stored value (R233, R249, R140): NOP; OUT retires a loop output word with the slot and the output;
FLT of a node that is 0; END retires the sample-end marker and ends the sample on the replica; the first LOCK of a
sample in RUN counts a bad sample or starts again, as long as its limit is not reached; a second LOCK does nothing.
OUT and END wait while the replica has 16 unissued effects (R138). Where the rules leave a point open it states the
model's own choices: log entry 63. -/
def Obligations.LoopStepsThatStoreNoValue : Prop :=
  ∀ (s : State) (t : Fin 144) (r : Fin 3) (i : SlotImg) (A : Fin 256) (D : Fin 256) (A2 : Fin 255) (C : Fin 509)
    (o : Fin 8) (code : Byte) (run : LoopSample), StepReady s t r i → (s.dev.slot i.num).running = some run →
    (∀ q : Fin 3, ((s.dev.slot i.num).rep q).fault = none ∧ ((s.dev.slot i.num).rep q).lost = false ∧
      ((s.dev.slot i.num).rep q).back = false) →
    let x := (s.dev.slot i.num).rep r
    let same (c : Instr) : Prop :=
      StepBecomes c s r i (R.LOOP_STATUS_SAT_OUT i.num) False (fun y => y = { x with step := y.step })
    same (.loopNop t r) ∧
    (x.node A.val = 0 → same (.loopFlt t r A code)) ∧
    (x.node A.val ≠ 0 → StepBecomes (.loopFlt t r A code) s r i (R.LOOP_STATUS_SAT_OUT i.num) False
      (fun y => y = { x with step := y.step, fault := some code.toNat })) ∧
    (x.locked = true → same (.loopLock t r D A2 C)) ∧
    (let bad := i.coef C.val < x.node A2.val ∧ i.coef (C.val + 1) < (x.node (A2.val + 1)).natAbs ∧
       i.coef (C.val + 2) < (x.node i.torqueNode).natAbs
     ∀ n : Nat, (bad → n = x.count + 1) → (¬bad → n = 0) → (n : Int) < i.coef (C.val + 3) → x.locked = false → x.mode = 2 →
      StepBecomes (.loopLock t r D A2 C) s r i (R.LOOP_STATUS_SAT_OUT i.num) False (fun y =>
        y.count = n ∧ y.locked = true ∧ y.lost = false ∧
        ∀ m : Nat, y.node m = if m = D.val ∧ 32 ≤ D.val then (n : Int) else x.node m)) ∧
    (s.dev.stalled t.val r = true → Answers (.loopOut t r A o) s (fun d => d = s.dev) ∧
      Answers (.loopEnd t r) s (fun d => d = s.dev)) ∧
    (s.dev.stalled t.val r = false → Answers (.loopOut t r A o) s (fun d =>
      (∃ e : Effect, ((d.tile t.val).rep r).outbox = ((s.dev.tile t.val).rep r).outbox ++ [e] ∧ e.kind = 5 ∧
        e.target = w32 (i.num + o.val * 256) ∧ e.data = BitVec.ofInt 64 (x.node A.val)) ∧
      (d.slot i.num).rep r = { x with step := x.step + 1 } ∧ d.regs = s.dev.regs)) ∧
    (s.dev.stalled t.val r = false → Answers (.loopEnd t r) s (fun d =>
      (∃ e : Effect, ((d.tile t.val).rep r).outbox = ((s.dev.tile t.val).rep r).outbox ++ [e] ∧ e.kind = 0x0E ∧
        e.data = run.number) ∧
      (d.slot i.num).rep r = { x with step := x.step + 1, running := false } ∧ d.regs = s.dev.regs))

/-- Frames, triggers and deadlines (R225, R229, R238 to R240, R244): a valid return frame shows its number and its STATUS
bits; an invalid one and a missing one are counted and set RX_LOST; a TIMER trigger queues a sample; a waiting sample
starts; and a sample that misses its deadline is late and counted, and its slot sends the previous values again. A
sample starts on a tile (R226, R229): the earliest-deadline waiting sample runs on all three datapaths with zeroed
accumulators, from the entry step of its slot's state. Rotor-loss timeouts and the commands of `LOOP.CTRL` (R241,
R250, R261): CATCH_TIMEOUT latches a loop fault of cause REACQUIRE (4) with its event; HOLD_TIMEOUT begins the coast;
FAULT_RESET waits for the boundary. Where the rules leave a point open it states the model's own choices: log entries
63, 64, 67, 68, 151 and 152. -/
def Obligations.LoopSamplesFramesAndDeadlines : Prop :=
  (∀ (s : State) (g : Fin 12) (bytes : List Byte) (k : Fin 48) (i : SlotImg) (x : LoopSample), s.dev.alive = true →
     (returnValid bytes true = true → s.dev.frameLate g.val (leNat ((bytes.drop 4).take 4)) = false →
       Answers (.returnFrame g bytes true) s (fun d =>
       d.rd (R.GLINK_RX_FRAME g.val) = leNat ((bytes.drop 4).take 4) % 2 ^ 32 ∧ d.rd (R.GLINK_STATUS_RX_VALID g.val) = 1 ∧
       d.rd (R.GLINK_STATUS_LINK_UP g.val) = 1 ∧
       d.rd (R.GLINK_STATUS_GU_BLOCKED g.val) = bit (((bytes[1]?).getD 0).getLsbD 0) ∧
       d.rd (R.GLINK_STATUS_GU_FAULT g.val) = bit (((bytes[1]?).getD 0).getLsbD 1))) ∧
     (returnValid bytes true = false → Answers (.returnFrame g bytes true) s (fun d =>
       d.rd (R.GLINK_ERRORS_CRC_ERR g.val) = min (s.dev.rd (R.GLINK_ERRORS_CRC_ERR g.val) + 1) 65535 ∧
       d.rd (R.GLINK_STATUS_RX_VALID g.val) = 0 ∧ d.rd (R.GLINK_STATUS_RX_LOST g.val) = 1)) ∧
     Answers (.returnFrameMissing g) s (fun d =>
       d.rd (R.GLINK_ERRORS_MISSING g.val) = min (s.dev.rd (R.GLINK_ERRORS_MISSING g.val) + 1) 65535 ∧
       d.rd (R.GLINK_STATUS_RX_VALID g.val) = 0 ∧ d.rd (R.GLINK_STATUS_RX_LOST g.val) = 1) ∧
     (s.dev.slotImg k.val = some i → i.num = k.val → i.trigger = 2 → 0 < i.period → i.phase ≤ s.dev.timeT.toNat →
       s.dev.role.runs = true → s.dev.slotState k.val ≠ 0 →
       (s.dev.slot k.val).waiting = [] → (s.dev.slot k.val).running = none → (s.dev.slot k.val).last = none →
       Answers (.timerSampleTrigger k) s (fun d => d.regs = s.dev.regs ∧ ∃ y : LoopSample,
         (d.slot k.val).waiting = [y] ∧ y.number.toNat = (s.dev.timeT.toNat - i.phase) / i.period ∧ y.at_ = s.dev.now ∧
         y.stale = false ∧ y.late = false)) ∧
     (s.dev.slotImg k.val = some i → i.num = k.val → (s.dev.slot k.val).running = some x → x.late = false →
       s.dev.rd (R.LOOP_STATUS_OVR_RUN k.val) < 2 →
       Answers (.sampleDeadline k) s (fun d =>
         (d.slot k.val).running = some { x with late := true } ∧ d.rd (R.LOOP_STATUS_OVERRUN k.val) = 1 ∧
         d.rd (R.LOOP_COUNT_OVERRUNS k.val) = min (s.dev.rd (R.LOOP_COUNT_OVERRUNS k.val) + 1) 65535 ∧
         d.rd (R.LOOP_STATUS_OVR_RUN k.val) = s.dev.rd (R.LOOP_STATUS_OVR_RUN k.val) + 1 ∧
         ∀ l, i.glink = some l → s.dev.role.runs = true → s.dev.committed = false →
           ∃ f : CmdFrame, (d.link l).sent = some f ∧ f.repeated = true))) ∧
  (∀ (s : State) (t : Fin 144) (i : SlotImg) (x : LoopSample), s.dev.alive = true → s.dev.role.runs = true →
     s.dev.runningSlot t.val = none → (s.dev.tile t.val).settled = true → s.dev.nextSample t.val = some (i, x) →
     s.dev.slotState i.num = 2 → (s.dev.slot i.num).resetArmed = false → (s.dev.slot i.num).coasting = 0 →
     (s.dev.slot i.num).resetFrom = none → s.dev.awlInjects i.num x.number = false → s.dev.role ≠ .standby →
     Answers (.loopSampleStart t none) s fun d =>
       (d.slot i.num).running = some x ∧ (d.slot i.num).waiting = (s.dev.slot i.num).waiting.drop 1 ∧
       (d.slot i.num).coefs = s.dev.liveCoefs i ∧ d.regs = s.dev.regs ∧
       ∀ r : Fin 3, ((d.slot i.num).rep r).running = true ∧ ((d.slot i.num).rep r).acc = [] ∧
         ((d.slot i.num).rep r).step = 0 ∧ ((d.slot i.num).rep r).node 15 = ((2 + bit x.stale : Nat) : Int)) ∧
  (∀ (s : State) (k : Fin 48),
     (s.dev.slotState k.val = 4 → Answers (.catchTimeout k) s (fun d =>
       d.slotState k.val = 6 ∧ d.rd (R.LOOP_STATUS_FAULT_CAUSE k.val) = 4 ∧ (d.slot k.val).tripRequest = true ∧
       d.rd (R.LOOP_COUNT_FAULTS k.val) = min (s.dev.rd (R.LOOP_COUNT_FAULTS k.val) + 1) 65535 ∧
       Presents s.dev d [(.loopFault, source 3 k.val)])) ∧
     (s.dev.slotState k.val = 3 → Answers (.holdTimeout k) s (fun d =>
       d.slot k.val = { s.dev.slot k.val with coasting := 2 } ∧ d.regs = s.dev.regs ∧
       (∀ j, j ≠ k.val → d.slot j = s.dev.slot j))) ∧
     ((s.dev.slotImg k.val).isSome = true → Answers (.loopFaultReset k) s (fun d =>
       d.slot k.val = { s.dev.slot k.val with resetDue := true } ∧ d.regs = s.dev.regs ∧
       (∀ j, j ≠ k.val → d.slot j = s.dev.slot j))))

/-- The awl (R257 to R259, R263): a refused ARM or START sets REFUSED; ARM with TRIGGER 1 arms a capture; STOP ends both;
an announcement reaches the STANDBY; the injection ends with its length; AWL_READ returns the captured words. Where
the rules leave a point open it states the model's own choices: log entries 65, 66, 70 and 153. -/
def Obligations.AwlCommands : Prop :=
  ∀ (s : State) (start : DWord) (k : Fin 48) (inj amp freq : Word) (req : Req) (first count : Nat) (n : Nat) (i : SlotImg),
    (s.dev.awlRefused = true → Answers .awlArm s (fun d => d.rd R.AWL_STATUS_REFUSED = 1 ∧
        OnlyFields s.dev d [R.AWL_STATUS_REFUSED]) ∧
      Answers .awlStart s (fun d => d.rd R.AWL_STATUS_REFUSED = 1 ∧ OnlyFields s.dev d [R.AWL_STATUS_REFUSED])) ∧
    (s.dev.awlRefused = false → s.dev.rd R.AWL_CTRL_TRIGGER = 1 → Answers .awlArm s (fun d =>
      d.rd R.AWL_STATUS_STATE = 1 ∧ d.rd R.AWL_STATUS_COUNT = 0 ∧ d.rd R.AWL_STATUS_ABORTED = 0 ∧ d.loop.awl.buffer = [] ∧
      OtherFields s.dev d [R.AWL_STATUS_STATE, R.AWL_STATUS_COUNT, R.AWL_STATUS_ABORTED])) ∧
    (s.dev.awlRefused = false → s.dev.slotImg (s.dev.rd R.AWL_CTRL_SLOT) = some i → s.dev.twinPair = false →
      Answers .awlStart s (fun d => d.regs = s.dev.regs ∧ d.loop.awl.injected = 0 ∧ d.loop.awl.prbs = 0x7FFF ∧
        d.loop.awl.startAt = some ((s.dev.slot i.num).last.getD 0 + 1))) ∧
    (s.dev.rd R.AWL_STATUS_STATE = 2 → Answers .awlStop s (fun d => d.rd R.AWL_STATUS_STATE = 3 ∧
      d.rd R.AWL_STATUS_INJECTING = 0 ∧ d.rd R.AWL_STATUS_ABORTED = 1 ∧ d.loop.awl.startAt = none)) ∧
    (s.dev.role = .standby → Answers (.awlAnnounce start k inj amp freq) s (fun d =>
      d.loop.awl.startAt = some start ∧ d.rd R.AWL_CTRL_SLOT = k.val ∧ d.rd R.AWL_FREQ = freq.toNat ∧
      d.rd R.AWL_AMP_AMPLITUDE = amp.toNat % 2 ^ 16)) ∧
    (s.dev.awlLength = some n → n ≤ s.dev.loop.awl.injected → Answers .awlInjectionEnd s (fun d =>
      d.rd R.AWL_STATUS_INJECTING = 0 ∧ d.loop.awl.startAt = none ∧ OtherFields s.dev d [R.AWL_STATUS_INJECTING])) ∧
    (FreshRequest s req 0 → first + count ≤ s.dev.loop.awl.buffer.length → Answers (.awlRead req first count) s (fun d =>
      Replied d 0x0106 req .ok
        (((s.dev.loop.awl.buffer.drop first).take count).flatMap (fun ws => ws.flatMap (fun w => leBytes 4 w.toNat)))))

/-- Moves of an axis group (R255, R256): a group in fault, or a target outside its limits, refuses MOVE_ABS and MOVE_REL;
a move that is not refused shows MOVING towards its targets, from rest by a profile over the distances and in motion
on a blended trajectory; nothing else of the module changes. The other commands of an axis group (R256): STOP and HOLD
ramp a moving group down, HOLD keeping its targets; STOP ends a held group; RESUME moves a held one on to its targets;
RESET_FAULT leaves FAULT. A command that does not apply to the state changes nothing. An axis period without command
words (R254 to R256): a group at rest keeps its position; a move goes on by one period to the point of its trajectory,
and ends with its last; in both cases each replica of the axis tile retires the position and the velocity of every
axis. The path of a profile (R254): it starts at rest at 0 and ends at rest at 1 when its seven segments have run.
Where the rules leave a point open it states the model's own choices: log entries 71, 72 and 73. -/
def Obligations.AxisGroupsMoveStopAndFollow : Prop :=
  (∀ (s : State) (n : Fin 32) (g : AxisGroupImg) (ts : List (Nat × Int)) (pct : Nat),
     s.dev.groupImg n.val = some g → g.num = n.val →
     let x := s.dev.group n.val
     let refused (d : Dev) : Prop := d.group n.val = { x with refused := true } ∧ d.regs = s.dev.regs
     let moves (targets : List (Nat × Int)) (d : Dev) : Prop :=
       let y := d.group n.val
       y.state = 1 ∧ y.done = false ∧ y.refused = false ∧ y.period = 0 ∧ y.pos = x.pos ∧ y.vel = x.vel ∧ y.acc = x.acc ∧
         y.held = some targets ∧
         (x.move = .none → ∃ segs, y.move = .profile (g.axes.map fun a => (a.num, x.position a.num))
           (targets.map fun p => (p.1, p.2 - x.position p.1)) segs) ∧
         (x.move ≠ .none → ∃ id, y.move = .blend id targets) ∧
         d = { s.dev with free := s.dev.free + 1, loop := { s.dev.loop with groups := d.loop.groups } } ∧
         ∀ m, m ≠ n.val → d.group m = s.dev.group m
     let matching : Prop := x.state ≠ 4 ∧ g.axes.map (·.num) = ts.map (·.1) ∧ (g.axes.map (·.num)).Nodup
     (x.state = 4 → Answers (.moveAbs n ts pct) s refused ∧ Answers (.moveRel n ts pct) s refused) ∧
     (matching → (∀ p ∈ ts, ∀ a ∈ g.axes, a.num = p.1 → a.posLo ≤ p.2 ∧ p.2 ≤ a.posHi) →
       Answers (.moveAbs n ts pct) s (moves (ts.map fun p => (p.1, p.2 * 2 ^ 32)))) ∧
     (matching → (∃ p ∈ ts, ∀ a ∈ g.axes, a.num = p.1 → p.2 < a.posLo ∨ a.posHi < p.2) →
       Answers (.moveAbs n ts pct) s refused) ∧
     (matching → (∀ p ∈ ts, ∀ a ∈ g.axes, a.num = p.1 →
         a.posLo * 2 ^ 32 ≤ x.position p.1 + p.2 * 2 ^ 32 ∧ x.position p.1 + p.2 * 2 ^ 32 ≤ a.posHi * 2 ^ 32) →
       Answers (.moveRel n ts pct) s (moves (ts.map fun p => (p.1, p.2 * 2 ^ 32 + x.position p.1)))) ∧
     (matching → (∃ p ∈ ts, ∀ a ∈ g.axes, a.num = p.1 →
         x.position p.1 + p.2 * 2 ^ 32 < a.posLo * 2 ^ 32 ∨ a.posHi * 2 ^ 32 < x.position p.1 + p.2 * 2 ^ 32) →
       Answers (.moveRel n ts pct) s refused)) ∧
  (∀ (s : State) (n : Fin 32) (g : AxisGroupImg) (held : List (Nat × Int)),
     s.dev.groupImg n.val = some g → g.num = n.val →
     let x := s.dev.group n.val
     let ramped (y : AxisGroup) : Prop := (∃ start n1 n2 n3, y.move = .stop start n1 n2 n3) ∧ y.period = 0 ∧ y.pos = x.pos
     (x.state = 1 → Answers (.axisStop n) s (fun d => let y := d.group n.val
       y.state = 2 ∧ y.held = none ∧ ramped y ∧ d.regs = s.dev.regs)) ∧
     (x.state = 1 → Answers (.axisHold n) s (fun d => let y := d.group n.val
       y.state = 3 ∧ y.held = x.held ∧ ramped y ∧ d.regs = s.dev.regs)) ∧
     (x.state = 3 → x.move = .none → Answers (.axisStop n) s (fun d =>
       d.group n.val = { x with state := 0, held := none } ∧ d.regs = s.dev.regs)) ∧
     (x.state = 3 → x.move ≠ .none → Answers (.axisStop n) s (fun d =>
       d.group n.val = { x with state := 2, held := none } ∧ d.regs = s.dev.regs)) ∧
     (x.state = 3 → x.held = some held → Answers (.axisResume n) s (fun d => let y := d.group n.val
       y.state = 1 ∧ y.done = false ∧ y.period = 0 ∧ y.held = some held ∧ y.pos = x.pos ∧ d.regs = s.dev.regs)) ∧
     (x.state = 4 → Answers (.axisResetFault n) s (fun d => d.group n.val = { x with state := 0 } ∧ d.regs = s.dev.regs)) ∧
     (x.state ≠ 1 → x.state ≠ 3 → Answers (.axisStop n) s (fun d => d = s.dev)) ∧
     (x.state ≠ 1 → Answers (.axisHold n) s (fun d => d = s.dev)) ∧
     (x.state ≠ 3 → Answers (.axisResume n) s (fun d => d = s.dev)) ∧
     (x.state ≠ 4 → Answers (.axisResetFault n) s (fun d => d.group n.val = x ∧ d.regs = s.dev.regs))) ∧
  (∀ (s : State) (n : Fin 32) (g : AxisGroupImg),
     s.dev.groupImg n.val = some g → g.num = n.val → s.dev.role.runs = true → (s.dev.group n.val).armed = [] →
     (∀ a ∈ g.axes, a.status = .none) →
     let x := s.dev.group n.val
     let t := s.dev.tileOf g.tile
     let issued (d : Dev) : Prop := d.regs = s.dev.regs ∧ ∀ r, r ∈ s.dev.serving t →
       ((d.tile t).rep r).effects = ((s.dev.tile t).rep r).effects + 2 * g.axes.length
     (x.move = .none → Answers (.axisPeriod n) s (fun d => d.group n.val = x ∧ issued d)) ∧
     (x.move ≠ .none → Answers (.axisPeriod n) s (fun d => let y := d.group n.val
       y.period = x.period + 1 ∧
       y.pos = (x.move.at_ g (x.period + 1)).foldl (fun m p => sput (fun _ => (0 : Int)) m p.1 p.2.1) x.pos ∧
       (x.move.length ≤ x.period + 1 → y.move = .none ∧ y.state = (if x.state = 3 then 3 else 0) ∧
         y.done = (x.done || x.state == 1)) ∧
       (x.period + 1 < x.move.length → y.move = x.move ∧ y.state = x.state ∧ y.done = x.done) ∧ issued d))) ∧
  (∀ ja ta c jd td k : Nat, let segs := [ja, ta, ja, c, jd, td, jd]
     (0 < segTotal segs → pathAt segs 0 = (0, 0, 0)) ∧ (segTotal segs ≤ k → pathAt segs k = (1, 0, 0)))

/-! ### The bridle (chapter 10) and the safety functions (chapter 11) -/

/-- Inputs of the bridle (R33, R267, R268): a comparator outside its bands, an FT input, a trip line and a presence line;
each changes its own bit only. The bridle's timed and refreshed inputs (R269, R270, R272): a term's delay ends, an
output's minimum time ends, a refresh brings the released words, the processor channel is lost, and the first-out
record re-arms. Where the rules leave a point open it states the model's own choices: log entry 74. -/
def Obligations.BridleInputsChangeTheirOwnBits : Prop :=
  (∀ (s : State) (n : Fin 32) (v : Int) (ft : Fin 16) (high : Bool) (line : Fin 6) (m : Nat) (c : Comparator),
     (((s.dev.bridle.params.getD {}).comps.find? (fun p => p.1 = n.val)) = some (m, c) →
       let crossed (P : Dev → Prop) : Prop := Answers (.comparatorCrossing n v) s (fun d =>
         P d ∧ d = { s.dev with bridle := d.bridle, free := s.dev.free + 1 } ∧
         ∀ k, k ≠ n.val → testBit d.bridle.compHi k = testBit s.dev.bridle.compHi k ∧
           testBit d.bridle.compLo k = testBit s.dev.bridle.compLo k)
       (c.hiEn = true → codeVolts c.hi + 320000 < v → crossed (fun d => testBit d.bridle.compHi n.val = true)) ∧
       (v < codeVolts c.hi - c.hyst * 78125 - 320000 → crossed (fun d => testBit d.bridle.compHi n.val = false)) ∧
       (c.loEn = true → v < codeVolts c.lo - 320000 → crossed (fun d => testBit d.bridle.compLo n.val = true)) ∧
       (codeVolts c.lo + c.hyst * 78125 + 320000 < v → crossed (fun d => testBit d.bridle.compLo n.val = false))) ∧
     Answers (.ftInputChange ft high) s (fun d => d = { s.dev with bridle := { s.dev.bridle with ft := d.bridle.ft } } ∧
       ∀ k, testBit d.bridle.ft k = if k = ft.val then high else testBit s.dev.bridle.ft k) ∧
     (line.val < 4 → Answers (.tripLineChange line high) s (fun d =>
       d = { s.dev with bridle := { s.dev.bridle with lines := d.bridle.lines } } ∧
       ∀ k, testBit d.bridle.lines k = if k = line.val then high else testBit s.dev.bridle.lines k)) ∧
     (line.val = 4 → Answers (.tripLineChange line high) s (fun d => d.bridle.presA = high ∧
       d.bridle.presB = s.dev.bridle.presB)) ∧
     (line.val = 5 → Answers (.tripLineChange line high) s (fun d => d.bridle.presB = high ∧
       d.bridle.presA = s.dev.bridle.presA))) ∧
  (∀ (s : State) (p : ProtectImg) (n : Fin 64) (i : Fin 4) (e : Equation) (t : Term) (out : Fin 32), s.dev.lit = true →
     (s.dev.bridle.params = some p → s.dev.bridle.evaluates = true → (p.eqs.map (·.1)).Nodup →
       (∀ q ∈ p.eqs, q.1 < 64 ∧ q.2.terms.length = 4) → (n.val, e) ∈ p.eqs → oget p.eqs n.val = some e →
       e.terms[i.val]? = some t → t.en = true → s.dev.bridle.source t.src ≠ t.inv →
       Answers (.termDelayExpiry n i) s (fun d => sget (fun _ => 0) d.bridle.terms (n.val * 4 + i.val) = t.delay + 1)) ∧
     Answers (.outputHoldExpiry out) s (fun d => testBit d.bridle.outputs out.val =
         testBit (s.dev.bridleDemand s.dev.safetyBlock) out.val ∧ d.bridle.true_ = s.dev.bridle.true_) ∧
     (s.dev.bridle.checked = true → s.dev.role.runs = true → Answers .bridleRefresh s (fun d =>
       d.bridle.pt = s.dev.outWord .trip 2 ∧ d.bridle.permit = w32 (s.dev.outWord .permit 4) ∧
       d.bridle.loopRequests = s.dev.loopRequests ∧ d.bridle.procLost = false)) ∧
     (s.dev.bridle.checked = true → s.dev.bridle.running = true → s.dev.safety.degraded = false → Answers .procLost s (fun d =>
       d.bridle.procLost = true ∧ d.safety.degraded = true ∧ d.safety.degradedAt = s.dev.now ∧
       ∃ es, Presents s.dev d ((.safeDegraded, source 0 0) :: es))) ∧
     (s.dev.bridle.true_ = 0 → s.dev.bridle.outputs % 2 ^ 16 = 0 → Answers .firstOutRearm s (fun d =>
       d = { s.dev with bridle := { s.dev.bridle with firstOut := none } })))

/-- One bridle cycle (R270 to R272): an equation is true when each of its enabled terms has been asserted in DELAY samples
before this one and in this one, or when it is latched, was true, and sees no reset edge; and each output of a true
equation's mask is dark, blocked or driven. Diagnostics, faults and the start checks of the bridle (R277, R278, R281):
a round within 25 mV passes; a fault latches with its cause, and the module is STOPPED; passed start checks let the
bridle run; and the mirror shows the equations. TRIP_RESET (R271): a malformed body is refused; the reset of an
equation that the rows of R271 allow clears it and answers OK. Each request first runs the bridle cycle that it is
sampled in. Where the rules leave a point open it states the model's own choices: log entries 75, 76 and 133. -/
def Obligations.BridleEvaluatesDiagnosesAndResets : Prop :=
  (∀ (s : State) (p : ProtectImg) (n : Nat) (e : Equation), s.dev.lit = true → s.dev.bridle.params = some p →
     s.dev.bridle.evaluates = true → (p.eqs.map (·.1)).Nodup → (∀ q ∈ p.eqs, q.1 < 64 ∧ q.2.terms.length = 4) → (n, e) ∈ p.eqs →
     s.dev.bridle.startCause = 0 →
     let b := s.dev.bridle
     let holds : Prop := ∀ i t, e.terms[i]? = some t → t.en = true →
       b.source t.src ≠ t.inv ∧ t.delay ≤ sget (fun _ => 0) b.terms (n * 4 + i)
     let edge : Prop := e.resetEn = true ∧ b.source e.resetSrc = true ∧ testBit b.resets n = false
     Answers .bridleEvaluate s fun d =>
       (testBit d.bridle.true_ n = true ↔ holds ∨ (e.latch = true ∧ testBit b.true_ n = true ∧ ¬edge)) ∧
       (testBit d.bridle.true_ n = true → ∀ k, k < 28 → testBit e.mask k = true → testBit d.bridle.outputs k = true) ∧
       (∀ k, testBit b.held k = true → testBit d.bridle.outputs k = true)) ∧
  (∀ (s : State) (dac : List (Nat × Int)) (round : DiagRound) (cause : Fin 9) (index ms : Nat), s.dev.alive = true →
     s.dev.mgmt.staged = [] → s.dev.role ≠ .safetyMaint → s.dev.committed = false →
     let b := s.dev.bridle
     (b.running = true → (∀ q ∈ dac, q.2.natAbs ≤ 25) → (∀ c, b.protect = some c → c.protectOk = true) → Answers (.bridleDiagRound dac round) s (fun d =>
       d.bridle.passes = (b.passes + 1) % 2 ^ 32 ∧ d.bridle.oscPpm = round.oscPpm ∧ d.bridle.lightOdd = round.lightOdd ∧
       d.bridle.blockOdd = round.blockOdd ∧ d.bridle.fault = b.fault ∧ d.regs = s.dev.regs)) ∧
     (b.running = true → b.fault = 0 → cause.val ≠ 0 → Answers (.bridleFault cause index) s (fun d =>
       d.bridle.fault = cause.val ∧ d.bridle.faultIndex = index ∧ d.role = .stopped)) ∧
     (b.fault ≠ 0 → Answers (.bridleFault cause index) s (fun d => d = s.dev)) ∧
     (b.checked = false → Answers (.bridleStartChecks 0 ms) s (fun d =>
       d.bridle.running = true ∧ d.bridle.checked = true ∧ d.bridle.startCause = 0 ∧ d.bridle.startMs = ms)) ∧
     (b.checked = false → cause.val ≠ 0 → Answers (.bridleStartChecks cause ms) s (fun d =>
       d.bridle.running = false ∧ d.bridle.checked = true ∧ d.bridle.startCause = cause.val ∧ d.role = .stopped)) ∧
     (b.checked = true → Answers .bridleMirrorRefresh s (fun d =>
       d.rd R.BRIDLE_EQ_TRUE_LO = b.true_ % 2 ^ 32 ∧ d.rd R.BRIDLE_OUTPUTS_TO_DARK = b.outputs % 2 ^ 16 ∧
       d.rd R.BRIDLE_INPUTS_FT = b.ft % 2 ^ 16 ∧ d.rd R.BRIDLE_STATUS_SEQ = (b.seq + 1) % 65536 ∧
       d.rd R.BRIDLE_TO_MON_LIGHT = (~~~BitVec.ofNat 16 b.outputs ^^^ b.lightOdd).toNat ∧
       d.rd R.BRIDLE_BLOCK_MON_SEEN = (BitVec.ofNat 12 (b.outputs / 2 ^ 16) ^^^ b.blockOdd).toNat ∧
       d.bridle = { b with seq := (b.seq + 1) % 65536 }))) ∧
  (∀ (s : State) (req : Req) (body : List Byte), FreshRequest s req 1 →
     (body.length ≠ 4 → Answers (.tripReset req body) s (fun d => Replied d 0x0202 req .badRequest [])) ∧
     (s.dev.bridleCycle.tripResetStatus body = .ok → Answers (.tripReset req body) s (fun d =>
       Replied d 0x0202 req .ok [] ∧ testBit d.bridle.true_ ((body[0]?).getD 0).toNat = false ∧
       ∀ k, k ≠ ((body[0]?).getD 0).toNat → testBit d.bridle.true_ k = testBit s.dev.bridleCycle.bridle.true_ k)))

/-- The trip bus (R274 to R276, R280): polls, answers and readbacks, take-over of the polling, and the two findings. In a
cycle in which both bridles have polled an answer counts as missing. Where the rules leave a point open it states the
model's own choices: log entry 77. -/
def Obligations.TripBusPollsAndAnswers : Prop :=
  ∀ (s : State) (bits : BitVec 6), s.dev.lit = true →
    let b := s.dev.bridle
    let missing (d : Dev) : Prop := d.bridle.missed = b.missed + 1 ∧ d.bridle.missRun = b.missRun + 1 ∧
      (b.missRun = 15 → d.bridle.partnerOk = false) ∧
      d.bridle.missPresent = (if s.dev.partnerPresent then b.missPresent + 1 else 0)
    (s.dev.tbTakesPart = true → s.dev.identity = some false → Answers .tbPoll s (fun d =>
      d.bridle = { b with poller := true, polls := (b.polls + 1) % 2 ^ 32, bothPoll := false })) ∧
    (s.dev.tbTakesPart = true → b.bothPoll = false → bits.toNat = s.dev.tbAnswer → Answers (.tbAnswer true (.bits bits)) s (fun d =>
      d.bridle = { b with sentAnswer := s.dev.tbAnswer, selfOk := true, selfRun := 0 })) ∧
    (s.dev.tbTakesPart = true → bits.toNat ≠ s.dev.tbAnswer → Answers (.tbAnswer true (.bits bits)) s (fun d =>
      d.bridle = { b with sentAnswer := s.dev.tbAnswer, selfOk := false, selfRun := b.selfRun + 1 })) ∧
    (s.dev.tbTakesPart = true → b.bothPoll = false → bits.getLsbD 0 = true → (bitsOf 6 bits.toNat).length % 2 = 1 →
      Answers (.tbAnswer false (.bits bits)) s (fun d =>
        d.bridle = { b with partnerAnswer := bits.toNat, partnerOk := true, missRun := 0, missPresent := 0, silentTold := false })) ∧
    (s.dev.tbTakesPart = true → Answers (.tbAnswer false .silence) s missing) ∧
    (s.dev.tbTakesPart = true → Answers (.tbAnswer false .poll) s fun d => missing d ∧
      d.bridle.polls = (b.polls + 1) % 2 ^ 32 ∧ d.bridle.bothPoll = b.poller) ∧
    (s.dev.tbTakesPart = true → b.bothPoll = true → Answers (.tbAnswer false (.bits bits)) s missing) ∧
    (s.dev.tbTakesPart = true → s.dev.identity = some true → b.presA = false → Answers .tbPollerTakeover s (fun d =>
      d.bridle = { b with poller := true })) ∧
    (16 ≤ b.missPresent → s.dev.partnerPresent = true → b.silentTold = false → Answers .tbPartnerSilent s (fun d =>
      d.bridle = { b with partnerOk := false, silentTold := true } ∧ Presents s.dev d [(.tbPartnerSilent, source 0 0)])) ∧
    (16 ≤ b.selfRun → Answers .tbSelfFail s (fun d =>
      d.bridle = { b with selfRun := 0 } ∧ Presents s.dev d [(.tbSelfFail, source 0 0)]))

/-- Channels and feedbacks of the safety functions (R290, R292, R299, R300): a filtered level is taken; the discrepancy
counts tick; an encoder window is taken; standstill is shown. Faults of a safety function (R291, R292, R294, R298,
R302): discrepancy, test pulse, stop timeout and cross-comparison latch their cause in a function without a fault,
which is then SAFE. Output pairs and encoders (R299 to R301): a feedback timeout, a failed switch test and a readback
fault lock the pair out and switch it off, with the event SO_LOCKOUT; a passed test changes nothing; an encoder's
fault is latched. Degraded mode (R303 to R305): its entry, its warning, its expiry (every function SAFE, each with a
latched fault, the reset functions too) and its end. Where the rules leave a point open it states the model's own
choices: log entries 75, 76, 77, 78, 155, 156, 157 and 158. -/
def Obligations.SafetyInputsFaultsLockoutsAndDegradedMode : Prop :=
  (∀ (s : State) (ch : Fin 56) (fb : Fin 8) (run : Bool) (e : Fin 4) (counts : Int) (n : Fin 24), s.dev.lit = true →
     s.dev.bridle.running = true →
     Answers (.safetyChannelRun ch) s (fun d => d.safety.chanRun ch.val = true ∧
       ∀ c, c ≠ ch.val → d.safety.chanRun c = s.dev.safety.chanRun c) ∧
     Answers (.safetyChannelSafe ch) s (fun d => d.safety.chanRun ch.val = false ∧
       ∀ c, c ≠ ch.val → d.safety.chanRun c = s.dev.safety.chanRun c) ∧
     (s.dev.power.pinRole ≠ .starting → Answers (.feedbackChange fb run) s (fun d => d.safety.chanRun (48 + fb.val) = run ∧
       ∀ c, c ≠ 48 + fb.val → d.safety.chanRun c = s.dev.safety.chanRun c)) ∧
     (demands (s.dev.safety.img n.val).type = true → Answers .discrepancyTick s (fun d => (d.safety.fn n.val).count1 =
       if s.dev.safety.chanRun (2 * n.val) ≠ s.dev.safety.chanRun (2 * n.val + 1) then (s.dev.safety.fn n.val).count1 + 1 else 0)) ∧
     Answers (.encoderSpeedWindow e counts) s (fun d =>
       (d.safety.encoder e.val).count = (s.dev.safety.encoder e.val).count + counts ∧ (d.safety.encoder e.val).speed = counts) ∧
     (s.dev.safety.monitored e.val = true → (s.dev.safety.encImg e.val).stillT ≤ (s.dev.safety.encoder e.val).still →
       Answers (.standstill e) s (fun d => (d.safety.encoder e.val).state = 2))) ∧
  (∀ (s : State) (n : Fin 24) (tp : Fin 4) (high : BitVec 48) (c : Nat) (run : StopRun), s.dev.lit = true →
     s.dev.bridle.running = true → demands (s.dev.safety.img n.val).type = true → (s.dev.safety.fn n.val).fault = 0 →
     let latched (i : Instr) (cause : Nat) : Prop :=
       Answers i s (fun d => (d.safety.fn n.val).fault = cause ∧ (d.safety.fn n.val).run = false)
     ((s.dev.safety.img n.val).discT * 10 ≤ (s.dev.safety.fn n.val).count1 → latched (.discrepancy n) 1) ∧
     (s.dev.on R.POWER_FLD_GOOD = true → s.dev.safety.fedFrom (tp.val + 1) = [(n.val, c)] → high.getLsbD c = true →
       1 ≤ sget (fun _ => 0) s.dev.safety.pulse c → latched (.testPulseCheck tp high) 2) ∧
     (s.dev.role.commanding = true → testBit s.dev.bridle.permit.toNat 31 = true → s.dev.safety.degraded = false →
       testBit s.dev.bridle.permit.toNat n.val ≠ (s.dev.safety.fn n.val).run → latched (.cross n) 3) ∧
     ((s.dev.safety.fn n.val).stop = some run → (s.dev.safety.fn n.val).run = false →
       (s.dev.safety.img n.val).tMax * 10000000 ≤ s.dev.since run.at_ →
       Answers (.stopTimeout n) s (fun d => (d.safety.fn n.val).fault = 6 ∧ (d.safety.fn n.val).stop = none))) ∧
  (∀ (s : State) (k : Fin 8) (e : Fin 4) (supply : Bool), s.dev.lit = true → s.dev.bridle.running = true →
     (s.dev.safety.pair k.val).lock = 0 →
     ((s.dev.safety.pair k.val).expecting = true → s.dev.on R.POWER_FLD_GOOD = true → s.dev.on R.POWER_FLD_LOW = false → Answers (.fbTimeout k) s (fun d =>
       d.safety.pair k.val = { on := false, lock := 2, expecting := false } ∧
       ∃ es, Presents s.dev d ((.soLockout, source 0 0) :: es))) ∧
     ((s.dev.safety.pair k.val).on = true → Answers (.outputSwitchTest k false) s (fun d =>
       d.safety.pair k.val = { on := false, lock := 4, expecting := false } ∧
       ∃ es, Presents s.dev d ((.soLockout, source 0 0) :: es))) ∧
     Answers (.outputSwitchTest k true) s (fun d => d = s.dev) ∧
     Answers (.switchReadbackFault k) s (fun d =>
       d.safety.pair k.val = { on := false, lock := 4, expecting := false } ∧
       ∃ es, Presents s.dev d ((.soLockout, source 0 0) :: es)) ∧
     Answers (.encoderFault e supply) s (fun d => (d.safety.encoder e.val).fault = true ∧
       (d.safety.encoder e.val).supplyOk = ((s.dev.safety.encoder e.val).supplyOk && !supply))) ∧
  (∀ s : State, s.dev.bridle.running = true →
     (s.dev.role.commanding = true → s.dev.safety.defines = true → testBit s.dev.bridle.permit.toNat 31 = false →
       s.dev.safety.degraded = false → Answers .permitValidTimeout s (fun d => d.safety.degraded = true ∧
         d.safety.degradedAt = s.dev.now ∧ ∃ es, Presents s.dev d ((.safeDegraded, source 0 0) :: es))) ∧
     (s.dev.safety.degraded = true → s.dev.safety.params.isSome = true → s.dev.safety.warned = false → s.dev.degradedLeft ≤ 600 →
       Answers .degradedExpiring s (fun d => d.safety = { s.dev.safety with warned := true } ∧ d.regs = s.dev.regs ∧
         Presents s.dev d [(.degradedExpiring, source 0 0)])) ∧
     (s.dev.safety.degraded = true → s.dev.safety.params.isSome = true → s.dev.degradedLeft = 0 → s.dev.safety.lapsed = false →
       Answers .degradedExpired s (fun d => d.safety.expired = true ∧
         (∀ n : Fin 24, (s.dev.safety.img n.val).type ≠ 0 → (d.safety.fn n.val).run = false ∧
           (d.safety.fn n.val).fault = 7) ∧ ∃ es, Presents s.dev d ((.degradedExpired, source 0 0) :: es))) ∧
     (s.dev.safety.degraded = true → s.dev.permitAgrees = true → s.dev.bridle.procLost = false →
       Answers .safeChannelBack s (fun d => d.safety.degraded = false ∧
         ∃ es, Presents s.dev d ((.safeChannelBack, source 0 0) :: es))))

/-! ### Access to registers (chapter 20) -/

/-- READ_REG and WRITE_REG (R484 to R486). A read of one register of a block that neither latches nor is latched returns
its word; a hole reads 0 and is counted; a write of a plain register acts at once in STOPPED; a write of an unmapped
offset is refused, and an odd offset and a count of 0 are malformed. Where the rules leave a point open it states the
model's own choices: log entries 13, 14, 15 and 16. -/
def Obligations.ReadRegAndWriteRegFollowR485 : Prop :=
  ∀ (s : State) (r : Req) (off v : Word) (row : RegRow),
    let o := off.toNat
    let same (d : Dev) : Prop := OnlyAnswered s.dev d ∧ d = { s.dev with regs := d.regs, mgmt := d.mgmt }
    let counted (w : Nat) : List (Fld × Nat) :=
      [(R.ACCESS_ERR_MGMT, min (s.dev.rd R.ACCESS_ERR_MGMT + 1) 65535), (R.ACCESS_ADDR_OFFSET, o % 2 ^ 24),
       (R.ACCESS_ADDR_PATH, 0), (R.ACCESS_ADDR_WRITE, w)]
    (regAt o = some row → o % 4 = 0 → isLatched o = false → latchSet o = [] → rxqAt o = none →
      (o < 0x400014 ∨ 0x400048 ≤ o) →
      Carries (.readReg r off 1) s r 0 0x0101 .ok (leBytes 4 (s.dev.liveWord false o).toNat) [] fun d => same d) ∧
    (regAt o = none → (spanOf o).isSome = true → o % 4 = 0 →
      Carries (.readReg r off 1) s r 0 0x0101 .ok [0, 0, 0, 0] ((counted 0).map (·.1)) fun d =>
        (∀ p ∈ counted 0, d.rd p.1 = p.2) ∧ same d) ∧
    ((o % 4 ≠ 0) → Carries (.readReg r off 1) s r 0 0x0101 .badRequest [] [] fun d => same d) ∧
    Carries (.readReg r off 0) s r 0 0x0101 .badRequest [] [] (fun d => same d) ∧
    (PlainWrite row o v → o % 4 = 0 → s.dev.writeResult o v = .applied → s.dev.role = .stopped →
      FreshRequest s r 2 → Answers (.writeReg r off v) s fun d => Replied d 0x0301 r .ok [] ∧
        (o ≠ 0x800030 → d.word o = storedAs o (regWrite row.fields (s.dev.unlocked .mgmt o) (s.dev.word o) v)) ∧
        (∀ k : Nat, k ≠ o → k ≠ 0x800030 → d.word k = s.dev.word k) ∧
        d = { s.dev with regs := d.regs, mgmt := d.mgmt }) ∧
    (spanOf o = none → o % 4 = 0 →
      Carries (.writeReg r off v) s r 2 0x0301 (.named "UNMAPPED") [] ((counted 1).map (·.1)) fun d =>
        (∀ p ∈ counted 1, d.rd p.1 = p.2) ∧ same d) ∧
    (o % 4 ≠ 0 → Carries (.writeReg r off v) s r 2 0x0301 .badRequest [] [] fun d => same d)

/-- Reads that latch (R488): a read of the low word returns it and latches the high word on its path, so that the pair is
one value; OFFSET_LO latches OFFSET_HI, C0 and RATE as one set; and a read of a latched register returns the latch.
The performance counters (R175, R176): a write of `MOD.PERF_SEL` selects; `MOD.PERF_DATA` then shows the selected
counter, or 0 where nothing is selected; CLEAR zeroes the selected counter and nothing else. Where the rules leave a
point open it states the model's own choices: log entry 59. -/
def Obligations.LatchedWordsAndPerformanceCounters : Prop :=
  (∀ (s : State) (p : Path) (n : Fin 4),
     let d := s.dev
     let T := d.timeT.toNat
     let lo (x : Nat) : Word := BitVec.ofNat 32 x
     let hi (x : Nat) : Word := BitVec.ofNat 32 (x / 2 ^ 32)
     ReadsAndLatches (.timeTLo p) s p (lo T) [(0x320014, hi T)] ∧
     ReadsAndLatches (.timeCountLo p) s p (lo d.time.counter.toNat) [(0x32001C, hi d.time.counter.toNat)] ∧
     ReadsAndLatches (.timeOffsetLo p) s p (lo d.time.offset.toNat) [(0x320024, hi d.time.offset.toNat),
       (0x320028, lo d.time.c0.toNat), (0x32002C, hi d.time.c0.toNat), (0x320030, BitVec.ofInt 32 d.time.rate)] ∧
     ReadsAndLatches (.timeStepLo p) s p (d.word 0x320040) [(0x320044, d.word 0x320044)] ∧
     ReadsAndLatches (.timePpsCapLo p) s p (d.word 0x320050) [(0x320054, d.word 0x320054)] ∧
     ReadsAndLatches (.cycleNumLo p) s p (lo d.cycle.num.toNat) [(0xC8, hi d.cycle.num.toNat)] ∧
     ReadsAndLatches (.takeTLo p) s p (d.word 0x310038) [(0x31003C, d.word 0x31003C)] ∧
     ReadsAndLatches (.canTxTLo p n) s p (d.liveWord (isTack p) (0x500080 + n.val * 0x1000))
       [(0x500084 + n.val * 0x1000, d.liveWord (isTack p) (0x500084 + n.val * 0x1000))] ∧
     ReadsAndLatches (.histOldestLo p) s p (d.word 0x410028) [(0x41002C, d.word 0x41002C)] ∧
     ReadsAndLatches (.sealTLo p) s p (d.word 0x900014) [(0x900018, d.word 0x900018)] ∧
     ReadsAndLatches (.certExpLo p) s p (d.word 0x800048) [(0x80004C, d.word 0x80004C)] ∧
     ReadsAndLatches (.uptimeLo p) s p (lo (d.time.counter.toNat / 1000000)) [(0x18, hi (d.time.counter.toNat / 1000000))] ∧
     ∀ o ∈ [0x320014, 0x32001C, 0x320024, 0x320028, 0x32002C, 0x320030, 0x320044, 0x320054, 0xC8, 0x31003C, 0x41002C,
         0x900018, 0x80004C, 0x18], d.readMapped p o = (d.latch p o, d)) ∧
  (∀ (s : State) (v : Word) (t : Nat) (r : Fin 3) (k : Nat), s.dev.alive = true →
     let chosen : List (Fld × Nat) := [(R.PERF_SEL_TILE, v.toNat % 2 ^ 8), (R.PERF_SEL_REPLICA, v.toNat / 2 ^ 8 % 8),
       (R.PERF_SEL_COUNTER, v.toNat / 2 ^ 16 % 16), (R.PERF_SEL_VALID, 0)]
     Answers (.perfSelect v) s (fun d => SetsOnly s.dev d chosen) ∧
     (s.dev.perfSelected = some (t, r, k) → Answers .perfDataValid s fun d =>
       SetsOnly s.dev d [(R.PERF_DATA, (((s.dev.tile t).rep r).counter k).toNat), (R.PERF_SEL_VALID, 1)]) ∧
     (s.dev.perfSelected = none → Answers .perfDataValid s fun d =>
       SetsOnly s.dev d [(R.PERF_DATA, 0), (R.PERF_SEL_VALID, 1)]) ∧
     (replicaOf (v.toNat / 2 ^ 8 % 8) = some r → t = v.toNat % 2 ^ 8 → t < 144 → k = v.toNat / 2 ^ 16 % 16 → k < 5 →
       Answers (.perfClear v) s fun d => Sets s.dev d chosen ∧ d = { s.dev with regs := d.regs, tiles := d.tiles } ∧
         (∀ u : Nat, u ≠ t → d.tile u = s.dev.tile u) ∧
         d.tile t = (s.dev.tile t).setRep r ((d.tile t).rep r) ∧
         (∀ j : Nat, ((d.tile t).rep r).counter j = if j = k then 0 else ((s.dev.tile t).rep r).counter j) ∧
         (d.tile t).rep r = { (s.dev.tile t).rep r with perf := ((d.tile t).rep r).perf }) ∧
     (replicaOf (v.toNat / 2 ^ 8 % 8) = none → Answers (.perfClear v) s fun d => SetsOnly s.dev d chosen))

/-! ### Power, start and reset (chapters 01 to 03) -/

/-- Reset and power-up (R25 to R27, R57, R58, R63, R362, R447): the loop closes and opens; the electronics are powered
once the seating has lasted; a reset for any cause takes the module to its reset state but for what a reset keeps; and
the release of a reset starts the firmware copy that the boot ROM accepts, or none. A field supply that is lost shows
from then on. The field supply and the temperatures (R51, R52, R60, R63). A supply that is lost already, and a fuse
that is open already, change nothing; each excursion above 105 °C of 1 s is recorded. Where the rules leave a point
open it states the model's own choices: log entries 2, 19, 20, 21, 27 and 28. -/
def Obligations.ResetPowerUpAndSupplies : Prop :=
  (∀ (s : State) (c : ResetCause) (k : Nat),
     let d0 := s.dev
     Answers .seatedLoopClose s (fun d => Sets d0 d [(R.SADDLE_SEATED, 1)] ∧
       d = { d0 with regs := d.regs, power := { d0.power with seatingWait := true } }) ∧
     Answers .seatedLoopOpen s (fun d => ∃ e, ResetTaken d0 e .seated ∧ Sets e d [(R.SADDLE_SEATED, 0)] ∧
       d = { e with regs := d.regs, power := { e.power with seatingWait := false } }) ∧
     (d0.power.powered = true → c ≠ .powerUp → c ≠ .seated → Answers (.moduleReset c) s (ResetTaken d0 · c)) ∧
     (d0.lit = true → (∃ x ∈ d0.power.temps, 1150 ≤ x.2) → Answers .thermalReset s (ResetTaken d0 · .thermal)) ∧
     (d0.lit = true → d0.power.pf = .journalling → d0.power.pfRestart = false →
       Answers .pfJournalWritten s (ResetTaken d0 · .holdup)) ∧
     (d0.lit = true → d0.power.pf = .journalling → d0.power.pfRestart = true →
       Answers .pfJournalWritten s (ResetTaken d0 · .restart)) ∧
     (d0.lit = true → d0.power.lostA = true → d0.power.lostB = true →
       Answers .holdupExhausted s (ResetTaken d0 · .holdup)) ∧
     (d0.canPower = true → d0.bootCopy = some k → Answers .electronicsPowerOn s fun d =>
       d.role = .starting ∧ d.alive = true ∧ d.time.counter = 0 ∧ d.trust.fwRunning = k ∧ d.power.pf = .idle ∧
         d.power.start = { firmware := true } ∧ d.rd R.POWER_FLD_TRIPPED = 0 ∧
         (d0.power.fldLost = true → d0.on R.POWER_FLD_TRIPPED = false → d.rd R.POWER_FLD_LOW = 1)) ∧
     (d0.canPower = true → d0.bootCopy = none → d0.power.start.firmware = false → Answers .electronicsPowerOn s fun d =>
       d.power.powered = true ∧ d.alive = false ∧ d.time.counter = 0 ∧ d.trust.noFirmware = true ∧ d.role = d0.role) ∧
     (d0.power.powered = true → d0.power.inReset = true → (∀ x ∈ d0.power.temps, x.2 < 1150) → d0.bootCopy = some k →
       Answers .resetRelease s fun d => d.role = .starting ∧ d.alive = true ∧ d.trust.fwRunning = k ∧
         d.time.counter = d0.time.counter ∧ (d0.power.fldLost = true → d.rd R.POWER_FLD_LOW = 1))) ∧
  (∀ (s : State) (n : Fin 11) (x : Int) (h : Nat × DWord),
     let d0 := s.dev
     (d0.on R.POWER_FLD_TRIPPED = false → Answers .fldGood s fun d =>
       d.rd R.POWER_FLD_GOOD = 1 ∧ d.rd R.DIO_STATUS_GROUPS = 0 ∧ d.io.fldWait = true ∧ d.power.fldLost = false ∧
         d.role = d0.role) ∧
     (d0.on R.POWER_FLD_TRIPPED = true → Answers .fldGood s (· = d0)) ∧
     (d0.power.fldLost = true → Answers .fldLost s (· = d0)) ∧
     (d0.power.fldLost = false → d0.lit = true → Answers .fldLost s fun d =>
       d.rd R.POWER_FLD_GOOD = 0 ∧ d.rd R.POWER_FLD_LOW = 1 ∧ d.power.fldLost = true ∧ d.rd R.DIO_STATUS_GROUPS = 0 ∧ d.role = d0.role ∧
         ∃ es, Presents d0 d ((.fldLost, source 0 0) :: es)) ∧
     (d0.power.fldLost = false → d0.on R.POWER_FLD_TRIPPED = false → d0.lit = true → Answers .fldFuse s fun d =>
       d.rd R.POWER_FLD_TRIPPED = 1 ∧ d.rd R.POWER_FLD_GOOD = 0 ∧ d.rd R.POWER_FLD_LOW = 1 ∧ d.role = d0.role ∧
         ∃ es, Presents d0 d ((.fldFuse, source 0 0) :: (.fldLost, source 0 0) :: es)) ∧
     (d0.power.fldLost = true → d0.on R.POWER_FLD_TRIPPED = false → d0.lit = true → Answers .fldFuse s fun d =>
       SetsAndTells d0 d [(R.POWER_FLD_TRIPPED, 1)] [(.fldFuse, source 0 0)]) ∧
     (d0.on R.POWER_FLD_TRIPPED = true → Answers .fldFuse s (· = d0)) ∧
     (d0.lit = true → d0.role.commanding = true → d0.fldDrives = true → d0.rd R.DIO_STATUS_GROUPS < 15 →
       Answers .dioGroupEnable s fun d =>
         d.rd R.DIO_STATUS_GROUPS = (2 * d0.rd R.DIO_STATUS_GROUPS + 1) % 16 ∧ d.rd R.DIO_OUT = d0.rd R.DIO_OUT ∧
           d.role = d0.role ∧ d.io.latched = d0.io.latched) ∧
     (d0.lit = true → Answers (.thermalSample n x) s fun d =>
       let high := d.power.temps.any (fun t => 1000 ≤ t.2)
       oget d.power.temps n.val = some x ∧ Sets d0 d [(R.POWER_THERMAL_HIGH, bit high)] ∧
         Presents d0 d (if high && !d0.on R.POWER_THERMAL_HIGH then [(.thermalHigh, source 0 0)] else []) ∧
         (x ≤ 1050 → oget d.power.hot n.val = none) ∧
         (1050 < x → oget d0.power.hot n.val = none → oget d.power.hot n.val = some d0.time.counter) ∧
         (1050 < x → ∀ c, oget d0.power.hot n.val = some c → d.power.hot = d0.power.hot)) ∧
     (LitAndSettled s → d0.role ≠ .stopped → d0.committed = false → h ∈ d0.power.hot →
       1000000000 ≤ d0.since h.2 → Answers .thermalStop s fun d =>
         d.role = .stopped ∧ d.power.faultStop = true ∧ d.rd R.POWER_THERMAL_STOP = 1 ∧
           ∃ es, Presents d0 d ((.thermalStop, source 0 0) :: es)) ∧
     (d0.lit = true → d0.role = .stopped → h ∈ d0.power.hot → 1000000000 ≤ d0.since h.2 → h.1 ∉ d0.power.stopTold →
       Answers .thermalStop s fun d =>
         d.role = .stopped ∧ Sets d0 d [(R.POWER_THERMAL_STOP, 1)] ∧ Presents d0 d [(.thermalStop, source 0 0)]) ∧
     (d0.lit = true → (∀ k ∈ d0.power.hot, d0.since k.2 < 1000000000) → Answers .thermalStop s (· = d0)))

/-- The feeds and the power-fail sequence (R48 to R55, R208, R428, R431): each feed's judgement shows; the loss of one of
two is an event, that of both starts the ride-through or, with the bank not charged, a reset; unlit, only GOOD falls;
a dip ends the ride-through; at the commit the links idle; at the end of the cycle the clusters go off and the frozen
retain copy is saved, or with none the journal is written; the saved slot is complete. Where the rules leave a point
open it states the model's own choices: log entries 17, 18, 37, 120, 130 and 147. -/
def Obligations.FeedsAndPowerFail : Prop :=
  ∀ (s : State) (x : Fin 2) (k : Nat) (y : RetainSlot) (cap : Byte) (copy : DWord × List (Nat × List Byte)),
    let d0 := s.dev
    let lostFlag (d : Dev) : Bool := if x = 0 then d.power.lostA else d.power.lostB
    let otherLost : Bool := if x = 0 then d0.power.lostB else d0.power.lostA
    Answers (.feedGood x) s (fun d => Sets d0 d [(feedGoodFld x.val, 1)] ∧ lostFlag d = false ∧
      d = { d0 with regs := d.regs, power := (if x = 0 then { d0.power with lostA := false, switchOpenA := false }
                                              else { d0.power with lostB := false, switchOpenB := false }) }) ∧
    (d0.lit = true → otherLost = false → d0.on (feedGoodFld (1 - x.val)) = true → Answers (.feedLost x) s fun d =>
      Sets d0 d [(feedGoodFld x.val, 0), (feedLostFld x.val, 1)] ∧ lostFlag d = true ∧
        Presents d0 d [(.feedLost, source 0 0)]) ∧
    (d0.lit = true → otherLost = false → d0.on (feedGoodFld (1 - x.val)) = false → Answers (.feedLost x) s fun d =>
      SetsOnly { d0 with power := d.power } d [(feedGoodFld x.val, 0), (feedLostFld x.val, 1)] ∧ lostFlag d = true) ∧
    (d0.lit = true → otherLost = true → d0.on R.POWER_HOLDUP_READY = true → d0.power.pf = .idle →
      Answers (.feedLost x) s fun d =>
        Sets d0 d [(feedGoodFld x.val, 0), (feedLostFld x.val, 1), (R.POWER_RIDE_THROUGH, 1)] ∧ lostFlag d = true ∧
          d.power.pf = .rideThrough ∧ Presents d0 d [(.bothFeedsLost, source 0 0)]) ∧
    (d0.lit = true → otherLost = true → d0.on R.POWER_HOLDUP_READY = false → Answers (.feedLost x) s fun d =>
      d.role = .stopped ∧ d.power.powered = false ∧ d.rd R.RESET_CAUSE_CAUSE = 2 ∧ d.rd R.POWER_LAST_PF_SAVED = 0 ∧
        d.rd R.POWER_LAST_PF_INCOMPLETE = 0) ∧
    (d0.lit = false → Answers (.feedOvervoltage x) s fun d =>
      SetsOnly { d0 with power := d.power } d [(feedGoodFld x.val, 0)] ∧ lostFlag d = true ∧
        (if x = 0 then d.power.switchOpenA else d.power.switchOpenB) = true) ∧
    (d0.lit = true → d0.power.pf = .rideThrough → Answers (.feedDip x) s fun d =>
      Sets d0 d [(R.POWER_RIDE_THROUGH, 0)] ∧ lostFlag d = false ∧ d.power.pf = .idle ∧
        Presents d0 d [(.feedDip, source 0 0)]) ∧
    (d0.lit = true → d0.power.pf = .rideThrough → d0.on R.EVREC_STATUS_FROZEN = false → Answers .powerFailCommit s fun d =>
      Sets d0 d [(R.POWER_RIDE_THROUGH, 0), (R.POWER_LAST_PF_SAVED, 0), (R.POWER_LAST_PF_INCOMPLETE, 0)] ∧
        d.power = { d0.power with pf := .committed } ∧ (∀ p ∈ d.loop.links, p.2.sent = none) ∧
        Presents d0 d [(.powerFail, source 0 0)]) ∧
    (d0.lit = true → d0.power.pf = .committed → d0.cycle.began = false → d0.cycle.copy = some copy →
      d0.poolEmpty = false → Answers .pfCycleEnd s fun d =>
        d.power.pf = .saving ∧ d.cycle.saving = some d0.saveSlot.1 ∧ d.rd R.POWER_LAST_PF_INCOMPLETE = 1 ∧
          (∃ y, oget d.cycle.slots d0.saveSlot.1 = some y ∧ y.save = d0.saveSlot.2 ∧ y.cycle = copy.1 ∧
            y.digest = d0.image.retainDigest ∧ y.data = copy.2 ∧ y.complete = false ∧ y.consumed = false ∧ y.intact = true) ∧
          (∀ n : Nat, n < 9 → d.rd (R.FAB_STATUS_POWERED n) = 0) ∧ ∀ t : Nat, t < 144 → d.rd (R.TILE_STATUS_POWERED t) = 0) ∧
    (d0.lit = true → d0.power.pf = .committed → d0.cycle.began = false → d0.cycle.copy = none →
      Answers .pfCycleEnd s fun d => d.power.pf = .journalling ∧ d.evrec.closed = true) ∧
    (d0.lit = true → d0.power.pf = .saving → d0.cycle.saving = some k → oget d0.cycle.slots k = some y →
      Answers .pfRetainSaved s fun d => d.power.pf = .journalling ∧ d.evrec.closed = true ∧ d.cycle.saving = none ∧
        oget d.cycle.slots k = some { y with complete := true } ∧ d.rd R.POWER_LAST_PF_SAVED = 1 ∧
        d.rd R.POWER_LAST_PF_INCOMPLETE = 0) ∧
    (d0.alive = true → d0.role ≠ .starting → 85 ≤ cap.toNat → Answers (.holdupCharged cap) s fun d =>
      SetsOnly d0 d [(R.POWER_HOLDUP_CAP, cap.toNat), (R.POWER_HOLDUP_READY, 1)]) ∧
    (d0.alive = true → d0.role ≠ .starting → cap.toNat < 85 → Answers (.holdupCharged cap) s fun d =>
      SetsAndTells d0 d [(R.POWER_HOLDUP_CAP, cap.toNat), (R.POWER_HOLDUP_READY, 1)] [(.holdupLow, source 0 0)])

/-- Identity and keeper (R10, R30, R31, R41 to R43, R288). An input follows after three equal samples; three equal raw
samples of a valid code whose side agrees with K1.5 give the identity, unequal ones another attempt up to the tenth,
and a code that is not valid or disagrees stops the start; the debounced pins and switches show, and a departure from
the latched code is an event; K1.1 admits SAFETY_MAINT. Where the rules leave a point open it states the model's own
choices: log entries 22, 24 and 132. -/
def Obligations.IdentityAndKeeper : Prop :=
  (∀ (x : Debounce) (n w k : Nat), x.value < 2 ^ w →
    let y := x.sample n w
    y.last = n ∧ y.prev = x.last ∧ y.value < 2 ^ w ∧
      (k < w → testBit y.value k =
        (if testBit n k = testBit x.last k ∧ testBit n k = testBit x.prev k then testBit n k else testBit x.value k))) ∧
  (∀ (s : State) (a b c : BitVec 6), s.dev.isStarting = true → s.dev.power.start.position = false →
    let d0 := s.dev
    let pins := c.toNat % 32
    (a = c → b = c → codeValid pins = true → testBit pins 3 = testBit c.toNat 5 →
      Answers (.positionSampleAttempt a b c) s fun d =>
        Sets d0 d [(R.SADDLE_PAIR, pins % 8), (R.SADDLE_SIDE, bit (testBit pins 3)), (R.SADDLE_PARITY_OK, 1),
          (R.SADDLE_CODE_VALID, 1), (R.SADDLE_ID_MISMATCH, 0), (R.KEEPER_ID_LATCHED, bit (testBit pins 3)),
          (R.TWIN_IDENT_SIDE, bit (testBit pins 3)), (R.TWIN_IDENT_PAIR, pins % 8),
          (R.KEEPER_SW, putBit d0.conn.keeper.value 4 (testBit pins 3) % 256),
          (R.KEEPER_COVER_OPEN, bit (testBit d0.conn.keeper.value 8)), (R.KEEPER_SAFE_SET, d0.conn.keeper.value / 2 % 8),
          (R.SADDLE_PRESENT_OWN, bit d.ownPresence), (R.SADDLE_PRESENT_PARTNER, bit d.partnerPresent)] ∧
        d.conn.latched = some (pins, testBit pins 3) ∧ d.conn.identified = true ∧ d.power.start.position = true ∧
        d = { d0 with regs := d.regs, conn := d.conn, power := d.power }) ∧
    ((a ≠ b ∨ b ≠ c) → d0.conn.attempts < 9 → Answers (.positionSampleAttempt a b c) s fun d =>
      d = { d0 with conn := { d0.conn with attempts := d0.conn.attempts + 1 } }) ∧
    ((a ≠ b ∨ b ≠ c) → d0.conn.attempts = 9 → d0.committed = false → d0.mgmt.staged = [] →
      Answers (.positionSampleAttempt a b c) s fun d =>
        d.role = .stopped ∧ d.conn.latched = none ∧ d.conn.identified = false ∧
          (∀ f ∈ [R.SADDLE_PAIR, R.SADDLE_SIDE, R.SADDLE_PARITY_OK, R.SADDLE_CODE_VALID, R.SADDLE_ID_MISMATCH,
            R.KEEPER_ID_LATCHED], d.rd f = 0) ∧ ∃ es, Presents d0 d ((.positionCode, source 0 0) :: es)) ∧
    (a = c → b = c → (codeValid pins = false ∨ testBit pins 3 ≠ testBit c.toNat 5) → d0.committed = false →
      d0.mgmt.staged = [] → Answers (.positionSampleAttempt a b c) s fun d =>
        d.role = .stopped ∧ d.conn.latched = some (pins, testBit c.toNat 5) ∧ d.conn.identified = false ∧
          d.rd R.SADDLE_PAIR = pins % 8 ∧ d.rd R.SADDLE_SIDE = bit (testBit pins 3) ∧
          d.rd R.SADDLE_CODE_VALID = bit (codeValid pins) ∧
          d.rd R.SADDLE_ID_MISMATCH = bit (testBit pins 3 != testBit c.toNat 5) ∧
          ∃ es, Presents d0 d ((.positionCode, source 0 0) :: es))) ∧
  (∀ (s : State) (p : BitVec 5) (code : Nat) (side : Bool), s.dev.lit = true →
    s.dev.conn.latched = some (code, side) →
    let d0 := s.dev
    let new := d0.conn.pins.sample p.toNat 5
    ((d0.conn.pins.value = code ∧ new.value ≠ code) → Answers (.positionPinSample p) s fun d =>
      Sets d0 d [(R.SADDLE_CODE_CHANGED, 1)] ∧ Presents d0 d [(.positionChanged, source 0 0)] ∧ d.conn.pins = new) ∧
    (¬(d0.conn.pins.value = code ∧ new.value ≠ code) → Answers (.positionPinSample p) s fun d =>
      d = { d0 with conn := { d0.conn with pins := new } })) ∧
  (∀ (s : State) (n : BitVec 9), s.dev.lit = true →
    let d0 := s.dev
    let new := d0.conn.keeper.sample n.toNat 9
    (testBit new.value 0 = testBit d0.conn.keeper.value 0 → Answers (.keeperSample n) s fun d =>
      d.rd R.KEEPER_SW = new.value % 256 ∧ d.rd R.KEEPER_COVER_OPEN = bit (testBit new.value 8) ∧
        d.rd R.KEEPER_SAFE_SET = new.value / 2 % 8 ∧ d.conn = { d0.conn with keeper := new } ∧ d.role = d0.role) ∧
    ((∀ k : Nat, k < 9 → testBit new.value k = testBit d0.conn.keeper.value k) → Answers (.keeperSample n) s fun d =>
      Sets d0 d [(R.KEEPER_SW, new.value % 256), (R.KEEPER_COVER_OPEN, bit (testBit new.value 8)),
        (R.KEEPER_SAFE_SET, new.value / 2 % 8)] ∧ d = { d0 with regs := d.regs, conn := { d0.conn with keeper := new } })) ∧
  (∀ (s : State) (r : Req) (p q : Option StoredSection), s.dev.mgmt.staged = [] → s.dev.hrn.staged = none →
    ((s.dev.role = .stopped ∨ s.dev.role = .standby) → testBit (s.dev.rd R.KEEPER_SW) 0 = true → FreshRequest s r 2 →
      Answers (.enterSafetyMaint r) s fun d => Replied d 0x0307 r .ok [] ∧ d.role = .safetyMaint) ∧
    ((s.dev.role = .stopped ∨ s.dev.role = .standby) → testBit (s.dev.rd R.KEEPER_SW) 0 = false →
      Carries (.enterSafetyMaint r) s r 2 0x0307 (.hrn 13) [] [] fun d =>
        OnlyAnswered s.dev d ∧ d = { s.dev with regs := d.regs, mgmt := d.mgmt }) ∧
    (s.dev.role = .safetyMaint → FreshRequest s r 2 → Answers (.leaveSafetyMaint r) s fun d =>
      Replied d 0x0307 r .ok [] ∧ d.role = .stopped ∧ d.bridle.writing = none) ∧
    (s.dev.alive = true → s.dev.role = .safetyMaint → s.dev.bridle.writing = some (p, q) →
      let crc (x : StoredSection) : Word := w32 (crc32 x.bytes)
      let set (k : Nat) (x : StoredSection) : Word := safetySetCrc x.bytes k
      let n := bit (p.isSome && s.dev.bridle.protect.map crc != p.map crc) +
        ((List.range 8).filter fun k => q.isSome && s.dev.bridle.safety.map (set k) != q.map (set k)).length
      Answers (.safetyWritten (writeCrcs p q)) s fun d =>
        Presents s.dev d (List.replicate n (.safetyWritten, source 0 0)) ∧ d.regs = s.dev.regs ∧
          d.bridle = { s.dev.bridle with
            protect := p.or s.dev.bridle.protect, safety := q.or s.dev.bridle.safety, writing := none } ∧
          d.role = s.dev.role) ∧
    (∀ crcs : List Word, s.dev.alive = true → s.dev.role = .safetyMaint → s.dev.bridle.writing = some (p, q) →
      crcs ≠ writeCrcs p q → Answers (.safetyWritten crcs) s fun d =>
        d = { s.dev with bridle := { s.dev.bridle with writing := none } }))

/-- The start sequence (R58 to R61, R82, R102, R103, R209 to R212, R231, R339, R470), step by step. START and RESTART
(R209, R212, R216, R333): accepted in STOPPED, START drives the module to its start sequence with the restart kind it
names, and with no image it is refused; RESTART asserts reset at once for a cold restart, and begins the power-fail
steps for a warm one. Where the rules leave a point open it states the model's own choices: log entries 23, 25, 26,
83, 119, 120 and 148. -/
def Obligations.StartAndRestart : Prop :=
  (∀ (s : State) (n : Fin 9) (k : Nat) (f : TestFindings) (im : Image) (part : Option (DWord × List (Nat × List Byte))),
     let d0 := s.dev
     let st := d0.power.start
     (d0.isStarting = true → st.position = true → st.bridle = true → st.image = false → d0.mgmt.staged = [] →
       d0.committed = false →
       (let d1 := d0.reportMarks.each 4 (fun k d => d.checkAtStart k)
        (d1.pickSlot.1 = some k → d1.pickSlot.2.partnerSlot k = none → Answers .harnessBootSelect s fun d =>
           d.power.start.image = true ∧ d.hrn.slot = k ∧ d.hrn.epoch = d0.hrn.bootEpoch ∧ d.hrn.image.isSome = true) ∧
        (d1.pickSlot.1 = none → Answers .harnessBootSelect s fun d =>
           d.role = .stopped ∧ d.rd R.HRN_BOOT_NONE = 1 ∧ d.power.start.image = false ∧
             d.rd R.HRN_BOOT_POINTER_SLOT = d0.hrn.bootPtr % 4 ∧ d.hrn.epoch = d0.hrn.bootEpoch))) ∧
     (d0.isStarting = true → st.position = true → st.image = true → n.val = st.clusters → d0.cold = false → Answers (.clusterPowerUp n) s fun d =>
       Sets d0 d ((R.FAB_STATUS_POWERED n.val, 1) :: (clusterTiles n.val).map (fun t => (R.TILE_STATUS_POWERED t, 1))) ∧
         d = { d0 with regs := d.regs, power := { d0.power with start := { st with clusters := n.val + 1 } } }) ∧
     (d0.isStarting = true → st.position = true → st.image = true → n.val = st.clusters → d0.cold = true → Answers (.clusterPowerUp n) s fun d =>
       d.regs = d0.regs ∧ d.power.start = { st with coldWait := true, coldRecorded := true } ∧
         Presents d0 d (if st.coldRecorded then [] else [(.coldStart, source 0 0)])) ∧
     (d0.isStarting = true → d0.mgmt.staged = [] → d0.committed = false → d0.on (R.FAB_STATUS_POWERED n.val) = true →
       Answers (.clusterPower n) s fun d => d.role = .stopped ∧ d.rd (R.FAB_STATUS_POWERED n.val) = 0 ∧
         (∀ t ∈ clusterTiles n.val, d.rd (R.TILE_STATUS_POWERED t) = 0) ∧
         ∃ es, Presents d0 d ((.clusterPower, source 2 n.val) :: es)) ∧
     (st.coldWait = true → d0.cold = false → Answers .coldStartWaitEnd s fun d =>
       d = { d0 with power := { d0.power with start := { st with coldWait := false } } }) ∧
     (d0.isStarting = true → st.clusters = 9 → f.wellFormed = true → d0.mgmt.staged = [] →
       Answers (.startSelfTestDone f) s fun d => d.power.start.selfTest = true ∧ d.rd R.LIFE_SELFTEST_KIND = 2 ∧
         d.rd R.LIFE_SELFTEST_CAUSE = f.cause.val) ∧
     (d0.isStarting = true → st.image = true → st.clusters = 9 → st.selfTest = true → st.loaded = false →
       d0.hrn.image = some im → im.header.pairMode = 1 → (∀ i ∈ im.slots, i.programOk = true) → d0.hrn.staged = none →
       d0.placeTiles.role = .starting →
       Answers .clustersLoaded s fun d => d.role = .starting ∧ d.power.start.loaded = true ∧ d.power.start.listening = true ∧
         d.power.start.heardRole = none ∧ d.cycle.judged.isSome = true) ∧
     (d0.isStarting = true → st.listening = true → d0.on R.POWER_HOLDUP_READY = true → st.heardOwn = false →
       d0.on R.TWIN_STATUS_IDENT_CLASH = false → d0.rd R.TWIN_ELIG_CAUSES / 64 % 2 = 0 →
       ((st.heardRole = some .active ∨ st.heardRole = some .solo) → Answers (.listenWindowEnd part) s fun d =>
         d.role = .standby ∧ d.rd R.CYCLE_STATUS_RESTART_KIND = 3 ∧ d.power.start.listening = false) ∧
       (st.heardRole = some .starting → d0.on R.SADDLE_SIDE = true → Answers (.listenWindowEnd part) s fun d =>
         d = { d0 with power := { d0.power with start := { st with listening := false, waitingA := true } } }) ∧
       (st.heardRole = none → Answers (.listenWindowEnd part) s fun d =>
         d.role = .active ∧ d.cycle.running = true ∧ d.power.start.listening = false ∧ d.twin.epoch = d0.startEpoch)) ∧
     (d0.isStarting = true → st.waitingA = true → Answers .standbyWaitTimeout s fun d =>
       d = { d0 with power := { d0.power with start := { st with
         listening := true, waitingA := false, heardOwn := false, heardRole := none, heardEpoch := none } } })) ∧
  (∀ (s : State) (r : Req) (warm : Bool), FreshRequest s r 2 → s.dev.mgmt.staged = [] → s.dev.hrn.staged = none →
     let d0 := s.dev
     (d0.role = .stopped → d0.on R.TWIN_STATUS_IDENT_CLASH = false → testBit d0.twin.causes 6 = false →
       d0.bridle.running = true → d0.bridle.protect = none → d0.bridle.safety = none → d0.hrn.image.isSome = true →
       Answers (.start r warm) s fun d => Replied d 0x0307 r .ok [] ∧ d.role = .starting ∧ d.cycle.named = some warm ∧
         d.power.start.clusters = 0 ∧ d.power.start.loaded = false ∧ d.power.start.position = false ∧
         d.conn.attempts = 0 ∧ d.twin.yielded = false ∧ d.rd R.CMD_STATUS_ACCEPTED = 0 ∧
         d.rd R.CYCLE_STATUS_FALLBACK_ENTRIES = 0 ∧ ∀ n : Nat, n < 9 → d.rd (R.FAB_STATUS_POWERED n) = 0) ∧
     (d0.role = .stopped → d0.on R.TWIN_STATUS_IDENT_CLASH = false → testBit d0.twin.causes 6 = false →
       d0.bridle.running = true → d0.hrn.image = none → Answers (.start r warm) s fun d => Replied d 0x0307 r (.hrn 7) []) ∧
     (d0.role ≠ .stopped → Answers (.start r warm) s fun d => Replied d 0x0307 r .notPermitted [] ∧ d.role = d0.role) ∧
     (d0.role.runs = true → Answers (.restart r false) s fun d =>
       d.role = .stopped ∧ d.power.inReset = true ∧ d.rd R.RESET_CAUSE_CAUSE = 3 ∧ d.cycle.named = some false) ∧
     (d0.role.runs = true → d0.committed = false → Answers (.restart r true) s fun d =>
       Replied d 0x0308 r .ok [] ∧ d.power.pf = .committed ∧ d.power.pfRestart = true ∧ d.cycle.named = some true) ∧
     (d0.role.runs = false → Answers (.restart r warm) s fun d => Replied d 0x0308 r .notPermitted [] ∧ d.role = d0.role))

/-! ### The self-timed fabric (chapter 04) -/

/-- Routes and arbitration (R74, R75, R78): a header from a tile's interface that a router can send at once goes out along
x to the destination column, then along y, then to its tile, with the output's next number and into its replay buffer;
where both virtual channels wait for an output with room, CTRL goes first seven times in eight, and BULK the eighth;
and no replay buffer ever holds more than four flits. Flits, links and ports (R77 to R82, R87): the expected flit is
accepted, and with the last one of a packet the tile's interface or the I/O port has it; one already accepted is
discarded; any other is rejected, and sent again up to three times, each counted at the sender and in its cluster. The
fourth rejection of one flit fails the link, more than 64 retransmissions in 1 ms degrade it, and a missing completion
fails it: the link shows at both ends, what its replay buffers held goes to the detour, and a failure is an event. A
link out of service whose detour is out of service too loses the route and stops the module; an injection and ejection
pair that fails stops its tile; and the cluster's I/O port moves to its alternate tile, once. A link test in STOPPED
fails the links it finds. Where the rules leave a point open it states the model's own choices: log entries 32, 33,
34, 135, 136, 137 and 138. -/
def Obligations.FlitsRoutersLinksAndPorts : Prop :=
  (∀ (s : State) (t dest : Fin 144) (port : Fin 8) (seq : Byte) (ok : Bool) (use : FabUse) (len : Fin 16) (flit : FabFlit)
     (out : Fin 6),
     let d0 := s.dev
     (d0.lit = true → d0.on (R.TILE_STATUS_POWERED t.val) = true → (∀ p ∈ d0.fab.queues, p.1 / 64 ≠ t.val) →
       seq.toNat = d0.expects t.val 4 →
       let o := if t.val % 12 < dest.val % 12 then 1 else if dest.val % 12 < t.val % 12 then 3
         else if t.val / 12 < dest.val / 12 then 0 else if dest.val / 12 < t.val / 12 then 2 else 4
       let x := d0.fabOut t.val o
       x.owners = [] → x.replay.length < 4 → d0.outLost t.val o = false →
       Answers (.flitReceive t 4 ⟨seq, .header dest false use len⟩ true) s fun d =>
         (d.fabOut t.val o).replay = x.replay ++
           [(x.next, { flit := .header dest false use len, src := t.val, last := len.val = 0 }, 0)] ∧
         (d.fabOut t.val o).next = (x.next + 1) % 256 ∧ d.expects t.val 4 = (seq.toNat + 1) % 256 ∧
         d = { d0 with fab := d.fab }) ∧
     (let x := d0.fabOut t.val out.val
      ∀ (p q : Nat) (m n : FabMove), p < 16 → q < 16 → x.replay.length < 4 → d0.outLost t.val out.val = false →
       d0.fab.queues.map (·.1) = [t.val * 64 + p * 4, t.val * 64 + q * 4 + 1] →
       d0.fabMove t.val (p * 4) = some m → d0.fabMove t.val (q * 4 + 1) = some n → m.out = out.val → n.out = out.val →
       d0.moveOpen t.val m = true → d0.moveOpen t.val n = true →
       let d := d0.transfer t.val out.val
       (d.fabOut t.val out.val).replay = x.replay ++ [(x.next, if x.turn < 7 then m.hop else n.hop, 0)] ∧
         (d.fabOut t.val out.val).turn = if x.turn < 7 then x.turn + 1 else 0) ∧
     ((∀ u o : Nat, (d0.fabOut u o).replay.length ≤ 4) → Answers (.flitReceive t port ⟨seq, flit⟩ ok) s fun d =>
       ∀ u o : Nat, (d.fabOut u o).replay.length ≤ 4)) ∧
  (∀ (s : State) (t : Fin 144) (port : Fin 8) (seq : Byte) (ok : Bool) (flit : FabFlit) (h : FabHop) (dir : Fin 2) (w : Word),
     let d0 := s.dev
     let e := d0.expects t.val port.val
     let old := (e + 256 - seq.toNat) % 256
     let n := d0.rejections t.val port.val seq.toNat
     let c := clusterOf t.val
     let dir4 : Fin 4 := dir.castLE (by decide)
     let near : Fld := if dir = 0 then R.TILE_PORTS_E t.val else R.TILE_PORTS_N t.val
     let far : Fld := if dir = 0 then R.TILE_PORTS_W (t.val + 1) else R.TILE_PORTS_S (t.val + 12)
     (d0.lit = true → d0.on (R.TILE_STATUS_POWERED t.val) = true → d0.arriving t.val port.val seq.toNat flit = some h →
       (ok = true → seq.toNat = e → Answers (.flitReceive t port ⟨seq, flit⟩ ok) s fun d =>
         d = { d0 with fab := d.fab, free := d.free } ∧ d.expects t.val port.val = (e + 1) % 256 ∧
           ((port = 5 ∨ port = 7) → h.last = true →
             let k := t.val * 4 + 2 * bit (port = 7) + bit (flitBulk h.flit)
             oget d.fab.got k = some (sget (fun _ => []) d0.fab.rx k ++ [h]))) ∧
       (ok = true → seq.toNat ≠ e → 1 ≤ old → old ≤ 4 → Answers (.flitReceive t port ⟨seq, flit⟩ ok) s fun d => d = d0) ∧
       ((ok = false ∨ seq.toNat ≠ e ∧ ¬(1 ≤ old ∧ old ≤ 4)) → n < 3 → Answers (.flitReceive t port ⟨seq, flit⟩ ok) s fun d =>
         Sets d0 d (match retryTile t.val port.val with
           | some u => [(R.TILE_RETRY u, min (d0.rd (R.TILE_RETRY u) + 1) (2 ^ 32 - 1)),
               (R.FAB_RETRY (clusterOf u), min (d0.rd (R.FAB_RETRY (clusterOf u)) + 1) (2 ^ 32 - 1))]
           | none => []) ∧
         d.rejections t.val port.val seq.toNat = n + 1 ∧ d.expects t.val port.val = e ∧
         d = { d0 with regs := d.regs, fab := d.fab }) ∧
       ((ok = false ∨ seq.toNat ≠ e ∧ ¬(1 ≤ old ∧ old ≤ 4)) → n = 3 → Answers (.flitReceive t port ⟨seq, flit⟩ ok) s fun d =>
         d = { d0 with fab := d.fab } ∧ d.rejectedOut t.val port.val = true)) ∧
     (d0.lit = true → linkExists t.val dir.val = true → LinksWhole s →
       let onDetour (d : Dev) : Prop := ∀ x ∈ linkOuts t.val dir.val, (d.fabOut x.1 x.2).replay = []
       ((∃ p ∈ linkPorts t.val dir.val, d0.rejectedOut p.1 p.2 = true) → Answers (.linkFailed t dir4) s fun d =>
         Sets d0 d [(R.FAB_LINK_FAIL c, 2 ^ linkBit t.val dir.val), (near, 2), (far, 2)] ∧
           Presents d0 d [(.linkFailed, source 2 c)] ∧ onDetour d ∧ d.role = d0.role) ∧
       (64 < (((oget d0.fab.again (t.val * 2 + dir.val)).getD []).filter (fun x => d0.since x ≤ 1000000)).length →
         Answers (.linkDegraded t dir4) s fun d =>
           Sets d0 d [(R.FAB_LINK_DEGR c, 2 ^ linkBit t.val dir.val), (near, 1), (far, 1)] ∧ onDetour d ∧
             d = { d0 with regs := d.regs, fab := d.fab, free := d.free }) ∧
       (d0.on (R.TILE_STATUS_POWERED t.val) = true →
         Answers (.portCompletionTimeout t (if dir = 0 then 1 else 0)) s fun d =>
           Sets d0 d [(R.FAB_LINK_FAIL c, 2 ^ linkBit t.val dir.val), (near, 2), (far, 2)] ∧
             Presents d0 d [(.linkFailed, source 2 c)] ∧ onDetour d ∧ d.role = d0.role)) ∧
     (LitAndSettled s → d0.role ≠ .stopped → d0.committed = false → linkExists t.val dir.val = true →
       testBit (d0.rd (R.FAB_LINK_FAIL c)) (linkBit t.val dir.val) = false →
       (∃ p ∈ linkPorts t.val dir.val, d0.rejectedOut p.1 p.2 = true) →
       (∃ p ∈ detour t.val dir.val, d0.linkOut p.1 p.2 = true) →
       Answers (.linkFailed t dir4) s fun d => d.role = .stopped ∧ d.rd (R.FAB_STATUS_ROUTE_LOST c) = 1) ∧
     (LitAndSettled s → d0.on (R.TILE_STATUS_STOPPED t.val) = false → d0.committed = false →
       (d0.rejectedOut t.val 4 = true ∨ d0.rejectedOut t.val 5 = true) →
       Answers (.linkFailed t 2) s fun d => d.rd (R.TILE_PORTS_INJ_EJ t.val) = 2 ∧ d.rd (R.TILE_STATUS_STOPPED t.val) = 1 ∧
         d.rd (R.TILE_FAULT_PORT_FAULT t.val) = 1 ∧ d.role.runs = false) ∧
     (d0.lit = true → d0.on (R.TILE_STATUS_POWERED t.val) = true →
       (d0.rejectedOut t.val 6 = true ∨ d0.rejectedOut t.val 7 = true) →
       64 < (((oget d0.fab.again (512 + c)).getD []).filter (fun x => d0.since x ≤ 1000000)).length →
       (d0.rd (R.FAB_IOPORT_PRIMARY c) = t.val → d0.on (R.FAB_IOPORT_ON_ALT c) = false →
         let moved (d : Dev) : Prop := Sets d0 d [(R.FAB_IOPORT_ON_ALT c, 1), (R.FAB_STATUS_IOPORT_ALT c, 1)] ∧
           d.attachedTile c = d0.rd (R.FAB_IOPORT_ALTERNATE c) ∧ (d.fabOut t.val 5).replay = [] ∧
           d = { d0 with regs := d.regs, fab := d.fab, free := d.free }
         Answers (.portCompletionTimeout t 5) s moved ∧ Answers (.linkFailed t 3) s moved ∧
           Answers (.linkDegraded t 3) s moved) ∧
       ((d0.rd (R.FAB_IOPORT_PRIMARY c) ≠ t.val ∨ d0.on (R.FAB_IOPORT_ON_ALT c) = true) →
         Answers (.portCompletionTimeout t 5) s (· = d0) ∧ Answers (.linkFailed t 3) s (· = d0) ∧
           Answers (.linkDegraded t 3) s (· = d0))) ∧
     (d0.role = .stopped → d0.alive = true → ∀ n : Fin 9, Answers (.linkTest n w) s fun d =>
       (∀ x ∈ clusterTiles n.val, ∀ k : Nat, k < 2 → linkExists x k = true →
         testBit (d.rd (R.FAB_LINK_FAIL n.val)) (linkBit x k) =
           (testBit (d0.rd (R.FAB_LINK_FAIL n.val)) (linkBit x k) || testBit w.toNat (linkBit x k))) ∧
       d.role = .stopped ∧ ∀ m : Nat, m < 9 → m ≠ n.val → d.rd (R.FAB_LINK_FAIL m) = d0.rd (R.FAB_LINK_FAIL m)))

/-- Pace monitors and rail sensors (R84 to R86): each window shows every tile's period and the slowest of 17, warns above
the threshold, and counts the windows in a row above 1,600 ps; a third stops the module, with one event for the
cluster's condition. Each measurement of the rail shows the values and their extremes, and its temperature counts as
the cluster's sensor; a rail below 0.776 V and one above 0.88 V stop the module, and the latter powers the cluster
off. Where the rules leave a point open it states the model's own choices: log entry 31. -/
def Obligations.PaceMonitorsAndRails : Prop :=
  ∀ (s : State) (n : Fin 9) (ps : List Nat) (m : Fin 16) (mv tj : BitVec 16), s.dev.lit = true →
    let d0 := s.dev
    let t := ((clusterTiles n.val)[m.val]?).getD 0
    let worst := ps.foldl max 0
    let run (x : Dev) (k : Nat) : Nat := x.slowRun n.val k
    (d0.on (R.FAB_STATUS_POWERED n.val) = true → ps.length = 17 → (∀ p ∈ ps, p < 65536) →
      Answers (.paceWindow n ps) s fun d =>
        d.rd (R.TILE_PACE_PERIOD t) = (ps[m.val]?).getD 0 ∧
          d.rd (R.TILE_PACE_PERIOD_MAX t) = max (d0.rd (R.TILE_PACE_PERIOD_MAX t)) ((ps[m.val]?).getD 0) ∧
          run d m.val = (if 1600 < (ps[m.val]?).getD 0 then min 255 (run d0 m.val + 1) else 0) ∧
          run d 16 = (if 1600 < (ps[16]?).getD 0 then min 255 (run d0 16 + 1) else 0) ∧
          d.rd (R.FAB_PACE_PERIOD n.val) = worst ∧
          d.rd (R.FAB_PACE_MAX_PERIOD_MAX n.val) = max (d0.rd (R.FAB_PACE_MAX_PERIOD_MAX n.val)) worst ∧
          d.rd (R.FAB_STATUS_PACE_MARGIN n.val) = bit (d0.rd (R.FAB_THRESH_MARGIN_PS n.val) < worst) ∧
          d = { d0 with regs := d.regs, fab := d.fab, evrec := d.evrec, free := d.free }) ∧
    (LitAndSettled s → d0.role ≠ .stopped → d0.committed = false → 3 ≤ run d0 m.val → n.val ∉ d0.fab.slowTold →
      Answers (.paceSlow n m.castSucc) s fun d => d.role = .stopped ∧ d.rd (R.FAB_STATUS_PACE_SLOW n.val) = 1 ∧
        d.rd (R.TILE_FAULT_PACE_SLOW t) = 1 ∧ testBit d.twin.causes 6 = true ∧
        ∃ es, Presents d0 d ((.paceSlow, source 2 n.val) :: es)) ∧
    (LitAndSettled s → d0.role ≠ .stopped → d0.committed = false → 3 ≤ run d0 16 → n.val ∉ d0.fab.slowTold →
      Answers (.paceSlow n 16) s fun d => d.role = .stopped ∧ d.rd (R.FAB_STATUS_PACE_SLOW n.val) = 1 ∧
        ∃ es, Presents d0 d ((.paceSlow, source 2 n.val) :: es)) ∧
    (3 ≤ run d0 m.val → n.val ∈ d0.fab.slowTold → Answers (.paceSlow n m.castSucc) s fun d =>
      SetsOnly d0 d [(R.FAB_STATUS_PACE_SLOW n.val, 1), (R.TILE_FAULT_PACE_SLOW t, 1)]) ∧
    (d0.on (R.FAB_STATUS_POWERED n.val) = true → 776 ≤ mv.toNat → mv.toNat ≤ 824 → Answers (.railSample n mv tj) s fun d =>
      let high := d.power.temps.any (fun x => 1000 ≤ x.2)
      Sets d0 d [(R.FAB_RAIL_RAIL_MV n.val, mv.toNat),
        (R.FAB_RAIL_RAIL_MIN_MV n.val, min mv.toNat (d0.rd (R.FAB_RAIL_RAIL_MIN_MV n.val))),
        (R.FAB_TEMP_TJ n.val, tj.toNat),
        (R.FAB_TEMP_TJ_MAX n.val, ((max tj.toInt (d0.rdInt (R.FAB_TEMP_TJ_MAX n.val))) % 65536).toNat),
        (R.FAB_STATUS_RAIL_OK n.val, 1), (R.POWER_THERMAL_HIGH, bit high)] ∧ oget d.power.temps n.val = some tj.toInt ∧
        Presents d0 d (if high && !d0.on R.POWER_THERMAL_HIGH then [(.thermalHigh, source 0 0)] else [])) ∧
    (LitAndSettled s → d0.role ≠ .stopped → d0.committed = false → d0.on (R.FAB_STATUS_POWERED n.val) = true → mv.toNat < 776 →
      776 ≤ d0.rd (R.FAB_RAIL_RAIL_MV n.val) → Answers (.railSample n mv tj) s fun d =>
        d.role = .stopped ∧ d.rd (R.FAB_STATUS_RAIL_LOW n.val) = 1 ∧ d.rd (R.FAB_STATUS_RAIL_OK n.val) = 0 ∧
          ∃ hs es, hs.length ≤ 1 ∧ Presents d0 d (hs ++ (.railLow, source 2 n.val) :: es)) ∧
    (LitAndSettled s → d0.role ≠ .stopped → d0.committed = false → d0.on (R.FAB_STATUS_POWERED n.val) = true → 880 < mv.toNat →
      d0.rd (R.FAB_RAIL_RAIL_MV n.val) ≤ 824 → Answers (.railSample n mv tj) s fun d =>
        d.role = .stopped ∧ d.rd (R.FAB_STATUS_POWERED n.val) = 0 ∧ d.rd (R.FAB_STATUS_RAIL_OVER n.val) = 1 ∧
          ∃ hs es, hs.length ≤ 1 ∧ Presents d0 d (hs ++ (.railHigh, source 2 n.val) :: (.railOver, source 2 n.val) :: es))

/-! ### Triads (chapter 06) -/

/-- What a round agrees on (R132): of three values the median and of two the lesser, for numbers and in the order of R131;
of bits the 2-of-3 majority. Agreement rounds (R132 to R135): a commanding module's round, once every replica in
service contributes, gives the tile the agreed values of its partition's stations and completes it; when one
contribution is missing its replica is odd and the round completes with two. Shared reads (R127): when all replicas
have issued one read, it is made once and delivered to all of them; with one different or missing, the two that agree
get it and the third is odd; with no two agreeing the tile stops. Where the rules leave a point open it states the
model's own choices: log entry 54. -/
def Obligations.RoundsAndSharedReadsAgree : Prop :=
  ((∀ a b c : Int, agreeBy (fun (x y : Int) => x < y) 0 [a, b, c] = max (min a b) (min (max a b) c)) ∧
   (∀ a b : Int, agreeBy (fun (x y : Int) => x < y) 0 [a, b] = min a b) ∧
   (∀ a b c : Word, later b a = true → later c b = true → later c a = true →
     ∀ l ∈ [[a, b, c], [a, c, b], [b, a, c], [b, c, a], [c, a, b], [c, b, a]],
       agreeBy (fun (x y : Word) => later y x) 0 l = b) ∧
   (∀ a b c k : Nat, testBit (maj3 a b c) k =
     ((testBit a k && testBit b k) || (testBit a k && testBit c k) || (testBit b k && testBit c k)))) ∧
  (∀ (s : State) (t : Fin 144) (p : PartImg) (a b c : Contribution), s.dev.roundDue t.val = true → TriadQuiet s t →
     s.dev.role.commanding = true → s.dev.partOf t.val = some p → s.dev.on R.CYCLE_STATUS_FALLBACK = false →
     s.dev.mgmt.staged = [] → s.dev.twin.divergeDue = none →
     Answers (.agreementRound t (some a) (some b) (some c)) s (fun d =>
       (d.tile t.val).agreed = agree p.stations [a, b, c] ∧ (d.tile t.val).awaitRound = false) ∧
     Answers (.roundTimeout t (some a) (some b) none) s (fun d =>
       (d.tile t.val).agreed = agree p.stations [a, b] ∧ (d.tile t.val).awaitRound = false ∧
         d.rd R.TRIAD_LAST_CAUSE = 3 ∧ d.rd R.TRIAD_LAST_REPLICA = 4 ∧ d.rd (R.TILE_STATUS_REP_IN t.val) = 3)) ∧
  (∀ (s : State) (t : Fin 144) (x y z : PendingRead), TriadQuiet s t → s.dev.mgmt.staged = [] →
     let d0 := s.dev
     let p (r : Fin 3) : Option PendingRead := ((d0.tile t.val).rep r).pending
     let gets (d : Dev) (r : Fin 3) : Prop := (d.tile t.val).rep r = ((d0.tile t.val).rep r).deliverRead d0.timeT
     (p 0 = some x → p 1 = some y → p 2 = some z → x.kind = .rdtime → y.kind = .rdtime → z.kind = .rdtime →
       Answers (.sharedRead t) s fun d => gets d 0 ∧ gets d 1 ∧ gets d 2 ∧ d.regs = d0.regs ∧
         d = { d0 with tiles := d.tiles } ∧ ∀ u : Nat, u ≠ t.val → d.tile u = d0.tile u) ∧
     (p 0 = some x → p 1 = some x → p 2 = some x → x.kind ≠ .rdtime → Answers (.sharedRead t) s fun d =>
       ∀ r : Fin 3, (d.tile t.val).rep r = ((d0.tile t.val).rep r).deliverRead
         ((d0.readReg (.tack t) (x.addr - 0x80000000)).1.setWidth 64)) ∧
     (p 0 = some x → p 1 = some y → p 2 = some z → x.kind = .rdtime → y.kind = .rdtime → z.kind ≠ .rdtime →
       (d0.tile t.val).stitches = [] → Answers (.sharedRead t) s fun d => gets d 0 ∧ gets d 1 ∧ FoundOdd d0 d t 2 8) ∧
     (p 0 = some x → p 1 = some y → p 2 = none → x.kind = .rdtime → y.kind = .rdtime →
       (d0.tile t.val).stitches = [] → Answers (.sharedReadTimeout t) s fun d => gets d 0 ∧ gets d 1 ∧ FoundOdd d0 d t 2 2) ∧
     (p 0 = some x → p 1 = some y → p 2 = some z → x.agrees y = false → x.agrees z = false → y.agrees z = false →
       d0.committed = false → Answers (.sharedRead t) s fun d =>
         d.rd (R.TILE_FAULT_STITCH_MISMATCH t.val) = 1 ∧ d.rd (R.TILE_STATUS_STOPPED t.val) = 1 ∧ d.role = .stopped))

/-- The voter and event delivery (R128, R136 to R139, R195): an entry waits for a second; two identical ones issue the
effect; with two replicas in service that differ, and after a timeout without a second entry, the tile stops; a
replica that has not delivered an issued entry, or has not reached the count of an event that waits, is odd; an event
of higher priority pre-empts the running instance at one count; and until every replica stands at the count of an
event, it waits. Stitches, SRAM errors and reintegration (R88, R143 to R150): three equal stitches of a window are its
majority; a different one makes its replica odd; so does a missing one, and an uncorrectable SRAM error, which shows
on a tile that takes no part in the cycle too; a corrected one is counted; a verified copy puts the replica back into
service with the source's state and saved task contexts, and one that fails its digest is odd. Where the rules leave a
point open it states the model's own choices: log entries 49, 50, 54, 62 and 143. -/
def Obligations.VoterStitchesAndReintegration : Prop :=
  (∀ (s : State) (t : Fin 144) (r q : Fin 3) (e f : Effect) (es : List Effect) (run rel : TaskRun) (p : PartImg),
     s.dev.mgmt.staged = [] → s.dev.committed = false →
     let d0 := s.dev
     let x := d0.tile t.val
     (TriadQuiet s t → (x.rep r).outbox = e :: es → x.next ≤ e.idx → Answers (.voterEntry t r) s fun d =>
       d = { d0 with tiles := d.tiles } ∧ (∀ u : Nat, u ≠ t.val → d.tile u = d0.tile u) ∧
         d.tile t.val = { (x.setRep r { x.rep r with outbox := es, given := e.idx + 1 }) with voter := [(r.val, e)] }) ∧
     (d0.tileLive t.val = true → d0.rd (R.TILE_STATUS_REP_IN t.val) = 7 → x.ended = false → q ≠ r → x.voter = [(q.val, f)] →
       f.idx = x.next → (x.rep r).outbox = e :: es → e.same f = true → e.kind = 1 → e.abort = f.abort →
       (∀ k : Fin 3, x.next < (x.rep k).given + 64) → Answers (.voterEntry t r) s fun d =>
         (d.tile t.val).staged = x.staged ++ [e] ∧ (d.tile t.val).next = x.next + 1 ∧ (d.tile t.val).voter = [] ∧
           d = { d0 with tiles := d.tiles }) ∧
     (d0.tileLive t.val = true → d0.rd (R.TILE_STATUS_REP_IN t.val) = 3 → x.voter = [(0, f)] → f.idx = x.next →
       (x.rep 1).outbox = e :: es → e.idx = f.idx → e.same f = false → Answers (.voterEntry t 1) s fun d =>
         d.rd (R.TILE_STATUS_STOPPED t.val) = 1 ∧ d.rd (R.TILE_FAULT_DUPLEX_STOP t.val) = 1 ∧ d.role = .stopped) ∧
     (d0.tileLive t.val = true → x.voter = [(r.val, f)] → f.idx = x.next → x.issued = [] →
       Answers (.voterTimeout t) s fun d => d.rd (R.TILE_STATUS_STOPPED t.val) = 1 ∧ d.role = .stopped) ∧
     (TriadQuiet s t → x.stitches = [] → x.issued = [e] → (x.rep r).given ≤ e.idx → (∀ k : Fin 3, k ≠ r → e.idx < (x.rep k).given) →
       Answers (.voterTimeout t) s fun d => FoundOdd d0 d t r 2) ∧
     (∀ v : TileEvent, TriadQuiet s t → x.stitches = [] → x.event = some v → (x.rep r).retired < v.count →
       Answers (.eventTimeout t r) s fun d => FoundOdd d0 d t r 6) ∧
     (∀ v : TileEvent, TriadQuiet s t → x.event = some v → (x.rep r).retired < v.count →
       Answers (.eventDelivery t) s (· = d0)) ∧
     (TriadQuiet s t → d0.on R.CYCLE_STATUS_FALLBACK = true → x.event = none → x.current = some run → d0.partOf t.val = some p →
       x.nextRun p = some rel → taskRank p rel.task < taskRank p run.task → (p.task rel.task).isSome = true →
       (∀ k : Fin 3, (x.rep k).retired = (x.rep 0).retired ∧ (x.rep k).core.running = true) →
       Answers (.eventDelivery t) s fun d =>
         (∃ c, (d.tile t.val).current = some c ∧ c.task = rel.task) ∧
           (∃ o ∈ (d.tile t.val).preempted, o.task = run.task ∧ o.cores = [x.repA.core, x.repB.core, x.repC.core] ∧
             o.staged = x.staged) ∧ d.regs = d0.regs)) ∧
  (∀ (s : State) (t : Fin 144) (r q : Fin 3) (w : Nat) (v z : DWord) (rest : List (Nat × DWord)) (im : Image),
     let d0 := s.dev
     let x := d0.tile t.val
     (TriadQuiet s t → d0.rd (R.TILE_STATUS_ROLE t.val) = 1 → x.stitches = [(0, w, v), (1, w, v)] →
       (x.rep 2).closed = (w, v) :: rest → Answers (.stitchDeliver t 2) s fun d =>
         d.tile t.val = { (x.setRep 2 { x.rep 2 with closed := rest }) with
           stitches := [], majority := x.majority ++ [(w, v)] } ∧ d = { d0 with tiles := d.tiles }) ∧
     (TriadQuiet s t → d0.rd (R.TILE_STATUS_ROLE t.val) = 1 → x.stitches = [(0, w, v), (1, w, v)] → z ≠ v →
       (x.rep 2).closed = (w, z) :: rest → Answers (.stitchDeliver t 2) s fun d => FoundOdd d0 d t 2 1 ∧
         (d.tile t.val).majority = x.majority ++ [(w, v)] ∧ d.rd (R.TILE_FAULT_STITCH_MISMATCH t.val) = 1) ∧
     (TriadQuiet s t → x.stitches = [(0, w, v), (1, w, v)] → Answers (.stitchTimeout t 2) s fun d =>
       FoundOdd d0 d t 2 2 ∧ d.rd (R.TILE_FAULT_VOTER_TIMEOUT t.val) = 1) ∧
     (TriadQuiet s t → x.stitches = [] → Answers (.sramUncorr t r) s fun d =>
       FoundOdd d0 d t r 4 ∧ d.rd (R.TILE_FAULT_SRAM_UNCORR t.val) = 1) ∧
     (d0.lit = true → d0.on (R.TILE_STATUS_POWERED t.val) = true → d0.tileLive t.val = false →
       Answers (.sramUncorr t r) s fun d => SetsOnly d0 d [(R.TILE_FAULT_SRAM_UNCORR t.val, 1)]) ∧
     (d0.lit = true → Answers (.sramCorrected t r) s fun d =>
       SetsOnly d0 d [(eccFld t.val r, min (d0.rd (eccFld t.val r) + 1) 1023)]) ∧
     (d0.tileLive t.val = true → d0.on (R.TILE_STATUS_REINTEGRATING t.val) = true → x.halted = 2 ^ r.val →
       d0.rd (R.TILE_STATUS_REP_IN t.val) = 7 - 2 ^ r.val → q = (if r = 0 then 1 else 0) →
       (let back (d : Dev) : Prop :=
         (d.tile t.val).rep r = (x.rep r).copyFrom (x.rep q) ∧ (d.tile t.val).halted = 0 ∧
           (d.tile t.val).preempted = x.preempted.map (·.copyCore r q) ∧
           d.rd (R.TILE_STATUS_REP_IN t.val) = 7 ∧ d.rd (R.TILE_STATUS_REINTEGRATING t.val) = 0 ∧
           d.rd R.TRIAD_REINT_COUNT = min (d0.rd R.TRIAD_REINT_COUNT + 1) 65535 ∧ d.role = d0.role
        (d0.rd (R.TILE_STATUS_ROLE t.val) = 1 → Answers (.reintegrationDone t true) s back) ∧
        (d0.rd (R.TILE_STATUS_ROLE t.val) = 1 → x.odd = [] → d0.on (R.TILE_STATUS_STOPPED t.val) = false →
         Answers (.reintegrationDone t false) s fun d => d.rd R.TRIAD_LAST_CAUSE = 7 ∧
           d.rd R.TRIAD_LAST_REPLICA = 2 ^ r.val ∧ (d.tile t.val).halted = 2 ^ r.val ∧
           d.rd (R.TILE_STATUS_REP_IN t.val) = 7 - 2 ^ r.val) ∧
        (d0.rd (R.TILE_STATUS_ROLE t.val) = 2 → (d0.runningSlot t.val).isNone = true → d0.hrn.image = some im →
         Answers (.loopReintegrationDone t true) s fun d => back d ∧
           ∀ i ∈ im.slots, i.tile = d0.rd (R.TILE_POS_LOGICAL t.val) →
             (d.slot i.num).rep r = (d0.slot i.num).rep q))))

/-! ### Harness slots and staging (chapter 04) -/

/-- Slots over the management plane (R100, R101, R453, R476): a write outside the slot is malformed, one of a slot in use
is refused, and any other lands in the slot, which is WRITING, with an erase intent for each block that it reaches
first; a commit closes them, gives the slot the next store sequence number and runs the checks of R100; a read returns
the slot's bytes, and suspends an erase that runs. Staging and its ends (R104 to R113): a module that does not command
loads an unprotected VALID change for its next start, and one that commands alone loads it beside the running image;
the refusals; partitions that report ready, whose new content passes its DIGEST and is in their shadow reserve; the
time-out; an abort; and the end of a switch, which stores the boot pointer and the switch epoch. Where the rules leave
a point open it states the model's own choices: log entries 36, 37, 38, 39, 41, 45, 139, 140, 141, 142 and 149. -/
def Obligations.SlotsAreWrittenAndStaged : Prop :=
  (∀ (s : State) (q : Req) (k : Fin 4) (off n : Nat) (data : List Byte),
     let d0 := s.dev
     let old := d0.hrnSlot k.val
     let now : HrnSlot := { old with writing := false, committed := true, seq := d0.hrn.lastSeq + 1 }
     let same (d : Dev) : Prop := OnlyAnswered d0 d ∧ d = { d0 with regs := d.regs, mgmt := d.mgmt }
     (256 * 2 ^ 20 < off + data.length → Carries (.slotWrite q k off data) s q 2 0x0302 .badRequest [] [] same) ∧
     (off + data.length ≤ 256 * 2 ^ 20 → d0.slotInUse k.val = true →
       Carries (.slotWrite q k off data) s q 2 0x0302 (.hrn 6) [] [] same) ∧
     (off + data.length ≤ 256 * 2 ^ 20 → d0.slotInUse k.val = false → d0.poolEmpty = false →
       Carries (.slotWrite q k off data) s q 2 0x0302 .ok [] (slotFlds k.val) fun d =>
         let erased := if old.writing then old.erased else []
         OnlyAnswered d0 d ∧
         d = { d0 with regs := d.regs, mgmt := d.mgmt, hrn := { d0.hrn with slots := d.hrn.slots },
                       life := { d0.life with intents := d0.life.intents ++
                         ((blocksAt off data.length).filter fun b => !erased.contains b).map fun b => 64 + 256 * k.val + b } } ∧
         (∀ j : Nat, j ≠ k.val → d.hrnSlot j = d0.hrnSlot j) ∧ d.rd (R.HRN_SLOT_STATE k.val) = 3 ∧
         d.hrnSlot k.val = { old with
           bytes := (d.hrnSlot k.val).bytes, writing := true, committed := false, erase := false, checked := false
           erased := (d.hrnSlot k.val).erased } ∧
         (∀ b : Nat, b ∈ (d.hrnSlot k.val).erased ↔ b ∈ erased ∨ b ∈ blocksAt off data.length) ∧
         ∀ a : Nat, Memory.read (d.hrnSlot k.val).bytes a =
           if off ≤ a ∧ a < off + data.length then (data[a - off]?).getD 0 else
             if old.writing then Memory.read old.bytes a else 0) ∧
     (old.writing = false → Carries (.slotCommit q k) s q 2 0x0303 (.named "SLOT_NOT_WRITING") [] [] same) ∧
     (old.writing = true →
       let st := if d0.slotCause now = 0 then Status.ok else .hrn 7
       Carries (.slotCommit q k) s q 2 0x0303 st [] (slotFlds k.val ++ flashFlds) fun d =>
         OnlyAnswered d0 d ∧ d.life.intents = d0.life.intents.filter (fun b => blockHrn b ≠ some k.val) ∧ d.hrn = { d0.hrn with slots := d.hrn.slots, lastSeq := d0.hrn.lastSeq + 1 } ∧
         d.hrnSlot k.val = now ∧ (∀ j : Nat, j ≠ k.val → d.hrnSlot j = d0.hrnSlot j) ∧
         d.rd (R.HRN_SLOT_STATE k.val) = (if d0.slotCause now = 0 then 1 else 2) ∧
         d.rd (R.HRN_SLOT_CAUSE k.val) = d0.slotCause now ∧ d.rd (R.HRN_SLOT_SEQ k.val) = now.seq.toNat % 2 ^ 16) ∧
     (off + n ≤ 256 * 2 ^ 20 →
       Carries (.slotRead q k off n) s q 0 0x0107 .ok (Memory.readBytes old.bytes off n) [R.LIFE_ERASE_SUSPENDS] fun d =>
         same d ∧ d.rd R.LIFE_ERASE_SUSPENDS = (if d0.life.intents = [] then d0.rd R.LIFE_ERASE_SUSPENDS
           else min (d0.rd R.LIFE_ERASE_SUSPENDS + 1) 65535)) ∧
     (256 * 2 ^ 20 < off + n → Carries (.slotRead q k off n) s q 0 0x0107 .badRequest [] [] same)) ∧
  (∀ (s : State) (q : Req) (k : Fin 4) (g : Staged) (part : Nat),
     let d0 := s.dev
     let e := d0.checkSlot k.val
     let new := e.newStaged k.val .load
     let refused (code : Nat) (h : HrnSt) : Prop :=
       Carries (.stage q k) s q 2 0x0304 (.hrn code) [] (R.HRN_STAGE_RESULT :: slotFlds k.val) fun d =>
         d.rd R.HRN_STAGE_RESULT = code ∧ d.hrn = h ∧ OnlyAnswered d0 d
     (d0.role = .standby → refused 10 d0.hrn) ∧
     (d0.role ≠ .standby → d0.hrn.staged = some g → refused 5 d0.hrn) ∧
     (d0.role ≠ .standby → d0.hrn.staged = none → e.slotValid k.val = false → refused 7 e.hrn) ∧
     (d0.role ≠ .standby → d0.hrn.staged = none → e.slotValid k.val = true → d0.changedBy k.val = [] →
       Carries (.stage q k) s q 2 0x0304 (.hrn 4) [] (slotFlds k.val) fun d => d.hrn = e.hrn) ∧
     (d0.role = .stopped → d0.hrn.staged = none → e.slotValid k.val = true → d0.changedBy k.val ≠ [] →
       new.bridle = false → new.security = false →
       Carries (.stage q k) s q 2 0x0304 (.hrn 1) [] (stageFlds ++ markFlds) fun d => StageBegun e d new 2) ∧
     (d0.role = .solo → d0.hrn.staged = none → e.slotValid k.val = true → d0.changedBy k.val ≠ [] → new.cls < 3 →
       new.bridle = false → new.security = false →
       Carries (.stage q k) s q 2 0x0304 (.hrn 1) [] (stageFlds ++ markFlds) fun d =>
         StageBegun e d { new with mode := .alone } (if new.parts = [] then 2 else 1)) ∧
     (d0.hrn.staged = none → Carries (.abortStage q) s q 2 0x0305 .ok [] [] fun d => d.hrn = d0.hrn) ∧
     (d0.hrn.staged = some g → g.switched = true → Carries (.abortStage q) s q 2 0x0305 (.hrn 5) [] [] fun d => d.hrn = d0.hrn) ∧
     (d0.hrn.staged = some g → g.switched = false → (g.mode = .alone ∨ g.mode = .pair ∨ (g.mode = .load ∧ g.phase = .idle)) →
       Carries (.abortStage q) s q 2 0x0305 (.hrn 18) [] (stageFlds ++ markFlds) fun d => StageEnded d0 d 18) ∧
     (d0.alive = true → d0.hrn.staged = some g → g.switched = false → part ∈ g.missing →
       d0.partitionsDigest g.slot = false → Answers (.partitionReady part) s (· = d0)) ∧
     (d0.alive = true → d0.hrn.staged = some g → g.switched = false → part ∈ g.missing →
       d0.partitionsDigest g.slot = true →
       let ready : Staged := { g with ready := g.ready ++ [part] }
       Answers (.partitionReady part) s fun d => d.hrn = { d0.hrn with staged := some ready } ∧
         (∀ p : PartImg, (loadImage (d0.hrnSlot g.slot).bytes).parts.find? (fun x => x.num = part) = some p →
           (d.tile (d0.tileOf p.tile)).loaded = some p) ∧
         SetsOnly { d0 with hrn := d.hrn, tiles := d.tiles } d [(R.HRN_STAGE_STATE,
           if ready.missing = [] ∧ d0.rd R.HRN_STAGE_STATE = 1 then 2 else d0.rd R.HRN_STAGE_STATE)]) ∧
     (d0.alive = true → d0.hrn.staged = some g → g.mode = .alone → g.switched = false →
       g.timeout * 1000000000 ≤ d0.since g.at_ → Answers .stageTimeout s fun d => StageEnded d0 d 15) ∧
     (d0.alive = true → d0.hrn.staged = some g → g.mode = .pair → g.switched = false → g.missing = [] →
       g.partnerReady = false → d0.on R.CYCLE_STATUS_FALLBACK = false → g.timeout * 1000000000 ≤ d0.since g.at_ →
       Answers .stageTimeout s fun d => StageEnded d0 d 10) ∧
     (d0.alive = true → d0.hrn.staged = some g → g.switched = true → Answers .hrnSwitched s fun d =>
       d.hrn = { d0.hrn with staged := none, bootPtr := g.slot, bootEpoch := d0.hrn.epoch } ∧ d.rd R.HRN_STAGE_RESULT = 2 ∧
         Presents d0 d [(.hrnSwitched, source 0 0)]))

/-- A change with a standby (R107, R111 to R114, R199, R214, R241, R324, R337, R338): what the standby hears announced;
its report; the image copied over the girth link in its slot, taken up in shadow where it is VALID and unprotected;
and the end of a reload. Where the rules leave a point open it states the model's own choices: log entries 42, 43, 84,
85 and 159. -/
def Obligations.PairsChangeTogether : Prop :=
  ∀ (s : State) (cycle : DWord) (epoch source serial : Word) (b : Bool) (ch : ScheduleChange) (slotNo : Fin 48)
    (r : Fin 20) (m : MixedState) (g : Staged) (fp : BitVec 128)
    (bytes : List (Nat × Byte)) (as : List SentApproval) (k : Nat) (c : StateCopy) (n : Nat),
    let d0 := s.dev
    let slot : HrnSlot :=
      { bytes := bytes.foldl (fun m x => Memory.write m x.1 x.2) [], committed := true, seq := d0.hrn.lastSeq + 1 }
    let e := d0.putSlot k slot
    d0.alive = true →
    (d0.role = .standby →
      Answers (.switchAnnounce (.schedule cycle ch)) s (fun d =>
        d = { d0 with cycle := { d0.cycle with announced := some (cycle, ch) } }) ∧
      Answers (.switchAnnounce (.command source serial)) s (fun d =>
        d = { d0 with cycle := { d0.cycle with sources := journalSerial d0.cycle.sources source serial } } ∧
          ∃ x ∈ d.cycle.sources, x.client = source ∧ serial ∈ x.accepted) ∧
      Answers (.switchAnnounce (.loopReset slotNo cycle)) s (fun d =>
        d.slot slotNo.val = { d0.slot slotNo.val with resetFrom := some cycle } ∧
          d = { d0 with loop := { d0.loop with slots := d.loop.slots } }) ∧
      Answers (.switchAnnounce (.mixedState m)) s (fun d => d = { d0 with twin := { d0.twin with mixedState := some m } }) ∧
      Answers (.switchAnnounce (.swap cycle b)) s (fun d => d.twin = { d0.twin with swap := some (cycle, b) } ∧
        SetsOnly { d0 with twin := d.twin } d
          [(R.TWIN_SWAP_STATE, 1), (R.TWIN_SWAP_HOLD, bit b), (R.TWIN_SWAP_CYCLE, cycle.toNat % 2 ^ 32)]) ∧
      (d0.hrn.staged = some g → g.mode = .shadow → g.switched = false →
        Answers (.switchAnnounce (.harness cycle epoch)) s (fun d =>
          d = { d0 with hrn := { d0.hrn with staged := some { g with announcedFor := some cycle } },
                        twin := { d0.twin with switchAt := some (cycle, epoch) } }) ∧
        Answers (.switchAnnounce (.abort r)) s (fun d => StageEnded d0 d r.val))) ∧
    (d0.role = .active → d0.hrn.staged = some g → g.mode = .pair → g.fp = fp → g.switched = false → g.swapped = false →
      Answers (.standbyReadyReport fp .ready) s (fun d =>
        d = { d0 with hrn := { d0.hrn with staged := some { g with partnerReady := true } } }) ∧
      Answers (.standbyReadyReport fp .approvalNeeded) s (fun d => StageEnded d0 d 12) ∧
      Answers (.standbyReadyReport fp .keeperRequired) s (fun d => StageEnded d0 d 13)) ∧
    (d0.role = .standby → d0.on R.TWIN_STATUS_GIRTH_UP = false → Answers (.standbyImageCopied bytes as) s (· = d0)) ∧
    (d0.role = .standby → d0.on R.TWIN_STATUS_GIRTH_UP = true → d0.hrn.staged = none → d0.copySlot = some k → k < 4 →
      (d0.slotCause slot ≠ 0 → Answers (.standbyImageCopied bytes as) s fun d =>
        d.hrn = { d0.hrn with slots := d.hrn.slots, lastSeq := d0.hrn.lastSeq + 1 } ∧ d.hrnSlot k = slot ∧
          d.rd (R.HRN_SLOT_STATE k) = 2 ∧ d.rd (R.HRN_SLOT_CAUSE k) = d0.slotCause slot ∧
          OtherFields d0 d (slotFlds k ++ flashFlds)) ∧
      (d0.slotCause slot = 0 → e.changedBy k ≠ [] → (e.newStaged k .shadow).cls < 3 →
        (e.newStaged k .shadow).bridle = false → (e.newStaged k .shadow).security = false →
        Answers (.standbyImageCopied bytes as) s fun d => d.hrnSlot k = slot ∧
          d.hrn.staged = some (e.newStaged k .shadow) ∧ d.rd R.HRN_STAGE_RESULT = 1 ∧
          d.rd R.HRN_STAGE_STATE = (if (e.newStaged k .shadow).parts = [] then 2 else 1))) ∧
    (d0.role = .starting → d0.hrn.staged = some g → d0.power.start.loaded = true → d0.pathLive true = true →
      d0.on R.TWIN_STATUS_IDENT_CLASH = false →
      (g.phase = .back n → n < 256 → Answers (.successorReloadDone c) s fun d => d.role = .standby ∧
        d.hrn = { d0.hrn with staged := none } ∧ d.rd R.HRN_STAGE_RESULT = n ∧ d.rd R.TWIN_STATUS_MIXED = 0) ∧
      (g.phase = .reloading → g.mode = .first → Answers (.successorReloadDone c) s fun d => d.role = .standby ∧
        d.hrn = { d0.hrn with staged := none, bootPtr := d0.hrn.slot, epoch := d0.hrn.epoch + 1,
                              bootEpoch := d0.hrn.epoch + 1 } ∧ d.rd R.HRN_STAGE_RESULT = 2) ∧
      (g.phase = .reloading → g.mode = .follow → Answers (.successorReloadDone c) s fun d => d.role = .standby ∧
        d.hrn = { d0.hrn with staged := some { g with phase := .successor } } ∧ d.rd R.HRN_STAGE_RESULT = 19 ∧
        d.rd R.TWIN_STATUS_MIXED = 1 ∧ d.rd R.TWIN_MIXED_OLDER = 0))

/-! ### Twin operation (chapter 12) -/

/-- Heartbeats and their loss (R317 to R323, R331 to R333, R356): what the 48 bytes of a heartbeat say; a frame with an
error, and one on a ring without a key; a partner in STANDBY with the same image is shown and eligible; the own
identity on the girth is a clash; a commanding partner of higher rank, and silence of both rings in command, make the
module yield; one silent path is reported; with both silent an eligible STANDBY takes over with the next epoch and one
that is not eligible stops. Where the rules leave a point open it states the model's own choices: log entries 80, 83
and 88. -/
def Obligations.HeartbeatsKeepTheTwinsInRank : Prop :=
  ∀ (s : State) (b : Beat) (delay : Byte), s.dev.alive = true →
    let d0 := s.dev
    let saidBy (x : Beat) (seq : Nat) : Prop :=
      x.role = d0.role.code ∧ x.side = d0.rd R.SADDLE_SIDE ∧ x.pair = d0.rd R.SADDLE_PAIR ∧ x.epoch = d0.twin.epoch ∧
        x.elig = d0.twin.causes ∧ x.seq = seq ∧ x.fp = d0.image.fp ∧ x.time = d0.timeT
    let toStopped (d : Dev) : Prop := d.role = .stopped ∧ d.twin.yielded = true ∧ d.twin.swap = none ∧
      d.rd R.TWIN_STATUS_YIELDED = 1 ∧ d.rd R.TWIN_LAST_TAKEOVER_CAUSE = 3 ∧
      d.rd R.TWIN_DUAL_CMD_YIELDS = min (d0.rd R.TWIN_DUAL_CMD_YIELDS + 1) 65535 ∧
      ∃ rec ∈ d.evrec.presented, rec.code = .dualActiveYield
    (d0.committed = false → d0.conn.identified = true → d0.role.runs = false → Answers .heartbeatSend s fun d =>
      (∃ x, d.twin = { d0.twin with sentGirth := beatBytes x, sendSeqGirth := (d0.twin.sendSeqGirth + 1) % 65536 } ∧
        saidBy x d0.twin.sendSeqGirth) ∧ d = { d0 with twin := d.twin }) ∧
    (d0.committed = false → d0.conn.identified = true → d0.role.runs = true → Answers .heartbeatSend s fun d =>
      (∃ x y, d.twin = { d0.twin with
          sentGirth := beatBytes x, sendSeqGirth := (d0.twin.sendSeqGirth + 1) % 65536
          sentRing := beatBytes y, sendSeqRing := (d0.twin.sendSeqRing + 1) % 65536 } ∧
        saidBy x d0.twin.sendSeqGirth ∧ saidBy y d0.twin.sendSeqRing) ∧
      Sets d0 d [(R.RING_HB_TX 0, (d0.rd (R.RING_HB_TX 0) + 1) % 2 ^ 16), (R.RING_HB_TX 1, (d0.rd (R.RING_HB_TX 1) + 1) % 2 ^ 16),
        (R.RING_TX_FRAMES 0, (d0.rd (R.RING_TX_FRAMES 0) + 1) % 2 ^ 32),
        (R.RING_TX_FRAMES 1, (d0.rd (R.RING_TX_FRAMES 1) + 1) % 2 ^ 32)]) ∧
    Answers (.girthLinkTrained delay) s (fun d =>
      SetsOnly d0 d [(R.TWIN_GIRTH_LINK_UP, 1), (R.TWIN_GIRTH_DELAY, delay.toNat)]) ∧
    (b.checkOk = false → Answers (.heartbeat 0 b) s fun d =>
      Sets d0 d [(R.TWIN_GIRTH_FRAME_ERR, min (d0.rd R.TWIN_GIRTH_FRAME_ERR + 1) 65535)] ∧
        d = { d0 with regs := d.regs, twin := { d0.twin with girthErrAt := some d0.now } }) ∧
    (∀ k : Fin 2, b.checkOk = true → d0.on (R.RING_STATUS_SECURED k.val) = false → Answers (.heartbeat k.succ b) s fun d =>
      d = { d0 with ring := d.ring } ∧ d.ring.validAt = d0.ring.validAt) ∧
    (b.checkOk = true → d0.conn.identified = true → b.pair = d0.rd R.SADDLE_PAIR →
      (b.side ≠ d0.rd R.SADDLE_SIDE → d0.role = .active → b.role = 2 → b.fp = d0.image.fp →
        b.fwMajor = d0.rd R.FW_VERSION_MAJOR → b.safeSet = d0.safety.set → b.elig = 0 →
        d0.on R.TWIN_STATUS_IDENT_CLASH = false → d0.on R.TWIN_STATUS_MIXED = false → d0.hrn.staged = none →
        d0.power.start.listening = false → d0.power.start.waitingA = false → Answers (.heartbeat 0 b) s fun d =>
          d.rd R.TWIN_PARTNER_EPOCH = b.epoch.toNat ∧ d.rd R.TWIN_PARTNER_STATE_ROLE = 2 ∧
          d.rd R.TWIN_STATUS_PARTNER_SEEN = 1 ∧ d.rd R.TWIN_STATUS_GIRTH_UP = 1 ∧ d.rd R.TWIN_GIRTH_ON_RING = 0 ∧
          d.rd R.TWIN_STATUS_ELIGIBLE = 1 ∧ d.rd R.TWIN_ELIG_CAUSES = 0 ∧ d.twin.girthAt = some d0.now ∧
          (∀ k ∈ [0, 1, 2, 8], testBit d.twin.causes k = false) ∧ d = { d0 with regs := d.regs, twin := d.twin }) ∧
      (b.side = d0.rd R.SADDLE_SIDE → d0.role = .active → d0.on R.TWIN_STATUS_IDENT_CLASH = false →
        d0.power.start.listening = false → Answers (.heartbeat 0 b) s fun d =>
          d.rd R.TWIN_STATUS_IDENT_CLASH = 1 ∧ testBit d.twin.causes 7 = true ∧ d.role = .active ∧
            Presents d0 d [(.identClash, source 13 0)]) ∧
      (b.side ≠ d0.rd R.SADDLE_SIDE → d0.role.commanding = true → b.role = 1 → later b.epoch d0.twin.epoch = true →
        d0.on R.TWIN_STATUS_MIXED = false → d0.hrn.staged = none → d0.mgmt.staged = [] → d0.committed = false →
        Answers (.heartbeat 0 b) s toStopped)) ∧
    (d0.role.commanding = true → d0.image.header.pairMode = 1 → 100000 ≤ d0.since d0.twin.commandSince →
      (∀ c, d0.ring.validAt = some c → 100000 ≤ d0.since c) → d0.hrn.staged = none → d0.mgmt.staged = [] →
      d0.committed = false → Answers .ringRxSilent s toStopped) ∧
    (d0.on R.TWIN_STATUS_GIRTH_UP = true → d0.pathLive true = false → d0.pathLive false = true → d0.role.commanding = true →
      Answers (.pathSilent 0) s fun d =>
        SetsAndTells d0 d [(R.TWIN_STATUS_GIRTH_UP, 0), (R.TWIN_GIRTH_LINK_UP, 0), (R.TWIN_GIRTH_ON_RING, 1),
          (R.TWIN_HB_MISS_GIRTH_SILENT, min (d0.rd R.TWIN_HB_MISS_GIRTH_SILENT + 1) 65535)] [(.girthDown, source 13 0)]) ∧
    (d0.on R.TWIN_STATUS_RING_HB = true → d0.pathLive false = false → d0.pathLive true = true → d0.role.runs = true →
      Answers (.pathSilent 1) s fun d => SetsAndTells d0 d [(R.TWIN_STATUS_RING_HB, 0),
        (R.TWIN_HB_MISS_RING_SILENT, min (d0.rd R.TWIN_HB_MISS_RING_SILENT + 1) 65535)] [(.ringHbLost, source 13 0)]) ∧
    (d0.on R.TWIN_STATUS_GIRTH_UP = true → d0.pathLive true = false → d0.pathLive false = false → d0.role = .standby →
      (d0.twin.causes = 0 → d0.twin.swap = none → d0.hrn.staged = none → Answers (.pathSilent 0) s fun d =>
        d.role = .active ∧ d.twin.epoch = d0.nextEpoch ∧ d.twin.partnerLost = true ∧ d.rd R.TWIN_STATUS_PARTNER_LOST = 1 ∧
          d.rd R.TWIN_LAST_TAKEOVER_CAUSE = 1 ∧
          d.rd R.TWIN_TAKEOVERS_FAILOVERS = min (d0.rd R.TWIN_TAKEOVERS_FAILOVERS + 1) 65535) ∧
      (d0.twin.causes ≠ 0 → d0.mgmt.staged = [] → d0.committed = false → Answers (.pathSilent 0) s fun d => d.role = .stopped ∧
        d.twin.epoch = d0.twin.epoch ∧ ∃ rec ∈ d.evrec.presented, rec.code = .partnerLostIneligible))

/-- The STANDBY in shadow (R324, R326 to R330): a forwarded record whose CRC holds is held; a late one, and summaries that
differ, are a divergence, for which a state copy is due, that starts with the girth link up; summaries that agree are
not; a copy completes or fails; COPY_NOW; and the announced swap and the mixed state's minutes (R337, R338). ROLE_SWAP
on the ACTIVE (R337): with an eligible partner the swap is announced for the cycle after the next; without the girth
path, or without an eligible partner, it is refused. Where the rules leave a point open it states the model's own
choices: log entries 81, 82, 86 and 87. -/
def Obligations.TheStandbyFollowsAndSwaps : Prop :=
  (∀ (s : State) (bytes : List Byte) (busy hold : Bool) (own sum : Summary) (t : Nat) (v w : DWord) (c : StateCopy) (q : Req),
     let d0 := s.dev
     let x := readRecord false bytes
     let n := d0.twin.held.length + 1
     let copyBegun (d : Dev) : Prop := d.twin.copyStarted = d0.now ∧ testBit d.twin.causes 3 = true ∧ d.role = .standby ∧
       d.rd R.TWIN_STATUS_COPYING = d0.rd R.TWIN_STATUS_GIRTH_UP ∧
       (d0.on R.TWIN_STATUS_GIRTH_UP = true → d.rd R.TWIN_COPY_STATE = 1 ∧ d.rd R.TWIN_COPY_PERCENT = 0)
     let diverged (d : Dev) (cause unit : Nat) : Prop := d.rd R.TWIN_DIVERGE_LAST_CAUSE = cause ∧
       d.rd R.TWIN_DIVERGE_LAST_UNIT = unit ∧ d.rd R.TWIN_DIVERGE_COUNT = min (d0.rd R.TWIN_DIVERGE_COUNT + 1) 65535 ∧
       copyBegun d ∧ Presents d0 d [(.twinDiverged, source 13 0)]
     d0.alive = true → d0.role = .standby →
     (x.crcOk = true → d0.on R.CYCLE_STATUS_FALLBACK = true → n ≤ 2 → Answers (.forwardedRecord bytes busy) s fun d =>
       d = { d0 with regs := d.regs, twin := { d0.twin with held := d0.twin.held ++ [x], lastRecordAt := some d0.now } } ∧
         Sets d0 d [(R.TWIN_SHADOW_LAG, n), (R.TWIN_SHADOW_MAX_LAG, max (d0.rd R.TWIN_SHADOW_MAX_LAG) n)]) ∧
     (x.crcOk = false → d0.on R.CYCLE_STATUS_FALLBACK = true → Answers (.forwardedRecord bytes busy) s fun d => d = d0) ∧
     (d0.copyDue = false → d0.twin.lastRecordAt.isSome = true → Answers .forwardLate s fun d =>
       diverged d 5 0xFF ∧ d.rd R.TWIN_FWD_LATE = min (d0.rd R.TWIN_FWD_LATE + 1) 65535) ∧
     (d0.copyDue = false → d0.twin.loopStitches = [] → d0.twin.slotWait = [] → sum.slots = [] →
       d0.twin.ownSummaries = [own] → own.cycle = sum.cycle →
       (own.tiles = sum.tiles → Answers (.stitchSummary sum) s fun d => d.regs = d0.regs ∧ d.twin.ownSummaries = [] ∧
         d = { d0 with twin := d.twin }) ∧
       (own.tiles = [(t, v)] → sum.tiles = [(t, w)] → v ≠ w → t < 144 → d0.on R.TWIN_STATUS_MIXED = false →
         Answers (.stitchSummary sum) s fun d => diverged d 1 t ∧
           (∀ k : Nat, k < 5 → d.rd (R.TWIN_DIV_TILES k) = if k = t / 32 then 2 ^ (t % 32) else 0))) ∧
     (d0.copyDue = false → d0.twin.ownSummaries = [] → Answers (.stitchSummary sum) s fun d =>
       d = { d0 with twin := { d0.twin with summaries := d0.twin.summaries ++ [sum] } }) ∧
     (d0.on R.TWIN_STATUS_COPYING = true → d0.on R.TWIN_STATUS_GIRTH_UP = false → Answers (.stateCopyDone c) s (· = d0)) ∧
     (d0.on R.TWIN_STATUS_COPYING = true → d0.on R.TWIN_STATUS_GIRTH_UP = true → Answers (.stateCopyDone c) s fun d =>
       d.rd R.TWIN_COPY_STATE = 2 ∧ d.rd R.TWIN_COPY_PERCENT = 100 ∧ d.rd R.TWIN_STATUS_COPYING = 0 ∧
         d.rd R.TWIN_COPY_COUNT = min (d0.rd R.TWIN_COPY_COUNT + 1) 65535 ∧ testBit d.twin.causes 3 = false ∧
         testBit d.twin.causes 4 = false ∧ d.cycle.num = c.cycle + 1 ∧ d.twin.shadow = some c.cycle ∧
         d.cycle.copy = c.retain ∧ d.role = .standby) ∧
     (d0.on R.TWIN_STATUS_COPYING = true → Answers .stateCopyFailed s fun d => copyBegun d ∧
       (d0.on R.TWIN_STATUS_GIRTH_UP = false → d.rd R.TWIN_COPY_STATE = 3) ∧ Presents d0 d [(.stateCopyFailed, source 13 0)]) ∧
     Answers .copyNow s copyBegun ∧
     (d0.on R.TWIN_STATUS_MIXED = true → Answers .mixedMinute s fun d =>
       SetsOnly d0 d [(R.TWIN_MIXED_REMAIN_MIN, d0.rd R.TWIN_MIXED_REMAIN_MIN - 1)]) ∧
     (d0.on R.TWIN_STATUS_MIXED = true → d0.on R.TWIN_MIXED_OLDER = true → d0.rd R.TWIN_MIXED_REMAIN_MIN = 0 →
       d0.on R.TWIN_MIXED_EXPIRED = false → Answers .successorExpired s fun d =>
         Sets d0 d [(R.TWIN_MIXED_EXPIRED, 1)] ∧ d.twin = { d0.twin with mixedAt := d0.now } ∧
           Presents d0 d [(.successorExpired, source 13 0)]) ∧
     Carries (.roleSwap q hold) s q 2 0x0306 (.hrn 10) [] [] (fun d => d.twin = d0.twin)) ∧
  (∀ (s : State) (q : Req) (hold : Bool), s.dev.role = .active →
     let d0 := s.dev
     let n := d0.cycle.num + 2
     (d0.on R.TWIN_STATUS_GIRTH_UP = false → Carries (.roleSwap q hold) s q 2 0x0306 (.hrn 11) [] [] fun d => d.twin = d0.twin) ∧
     (d0.on R.TWIN_STATUS_GIRTH_UP = true → d0.on R.TWIN_STATUS_ELIGIBLE = false →
       Carries (.roleSwap q hold) s q 2 0x0306 (.hrn 10) [] [] fun d => d.twin = d0.twin) ∧
     (d0.on R.TWIN_STATUS_GIRTH_UP = true → d0.on R.TWIN_STATUS_ELIGIBLE = true →
       Carries (.roleSwap q hold) s q 2 0x0306 .ok [] [R.TWIN_SWAP_STATE, R.TWIN_SWAP_HOLD, R.TWIN_SWAP_CYCLE] fun d =>
         d.twin = { d0.twin with swap := some (n, hold) } ∧ d.rd R.TWIN_SWAP_STATE = 1 ∧ d.rd R.TWIN_SWAP_HOLD = bit hold ∧
           d.rd R.TWIN_SWAP_CYCLE = n.toNat % 2 ^ 32 ∧ d.role = .active))

/-! ### The control cycle (chapter 08) -/

/-- Boundaries (R186, R187, R191, R194 to R199): a boundary that is due ends the cycle, measures it and begins the next;
the third cycle in a row beyond CYCLE_LIMIT enters the fall-back schedule; a base-period boundary releases; the return
leaves the schedule; a write of `MOD.CYCLE_CTRL`, which abandons a return; and the task watchdog ends an overdue
instance on every replica once all stand at one retired-instruction count. Plant commands (R213 to R216, R223): a
malformed one and one to a module that does not command are refused; one of a new source is accepted and queued; the
journal's word lets it go or refuses it; and the standby's acknowledgement. Where the rules leave a point open it
states the model's own choices: log entries 51, 52, 55, 85, 119 and 146. -/
def Obligations.CyclesAndPlantCommands : Prop :=
  (∀ (s : State) (busy : Bool) (v : Word) (t : Fin 144) (p : PartImg) (run : TaskRun),
     let d0 := s.dev
     let ns := d0.since d0.cycle.startedAt
     let limit := d0.image.limitUs * 1000
     let plain : Prop := d0.role = .solo ∧ d0.mgmt.staged = [] ∧ d0.hrn.staged = none ∧ d0.twin.swap = none ∧
       d0.time.restartAtBoundary = false ∧ d0.on R.CYCLE_CTRL_FORCE_FALLBACK = false ∧ d0.on R.TWIN_STATUS_COPYING = false
     (plain → d0.boundaryDue = true → d0.cycle.began = true → ns ≤ limit → Answers (.cycleBoundary busy) s fun d =>
       d.cycle.num = d0.cycle.num + 1 ∧ d.cycle.began = true ∧ d.cycle.startedAt = d0.now ∧ d.cycle.completed = true ∧
         d.rd R.CYCLE_LAST = min ns (2 ^ 32 - 1) ∧ d.rd R.CYCLE_MAX = max (d0.rd R.CYCLE_MAX) (min ns (2 ^ 32 - 1)) ∧
         d.rd R.CYCLE_STATUS_OVER_COUNT = 0 ∧ d.role = .solo ∧ d.on R.CYCLE_STATUS_FALLBACK = false ∧
         ∀ u ∈ d0.tilesIn 1, (d.tile u).awaitRound = true ∧ (d.tile u).next = 0 ∧ (d.tile u).majority = []) ∧
     (plain → d0.boundaryDue = true → d0.cycle.began = true → limit < ns → d0.rd R.CYCLE_STATUS_OVER_COUNT = 2 →
       Answers (.cycleBoundary busy) s fun d => d.rd R.CYCLE_STATUS_FALLBACK = 1 ∧ d.rd R.CYCLE_STATUS_FORCED = 0 ∧
         d.rd R.CYCLE_STATUS_OVER_COUNT = 3 ∧ d.cycle.began = false ∧ d.cycle.bases = 0 ∧ d.role = .solo ∧
         ∃ rec ∈ d.evrec.presented, rec.code = .fallbackEntered) ∧
     (d0.boundaryDue = false → Answers (.cycleBoundary busy) s fun d => d = d0) ∧
     (plain → d0.alive = true → d0.cycle.running = true → d0.on R.CYCLE_STATUS_FALLBACK = true → d0.committed = false →
       d0.on R.CYCLE_STATUS_RETURNING = false → d0.image.returnEn = false → Answers (.basePeriodBoundary busy) s fun d =>
         d.cycle.num = d0.nextNum ∧ d.cycle.bases = (if d0.cycle.began then d0.cycle.bases + 1 else 0) ∧
           d.cycle.began = true ∧ d.cycle.lastRelease = d0.now ∧ d.role = .solo ∧
           ∀ u ∈ d0.tilesIn 1, (d.tile u).awaitRound = true) ∧
     (plain → d0.alive = true → d0.on R.CYCLE_STATUS_FALLBACK = true → d0.on R.CYCLE_STATUS_RETURNING = true →
       d0.returnLate = false → (∀ u ∈ d0.tilesIn 1, (d0.tile u).idle = true) → Answers (.fallbackLeft busy) s fun d =>
         d.rd R.CYCLE_STATUS_FALLBACK = 0 ∧ d.rd R.CYCLE_STATUS_RETURNING = 0 ∧ d.rd R.CYCLE_STATUS_FORCED = 0 ∧
           d.cycle.num = d0.nextNum ∧ ∃ rec ∈ d.evrec.presented, rec.code = .fallbackLeft) ∧
     (d0.alive = true → v.getLsbD 1 = false → d0.on R.CYCLE_STATUS_RETURNING = false → Answers (.forceFallback v) s fun d =>
       SetsOnly d0 d [(R.CYCLE_CTRL_FORCE_FALLBACK, v.toNat % 2)]) ∧
     (d0.alive = true → v.getLsbD 1 = false → v.getLsbD 0 = true → d0.role ≠ .standby → Answers (.forceFallback v) s fun d =>
       d.rd R.CYCLE_CTRL_FORCE_FALLBACK = 1 ∧ d.rd R.CYCLE_STATUS_RETURNING = 0 ∧
         (d0.on R.CYCLE_STATUS_RETURNING = true → d.cycle.below = 0 ∧
           (d0.role = .active → d.cycle.announced = some (d0.nextNum, .resume)))) ∧
     (d0.tileLive t.val = true → d0.partOf t.val = some p → (d0.tile t.val).current = some run → d0.overdue p run = true →
       (d0.tile t.val).ended = false → (d0.tile t.val).event = none → (∃ r ∈ d0.serving t.val, ((d0.tile t.val).rep r).core.running = true) →
       ((∃ r ∈ d0.serving t.val, ((d0.tile t.val).rep r).retired < d0.topCount t.val) → Answers (.taskWatchdog t) s fun d =>
         d = { d0 with tiles := d.tiles } ∧ (∀ u : Nat, u ≠ t.val → d.tile u = d0.tile u) ∧
           d.tile t.val = { d0.tile t.val with event := some ⟨d0.topCount t.val, some run.task⟩ }) ∧
       ((∀ r ∈ d0.serving t.val, ((d0.tile t.val).rep r).retired = d0.topCount t.val ∧ (d0.tile t.val).unissued r < 16) →
        Answers (.taskWatchdog t) s fun d =>
         d.rd R.CYCLE_STATUS_WATCHDOG = 1 ∧ (d.tile t.val).todo = [] ∧ (d.tile t.val).event = none ∧ d.role = d0.role ∧
           Presents d0 d [(.taskWatchdog, source 1 t.val)] ∧ (∀ u : Nat, u ≠ t.val → d.tile u = d0.tile u) ∧
           (∃ e ∈ d.cycle.waiting, e.part = some p.num ∧ e.code = 2 ∧ e.task = run.task) ∧
           ∀ r ∈ d0.serving t.val, ((d.tile t.val).rep r).core.running = false ∧ ((d.tile t.val).rep r).storeBuf = [] ∧
             ∃ e : Effect, ((d.tile t.val).rep r).outbox = ((d0.tile t.val).rep r).outbox ++ [e] ∧ e.kind = 0x0F ∧
               e.abort = some (run.task, 256)))) ∧
  (∀ (s : State) (q : Req) (body : List Byte) (src ser : Word) (c : PlantCmd),
     let d0 := s.dev
     (body.length ≠ 60 → Carries (.plantCommand q body) s q 1 0x0201 .badRequest [] [] fun d => d.cycle = d0.cycle) ∧
     (cmdMalformed body = false → d0.role.commanding = false →
       Carries (.plantCommand q body) s q 1 0x0201 (.named "NOT_ACTIVE") [] [] fun d => d.cycle = d0.cycle) ∧
     (cmdMalformed body = false → d0.role.commanding = true → (∃ p ∈ d0.image.parts, p.num = cmdPart body) →
       (∀ x ∈ d0.cycle.sources, x.client ≠ q.client) → d0.cycle.sources.length < 256 → d0.cycle.queue = [] →
       d0.cycle.inbox = [] → FreshRequest s q 1 → Answers (.plantCommand q body) s fun d =>
         (∃ x, d.mgmt.response = some x ∧ x.status = .named "ACCEPTED" ∧ x.client = q.client ∧ x.id = q.id) ∧
         (∃ x ∈ d.mgmt.running, x.client = q.client ∧ x.id = q.id) ∧
         (∃ x, d.cycle.queue = [x] ∧ x.source = q.client ∧ x.serial = cmdSerial body ∧ x.part = cmdPart body ∧
           x.code = leNat ((body.drop 6).take 2) ∧ x.args = body.drop 12 ∧ x.journalled = false ∧ x.acked = false) ∧
         Sets d0 d [(R.CMD_STATUS_ACCEPTED, min (d0.rd R.CMD_STATUS_ACCEPTED + 1) 65535), (R.CMD_STATUS_QUEUED, 1)]) ∧
     (d0.cycle.queue = [c] → c.source = src → c.serial = ser → c.journalled = false → d0.poolEmpty = false →
       Answers (.commandJournalWritten src ser true) s (fun d =>
         d = { d0 with cycle := { d0.cycle with queue := [{ c with journalled := true }] } }) ∧
       Answers (.commandJournalWritten src ser false) s (fun d => d.cycle.queue = [] ∧
         d.rd R.CMD_STATUS_JOURNAL_FAULT = 1 ∧ d.rd R.CMD_STATUS_QUEUED = 0 ∧
         ∀ x ∈ d.cycle.sources, x.client = src → ser ∉ x.accepted)) ∧
     (d0.cycle.queue = [c] → c.source = src → c.serial = ser → Answers (.commandAck src ser) s fun d =>
       d = { d0 with cycle := { d0.cycle with queue := [{ c with acked := true }] } }))

/-! ### The field rings (chapter 13) -/

/-- Periods and frames of the field rings (R343 to R351, R354, R356, R361): a period closes with its load and, in command,
sends SYNC and every station's OUTPUT frame; an INPUT frame is accepted when it is later than the last one, and
counted when it has an error, is a duplicate or is earlier; a station that obeys a higher rank makes the module yield;
without the key of the association no frame is valid; a frame of another is forwarded; a publication is taken from the
highest rank of its pair; and a silent station drops out. Where the rules leave a point open it states the model's own
choices: log entries 91, 92, 93, 94, 129 and 145. -/
def Obligations.RingFramesAreSentAndAccepted : Prop :=
  ∀ (s : State) (k : Fin 2) (f : RingFrame) (e : StationImg) (l : Word) (r : Word × Bool), s.dev.alive = true →
    let d0 := s.dev
    let T := d0.timeT.toNat
    let n := e.number
    let x := d0.ring.station n
    let p (d : Dev) (j : Fin 2) : RingPort := d.ring.port j.val
    let stored (d : Dev) (data : List Byte) : Prop :=
      let y := d.ring.station n
      if d0.roundNames n = true ∧ 4 ≤ x.frames.length then y.frames = x.frames ∧ y.held = (f.seq, data) :: x.held
      else y.frames = ((f.seq, data) :: (x.held ++ x.frames)).take 4 ∧ y.held = []
    let closed (d : Dev) (j : Fin 2) : Prop := d.rd (R.RING_LOAD_LAST j.val) = min (p d0 j).bytes 65535 ∧
      (60000 < (p d0 j).bytes → d.rd (R.RING_STATUS_OVERLOAD j.val) = 1) ∧ (p d j).heard = [] ∧
      d.rd (R.RING_STATUS_LINK_UP j.val) = bit (p d0 j).received ∧ (p d j).received = false
    ((d0.role.commanding = false ∨ d0.committed = true) → Answers .ringPeriod s fun d =>
      closed d 0 ∧ closed d 1 ∧ d.ring.sent = [] ∧ (p d k).bytes = 0) ∧
    (d0.role.commanding = true → d0.committed = false → d0.on R.TWIN_STATUS_GIRTH_UP = true → Answers .ringPeriod s fun d =>
      closed d 0 ∧ closed d 1 ∧ d.rd (R.RING_PERIOD k.val) = T / 62500 % 2 ^ 32 ∧
        d.rd (R.RING_TX_FRAMES k.val) = (d0.rd (R.RING_TX_FRAMES k.val) + d.ring.sent.length) % 2 ^ 32 ∧
        (∃ y ys, d.ring.sent = y :: ys ∧ y.station = 0 ∧ y.seq = w32 (T / 62500) ∧
          y.payload = [1, 0, 0, 0] ++ leBytes 4 d0.twin.epoch.toNat ++ leBytes 8 (T / 62500 * 62500)) ∧
        (∀ i ∈ d0.stations.entries, (i.kind = 1 ∨ i.kind = 2) → i.outLen ≠ 0 → ∃ y ∈ d.ring.sent,
          y.station = BitVec.ofNat 8 i.number ∧ y.payload.length = 8 + i.outLen ∧
            y.payload.take 8 = [2, 0] ++ leBytes 2 i.outLen ++ leBytes 4 d0.twin.epoch.toNat)) ∧
    Answers (.inputFrame k .fcs f) s (fun d =>
      Sets d0 d [(R.RING_ERRORS_FCS_ERR k.val, min (d0.rd (R.RING_ERRORS_FCS_ERR k.val) + 1) 65535)] ∧
        d = { d0 with regs := d.regs, ring := d.ring }) ∧
    (d0.on (R.RING_STATUS_SECURED k) = false → Answers (.inputFrame k .good f) s fun d =>
      d.ring.stations = d0.ring.stations ∧ d = { d0 with ring := d.ring }) ∧
    (d0.on (R.RING_STATUS_SECURED k) = true →
      d0.stationEntry f.station.toNat = some e → n = f.station.toNat → 1 ≤ n → n ≤ 126 → e.kind = 1 → ringType f = 3 →
      (d0.role.commanding = false → x.last = none → 16 + e.inLen ≤ f.payload.length →
        Answers (.inputFrame k .good f) s fun d =>
          (d.ring.station n).last = some f.seq ∧ stored d ((f.payload.drop 16).take e.inLen) ∧
          (d.ring.station n).missed = 0 ∧ (d.ring.station n).fresh = true ∧ (d.ring.station n).dropped = false ∧
          d.rd (R.RING_RX_FRAMES k.val) = (d0.rd (R.RING_RX_FRAMES k.val) + 1) % 2 ^ 32 ∧
          d.rd (R.RING_FIRST k.val) = (d0.rd (R.RING_FIRST k.val) + 1) % 2 ^ 32 ∧
          testBit (d.rd (R.RING_USED_MAP k.val (n / 32))) (n % 32) = true ∧
          testBit (d.rd (R.RING_USED_MAP (1 - k.val) (n / 32))) (n % 32) = false ∧
          (∀ m : Nat, m ≠ n → d.ring.station m = d0.ring.station m)) ∧
      (d0.role.commanding = false → x.last = some f.seq → x.dropped = false → Answers (.inputFrame k .good f) s fun d =>
        d.ring.stations = d0.ring.stations ∧ d.rd (R.RING_DUP k.val) = (d0.rd (R.RING_DUP k.val) + 1) % 2 ^ 32) ∧
      (d0.role.commanding = false → x.last = some l → later l f.seq = true → x.dropped = false →
        Answers (.inputFrame k .good f) s fun d => d.ring.stations = d0.ring.stations ∧
          d.rd (R.RING_SEQ_REJECT_EARLIER k.val) = min (d0.rd (R.RING_SEQ_REJECT_EARLIER k.val) + 1) 65535) ∧
      (d0.role.commanding = true → d0.committed = false → x.last = none → testBit (payField f 8 1) 7 = false →
        later (w32 (payField f 4 4)) d0.twin.epoch = true → d0.hrn.staged = none → d0.mgmt.staged = [] →
        Answers (.inputFrame k .good f) s fun d => d.role = .stopped ∧ d.twin.yielded = true ∧
          d.rd R.TWIN_STATUS_YIELDED = 1)) ∧
    (f.source ≠ d0.ringSource → Answers (.ringFrameForward k .good f) s fun d =>
      (p d k).forwarded = some f ∧ (p d k).bytes = (p d0 k).bytes + f.payload.length + 90 ∧ p d (1 - k) = p d0 (1 - k) ∧
        d = { d0 with regs := d.regs, ring := d.ring } ∧ OtherFields d0 d [R.RING_PERIOD k.val, R.RING_RX_FRAMES k.val]) ∧
    (d0.on (R.RING_STATUS_SECURED k) = true → d0.stations.entries = [e] → e.kind = 3 → e.peerPair ≠ 0 → e.peerPair = f.source.toNat / 2 % 8 →
      e.inLen = payField f 2 2 → ringType f = 0x50 → n ≤ 126 →
      (x.rank = none → 8 + e.inLen ≤ f.payload.length → Answers (.peerFrame k .good f) s fun d =>
        (d.ring.station n).rank = some (w32 (payField f 4 4), testBit f.source.toNat 0) ∧
        stored d ((f.payload.drop 8).take e.inLen) ∧ d.rd (R.RING_PEER_RX k.val) = (d0.rd (R.RING_PEER_RX k.val) + 1) % 2 ^ 16) ∧
      (x.rank = some r → later r.1 (w32 (payField f 4 4)) = true → Answers (.peerFrame k .good f) s fun d =>
        d.ring.stations = d0.ring.stations ∧
          d.rd (R.RING_SEQ_REJECT_RANK k.val) = min (d0.rd (R.RING_SEQ_REJECT_RANK k.val) + 1) 65535)) ∧
    (d0.stationEntry n = some e → n ≤ 126 → e.isInput = true → x.dropped = false → e.dropN ≤ x.missed →
      Answers (.stationDropout n) s fun d => (d.ring.station n).dropped = true ∧
        testBit (d.rd (R.RING_DROP_MAP 0 (n / 32))) (n % 32) = true ∧
        testBit (d.rd (R.RING_DROP_MAP 1 (n / 32))) (n % 32) = true ∧
        Presents d0 d [(if d0.substitutes e then .stationDropout else .stationDropoutHeld, source 6 n)])

/-- Breaks, TWIN frames and keys (R352, R353, R355): a ring whose own frames do not return for two periods is broken, and
intact again after sixteen with them; the break is located at the first node that reports its port dead; fragments of
a message are kept by a STANDBY; and a distributed key secures both rings. Where the rules leave a point open it
states the model's own choices: log entries 89, 90, 93 and 95. -/
def Obligations.RingBreaksFragmentsAndKeys : Prop :=
  ∀ (s : State) (k : Fin 2) (kind index peers at_ : Nat) (cycle : DWord) (content : List Byte),
    let d0 := s.dev
    let p (d : Dev) : RingPort := d.ring.port k.val
    let other (d : Dev) : Prop := d.ring.port (1 - k.val) = d0.ring.port (1 - k.val)
    (d0.role.runs = true → 2 ≤ (p d0).silent → (p d0).broken = false → Answers (.ringBreak k) s fun d =>
      p d = { p d0 with broken := true } ∧ other d ∧
        Sets d0 d [(R.RING_STATUS_BROKEN k.val, 1), (R.RING_STATUS_INTACT k.val, 0), (R.RING_BREAK_NODE k.val, 0xFF),
          (R.RING_BREAK_COUNT k.val, min (d0.rd (R.RING_BREAK_COUNT k.val) + 1) 65535),
          (R.RING_BREAK_T k.val, d0.timeT.toNat / 1000 % 2 ^ 32), (R.RING_BREAK_LOCATED k.val, 0)] ∧
        Presents d0 d [(.ringBreak, source 5 k.val)]) ∧
    ((p d0).silent < 2 → Answers (.ringBreak k) s fun d => d = d0) ∧
    ((p d0).broken = true → d0.breakNode k.val = some at_ → Answers (.ringBreakLocated k) s fun d =>
      SetsOnly d0 d [(R.RING_BREAK_NODE k.val, at_ % 256), (R.RING_BREAK_LOCATED k.val, 1)]) ∧
    ((p d0).broken = true → d0.breakNode k.val = none → Answers (.ringBreakLocated k) s fun d =>
      SetsOnly d0 d [(R.RING_BREAK_NODE k.val, 0xFF), (R.RING_BREAK_LOCATED k.val, 0)]) ∧
    ((p d0).broken = true → 16 ≤ (p d0).back → Answers (.ringRestored k) s fun d =>
      p d = { p d0 with broken := false } ∧ other d ∧ Sets d0 d [(R.RING_STATUS_INTACT k.val, 1)] ∧
        Presents d0 d [(.ringRestored, source 5 k.val)]) ∧
    (d0.alive = true → d0.on (R.RING_STATUS_SECURED k.val) = true → (kind = 1 ∨ kind = 2) →
      let received : List (Fld × Nat) := [(R.RING_RX_FRAMES k.val, (d0.rd (R.RING_RX_FRAMES k.val) + 1) % 2 ^ 32),
        (R.RING_TWIN_RX k.val, (d0.rd (R.RING_TWIN_RX k.val) + 1) % 2 ^ 16)]
      (d0.role ≠ .standby → Answers (.twinFrame k kind index true cycle content) s fun d =>
        Sets d0 d received ∧ d.ring.fragments = d0.ring.fragments ∧ d = { d0 with regs := d.regs, ring := d.ring }) ∧
      (d0.role = .standby → d0.ring.fragments = [] → d0.ring.twinDone = [] →
        Answers (.twinFrame k kind index false cycle content) s fun d => Sets d0 d received ∧
          d.ring.fragments = [⟨kind, cycle, index, false, content⟩] ∧ d = { d0 with regs := d.regs, ring := d.ring })) ∧
    (d0.alive = true → d0.on R.SEC_STATUS_CAK_OK = true → Answers (.mkaKeyDistribution peers) s fun d =>
      d.rd (R.RING_SEC_MKA_STATE k.val) = 2 ∧ d.rd (R.RING_STATUS_SECURED k.val) = 1 ∧
        d.rd (R.RING_SEC_PEERS k.val) = min peers 255 ∧
        (d0.on (R.RING_STATUS_SECURED k.val) = true →
          d.rd (R.RING_SEC_AN k.val) = (d0.rd (R.RING_SEC_AN k.val) + 1) % 4 ∧
          d.rd (R.RING_SEC_REKEYS k.val) = min (d0.rd (R.RING_SEC_REKEYS k.val) + 1) 65535)) ∧
    (d0.alive = true → d0.on R.SEC_STATUS_CAK_OK = false → Answers (.mkaKeyDistribution peers) s fun d =>
      d.rd (R.RING_SEC_MKA_STATE k.val) = 0 ∧ d.rd (R.RING_STATUS_SECURED k.val) = 0)

/-! ### The time base (chapter 14) -/

/-- The step, the servo and its limits (R364, R367 to R371, R375): two samples that agree take the step; a valid sample
gives the rate that takes effect at the next rebase, which leaves T continuous, and until which a second sample waits;
an error beyond 1 ms diverges; samples that fail to come are a holdover; a restart arms the step with T continuous;
and a STANDBY follows by means of a millisecond. Where the rules leave a point open it states the model's own choices:
log entries 27, 96 and 97. -/
def Obligations.TheTimeBaseStepsSlewsAndFollows : Prop :=
  ∀ (s : State) (x : TimeSample) (e0 r : Int) (c : DWord) (q : Req),
    let d0 := s.dev
    let t := d0.time
    let e := (t.at_ x.count - x.ref).toInt
    let mean := roundDiv t.followSum t.followN
    let limited (v : Int) : Int := max (-549755813) (min 549755813 v)
    let slew (d : Dev) (freq err : Int) (ns : Nat) : Prop := d.time.freq = freq ∧ d.time.rate = t.rate ∧
      d.time.offset = t.offset ∧ d.time.c0 = t.c0 ∧ d.time.rebase = some (limited (freq - roundDiv (err * 2 ^ 40) ns)) ∧
      d.rd R.TIME_FREQ = (freq % 2 ^ 32).toNat ∧ d.rd R.TIME_STATUS_REF_VALID = 1
    let restarted (d : Dev) : Prop := d.timeT = d0.timeT ∧ d.time.rate = 0 ∧ d.time.freq = 0 ∧ d.time.prev = none ∧
      d.time.qual = none ∧ d.time.rebase = none ∧ d.rd R.TIME_STATUS_STEP_ARMED = 1 ∧ d.rd R.TIME_STATUS_STEPPED = 0 ∧
      d.rd R.TIME_STATUS_DIVERGED = 0 ∧ d.rd R.TIME_RESTARTS_RESTARTS = (d0.rd R.TIME_RESTARTS_RESTARTS + 1) % 2 ^ 16 ∧
      d.role = d0.role ∧ Presents d0 d [(.timeRestart, source 12 0)]
    (∀ (n : Int) (m : Nat), 0 < m → 2 * (roundDiv n m * m - n).natAbs ≤ m ∧
      (2 * (roundDiv n m * m - n).natAbs = m → n.natAbs ≤ (roundDiv n m * m).natAbs)) ∧
    (t.sample = some x → t.rebase = none →
      (d0.on R.TIME_STATUS_STEP_ARMED = true → t.qual = some e0 → (e - e0).natAbs ≤ 1000 → Answers .timeSample s fun d =>
        d.time.offset = x.ref ∧ d.time.c0 = x.count ∧ d.time.rate = t.rate ∧ d.time.sample = none ∧
          d.rd R.TIME_STATUS_STATE = 2 ∧ d.rd R.TIME_STATUS_STEPPED = 1 ∧ d.rd R.TIME_STATUS_STEP_ARMED = 0 ∧
          d.rd64 R.TIME_STEP_LO R.TIME_STEP_HI = x.ref - t.at_ x.count ∧
          d.rd R.TIME_RESTARTS_STEPS = (d0.rd R.TIME_RESTARTS_STEPS + 1) % 2 ^ 16 ∧
          Presents d0 d [(.timeStepped, source 12 0)]) ∧
      (d0.on R.TIME_STATUS_STEP_ARMED = true → (∀ y, t.qual = some y → 1000 < (e - y).natAbs) → Answers .timeSample s fun d =>
        d.time.qual = some e ∧ d.time.offset = t.offset ∧ d.time.c0 = t.c0 ∧ d.time.rate = t.rate ∧
          d.rd R.TIME_STATUS_STEP_ARMED = 1) ∧
      (d0.on R.TIME_STATUS_STEP_ARMED = false → e.natAbs ≤ 1000000 → d0.rd R.TIME_STATUS_STATE ≠ 4 →
        t.prev = some (e0, c) → Answers .timeSample s fun d =>
          slew d (limited (t.freq - roundDiv ((e - e0) * 2 ^ 40) (4 * max (x.count - c).toNat 1))) e
            (d0.rd R.TIME_CONFIG_SLEW_S * 1000000000) ∧
          d.time.prev = some (e, x.count) ∧ d.rd R.TIME_STATUS_STATE = 2 ∧ d.rdInt R.TIME_ERROR = e ∧
          d.rd R.TIME_ERROR_MAX = max (d0.rd R.TIME_ERROR_MAX) e.natAbs) ∧
      (d0.on R.TIME_STATUS_STEP_ARMED = false → 1000000 < e.natAbs → d0.rd R.TIME_STATUS_STATE ≠ 4 →
        Answers .timeSample s fun d => d.rd R.TIME_STATUS_STATE = 4 ∧ d.rd R.TIME_STATUS_DIVERGED = 1 ∧
          d.rd R.TIME_STATUS_DIVERGED_SEEN = 1 ∧ d.time.rebase = none ∧ d.time.offset = t.offset ∧ d.time.c0 = t.c0 ∧
          d.time.rate = t.rate ∧ Presents d0 d [(.timeDiverged, source 12 0)])) ∧
    (t.rebase = some r → Answers .timeSample s fun d => d = d0) ∧
    (t.rebase = some r → t.sample = some x → Answers .rebase s fun d => d.time.sample = none ∧
      d = ({ d0 with time := { t with offset := d0.timeT, c0 := t.counter, rate := r, rebase := none, sample := none } }).useSample x) ∧
    (t.rebase = some r → t.sample = none → Answers .rebase s fun d => d.timeT = d0.timeT ∧
      d = { d0 with time := { t with offset := d0.timeT, c0 := t.counter, rate := r, rebase := none } }) ∧
    (d0.rd R.TIME_STATUS_STATE = 2 → Answers .timeHoldover s fun d => d.timeT = d0.timeT ∧
      Sets d0 d [(R.TIME_STATUS_STATE, 3), (R.TIME_STATUS_REF_VALID, 0)] ∧
      d.time = { t with qual := none, rebase := none, heldSince := some t.counter } ∧
      Presents d0 d [(.timeHoldover, source 12 0)]) ∧
    (d0.role = .standby → t.followN ≠ 0 →
      (d0.on R.TIME_STATUS_STEP_ARMED = true → Answers .followingUpdate s fun d =>
        d.time.offset = d0.timeT - BitVec.ofInt 64 mean ∧ d.time.c0 = t.counter ∧ d.rd R.TIME_STATUS_STATE = 5 ∧
          d.rd R.TIME_STATUS_STEP_ARMED = 0 ∧ Presents d0 d [(.timeStepped, source 12 0)]) ∧
      (d0.on R.TIME_STATUS_STEP_ARMED = false → mean.natAbs ≤ 1000000 → t.prev = some (e0, c) →
        Answers .followingUpdate s fun d =>
          slew d (limited (t.freq - roundDiv ((mean - e0) * 2 ^ 40) 4000000)) mean 100000000 ∧ d.time.followN = 0 ∧
            d.rd R.TIME_FOLLOW_UPDATES = (d0.rd R.TIME_FOLLOW_UPDATES + 1) % 2 ^ 16) ∧
      (d0.on R.TIME_STATUS_STEP_ARMED = false → 1000000 < mean.natAbs → Answers .followingUpdate s fun d =>
        d.time.restartAtBoundary = true ∧ d.timeT = d0.timeT ∧ Presents d0 d [(.timeDiverged, source 12 0)])) ∧
    ((d0.role = .stopped ∨ d0.role = .standby) → Answers (.timeRestart none) s restarted ∧
      (FreshRequest s q 2 → Answers (.timeRestart (some q)) s fun d => restarted d ∧ Replied d 0x0309 q .ok [])) ∧
    (d0.role ≠ .stopped → d0.role ≠ .standby → Answers (.timeRestart none) s (fun d => d = d0) ∧
      Carries (.timeRestart (some q)) s q 2 0x0309 .notPermitted [] [] fun d => d.time = t)

/-- References and stamps (R367, R372 to R376): PTP and PPS samples wait for their use where their source is selected; bad
edges and samples are counted; SET_TIME is kept; the journal takes T; PTP changes ports; and sent messages' stamps
queue. Where the rules leave a point open it states the model's own choices: log entries 98 and 99. -/
def Obligations.ReferencesAreSampledAndStampsQueued : Prop :=
  ∀ (s : State) (delay : Word) (ptp c : DWord) (steps width : Nat) (utc : Int) (q : Req) (sec : DWord)
    (id : BitVec 16) (port : Fin 5), s.dev.alive = true →
    let d0 := s.dev
    let t := d0.time
    let src := d0.rd R.TIME_CONFIG_SOURCE
    let valid (d : Dev) : Prop := d.rd R.TIME_SAMPLES_VALID = (d0.rd R.TIME_SAMPLES_VALID + 1) % 2 ^ 16
    let inTime : Prop := t.ppsPrev = some c ∧ 999800000 ≤ d0.since c ∧ d0.since c ≤ 1000200000 ∧ 1000 ≤ width ∧ width ≤ 500000000
    (∀ ok : Bool, Answers (.ptpSample ptp ok delay steps utc) s fun d => d.rd R.TIME_PTP_DELAY = delay.toNat ∧
      d.rd R.TIME_PTP_STATUS_STEPS_REMOVED = min steps 255 ∧ d.rd R.TIME_PTP_STATUS_UTC_OFFSET = (utc % 2 ^ 16).toNat ∧
      (src = 1 → ok = true → d0.role ≠ .standby → d.time = { t with sample := some ⟨ptp, t.counter⟩ } ∧ valid d) ∧
      (src = 1 → ok = false → d.time = t ∧
        d.rd R.TIME_SAMPLES_REJECTED = min (d0.rd R.TIME_SAMPLES_REJECTED + 1) 65535) ∧ (src ≠ 1 → d.time = t)) ∧
    ((width < 1000 ∨ 500000000 < width) → Answers (.ppsEdge width ptp) s fun d =>
      SetsOnly d0 d [(R.TIME_PPS_BAD, min (d0.rd R.TIME_PPS_BAD + 1) 65535)]) ∧
    (inTime → src = 2 → d0.role ≠ .standby →
      (ptp.toNat % 1000000000 ≤ 100000 → Answers (.ppsEdge width ptp) s fun d => valid d ∧
        d.time = { t with ppsPrev := some t.counter, sample := some ⟨BitVec.ofNat 64 (ptp.toNat / 1000000000 * 1000000000), t.counter⟩ } ∧
        d.rd R.TIME_PPS_EDGES = (d0.rd R.TIME_PPS_EDGES + 1) % 2 ^ 16 ∧
        d.rd64 R.TIME_PPS_CAP_LO R.TIME_PPS_CAP_HI = t.counter) ∧
      (100000 < ptp.toNat % 1000000000 → ptp.toNat % 1000000000 < 999900000 → Answers (.ppsEdge width ptp) s fun d =>
        SetsOnly { d0 with time := { t with ppsPrev := some t.counter } } d
          [(R.TIME_PPS_BAD, min (d0.rd R.TIME_PPS_BAD + 1) 65535)])) ∧
    (inTime → src = 3 → d0.role ≠ .standby → t.setTime = some (sec, c) → Answers (.ppsEdge width ptp) s fun d => valid d ∧
      d.time = { t with
        ppsPrev := some t.counter, setTime := none, label := some (sec, t.counter)
        sample := some ⟨sec * 1000000000, t.counter⟩ }) ∧
    Carries (.setTime q sec) s q 2 0x030A .ok [] [] (fun d => d.time = { t with setTime := some (sec, t.counter) }) ∧
    (d0.poolEmpty = false → Answers .timeJournal s fun d => d = { d0 with time := { t with journalT := some d0.timeT } }) ∧
    Answers .ptpAnnounceTimeout s (fun d => d.rd R.TIME_STATUS_PTP_SLAVE = 0 ∧ d.rd R.TIME_PTP_STATUS_PORT =
      if d0.rd R.TIME_PTP_CONFIG_SECONDARY = 7 then d0.rd R.TIME_PTP_STATUS_PORT else d0.rd R.TIME_PTP_CONFIG_SECONDARY) ∧
    Answers .ptpMoveBack s (fun d => SetsOnly d0 d [(R.TIME_PTP_STATUS_PORT, d0.rd R.TIME_PTP_CONFIG_PRIMARY)]) ∧
    (t.tsq.length < 32 → Answers (.txTimestamp id port) s fun d =>
      d.time = { t with tsq := t.tsq ++ [⟨id, port.val, d0.timeT⟩] } ∧ d.rd R.TIME_TSQ_STATUS_LEVEL = t.tsq.length + 1 ∧
        d.rd R.TIME_TSQ_ID_VALID = 1 ∧ d = { d0 with regs := d.regs, time := d.time }) ∧
    (32 ≤ t.tsq.length → Answers (.txTimestamp id port) s fun d => d.time.tsq = t.tsq ∧
      d.rd R.TIME_TSQ_STATUS_OVERFLOW = 1 ∧
        d.rd R.TIME_TSQ_STATUS_DISCARDED = min (d0.rd R.TIME_TSQ_STATUS_DISCARDED + 1) 65535) ∧
    (t.tsq = [⟨id, port.val, c⟩] → Answers .tsqRemove s fun d => d.time = { t with tsq := [] } ∧
      d.rd R.TIME_TSQ_STATUS_LEVEL = 0 ∧ d.rd R.TIME_TSQ_ID_VALID = 0)

/-! ### Local field I/O (chapter 15) -/

/-- Digital pins and current loops (R381 to R388, R392 to R394): a sample shows the pins, the supply and the current; a
steady level becomes the filtered one; an output in current limit, and one that overheats, is a fault, and a cooled
switch that is commanded off loses its latch; readbacks average and are compared; a channel fault drives the failure
level until it is reset; and a fast conversion is corrected, averaged and kept in its extremes. Where the rules leave
a point open it states the model's own choices: log entries 28 and 100. -/
def Obligations.PinsAndLoopsAreSampledAndGuarded : Prop :=
  ∀ (s : State) (levels : Word) (mv ma units : Nat) (pin : Fin 32) (n : Fin 16) (c : Fin 32) (raw : Int),
    let d0 := s.dev
    let v := min mv 65535
    let low := d0.rd R.DIO_FLD_MIN_MV
    let k := pin.val
    let rawLevel := testBit (d0.rd R.DIO_RAW) k
    let chan := d0.io.chan n.val
    let read := rnd (raw * (d0.calOf (48 + n.val)).gain) 30 + (d0.calOf (48 + n.val)).offset
    let fa := max (-2 ^ 15) (min (2 ^ 15 - 1) (rnd (raw * (d0.calOf c.val).gain) 30 + (d0.calOf c.val).offset))
    let driving : Prop := d0.pinsCommand = true ∧ d0.fldDrives = true ∧ d0.rd (R.CLO_STATUS_MODE n.val) ≠ 0 ∧
      d0.rd (R.CLO_STATUS_HART n.val) ≠ 2
    let failed (d : Dev) (cause : Nat) : Prop := d.rd (R.CLO_STATUS_FAULT n.val) = 1 ∧
      d.rd (R.CLO_STATUS_CAUSE n.val) = cause ∧ d.rd (R.CLO_STATUS_LEVEL n.val) = 1 ∧
      d.rd (R.CLO_SET_OUT_UA n.val) = (if d0.on (R.CLO_CONFIG_FAIL_HIGH n.val) then 21500 else 3500) ∧
      Presents d0 d [(.aoFault, sourceAo n.val)]
    (d0.samples = true → Answers (.dioSample levels mv ma) s fun d =>
      d = { d0 with regs := d.regs, io := { d0.io with rawAt := d.io.rawAt } } ∧
      (∀ j : Nat, oget d.io.rawAt j = if j < 32 ∧ testBit levels.toNat j ≠ testBit (d0.rd R.DIO_RAW) j then some d0.now
        else oget d0.io.rawAt j) ∧
      Sets d0 d [(R.DIO_RAW, levels.toNat), (R.DIO_FLD_MV, v), (R.DIO_FLD_MIN_MV, if low = 0 ∨ v < low then v else low),
        (R.DIO_CURRENT_MA, min ma 65535), (R.DIO_CURRENT_MAX_MA, max (d0.rd R.DIO_CURRENT_MAX_MA) (min ma 65535))]) ∧
    (d0.dioSteady k = false → Answers (.dioLevelChange pin) s fun d => d = d0) ∧
    (d0.samples = true → d0.dioSteady k = true → testBit (d0.rd R.DIO_READBACK) k ≠ rawLevel → Answers (.dioLevelChange pin) s fun d =>
      (∀ j : Nat, j < 32 → testBit (d.rd R.DIO_READBACK) j = if j = k then rawLevel else testBit (d0.rd R.DIO_READBACK) j) ∧
        testBit (d.rd (if rawLevel then R.DIO_RISE else R.DIO_FALL)) k = true ∧
        OnlyFields d0 d [R.DIO_READBACK, if rawLevel then R.DIO_RISE else R.DIO_FALL]) ∧
    (100 < units → testBit d0.dioDriven k = true → Answers (.dioCurrentLimit pin units) s fun d =>
      d.rd R.DIO_STATUS_FAULT = 1 ∧ testBit d.io.limit k = true ∧
        d.rd R.DIO_LIMIT_LIMIT = max (d0.rd R.DIO_LIMIT_LIMIT) (min units 65535) ∧
        (d0.on R.DIO_STATUS_FAULT = false → d.rd R.DIO_STATUS_FAULT_SEEN = 1 ∧ Presents d0 d [(.dioFault, source 8 0)])) ∧
    Answers (.dioCurrentLimit pin 0) s (fun d => testBit d.io.limit k = false) ∧
    (d0.lit = true → d0.fldGood = true → testBit (d0.rd R.DIO_DIR) k = true → Answers (.dioThermalShutdown pin) s fun d =>
      testBit d.io.latched k = true ∧ testBit d.io.hot k = true ∧ testBit d.dioDriven k = false ∧
        d.rd R.DIO_STATUS_FAULT = 1) ∧
    Answers (.dioSwitchCooled pin) s (fun d => testBit d.io.hot k = false ∧
      testBit d.io.latched k = (testBit d0.io.latched k && testBit (d0.rd R.DIO_OUT) k)) ∧
    (d0.samples = true → Answers (.aoReadbackSample n raw) s fun d =>
      let xs := (read :: chan.raw).take 10
      (d.io.chan n.val).raw = xs ∧ (d.io.chan n.val).readback = (xs.sum + (xs.length / 2 : Nat)) / xs.length ∧
        d.rd (R.CLO_READ_READ_UA n.val) = ((d.io.chan n.val).readback % 2 ^ 16).toNat ∧
        OtherFields d0 d [R.CLO_READ_READ_UA n.val, R.CLO_READ_DEV_MAX_UA n.val]) ∧
    (driving → d0.on (R.CLO_STATUS_FAULT n.val) = false →
      (d0.aoCompares n.val = true → d0.aoLasted n.val = true → 100 < d0.aoDiff n.val → Answers (.aoReadbackFault n) s fun d => failed d 1) ∧
      (d0.alive = true → Answers (.aoOvertemp n) s fun d => failed d 2)) ∧
    (driving → chan.released = true → d0.rd (R.CLO_SET_CMD_UA n.val) ≠ 0xFFFF → Answers (.aoFaultReset n) s fun d =>
      d.rd (R.CLO_STATUS_FAULT n.val) = 0 ∧ d.rd (R.CLO_STATUS_CAUSE n.val) = 0 ∧ d.rd (R.CLO_STATUS_LEVEL n.val) = 0 ∧
        d.rd (R.CLO_SET_OUT_UA n.val) = min (d0.rd (R.CLO_SET_CMD_UA n.val)) 22000) ∧
    (d0.faEvaluated = true → Answers (.faConversion c raw) s fun d =>
      let xs := (fa :: sget (fun _ => []) d0.io.fa c.val).take (4 ^ min 4 (d0.rd (R.FAI_CONFIG_AVG c.val)))
      d.rdInt (R.FAI_VALUE_LAST c.val) = fa ∧ sget (fun _ => []) d.io.fa c.val = xs ∧
        d.rd (R.FAI_VALUE_MEAN c.val) = ((xs.sum + (xs.length / 2 : Nat)) / xs.length % 2 ^ 16).toNat ∧
        d.rdInt (R.FAI_MINMAX_MIN c.val) = min fa (d0.rdInt (R.FAI_MINMAX_MIN c.val)) ∧
        d.rdInt (R.FAI_MINMAX_MAX c.val) = max fa (d0.rdInt (R.FAI_MINMAX_MAX c.val)))

/-- HART and calibration (R389 to R391, R394 to R397): polls and answers of the listed devices, and missed ones; a request
queues and is answered; the export; two points that are apart give a pending record; a commit and an import, with K1.7
on, write the records; and the pending records go with an abort and with time. Where the rules leave a point open it
states the model's own choices: log entries 101 and 102. -/
def Obligations.HartAndCalibration : Prop :=
  ∀ (s : State) (n : Fin 16) (a addr : Nat) (x : HartAnswer) (q : Req) (h : HartReq) (cmd cert file : List Byte)
    (ref raw ref1 raw1 : Int) (p : Fin 32) (rec : CalRec),
    let d0 := s.dev
    let chan := d0.io.chan n.val
    let body := file.take (file.length - 4)
    let dropped (d : Dev) : Prop := d.io = { d0.io with points := [], pendingCal := [] }
    (d0.alive = true → d0.role.commanding = true → d0.pinsCommand = true → chan.busy = none → (d0.hartDevices n.val)[chan.next]? = some a →
      Answers (.hartPoll n) s fun d => (d.io.chan n.val).busy = some (a, false) ∧
        (d.io.chan n.val).next = (if chan.next + 1 < (d0.hartDevices n.val).length then chan.next + 1 else 0) ∧
        (d.io.chan n.val).devs = chan.devs) ∧
    (chan.busy = some (a, false) → chan.queue = [] → x.comm = 0 → Answers (.hartResponse n (some x)) s fun d =>
      (d.io.chan n.val).busy = none ∧ d.rd (R.CLO_HART_LAST_COMM n.val) = 0 ∧ ((d.io.chan n.val).dev a).missed = 0 ∧
        ((d.io.chan n.val).dev a).block = hartBlock x.vars x.units x.status.toNat 0 0 x.current ∧
        a ∈ (d.io.chan n.val).found ∧ OtherFields d0 d [R.CLO_HART_LAST_COMM n.val]) ∧
    (chan.busy = some (a, false) → chan.queue = [] → (chan.dev a).missed = 2 → Answers (.hartResponse n none) s fun d =>
      (d.io.chan n.val).busy = none ∧ d.rd (R.CLO_HART_LAST_COMM n.val) = 1 ∧ ((d.io.chan n.val).dev a).missed = 3 ∧
        d.rd (R.CLO_HART_ERRORS n.val) = min (d0.rd (R.CLO_HART_ERRORS n.val) + 1) 65535 ∧
        Presents d0 d [(.hartNoResponse, sourceAo n.val)]) ∧
    (chan.busy = some (a, true) → chan.queue = [h] → x.comm = 0 → d0.mgmt.running = [⟨0x0203, h.client, h.id, 0⟩] →
      Answers (.hartResponse n (some x)) s fun d => (d.io.chan n.val).busy = none ∧ (d.io.chan n.val).queue = [] ∧
        (∃ y, d.mgmt.response = some y ∧ y.status = .ok ∧ y.client = h.client ∧ y.id = h.id ∧ y.body = x.bytes) ∧
        d.mgmt.running = []) ∧
    (FreshRequest s q 1 → d0.role.commanding = true → d0.rd (R.CLO_STATUS_HART n.val) ≠ 0 → addr ≤ 63 →
      chan.queue.length < 4 → chan.busy = none → Answers (.hartRequest q n addr cmd) s fun d =>
        (d.io.chan n.val).queue = chan.queue ++ [⟨q.client, q.id, addr, cmd⟩] ∧
          (chan.queue = [] → (d.io.chan n.val).busy = some (addr, true)) ∧
          ∃ y ∈ d.mgmt.running, y.client = q.client ∧ y.id = q.id) ∧
    (d0.role.commanding = false →
      Carries (.hartRequest q n addr cmd) s q 1 0x0203 (.named "NOT_ACTIVE") [] [] fun d => d.io = d0.io) ∧
    Carries (.calExport q) s q 0 0x0105 .ok d0.calFile [R.LIFE_CAL_EXPORT_T] (fun d =>
      d.rd R.LIFE_CAL_EXPORT_T = d0.timeT.toNat / 1000000000 % 2 ^ 32 ∧ d.io = d0.io) ∧
    (let c := Instr.calPoint q ⟨p.val, by omega⟩ ref raw
     (oget d0.io.points p.val = none → Carries c s q 2 0x030D .ok [] [] fun d =>
       d.io = { d0.io with points := oput d0.io.points p.val (ref, raw) }) ∧
     (oget d0.io.points p.val = some (ref1, raw1) → 10000000 ≤ (ref1 - ref).natAbs → Carries c s q 2 0x030D .ok [] [] fun d =>
       oget d.io.points p.val = none ∧ ∃ y, oget d.io.pendingCal p.val = some y ∧ y.user = true ∧ y.good = true)) ∧
    (cert.length ≠ 16 → Carries (.calCommit q cert) s q 2 0x030E .badRequest [] [] fun d => d.io = d0.io) ∧
    (cert.length = 16 → d0.calSwitch = false → Carries (.calCommit q cert) s q 2 0x030E (.hrn 13) [] [] fun d => d.io = d0.io) ∧
    (cert.length = 16 → d0.calSwitch = true → d0.poolEmpty = false → d0.io.pendingCal = [(p.val, rec)] → FreshRequest s q 2 →
      Answers (.calCommit q cert) s fun d => Replied d 0x030E q .ok [] ∧ d.io.pendingCal = [] ∧ d.io.points = [] ∧
        d.io.cal = oput d0.io.cal p.val { rec with time := d0.timeT.toNat / 1000000000, cert := cert } ∧
        Presents d0 d [(.calWritten, sourceFa p.val)]) ∧
    (d0.calSwitch = false → Carries (.calImport q file) s q 2 0x030F (.hrn 13) [] [] fun d => d.io = d0.io) ∧
    (d0.calSwitch = true → file.take 4 = [0x43, 0x41, 0x4C, 0x31] → leNat ((file.drop 4).take 4) ≠ d0.rd R.SERIAL →
      Carries (.calImport q file) s q 2 0x030F (.named "CAL_SERIAL_MISMATCH") [] [] fun d => d.io = d0.io) ∧
    (d0.calSwitch = true → file.take 4 = [0x43, 0x41, 0x4C, 0x31] → leNat ((file.drop 4).take 4) = d0.rd R.SERIAL →
      leNat (file.drop (file.length - 4)) = crc32 body → (∀ r ∈ Config.calRecords body, r.2.good = true ∧ r.1 < 64) →
      d0.poolEmpty = false → FreshRequest s q 2 → Answers (.calImport q file) s fun d => Replied d 0x030F q .ok [] ∧
        d.io.cal = (Config.calRecords body).foldl (fun m r => oput m r.1 r.2) d0.io.cal) ∧
    Carries (.calAbort q) s q 2 0x0310 .ok [] [] (fun d => dropped d) ∧
    (1800 * nsPerSecond ≤ d0.since d0.io.pendingSince → Answers .calPendingTimeout s fun d => dropped d ∧ d = { d0 with io := d.io }) ∧
    (d0.since d0.io.pendingSince < 1800 * nsPerSecond → Answers .calPendingTimeout s fun d => d = d0)

/-! ### CAN ports (chapter 16) -/

/-- Frames on a CAN bus (R406, R408 to R413, R416 to R418): a frame of another node takes the next bus frame number, and
is rejected, queued or dropped by the filters; an own frame is SENT, and so is a matched shadow buffer; the controller
chooses a PENDING buffer; an attempt that loses arbitration, and an error, end it; bus-off and its recovery; and LOOP
in STOPPED. Where the rules leave a point open it states the model's own choices: log entries 103, 104 and 105. -/
def Obligations.CanFramesAreNumberedFilteredAndSent : Prop :=
  ∀ (s : State) (p : Fin 4) (f : CanFrame) (t : DWord) (ns k b : Nat) (v : Fin 4), canFrameOk f = true →
    let d0 := s.dev
    let n := p.val
    let port := d0.port n
    let num := w32 (d0.rd (R.CAN_RXNUM n) + 1)
    let live : Prop := d0.alive = true ∧ d0.on (R.CAN_CONFIG_USED n) = true
    let fs := (d0.canImg n).filters
    let numbered (d : Dev) : Prop := d.rd (R.CAN_RXNUM n) = num.toNat ∧ ∀ j : Nat, j ≠ n → d.port j = d0.port j
    let other (P : Dev → Prop) : Prop := live → d0.role.commanding = true → d0.canMode n ≠ 1 →
      Answers (.canFrameComplete p f false t ns none) s fun d => numbered d ∧ (d.port n).bufs = port.bufs ∧ P d
    let errored (d : Dev) : Prop := d.rd (R.CAN_LEC_LEC n) = k ∧
      d.rd (R.CAN_ERR_COUNT_TX_ERR n) = min (d0.rd (R.CAN_ERR_COUNT_TX_ERR n) + 1) 65535 ∧ (d.port n).tec = port.tec + 8 ∧
      (∀ j : Fin 3, ((d.port n).buf j.val).onBus = false)
    (canFilter fs f = none → other fun d => (d.port n).q0 = port.q0 ∧ (d.port n).q1 = port.q1 ∧
      d.rd (R.CAN_RX_COUNT_NO_MATCH n) = min (d0.rd (R.CAN_RX_COUNT_NO_MATCH n) + 1) 65535) ∧
    (canFilter fs f = some (k, 1) → port.q0.length < 64 → other fun d => (d.port n).q1 = port.q1 ∧
      d.rd (R.CAN_RX_COUNT_ACCEPTED n) = (d0.rd (R.CAN_RX_COUNT_ACCEPTED n) + 1) % 2 ^ 16 ∧
      d.rd (R.CAN_LAST_ID_ID n) = f.id.toNat ∧
      ∃ ws : List Word, (d.port n).q0 = port.q0 ++ [⟨num, ws⟩] ∧ ws.length = 5 + (f.data.length + 3) / 4 ∧
        ws[1]? = some (w32 f.id.toNat) ∧ ws[2]? = some (w32 t.toNat) ∧ ws[3]? = some (w32 (t.toNat / 2 ^ 32)) ∧
        ws[4]? = some num) ∧
    (canFilter fs f = some (k, 2) → 64 ≤ port.q1.length → other fun d => (d.port n).q1 = port.q1 ∧ (d.port n).q0 = port.q0 ∧
      d.rd (R.CAN_RXQ1_STATUS_OVERFLOW n) = 1 ∧
      d.rd (R.CAN_RX_DROP_OVF1 n) = min (d0.rd (R.CAN_RX_DROP_OVF1 n) + 1) 65535) ∧
    (live → d0.role.commanding = true → d0.canMode n < 2 → port.sending = some b → (port.buf b).is f = true →
      Answers (.canFrameComplete p f true t ns none) s fun d => numbered d ∧ ((d.port n).buf b).state = 2 ∧
        ((d.port n).buf b).num = num ∧ ((d.port n).buf b).onBus = false ∧ (d.port n).tec = port.tec - 1 ∧
        d.rd (R.CAN_TX_COUNT_SENT n) = (d0.rd (R.CAN_TX_COUNT_SENT n) + 1) % 2 ^ 16 ∧
        d.rd64 (R.CAN_TX_T_LO n) (R.CAN_TX_T_HI n) = t ∧ (d.port n).q0 = port.q0 ∧ (d.port n).q1 = port.q1) ∧
    (live → d0.role = .standby → d0.canShadow n f = some b → Answers (.canFrameComplete p f false t ns none) s fun d =>
      numbered d ∧ ((d.port n).buf b).state = 2 ∧ ((d.port n).buf b).num = num ∧ (d.port n).q0 = port.q0) ∧
    (live → d0.canSends n = true → d0.canMode n ≠ 1 → d0.canOff n = false → 1 ≤ k → k ≤ 6 → k ≠ 3 → port.tec < 256 →
      (port.tec + 8 ≤ 255 → Answers (.canBusError p k false true false) s errored) ∧
      (255 < port.tec + 8 → Answers (.canBusError p k false true false) s fun d => errored d ∧
        d.rd (R.CAN_STATUS_STATE n) = 2 ∧ d.rd (R.CAN_STATUS_BUSOFF_SEEN n) = 1 ∧
        d.rd (R.CAN_BUSOFF_COUNT n) = min (d0.rd (R.CAN_BUSOFF_COUNT n) + 1) 65535 ∧
        ∃ rec ∈ d.evrec.presented, rec.code = .canBusOff ∧ rec.src = source 7 n)) ∧
    (d0.alive = true → d0.canSends n = true → d0.canOff n = false → port.sending = none → d0.canChoose n = some b →
      (port.buf b).state = 1 ∧
      (∀ j : Fin 3, (port.buf j.val).state = 1 → (d0.on (R.CAN_CONFIG_ORDER n) = true → b ≤ j.val) ∧
        (d0.on (R.CAN_CONFIG_ORDER n) = false → (port.buf b).rank ≤ (port.buf j.val).rank)) ∧
      Answers (.canTxSelect p) s fun d => ((d.port n).buf b) = { port.buf b with onBus := true } ∧
        (∀ j : Nat, j ≠ b → (d.port n).buf j = port.buf j) ∧ d = { d0 with can := d.can }) ∧
    (port.sending = some b → Answers (.canArbitrationLost p) s fun d =>
      (d.port n).buf b = { port.buf b with
        onBus := false, cancel := false, state := if (port.buf b).cancel then 3 else (port.buf b).state } ∧
        Sets d0 d [(R.CAN_TX_COUNT_ARB_LOST n, min (d0.rd (R.CAN_TX_COUNT_ARB_LOST n) + 1) 65535)]) ∧
    (d0.canOff n = true → Answers (.canRecover p) s fun d => SetsOnly d0 d [(R.CAN_STATUS_RECOVERING n, 1)]) ∧
    (d0.on (R.CAN_STATUS_RECOVERING n) = true → Answers (.canRecoveryDone p) s fun d =>
      Sets d0 d [(R.CAN_STATUS_RECOVERING n, 0), (R.CAN_STATUS_WARN n, 0), (R.CAN_STATUS_STATE n, 0),
        (R.CAN_ERR_T n, d0.timeT.toNat / 1000 % 2 ^ 32)] ∧
      d.port n = { port with tec := 0, rec_ := 0 } ∧ Presents d0 d [(.canErrorActive, source 7 n)]) ∧
    (d0.role = .stopped → Answers (.canLoopSelect p v) s fun d => SetsOnly d0 d [(R.CAN_CTRL_LOOP n, v.val)]) ∧
    (d0.role ≠ .stopped → Answers (.canLoopSelect p v) s fun d =>
      d = { d0 with mgmt := { d0.mgmt with writeStatus := .locked } })

/-- Buffers and queues of a CAN port (R408, R410, R413 to R415, R420): requests and cancels of the management plane in
STOPPED, and their refusals; a word of data for the selected buffer; and the reads, DISCARD and FLUSH of a queue.
Where the rules leave a point open it states the model's own choices: log entry 104. -/
def Obligations.CanBuffersAreRequestedAndQueuesRead : Prop :=
  ∀ (s : State) (p : Fin 4) (j : Fin 3) (v : Word) (q : Fin 2) (e : CanEntry) (es : List CanEntry), s.dev.alive = true →
    let d0 := s.dev
    let n := p.val
    let port := d0.port n
    let x := port.buf j.val
    let one : BitVec 3 := BitVec.ofNat 3 (2 ^ j.val)
    let queue (d : Dev) : List CanEntry := if q = 0 then (d.port n).q0 else (d.port n).q1
    let locked := if q = 0 then R.CAN_RXQ0_STATUS_LOCKED n else R.CAN_RXQ1_STATUS_LOCKED n
    let pos := if q = 0 then R.CAN_RXQ0_STATUS_POS n else R.CAN_RXQ1_STATUS_POS n
    let owner := if q = 0 then R.CAN_CONFIG_Q0_OWNER n else R.CAN_CONFIG_Q1_OWNER n
    let buffer (d : Dev) (y : CanBuf) : Prop := (d.port n).buf j.val = y ∧
      (∀ i : Nat, i ≠ j.val → (d.port n).buf i = port.buf i) ∧ d = { d0 with can := d.can, regs := d.regs }
    (d0.role = .stopped →
      (x.state ≠ 1 → d0.canBadRequest n x = false → Answers (.txReq .mgmt p one) s fun d =>
        buffer d { x with state := 1, onBus := false, cancel := false, reqT := d0.timeT } ∧ d.regs = d0.regs) ∧
      (x.state ≠ 1 → d0.canBadRequest n x = true → Answers (.txReq .mgmt p one) s fun d =>
        SetsOnly d0 d [(R.CAN_TX_STATUS_REFUSED n j.val, 1)]) ∧
      (x.state = 1 → x.onBus = false → Answers (.txCancel .mgmt p one) s fun d =>
        buffer d { x with state := 3 } ∧ d.regs = d0.regs) ∧
      (x.state = 1 → x.onBus = true → Answers (.txCancel .mgmt p one) s fun d => buffer d { x with cancel := true } ∧
        Sets d0 d [(R.CAN_TX_STATUS_CANCEL_REFUSED n j.val, 1)]) ∧
      (d0.rd (R.CAN_TXB_SEL_BUF n) = j.val → x.state ≠ 1 → Answers (.txbData .mgmt p v) s fun d =>
        buffer d { x with data := sput (fun _ => 0) x.data (d0.rd (R.CAN_TXB_SEL_WORD n)) v } ∧
          Sets d0 d [(R.CAN_TXB_SEL_WORD n, (d0.rd (R.CAN_TXB_SEL_WORD n) + 1) % 16)]) ∧
      (d0.rd (R.CAN_TXB_SEL_BUF n) = j.val → x.state = 1 → Answers (.txbData .mgmt p v) s fun d =>
        SetsOnly d0 d [(R.CAN_TX_STATUS_REFUSED n j.val, 1)])) ∧
    (d0.role ≠ .stopped → ∀ c ∈ [Instr.txReq .mgmt p one, .txCancel .mgmt p one, .txbData .mgmt p v],
      Answers c s fun d => d = { d0 with mgmt := { d0.mgmt with writeStatus := .locked } }) ∧
    (d0.on owner = false → Answers (.rxqWord .mgmt p q) s fun d => d = { d0 with mgmt := { d0.mgmt with readData := 0 } }) ∧
    (d0.on owner = true → queue d0 = e :: es → d0.on locked = false → 1 < e.words.length → Answers (.rxqWord .mgmt p q) s fun d =>
      d.mgmt.readData = (e.words[0]?).getD 0 ∧ Sets d0 d [(locked, 1), (pos, 1)] ∧ d.can = d0.can) ∧
    (d0.on owner = true → queue d0 = e :: es → d0.on locked = true → d0.rd pos + 1 = e.words.length →
      Answers (.rxqWord .mgmt p q) s fun d => d.mgmt.readData = (e.words[d0.rd pos]?).getD 0 ∧ queue d = es ∧
        Sets d0 d [(locked, 0), (pos, 0)]) ∧
    (queue d0 = e :: es → d0.on locked = true → Answers (.rxqDiscard p q) s fun d => queue d = es ∧
      Sets d0 d [(locked, 0), (pos, 0)] ∧ d = { d0 with can := d.can, regs := d.regs }) ∧
    (d0.on locked = false → Answers (.rxqDiscard p q) s fun d => d = d0) ∧
    Answers (.rxqFlush p q) s (fun d => queue d = [] ∧ Sets d0 d [(locked, 0), (pos, 0)] ∧
      d = { d0 with can := d.can, regs := d.regs })

/-! ### Event recorder (chapter 16) -/

/-- Presented records (R421, R424 to R428, R431): a record goes into the next slot with the next SEQ; a repeat of the
source's latest record within the window merges into it; in a full ring it takes the place of one of equal or lower
severity, or is dropped and counted; while the ring is frozen it is held, or merged, or dropped when 256 are held;
from the end of a power failure on nothing is inserted. Where the rules leave a point open it states the model's own
choices: log entries 9, 10, 11, 108 and 109. -/
def Obligations.RecordsAreInsertedMergedHeldOrDropped : Prop :=
  ∀ (s : State) (r h : EvRec) (k : Nat),
    let d0 := s.dev
    let e0 := d0.evrec
    let q := nextSeq (w32 (d0.rd R.EVREC_HEAD))
    let win := d0.rd R.EVREC_REPEAT_WIN_MS
    let same : Prop := win ≠ 0 ∧ r.code = h.code ∧ r.src = h.src ∧ r.p0 = h.p0 ∧ r.p1 = h.p1 ∧ r.p2 = h.p2 ∧
      r.tFirst.toNat ≤ h.tLast.toNat + win * 1000000
    let merged : EvRec := { h with
      rep := w32 (min (h.rep.toNat + 1 + r.rep.toNat) 0xFFFFFFFF), tLast := r.tLast, journalled := false }
    let lost : Fld := ⟨0x400048 + (r.sev.val / 2) * 4, 16 * (r.sev.val % 2), 16⟩
    let ringFlds := [R.EVREC_HEAD, R.EVREC_COUNT_RECORDS, R.EVREC_STATUS_FULL, R.EVREC_OLDEST, R.HIST_EVT_SEQ]
    let inserted (d : Dev) (slot : Nat) : Prop :=
      oget d.evrec.ring slot = some { r with seq := q } ∧ (∀ j, j ≠ slot → oget d.evrec.ring j = oget e0.ring j) ∧
        d.evrec = { e0 with presented := [], ring := d.evrec.ring } ∧ d.rd R.EVREC_HEAD = q.toNat ∧
        (d0.histRunning = true → d.rd R.HIST_EVT_SEQ = q.toNat) ∧ OtherFields d0 d ringFlds
    let dropped (d : Dev) : Prop :=
      Sets d0 d [(lost, min (d0.rd lost + 1) 65535), (R.EVREC_STATUS_DROP_SEEN, 1)] ∧ d.evrec = { e0 with presented := [] }
    (e0.presented = [] → Answers .eventInsert s fun d => d = d0) ∧
    (e0.presented = [r] → e0.closed = true → Answers .eventInsert s fun d =>
      d = { d0 with evrec := { e0 with presented := [] } }) ∧
    (e0.presented = [r] → e0.closed = false → d0.on R.EVREC_STATUS_FROZEN = false →
      (e0.ring.filter (fun p => p.2.src = r.src) = [] →
        (e0.ring.length < 32768 → Answers .eventInsert s fun d => inserted d e0.ring.length ∧
          d.rd R.EVREC_COUNT_RECORDS = d.evrec.ring.length ∧
          d.rd R.EVREC_STATUS_FULL = bit (32768 ≤ d.evrec.ring.length)) ∧
        (32768 ≤ e0.ring.length → e0.ring.filter (fun p => p.2.sev ≤ r.sev) = [(k, h)] →
          Answers .eventInsert s (inserted · k)) ∧
        (32768 ≤ e0.ring.length → e0.ring.filter (fun p => p.2.sev ≤ r.sev) = [] → Answers .eventInsert s dropped)) ∧
      (e0.ring.filter (fun p => p.2.src = r.src) = [(k, h)] → same → Answers .eventInsert s fun d =>
        oget d.evrec.ring k = some merged ∧ (∀ j, j ≠ k → oget d.evrec.ring j = oget e0.ring j) ∧
          d.evrec = { e0 with presented := [], ring := d.evrec.ring } ∧ OtherFields d0 d [R.HIST_EVT_SEQ])) ∧
    (e0.presented = [r] → e0.closed = false → d0.on R.EVREC_STATUS_FROZEN = true →
      ((∀ x ∈ e0.fifo, x.code ≠ r.code) → e0.fifo.length < 256 → Answers .eventInsert s fun d =>
        d.evrec = { e0 with presented := [], fifo := e0.fifo ++ [r] } ∧
          Sets d0 d [(R.EVREC_STATUS_FIFO_LEVEL, e0.fifo.length + 1)]) ∧
      ((∀ x ∈ e0.fifo, x.code ≠ r.code) → e0.fifo.length = 256 → Answers .eventInsert s dropped) ∧
      (e0.fifo = [h] → same → Answers .eventInsert s fun d =>
        d = { d0 with evrec := { e0 with presented := [], fifo := [merged] } }))

/-- Journal and freeze (R422, R428, R430, R475): a record of severity CHANGE or higher is written to the flash journal
once, with its CRC-32; a full journal first erases its oldest block, and a write into a block whose erase has begun
waits; a worn flash takes no write; a freeze begins unless drives are mounted, one runs or one has just ended; it ends
by a command or by its expiry after 100 ms, and what was held is inserted marked; and the catalogue is answered. Where
the rules leave a point open it states the model's own choices: log entries 37 and 110. -/
def Obligations.RecordsAreJournalledAndFrozen : Prop :=
  ∀ (s : State) (r : EvRec) (k : Nat) (q : Req) (c : DWord),
    let d0 := s.dev
    let e0 := d0.evrec
    let r' : EvRec := { r with journalled := true, journalAt := some d0.now }
    let thaw : EvrecSt := { e0 with fifo := [], freezeEnded := some d0.now }
    let ended : Prop := 100000000 ≤ d0.since e0.frozenAt
    let mayFreeze : Prop := d0.on R.HIST_STATUS_MOUNTED = false ∧ d0.on R.EVREC_STATUS_FROZEN = false ∧
      e0.freezeEnded = some c ∧ 1000000000 ≤ d0.since c
    let why (e : String) : Prop := (e = "FREEZE_NOT_AVAILABLE" ∧ d0.on R.HIST_STATUS_MOUNTED = true) ∨
      (e = "FREEZE_ACTIVE" ∧ d0.on R.HIST_STATUS_MOUNTED = false ∧ d0.on R.EVREC_STATUS_FROZEN = true) ∨
      (e = "FREEZE_TOO_SOON" ∧ d0.on R.HIST_STATUS_MOUNTED = false ∧ d0.on R.EVREC_STATUS_FROZEN = false ∧
        e0.freezeEnded = some c ∧ d0.since c < 1000000000)
    (d0.alive = true → e0.ring = [(k, r)] → 2 ≤ r.sev.val → r.journalled = false → r.journalAt = none →
      (d0.poolEmpty = false → e0.journal.length < 2097152 → d0.life.intents.contains (journalBlock e0.nextEntry) = false →
        Answers .eventJournalWrite s fun d => d = { d0 with evrec := { e0 with
          ring := [(k, r')]
          journal := e0.journal ++ [{ number := e0.nextEntry, record := r'
                                      crc := crc32 (r'.bytes ++ leBytes 4 e0.nextEntry.toNat ++ List.replicate 8 0) }]
          nextEntry := e0.nextEntry + 1 } }) ∧
      (d0.poolEmpty = false → 2097152 ≤ e0.journal.length → Answers .eventJournalWrite s fun d =>
        d = { d0 with
          evrec := { e0 with journal := e0.journal.drop 16384 }
          life := { d0.life with intents := d0.life.intents ++ [journalBlock e0.nextEntry] } }) ∧
      (e0.journal.length < 2097152 → d0.life.intents.contains (journalBlock e0.nextEntry) = true →
        Answers .eventJournalWrite s fun d => d = d0) ∧
      (d0.poolEmpty = true → d0.life.intents.contains (journalBlock e0.nextEntry) = false → d0.on R.LIFE_FLASH_WORN = false → Answers .eventJournalWrite s fun d =>
        SetsAndTells d0 d [(R.LIFE_FLASH_WORN, 1)] [(.flashWorn, source 0 0)])) ∧
    ((∀ x ∈ e0.ring, x.2.sev.val < 2) → Answers .eventJournalWrite s fun d => d = d0) ∧
    (mayFreeze → Answers (.freeze none) s (fun d => Sets d0 d [(R.EVREC_STATUS_FROZEN, 1)] ∧
        d = { d0 with regs := d.regs, evrec := { e0 with frozenAt := d0.now } }) ∧
      Carries (.freeze (some q)) s q 2 0x030B .ok [] [R.EVREC_STATUS_FROZEN] (fun d => d.rd R.EVREC_STATUS_FROZEN = 1 ∧
        d.evrec = { e0 with frozenAt := d0.now })) ∧
    (∀ e, why e → Answers (.freeze none) s (fun d => d = d0) ∧
      Carries (.freeze (some q)) s q 2 0x030B (.named e) [] [] (fun d => d.evrec = e0)) ∧
    (d0.on R.EVREC_STATUS_FROZEN = false →
      Answers (.unfreeze none) s (fun d => d = d0) ∧ Answers .freezeExpiry s (fun d => d = d0) ∧
      Carries (.unfreeze (some q)) s q 2 0x030C .ok [] [] (fun d => d.evrec = e0)) ∧
    (d0.on R.EVREC_STATUS_FROZEN = true → e0.fifo = [] →
      (∀ i, i = Instr.unfreeze none ∨ (i = .freezeExpiry ∧ ended) → Answers i s fun d =>
        d = { d0 with regs := d.regs, evrec := thaw } ∧
          Sets d0 d [(R.EVREC_STATUS_FROZEN, 0), (R.EVREC_STATUS_FIFO_LEVEL, 0)]) ∧
      Carries (.unfreeze (some q)) s q 2 0x030C .ok [] [R.EVREC_STATUS_FROZEN, R.EVREC_STATUS_FIFO_LEVEL] (fun d =>
        d.rd R.EVREC_STATUS_FROZEN = 0 ∧ d.evrec = thaw)) ∧
    (d0.on R.EVREC_STATUS_FROZEN = true → e0.fifo = [r] → e0.ring.filter (fun p => p.2.src = r.src) = [] →
      e0.ring.length < 32768 → ended → Answers .freezeExpiry s fun d =>
        oget d.evrec.ring e0.ring.length = some { r with held := true, seq := nextSeq (w32 (d0.rd R.EVREC_HEAD)) } ∧
          d.evrec = { thaw with ring := d.evrec.ring } ∧ d.rd R.EVREC_STATUS_FROZEN = 0 ∧
          d.rd R.EVREC_STATUS_FIFO_LEVEL = 0) ∧
    (¬ended → Answers .freezeExpiry s fun d => d = d0) ∧
    Carries (.eventCatalogue q) s q 0 0x0102 .ok eventCatalogue [] (fun d => d.evrec = e0)

/-- Reading the recorder (R427): on either path a read of DATA0 latches the slot that READ_IDX names as one copy and
returns its first word, reads of DATA1 to DATA11 return the words of that copy, and a read of DATA11 advances
READ_IDX, from 32,767 to 0; the two paths' READ_IDX and latch are separate; and writes of CTRL and REPEAT_WIN by tack
code are ignored. -/
def Obligations.RecordsAreReadAsR427Says : Prop :=
  ∀ (s : State) (p : Path) (k : Nat) (v : Word) (t : Fin 144),
    let d0 := s.dev
    let own (d : Dev) : Prop := (p = .mgmt → ∀ u, d.evLatch (.tack u) = d0.evLatch (.tack u)) ∧
      (p ≠ .mgmt → d.evLatch .mgmt = d0.evLatch .mgmt)
    let reads (d : Dev) : Prop := d = { d0 with
        mgmt := { d0.mgmt with readData := d.mgmt.readData }
        evrec := { d0.evrec with
          latchMgmt := d.evrec.latchMgmt, idxMgmt := d.evrec.idxMgmt
          latchTack := d.evrec.latchTack, idxTack := d.evrec.idxTack } } ∧ own d
    Answers (.evrecData0 p) s (fun d => reads d ∧ (d.evLatch p).2 = (d0.evLatch p).2 ∧
      (∀ x, oget d0.evrec.ring (d0.evLatch p).2 = some x →
        d.mgmt.readData = x.seq ∧ (d.evLatch p).1 = leWords 12 x.bytes ∧ x.bytes.length = 48) ∧
      (oget d0.evrec.ring (d0.evLatch p).2 = none → d.mgmt.readData = 0 ∧ (d.evLatch p).1 = List.replicate 12 0)) ∧
    (1 ≤ k → k ≤ 10 → d0.readReg p (0x400018 + 4 * k) = (((d0.evLatch p).1[k]?).getD 0, d0)) ∧
    Answers (.evrecData11 p) s (fun d => reads d ∧ d.mgmt.readData = ((d0.evLatch p).1[11]?).getD 0 ∧
      d.evLatch p = ((d0.evLatch p).1, ((d0.evLatch p).2 + 1) % 32768)) ∧
    (d0.lit = true → Answers (.registerWrite (.tack t) 0x400004 v) s (fun d => d = d0) ∧
      Answers (.registerWrite (.tack t) 0x400058 v) s (fun d => d = d0))

/-! ### Historian (chapter 17) -/

/-- Drive sets (R433 to R435): a drive that fits mounts into its set, one that does not shows FAILED; a drive that leaves
fails its whole set, and with both sets failed the historian stops; a rebuild starts when the failed set is whole
again and ends with a copy of the other set; a format makes what a set held unreadable. Where the rules leave a point
open it states the model's own choices: log entries 113 and 160. -/
def Obligations.DriveSetsMountFailRebuildAndFormat : Prop :=
  ∀ (s : State) (bay : Fin 8) (x : Drive) (loss : DriveLoss) (j : Fin 2) (b id : Nat) (q : Req),
    let d0 := s.dev
    let k := bay.val / 4
    let setFld (n : Nat) : Fld := ⟨0x410000, 2 + n, 1⟩
    let st := R.HIST_DRV_STATUS_STATE
    let bayFlds := [R.HIST_DRV_STATUS_PRESENT bay, R.HIST_DRV_STATUS_LINK_UP bay, st bay, R.HIST_DRV_STATUS_WIDTH bay,
      R.HIST_DRV_STATUS_GEN bay, R.HIST_DRV_CAP bay, R.HIST_DRV_HEALTH_WEAR bay, R.HIST_DRV_HEALTH_TEMP bay]
    let setFlds := [setFld 0, setFld 1, R.HIST_STATUS_MOUNTED, R.SEC_STORAGE_SET0_KEY, R.SEC_STORAGE_SET1_KEY, R.HIST_CAPACITY]
    let shown (d : Dev) (state : Nat) : Prop := d.rd (R.HIST_DRV_STATUS_PRESENT bay) = 1 ∧ d.rd (st bay) = state ∧
      d.rd (R.HIST_DRV_CAP bay) = x.capGb % 2 ^ 32 ∧ d.rd (R.HIST_DRV_STATUS_WIDTH bay) = x.width % 16 ∧
      d.rd (R.HIST_DRV_STATUS_GEN bay) = x.gen % 16
    let formatted : List (Nat × Drive) :=
      d0.hist.drives.map fun p => if p.1 / 4 = j.val then (p.1, { p.2 with formatId := id }) else p
    (d0.alive = true →
      (x.formatOk = true → 0 < x.capGb → x.capGb ≤ 64000 → d0.hist.drives = [] → d0.setBays (1 - k) = [] →
        (d0.driveSet k).failed = false → Answers (.histDriveMount bay x) s fun d =>
          shown d 1 ∧ d.hist = { d0.hist with drives := [(bay.val, x)] } ∧ d.rd (setFld k) = 1 ∧ d.rd (setFld (1 - k)) = 0 ∧
            d.rd R.HIST_STATUS_MOUNTED = 1 ∧ d.rd R.HIST_CAPACITY = x.capGb ∧ OtherFields d0 d (bayFlds ++ setFlds) ∧
            Presents d0 d [(.histUnmirrored, source 11 bay)]) ∧
      (x.formatOk = false ∨ x.capGb = 0 ∨ 64000 < x.capGb → Answers (.histDriveMount bay x) s fun d =>
        shown d 2 ∧ OnlyFields d0 d bayFlds) ∧
      (oget d0.hist.drives bay = some x → (d0.driveSet k).failed = false → d0.on R.HIST_STATUS_REBUILDING = false →
        Answers (.histSetFailed bay loss) s fun d =>
          (d.driveSet k).failed = true ∧ d.driveSet (1 - k) = d0.driveSet (1 - k) ∧ oget d.hist.drives bay = none ∧
            d.rd (setFld k) = 0 ∧ d.rd R.HIST_STATUS_FAILED_SEEN = 1 ∧ d.rd (st bay) = (if loss = .removed then 0 else 2) ∧
            (loss = .removed → d.rd (R.HIST_DRV_STATUS_PRESENT bay) = 0) ∧
            (loss = .media → d.rd (R.HIST_DRV_ERR_MEDIA bay) = min (d0.rd (R.HIST_DRV_ERR_MEDIA bay) + 1) 65535) ∧
            Presents d0 d ((.histSetFailed, source 11 bay) ::
              (if (d0.driveSet (1 - k)).failed then [(.histStopped, source 0 0)] else [])))) ∧
    (oget d0.hist.drives bay = none → Answers (.histSetFailed bay loss) s fun d => d = d0) ∧
    ((d0.driveSet j).failed = true → (d0.driveSet (1 - j.val)).failed = false → d0.setOk (1 - j.val) = true →
      d0.setBays j = [b] → d0.rd (st b) = 1 → d0.on R.HIST_STATUS_REBUILDING = false → Answers .histRebuild s fun d =>
        (∀ p ∈ [(R.HIST_STATUS_REBUILDING, 1), (R.HIST_REBUILD_SET, j.val), (R.HIST_REBUILD_PERCENT, 0), (st b, 3)], d.rd p.1 = p.2) ∧
          OtherFields d0 d [R.HIST_STATUS_REBUILDING, R.HIST_REBUILD_SET, R.HIST_REBUILD_PERCENT, st b, R.HIST_REBUILD_ETA_H] ∧
          d = { d0 with regs := d.regs, free := d0.free + 1 }) ∧
    (d0.on R.HIST_STATUS_REBUILDING = true ∨ (d0.hist.set0.failed = false ∧ d0.hist.set1.failed = false) →
      Answers .histRebuild s fun d => d = d0) ∧
    (d0.on R.HIST_STATUS_REBUILDING = true → d0.rd R.HIST_REBUILD_SET = j → Answers .histRebuilt s fun d =>
      d.driveSet j = { d0.driveSet (1 - j.val) with failed := false } ∧ d.driveSet (1 - j.val) = d0.driveSet (1 - j.val) ∧
        d.hist.drives = d0.hist.drives ∧ d.rd R.HIST_STATUS_REBUILDING = 0 ∧ d.rd R.HIST_REBUILD_PERCENT = 100 ∧
        d.rd R.HIST_REBUILD_ETA_H = 0 ∧
        Presents d0 d [(.histRebuilt, source 0 0)]) ∧
    (d0.on R.HIST_STATUS_REBUILDING = false → Answers .histRebuilt s fun d => d = d0) ∧
    ((∀ n : Nat, n < 8 → d0.rd (st n) ≠ 2) →
      Carries (.histFormat q j id) s q 2 0x0311 .ok [] (setFlds ++ [R.HIST_OLDEST_LO, R.HIST_OLDEST_HI]) fun d =>
        d.driveSet j = { failed := (d0.driveSet j).failed } ∧ d.driveSet (1 - j.val) = d0.driveSet (1 - j.val) ∧
          d.hist.drives = formatted) ∧
    (d0.setBays j = [b] → d0.rd (st b) = 2 → (d0.driveSet j).failed = false → (∀ p ∈ d0.hist.drives, p.1 / 4 ≠ j.val) →
      0 < d0.rd (R.HIST_DRV_CAP b) → d0.rd (R.HIST_DRV_CAP b) ≤ 64000 →
      Carries (.histFormat q j id) s q 2 0x0311 .ok [] (st b :: setFlds ++ [R.HIST_OLDEST_LO, R.HIST_OLDEST_HI]) fun d =>
        d.rd (st b) = 1 ∧ d.rd (setFld j) = 1 ∧ ∃ y, oget d.hist.drives b = some y ∧ y.formatId = id ∧
          y.capGb = d0.rd (R.HIST_DRV_CAP b))

/-- Samples and aggregates (R436, R437, R440): the first RAW sample of a tag is stored on every set that is whole, one
that differs by no more than the deadband is not kept, and one that meets a full buffer is dropped and counted; a full
tier loses its oldest entries; at the end of an interval the tag's least, greatest, mean and last values are stored; a
historian that does not run does neither. Where the rules leave a point open it states the model's own choices: log
entries 111 and 112. -/
def Obligations.SamplesAndAggregatesAreStored : Prop :=
  ∀ (s : State) (tag : Nat) (use : DriveUse) (t : TagImg) (v : PubVar) (l : TagSample) (tier : Fin 3) (g : Agg),
    let d0 := s.dev
    let run := d0.tagRun tag
    let now := d0.pubValue t.var v
    let x : TagSample := { tag := tag, type := 0, quality := .restart, t := d0.timeT, value := now }
    let used := [(R.HIST_BUFFER_FILL, use.fill), (R.HIST_BUFFER_MAX, max (d0.rd R.HIST_BUFFER_MAX) use.fill),
      (R.HIST_USED, use.usedGb % 2 ^ 32), (R.HIST_RATE_LAST, min use.rateMbs 65535),
      (R.HIST_RATE_MAX, max (d0.rd R.HIST_RATE_MAX) (min use.rateMbs 65535)), (R.HIST_TIER_FULL_TIERS, use.tiersFull.toNat)]
    let showsOnly (d : Dev) (fs : List (Fld × Nat)) : Prop := (∀ p ∈ fs ++ used, d.rd p.1 = p.2) ∧
      OtherFields d0 d ([R.HIST_OLDEST_LO, R.HIST_OLDEST_HI] ++ (fs ++ used).map fun p => p.1)
    let start : DWord := BitVec.ofNat 64 ((d0.timeT.toNat / aggUnit tier - 1) * aggUnit tier)
    let four : List TagSample :=
      [{ tag := 0, type := 1, t := start, value := g.least }, { tag := 0, type := 2, t := start, value := g.greatest },
       { tag := 0, type := 3, t := start, value := g.mean (Config.varIsFloat v.type) },
       { tag := 0, type := 4, t := start, value := g.final }]
    (d0.alive = true → d0.histRunning = true → d0.tagOf tag = some (t, v) → testBit t.tiers 0 = true →
      d0.cycle.publishRead = true → use.tiersFull.getLsbD 0 = false → d0.on R.HIST_STATUS_BACKLOG = false →
      (use.fill ≤ 90 → run.last = none → run.gap = false → run.dropped = false → Answers (.histSample tag use) s fun d =>
        d.hist.set0.raw = (if d0.setOk 0 then d0.hist.set0.raw ++ [x] else d0.hist.set0.raw) ∧
          d.hist.set1.raw = (if d0.setOk 1 then d0.hist.set1.raw ++ [x] else d0.hist.set1.raw) ∧
          d.tagRun tag = { run with last := some x } ∧ (∀ k, k ≠ tag → d.tagRun k = d0.tagRun k) ∧
          (∀ p ∈ used, d.rd p.1 = p.2) ∧ d.rd R.HIST_STATUS_BACKLOG = 0 ∧ d.cycle = d0.cycle ∧ Presents d0 d []) ∧
      (use.tiersFull = 0 → use.fill ≤ 90 → run.last = some l → run.gap = false → run.dropped = false → l.quality = .good →
        beyond (Config.varIsFloat v.type) now l.value t.deadband = false →
        (d0.timeT - l.t).toNat < t.maxInterval * 1000000 → Answers (.histSample tag use) s fun d =>
          showsOnly d [(R.HIST_STATUS_BACKLOG, 0)] ∧ d = { d0 with regs := d.regs }) ∧
      (use.tiersFull = 0 → 90 < use.fill → use.fill < 256 → Answers (.histSample tag use) s fun d =>
        showsOnly d [(R.HIST_STATUS_BACKLOG, 1), (R.HIST_DROPPED, min (d0.rd R.HIST_DROPPED + 1) (2 ^ 32 - 1))] ∧
          d.tagRun tag = { run with dropped := true } ∧ d.hist.set0 = d0.hist.set0 ∧ d.hist.set1 = d0.hist.set1 ∧
          Presents d0 d [(.histBacklog, source 0 0)])) ∧
    (d0.alive = true → d0.histRunning = true → d0.tagOf tag = some (t, v) → d0.setOk 0 = true → use.tiersFull = 1 →
      90 < use.fill → Answers (.histSample tag use) s fun d =>
        d.hist.set0 = { d0.hist.set0 with raw := d0.hist.set0.raw.drop ((use.overwritten[0]?).getD 0) } ∧
          d.rd R.HIST_TIER_FULL_TIERS = 1) ∧
    (d0.alive = true → d0.histRunning = true → d0.tagCount = 1 → d0.tagOf 0 = some (t, v) →
      aggOf (d0.tagRun 0) tier = some g → testBit t.tiers (tier.val + 1) = true → Answers (.histAggregate tier) s fun d =>
        aggOf (d.tagRun 0) tier = none ∧ (d.tagRun 0).last = (d0.tagRun 0).last ∧ d.regs = d0.regs ∧
          d.hist.set0 = (if d0.setOk 0 then d0.hist.set0.addTier tier four else d0.hist.set0) ∧
          d.hist.set1 = (if d0.setOk 1 then d0.hist.set1.addTier tier four else d0.hist.set1)) ∧
    (d0.histRunning = false → Answers (.histSample tag use) s (fun d => d = d0) ∧
      Answers (.histAggregate tier) s (fun d => d = d0))

/-- Export (R439 to R441, R444): up to 16 sessions; a query answers the stored records that it names, of samples in their
layout and of events; up to 8 streams; a message takes 1,024 samples of an FA channel or of an awl node, and carries
the next number, also when it is dropped. Where the rules leave a point open it states the model's own choices: log
entries 110 and 113. -/
def Obligations.ExportAnswersAndStreams : Prop :=
  ∀ (s : State) (n stream : Nat) (tags : List Nat) (t0 t1 : DWord) (tier : Fin 4) (byTime : Bool) (minSev : Fin 8)
      (fa : List (Fin 32)) (awl ok : Bool) (x : Stream) (place : Fin 32) (v : BitVec 16) (q : List (DWord × BitVec 16)),
    let d0 := s.dev
    let e0 := d0.hist
    let quality (q : Quality) : Byte := match q with
      | .good => 0 | .gap => 1 | .dropped => 2 | .restart => 3
    let layout (y : TagSample) : List Byte := leBytes 4 y.tag ++ [BitVec.ofNat 8 y.type, quality y.quality, 0, 0] ++
      leBytes 8 y.t.toNat ++ leBytes 8 y.value.toNat
    let asked (y : TagSample) : Bool := tags.contains y.tag && t0.toNat ≤ y.t.toNat && y.t.toNat ≤ t1.toNat
    let inRange (r : EvRec) : Prop :=
      if byTime then t0.toNat ≤ r.tFirst.toNat ∧ r.tFirst.toNat ≤ t1.toNat
      else (r.seq - w32 t0.toNat).toNat ≤ (w32 t1.toNat - w32 t0.toNat).toNat
    let onlyReplied (d : Dev) : Prop := OtherFields d0 d [R.HIST_EXPORT_LAST, R.HIST_EXPORT_MAX] ∧
      d = { d0 with regs := d.regs, hist := { e0 with response := d.hist.response, exported := d.hist.exported } } ∧
      (d0.now, d.hist.response.length) ∈ d.hist.exported
    let c := place.val
    let sent (g : Stream → Stream) := e0.streams.map fun y => if y.id = stream then g { y with next := y.next + 1 } else y
    let message (a : Bool) (t : DWord) (samples : List (BitVec 16)) := [BitVec.ofNat 8 (if a then 0x80 + c else c), 0] ++ leBytes 2 1024 ++ leBytes 4 x.next.toNat ++
      leBytes 8 t.toNat ++ samples.flatMap (fun v => leBytes 2 v.toNat)
    let leaves (a : Bool) (t : DWord) (samples : List (BitVec 16)) (g : Stream → Stream) : Prop :=
      Answers (.streamMessage n stream a place true) s (fun d => d.hist.streams = sent g ∧ d.hist.message = message a t samples ∧
        d.hist.sessions = e0.sessions ∧ OtherFields d0 d [R.HIST_EXPORT_LAST, R.HIST_EXPORT_MAX]) ∧
      Answers (.streamMessage n stream a place false) s fun d => d = { d0 with hist := { e0 with streams := sent g } }
    let n0 := sget (fun _ => 0) x.sent c
    let ws := (d0.loop.awl.buffer.drop n0).take 512
    let closed := e0.streams.filter fun y => !(y.id = stream && y.session = n)
    (d0.alive = true → n ∉ e0.sessions →
      (ok = false → Answers (.histSessionOpen n ok) s fun d => d = d0) ∧
      (ok = true → e0.sessions.length < 16 → Answers (.histSessionOpen n ok) s fun d =>
        d = { d0 with regs := d.regs, hist := { e0 with sessions := e0.sessions ++ [n] } } ∧
          Sets d0 d [(R.HIST_SESSIONS_OPEN, e0.sessions.length + 1)]) ∧
      (ok = true → 16 ≤ e0.sessions.length → Answers (.histSessionOpen n ok) s fun d =>
        SetsOnly d0 d [(R.HIST_SESSIONS_REFUSED, min (d0.rd R.HIST_SESSIONS_REFUSED + 1) 65535)])) ∧
    (n ∈ e0.sessions → tags.length ≤ 256 → d0.setOk 0 = true → Answers (.tagQuery n tags t0 t1 tier) s fun d =>
      (∃ ys : List TagSample, ys.Perm ((e0.set0.tier tier).filter asked) ∧
        ys.Pairwise (fun a b => a.t.toNat ≤ b.t.toNat) ∧ d.hist.response = ys.flatMap layout) ∧ onlyReplied d) ∧
    (n ∉ e0.sessions ∨ 256 < tags.length → Answers (.tagQuery n tags t0 t1 tier) s fun d => d = d0) ∧
    (n ∈ e0.sessions → d0.setOk 0 = true → Answers (.eventQuery n byTime t0 t1 minSev) s fun d => onlyReplied d ∧
      ∃ rs : List EvRec, d.hist.response = rs.flatMap EvRec.bytes ∧
        ∀ r, r ∈ rs ↔ r ∈ e0.set0.events ∧ inRange r ∧ minSev ≤ r.sev) ∧
    (n ∉ e0.sessions → Answers (.eventQuery n byTime t0 t1 minSev) s (fun d => d = d0) ∧
      Answers (.streamOpen n stream fa awl) s (fun d => d = d0)) ∧
    (n ∈ e0.sessions → e0.streams.length < 8 → fa.length ≤ 8 → (∀ y ∈ e0.streams, y.id ≠ stream) →
      Answers (.streamOpen n stream fa awl) s fun d =>
        d = { d0 with regs := d.regs, hist := { e0 with streams := e0.streams ++
          [{ id := stream, session := n, fa := fa.map (·.val), awl := awl, next := 0 }] } } ∧
          Sets d0 d [(R.HIST_SESSIONS_STREAMS, e0.streams.length + 1)]) ∧
    (8 ≤ e0.streams.length → Answers (.streamOpen n stream fa awl) s fun d => d = d0) ∧
    Answers (.streamClose n stream) s (fun d =>
      d = { d0 with regs := d.regs, hist := { e0 with streams := closed } } ∧
        Sets d0 d [(R.HIST_SESSIONS_STREAMS, closed.length % 16)]) ∧
    (e0.streams.find? (fun y => y.id = stream && y.session = n) = some x →
      (c ∈ x.fa → sget (fun _ => []) x.waiting c = (t0, v) :: q → 1023 ≤ q.length →
        leaves false t0 (v :: (q.take 1023).map (·.2)) fun y =>
          { y with waiting := oput y.waiting c ((sget (fun _ => []) y.waiting c).drop 1024) }) ∧
      ((c ∈ x.fa → (sget (fun _ => []) x.waiting c).length < 1024) →
        Answers (.streamMessage n stream false place ok) s fun d => d = d0) ∧
      (x.awl = true → c < 4 → ws.length = 512 → d0.loop.awl.times[n0]? = some t0 →
        leaves true t0 (ws.flatMap fun w =>
            let u := (w[c]?).getD 0
            [BitVec.ofNat 16 (u.toNat % 65536), BitVec.ofNat 16 (u.toNat / 65536)]) fun y =>
          { y with sent := oput y.sent c (sget (fun _ => 0) y.sent c + 512) }) ∧
      ((x.awl = true → c < 4 → ws.length < 512) → Answers (.streamMessage n stream true place ok) s fun d => d = d0)) ∧
    ((∀ y ∈ e0.streams, ¬(y.id = stream ∧ y.session = n)) → Answers (.streamMessage n stream awl place ok) s fun d => d = d0)

/-! ### Management plane (chapter 18) -/

/-- Sessions (R451, R452): a session opens for a certificate that the client table lists, or at X6 on a module without
owner; a refused one is counted, and the sixteenth refusal of an address within 60 s blocks it; a blocked address gets
no session until its block expires after 300 s; a session closes by its client or when it has been idle for 300 s. The
checks of a request in their order (R448, R454 to R456), on the request for the status catalogue: without an open
session nothing happens; a bad header is BAD_REQUEST and closes the session; another client, a session without the
right, a running request with the same ID, a stored result, and eight running requests each have their answer; of
these only a stored result with the same digest repeats an answer, and none is recorded again. Where the rules leave a
point open it states the model's own choices: log entries 12, 13 and 114. -/
def Obligations.SessionsAndRequestsAreChecked : Prop :=
  (∀ (s : State) (h : ClientHello) (im : Image) (c : ClientEntry) (n : Nat),
     let d0 := s.dev
     let m0 := d0.mgmt
     let free : Prop := d0.alive = true ∧ m0.sessions.length < 16 ∧ d0.session h.session = none ∧
       (∀ p ∈ m0.blocked, p.1 ≠ h.ip)
     let unchecked := (R.SEC_STATUS_DATES_UNCHECKED, bit !d0.datesChecked)
     let opened (d : Dev) (client : Word) (rights : Nat) (unowned : Bool) : Prop :=
       Sets d0 d [unchecked, (R.SEC_CLIENTS_SESSIONS, m0.sessions.length + 1)] ∧
         d = { d0 with regs := d.regs, mgmt := { m0 with sessions := m0.sessions ++
           [{ id := h.session, client := client, rights := rights, ip := h.ip, unowned := unowned, lastUse := d0.now }] } }
     let failed := min (d0.rd R.SEC_AUTH_FAIL_COUNT + 1) 65535
     let left := m0.sessions.filter fun x => x.id ≠ n
     let unblocked := m0.blocked.filter fun p => p.1 ≠ n ∨ d0.since p.2 < 300 * 1000000000
     let closes (i : Instr) : Prop := Answers i s fun d =>
       d = { d0 with regs := d.regs, mgmt := { m0 with sessions := left } } ∧
         Sets d0 d [(R.SEC_CLIENTS_SESSIONS, left.length % 32)]
     (free → d0.trust.owner = none → h.x6 = true → Answers (.sessionOpen h) s fun d => opened d 0 1 true) ∧
     (free → d0.trust.owner.isSome = true → d0.hrn.image = some im → (∃ k ≤ 3, h.levels = some k) →
       h.serial ∉ im.security.revoked → (d0.datesChecked = true →
         h.notBefore ≤ d0.timeT.toNat / 1000000000 ∧ d0.timeT.toNat / 1000000000 ≤ h.notAfter) →
       im.security.clients.find? (fun x => x.digest16 = h.digest16) = some c →
       Answers (.sessionOpen h) s fun d => opened d c.id c.rights false) ∧
     (free → (d0.trust.owner = none ∧ h.x6 = false) ∨ (d0.trust.owner.isSome = true ∧
         (h.levels = none ∨ (∃ k > 3, h.levels = some k) ∨ d0.hrn.image = none ∨
           (d0.hrn.image = some im ∧ h.serial ∈ im.security.revoked))) →
       (m0.refusals = [] → Answers (.sessionOpen h) s fun d =>
         d.mgmt = { m0 with refusals := [(h.ip, d0.now)] } ∧ Sets d0 d [unchecked, (R.SEC_AUTH_FAIL_COUNT, failed)] ∧
           Presents d0 d [(.authFail, source 14 0)]) ∧
       (m0.refusals.length = 15 → (∀ p ∈ m0.refusals, p.1 = h.ip ∧ d0.since p.2 ≤ 60 * 1000000000) →
         Answers (.sessionOpen h) s fun d =>
           d.mgmt = { m0 with refusals := [], blocked := m0.blocked ++ [(h.ip, d0.now)] } ∧
             Sets d0 d [unchecked, (R.SEC_AUTH_FAIL_COUNT, failed),
               (R.SEC_AUTH_FAIL_BLOCKED, min (m0.blocked.length + 1) 65535)] ∧
             Presents d0 d [(.authFail, source 14 0)])) ∧
     ((∃ p ∈ m0.blocked, p.1 = h.ip) → Answers (.sessionOpen h) s fun d => d = d0) ∧
     closes (.sessionClose n) ∧
     (∀ x, d0.session n = some x →
       (300 * 1000000000 ≤ d0.since x.lastUse → closes (.sessionIdleTimeout n)) ∧
       (d0.since x.lastUse < 300 * 1000000000 → Answers (.sessionIdleTimeout n) s fun d => d = d0)) ∧
     (d0.session n = none → Answers (.sessionIdleTimeout n) s fun d => d = d0) ∧
     Answers (.addressBlockExpiry n) s (fun d =>
       d = { d0 with regs := d.regs, mgmt := { m0 with blocked := unblocked } } ∧
         Sets d0 d [(R.SEC_AUTH_FAIL_BLOCKED, min unblocked.length 65535)])) ∧
  (∀ (s : State) (q : Req) (x : Session) (y : Running) (z : Done),
     let d0 := s.dev
     let m0 := d0.mgmt
     let answered (d : Dev) (st : Status) (dup trunc : Bool) (body : List Byte) : Prop :=
       d.mgmt.response = some { opcode := 0x0103, status := st, client := q.client, id := q.id, duplicate := dup
                                truncated := trunc, body := body } ∧
         d.mgmt.completed = m0.completed ∧ d.mgmt.running = m0.running ∧
         d = { d0 with regs := d.regs, mgmt := { m0 with sessions := d.mgmt.sessions, response := d.mgmt.response } }
     let good : Prop := q.magic = 0x31474D4E ∧ q.length ≤ 1048576
     let its : Prop := d0.alive = true ∧ d0.session q.session = some x
     let mine : Prop := x.unowned = true ∨ q.client = x.client
     let may : Prop := testBit x.rights 0 = true
     let c : Instr := .statusCatalogue q
     (d0.alive = false ∨ d0.session q.session = none → Answers c s fun d => d = d0) ∧
     (its →
       (¬good → Answers c s fun d => answered d .badRequest false false [] ∧ d.session q.session = none) ∧
       (good → ¬mine → Answers c s fun d => answered d .clientMismatch false false [] ∧ d.regs = d0.regs) ∧
       (good → mine → ¬may → Answers c s fun d => answered d .notPermitted false false [] ∧ d.regs = d0.regs) ∧
       (good → mine → may → m0.running = [y] → y.client = q.client → y.id = q.id →
         (y.digest = q.digest → Answers c s fun d => answered d .inProgress false false [] ∧
           Sets d0 d [(R.SEC_DUPLICATES_IN_PROGRESS, min (d0.rd R.SEC_DUPLICATES_IN_PROGRESS + 1) 65535)]) ∧
         (y.digest ≠ q.digest → Answers c s fun d => answered d .idReused false false [] ∧ d.regs = d0.regs)) ∧
       (good → mine → may → m0.running = [] → m0.completed = [z] → z.client = q.client → z.id = q.id →
         d0.since z.at_ ≤ 600 * 1000000000 →
         (z.digest = q.digest → Answers c s fun d => answered d z.status true z.body.isNone (z.body.getD []) ∧
           Sets d0 d [(R.SEC_DUPLICATES_DUPLICATE, min (d0.rd R.SEC_DUPLICATES_DUPLICATE + 1) 65535)]) ∧
         (z.digest ≠ q.digest → Answers c s fun d => answered d .idReused false false [] ∧ d.regs = d0.regs)) ∧
       (good → mine → may → m0.completed = [] → m0.running.length = 8 →
         (∀ r ∈ m0.running, r.client = q.client ∧ r.id ≠ q.id) → Answers c s fun d =>
           answered d .busy false false [] ∧ d.regs = d0.regs)) ∧
     Carries c s q 0 0x0103 .ok Config.statusCatalogue [] (fun d => OnlyAnswered d0 d))

/-- Pending changes (R459 to R463): a proposal takes a slot and the next ID, or answers that of the same change; an
approval is checked for its key, its signature and its signer; the second of two live ones approves; a change can be
withdrawn, and it lapses 3,600 s after its creation, or after its approval. Where the rules leave a point open it
states the model's own choices: log entry 117. -/
def Obligations.PendingChangesAreProposedApprovedAndEnd : Prop :=
  ∀ (s : State) (q : Req) (kind : Byte) (subject : BitVec 384) (k : Nat) (p : Pending) (id : Word) (i : Nat) (sig : Sig)
      (key : PubKey) (b : Approval),
    let d0 := s.dev
    let m0 := d0.mgmt
    let next : Word := w32 (max 1 (d0.rd R.SEC_PEND_NEXT))
    let kd := kind.toNat
    let legal : Prop := 0 < kd ∧ kd ≤ 5
    let fresh : Pending := { id := next, kind := kd, subject := subject, state := .proposed, approvals := [], created := d0.timeT }
    let a : Approval := { keyIndex := i, key := key, sig := sig, t := d0.timeT }
    let held : Prop := m0.pend = [(k, p)] ∧ k < 8 ∧ p.id = id ∧ p.state = .proposed
    let signed : Bool := ecdsaVerify key (sha384 (statementBytes 0x31565041 d0.ownerFp (BitVec.ofNat 8 p.kind) d0.pairByte
      p.id p.subject)) sig
    let lapses (since : DWord) : Prop :=
      (3600 * 1000000000 ≤ (d0.timeT - since).toNat → Answers (.pendingLapse id) s fun d =>
        PendIs d0 d k { p with state := .lapsed } ∧ OtherFields d0 d (pendFlds k) ∧
          Presents d0 d [(.pendingState, source 0 0)]) ∧
      ((d0.timeT - since).toNat < 3600 * 1000000000 → Answers (.pendingLapse id) s fun d => d = d0)
    let from_ := source 14 q.client.toNat
    (kd = 0 ∨ 5 < kd → Carries (.propose q kind subject) s q 4 0x0501 .badRequest [] [] fun d => OnlyAnswered d0 d) ∧
    (legal → (∀ x ∈ m0.pend, x.2.open_ = false) → k < 8 → oget m0.pend k = none → (∀ j < k, (oget m0.pend j).isSome) →
      Carries (.propose q kind subject) s q 4 0x0501 .ok (leBytes 4 next.toNat) (R.SEC_PEND_NEXT :: pendFlds k) fun d =>
        PendIs d0 d k fresh ∧ d.rd R.SEC_PEND_NEXT = (next.toNat + 1) % 2 ^ 32 ∧ Presents d0 d [(.pendingState, source 0 0)]) ∧
    (legal → m0.pend = [(k, p)] → p.open_ = true → p.kind = kd → p.subject = subject →
      Carries (.propose q kind subject) s q 4 0x0501 .ok (leBytes 4 p.id.toNat) [] fun d => OnlyAnswered d0 d) ∧
    (legal → (∀ j < 8, (oget m0.pend j).isSome) → (∀ x ∈ m0.pend, x.2.open_ = true ∧ x.2.kind ≠ kd) →
      Carries (.propose q kind subject) s q 4 0x0501 .pendingFull [] [] fun d => OnlyAnswered d0 d) ∧
    ((∀ x ∈ m0.pend, x.2.id ≠ id ∨ x.2.open_ = false) →
      Carries (.approve q id i sig) s q 3 0x0401 .unknownPending [] [] (fun d => OnlyAnswered d0 d) ∧
      Carries (.withdraw q id) s q 4 0x0502 .unknownPending [] [] (fun d => OnlyAnswered d0 d) ∧
      Answers (.pendingLapse id) s (fun d => d = d0)) ∧
    (held →
      (d0.approvers[i]? = none → Carries (.approve q id i sig) s q 3 0x0401 .approverUnknown [] [] fun d => OnlyAnswered d0 d) ∧
      (d0.approvers[i]? = some key →
        (signed = false → Carries (.approve q id i sig) s q 3 0x0401 .signatureBad [] [] fun d => OnlyAnswered d0 d) ∧
        (signed = true → b ∈ p.approvals → b.key = key → (d0.timeT - b.t).toNat ≤ 600 * 1000000000 →
          Carries (.approve q id i sig) s q 3 0x0401 .sameApprover [] [] fun d => OnlyAnswered d0 d) ∧
        (signed = true → p.approvals = [] → Carries (.approve q id i sig) s q 3 0x0401 .ok [] (pendFlds k) fun d =>
          PendIs d0 d k { p with approvals := [a] } ∧ Presents d0 d [(.approval, from_)]) ∧
        (signed = true → p.approvals = [b] → b.key ≠ key → (d0.timeT - b.t).toNat ≤ 600 * 1000000000 →
          Carries (.approve q id i sig) s q 3 0x0401 .ok [] (pendFlds k) fun d =>
            PendIs d0 d k { p with approvals := [b, a], approvedAt := d0.timeT, state := .approved } ∧
              Presents d0 d [(.approval, from_), (.pendingState, source 0 0)])) ∧
      Carries (.withdraw q id) s q 4 0x0502 .ok [] (pendFlds k) (fun d =>
        PendIs d0 d k { p with state := .withdrawn } ∧ Presents d0 d [(.pendingState, source 0 0)]) ∧
      lapses p.created ∧
      (p.approvals = [b] → (d0.timeT - b.t).toNat ≤ 600 * 1000000000 → Answers .approvalLapse s fun d =>
        PendIs d0 d k p ∧ OtherFields d0 d (pendFlds k)) ∧
      (p.approvals = [b] → 600 * 1000000000 < (d0.timeT - b.t).toNat → Answers .approvalLapse s fun d =>
        PendIs d0 d k { p with approvals := [] } ∧ OtherFields d0 d (pendFlds k))) ∧
    (m0.pend = [(k, p)] → k < 8 → p.id = id → p.state = .approved → lapses p.approvedAt) ∧
    ((∀ x ∈ m0.pend, x.2.state ≠ .proposed) → Answers .approvalLapse s fun d => d = d0)

/-- Trust and ownership (R447 to R450, R465, R466): a firmware copy is written under an approved change; the report of an
attestation; a certificate request and a certificate for the TLS key; an owner is enrolled in STOPPED, with the cover
open and a record that verifies, and released in STOPPED under an approved change. Where the rules leave a point open
it states the model's own choices: log entries 115, 116, 117 and 161. -/
def Obligations.FirmwareCertificatesAndOwnership : Prop :=
  ∀ (s : State) (q : Req) (copy : FwCopy) (k : Nat) (p : Pending) (nonce : BitVec 256) (cert : TlsCert) (key : PubKey)
      (e : EnrolRecord) (right : Nat),
    let d0 := s.dev
    let t0 := d0.trust
    let other := 1 - t0.fwRunning
    let fp := match d0.hrn.image with | some im => im.fp.toNat | none => 0
    let report : List Byte := beBytes 32 nonce.toNat ++ leBytes 4 (d0.rd R.SERIAL) ++ leBytes 4 (d0.word 0).toNat ++
      leBytes 4 (d0.word 4).toNat ++ beBytes 48 d0.fwCopy.digest.toNat ++ leBytes 4 (d0.word 0x80001C).toNat ++
      beBytes 16 fp ++ leBytes 4 t0.minSecver.toNat ++ beBytes 16 d0.ownerFp.toNat ++ leBytes 4 (d0.word 0x80).toNat ++
      [BitVec.ofNat 8 d0.role.code] ++ leBytes 4 d0.twin.epoch.toNat ++ leBytes 8 d0.timeT.toNat
    let serial : BitVec 384 := BitVec.ofNat 384 (sha384 (leBytes 4 (d0.rd R.SERIAL)))
    let used : Pending := { p with state := .consumed }
    let owner : Owner := { rootKey := e.rootKey, rootFp := e.rootFp, ca := e.ca, harnessKeys := e.harnessKeys
                           approvers := e.approvers, wrapKey := e.wrapKey }
    let counted : Prop := 0 < e.harnessKeys.length ∧ e.harnessKeys.length ≤ 8 ∧ 2 ≤ e.approvers.length ∧ e.approvers.length ≤ 16 ∧
      recordSpelled e = true
    let signed : Prop := ecdsaVerify e.rootKey (sha384 e.bytes) e.rootSig = true ∧ d0.enrolApproved e = true
    let cover := d0.on R.KEEPER_COVER_OPEN
    let turnedAway (st : Status) : Prop := UnownedRequest s q → Answers (.enrol q e) s fun d =>
      Replied d 0x0601 q st [] ∧ d.trust = t0 ∧ d.role = d0.role
    (d0.role = .stopped ∨ d0.role = .standby → HoldsApproved d0 k p 4 copy.digest →
      Carries (.fwUpdate q copy) s q 2 0x0312 .ok [] (R.SEC_STATUS_FW_PENDING :: pendFlds k) fun d =>
        d.trust = { t0 with fw := t0.fw.set other copy, fwFirst := other } ∧ d.rd R.SEC_STATUS_FW_PENDING = 1 ∧
          PendIs d0 d k used ∧ Presents d0 d [(.pendingState, source 0 0)]) ∧
    (d0.role = .stopped ∨ d0.role = .standby → d0.mgmt.pend = [] →
      Carries (.fwUpdate q copy) s q 2 0x0312 (.hrn 12) [] [] fun d => OnlyAnswered d0 d ∧ d.trust = t0) ∧
    (d0.role = .active ∨ d0.role = .solo → Carries (.fwUpdate q copy) s q 2 0x0312 .notPermitted [] [] fun d =>
      OnlyAnswered d0 d ∧ d.trust = t0) ∧
    Carries (.attest q nonce) s q 0 0x0104 .ok (report ++ Config.attestProof report) [R.SEC_ATTEST] (fun d =>
      d.rd R.SEC_ATTEST = (d0.rd R.SEC_ATTEST + 1) % 2 ^ 32 ∧ OnlyAnswered d0 d) ∧
    (t0.tlsKey = none →
      Carries (.csr q) s q 4 0x0503 .notEnrolled [] [] (fun d => OnlyAnswered d0 d) ∧
      Carries (.installCert q cert) s q 4 0x0504 .notEnrolled [] [] (fun d => OnlyAnswered d0 d ∧ d.trust = t0)) ∧
    (t0.tlsKey = some key →
      Carries (.csr q) s q 4 0x0503 .ok (Config.csrBody key) [] (fun d => OnlyAnswered d0 d) ∧
      (cert.chains = false ∨ cert.key ≠ key → Carries (.installCert q cert) s q 4 0x0504 .badRequest [] [] fun d =>
        OnlyAnswered d0 d ∧ d.trust = t0) ∧
      (cert.chains = true → cert.key = key → Carries (.installCert q cert) s q 4 0x0504 .ok [] trustFlds fun d =>
        d.trust = { t0 with tlsCert := some cert } ∧ d.rd R.SEC_STATUS_TLS_CERT = 1)) ∧
    (d0.role ≠ .stopped → turnedAway .notPermitted) ∧
    (d0.role = .stopped → cover = false → turnedAway .presenceRequired) ∧
    (d0.role = .stopped → cover = true → ¬counted → turnedAway .badRequest) ∧
    (d0.role = .stopped → cover = true → counted → ¬signed → turnedAway .signatureBad) ∧
    (d0.role = .stopped → cover = true → counted → signed → Config.wrapKeyUnwraps e.wrapKey = false → turnedAway .badRequest) ∧
    (d0.role = .stopped → cover = true → counted → signed → Config.wrapKeyUnwraps e.wrapKey = true → UnownedRequest s q →
      Answers (.enrol q e) s fun d => Replied d 0x0601 q .ok [] ∧
        d.trust = { t0 with
          owner := some owner, tlsKey := some (Config.tlsKey d0.free), tlsCert := none
          minSecver := if t0.minSecver.toNat < e.minSecver.toNat then e.minSecver else t0.minSecver } ∧
        d.rd R.SEC_STATUS_OWNER = 1 ∧ d.rd R.SEC_STATUS_TLS_CERT = 0 ∧ d.rd R.SEC_MIN_SECVER = d.trust.minSecver.toNat ∧
        Presents d0 d [(.ownerEnrolled, source 0 0)]) ∧
    (FreshRequest s q right → Answers (.enrol q e) s fun d => d.trust = t0 ∧ d.regs = d0.regs ∧ ∃ r,
      d.mgmt.response = some r ∧ r.status = .notPermitted ∧ r.client = q.client ∧ r.id = q.id) ∧
    (d0.role ≠ .stopped → Carries (.releaseOwner q) s q 4 0x0505 .notPermitted [] [] fun d => OnlyAnswered d0 d ∧ d.trust = t0) ∧
    (d0.role = .stopped → d0.mgmt.pend = [] → Carries (.releaseOwner q) s q 4 0x0505 (.hrn 12) [] [] fun d =>
      OnlyAnswered d0 d ∧ d.trust = t0) ∧
    (d0.role = .stopped → HoldsApproved d0 k p 5 serial → FreshRequest s q 4 → Answers (.releaseOwner q) s fun d =>
      Replied d 0x0505 q .ok [] ∧ d.trust = { t0 with owner := none, tlsKey := none, tlsCert := none } ∧
        d.hrn = { d0.hrn with image := none } ∧ PendIs d0 d k used ∧ d.rd R.SEC_STATUS_OWNER = 0 ∧
        d.rd R.SEC_STATUS_KW_OK = 0 ∧ d.rd R.SEC_STATUS_CAK_OK = 0 ∧ d.rd R.SEC_CLIENTS_TABLE = 0 ∧
        d.rd R.SEC_REVOKED_COUNT = 0 ∧ d.role = .stopped)

/-! ### Self-test, repair, flash and tag (chapter 19) -/

/-- Self-test and repair (R467 to R476, R481): a shutdown test starts in STOPPED only and powers the clusters; at its end
what it found is shown, a failed tile enters the soft map, and the seal is written unless the test was not valid;
fuses are burned entry by entry with switch 6 of K1 on; CLEAR_SOFT waits for the next start; a failed block is
replaced from the pool until the flash is worn; and a completed erase is counted. Where the rules leave a point open
it states the model's own choices: log entries 37, 121, 122, 123, 124, 125 and 147. -/
def Obligations.TestsRepairsAndFlash : Prop :=
  ∀ (s : State) (f : TestFindings) (t : Fin 144) (m : RepairMap) (e : RepairEntry) (es : List RepairEntry) (b : Fin 8192)
      (erase : Bool),
    let d0 := s.dev
    let l0 := d0.life
    let failFld := if erase then R.LIFE_FLASH_ERR_ERASE_FAIL else R.LIFE_FLASH_ERR_PROG_FAIL
    let low := (l0.pool - 1 < 64 : Bool)
    let ended (d : Dev) (result : Nat) : Prop :=
      d.rd R.LIFE_SELFTEST_KIND = 1 ∧ d.rd R.LIFE_SELFTEST_RESULT = result ∧ d.rd R.LIFE_SELFTEST_CAUSE = f.cause ∧
        d.rd R.LIFE_SELFTEST_FAILS = min f.count 255 ∧ d.rd R.LIFE_ST_TIME_LAST_MS = min f.ms 65535 ∧
        d.rd R.LIFE_STATUS_TESTING = 0 ∧ d.rd R.LIFE_STATUS_SHUTDOWN_READY = 1 ∧ d.life.testing = false ∧
        (∀ k : Nat, k < 9 → d.rd (R.FAB_STATUS_POWERED k) = 0) ∧ (∀ k : Nat, k < 144 → d.rd (R.TILE_STATUS_POWERED k) = 0)
    let sealed (d : Dev) : Prop := d.life.sealMark = some
        { fw := d0.fwWord, digest := Config.repairDigest d.life.soft, findings := f.count, t := d0.timeT
          crc := crc32 (leBytes 4 d0.fwWord.toNat ++ leBytes 4 (Config.repairDigest d.life.soft).toNat ++
            leBytes 4 f.count ++ leBytes 8 d0.timeT.toNat) } ∧
      d.rd R.LIFE_SEAL_PRESENT = 1
    (d0.role ≠ .stopped → Answers .shutdownTest s (fun d => SetsOnly d0 d [(R.LIFE_SELFTEST_REFUSED, 1)]) ∧
      Answers .clearSoft s (fun d => d = d0)) ∧
    (d0.role = .stopped → l0.testing = true → Answers .shutdownTest s fun d => d = d0) ∧
    (d0.role = .stopped → d0.alive = true → l0.testing = false →
      Answers .shutdownTest s (fun d => d.rd R.LIFE_STATUS_TESTING = 1 ∧ d.rd R.LIFE_STATUS_SHUTDOWN_READY = 0 ∧
        (∀ k : Nat, k < 9 → d.rd (R.FAB_STATUS_POWERED k) = 1) ∧ (∀ k : Nat, k < 144 → d.rd (R.TILE_STATUS_POWERED k) = 1) ∧
        d = { d0 with regs := d.regs, life := { l0 with testing := true, testStart := d0.now } }) ∧
      Answers .clearSoft s (fun d => d = { d0 with life := { l0 with clearNext := true } })) ∧
    (f.wellFormed = true → l0.testing = false → Answers (.shutdownTestDone f) s fun d => d = d0) ∧
    (f.wellFormed = false → Answers (.shutdownTestDone f) s fun d => d = d0) ∧
    (f.wellFormed = true → d0.role = .stopped → l0.testing = true →
      (f.cause ≠ 0 → Answers (.shutdownTestDone f) s fun d => ended d 3 ∧ d.life = { l0 with testing := false }) ∧
      (f.cause = 0 → f.spares = [] → f.tiles = [] → f.links = [] → l0.map.isSome = true → d0.poolEmpty = false →
        (∀ n < 9, d0.covered n = true) → Answers (.shutdownTestDone f) s fun d =>
          ended d 0 ∧ sealed d ∧ d.life.map = l0.map ∧ ∀ k : Nat, k < 5 → d.rd (R.LIFE_ST_TILES k) = 0) ∧
      (f.cause = 0 → f.spares = [] → f.tiles = [t] → f.links = [] → l0.map0 = some m → l0.map1 = none → m.entries = [] →
        l0.fused = [] → d0.poolEmpty = false → d0.roleOfTile t = 0 → Answers (.shutdownTestDone f) s fun d =>
          ended d 1 ∧ sealed d ∧ d.life.map1 = some ⟨m.seq + 1, [.tile t]⟩ ∧ d.life.soft = [.tile t] ∧
            (∀ k : Nat, k < 5 → d.rd (R.LIFE_ST_TILES k) = if k = t.val / 32 then 2 ^ (t.val % 32) else 0) ∧
            d.rd (R.LIFE_REP_TILE_FAILED1 (clusterOf t)) = t)) ∧
    (d0.alive = true →
      (testBit (d0.rd R.KEEPER_SW) 5 = false → Answers .fuseCommit s fun d =>
        d = { d0 with mgmt := { d0.mgmt with writeStatus := .hrn 13 } }) ∧
      (testBit (d0.rd R.KEEPER_SW) 5 = true → d0.role ≠ .stopped ∨ l0.testing = true → Answers .fuseCommit s fun d =>
        d = { d0 with mgmt := { d0.mgmt with writeStatus := .hrn 14 } }) ∧
      (testBit (d0.rd R.KEEPER_SW) 5 = true → d0.role = .stopped → l0.testing = false → l0.soft = [e] →
        Answers .fuseCommit s fun d =>
          d = { d0 with regs := d.regs, life := { l0 with burning := d.life.burning } } ∧
            (if fuseUsed l0.fused e < fuseCapacity e then d.life.burning = [e] ∧ Sets d0 d [(R.LIFE_FUSE_LEFT_SOFT, 0)]
             else d.life.burning = [] ∧ Sets d0 d [(R.LIFE_FUSE_LEFT_SOFT, 1)])) ∧
      (l0.burning = [] → Answers .fuseRepair s fun d => d = d0) ∧
      (l0.burning = e :: es → Answers .fuseRepair s fun d =>
        d.life.fused = l0.fused ++ [e] ∧ d.life.burning = es ∧ d.life.soft = l0.soft.filter (· ≠ e) ∧
          d.rd R.LIFE_FUSE_BURNED = min (l0.fused.length + 1) 65535 ∧ d.role = d0.role ∧
          Presents d0 d [(.fuseRepair, source 0 0)]) ∧
      (l0.pool ≠ 0 → Answers (.flashBlockFail b erase) s fun d =>
        d.rd failFld = min (d0.rd failFld + 1) 65535 ∧ d.life = { l0 with pool := l0.pool - 1, replaced := l0.replaced ++ [b.val] } ∧
          d.rd R.LIFE_FLASH_POOL = min (l0.pool - 1) 65535 ∧ d.rd R.LIFE_FLASH_POOL_LOW = bit low ∧
          OtherFields d0 d [failFld, R.LIFE_FLASH_POOL, R.LIFE_FLASH_POOL_LOW, R.LIFE_WEAR_MAX_PE, R.LIFE_WEAR_AVG_PE] ∧
          Presents d0 d (if low && !d0.on R.LIFE_FLASH_POOL_LOW then [(.flashPoolLow, source 0 0)] else [])) ∧
      (l0.pool = 0 → d0.on R.LIFE_FLASH_WORN = false → Answers (.flashBlockFail b erase) s fun d =>
        SetsAndTells d0 d [(failFld, min (d0.rd failFld + 1) 65535), (R.LIFE_FLASH_WORN, 1)] [(.flashWorn, source 0 0)]) ∧
      Answers (.flashEraseComplete b) s (fun d =>
        d = { d0 with regs := d.regs, life := { l0 with
          erases := d.life.erases, intents := l0.intents.filter (· ≠ b.val) } } ∧
        (∀ k : Nat, sget (fun _ => 0) d.life.erases k =
          sget (fun _ => 0) l0.erases k + if k = b.val then 1 else 0) ∧
        OtherFields d0 d [R.LIFE_FLASH_POOL, R.LIFE_FLASH_POOL_LOW, R.LIFE_WEAR_MAX_PE, R.LIFE_WEAR_AVG_PE]))

/-- The tag (R478 to R480): the host writes the older page of a pair with the next version and leaves every other byte,
with 0 in a reserved page; while the field holds a page the host's writes queue, replace one another or are held; a
session reads switch 8 of K1; the field writes a page of the notes and locks it; and the lock's end, by expiry after
200 ms or release, writes what waited. Where the rules leave a point open it states the model's own choices: log entry
126. -/
def Obligations.TheTagIsWrittenByHostAndField : Prop :=
  ∀ (s : State) (n : Fin 24) (p : Fin 64) (b c' : List Byte) (v w : Word) (k : TagLock),
    let d0 := s.dev
    let l0 := d0.life
    let a := 2 + 2 * n.val
    let c := if 5 ≤ n.val then List.replicate 248 0 else b
    let pageIs (d : Dev) (page : Nat) (bytes : List Byte) : Prop := d.life.tagBytes page = bytes ∧
      ∀ x : Nat, x < page * 256 ∨ page * 256 + 256 ≤ x → Memory.read d.life.tag x = Memory.read l0.tag x
    let stored (page : Nat) (version : Word) (d : Dev) : Prop :=
      pageIs d page (leBytes 4 version.toNat ++ c ++ leBytes 4 (crc32 (leBytes 4 version.toNat ++ c))) ∧
        d = { d0 with life := { l0 with tag := d.life.tag } }
    let write : Instr := .tagPageWrite n b
    let held := max (d0.rd R.LIFE_TAG_WAIT_LOCK_MAX_MS) (min (d0.since k.since / 1000000) 65535)
    let freed := [(R.LIFE_TAG_LOCKED, 0), (R.LIFE_TAG_LOCK_PAGE, 0), (R.LIFE_TAG_QUEUE, 0), (R.LIFE_TAG_WAIT_LOCK_MAX_MS, held)]
    let drained (d : Dev) : Prop := d.life.lock = none ∧ d.life.queue = [] ∧ d.life.holding = [] ∧
      d.life.tag = (l0.queue ++ l0.holding).foldl (fun g x => (LifeSt.writeHostPage { l0 with tag := g } x.1 x.2).tag) l0.tag
    (d0.alive = true → b.length = 248 → l0.lock = none →
      (l0.tagVersion a = none → l0.tagVersion (a + 1) = none → Answers write s (stored a 1)) ∧
      (l0.tagVersion a = none → l0.tagVersion (a + 1) = some w → Answers write s (stored a (w + 1))) ∧
      (l0.tagVersion a = some v → l0.tagVersion (a + 1) = none → Answers write s (stored (a + 1) (v + 1))) ∧
      (l0.tagVersion a = some v → l0.tagVersion (a + 1) = some w →
        Answers write s (if later w v then stored a (w + 1) else stored (a + 1) (v + 1)))) ∧
    (d0.alive = true → b.length = 248 → l0.lock = some k →
      ((∀ x ∈ l0.queue, x.1 ≠ n.val) → l0.queue.length < 8 → Answers write s fun d =>
        d = { d0 with regs := d.regs, life := { l0 with queue := l0.queue ++ [(n.val, c)] } } ∧
          Sets d0 d [(R.LIFE_TAG_QUEUE, l0.queue.length + 1)]) ∧
      (l0.queue = [(n.val, c')] → Answers write s fun d => d = { d0 with life := { l0 with queue := [(n.val, c)] } }) ∧
      ((∀ x ∈ l0.queue, x.1 ≠ n.val) → l0.queue.length = 8 → Answers write s fun d =>
        d = { d0 with regs := d.regs, life := { l0 with holding := l0.holding ++ [(n.val, c)] } } ∧
          Sets d0 d [(R.LIFE_TAG_WAIT_WAITED, min (d0.rd R.LIFE_TAG_WAIT_WAITED + 1) 65535)])) ∧
    (b.length ≠ 248 → Answers write s fun d => d = d0) ∧
    Answers .tagFieldSession s (fun d => Sets d0 d [(R.LIFE_TAG_FIELD, 1)] ∧
      d = { d0 with regs := d.regs, life := { l0 with session := some (testBit (d0.rd R.KEEPER_SW) 7) } }) ∧
    (b.length = 256 → l0.session = some true → 50 ≤ p.val → p.val ≤ 57 → l0.lock = none ∨ l0.lock = some k →
      Answers (.tagFieldWrite p b) s fun d =>
        let locked : TagLock := l0.lock.getD ⟨p.val, d0.now⟩
        pageIs d p b ∧ d = { d0 with regs := d.regs, life := { l0 with tag := d.life.tag, lock := some locked } } ∧
          Sets d0 d [(R.LIFE_TAG_LOCKED, 1), (R.LIFE_TAG_LOCK_PAGE, locked.page % 64), (R.LIFE_TAG_NOTES_WRITTEN, 1),
            (R.LIFE_TAG_FIELD_WRITES, min (d0.rd R.LIFE_TAG_FIELD_WRITES + 1) 65535)]) ∧
    (b.length = 256 → l0.session ≠ some true ∨ p.val < 50 ∨ 57 < p.val → Answers (.tagFieldWrite p b) s fun d => d = d0) ∧
    (b.length ≠ 256 → Answers (.tagFieldWrite p b) s fun d => d = d0) ∧
    (l0.lock = none → Answers .tagLockExpiry s (fun d => d = d0) ∧
      Answers .tagFieldRelease s (fun d => Sets d0 d [(R.LIFE_TAG_FIELD, 0)] ∧
        d = { d0 with regs := d.regs, life := { l0 with session := none } })) ∧
    (l0.lock = some k →
      (200000000 ≤ d0.since k.since → Answers .tagLockExpiry s fun d =>
        drained d ∧ Sets d0 d freed ∧ d.life.session = l0.session) ∧
      (d0.since k.since < 200000000 → Answers .tagLockExpiry s fun d => d = d0) ∧
      Answers .tagFieldRelease s (fun d => drained d ∧ Sets d0 d ((R.LIFE_TAG_FIELD, 0) :: freed) ∧ d.life.session = none))
end

