-- ==== Sys2Proof/Laws/Sparse.lean ====
section
/-! SUPPORT. Laws of sparse maps, tables and memories: what a read gives after a write, and that every operation
keeps the canonical form. -/

namespace Sys2Proof.Machine

variable {α : Type}

/-! ### Tables without default -/

@[simp] theorem oget_oput_same (m : List (Nat × α)) (k : Nat) (v : α) : oget (oput m k v) k = some v := by
  induction m with
  | nil => simp [oput, oget]
  | cons p m ih =>
    obtain ⟨a, w⟩ := p
    simp only [oput]
    split
    · simp [oget]
    · split
      · simp [oget]
      · rename_i h
        simp [oget, h, ih]

theorem oget_oput_other (m : List (Nat × α)) {k j : Nat} (v : α) (h : j ≠ k) : oget (oput m k v) j = oget m j := by
  induction m with
  | nil => simp [oput, oget, h]
  | cons p m ih =>
    obtain ⟨a, w⟩ := p
    simp only [oput]
    split
    · simp [oget, h]
    · split
      · rename_i h2
        subst h2
        simp [oget, h]
      · simp [oget, ih]

theorem oget_oput (m : List (Nat × α)) (k j : Nat) (v : α) :
    oget (oput m k v) j = if j = k then some v else oget m j := by
  by_cases h : j = k
  · subst h; simp
  · simp [h, oget_oput_other]

@[simp] theorem oget_oerase_same (m : List (Nat × α)) (k : Nat) : oget (oerase m k) k = none := by
  induction m with
  | nil => rfl
  | cons p m ih =>
    obtain ⟨a, w⟩ := p
    by_cases h : a = k
    · subst h; simpa [oerase] using ih
    · have : oerase ((a, w) :: m) k = (a, w) :: oerase m k := by simp [oerase, h]
      rw [this, oget, if_neg (fun e => h e.symm), ih]

theorem oget_oerase_other (m : List (Nat × α)) {k j : Nat} (h : j ≠ k) : oget (oerase m k) j = oget m j := by
  induction m with
  | nil => rfl
  | cons p m ih =>
    obtain ⟨a, w⟩ := p
    by_cases h2 : a = k
    · subst h2
      have : oerase ((a, w) :: m) a = oerase m a := by simp [oerase]
      rw [this, ih, oget, if_neg h]
    · have : oerase ((a, w) :: m) k = (a, w) :: oerase m k := by simp [oerase, h2]
      simp only [this, oget, ih]

/-- A sparse map reads as its table does, or as the default. -/
theorem sget_eq_oget (df : Nat → α) (m : List (Nat × α)) (k : Nat) : sget df m k = (oget m k).getD (df k) := by
  induction m with
  | nil => rfl
  | cons p m ih =>
    obtain ⟨a, w⟩ := p
    by_cases h : k = a <;> simp [sget, oget, h, ih]

/-! ### Sparse maps -/

variable [DecidableEq α]

/-- A read of the key just written gives the value written. -/
@[simp] theorem sget_sput_same (df : Nat → α) (m : List (Nat × α)) (k : Nat) (v : α) :
    sget df (sput df m k v) k = v := by
  rw [sget_eq_oget, sput]
  split
  · rename_i h; simp [h]
  · simp

/-- A write leaves every other key as it is. -/
theorem sget_sput_other (df : Nat → α) (m : List (Nat × α)) {k j : Nat} (v : α) (h : j ≠ k) :
    sget df (sput df m k v) j = sget df m j := by
  rw [sget_eq_oget, sget_eq_oget, sput]
  split
  · rw [oget_oerase_other m h]
  · rw [oget_oput_other m v h]

theorem sget_sput (df : Nat → α) (m : List (Nat × α)) (k j : Nat) (v : α) :
    sget df (sput df m k v) j = if j = k then v else sget df m j := by
  by_cases h : j = k
  · subst h; simp
  · simp [h, sget_sput_other]

/-! ### The canonical form -/

theorem swfFrom_mono (df : Nat → α) {m : List (Nat × α)} {lo hi : Nat} (h : lo ≤ hi) (w : swfFrom df hi m) :
    swfFrom df lo m := by
  cases m with
  | nil => rfl
  | cons p m =>
    simp only [swfFrom, Bool.and_eq_true, decide_eq_true_eq] at w ⊢
    exact ⟨⟨by omega, w.1.2⟩, w.2⟩

theorem swfFrom_oput (df : Nat → α) (m : List (Nat × α)) (lo k : Nat) (v : α) (hv : v ≠ df k) (hk : lo ≤ k)
    (w : swfFrom df lo m) : swfFrom df lo (oput m k v) := by
  induction m generalizing lo with
  | nil => simp [oput, swfFrom, hv, hk]
  | cons p m ih =>
    obtain ⟨a, x⟩ := p
    simp only [swfFrom, Bool.and_eq_true, decide_eq_true_eq] at w
    simp only [oput]
    split
    · simp [swfFrom, hv, hk, w.1.2, w.2]; omega
    · split
      · rename_i h; subst h; simp [swfFrom, hv, hk, w.2]
      · simp only [swfFrom, Bool.and_eq_true, decide_eq_true_eq]
        exact ⟨w.1, ih _ (by omega) w.2⟩

theorem swfFrom_filter (df : Nat → α) (m : List (Nat × α)) (lo : Nat) (f : Nat × α → Bool) (w : swfFrom df lo m) :
    swfFrom df lo (m.filter f) := by
  induction m generalizing lo with
  | nil => rfl
  | cons p m ih =>
    obtain ⟨a, x⟩ := p
    simp only [swfFrom, Bool.and_eq_true, decide_eq_true_eq] at w
    by_cases h : f (a, x)
    · simp only [List.filter_cons, h, if_true, swfFrom, Bool.and_eq_true, decide_eq_true_eq]
      exact ⟨w.1, ih _ w.2⟩
    · simp only [List.filter_cons, h]
      exact ih _ (swfFrom_mono df (by omega) w.2)

/-- A write keeps the canonical form. -/
theorem swf_sput (df : Nat → α) (m : List (Nat × α)) (k : Nat) (v : α) (w : swf df m) : swf df (sput df m k v) := by
  simp only [sput]
  split
  · exact swfFrom_filter df m 0 _ w
  · rename_i h; exact swfFrom_oput df m 0 k v h (Nat.zero_le _) w

/-! ### Memories -/

@[simp] theorem Memory.read_write_same (m : Memory) (a : Nat) (b : Byte) : (m.write a b).read a = b := by
  simp [Memory.read, Memory.write]

theorem Memory.read_write_other (m : Memory) {a c : Nat} (b : Byte) (h : c ≠ a) : (m.write a b).read c = m.read c := by
  simp [Memory.read, Memory.write, sget_sput_other _ _ _ h]

/-- A byte outside the bytes written reads as before. -/
theorem Memory.read_writeBytes_outside (m : Memory) (a c : Nat) (bs : List Byte) (h : c < a ∨ a + bs.length ≤ c) :
    (m.writeBytes a bs).read c = m.read c := by
  induction bs generalizing m a with
  | nil => rfl
  | cons b bs ih =>
    simp only [List.length_cons] at h
    rw [Memory.writeBytes, ih _ _ (by omega), Memory.read_write_other _ _ (by omega)]

/-- The bytes written read back. -/
theorem Memory.read_writeBytes_inside (m : Memory) (a i : Nat) (bs : List Byte) (h : i < bs.length) :
    (m.writeBytes a bs).read (a + i) = bs[i] := by
  induction bs generalizing m a i with
  | nil => simp at h
  | cons b bs ih =>
    cases i with
    | zero =>
      rw [Memory.writeBytes, Memory.read_writeBytes_outside _ _ _ _ (by omega)]
      simp
    | succ i =>
      rw [Memory.writeBytes, show a + (i + 1) = a + 1 + i by omega, ih _ _ _ (by simpa using h)]
      simp

theorem Memory.wf_write (m : Memory) (a : Nat) (b : Byte) (w : m.wf) : (m.write a b).wf := swf_sput _ m a b w

theorem Memory.wf_writeBytes (m : Memory) (a : Nat) (bs : List Byte) (w : m.wf) : (m.writeBytes a bs).wf := by
  induction bs generalizing m a with
  | nil => exact w
  | cons b bs ih => exact ih _ _ (Memory.wf_write m a b w)

theorem Memory.wf_clear (m : Memory) (a n : Nat) (w : m.wf) : (m.clear a n).wf := swfFrom_filter _ m 0 _ w

/-- A cleared byte reads 0. -/
theorem Memory.read_clear_inside (m : Memory) (a n c : Nat) (h : a ≤ c) (h2 : c < a + n) : (m.clear a n).read c = 0 := by
  induction m with
  | nil => rfl
  | cons p m ih =>
    obtain ⟨x, w⟩ := p
    by_cases hx : a ≤ x ∧ x < a + n
    · have : Memory.clear ((x, w) :: m) a n = Memory.clear m a n := by simp [Memory.clear, hx]
      rw [this]; exact ih
    · have e : Memory.clear ((x, w) :: m) a n = (x, w) :: Memory.clear m a n := by
        simp only [Memory.clear, List.filter_cons]; simp [hx]
      rw [e]
      simp only [Memory.read, sget] at ih ⊢
      rw [if_neg (by omega)]
      exact ih

/-- A byte outside the range cleared reads as before. -/
theorem Memory.read_clear_outside (m : Memory) (a n c : Nat) (h : c < a ∨ a + n ≤ c) : (m.clear a n).read c = m.read c := by
  induction m with
  | nil => rfl
  | cons p m ih =>
    obtain ⟨x, w⟩ := p
    by_cases hx : a ≤ x ∧ x < a + n
    · have : Memory.clear ((x, w) :: m) a n = Memory.clear m a n := by simp [Memory.clear, hx]
      rw [this]
      simp only [Memory.read, sget] at ih ⊢
      rw [if_neg (by omega)]
      exact ih
    · have e : Memory.clear ((x, w) :: m) a n = (x, w) :: Memory.clear m a n := by
        simp only [Memory.clear, List.filter_cons]; simp [hx]
      rw [e]
      simp only [Memory.read, sget] at ih ⊢
      split
      · rfl
      · exact ih

end Sys2Proof.Machine
end

