-- ==== Sys2Proof/Laws/State.lean ====
section
/-! SUPPORT. One lemma for each field of the module and each update that leaves it: no later proof unfolds a
record update. -/

namespace Sys2Proof.Machine

variable (d : Dev)

/-! ### putWord changes registers only -/

@[simp] theorem Dev.putWord_role (o : Nat) (w : Word) : (d.putWord o w).role = d.role := rfl
@[simp] theorem Dev.putWord_conn (o : Nat) (w : Word) : (d.putWord o w).conn = d.conn := rfl
@[simp] theorem Dev.putWord_power (o : Nat) (w : Word) : (d.putWord o w).power = d.power := rfl
@[simp] theorem Dev.putWord_time (o : Nat) (w : Word) : (d.putWord o w).time = d.time := rfl
@[simp] theorem Dev.putWord_evrec (o : Nat) (w : Word) : (d.putWord o w).evrec = d.evrec := rfl
@[simp] theorem Dev.putWord_hist (o : Nat) (w : Word) : (d.putWord o w).hist = d.hist := rfl
@[simp] theorem Dev.putWord_mgmt (o : Nat) (w : Word) : (d.putWord o w).mgmt = d.mgmt := rfl
@[simp] theorem Dev.putWord_trust (o : Nat) (w : Word) : (d.putWord o w).trust = d.trust := rfl
@[simp] theorem Dev.putWord_hrn (o : Nat) (w : Word) : (d.putWord o w).hrn = d.hrn := rfl
@[simp] theorem Dev.putWord_tiles (o : Nat) (w : Word) : (d.putWord o w).tiles = d.tiles := rfl
@[simp] theorem Dev.putWord_cycle (o : Nat) (w : Word) : (d.putWord o w).cycle = d.cycle := rfl
@[simp] theorem Dev.putWord_loop (o : Nat) (w : Word) : (d.putWord o w).loop = d.loop := rfl
@[simp] theorem Dev.putWord_bridle (o : Nat) (w : Word) : (d.putWord o w).bridle = d.bridle := rfl
@[simp] theorem Dev.putWord_safety (o : Nat) (w : Word) : (d.putWord o w).safety = d.safety := rfl
@[simp] theorem Dev.putWord_twin (o : Nat) (w : Word) : (d.putWord o w).twin = d.twin := rfl
@[simp] theorem Dev.putWord_life (o : Nat) (w : Word) : (d.putWord o w).life = d.life := rfl
@[simp] theorem Dev.putWord_io (o : Nat) (w : Word) : (d.putWord o w).io = d.io := rfl
@[simp] theorem Dev.putWord_can (o : Nat) (w : Word) : (d.putWord o w).can = d.can := rfl
@[simp] theorem Dev.putWord_ring (o : Nat) (w : Word) : (d.putWord o w).ring = d.ring := rfl
@[simp] theorem Dev.putWord_fab (o : Nat) (w : Word) : (d.putWord o w).fab = d.fab := rfl
@[simp] theorem Dev.putWord_free (o : Nat) (w : Word) : (d.putWord o w).free = d.free := rfl

/-! ### wr changes registers only -/

@[simp] theorem Dev.wr_role (f : Fld) (v : Nat) : (d.wr f v).role = d.role := rfl
@[simp] theorem Dev.wr_conn (f : Fld) (v : Nat) : (d.wr f v).conn = d.conn := rfl
@[simp] theorem Dev.wr_power (f : Fld) (v : Nat) : (d.wr f v).power = d.power := rfl
@[simp] theorem Dev.wr_time (f : Fld) (v : Nat) : (d.wr f v).time = d.time := rfl
@[simp] theorem Dev.wr_evrec (f : Fld) (v : Nat) : (d.wr f v).evrec = d.evrec := rfl
@[simp] theorem Dev.wr_hist (f : Fld) (v : Nat) : (d.wr f v).hist = d.hist := rfl
@[simp] theorem Dev.wr_mgmt (f : Fld) (v : Nat) : (d.wr f v).mgmt = d.mgmt := rfl
@[simp] theorem Dev.wr_trust (f : Fld) (v : Nat) : (d.wr f v).trust = d.trust := rfl
@[simp] theorem Dev.wr_hrn (f : Fld) (v : Nat) : (d.wr f v).hrn = d.hrn := rfl
@[simp] theorem Dev.wr_tiles (f : Fld) (v : Nat) : (d.wr f v).tiles = d.tiles := rfl
@[simp] theorem Dev.wr_cycle (f : Fld) (v : Nat) : (d.wr f v).cycle = d.cycle := rfl
@[simp] theorem Dev.wr_loop (f : Fld) (v : Nat) : (d.wr f v).loop = d.loop := rfl
@[simp] theorem Dev.wr_bridle (f : Fld) (v : Nat) : (d.wr f v).bridle = d.bridle := rfl
@[simp] theorem Dev.wr_safety (f : Fld) (v : Nat) : (d.wr f v).safety = d.safety := rfl
@[simp] theorem Dev.wr_twin (f : Fld) (v : Nat) : (d.wr f v).twin = d.twin := rfl
@[simp] theorem Dev.wr_life (f : Fld) (v : Nat) : (d.wr f v).life = d.life := rfl
@[simp] theorem Dev.wr_io (f : Fld) (v : Nat) : (d.wr f v).io = d.io := rfl
@[simp] theorem Dev.wr_can (f : Fld) (v : Nat) : (d.wr f v).can = d.can := rfl
@[simp] theorem Dev.wr_ring (f : Fld) (v : Nat) : (d.wr f v).ring = d.ring := rfl
@[simp] theorem Dev.wr_fab (f : Fld) (v : Nat) : (d.wr f v).fab = d.fab := rfl
@[simp] theorem Dev.wr_free (f : Fld) (v : Nat) : (d.wr f v).free = d.free := rfl

/-! ### raise changes registers only -/

@[simp] theorem Dev.raise_role (f : Fld) : (d.raise f).role = d.role := rfl
@[simp] theorem Dev.raise_conn (f : Fld) : (d.raise f).conn = d.conn := rfl
@[simp] theorem Dev.raise_power (f : Fld) : (d.raise f).power = d.power := rfl
@[simp] theorem Dev.raise_time (f : Fld) : (d.raise f).time = d.time := rfl
@[simp] theorem Dev.raise_evrec (f : Fld) : (d.raise f).evrec = d.evrec := rfl
@[simp] theorem Dev.raise_hist (f : Fld) : (d.raise f).hist = d.hist := rfl
@[simp] theorem Dev.raise_mgmt (f : Fld) : (d.raise f).mgmt = d.mgmt := rfl
@[simp] theorem Dev.raise_trust (f : Fld) : (d.raise f).trust = d.trust := rfl
@[simp] theorem Dev.raise_hrn (f : Fld) : (d.raise f).hrn = d.hrn := rfl
@[simp] theorem Dev.raise_tiles (f : Fld) : (d.raise f).tiles = d.tiles := rfl
@[simp] theorem Dev.raise_cycle (f : Fld) : (d.raise f).cycle = d.cycle := rfl
@[simp] theorem Dev.raise_loop (f : Fld) : (d.raise f).loop = d.loop := rfl
@[simp] theorem Dev.raise_bridle (f : Fld) : (d.raise f).bridle = d.bridle := rfl
@[simp] theorem Dev.raise_safety (f : Fld) : (d.raise f).safety = d.safety := rfl
@[simp] theorem Dev.raise_twin (f : Fld) : (d.raise f).twin = d.twin := rfl
@[simp] theorem Dev.raise_life (f : Fld) : (d.raise f).life = d.life := rfl
@[simp] theorem Dev.raise_io (f : Fld) : (d.raise f).io = d.io := rfl
@[simp] theorem Dev.raise_can (f : Fld) : (d.raise f).can = d.can := rfl
@[simp] theorem Dev.raise_ring (f : Fld) : (d.raise f).ring = d.ring := rfl
@[simp] theorem Dev.raise_fab (f : Fld) : (d.raise f).fab = d.fab := rfl
@[simp] theorem Dev.raise_free (f : Fld) : (d.raise f).free = d.free := rfl

/-! ### drop changes registers only -/

@[simp] theorem Dev.drop_role (f : Fld) : (d.drop f).role = d.role := rfl
@[simp] theorem Dev.drop_conn (f : Fld) : (d.drop f).conn = d.conn := rfl
@[simp] theorem Dev.drop_power (f : Fld) : (d.drop f).power = d.power := rfl
@[simp] theorem Dev.drop_time (f : Fld) : (d.drop f).time = d.time := rfl
@[simp] theorem Dev.drop_evrec (f : Fld) : (d.drop f).evrec = d.evrec := rfl
@[simp] theorem Dev.drop_hist (f : Fld) : (d.drop f).hist = d.hist := rfl
@[simp] theorem Dev.drop_mgmt (f : Fld) : (d.drop f).mgmt = d.mgmt := rfl
@[simp] theorem Dev.drop_trust (f : Fld) : (d.drop f).trust = d.trust := rfl
@[simp] theorem Dev.drop_hrn (f : Fld) : (d.drop f).hrn = d.hrn := rfl
@[simp] theorem Dev.drop_tiles (f : Fld) : (d.drop f).tiles = d.tiles := rfl
@[simp] theorem Dev.drop_cycle (f : Fld) : (d.drop f).cycle = d.cycle := rfl
@[simp] theorem Dev.drop_loop (f : Fld) : (d.drop f).loop = d.loop := rfl
@[simp] theorem Dev.drop_bridle (f : Fld) : (d.drop f).bridle = d.bridle := rfl
@[simp] theorem Dev.drop_safety (f : Fld) : (d.drop f).safety = d.safety := rfl
@[simp] theorem Dev.drop_twin (f : Fld) : (d.drop f).twin = d.twin := rfl
@[simp] theorem Dev.drop_life (f : Fld) : (d.drop f).life = d.life := rfl
@[simp] theorem Dev.drop_io (f : Fld) : (d.drop f).io = d.io := rfl
@[simp] theorem Dev.drop_can (f : Fld) : (d.drop f).can = d.can := rfl
@[simp] theorem Dev.drop_ring (f : Fld) : (d.drop f).ring = d.ring := rfl
@[simp] theorem Dev.drop_fab (f : Fld) : (d.drop f).fab = d.fab := rfl
@[simp] theorem Dev.drop_free (f : Fld) : (d.drop f).free = d.free := rfl

/-! ### flag changes registers only -/

@[simp] theorem Dev.flag_role (f : Fld) (b : Bool) : (d.flag f b).role = d.role := rfl
@[simp] theorem Dev.flag_conn (f : Fld) (b : Bool) : (d.flag f b).conn = d.conn := rfl
@[simp] theorem Dev.flag_power (f : Fld) (b : Bool) : (d.flag f b).power = d.power := rfl
@[simp] theorem Dev.flag_time (f : Fld) (b : Bool) : (d.flag f b).time = d.time := rfl
@[simp] theorem Dev.flag_evrec (f : Fld) (b : Bool) : (d.flag f b).evrec = d.evrec := rfl
@[simp] theorem Dev.flag_hist (f : Fld) (b : Bool) : (d.flag f b).hist = d.hist := rfl
@[simp] theorem Dev.flag_mgmt (f : Fld) (b : Bool) : (d.flag f b).mgmt = d.mgmt := rfl
@[simp] theorem Dev.flag_trust (f : Fld) (b : Bool) : (d.flag f b).trust = d.trust := rfl
@[simp] theorem Dev.flag_hrn (f : Fld) (b : Bool) : (d.flag f b).hrn = d.hrn := rfl
@[simp] theorem Dev.flag_tiles (f : Fld) (b : Bool) : (d.flag f b).tiles = d.tiles := rfl
@[simp] theorem Dev.flag_cycle (f : Fld) (b : Bool) : (d.flag f b).cycle = d.cycle := rfl
@[simp] theorem Dev.flag_loop (f : Fld) (b : Bool) : (d.flag f b).loop = d.loop := rfl
@[simp] theorem Dev.flag_bridle (f : Fld) (b : Bool) : (d.flag f b).bridle = d.bridle := rfl
@[simp] theorem Dev.flag_safety (f : Fld) (b : Bool) : (d.flag f b).safety = d.safety := rfl
@[simp] theorem Dev.flag_twin (f : Fld) (b : Bool) : (d.flag f b).twin = d.twin := rfl
@[simp] theorem Dev.flag_life (f : Fld) (b : Bool) : (d.flag f b).life = d.life := rfl
@[simp] theorem Dev.flag_io (f : Fld) (b : Bool) : (d.flag f b).io = d.io := rfl
@[simp] theorem Dev.flag_can (f : Fld) (b : Bool) : (d.flag f b).can = d.can := rfl
@[simp] theorem Dev.flag_ring (f : Fld) (b : Bool) : (d.flag f b).ring = d.ring := rfl
@[simp] theorem Dev.flag_fab (f : Fld) (b : Bool) : (d.flag f b).fab = d.fab := rfl
@[simp] theorem Dev.flag_free (f : Fld) (b : Bool) : (d.flag f b).free = d.free := rfl

/-! ### wrInt changes registers only -/

@[simp] theorem Dev.wrInt_role (f : Fld) (v : Int) : (d.wrInt f v).role = d.role := rfl
@[simp] theorem Dev.wrInt_conn (f : Fld) (v : Int) : (d.wrInt f v).conn = d.conn := rfl
@[simp] theorem Dev.wrInt_power (f : Fld) (v : Int) : (d.wrInt f v).power = d.power := rfl
@[simp] theorem Dev.wrInt_time (f : Fld) (v : Int) : (d.wrInt f v).time = d.time := rfl
@[simp] theorem Dev.wrInt_evrec (f : Fld) (v : Int) : (d.wrInt f v).evrec = d.evrec := rfl
@[simp] theorem Dev.wrInt_hist (f : Fld) (v : Int) : (d.wrInt f v).hist = d.hist := rfl
@[simp] theorem Dev.wrInt_mgmt (f : Fld) (v : Int) : (d.wrInt f v).mgmt = d.mgmt := rfl
@[simp] theorem Dev.wrInt_trust (f : Fld) (v : Int) : (d.wrInt f v).trust = d.trust := rfl
@[simp] theorem Dev.wrInt_hrn (f : Fld) (v : Int) : (d.wrInt f v).hrn = d.hrn := rfl
@[simp] theorem Dev.wrInt_tiles (f : Fld) (v : Int) : (d.wrInt f v).tiles = d.tiles := rfl
@[simp] theorem Dev.wrInt_cycle (f : Fld) (v : Int) : (d.wrInt f v).cycle = d.cycle := rfl
@[simp] theorem Dev.wrInt_loop (f : Fld) (v : Int) : (d.wrInt f v).loop = d.loop := rfl
@[simp] theorem Dev.wrInt_bridle (f : Fld) (v : Int) : (d.wrInt f v).bridle = d.bridle := rfl
@[simp] theorem Dev.wrInt_safety (f : Fld) (v : Int) : (d.wrInt f v).safety = d.safety := rfl
@[simp] theorem Dev.wrInt_twin (f : Fld) (v : Int) : (d.wrInt f v).twin = d.twin := rfl
@[simp] theorem Dev.wrInt_life (f : Fld) (v : Int) : (d.wrInt f v).life = d.life := rfl
@[simp] theorem Dev.wrInt_io (f : Fld) (v : Int) : (d.wrInt f v).io = d.io := rfl
@[simp] theorem Dev.wrInt_can (f : Fld) (v : Int) : (d.wrInt f v).can = d.can := rfl
@[simp] theorem Dev.wrInt_ring (f : Fld) (v : Int) : (d.wrInt f v).ring = d.ring := rfl
@[simp] theorem Dev.wrInt_fab (f : Fld) (v : Int) : (d.wrInt f v).fab = d.fab := rfl
@[simp] theorem Dev.wrInt_free (f : Fld) (v : Int) : (d.wrInt f v).free = d.free := rfl

/-! ### addSat changes registers only -/

@[simp] theorem Dev.addSat_role (f : Fld) (k : Nat) : (d.addSat f k).role = d.role := rfl
@[simp] theorem Dev.addSat_conn (f : Fld) (k : Nat) : (d.addSat f k).conn = d.conn := rfl
@[simp] theorem Dev.addSat_power (f : Fld) (k : Nat) : (d.addSat f k).power = d.power := rfl
@[simp] theorem Dev.addSat_time (f : Fld) (k : Nat) : (d.addSat f k).time = d.time := rfl
@[simp] theorem Dev.addSat_evrec (f : Fld) (k : Nat) : (d.addSat f k).evrec = d.evrec := rfl
@[simp] theorem Dev.addSat_hist (f : Fld) (k : Nat) : (d.addSat f k).hist = d.hist := rfl
@[simp] theorem Dev.addSat_mgmt (f : Fld) (k : Nat) : (d.addSat f k).mgmt = d.mgmt := rfl
@[simp] theorem Dev.addSat_trust (f : Fld) (k : Nat) : (d.addSat f k).trust = d.trust := rfl
@[simp] theorem Dev.addSat_hrn (f : Fld) (k : Nat) : (d.addSat f k).hrn = d.hrn := rfl
@[simp] theorem Dev.addSat_tiles (f : Fld) (k : Nat) : (d.addSat f k).tiles = d.tiles := rfl
@[simp] theorem Dev.addSat_cycle (f : Fld) (k : Nat) : (d.addSat f k).cycle = d.cycle := rfl
@[simp] theorem Dev.addSat_loop (f : Fld) (k : Nat) : (d.addSat f k).loop = d.loop := rfl
@[simp] theorem Dev.addSat_bridle (f : Fld) (k : Nat) : (d.addSat f k).bridle = d.bridle := rfl
@[simp] theorem Dev.addSat_safety (f : Fld) (k : Nat) : (d.addSat f k).safety = d.safety := rfl
@[simp] theorem Dev.addSat_twin (f : Fld) (k : Nat) : (d.addSat f k).twin = d.twin := rfl
@[simp] theorem Dev.addSat_life (f : Fld) (k : Nat) : (d.addSat f k).life = d.life := rfl
@[simp] theorem Dev.addSat_io (f : Fld) (k : Nat) : (d.addSat f k).io = d.io := rfl
@[simp] theorem Dev.addSat_can (f : Fld) (k : Nat) : (d.addSat f k).can = d.can := rfl
@[simp] theorem Dev.addSat_ring (f : Fld) (k : Nat) : (d.addSat f k).ring = d.ring := rfl
@[simp] theorem Dev.addSat_fab (f : Fld) (k : Nat) : (d.addSat f k).fab = d.fab := rfl
@[simp] theorem Dev.addSat_free (f : Fld) (k : Nat) : (d.addSat f k).free = d.free := rfl

/-! ### incSat changes registers only -/

@[simp] theorem Dev.incSat_role (f : Fld) : (d.incSat f).role = d.role := rfl
@[simp] theorem Dev.incSat_conn (f : Fld) : (d.incSat f).conn = d.conn := rfl
@[simp] theorem Dev.incSat_power (f : Fld) : (d.incSat f).power = d.power := rfl
@[simp] theorem Dev.incSat_time (f : Fld) : (d.incSat f).time = d.time := rfl
@[simp] theorem Dev.incSat_evrec (f : Fld) : (d.incSat f).evrec = d.evrec := rfl
@[simp] theorem Dev.incSat_hist (f : Fld) : (d.incSat f).hist = d.hist := rfl
@[simp] theorem Dev.incSat_mgmt (f : Fld) : (d.incSat f).mgmt = d.mgmt := rfl
@[simp] theorem Dev.incSat_trust (f : Fld) : (d.incSat f).trust = d.trust := rfl
@[simp] theorem Dev.incSat_hrn (f : Fld) : (d.incSat f).hrn = d.hrn := rfl
@[simp] theorem Dev.incSat_tiles (f : Fld) : (d.incSat f).tiles = d.tiles := rfl
@[simp] theorem Dev.incSat_cycle (f : Fld) : (d.incSat f).cycle = d.cycle := rfl
@[simp] theorem Dev.incSat_loop (f : Fld) : (d.incSat f).loop = d.loop := rfl
@[simp] theorem Dev.incSat_bridle (f : Fld) : (d.incSat f).bridle = d.bridle := rfl
@[simp] theorem Dev.incSat_safety (f : Fld) : (d.incSat f).safety = d.safety := rfl
@[simp] theorem Dev.incSat_twin (f : Fld) : (d.incSat f).twin = d.twin := rfl
@[simp] theorem Dev.incSat_life (f : Fld) : (d.incSat f).life = d.life := rfl
@[simp] theorem Dev.incSat_io (f : Fld) : (d.incSat f).io = d.io := rfl
@[simp] theorem Dev.incSat_can (f : Fld) : (d.incSat f).can = d.can := rfl
@[simp] theorem Dev.incSat_ring (f : Fld) : (d.incSat f).ring = d.ring := rfl
@[simp] theorem Dev.incSat_fab (f : Fld) : (d.incSat f).fab = d.fab := rfl
@[simp] theorem Dev.incSat_free (f : Fld) : (d.incSat f).free = d.free := rfl

/-! ### incWrap changes registers only -/

@[simp] theorem Dev.incWrap_role (f : Fld) : (d.incWrap f).role = d.role := rfl
@[simp] theorem Dev.incWrap_conn (f : Fld) : (d.incWrap f).conn = d.conn := rfl
@[simp] theorem Dev.incWrap_power (f : Fld) : (d.incWrap f).power = d.power := rfl
@[simp] theorem Dev.incWrap_time (f : Fld) : (d.incWrap f).time = d.time := rfl
@[simp] theorem Dev.incWrap_evrec (f : Fld) : (d.incWrap f).evrec = d.evrec := rfl
@[simp] theorem Dev.incWrap_hist (f : Fld) : (d.incWrap f).hist = d.hist := rfl
@[simp] theorem Dev.incWrap_mgmt (f : Fld) : (d.incWrap f).mgmt = d.mgmt := rfl
@[simp] theorem Dev.incWrap_trust (f : Fld) : (d.incWrap f).trust = d.trust := rfl
@[simp] theorem Dev.incWrap_hrn (f : Fld) : (d.incWrap f).hrn = d.hrn := rfl
@[simp] theorem Dev.incWrap_tiles (f : Fld) : (d.incWrap f).tiles = d.tiles := rfl
@[simp] theorem Dev.incWrap_cycle (f : Fld) : (d.incWrap f).cycle = d.cycle := rfl
@[simp] theorem Dev.incWrap_loop (f : Fld) : (d.incWrap f).loop = d.loop := rfl
@[simp] theorem Dev.incWrap_bridle (f : Fld) : (d.incWrap f).bridle = d.bridle := rfl
@[simp] theorem Dev.incWrap_safety (f : Fld) : (d.incWrap f).safety = d.safety := rfl
@[simp] theorem Dev.incWrap_twin (f : Fld) : (d.incWrap f).twin = d.twin := rfl
@[simp] theorem Dev.incWrap_life (f : Fld) : (d.incWrap f).life = d.life := rfl
@[simp] theorem Dev.incWrap_io (f : Fld) : (d.incWrap f).io = d.io := rfl
@[simp] theorem Dev.incWrap_can (f : Fld) : (d.incWrap f).can = d.can := rfl
@[simp] theorem Dev.incWrap_ring (f : Fld) : (d.incWrap f).ring = d.ring := rfl
@[simp] theorem Dev.incWrap_fab (f : Fld) : (d.incWrap f).fab = d.fab := rfl
@[simp] theorem Dev.incWrap_free (f : Fld) : (d.incWrap f).free = d.free := rfl

/-! ### wrSat changes registers only -/

@[simp] theorem Dev.wrSat_role (f : Fld) (v : Nat) : (d.wrSat f v).role = d.role := rfl
@[simp] theorem Dev.wrSat_conn (f : Fld) (v : Nat) : (d.wrSat f v).conn = d.conn := rfl
@[simp] theorem Dev.wrSat_power (f : Fld) (v : Nat) : (d.wrSat f v).power = d.power := rfl
@[simp] theorem Dev.wrSat_time (f : Fld) (v : Nat) : (d.wrSat f v).time = d.time := rfl
@[simp] theorem Dev.wrSat_evrec (f : Fld) (v : Nat) : (d.wrSat f v).evrec = d.evrec := rfl
@[simp] theorem Dev.wrSat_hist (f : Fld) (v : Nat) : (d.wrSat f v).hist = d.hist := rfl
@[simp] theorem Dev.wrSat_mgmt (f : Fld) (v : Nat) : (d.wrSat f v).mgmt = d.mgmt := rfl
@[simp] theorem Dev.wrSat_trust (f : Fld) (v : Nat) : (d.wrSat f v).trust = d.trust := rfl
@[simp] theorem Dev.wrSat_hrn (f : Fld) (v : Nat) : (d.wrSat f v).hrn = d.hrn := rfl
@[simp] theorem Dev.wrSat_tiles (f : Fld) (v : Nat) : (d.wrSat f v).tiles = d.tiles := rfl
@[simp] theorem Dev.wrSat_cycle (f : Fld) (v : Nat) : (d.wrSat f v).cycle = d.cycle := rfl
@[simp] theorem Dev.wrSat_loop (f : Fld) (v : Nat) : (d.wrSat f v).loop = d.loop := rfl
@[simp] theorem Dev.wrSat_bridle (f : Fld) (v : Nat) : (d.wrSat f v).bridle = d.bridle := rfl
@[simp] theorem Dev.wrSat_safety (f : Fld) (v : Nat) : (d.wrSat f v).safety = d.safety := rfl
@[simp] theorem Dev.wrSat_twin (f : Fld) (v : Nat) : (d.wrSat f v).twin = d.twin := rfl
@[simp] theorem Dev.wrSat_life (f : Fld) (v : Nat) : (d.wrSat f v).life = d.life := rfl
@[simp] theorem Dev.wrSat_io (f : Fld) (v : Nat) : (d.wrSat f v).io = d.io := rfl
@[simp] theorem Dev.wrSat_can (f : Fld) (v : Nat) : (d.wrSat f v).can = d.can := rfl
@[simp] theorem Dev.wrSat_ring (f : Fld) (v : Nat) : (d.wrSat f v).ring = d.ring := rfl
@[simp] theorem Dev.wrSat_fab (f : Fld) (v : Nat) : (d.wrSat f v).fab = d.fab := rfl
@[simp] theorem Dev.wrSat_free (f : Fld) (v : Nat) : (d.wrSat f v).free = d.free := rfl

/-! ### maxTo changes registers only -/

@[simp] theorem Dev.maxTo_role (f : Fld) (v : Nat) : (d.maxTo f v).role = d.role := rfl
@[simp] theorem Dev.maxTo_conn (f : Fld) (v : Nat) : (d.maxTo f v).conn = d.conn := rfl
@[simp] theorem Dev.maxTo_power (f : Fld) (v : Nat) : (d.maxTo f v).power = d.power := rfl
@[simp] theorem Dev.maxTo_time (f : Fld) (v : Nat) : (d.maxTo f v).time = d.time := rfl
@[simp] theorem Dev.maxTo_evrec (f : Fld) (v : Nat) : (d.maxTo f v).evrec = d.evrec := rfl
@[simp] theorem Dev.maxTo_hist (f : Fld) (v : Nat) : (d.maxTo f v).hist = d.hist := rfl
@[simp] theorem Dev.maxTo_mgmt (f : Fld) (v : Nat) : (d.maxTo f v).mgmt = d.mgmt := rfl
@[simp] theorem Dev.maxTo_trust (f : Fld) (v : Nat) : (d.maxTo f v).trust = d.trust := rfl
@[simp] theorem Dev.maxTo_hrn (f : Fld) (v : Nat) : (d.maxTo f v).hrn = d.hrn := rfl
@[simp] theorem Dev.maxTo_tiles (f : Fld) (v : Nat) : (d.maxTo f v).tiles = d.tiles := rfl
@[simp] theorem Dev.maxTo_cycle (f : Fld) (v : Nat) : (d.maxTo f v).cycle = d.cycle := rfl
@[simp] theorem Dev.maxTo_loop (f : Fld) (v : Nat) : (d.maxTo f v).loop = d.loop := rfl
@[simp] theorem Dev.maxTo_bridle (f : Fld) (v : Nat) : (d.maxTo f v).bridle = d.bridle := rfl
@[simp] theorem Dev.maxTo_safety (f : Fld) (v : Nat) : (d.maxTo f v).safety = d.safety := rfl
@[simp] theorem Dev.maxTo_twin (f : Fld) (v : Nat) : (d.maxTo f v).twin = d.twin := rfl
@[simp] theorem Dev.maxTo_life (f : Fld) (v : Nat) : (d.maxTo f v).life = d.life := rfl
@[simp] theorem Dev.maxTo_io (f : Fld) (v : Nat) : (d.maxTo f v).io = d.io := rfl
@[simp] theorem Dev.maxTo_can (f : Fld) (v : Nat) : (d.maxTo f v).can = d.can := rfl
@[simp] theorem Dev.maxTo_ring (f : Fld) (v : Nat) : (d.maxTo f v).ring = d.ring := rfl
@[simp] theorem Dev.maxTo_fab (f : Fld) (v : Nat) : (d.maxTo f v).fab = d.fab := rfl
@[simp] theorem Dev.maxTo_free (f : Fld) (v : Nat) : (d.maxTo f v).free = d.free := rfl

/-! ### wr64 changes registers only -/

@[simp] theorem Dev.wr64_role (lo hi : Fld) (v : DWord) : (d.wr64 lo hi v).role = d.role := rfl
@[simp] theorem Dev.wr64_conn (lo hi : Fld) (v : DWord) : (d.wr64 lo hi v).conn = d.conn := rfl
@[simp] theorem Dev.wr64_power (lo hi : Fld) (v : DWord) : (d.wr64 lo hi v).power = d.power := rfl
@[simp] theorem Dev.wr64_time (lo hi : Fld) (v : DWord) : (d.wr64 lo hi v).time = d.time := rfl
@[simp] theorem Dev.wr64_evrec (lo hi : Fld) (v : DWord) : (d.wr64 lo hi v).evrec = d.evrec := rfl
@[simp] theorem Dev.wr64_hist (lo hi : Fld) (v : DWord) : (d.wr64 lo hi v).hist = d.hist := rfl
@[simp] theorem Dev.wr64_mgmt (lo hi : Fld) (v : DWord) : (d.wr64 lo hi v).mgmt = d.mgmt := rfl
@[simp] theorem Dev.wr64_trust (lo hi : Fld) (v : DWord) : (d.wr64 lo hi v).trust = d.trust := rfl
@[simp] theorem Dev.wr64_hrn (lo hi : Fld) (v : DWord) : (d.wr64 lo hi v).hrn = d.hrn := rfl
@[simp] theorem Dev.wr64_tiles (lo hi : Fld) (v : DWord) : (d.wr64 lo hi v).tiles = d.tiles := rfl
@[simp] theorem Dev.wr64_cycle (lo hi : Fld) (v : DWord) : (d.wr64 lo hi v).cycle = d.cycle := rfl
@[simp] theorem Dev.wr64_loop (lo hi : Fld) (v : DWord) : (d.wr64 lo hi v).loop = d.loop := rfl
@[simp] theorem Dev.wr64_bridle (lo hi : Fld) (v : DWord) : (d.wr64 lo hi v).bridle = d.bridle := rfl
@[simp] theorem Dev.wr64_safety (lo hi : Fld) (v : DWord) : (d.wr64 lo hi v).safety = d.safety := rfl
@[simp] theorem Dev.wr64_twin (lo hi : Fld) (v : DWord) : (d.wr64 lo hi v).twin = d.twin := rfl
@[simp] theorem Dev.wr64_life (lo hi : Fld) (v : DWord) : (d.wr64 lo hi v).life = d.life := rfl
@[simp] theorem Dev.wr64_io (lo hi : Fld) (v : DWord) : (d.wr64 lo hi v).io = d.io := rfl
@[simp] theorem Dev.wr64_can (lo hi : Fld) (v : DWord) : (d.wr64 lo hi v).can = d.can := rfl
@[simp] theorem Dev.wr64_ring (lo hi : Fld) (v : DWord) : (d.wr64 lo hi v).ring = d.ring := rfl
@[simp] theorem Dev.wr64_fab (lo hi : Fld) (v : DWord) : (d.wr64 lo hi v).fab = d.fab := rfl
@[simp] theorem Dev.wr64_free (lo hi : Fld) (v : DWord) : (d.wr64 lo hi v).free = d.free := rfl

/-! ### clear changes registers only -/

@[simp] theorem Dev.clear_role (fs : List Fld) : (d.clear fs).role = d.role := by
  induction fs generalizing d with
  | nil => rfl
  | cons x fs ih => exact (ih (d.drop x)).trans rfl
@[simp] theorem Dev.clear_conn (fs : List Fld) : (d.clear fs).conn = d.conn := by
  induction fs generalizing d with
  | nil => rfl
  | cons x fs ih => exact (ih (d.drop x)).trans rfl
@[simp] theorem Dev.clear_power (fs : List Fld) : (d.clear fs).power = d.power := by
  induction fs generalizing d with
  | nil => rfl
  | cons x fs ih => exact (ih (d.drop x)).trans rfl
@[simp] theorem Dev.clear_time (fs : List Fld) : (d.clear fs).time = d.time := by
  induction fs generalizing d with
  | nil => rfl
  | cons x fs ih => exact (ih (d.drop x)).trans rfl
@[simp] theorem Dev.clear_evrec (fs : List Fld) : (d.clear fs).evrec = d.evrec := by
  induction fs generalizing d with
  | nil => rfl
  | cons x fs ih => exact (ih (d.drop x)).trans rfl
@[simp] theorem Dev.clear_hist (fs : List Fld) : (d.clear fs).hist = d.hist := by
  induction fs generalizing d with
  | nil => rfl
  | cons x fs ih => exact (ih (d.drop x)).trans rfl
@[simp] theorem Dev.clear_mgmt (fs : List Fld) : (d.clear fs).mgmt = d.mgmt := by
  induction fs generalizing d with
  | nil => rfl
  | cons x fs ih => exact (ih (d.drop x)).trans rfl
@[simp] theorem Dev.clear_trust (fs : List Fld) : (d.clear fs).trust = d.trust := by
  induction fs generalizing d with
  | nil => rfl
  | cons x fs ih => exact (ih (d.drop x)).trans rfl
@[simp] theorem Dev.clear_hrn (fs : List Fld) : (d.clear fs).hrn = d.hrn := by
  induction fs generalizing d with
  | nil => rfl
  | cons x fs ih => exact (ih (d.drop x)).trans rfl
@[simp] theorem Dev.clear_tiles (fs : List Fld) : (d.clear fs).tiles = d.tiles := by
  induction fs generalizing d with
  | nil => rfl
  | cons x fs ih => exact (ih (d.drop x)).trans rfl
@[simp] theorem Dev.clear_cycle (fs : List Fld) : (d.clear fs).cycle = d.cycle := by
  induction fs generalizing d with
  | nil => rfl
  | cons x fs ih => exact (ih (d.drop x)).trans rfl
@[simp] theorem Dev.clear_loop (fs : List Fld) : (d.clear fs).loop = d.loop := by
  induction fs generalizing d with
  | nil => rfl
  | cons x fs ih => exact (ih (d.drop x)).trans rfl
@[simp] theorem Dev.clear_bridle (fs : List Fld) : (d.clear fs).bridle = d.bridle := by
  induction fs generalizing d with
  | nil => rfl
  | cons x fs ih => exact (ih (d.drop x)).trans rfl
@[simp] theorem Dev.clear_safety (fs : List Fld) : (d.clear fs).safety = d.safety := by
  induction fs generalizing d with
  | nil => rfl
  | cons x fs ih => exact (ih (d.drop x)).trans rfl
@[simp] theorem Dev.clear_twin (fs : List Fld) : (d.clear fs).twin = d.twin := by
  induction fs generalizing d with
  | nil => rfl
  | cons x fs ih => exact (ih (d.drop x)).trans rfl
@[simp] theorem Dev.clear_life (fs : List Fld) : (d.clear fs).life = d.life := by
  induction fs generalizing d with
  | nil => rfl
  | cons x fs ih => exact (ih (d.drop x)).trans rfl
@[simp] theorem Dev.clear_io (fs : List Fld) : (d.clear fs).io = d.io := by
  induction fs generalizing d with
  | nil => rfl
  | cons x fs ih => exact (ih (d.drop x)).trans rfl
@[simp] theorem Dev.clear_can (fs : List Fld) : (d.clear fs).can = d.can := by
  induction fs generalizing d with
  | nil => rfl
  | cons x fs ih => exact (ih (d.drop x)).trans rfl
@[simp] theorem Dev.clear_ring (fs : List Fld) : (d.clear fs).ring = d.ring := by
  induction fs generalizing d with
  | nil => rfl
  | cons x fs ih => exact (ih (d.drop x)).trans rfl
@[simp] theorem Dev.clear_fab (fs : List Fld) : (d.clear fs).fab = d.fab := by
  induction fs generalizing d with
  | nil => rfl
  | cons x fs ih => exact (ih (d.drop x)).trans rfl
@[simp] theorem Dev.clear_free (fs : List Fld) : (d.clear fs).free = d.free := by
  induction fs generalizing d with
  | nil => rfl
  | cons x fs ih => exact (ih (d.drop x)).trans rfl

/-! ### event presents a record and takes free values -/

@[simp] theorem Dev.event_regs (e : Ev) (src : BitVec 16) (ps : List Word) : (d.event e src ps).regs = d.regs := rfl
@[simp] theorem Dev.event_role (e : Ev) (src : BitVec 16) (ps : List Word) : (d.event e src ps).role = d.role := rfl
@[simp] theorem Dev.event_conn (e : Ev) (src : BitVec 16) (ps : List Word) : (d.event e src ps).conn = d.conn := rfl
@[simp] theorem Dev.event_power (e : Ev) (src : BitVec 16) (ps : List Word) : (d.event e src ps).power = d.power := rfl
@[simp] theorem Dev.event_time (e : Ev) (src : BitVec 16) (ps : List Word) : (d.event e src ps).time = d.time := rfl
@[simp] theorem Dev.event_hist (e : Ev) (src : BitVec 16) (ps : List Word) : (d.event e src ps).hist = d.hist := rfl
@[simp] theorem Dev.event_mgmt (e : Ev) (src : BitVec 16) (ps : List Word) : (d.event e src ps).mgmt = d.mgmt := rfl
@[simp] theorem Dev.event_trust (e : Ev) (src : BitVec 16) (ps : List Word) : (d.event e src ps).trust = d.trust := rfl
@[simp] theorem Dev.event_hrn (e : Ev) (src : BitVec 16) (ps : List Word) : (d.event e src ps).hrn = d.hrn := rfl
@[simp] theorem Dev.event_tiles (e : Ev) (src : BitVec 16) (ps : List Word) : (d.event e src ps).tiles = d.tiles := rfl
@[simp] theorem Dev.event_cycle (e : Ev) (src : BitVec 16) (ps : List Word) : (d.event e src ps).cycle = d.cycle := rfl
@[simp] theorem Dev.event_loop (e : Ev) (src : BitVec 16) (ps : List Word) : (d.event e src ps).loop = d.loop := rfl
@[simp] theorem Dev.event_bridle (e : Ev) (src : BitVec 16) (ps : List Word) : (d.event e src ps).bridle = d.bridle := rfl
@[simp] theorem Dev.event_safety (e : Ev) (src : BitVec 16) (ps : List Word) : (d.event e src ps).safety = d.safety := rfl
@[simp] theorem Dev.event_twin (e : Ev) (src : BitVec 16) (ps : List Word) : (d.event e src ps).twin = d.twin := rfl
@[simp] theorem Dev.event_life (e : Ev) (src : BitVec 16) (ps : List Word) : (d.event e src ps).life = d.life := rfl
@[simp] theorem Dev.event_io (e : Ev) (src : BitVec 16) (ps : List Word) : (d.event e src ps).io = d.io := rfl
@[simp] theorem Dev.event_can (e : Ev) (src : BitVec 16) (ps : List Word) : (d.event e src ps).can = d.can := rfl
@[simp] theorem Dev.event_ring (e : Ev) (src : BitVec 16) (ps : List Word) : (d.event e src ps).ring = d.ring := rfl
@[simp] theorem Dev.event_fab (e : Ev) (src : BitVec 16) (ps : List Word) : (d.event e src ps).fab = d.fab := rfl
@[simp] theorem Dev.event_free (e : Ev) (src : BitVec 16) (ps : List Word) : (d.event e src ps).free = d.free + 1 := rfl

/-! ### eventM presents a record and takes free values -/

@[simp] theorem Dev.eventM_regs (e : Ev) (ps : List Word) : (d.eventM e ps).regs = d.regs := rfl
@[simp] theorem Dev.eventM_role (e : Ev) (ps : List Word) : (d.eventM e ps).role = d.role := rfl
@[simp] theorem Dev.eventM_conn (e : Ev) (ps : List Word) : (d.eventM e ps).conn = d.conn := rfl
@[simp] theorem Dev.eventM_power (e : Ev) (ps : List Word) : (d.eventM e ps).power = d.power := rfl
@[simp] theorem Dev.eventM_time (e : Ev) (ps : List Word) : (d.eventM e ps).time = d.time := rfl
@[simp] theorem Dev.eventM_hist (e : Ev) (ps : List Word) : (d.eventM e ps).hist = d.hist := rfl
@[simp] theorem Dev.eventM_mgmt (e : Ev) (ps : List Word) : (d.eventM e ps).mgmt = d.mgmt := rfl
@[simp] theorem Dev.eventM_trust (e : Ev) (ps : List Word) : (d.eventM e ps).trust = d.trust := rfl
@[simp] theorem Dev.eventM_hrn (e : Ev) (ps : List Word) : (d.eventM e ps).hrn = d.hrn := rfl
@[simp] theorem Dev.eventM_tiles (e : Ev) (ps : List Word) : (d.eventM e ps).tiles = d.tiles := rfl
@[simp] theorem Dev.eventM_cycle (e : Ev) (ps : List Word) : (d.eventM e ps).cycle = d.cycle := rfl
@[simp] theorem Dev.eventM_loop (e : Ev) (ps : List Word) : (d.eventM e ps).loop = d.loop := rfl
@[simp] theorem Dev.eventM_bridle (e : Ev) (ps : List Word) : (d.eventM e ps).bridle = d.bridle := rfl
@[simp] theorem Dev.eventM_safety (e : Ev) (ps : List Word) : (d.eventM e ps).safety = d.safety := rfl
@[simp] theorem Dev.eventM_twin (e : Ev) (ps : List Word) : (d.eventM e ps).twin = d.twin := rfl
@[simp] theorem Dev.eventM_life (e : Ev) (ps : List Word) : (d.eventM e ps).life = d.life := rfl
@[simp] theorem Dev.eventM_io (e : Ev) (ps : List Word) : (d.eventM e ps).io = d.io := rfl
@[simp] theorem Dev.eventM_can (e : Ev) (ps : List Word) : (d.eventM e ps).can = d.can := rfl
@[simp] theorem Dev.eventM_ring (e : Ev) (ps : List Word) : (d.eventM e ps).ring = d.ring := rfl
@[simp] theorem Dev.eventM_fab (e : Ev) (ps : List Word) : (d.eventM e ps).fab = d.fab := rfl
@[simp] theorem Dev.eventM_free (e : Ev) (ps : List Word) : (d.eventM e ps).free = d.free + 1 := rfl

/-! ### putTile changes tiles only -/

@[simp] theorem Dev.putTile_regs (t : Nat) (x : Tile) : (d.putTile t x).regs = d.regs := rfl
@[simp] theorem Dev.putTile_role (t : Nat) (x : Tile) : (d.putTile t x).role = d.role := rfl
@[simp] theorem Dev.putTile_conn (t : Nat) (x : Tile) : (d.putTile t x).conn = d.conn := rfl
@[simp] theorem Dev.putTile_power (t : Nat) (x : Tile) : (d.putTile t x).power = d.power := rfl
@[simp] theorem Dev.putTile_time (t : Nat) (x : Tile) : (d.putTile t x).time = d.time := rfl
@[simp] theorem Dev.putTile_evrec (t : Nat) (x : Tile) : (d.putTile t x).evrec = d.evrec := rfl
@[simp] theorem Dev.putTile_hist (t : Nat) (x : Tile) : (d.putTile t x).hist = d.hist := rfl
@[simp] theorem Dev.putTile_mgmt (t : Nat) (x : Tile) : (d.putTile t x).mgmt = d.mgmt := rfl
@[simp] theorem Dev.putTile_trust (t : Nat) (x : Tile) : (d.putTile t x).trust = d.trust := rfl
@[simp] theorem Dev.putTile_hrn (t : Nat) (x : Tile) : (d.putTile t x).hrn = d.hrn := rfl
@[simp] theorem Dev.putTile_cycle (t : Nat) (x : Tile) : (d.putTile t x).cycle = d.cycle := rfl
@[simp] theorem Dev.putTile_loop (t : Nat) (x : Tile) : (d.putTile t x).loop = d.loop := rfl
@[simp] theorem Dev.putTile_bridle (t : Nat) (x : Tile) : (d.putTile t x).bridle = d.bridle := rfl
@[simp] theorem Dev.putTile_safety (t : Nat) (x : Tile) : (d.putTile t x).safety = d.safety := rfl
@[simp] theorem Dev.putTile_twin (t : Nat) (x : Tile) : (d.putTile t x).twin = d.twin := rfl
@[simp] theorem Dev.putTile_life (t : Nat) (x : Tile) : (d.putTile t x).life = d.life := rfl
@[simp] theorem Dev.putTile_io (t : Nat) (x : Tile) : (d.putTile t x).io = d.io := rfl
@[simp] theorem Dev.putTile_can (t : Nat) (x : Tile) : (d.putTile t x).can = d.can := rfl
@[simp] theorem Dev.putTile_ring (t : Nat) (x : Tile) : (d.putTile t x).ring = d.ring := rfl
@[simp] theorem Dev.putTile_fab (t : Nat) (x : Tile) : (d.putTile t x).fab = d.fab := rfl
@[simp] theorem Dev.putTile_free (t : Nat) (x : Tile) : (d.putTile t x).free = d.free := rfl

/-! ### onRep changes tiles only -/

@[simp] theorem Dev.onRep_regs (t : Nat) (r : Fin 3) (f : Replica → Replica) : (d.onRep t r f).regs = d.regs := rfl
@[simp] theorem Dev.onRep_role (t : Nat) (r : Fin 3) (f : Replica → Replica) : (d.onRep t r f).role = d.role := rfl
@[simp] theorem Dev.onRep_conn (t : Nat) (r : Fin 3) (f : Replica → Replica) : (d.onRep t r f).conn = d.conn := rfl
@[simp] theorem Dev.onRep_power (t : Nat) (r : Fin 3) (f : Replica → Replica) : (d.onRep t r f).power = d.power := rfl
@[simp] theorem Dev.onRep_time (t : Nat) (r : Fin 3) (f : Replica → Replica) : (d.onRep t r f).time = d.time := rfl
@[simp] theorem Dev.onRep_evrec (t : Nat) (r : Fin 3) (f : Replica → Replica) : (d.onRep t r f).evrec = d.evrec := rfl
@[simp] theorem Dev.onRep_hist (t : Nat) (r : Fin 3) (f : Replica → Replica) : (d.onRep t r f).hist = d.hist := rfl
@[simp] theorem Dev.onRep_mgmt (t : Nat) (r : Fin 3) (f : Replica → Replica) : (d.onRep t r f).mgmt = d.mgmt := rfl
@[simp] theorem Dev.onRep_trust (t : Nat) (r : Fin 3) (f : Replica → Replica) : (d.onRep t r f).trust = d.trust := rfl
@[simp] theorem Dev.onRep_hrn (t : Nat) (r : Fin 3) (f : Replica → Replica) : (d.onRep t r f).hrn = d.hrn := rfl
@[simp] theorem Dev.onRep_cycle (t : Nat) (r : Fin 3) (f : Replica → Replica) : (d.onRep t r f).cycle = d.cycle := rfl
@[simp] theorem Dev.onRep_loop (t : Nat) (r : Fin 3) (f : Replica → Replica) : (d.onRep t r f).loop = d.loop := rfl
@[simp] theorem Dev.onRep_bridle (t : Nat) (r : Fin 3) (f : Replica → Replica) : (d.onRep t r f).bridle = d.bridle := rfl
@[simp] theorem Dev.onRep_safety (t : Nat) (r : Fin 3) (f : Replica → Replica) : (d.onRep t r f).safety = d.safety := rfl
@[simp] theorem Dev.onRep_twin (t : Nat) (r : Fin 3) (f : Replica → Replica) : (d.onRep t r f).twin = d.twin := rfl
@[simp] theorem Dev.onRep_life (t : Nat) (r : Fin 3) (f : Replica → Replica) : (d.onRep t r f).life = d.life := rfl
@[simp] theorem Dev.onRep_io (t : Nat) (r : Fin 3) (f : Replica → Replica) : (d.onRep t r f).io = d.io := rfl
@[simp] theorem Dev.onRep_can (t : Nat) (r : Fin 3) (f : Replica → Replica) : (d.onRep t r f).can = d.can := rfl
@[simp] theorem Dev.onRep_ring (t : Nat) (r : Fin 3) (f : Replica → Replica) : (d.onRep t r f).ring = d.ring := rfl
@[simp] theorem Dev.onRep_fab (t : Nat) (r : Fin 3) (f : Replica → Replica) : (d.onRep t r f).fab = d.fab := rfl
@[simp] theorem Dev.onRep_free (t : Nat) (r : Fin 3) (f : Replica → Replica) : (d.onRep t r f).free = d.free := rfl

/-! ### Readings of the state that depend on one field -/

@[simp] theorem Dev.event_word (e : Ev) (src : BitVec 16) (ps : List Word) (o : Nat) :
    (d.event e src ps).word o = d.word o := rfl
@[simp] theorem Dev.event_rd (e : Ev) (src : BitVec 16) (ps : List Word) (f : Fld) : (d.event e src ps).rd f = d.rd f := rfl
@[simp] theorem Dev.event_on (e : Ev) (src : BitVec 16) (ps : List Word) (f : Fld) : (d.event e src ps).on f = d.on f := rfl
@[simp] theorem Dev.eventM_word (e : Ev) (ps : List Word) (o : Nat) : (d.eventM e ps).word o = d.word o := rfl
@[simp] theorem Dev.eventM_rd (e : Ev) (ps : List Word) (f : Fld) : (d.eventM e ps).rd f = d.rd f := rfl
@[simp] theorem Dev.eventM_on (e : Ev) (ps : List Word) (f : Fld) : (d.eventM e ps).on f = d.on f := rfl
@[simp] theorem Dev.putTile_word (t : Nat) (x : Tile) (o : Nat) : (d.putTile t x).word o = d.word o := rfl
@[simp] theorem Dev.putTile_rd (t : Nat) (x : Tile) (f : Fld) : (d.putTile t x).rd f = d.rd f := rfl
@[simp] theorem Dev.onRep_rd (t : Nat) (r : Fin 3) (g : Replica → Replica) (f : Fld) : (d.onRep t r g).rd f = d.rd f := rfl

@[simp] theorem Dev.putWord_tile (o : Nat) (w : Word) (t : Nat) : (d.putWord o w).tile t = d.tile t := rfl
@[simp] theorem Dev.wr_tile (f : Fld) (v t : Nat) : (d.wr f v).tile t = d.tile t := rfl
@[simp] theorem Dev.event_tile (e : Ev) (src : BitVec 16) (ps : List Word) (t : Nat) : (d.event e src ps).tile t = d.tile t := rfl

@[simp] theorem Dev.wr_alive (f : Fld) (v : Nat) : (d.wr f v).alive = d.alive := rfl
@[simp] theorem Dev.raise_alive (f : Fld) : (d.raise f).alive = d.alive := rfl
@[simp] theorem Dev.drop_alive (f : Fld) : (d.drop f).alive = d.alive := rfl
@[simp] theorem Dev.event_alive (e : Ev) (src : BitVec 16) (ps : List Word) : (d.event e src ps).alive = d.alive := rfl
@[simp] theorem Dev.eventM_alive (e : Ev) (ps : List Word) : (d.eventM e ps).alive = d.alive := rfl
@[simp] theorem Dev.wr_now (f : Fld) (v : Nat) : (d.wr f v).now = d.now := rfl
@[simp] theorem Dev.wr_timeT (f : Fld) (v : Nat) : (d.wr f v).timeT = d.timeT := rfl
@[simp] theorem Dev.event_timeT (e : Ev) (src : BitVec 16) (ps : List Word) : (d.event e src ps).timeT = d.timeT := rfl

/-- The records presented after an event are those before it and one more. -/
theorem Dev.event_presented (e : Ev) (src : BitVec 16) (ps : List Word) :
    ∃ r, (d.event e src ps).evrec.presented = d.evrec.presented ++ [r] ∧ r.code = e ∧ r.src = src := ⟨_, rfl, rfl, rfl⟩

end Sys2Proof.Machine
end

