-- ==== Sys2Proof/Laws/Regs.lean ====
section
/-! SUPPORT. Laws of the register file: what a field reads after a write of it, that every other field and register is
unchanged, and that the register file keeps its canonical form. -/

namespace Sys2Proof.Machine

/-! ### Words -/

@[simp] theorem Dev.word_putWord_same (d : Dev) (o : Nat) (w : Word) : (d.putWord o w).word o = w := by
  simp [Dev.word, Dev.putWord]

theorem Dev.word_putWord_other (d : Dev) {o p : Nat} (w : Word) (h : p ≠ o) : (d.putWord o w).word p = d.word p := by
  simp [Dev.word, Dev.putWord, sget_sput_other _ _ _ h]

theorem Dev.word_wr_other (d : Dev) (f : Fld) (v : Nat) {p : Nat} (h : p ≠ f.off) : (d.wr f v).word p = d.word p :=
  Dev.word_putWord_other d _ h

@[simp] theorem Dev.word_wr_same (d : Dev) (f : Fld) (v : Nat) : (d.wr f v).word f.off = setField (d.word f.off) f v := by
  simp [Dev.wr]

/-! ### Fields of a word -/

/-- A word after a field is set, as a number. -/
theorem setField_toNat (w : Word) (f : Fld) (v : Nat) (h : f.lo + f.wd ≤ 32) :
    (setField w f v).toNat = w.toNat - (w.toNat / 2 ^ f.lo % 2 ^ f.wd) * 2 ^ f.lo + (v % 2 ^ f.wd) * 2 ^ f.lo := by
  simp only [setField, BitVec.toNat_ofNat]
  apply Nat.mod_eq_of_lt
  have hw := w.isLt
  have hx : w.toNat / 2 ^ f.lo / 2 ^ f.wd = w.toNat / 2 ^ (f.lo + f.wd) := by rw [Nat.div_div_eq_div_mul, pow_add]
  have e : w.toNat = (w.toNat / 2 ^ (f.lo + f.wd) * 2 ^ f.wd + w.toNat / 2 ^ f.lo % 2 ^ f.wd) * 2 ^ f.lo + w.toNat % 2 ^ f.lo := by
    have a1 := Nat.div_add_mod (w.toNat / 2 ^ f.lo) (2 ^ f.wd)
    have a2 := Nat.div_add_mod w.toNat (2 ^ f.lo)
    rw [hx] at a1
    calc w.toNat = 2 ^ f.lo * (w.toNat / 2 ^ f.lo) + w.toNat % 2 ^ f.lo := a2.symm
      _ = _ := by rw [← a1]; simp [Nat.add_mod]; ring
  have hq : w.toNat / 2 ^ (f.lo + f.wd) < 2 ^ (32 - (f.lo + f.wd)) := by
    rw [Nat.div_lt_iff_lt_mul (by positivity), ← pow_add]
    have : 32 - (f.lo + f.wd) + (f.lo + f.wd) = 32 := by omega
    rw [this]; exact hw
  have hv : v % 2 ^ f.wd < 2 ^ f.wd := Nat.mod_lt _ (by positivity)
  have hr : w.toNat % 2 ^ f.lo < 2 ^ f.lo := Nat.mod_lt _ (by positivity)
  set q := w.toNat / 2 ^ (f.lo + f.wd) with hqd
  set m := w.toNat / 2 ^ f.lo % 2 ^ f.wd
  set r := w.toNat % 2 ^ f.lo
  set n := v % 2 ^ f.wd
  have h1 : w.toNat - m * 2 ^ f.lo = q * 2 ^ f.wd * 2 ^ f.lo + r := by
    rw [e, Nat.add_mul]; omega
  rw [h1]
  have h2 : q * 2 ^ f.wd * 2 ^ f.lo + r + n * 2 ^ f.lo < (q + 1) * 2 ^ f.wd * 2 ^ f.lo := by
    have : (n + 1) * 2 ^ f.lo ≤ 2 ^ f.wd * 2 ^ f.lo := Nat.mul_le_mul_right _ hv
    have e2 : (q + 1) * 2 ^ f.wd * 2 ^ f.lo = q * 2 ^ f.wd * 2 ^ f.lo + 2 ^ f.wd * 2 ^ f.lo := by ring
    rw [e2]
    have e3 : (n + 1) * 2 ^ f.lo = n * 2 ^ f.lo + 2 ^ f.lo := by ring
    omega
  have h3 : (q + 1) * 2 ^ f.wd * 2 ^ f.lo ≤ 2 ^ (32 - (f.lo + f.wd)) * 2 ^ f.wd * 2 ^ f.lo := by
    gcongr; omega
  have h4 : 2 ^ (32 - (f.lo + f.wd)) * 2 ^ f.wd * 2 ^ f.lo = 2 ^ 32 := by
    rw [← pow_add, ← pow_add]; congr 1; omega
  omega

/-- The parts of a word that a field cuts it into. -/
theorem word_split (x lo wd : Nat) :
    x = (x / 2 ^ (lo + wd) * 2 ^ wd + x / 2 ^ lo % 2 ^ wd) * 2 ^ lo + x % 2 ^ lo := by
  have hx : x / 2 ^ lo / 2 ^ wd = x / 2 ^ (lo + wd) := by rw [Nat.div_div_eq_div_mul, pow_add]
  have a1 := Nat.div_add_mod (x / 2 ^ lo) (2 ^ wd)
  have a2 := Nat.div_add_mod x (2 ^ lo)
  rw [hx] at a1
  calc x = 2 ^ lo * (x / 2 ^ lo) + x % 2 ^ lo := a2.symm
    _ = _ := by rw [← a1]; simp [Nat.add_mod]; ring

/-- A field's bits of a word, by position. -/
theorem testBit_field (x lo wd i : Nat) : (x / 2 ^ lo % 2 ^ wd).testBit i = (decide (i < wd) && x.testBit (lo + i)) := by
  rw [Nat.testBit_mod_two_pow, Nat.testBit_div_two_pow, Nat.add_comm]

/-- A word after a field is set, bit by bit. -/
theorem setField_testBit (w : Word) (f : Fld) (v i : Nat) (h : f.lo + f.wd ≤ 32) :
    (setField w f v).toNat.testBit i =
      if f.lo ≤ i ∧ i < f.lo + f.wd then v.testBit (i - f.lo) else w.toNat.testBit i := by
  rw [setField_toNat w f v h]
  have e := word_split w.toNat f.lo f.wd
  set q := w.toNat / 2 ^ (f.lo + f.wd)
  set m := w.toNat / 2 ^ f.lo % 2 ^ f.wd
  set r := w.toNat % 2 ^ f.lo
  have hr : r < 2 ^ f.lo := Nat.mod_lt _ (by positivity)
  have hm : m < 2 ^ f.wd := Nat.mod_lt _ (by positivity)
  have hv : v % 2 ^ f.wd < 2 ^ f.wd := Nat.mod_lt _ (by positivity)
  have h1 : w.toNat - m * 2 ^ f.lo + v % 2 ^ f.wd * 2 ^ f.lo
      = 2 ^ f.lo * (2 ^ f.wd * q + v % 2 ^ f.wd) + r := by
    rw [e]
    have : (q * 2 ^ f.wd + m) * 2 ^ f.lo = q * 2 ^ f.wd * 2 ^ f.lo + m * 2 ^ f.lo := by ring
    rw [this]
    have e3 : 2 ^ f.lo * (2 ^ f.wd * q + v % 2 ^ f.wd) = q * 2 ^ f.wd * 2 ^ f.lo + v % 2 ^ f.wd * 2 ^ f.lo := by ring
    rw [e3]; omega
  have h2 : w.toNat = 2 ^ f.lo * (2 ^ f.wd * q + m) + r := by rw [e]; ring
  rw [h1]
  conv_rhs => rw [h2]
  rw [Nat.testBit_two_pow_mul_add _ hr, Nat.testBit_two_pow_mul_add _ hr, Nat.testBit_two_pow_mul_add _ hv,
    Nat.testBit_two_pow_mul_add _ hm, Nat.testBit_mod_two_pow]
  by_cases a : i < f.lo
  · simp [a]
  · by_cases b : i - f.lo < f.wd
    · have : f.lo ≤ i ∧ i < f.lo + f.wd := by omega
      simp [a, b, this]
    · have : ¬(f.lo ≤ i ∧ i < f.lo + f.wd) := by omega
      simp [a, b, this]

/-! ### Fields of the register file -/

/-- A field lies in its register. -/
def Fld.fits (f : Fld) : Prop := f.lo + f.wd ≤ 32

/-- Two fields share no bit. -/
def Fld.apart (f g : Fld) : Prop := f.off ≠ g.off ∨ f.lo + f.wd ≤ g.lo ∨ g.lo + g.wd ≤ f.lo

/-- A field reads what was written to it. -/
theorem Dev.rd_wr_same (d : Dev) (f : Fld) (v : Nat) (h : f.lo + f.wd ≤ 32) : (d.wr f v).rd f = v % 2 ^ f.wd := by
  apply Nat.eq_of_testBit_eq
  intro i
  simp only [Dev.rd, Dev.word_wr_same]
  rw [testBit_field, setField_testBit _ _ _ _ h, Nat.testBit_mod_two_pow]
  by_cases a : i < f.wd
  · rw [if_pos (by omega)]; simp
  · simp [a]

/-- A write of a field leaves every other field as it is. -/
theorem Dev.rd_wr_other (d : Dev) (f g : Fld) (v : Nat) (h : f.lo + f.wd ≤ 32) (a : f.apart g) :
    (d.wr f v).rd g = d.rd g := by
  rcases a with a | a
  · simp only [Dev.rd]; rw [Dev.word_wr_other _ _ _ (fun e => a e.symm)]
  · by_cases o : g.off = f.off
    · apply Nat.eq_of_testBit_eq
      intro i
      simp only [Dev.rd, o, Dev.word_wr_same]
      rw [testBit_field, testBit_field, setField_testBit _ _ _ _ h]
      by_cases b : i < g.wd
      · rw [if_neg (by omega)]
      · simp [b]
    · simp only [Dev.rd]; rw [Dev.word_wr_other _ _ _ o]

/-- A register with two words of the same value reads alike. -/
theorem Dev.rd_lt (d : Dev) (f : Fld) : d.rd f < 2 ^ f.wd := Nat.mod_lt _ (by positivity)

/-! ### The register file keeps its canonical form -/

theorem Dev.putWord_canonical (d : Dev) (o : Nat) (w : Word) (h : swf resetWord d.regs) :
    swf resetWord (d.putWord o w).regs := swf_sput _ _ _ _ h

theorem Dev.wr_canonical (d : Dev) (f : Fld) (v : Nat) (h : swf resetWord d.regs) : swf resetWord (d.wr f v).regs :=
  swf_sput _ _ _ _ h

/-! ### Tiles -/

@[simp] theorem Dev.tile_putTile_same (d : Dev) (t : Nat) (x : Tile) : (d.putTile t x).tile t = x := by
  simp [Dev.tile, Dev.putTile]

theorem Dev.tile_putTile_other (d : Dev) {t u : Nat} (x : Tile) (h : u ≠ t) : (d.putTile t x).tile u = d.tile u := by
  simp [Dev.tile, Dev.putTile, sget_sput_other _ _ _ h]

@[simp] theorem Tile.rep_setRep_same (t : Tile) (r : Fin 3) (x : Replica) : (t.setRep r x).rep r = x := by
  match r with
  | 0 => rfl
  | 1 => rfl
  | 2 => rfl

theorem Tile.rep_setRep_other (t : Tile) (r q : Fin 3) (x : Replica) (h : q ≠ r) : (t.setRep r x).rep q = t.rep q := by
  match r, q, h with
  | 0, 1, _ => rfl
  | 0, 2, _ => rfl
  | 1, 0, _ => rfl
  | 1, 2, _ => rfl
  | 2, 0, _ => rfl
  | 2, 1, _ => rfl
  | 0, 0, h => exact absurd rfl h
  | 1, 1, h => exact absurd rfl h
  | 2, 2, h => exact absurd rfl h

end Sys2Proof.Machine
end

