-- ==== Sys2Proof/Laws/Fields.lean ====
section
/-! SUPPORT. Laws of fields as the statements speak of them: which fields a change of the register file leaves alone, and
what the counters, flags and clears of a meaning leave in theirs. -/

namespace Sys2Proof.Machine

/-! ### Answers -/

/-- A meaning that changes the module by a function answers with what the function makes of it. -/
theorem answers_act {c : Instr} {s : State} {f : Dev → Dev} {P : Dev → Prop} (e : exec c s = s.act f) (h : P (f s.dev)) :
    Answers c s P := ⟨_, e, h⟩

/-- An answer has whatever follows from what it has. -/
theorem Answers.mono {c : Instr} {s : State} {P Q : Dev → Prop} (h : Answers c s P) (pq : ∀ d, P d → Q d) : Answers c s Q :=
  let ⟨d, e, p⟩ := h
  ⟨d, e, pq d p⟩

/-! ### The register file alone decides what a field reads -/

theorem Dev.rd_of_regs {d e : Dev} (h : d.regs = e.regs) (f : Fld) : d.rd f = e.rd f := by
  simp only [Dev.rd, Dev.word, h]

theorem Dev.on_of_regs {d e : Dev} (h : d.regs = e.regs) (f : Fld) : d.on f = e.on f := by
  simp only [Dev.on, Dev.rd_of_regs h]

theorem Fld.separate_symm {f g : Fld} (h : f.separate g) : g.separate f := by
  rcases h with h | h | h
  · exact .inl (Ne.symm h)
  · exact .inr (.inr h)
  · exact .inr (.inl h)

/-! ### Other fields -/

theorem otherFields_of_regs {d e : Dev} (h : e.regs = d.regs) (fs : List Fld) : OtherFields d e fs :=
  fun g _ => Dev.rd_of_regs h g

theorem otherFields_refl (d : Dev) (fs : List Fld) : OtherFields d d fs := fun _ _ => rfl

theorem OtherFields.mono {d e : Dev} {fs gs : List Fld} (h : OtherFields d e fs) (sub : ∀ f ∈ fs, f ∈ gs) :
    OtherFields d e gs := fun g hg => h g (fun f hf => hg f (sub f hf))

theorem OtherFields.trans {d e c : Dev} {fs gs : List Fld} (h1 : OtherFields d e fs) (h2 : OtherFields e c gs) :
    OtherFields d c (fs ++ gs) := fun g hg => by
  rw [h2 g (fun f hf => hg f (List.mem_append_right _ hf)), h1 g (fun f hf => hg f (List.mem_append_left _ hf))]

theorem otherFields_wr (d : Dev) (f : Fld) (v : Nat) (h : f.lo + f.wd ≤ 32) : OtherFields d (d.wr f v) [f] :=
  fun g hg => Dev.rd_wr_other d f g v h (hg f (by simp))

/-- A write after others: the field it writes joins those that have changed. -/
theorem OtherFields.wr {d e : Dev} {fs : List Fld} (h1 : OtherFields d e fs) (f : Fld) (v : Nat) (h : f.lo + f.wd ≤ 32) :
    OtherFields d (e.wr f v) (fs ++ [f]) := h1.trans (otherFields_wr e f v h)

/-! ### Counters and flags -/

theorem Dev.rd_raise (d : Dev) (f : Fld) (h : f.lo + f.wd ≤ 32) (w : 0 < f.wd) : (d.raise f).rd f = 1 := by
  rw [Dev.raise, Dev.rd_wr_same d f 1 h]
  exact Nat.mod_eq_of_lt (Nat.one_lt_two_pow (by omega))

theorem Dev.rd_drop (d : Dev) (f : Fld) (h : f.lo + f.wd ≤ 32) : (d.drop f).rd f = 0 := by
  rw [Dev.drop, Dev.rd_wr_same d f 0 h]; exact Nat.zero_mod _

theorem Dev.rd_flag (d : Dev) (f : Fld) (b : Bool) (h : f.lo + f.wd ≤ 32) (w : 0 < f.wd) : (d.flag f b).rd f = bit b := by
  cases b
  · exact Dev.rd_drop d f h
  · exact Dev.rd_raise d f h w

theorem Dev.rd_incSat (d : Dev) (f : Fld) (h : f.lo + f.wd ≤ 32) :
    (d.incSat f).rd f = min (d.rd f + 1) (2 ^ f.wd - 1) := by
  have : 0 < 2 ^ f.wd := by positivity
  rw [Dev.incSat, Dev.addSat, Dev.rd_wr_same _ _ _ h, Nat.mod_eq_of_lt (by omega)]

theorem Dev.rd_incWrap (d : Dev) (f : Fld) (h : f.lo + f.wd ≤ 32) : (d.incWrap f).rd f = (d.rd f + 1) % 2 ^ f.wd :=
  Dev.rd_wr_same _ _ _ h

theorem Dev.rd_wrSat (d : Dev) (f : Fld) (v : Nat) (h : f.lo + f.wd ≤ 32) : (d.wrSat f v).rd f = min v (2 ^ f.wd - 1) := by
  have : 0 < 2 ^ f.wd := by positivity
  rw [Dev.wrSat, Dev.rd_wr_same _ _ _ h, Nat.mod_eq_of_lt (by omega)]

theorem Dev.rd_maxTo (d : Dev) (f : Fld) (v : Nat) (h : f.lo + f.wd ≤ 32) :
    (d.maxTo f v).rd f = max (d.rd f) (min v (2 ^ f.wd - 1)) := by
  have : 0 < 2 ^ f.wd := by positivity
  have := Dev.rd_lt d f
  rw [Dev.maxTo, Dev.rd_wr_same _ _ _ h, Nat.mod_eq_of_lt (by omega)]

/-! ### Clears -/

/-- A clear leaves every field that shares no bit with the cleared ones. -/
theorem Dev.rd_clear_other (fs : List Fld) : ∀ (d : Dev) (g : Fld), (∀ f ∈ fs, f.lo + f.wd ≤ 32) →
    (∀ f ∈ fs, f.separate g) → (d.clear fs).rd g = d.rd g := by
  induction fs with
  | nil => intros; rfl
  | cons f fs ih =>
    intro d g h1 h2
    show ((d.drop f).clear fs).rd g = _
    rw [ih _ _ (fun x hx => h1 x (by simp [hx])) (fun x hx => h2 x (by simp [hx]))]
    exact Dev.rd_wr_other d f g 0 (h1 f (by simp)) (h2 f (by simp))

/-- Cleared fields read 0. -/
theorem Dev.rd_clear (fs : List Fld) : ∀ (d : Dev) (g : Fld), (∀ f ∈ fs, f.lo + f.wd ≤ 32) →
    fs.Pairwise Fld.separate → g ∈ fs → (d.clear fs).rd g = 0 := by
  induction fs with
  | nil => intros; simp at *
  | cons f fs ih =>
    intro d g h1 h2 h3
    show ((d.drop f).clear fs).rd g = _
    rw [List.pairwise_cons] at h2
    rcases List.mem_cons.1 h3 with rfl | h3
    · rw [Dev.rd_clear_other _ _ _ (fun x hx => h1 x (by simp [hx]))
        (fun f hf => Fld.separate_symm (h2.1 f hf))]
      exact Dev.rd_drop d g (h1 g (by simp))
    · exact ih _ _ (fun x hx => h1 x (by simp [hx])) h2.2 h3

/-- A clear changes registers only. -/
theorem Dev.clear_eq (fs : List Fld) : ∀ d : Dev, d.clear fs = { d with regs := (d.clear fs).regs } := by
  induction fs with
  | nil => intro d; rfl
  | cons f fs ih => intro d; exact ih _

/-- A meaning that is a clear clears its fields and changes nothing else. -/
theorem clearsOnly_of {c : Instr} {s : State} {fs : List Fld} (e : exec c s = s.act (fun d => d.clear fs))
    (h1 : ∀ f ∈ fs, f.lo + f.wd ≤ 32) (h2 : fs.Pairwise Fld.separate) : ClearsOnly c s fs :=
  ⟨_, e, fun f hf => Dev.rd_clear fs _ f h1 h2 hf, Dev.clear_eq _ _, fun g hg => Dev.rd_clear_other fs _ g h1 hg⟩

end Sys2Proof.Machine
end

