-- ==== Sys2Proof/Laws/Events.lean ====
section
/-! SUPPORT. Laws of event records: what presenting one changes. -/

namespace Sys2Proof.Machine

/-- An event presents one record and takes one free value; nothing else changes. -/
theorem Dev.event_eq (d : Dev) (e : Ev) (src : BitVec 16) (ps : List Word) :
    d.event e src ps = { d with
      free := d.free + 1, evrec := { d.evrec with presented := (d.event e src ps).evrec.presented } } := rfl

theorem presents_none (d e : Dev) (h : e.evrec.presented = d.evrec.presented) : Presents d e [] := ⟨[], by simp [h], rfl⟩

theorem presents_event (d : Dev) (e : Ev) (src : BitVec 16) (ps : List Word) : Presents d (d.event e src ps) [(e, src)] :=
  ⟨_, rfl, rfl⟩

theorem Presents.trans {d e c : Dev} {xs ys : List (Ev × BitVec 16)} (h1 : Presents d e xs) (h2 : Presents e c ys) :
    Presents d c (xs ++ ys) := by
  obtain ⟨rs, e1, m1⟩ := h1
  obtain ⟨qs, e2, m2⟩ := h2
  exact ⟨rs ++ qs, by rw [e2, e1, List.append_assoc], by rw [List.map_append, m1, m2]⟩

/-- A record after others: what was presented before it may have been presented by any change. -/
theorem Presents.event {d c : Dev} {xs : List (Ev × BitVec 16)} (h : Presents d c xs) (e : Ev) (src : BitVec 16)
    (ps : List Word) : Presents d (c.event e src ps) (xs ++ [(e, src)]) := h.trans (presents_event c e src ps)

/-- A change that presents nothing leaves what has been presented. -/
theorem Presents.of_eq {d c c' : Dev} {xs : List (Ev × BitVec 16)} (h : Presents d c xs)
    (e : c'.evrec.presented = c.evrec.presented) : Presents d c' xs := by
  obtain ⟨rs, e1, m1⟩ := h
  exact ⟨rs, by rw [e, e1], m1⟩

/-- A write to the flash: with a replacement block left it is made; with none the flash is worn. -/
theorem Dev.flashWrite_cases (d : Dev) (f : Dev → Dev) :
    (d.poolEmpty = false ∧ d.flashWrite f = f d) ∨ (d.poolEmpty = true ∧ d.flashWrite f = d.wornFlash) := by
  unfold Dev.flashWrite
  cases h : d.poolEmpty
  · exact .inl ⟨rfl, rfl⟩
  · exact .inr ⟨rfl, rfl⟩

end Sys2Proof.Machine
end

