-- ==== Sys2Proof/Laws/PerInstr.lean ====
section
/-! SUPPORT. One law per constructor: a command that has a 32-bit word is one of a replica of a tile. -/

open Sys2Proof Sys2Proof.Machine

/-- A command that has a word (R159) names the tile and the replica that execute it. -/
def Sys2Proof.Laws.WordOfReplica.Statement (i : Sys2Proof.Instr) : Prop :=
  ∀ w, Sys2Proof.tackEncode i = some w → ∃ t r, Sys2Proof.Machine.tackOf i = some (t, r)

theorem Sys2Proof.Laws.WordOfReplica.registerWrite (path : Path) (offset : BitVec 24) (value : Word) :
    Sys2Proof.Laws.WordOfReplica.Statement (Sys2Proof.Instr.registerWrite path offset value) :=
  fun _ h => nomatch h

theorem Sys2Proof.Laws.WordOfReplica.enterSafetyMaint (req : Req) :
    Sys2Proof.Laws.WordOfReplica.Statement (Sys2Proof.Instr.enterSafetyMaint req) :=
  fun _ h => nomatch h

theorem Sys2Proof.Laws.WordOfReplica.leaveSafetyMaint (req : Req) :
    Sys2Proof.Laws.WordOfReplica.Statement (Sys2Proof.Instr.leaveSafetyMaint req) :=
  fun _ h => nomatch h

theorem Sys2Proof.Laws.WordOfReplica.seatedLoopClose :
    Sys2Proof.Laws.WordOfReplica.Statement (Sys2Proof.Instr.seatedLoopClose) :=
  fun _ h => nomatch h

theorem Sys2Proof.Laws.WordOfReplica.electronicsPowerOn :
    Sys2Proof.Laws.WordOfReplica.Statement (Sys2Proof.Instr.electronicsPowerOn) :=
  fun _ h => nomatch h

theorem Sys2Proof.Laws.WordOfReplica.seatedLoopOpen :
    Sys2Proof.Laws.WordOfReplica.Statement (Sys2Proof.Instr.seatedLoopOpen) :=
  fun _ h => nomatch h

theorem Sys2Proof.Laws.WordOfReplica.moduleReset (cause : ResetCause) :
    Sys2Proof.Laws.WordOfReplica.Statement (Sys2Proof.Instr.moduleReset cause) :=
  fun _ h => nomatch h

theorem Sys2Proof.Laws.WordOfReplica.positionSampleAttempt (first second third : BitVec 6) :
    Sys2Proof.Laws.WordOfReplica.Statement (Sys2Proof.Instr.positionSampleAttempt first second third) :=
  fun _ h => nomatch h

theorem Sys2Proof.Laws.WordOfReplica.positionPinSample (pins : BitVec 5) :
    Sys2Proof.Laws.WordOfReplica.Statement (Sys2Proof.Instr.positionPinSample pins) :=
  fun _ h => nomatch h

theorem Sys2Proof.Laws.WordOfReplica.keeperSample (switches : BitVec 9) :
    Sys2Proof.Laws.WordOfReplica.Statement (Sys2Proof.Instr.keeperSample switches) :=
  fun _ h => nomatch h

theorem Sys2Proof.Laws.WordOfReplica.feedGood (feed : Fin 2) :
    Sys2Proof.Laws.WordOfReplica.Statement (Sys2Proof.Instr.feedGood feed) :=
  fun _ h => nomatch h

theorem Sys2Proof.Laws.WordOfReplica.feedLost (feed : Fin 2) :
    Sys2Proof.Laws.WordOfReplica.Statement (Sys2Proof.Instr.feedLost feed) :=
  fun _ h => nomatch h

theorem Sys2Proof.Laws.WordOfReplica.feedOvervoltage (feed : Fin 2) :
    Sys2Proof.Laws.WordOfReplica.Statement (Sys2Proof.Instr.feedOvervoltage feed) :=
  fun _ h => nomatch h

theorem Sys2Proof.Laws.WordOfReplica.feedDip (feed : Fin 2) :
    Sys2Proof.Laws.WordOfReplica.Statement (Sys2Proof.Instr.feedDip feed) :=
  fun _ h => nomatch h

theorem Sys2Proof.Laws.WordOfReplica.powerFailCommit :
    Sys2Proof.Laws.WordOfReplica.Statement (Sys2Proof.Instr.powerFailCommit) :=
  fun _ h => nomatch h

theorem Sys2Proof.Laws.WordOfReplica.pfCycleEnd :
    Sys2Proof.Laws.WordOfReplica.Statement (Sys2Proof.Instr.pfCycleEnd) :=
  fun _ h => nomatch h

theorem Sys2Proof.Laws.WordOfReplica.pfRetainSaved :
    Sys2Proof.Laws.WordOfReplica.Statement (Sys2Proof.Instr.pfRetainSaved) :=
  fun _ h => nomatch h

theorem Sys2Proof.Laws.WordOfReplica.pfJournalWritten :
    Sys2Proof.Laws.WordOfReplica.Statement (Sys2Proof.Instr.pfJournalWritten) :=
  fun _ h => nomatch h

theorem Sys2Proof.Laws.WordOfReplica.holdupExhausted :
    Sys2Proof.Laws.WordOfReplica.Statement (Sys2Proof.Instr.holdupExhausted) :=
  fun _ h => nomatch h

theorem Sys2Proof.Laws.WordOfReplica.holdupCharged (cap : Byte) :
    Sys2Proof.Laws.WordOfReplica.Statement (Sys2Proof.Instr.holdupCharged cap) :=
  fun _ h => nomatch h

theorem Sys2Proof.Laws.WordOfReplica.fldGood :
    Sys2Proof.Laws.WordOfReplica.Statement (Sys2Proof.Instr.fldGood) :=
  fun _ h => nomatch h

theorem Sys2Proof.Laws.WordOfReplica.fldLost :
    Sys2Proof.Laws.WordOfReplica.Statement (Sys2Proof.Instr.fldLost) :=
  fun _ h => nomatch h

theorem Sys2Proof.Laws.WordOfReplica.fldFuse :
    Sys2Proof.Laws.WordOfReplica.Statement (Sys2Proof.Instr.fldFuse) :=
  fun _ h => nomatch h

theorem Sys2Proof.Laws.WordOfReplica.fldReclose :
    Sys2Proof.Laws.WordOfReplica.Statement (Sys2Proof.Instr.fldReclose) :=
  fun _ h => nomatch h

theorem Sys2Proof.Laws.WordOfReplica.coldStartWaitEnd :
    Sys2Proof.Laws.WordOfReplica.Statement (Sys2Proof.Instr.coldStartWaitEnd) :=
  fun _ h => nomatch h

theorem Sys2Proof.Laws.WordOfReplica.bridleStartChecks (cause : Fin 9) (ms : Nat) :
    Sys2Proof.Laws.WordOfReplica.Statement (Sys2Proof.Instr.bridleStartChecks cause ms) :=
  fun _ h => nomatch h

theorem Sys2Proof.Laws.WordOfReplica.harnessBootSelect :
    Sys2Proof.Laws.WordOfReplica.Statement (Sys2Proof.Instr.harnessBootSelect) :=
  fun _ h => nomatch h

theorem Sys2Proof.Laws.WordOfReplica.clusterPowerUp (cluster : Fin 9) :
    Sys2Proof.Laws.WordOfReplica.Statement (Sys2Proof.Instr.clusterPowerUp cluster) :=
  fun _ h => nomatch h

theorem Sys2Proof.Laws.WordOfReplica.clusterPower (cluster : Fin 9) :
    Sys2Proof.Laws.WordOfReplica.Statement (Sys2Proof.Instr.clusterPower cluster) :=
  fun _ h => nomatch h

theorem Sys2Proof.Laws.WordOfReplica.startSelfTestDone (findings : TestFindings) :
    Sys2Proof.Laws.WordOfReplica.Statement (Sys2Proof.Instr.startSelfTestDone findings) :=
  fun _ h => nomatch h

theorem Sys2Proof.Laws.WordOfReplica.clustersLoaded :
    Sys2Proof.Laws.WordOfReplica.Statement (Sys2Proof.Instr.clustersLoaded) :=
  fun _ h => nomatch h

theorem Sys2Proof.Laws.WordOfReplica.listenWindowEnd (partnerSlot : Option (DWord × List (Nat × List Byte))) :
    Sys2Proof.Laws.WordOfReplica.Statement (Sys2Proof.Instr.listenWindowEnd partnerSlot) :=
  fun _ h => nomatch h

theorem Sys2Proof.Laws.WordOfReplica.standbyWaitTimeout :
    Sys2Proof.Laws.WordOfReplica.Statement (Sys2Proof.Instr.standbyWaitTimeout) :=
  fun _ h => nomatch h

theorem Sys2Proof.Laws.WordOfReplica.thermalSample (sensor : Fin 11) (tenths : Int) :
    Sys2Proof.Laws.WordOfReplica.Statement (Sys2Proof.Instr.thermalSample sensor tenths) :=
  fun _ h => nomatch h

theorem Sys2Proof.Laws.WordOfReplica.thermalStop :
    Sys2Proof.Laws.WordOfReplica.Statement (Sys2Proof.Instr.thermalStop) :=
  fun _ h => nomatch h

theorem Sys2Proof.Laws.WordOfReplica.thermalReset :
    Sys2Proof.Laws.WordOfReplica.Statement (Sys2Proof.Instr.thermalReset) :=
  fun _ h => nomatch h

theorem Sys2Proof.Laws.WordOfReplica.dioGroupEnable :
    Sys2Proof.Laws.WordOfReplica.Statement (Sys2Proof.Instr.dioGroupEnable) :=
  fun _ h => nomatch h

theorem Sys2Proof.Laws.WordOfReplica.flitReceive (tile : Fin 144) (port : Fin 8) (flit : NumberedFlit) (ok : Bool) :
    Sys2Proof.Laws.WordOfReplica.Statement (Sys2Proof.Instr.flitReceive tile port flit ok) :=
  fun _ h => nomatch h

theorem Sys2Proof.Laws.WordOfReplica.linkFailed (tile : Fin 144) (dir : Fin 4) :
    Sys2Proof.Laws.WordOfReplica.Statement (Sys2Proof.Instr.linkFailed tile dir) :=
  fun _ h => nomatch h

theorem Sys2Proof.Laws.WordOfReplica.linkDegraded (tile : Fin 144) (dir : Fin 4) :
    Sys2Proof.Laws.WordOfReplica.Statement (Sys2Proof.Instr.linkDegraded tile dir) :=
  fun _ h => nomatch h

theorem Sys2Proof.Laws.WordOfReplica.portCompletionTimeout (tile : Fin 144) (port : Fin 6) :
    Sys2Proof.Laws.WordOfReplica.Statement (Sys2Proof.Instr.portCompletionTimeout tile port) :=
  fun _ h => nomatch h

theorem Sys2Proof.Laws.WordOfReplica.paceWindow (cluster : Fin 9) (periods : List Nat) :
    Sys2Proof.Laws.WordOfReplica.Statement (Sys2Proof.Instr.paceWindow cluster periods) :=
  fun _ h => nomatch h

theorem Sys2Proof.Laws.WordOfReplica.paceSlow (cluster : Fin 9) (monitor : Fin 17) :
    Sys2Proof.Laws.WordOfReplica.Statement (Sys2Proof.Instr.paceSlow cluster monitor) :=
  fun _ h => nomatch h

theorem Sys2Proof.Laws.WordOfReplica.railSample (cluster : Fin 9) (mv tj : BitVec 16) :
    Sys2Proof.Laws.WordOfReplica.Statement (Sys2Proof.Instr.railSample cluster mv tj) :=
  fun _ h => nomatch h

theorem Sys2Proof.Laws.WordOfReplica.fabClearMax (cluster : Fin 9) :
    Sys2Proof.Laws.WordOfReplica.Statement (Sys2Proof.Instr.fabClearMax cluster) :=
  fun _ h => nomatch h

theorem Sys2Proof.Laws.WordOfReplica.fabClearCounts (cluster : Fin 9) :
    Sys2Proof.Laws.WordOfReplica.Statement (Sys2Proof.Instr.fabClearCounts cluster) :=
  fun _ h => nomatch h

theorem Sys2Proof.Laws.WordOfReplica.linkTest (cluster : Fin 9) (failing : Word) :
    Sys2Proof.Laws.WordOfReplica.Statement (Sys2Proof.Instr.linkTest cluster failing) :=
  fun _ h => nomatch h

theorem Sys2Proof.Laws.WordOfReplica.slotWrite (req : Req) (slot : Fin 4) (offset : Nat) (data : List Byte) :
    Sys2Proof.Laws.WordOfReplica.Statement (Sys2Proof.Instr.slotWrite req slot offset data) :=
  fun _ h => nomatch h

theorem Sys2Proof.Laws.WordOfReplica.slotCommit (req : Req) (slot : Fin 4) :
    Sys2Proof.Laws.WordOfReplica.Statement (Sys2Proof.Instr.slotCommit req slot) :=
  fun _ h => nomatch h

theorem Sys2Proof.Laws.WordOfReplica.slotRead (req : Req) (slot : Fin 4) (offset length : Nat) :
    Sys2Proof.Laws.WordOfReplica.Statement (Sys2Proof.Instr.slotRead req slot offset length) :=
  fun _ h => nomatch h

theorem Sys2Proof.Laws.WordOfReplica.stage (req : Req) (slot : Fin 4) :
    Sys2Proof.Laws.WordOfReplica.Statement (Sys2Proof.Instr.stage req slot) :=
  fun _ h => nomatch h

theorem Sys2Proof.Laws.WordOfReplica.abortStage (req : Req) :
    Sys2Proof.Laws.WordOfReplica.Statement (Sys2Proof.Instr.abortStage req) :=
  fun _ h => nomatch h

theorem Sys2Proof.Laws.WordOfReplica.partitionReady (part : Nat) :
    Sys2Proof.Laws.WordOfReplica.Statement (Sys2Proof.Instr.partitionReady part) :=
  fun _ h => nomatch h

theorem Sys2Proof.Laws.WordOfReplica.stageTimeout :
    Sys2Proof.Laws.WordOfReplica.Statement (Sys2Proof.Instr.stageTimeout) :=
  fun _ h => nomatch h

theorem Sys2Proof.Laws.WordOfReplica.hrnSwitched :
    Sys2Proof.Laws.WordOfReplica.Statement (Sys2Proof.Instr.hrnSwitched) :=
  fun _ h => nomatch h

theorem Sys2Proof.Laws.WordOfReplica.switchAnnounce (a : Announcement) :
    Sys2Proof.Laws.WordOfReplica.Statement (Sys2Proof.Instr.switchAnnounce a) :=
  fun _ h => nomatch h

theorem Sys2Proof.Laws.WordOfReplica.standbyReadyReport (fp : BitVec 128) (report : StandbyReport) :
    Sys2Proof.Laws.WordOfReplica.Statement (Sys2Proof.Instr.standbyReadyReport fp report) :=
  fun _ h => nomatch h

theorem Sys2Proof.Laws.WordOfReplica.standbyImageCopied (image : List (Nat × Byte)) (approvals : List SentApproval) :
    Sys2Proof.Laws.WordOfReplica.Statement (Sys2Proof.Instr.standbyImageCopied image approvals) :=
  fun _ h => nomatch h

theorem Sys2Proof.Laws.WordOfReplica.successorReloadDone (copy : StateCopy) :
    Sys2Proof.Laws.WordOfReplica.Statement (Sys2Proof.Instr.successorReloadDone copy) :=
  fun _ h => nomatch h

theorem Sys2Proof.Laws.WordOfReplica.agreementRound (tile : Fin 144) (a b c : Option Contribution) :
    Sys2Proof.Laws.WordOfReplica.Statement (Sys2Proof.Instr.agreementRound tile a b c) :=
  fun _ h => nomatch h

theorem Sys2Proof.Laws.WordOfReplica.roundTimeout (tile : Fin 144) (a b c : Option Contribution) :
    Sys2Proof.Laws.WordOfReplica.Statement (Sys2Proof.Instr.roundTimeout tile a b c) :=
  fun _ h => nomatch h

theorem Sys2Proof.Laws.WordOfReplica.sharedRead (tile : Fin 144) :
    Sys2Proof.Laws.WordOfReplica.Statement (Sys2Proof.Instr.sharedRead tile) :=
  fun _ h => nomatch h

theorem Sys2Proof.Laws.WordOfReplica.sharedReadTimeout (tile : Fin 144) :
    Sys2Proof.Laws.WordOfReplica.Statement (Sys2Proof.Instr.sharedReadTimeout tile) :=
  fun _ h => nomatch h

theorem Sys2Proof.Laws.WordOfReplica.eventDelivery (tile : Fin 144) :
    Sys2Proof.Laws.WordOfReplica.Statement (Sys2Proof.Instr.eventDelivery tile) :=
  fun _ h => nomatch h

theorem Sys2Proof.Laws.WordOfReplica.eventTimeout (tile : Fin 144) (rep : Fin 3) :
    Sys2Proof.Laws.WordOfReplica.Statement (Sys2Proof.Instr.eventTimeout tile rep) :=
  fun _ h => nomatch h

theorem Sys2Proof.Laws.WordOfReplica.voterEntry (tile : Fin 144) (rep : Fin 3) :
    Sys2Proof.Laws.WordOfReplica.Statement (Sys2Proof.Instr.voterEntry tile rep) :=
  fun _ h => nomatch h

theorem Sys2Proof.Laws.WordOfReplica.voterTimeout (tile : Fin 144) :
    Sys2Proof.Laws.WordOfReplica.Statement (Sys2Proof.Instr.voterTimeout tile) :=
  fun _ h => nomatch h

theorem Sys2Proof.Laws.WordOfReplica.stitchDeliver (tile : Fin 144) (rep : Fin 3) :
    Sys2Proof.Laws.WordOfReplica.Statement (Sys2Proof.Instr.stitchDeliver tile rep) :=
  fun _ h => nomatch h

theorem Sys2Proof.Laws.WordOfReplica.stitchTimeout (tile : Fin 144) (rep : Fin 3) :
    Sys2Proof.Laws.WordOfReplica.Statement (Sys2Proof.Instr.stitchTimeout tile rep) :=
  fun _ h => nomatch h

theorem Sys2Proof.Laws.WordOfReplica.sramUncorr (tile : Fin 144) (rep : Fin 3) :
    Sys2Proof.Laws.WordOfReplica.Statement (Sys2Proof.Instr.sramUncorr tile rep) :=
  fun _ h => nomatch h

theorem Sys2Proof.Laws.WordOfReplica.sramCorrected (tile : Fin 144) (rep : Fin 3) :
    Sys2Proof.Laws.WordOfReplica.Statement (Sys2Proof.Instr.sramCorrected tile rep) :=
  fun _ h => nomatch h

theorem Sys2Proof.Laws.WordOfReplica.reintegrationDone (tile : Fin 144) (ok : Bool) :
    Sys2Proof.Laws.WordOfReplica.Statement (Sys2Proof.Instr.reintegrationDone tile ok) :=
  fun _ h => nomatch h

theorem Sys2Proof.Laws.WordOfReplica.loopReintegrationDone (tile : Fin 144) (ok : Bool) :
    Sys2Proof.Laws.WordOfReplica.Statement (Sys2Proof.Instr.loopReintegrationDone tile ok) :=
  fun _ h => nomatch h

theorem Sys2Proof.Laws.WordOfReplica.add (tile : Fin 144) (rep : Fin 3) (rd ra rb : Fin 32) :
    Sys2Proof.Laws.WordOfReplica.Statement (Sys2Proof.Instr.add tile rep rd ra rb) :=
  fun _ _ => ⟨_, _, rfl⟩

theorem Sys2Proof.Laws.WordOfReplica.sub (tile : Fin 144) (rep : Fin 3) (rd ra rb : Fin 32) :
    Sys2Proof.Laws.WordOfReplica.Statement (Sys2Proof.Instr.sub tile rep rd ra rb) :=
  fun _ _ => ⟨_, _, rfl⟩

theorem Sys2Proof.Laws.WordOfReplica.and (tile : Fin 144) (rep : Fin 3) (rd ra rb : Fin 32) :
    Sys2Proof.Laws.WordOfReplica.Statement (Sys2Proof.Instr.and tile rep rd ra rb) :=
  fun _ _ => ⟨_, _, rfl⟩

theorem Sys2Proof.Laws.WordOfReplica.or (tile : Fin 144) (rep : Fin 3) (rd ra rb : Fin 32) :
    Sys2Proof.Laws.WordOfReplica.Statement (Sys2Proof.Instr.or tile rep rd ra rb) :=
  fun _ _ => ⟨_, _, rfl⟩

theorem Sys2Proof.Laws.WordOfReplica.xor (tile : Fin 144) (rep : Fin 3) (rd ra rb : Fin 32) :
    Sys2Proof.Laws.WordOfReplica.Statement (Sys2Proof.Instr.xor tile rep rd ra rb) :=
  fun _ _ => ⟨_, _, rfl⟩

theorem Sys2Proof.Laws.WordOfReplica.shl (tile : Fin 144) (rep : Fin 3) (rd ra rb : Fin 32) :
    Sys2Proof.Laws.WordOfReplica.Statement (Sys2Proof.Instr.shl tile rep rd ra rb) :=
  fun _ _ => ⟨_, _, rfl⟩

theorem Sys2Proof.Laws.WordOfReplica.shr (tile : Fin 144) (rep : Fin 3) (rd ra rb : Fin 32) :
    Sys2Proof.Laws.WordOfReplica.Statement (Sys2Proof.Instr.shr tile rep rd ra rb) :=
  fun _ _ => ⟨_, _, rfl⟩

theorem Sys2Proof.Laws.WordOfReplica.sar (tile : Fin 144) (rep : Fin 3) (rd ra rb : Fin 32) :
    Sys2Proof.Laws.WordOfReplica.Statement (Sys2Proof.Instr.sar tile rep rd ra rb) :=
  fun _ _ => ⟨_, _, rfl⟩

theorem Sys2Proof.Laws.WordOfReplica.slt (tile : Fin 144) (rep : Fin 3) (rd ra rb : Fin 32) :
    Sys2Proof.Laws.WordOfReplica.Statement (Sys2Proof.Instr.slt tile rep rd ra rb) :=
  fun _ _ => ⟨_, _, rfl⟩

theorem Sys2Proof.Laws.WordOfReplica.sltu (tile : Fin 144) (rep : Fin 3) (rd ra rb : Fin 32) :
    Sys2Proof.Laws.WordOfReplica.Statement (Sys2Proof.Instr.sltu tile rep rd ra rb) :=
  fun _ _ => ⟨_, _, rfl⟩

theorem Sys2Proof.Laws.WordOfReplica.sadd (tile : Fin 144) (rep : Fin 3) (rd ra rb : Fin 32) :
    Sys2Proof.Laws.WordOfReplica.Statement (Sys2Proof.Instr.sadd tile rep rd ra rb) :=
  fun _ _ => ⟨_, _, rfl⟩

theorem Sys2Proof.Laws.WordOfReplica.ssub (tile : Fin 144) (rep : Fin 3) (rd ra rb : Fin 32) :
    Sys2Proof.Laws.WordOfReplica.Statement (Sys2Proof.Instr.ssub tile rep rd ra rb) :=
  fun _ _ => ⟨_, _, rfl⟩

theorem Sys2Proof.Laws.WordOfReplica.mul (tile : Fin 144) (rep : Fin 3) (rd ra rb : Fin 32) :
    Sys2Proof.Laws.WordOfReplica.Statement (Sys2Proof.Instr.mul tile rep rd ra rb) :=
  fun _ _ => ⟨_, _, rfl⟩

theorem Sys2Proof.Laws.WordOfReplica.mulh (tile : Fin 144) (rep : Fin 3) (rd ra rb : Fin 32) :
    Sys2Proof.Laws.WordOfReplica.Statement (Sys2Proof.Instr.mulh tile rep rd ra rb) :=
  fun _ _ => ⟨_, _, rfl⟩

theorem Sys2Proof.Laws.WordOfReplica.mulhu (tile : Fin 144) (rep : Fin 3) (rd ra rb : Fin 32) :
    Sys2Proof.Laws.WordOfReplica.Statement (Sys2Proof.Instr.mulhu tile rep rd ra rb) :=
  fun _ _ => ⟨_, _, rfl⟩

theorem Sys2Proof.Laws.WordOfReplica.div (tile : Fin 144) (rep : Fin 3) (rd ra rb : Fin 32) :
    Sys2Proof.Laws.WordOfReplica.Statement (Sys2Proof.Instr.div tile rep rd ra rb) :=
  fun _ _ => ⟨_, _, rfl⟩

theorem Sys2Proof.Laws.WordOfReplica.divu (tile : Fin 144) (rep : Fin 3) (rd ra rb : Fin 32) :
    Sys2Proof.Laws.WordOfReplica.Statement (Sys2Proof.Instr.divu tile rep rd ra rb) :=
  fun _ _ => ⟨_, _, rfl⟩

theorem Sys2Proof.Laws.WordOfReplica.rem (tile : Fin 144) (rep : Fin 3) (rd ra rb : Fin 32) :
    Sys2Proof.Laws.WordOfReplica.Statement (Sys2Proof.Instr.rem tile rep rd ra rb) :=
  fun _ _ => ⟨_, _, rfl⟩

theorem Sys2Proof.Laws.WordOfReplica.remu (tile : Fin 144) (rep : Fin 3) (rd ra rb : Fin 32) :
    Sys2Proof.Laws.WordOfReplica.Statement (Sys2Proof.Instr.remu tile rep rd ra rb) :=
  fun _ _ => ⟨_, _, rfl⟩

theorem Sys2Proof.Laws.WordOfReplica.addi (tile : Fin 144) (rep : Fin 3) (rd ra : Fin 32) (imm : BitVec 16) :
    Sys2Proof.Laws.WordOfReplica.Statement (Sys2Proof.Instr.addi tile rep rd ra imm) :=
  fun _ _ => ⟨_, _, rfl⟩

theorem Sys2Proof.Laws.WordOfReplica.andi (tile : Fin 144) (rep : Fin 3) (rd ra : Fin 32) (imm : BitVec 16) :
    Sys2Proof.Laws.WordOfReplica.Statement (Sys2Proof.Instr.andi tile rep rd ra imm) :=
  fun _ _ => ⟨_, _, rfl⟩

theorem Sys2Proof.Laws.WordOfReplica.ori (tile : Fin 144) (rep : Fin 3) (rd ra : Fin 32) (imm : BitVec 16) :
    Sys2Proof.Laws.WordOfReplica.Statement (Sys2Proof.Instr.ori tile rep rd ra imm) :=
  fun _ _ => ⟨_, _, rfl⟩

theorem Sys2Proof.Laws.WordOfReplica.xori (tile : Fin 144) (rep : Fin 3) (rd ra : Fin 32) (imm : BitVec 16) :
    Sys2Proof.Laws.WordOfReplica.Statement (Sys2Proof.Instr.xori tile rep rd ra imm) :=
  fun _ _ => ⟨_, _, rfl⟩

theorem Sys2Proof.Laws.WordOfReplica.shli (tile : Fin 144) (rep : Fin 3) (rd ra : Fin 32) (sh : BitVec 6) :
    Sys2Proof.Laws.WordOfReplica.Statement (Sys2Proof.Instr.shli tile rep rd ra sh) :=
  fun _ _ => ⟨_, _, rfl⟩

theorem Sys2Proof.Laws.WordOfReplica.shri (tile : Fin 144) (rep : Fin 3) (rd ra : Fin 32) (sh : BitVec 6) :
    Sys2Proof.Laws.WordOfReplica.Statement (Sys2Proof.Instr.shri tile rep rd ra sh) :=
  fun _ _ => ⟨_, _, rfl⟩

theorem Sys2Proof.Laws.WordOfReplica.sari (tile : Fin 144) (rep : Fin 3) (rd ra : Fin 32) (sh : BitVec 6) :
    Sys2Proof.Laws.WordOfReplica.Statement (Sys2Proof.Instr.sari tile rep rd ra sh) :=
  fun _ _ => ⟨_, _, rfl⟩

theorem Sys2Proof.Laws.WordOfReplica.slti (tile : Fin 144) (rep : Fin 3) (rd ra : Fin 32) (imm : BitVec 16) :
    Sys2Proof.Laws.WordOfReplica.Statement (Sys2Proof.Instr.slti tile rep rd ra imm) :=
  fun _ _ => ⟨_, _, rfl⟩

theorem Sys2Proof.Laws.WordOfReplica.sltiu (tile : Fin 144) (rep : Fin 3) (rd ra : Fin 32) (imm : BitVec 16) :
    Sys2Proof.Laws.WordOfReplica.Statement (Sys2Proof.Instr.sltiu tile rep rd ra imm) :=
  fun _ _ => ⟨_, _, rfl⟩

theorem Sys2Proof.Laws.WordOfReplica.lui (tile : Fin 144) (rep : Fin 3) (rd : Fin 32) (imm : BitVec 16) :
    Sys2Proof.Laws.WordOfReplica.Statement (Sys2Proof.Instr.lui tile rep rd imm) :=
  fun _ _ => ⟨_, _, rfl⟩

theorem Sys2Proof.Laws.WordOfReplica.lb (tile : Fin 144) (rep : Fin 3) (rd ra : Fin 32) (imm : BitVec 16) :
    Sys2Proof.Laws.WordOfReplica.Statement (Sys2Proof.Instr.lb tile rep rd ra imm) :=
  fun _ _ => ⟨_, _, rfl⟩

theorem Sys2Proof.Laws.WordOfReplica.lbu (tile : Fin 144) (rep : Fin 3) (rd ra : Fin 32) (imm : BitVec 16) :
    Sys2Proof.Laws.WordOfReplica.Statement (Sys2Proof.Instr.lbu tile rep rd ra imm) :=
  fun _ _ => ⟨_, _, rfl⟩

theorem Sys2Proof.Laws.WordOfReplica.lh (tile : Fin 144) (rep : Fin 3) (rd ra : Fin 32) (imm : BitVec 16) :
    Sys2Proof.Laws.WordOfReplica.Statement (Sys2Proof.Instr.lh tile rep rd ra imm) :=
  fun _ _ => ⟨_, _, rfl⟩

theorem Sys2Proof.Laws.WordOfReplica.lhu (tile : Fin 144) (rep : Fin 3) (rd ra : Fin 32) (imm : BitVec 16) :
    Sys2Proof.Laws.WordOfReplica.Statement (Sys2Proof.Instr.lhu tile rep rd ra imm) :=
  fun _ _ => ⟨_, _, rfl⟩

theorem Sys2Proof.Laws.WordOfReplica.lw (tile : Fin 144) (rep : Fin 3) (rd ra : Fin 32) (imm : BitVec 16) :
    Sys2Proof.Laws.WordOfReplica.Statement (Sys2Proof.Instr.lw tile rep rd ra imm) :=
  fun _ _ => ⟨_, _, rfl⟩

theorem Sys2Proof.Laws.WordOfReplica.lwu (tile : Fin 144) (rep : Fin 3) (rd ra : Fin 32) (imm : BitVec 16) :
    Sys2Proof.Laws.WordOfReplica.Statement (Sys2Proof.Instr.lwu tile rep rd ra imm) :=
  fun _ _ => ⟨_, _, rfl⟩

theorem Sys2Proof.Laws.WordOfReplica.ld (tile : Fin 144) (rep : Fin 3) (rd ra : Fin 32) (imm : BitVec 16) :
    Sys2Proof.Laws.WordOfReplica.Statement (Sys2Proof.Instr.ld tile rep rd ra imm) :=
  fun _ _ => ⟨_, _, rfl⟩

theorem Sys2Proof.Laws.WordOfReplica.sb (tile : Fin 144) (rep : Fin 3) (rs ra : Fin 32) (imm : BitVec 16) :
    Sys2Proof.Laws.WordOfReplica.Statement (Sys2Proof.Instr.sb tile rep rs ra imm) :=
  fun _ _ => ⟨_, _, rfl⟩

theorem Sys2Proof.Laws.WordOfReplica.sh (tile : Fin 144) (rep : Fin 3) (rs ra : Fin 32) (imm : BitVec 16) :
    Sys2Proof.Laws.WordOfReplica.Statement (Sys2Proof.Instr.sh tile rep rs ra imm) :=
  fun _ _ => ⟨_, _, rfl⟩

theorem Sys2Proof.Laws.WordOfReplica.sw (tile : Fin 144) (rep : Fin 3) (rs ra : Fin 32) (imm : BitVec 16) :
    Sys2Proof.Laws.WordOfReplica.Statement (Sys2Proof.Instr.sw tile rep rs ra imm) :=
  fun _ _ => ⟨_, _, rfl⟩

theorem Sys2Proof.Laws.WordOfReplica.sd (tile : Fin 144) (rep : Fin 3) (rs ra : Fin 32) (imm : BitVec 16) :
    Sys2Proof.Laws.WordOfReplica.Statement (Sys2Proof.Instr.sd tile rep rs ra imm) :=
  fun _ _ => ⟨_, _, rfl⟩

theorem Sys2Proof.Laws.WordOfReplica.beq (tile : Fin 144) (rep : Fin 3) (ra rb : Fin 32) (off : BitVec 16) (miss : Option Nat) :
    Sys2Proof.Laws.WordOfReplica.Statement (Sys2Proof.Instr.beq tile rep ra rb off miss) :=
  fun _ _ => ⟨_, _, rfl⟩

theorem Sys2Proof.Laws.WordOfReplica.bne (tile : Fin 144) (rep : Fin 3) (ra rb : Fin 32) (off : BitVec 16) (miss : Option Nat) :
    Sys2Proof.Laws.WordOfReplica.Statement (Sys2Proof.Instr.bne tile rep ra rb off miss) :=
  fun _ _ => ⟨_, _, rfl⟩

theorem Sys2Proof.Laws.WordOfReplica.blt (tile : Fin 144) (rep : Fin 3) (ra rb : Fin 32) (off : BitVec 16) (miss : Option Nat) :
    Sys2Proof.Laws.WordOfReplica.Statement (Sys2Proof.Instr.blt tile rep ra rb off miss) :=
  fun _ _ => ⟨_, _, rfl⟩

theorem Sys2Proof.Laws.WordOfReplica.bge (tile : Fin 144) (rep : Fin 3) (ra rb : Fin 32) (off : BitVec 16) (miss : Option Nat) :
    Sys2Proof.Laws.WordOfReplica.Statement (Sys2Proof.Instr.bge tile rep ra rb off miss) :=
  fun _ _ => ⟨_, _, rfl⟩

theorem Sys2Proof.Laws.WordOfReplica.bltu (tile : Fin 144) (rep : Fin 3) (ra rb : Fin 32) (off : BitVec 16) (miss : Option Nat) :
    Sys2Proof.Laws.WordOfReplica.Statement (Sys2Proof.Instr.bltu tile rep ra rb off miss) :=
  fun _ _ => ⟨_, _, rfl⟩

theorem Sys2Proof.Laws.WordOfReplica.bgeu (tile : Fin 144) (rep : Fin 3) (ra rb : Fin 32) (off : BitVec 16) (miss : Option Nat) :
    Sys2Proof.Laws.WordOfReplica.Statement (Sys2Proof.Instr.bgeu tile rep ra rb off miss) :=
  fun _ _ => ⟨_, _, rfl⟩

theorem Sys2Proof.Laws.WordOfReplica.jump (tile : Fin 144) (rep : Fin 3) (off : BitVec 26) :
    Sys2Proof.Laws.WordOfReplica.Statement (Sys2Proof.Instr.jump tile rep off) :=
  fun _ _ => ⟨_, _, rfl⟩

theorem Sys2Proof.Laws.WordOfReplica.jal (tile : Fin 144) (rep : Fin 3) (off : BitVec 26) :
    Sys2Proof.Laws.WordOfReplica.Statement (Sys2Proof.Instr.jal tile rep off) :=
  fun _ _ => ⟨_, _, rfl⟩

theorem Sys2Proof.Laws.WordOfReplica.jalr (tile : Fin 144) (rep : Fin 3) (rd ra : Fin 32) (imm : BitVec 16) (miss : Option Nat) :
    Sys2Proof.Laws.WordOfReplica.Statement (Sys2Proof.Instr.jalr tile rep rd ra imm miss) :=
  fun _ _ => ⟨_, _, rfl⟩

theorem Sys2Proof.Laws.WordOfReplica.fence (tile : Fin 144) (rep : Fin 3) :
    Sys2Proof.Laws.WordOfReplica.Statement (Sys2Proof.Instr.fence tile rep) :=
  fun _ _ => ⟨_, _, rfl⟩

theorem Sys2Proof.Laws.WordOfReplica.endc (tile : Fin 144) (rep : Fin 3) :
    Sys2Proof.Laws.WordOfReplica.Statement (Sys2Proof.Instr.endc tile rep) :=
  fun _ _ => ⟨_, _, rfl⟩

theorem Sys2Proof.Laws.WordOfReplica.rfe (tile : Fin 144) (rep : Fin 3) :
    Sys2Proof.Laws.WordOfReplica.Statement (Sys2Proof.Instr.rfe tile rep) :=
  fun _ _ => ⟨_, _, rfl⟩

theorem Sys2Proof.Laws.WordOfReplica.rdtime (tile : Fin 144) (rep : Fin 3) (rd : Fin 32) :
    Sys2Proof.Laws.WordOfReplica.Statement (Sys2Proof.Instr.rdtime tile rep rd) :=
  fun _ _ => ⟨_, _, rfl⟩

theorem Sys2Proof.Laws.WordOfReplica.rdsr (tile : Fin 144) (rep : Fin 3) (rd num : Fin 32) :
    Sys2Proof.Laws.WordOfReplica.Statement (Sys2Proof.Instr.rdsr tile rep rd num) :=
  fun _ _ => ⟨_, _, rfl⟩

theorem Sys2Proof.Laws.WordOfReplica.wrsr (tile : Fin 144) (rep : Fin 3) (ra num : Fin 32) :
    Sys2Proof.Laws.WordOfReplica.Statement (Sys2Proof.Instr.wrsr tile rep ra num) :=
  fun _ _ => ⟨_, _, rfl⟩

theorem Sys2Proof.Laws.WordOfReplica.trap (tile : Fin 144) (rep : Fin 3) (imm : BitVec 16) :
    Sys2Proof.Laws.WordOfReplica.Statement (Sys2Proof.Instr.trap tile rep imm) :=
  fun _ _ => ⟨_, _, rfl⟩

theorem Sys2Proof.Laws.WordOfReplica.illegalInstruction (tile : Fin 144) (rep : Fin 3) (word : Word) :
    Sys2Proof.Laws.WordOfReplica.Statement (Sys2Proof.Instr.illegalInstruction tile rep word) :=
  fun _ h => nomatch h

theorem Sys2Proof.Laws.WordOfReplica.perfSelect (value : Word) :
    Sys2Proof.Laws.WordOfReplica.Statement (Sys2Proof.Instr.perfSelect value) :=
  fun _ h => nomatch h

theorem Sys2Proof.Laws.WordOfReplica.perfDataValid :
    Sys2Proof.Laws.WordOfReplica.Statement (Sys2Proof.Instr.perfDataValid) :=
  fun _ h => nomatch h

theorem Sys2Proof.Laws.WordOfReplica.perfClear (value : Word) :
    Sys2Proof.Laws.WordOfReplica.Statement (Sys2Proof.Instr.perfClear value) :=
  fun _ h => nomatch h

theorem Sys2Proof.Laws.WordOfReplica.cycleBoundary (dataBusy : Bool) :
    Sys2Proof.Laws.WordOfReplica.Statement (Sys2Proof.Instr.cycleBoundary dataBusy) :=
  fun _ h => nomatch h

theorem Sys2Proof.Laws.WordOfReplica.taskWatchdog (tile : Fin 144) :
    Sys2Proof.Laws.WordOfReplica.Statement (Sys2Proof.Instr.taskWatchdog tile) :=
  fun _ h => nomatch h

theorem Sys2Proof.Laws.WordOfReplica.basePeriodBoundary (dataBusy : Bool) :
    Sys2Proof.Laws.WordOfReplica.Statement (Sys2Proof.Instr.basePeriodBoundary dataBusy) :=
  fun _ h => nomatch h

theorem Sys2Proof.Laws.WordOfReplica.fallbackLeft (dataBusy : Bool) :
    Sys2Proof.Laws.WordOfReplica.Statement (Sys2Proof.Instr.fallbackLeft dataBusy) :=
  fun _ h => nomatch h

theorem Sys2Proof.Laws.WordOfReplica.forceFallback (value : Word) :
    Sys2Proof.Laws.WordOfReplica.Statement (Sys2Proof.Instr.forceFallback value) :=
  fun _ h => nomatch h

theorem Sys2Proof.Laws.WordOfReplica.cycleClearMax :
    Sys2Proof.Laws.WordOfReplica.Statement (Sys2Proof.Instr.cycleClearMax) :=
  fun _ h => nomatch h

theorem Sys2Proof.Laws.WordOfReplica.start (req : Req) (warm : Bool) :
    Sys2Proof.Laws.WordOfReplica.Statement (Sys2Proof.Instr.start req warm) :=
  fun _ h => nomatch h

theorem Sys2Proof.Laws.WordOfReplica.restart (req : Req) (warm : Bool) :
    Sys2Proof.Laws.WordOfReplica.Statement (Sys2Proof.Instr.restart req warm) :=
  fun _ h => nomatch h

theorem Sys2Proof.Laws.WordOfReplica.plantCommand (req : Req) (body : List Byte) :
    Sys2Proof.Laws.WordOfReplica.Statement (Sys2Proof.Instr.plantCommand req body) :=
  fun _ h => nomatch h

theorem Sys2Proof.Laws.WordOfReplica.commandJournalWritten (source serial : Word) (ok : Bool) :
    Sys2Proof.Laws.WordOfReplica.Statement (Sys2Proof.Instr.commandJournalWritten source serial ok) :=
  fun _ h => nomatch h

theorem Sys2Proof.Laws.WordOfReplica.commandAck (source serial : Word) :
    Sys2Proof.Laws.WordOfReplica.Statement (Sys2Proof.Instr.commandAck source serial) :=
  fun _ h => nomatch h

theorem Sys2Proof.Laws.WordOfReplica.returnFrame (link : Fin 12) (bytes : List Byte) (delimited : Bool) :
    Sys2Proof.Laws.WordOfReplica.Statement (Sys2Proof.Instr.returnFrame link bytes delimited) :=
  fun _ h => nomatch h

theorem Sys2Proof.Laws.WordOfReplica.returnFrameMissing (link : Fin 12) :
    Sys2Proof.Laws.WordOfReplica.Statement (Sys2Proof.Instr.returnFrameMissing link) :=
  fun _ h => nomatch h

theorem Sys2Proof.Laws.WordOfReplica.timerSampleTrigger (slot : Fin 48) :
    Sys2Proof.Laws.WordOfReplica.Statement (Sys2Proof.Instr.timerSampleTrigger slot) :=
  fun _ h => nomatch h

theorem Sys2Proof.Laws.WordOfReplica.loopSampleStart (tile : Fin 144) (fwd : Option (List (Nat × Word))) :
    Sys2Proof.Laws.WordOfReplica.Statement (Sys2Proof.Instr.loopSampleStart tile fwd) :=
  fun _ h => nomatch h

theorem Sys2Proof.Laws.WordOfReplica.sampleDeadline (slot : Fin 48) :
    Sys2Proof.Laws.WordOfReplica.Statement (Sys2Proof.Instr.sampleDeadline slot) :=
  fun _ h => nomatch h

theorem Sys2Proof.Laws.WordOfReplica.loopNop (tile : Fin 144) (rep : Fin 3) :
    Sys2Proof.Laws.WordOfReplica.Statement (Sys2Proof.Instr.loopNop tile rep) :=
  fun _ h => nomatch h

theorem Sys2Proof.Laws.WordOfReplica.loopClr (tile : Fin 144) (rep : Fin 3) (d : Fin 4) :
    Sys2Proof.Laws.WordOfReplica.Statement (Sys2Proof.Instr.loopClr tile rep d) :=
  fun _ h => nomatch h

theorem Sys2Proof.Laws.WordOfReplica.loopMac (tile : Fin 144) (rep : Fin 3) (d : Fin 4) (a : Fin 256) (c : Fin 512) :
    Sys2Proof.Laws.WordOfReplica.Statement (Sys2Proof.Instr.loopMac tile rep d a c) :=
  fun _ h => nomatch h

theorem Sys2Proof.Laws.WordOfReplica.loopMsb (tile : Fin 144) (rep : Fin 3) (d : Fin 4) (a : Fin 256) (c : Fin 512) :
    Sys2Proof.Laws.WordOfReplica.Statement (Sys2Proof.Instr.loopMsb tile rep d a c) :=
  fun _ h => nomatch h

theorem Sys2Proof.Laws.WordOfReplica.loopMacn (tile : Fin 144) (rep : Fin 3) (d : Fin 4) (a b : Fin 256) :
    Sys2Proof.Laws.WordOfReplica.Statement (Sys2Proof.Instr.loopMacn tile rep d a b) :=
  fun _ h => nomatch h

theorem Sys2Proof.Laws.WordOfReplica.loopAdda (tile : Fin 144) (rep : Fin 3) (d : Fin 4) (a : Fin 256) (sh : Fin 32) :
    Sys2Proof.Laws.WordOfReplica.Statement (Sys2Proof.Instr.loopAdda tile rep d a sh) :=
  fun _ h => nomatch h

theorem Sys2Proof.Laws.WordOfReplica.loopSta (tile : Fin 144) (rep : Fin 3) (d : Fin 256) (a : Fin 4) (sh : Fin 48) :
    Sys2Proof.Laws.WordOfReplica.Statement (Sys2Proof.Instr.loopSta tile rep d a sh) :=
  fun _ h => nomatch h

theorem Sys2Proof.Laws.WordOfReplica.loopMul (tile : Fin 144) (rep : Fin 3) (d a : Fin 256) (c : Fin 512) :
    Sys2Proof.Laws.WordOfReplica.Statement (Sys2Proof.Instr.loopMul tile rep d a c) :=
  fun _ h => nomatch h

theorem Sys2Proof.Laws.WordOfReplica.loopAdd (tile : Fin 144) (rep : Fin 3) (d a b : Fin 256) :
    Sys2Proof.Laws.WordOfReplica.Statement (Sys2Proof.Instr.loopAdd tile rep d a b) :=
  fun _ h => nomatch h

theorem Sys2Proof.Laws.WordOfReplica.loopSub (tile : Fin 144) (rep : Fin 3) (d a b : Fin 256) :
    Sys2Proof.Laws.WordOfReplica.Statement (Sys2Proof.Instr.loopSub tile rep d a b) :=
  fun _ h => nomatch h

theorem Sys2Proof.Laws.WordOfReplica.loopLim (tile : Fin 144) (rep : Fin 3) (d a : Fin 256) (b : Fin 255) :
    Sys2Proof.Laws.WordOfReplica.Statement (Sys2Proof.Instr.loopLim tile rep d a b) :=
  fun _ h => nomatch h

theorem Sys2Proof.Laws.WordOfReplica.loopMov (tile : Fin 144) (rep : Fin 3) (d a : Fin 256) :
    Sys2Proof.Laws.WordOfReplica.Statement (Sys2Proof.Instr.loopMov tile rep d a) :=
  fun _ h => nomatch h

theorem Sys2Proof.Laws.WordOfReplica.loopLdc (tile : Fin 144) (rep : Fin 3) (d : Fin 256) (c : Fin 512) :
    Sys2Proof.Laws.WordOfReplica.Statement (Sys2Proof.Instr.loopLdc tile rep d c) :=
  fun _ h => nomatch h

theorem Sys2Proof.Laws.WordOfReplica.loopSel (tile : Fin 144) (rep : Fin 3) (d a b : Fin 256) :
    Sys2Proof.Laws.WordOfReplica.Statement (Sys2Proof.Instr.loopSel tile rep d a b) :=
  fun _ h => nomatch h

theorem Sys2Proof.Laws.WordOfReplica.loopSincos (tile : Fin 144) (rep : Fin 3) (d : Fin 255) (a : Fin 256) :
    Sys2Proof.Laws.WordOfReplica.Statement (Sys2Proof.Instr.loopSincos tile rep d a) :=
  fun _ h => nomatch h

theorem Sys2Proof.Laws.WordOfReplica.loopLock (tile : Fin 144) (rep : Fin 3) (d : Fin 256) (a : Fin 255) (c : Fin 509) :
    Sys2Proof.Laws.WordOfReplica.Statement (Sys2Proof.Instr.loopLock tile rep d a c) :=
  fun _ h => nomatch h

theorem Sys2Proof.Laws.WordOfReplica.loopOut (tile : Fin 144) (rep : Fin 3) (a : Fin 256) (o : Fin 8) :
    Sys2Proof.Laws.WordOfReplica.Statement (Sys2Proof.Instr.loopOut tile rep a o) :=
  fun _ h => nomatch h

theorem Sys2Proof.Laws.WordOfReplica.loopFlt (tile : Fin 144) (rep : Fin 3) (a : Fin 256) (code : Byte) :
    Sys2Proof.Laws.WordOfReplica.Statement (Sys2Proof.Instr.loopFlt tile rep a code) :=
  fun _ h => nomatch h

theorem Sys2Proof.Laws.WordOfReplica.loopEnd (tile : Fin 144) (rep : Fin 3) :
    Sys2Proof.Laws.WordOfReplica.Statement (Sys2Proof.Instr.loopEnd tile rep) :=
  fun _ h => nomatch h

theorem Sys2Proof.Laws.WordOfReplica.catchTimeout (slot : Fin 48) :
    Sys2Proof.Laws.WordOfReplica.Statement (Sys2Proof.Instr.catchTimeout slot) :=
  fun _ h => nomatch h

theorem Sys2Proof.Laws.WordOfReplica.holdTimeout (slot : Fin 48) :
    Sys2Proof.Laws.WordOfReplica.Statement (Sys2Proof.Instr.holdTimeout slot) :=
  fun _ h => nomatch h

theorem Sys2Proof.Laws.WordOfReplica.loopFaultReset (slot : Fin 48) :
    Sys2Proof.Laws.WordOfReplica.Statement (Sys2Proof.Instr.loopFaultReset slot) :=
  fun _ h => nomatch h

theorem Sys2Proof.Laws.WordOfReplica.loopClearFlags (slot : Fin 48) :
    Sys2Proof.Laws.WordOfReplica.Statement (Sys2Proof.Instr.loopClearFlags slot) :=
  fun _ h => nomatch h

theorem Sys2Proof.Laws.WordOfReplica.loopClearStats (slot : Fin 48) :
    Sys2Proof.Laws.WordOfReplica.Statement (Sys2Proof.Instr.loopClearStats slot) :=
  fun _ h => nomatch h

theorem Sys2Proof.Laws.WordOfReplica.glinkClearCounts (link : Fin 12) :
    Sys2Proof.Laws.WordOfReplica.Statement (Sys2Proof.Instr.glinkClearCounts link) :=
  fun _ h => nomatch h

theorem Sys2Proof.Laws.WordOfReplica.moveAbs (group : Fin 32) (targets : List (Nat × Int)) (override : Nat) :
    Sys2Proof.Laws.WordOfReplica.Statement (Sys2Proof.Instr.moveAbs group targets override) :=
  fun _ h => nomatch h

theorem Sys2Proof.Laws.WordOfReplica.moveRel (group : Fin 32) (distances : List (Nat × Int)) (override : Nat) :
    Sys2Proof.Laws.WordOfReplica.Statement (Sys2Proof.Instr.moveRel group distances override) :=
  fun _ h => nomatch h

theorem Sys2Proof.Laws.WordOfReplica.axisStop (group : Fin 32) :
    Sys2Proof.Laws.WordOfReplica.Statement (Sys2Proof.Instr.axisStop group) :=
  fun _ h => nomatch h

theorem Sys2Proof.Laws.WordOfReplica.axisHold (group : Fin 32) :
    Sys2Proof.Laws.WordOfReplica.Statement (Sys2Proof.Instr.axisHold group) :=
  fun _ h => nomatch h

theorem Sys2Proof.Laws.WordOfReplica.axisResume (group : Fin 32) :
    Sys2Proof.Laws.WordOfReplica.Statement (Sys2Proof.Instr.axisResume group) :=
  fun _ h => nomatch h

theorem Sys2Proof.Laws.WordOfReplica.axisResetFault (group : Fin 32) :
    Sys2Proof.Laws.WordOfReplica.Statement (Sys2Proof.Instr.axisResetFault group) :=
  fun _ h => nomatch h

theorem Sys2Proof.Laws.WordOfReplica.axisPeriod (group : Fin 32) :
    Sys2Proof.Laws.WordOfReplica.Statement (Sys2Proof.Instr.axisPeriod group) :=
  fun _ h => nomatch h

theorem Sys2Proof.Laws.WordOfReplica.awlArm :
    Sys2Proof.Laws.WordOfReplica.Statement (Sys2Proof.Instr.awlArm) :=
  fun _ h => nomatch h

theorem Sys2Proof.Laws.WordOfReplica.awlStart :
    Sys2Proof.Laws.WordOfReplica.Statement (Sys2Proof.Instr.awlStart) :=
  fun _ h => nomatch h

theorem Sys2Proof.Laws.WordOfReplica.awlStop :
    Sys2Proof.Laws.WordOfReplica.Statement (Sys2Proof.Instr.awlStop) :=
  fun _ h => nomatch h

theorem Sys2Proof.Laws.WordOfReplica.awlAnnounce (start : DWord) (slot : Fin 48) (inj amp freq : Word) :
    Sys2Proof.Laws.WordOfReplica.Statement (Sys2Proof.Instr.awlAnnounce start slot inj amp freq) :=
  fun _ h => nomatch h

theorem Sys2Proof.Laws.WordOfReplica.awlInjectionEnd :
    Sys2Proof.Laws.WordOfReplica.Statement (Sys2Proof.Instr.awlInjectionEnd) :=
  fun _ h => nomatch h

theorem Sys2Proof.Laws.WordOfReplica.awlRead (req : Req) (first count : Nat) :
    Sys2Proof.Laws.WordOfReplica.Statement (Sys2Proof.Instr.awlRead req first count) :=
  fun _ h => nomatch h

theorem Sys2Proof.Laws.WordOfReplica.comparatorCrossing (comp : Fin 32) (uv16 : Int) :
    Sys2Proof.Laws.WordOfReplica.Statement (Sys2Proof.Instr.comparatorCrossing comp uv16) :=
  fun _ h => nomatch h

theorem Sys2Proof.Laws.WordOfReplica.ftInputChange (ft : Fin 16) (high : Bool) :
    Sys2Proof.Laws.WordOfReplica.Statement (Sys2Proof.Instr.ftInputChange ft high) :=
  fun _ h => nomatch h

theorem Sys2Proof.Laws.WordOfReplica.tripLineChange (line : Fin 6) (asserted : Bool) :
    Sys2Proof.Laws.WordOfReplica.Statement (Sys2Proof.Instr.tripLineChange line asserted) :=
  fun _ h => nomatch h

theorem Sys2Proof.Laws.WordOfReplica.bridleEvaluate :
    Sys2Proof.Laws.WordOfReplica.Statement (Sys2Proof.Instr.bridleEvaluate) :=
  fun _ h => nomatch h

theorem Sys2Proof.Laws.WordOfReplica.termDelayExpiry (eq : Fin 64) (term : Fin 4) :
    Sys2Proof.Laws.WordOfReplica.Statement (Sys2Proof.Instr.termDelayExpiry eq term) :=
  fun _ h => nomatch h

theorem Sys2Proof.Laws.WordOfReplica.outputHoldExpiry (out : Fin 32) :
    Sys2Proof.Laws.WordOfReplica.Statement (Sys2Proof.Instr.outputHoldExpiry out) :=
  fun _ h => nomatch h

theorem Sys2Proof.Laws.WordOfReplica.bridleRefresh :
    Sys2Proof.Laws.WordOfReplica.Statement (Sys2Proof.Instr.bridleRefresh) :=
  fun _ h => nomatch h

theorem Sys2Proof.Laws.WordOfReplica.procLost :
    Sys2Proof.Laws.WordOfReplica.Statement (Sys2Proof.Instr.procLost) :=
  fun _ h => nomatch h

theorem Sys2Proof.Laws.WordOfReplica.tripReset (req : Req) (body : List Byte) :
    Sys2Proof.Laws.WordOfReplica.Statement (Sys2Proof.Instr.tripReset req body) :=
  fun _ h => nomatch h

theorem Sys2Proof.Laws.WordOfReplica.tbPoll :
    Sys2Proof.Laws.WordOfReplica.Statement (Sys2Proof.Instr.tbPoll) :=
  fun _ h => nomatch h

theorem Sys2Proof.Laws.WordOfReplica.tbAnswer (own : Bool) (window : TbWindow) :
    Sys2Proof.Laws.WordOfReplica.Statement (Sys2Proof.Instr.tbAnswer own window) :=
  fun _ h => nomatch h

theorem Sys2Proof.Laws.WordOfReplica.tbPollerTakeover :
    Sys2Proof.Laws.WordOfReplica.Statement (Sys2Proof.Instr.tbPollerTakeover) :=
  fun _ h => nomatch h

theorem Sys2Proof.Laws.WordOfReplica.tbPartnerSilent :
    Sys2Proof.Laws.WordOfReplica.Statement (Sys2Proof.Instr.tbPartnerSilent) :=
  fun _ h => nomatch h

theorem Sys2Proof.Laws.WordOfReplica.tbSelfFail :
    Sys2Proof.Laws.WordOfReplica.Statement (Sys2Proof.Instr.tbSelfFail) :=
  fun _ h => nomatch h

theorem Sys2Proof.Laws.WordOfReplica.bridleDiagRound (dacMv : List (Nat × Int)) (round : DiagRound) :
    Sys2Proof.Laws.WordOfReplica.Statement (Sys2Proof.Instr.bridleDiagRound dacMv round) :=
  fun _ h => nomatch h

theorem Sys2Proof.Laws.WordOfReplica.bridleFault (cause : Fin 9) (index : Nat) :
    Sys2Proof.Laws.WordOfReplica.Statement (Sys2Proof.Instr.bridleFault cause index) :=
  fun _ h => nomatch h

theorem Sys2Proof.Laws.WordOfReplica.bridleMirrorRefresh :
    Sys2Proof.Laws.WordOfReplica.Statement (Sys2Proof.Instr.bridleMirrorRefresh) :=
  fun _ h => nomatch h

theorem Sys2Proof.Laws.WordOfReplica.firstOutRearm :
    Sys2Proof.Laws.WordOfReplica.Statement (Sys2Proof.Instr.firstOutRearm) :=
  fun _ h => nomatch h

theorem Sys2Proof.Laws.WordOfReplica.safetyWritten (crcs : List Word) :
    Sys2Proof.Laws.WordOfReplica.Statement (Sys2Proof.Instr.safetyWritten crcs) :=
  fun _ h => nomatch h

theorem Sys2Proof.Laws.WordOfReplica.safetyChannelRun (ch : Fin 56) :
    Sys2Proof.Laws.WordOfReplica.Statement (Sys2Proof.Instr.safetyChannelRun ch) :=
  fun _ h => nomatch h

theorem Sys2Proof.Laws.WordOfReplica.safetyChannelSafe (ch : Fin 56) :
    Sys2Proof.Laws.WordOfReplica.Statement (Sys2Proof.Instr.safetyChannelSafe ch) :=
  fun _ h => nomatch h

theorem Sys2Proof.Laws.WordOfReplica.testPulseCheck (tp : Fin 4) (high : BitVec 48) :
    Sys2Proof.Laws.WordOfReplica.Statement (Sys2Proof.Instr.testPulseCheck tp high) :=
  fun _ h => nomatch h

theorem Sys2Proof.Laws.WordOfReplica.discrepancyTick :
    Sys2Proof.Laws.WordOfReplica.Statement (Sys2Proof.Instr.discrepancyTick) :=
  fun _ h => nomatch h

theorem Sys2Proof.Laws.WordOfReplica.discrepancy (fn : Fin 24) :
    Sys2Proof.Laws.WordOfReplica.Statement (Sys2Proof.Instr.discrepancy fn) :=
  fun _ h => nomatch h

theorem Sys2Proof.Laws.WordOfReplica.encoderSpeedWindow (enc : Fin 4) (counts : Int) :
    Sys2Proof.Laws.WordOfReplica.Statement (Sys2Proof.Instr.encoderSpeedWindow enc counts) :=
  fun _ h => nomatch h

theorem Sys2Proof.Laws.WordOfReplica.standstill (enc : Fin 4) :
    Sys2Proof.Laws.WordOfReplica.Statement (Sys2Proof.Instr.standstill enc) :=
  fun _ h => nomatch h

theorem Sys2Proof.Laws.WordOfReplica.stopTimeout (fn : Fin 24) :
    Sys2Proof.Laws.WordOfReplica.Statement (Sys2Proof.Instr.stopTimeout fn) :=
  fun _ h => nomatch h

theorem Sys2Proof.Laws.WordOfReplica.encoderFault (enc : Fin 4) (supply : Bool) :
    Sys2Proof.Laws.WordOfReplica.Statement (Sys2Proof.Instr.encoderFault enc supply) :=
  fun _ h => nomatch h

theorem Sys2Proof.Laws.WordOfReplica.feedbackChange (fb : Fin 8) (run : Bool) :
    Sys2Proof.Laws.WordOfReplica.Statement (Sys2Proof.Instr.feedbackChange fb run) :=
  fun _ h => nomatch h

theorem Sys2Proof.Laws.WordOfReplica.fbTimeout (pair : Fin 8) :
    Sys2Proof.Laws.WordOfReplica.Statement (Sys2Proof.Instr.fbTimeout pair) :=
  fun _ h => nomatch h

theorem Sys2Proof.Laws.WordOfReplica.outputSwitchTest (pair : Fin 8) (ok : Bool) :
    Sys2Proof.Laws.WordOfReplica.Statement (Sys2Proof.Instr.outputSwitchTest pair ok) :=
  fun _ h => nomatch h

theorem Sys2Proof.Laws.WordOfReplica.switchReadbackFault (pair : Fin 8) :
    Sys2Proof.Laws.WordOfReplica.Statement (Sys2Proof.Instr.switchReadbackFault pair) :=
  fun _ h => nomatch h

theorem Sys2Proof.Laws.WordOfReplica.cross (fn : Fin 24) :
    Sys2Proof.Laws.WordOfReplica.Statement (Sys2Proof.Instr.cross fn) :=
  fun _ h => nomatch h

theorem Sys2Proof.Laws.WordOfReplica.permitValidTimeout :
    Sys2Proof.Laws.WordOfReplica.Statement (Sys2Proof.Instr.permitValidTimeout) :=
  fun _ h => nomatch h

theorem Sys2Proof.Laws.WordOfReplica.degradedExpiring :
    Sys2Proof.Laws.WordOfReplica.Statement (Sys2Proof.Instr.degradedExpiring) :=
  fun _ h => nomatch h

theorem Sys2Proof.Laws.WordOfReplica.degradedExpired :
    Sys2Proof.Laws.WordOfReplica.Statement (Sys2Proof.Instr.degradedExpired) :=
  fun _ h => nomatch h

theorem Sys2Proof.Laws.WordOfReplica.safeChannelBack :
    Sys2Proof.Laws.WordOfReplica.Statement (Sys2Proof.Instr.safeChannelBack) :=
  fun _ h => nomatch h

theorem Sys2Proof.Laws.WordOfReplica.heartbeatSend :
    Sys2Proof.Laws.WordOfReplica.Statement (Sys2Proof.Instr.heartbeatSend) :=
  fun _ h => nomatch h

theorem Sys2Proof.Laws.WordOfReplica.heartbeat (path : Fin 3) (beat : Beat) :
    Sys2Proof.Laws.WordOfReplica.Statement (Sys2Proof.Instr.heartbeat path beat) :=
  fun _ h => nomatch h

theorem Sys2Proof.Laws.WordOfReplica.pathSilent (path : Fin 2) :
    Sys2Proof.Laws.WordOfReplica.Statement (Sys2Proof.Instr.pathSilent path) :=
  fun _ h => nomatch h

theorem Sys2Proof.Laws.WordOfReplica.ringRxSilent :
    Sys2Proof.Laws.WordOfReplica.Statement (Sys2Proof.Instr.ringRxSilent) :=
  fun _ h => nomatch h

theorem Sys2Proof.Laws.WordOfReplica.forwardedRecord (bytes : List Byte) (dataBusy : Bool) :
    Sys2Proof.Laws.WordOfReplica.Statement (Sys2Proof.Instr.forwardedRecord bytes dataBusy) :=
  fun _ h => nomatch h

theorem Sys2Proof.Laws.WordOfReplica.forwardLate :
    Sys2Proof.Laws.WordOfReplica.Statement (Sys2Proof.Instr.forwardLate) :=
  fun _ h => nomatch h

theorem Sys2Proof.Laws.WordOfReplica.stitchSummary (summary : Summary) :
    Sys2Proof.Laws.WordOfReplica.Statement (Sys2Proof.Instr.stitchSummary summary) :=
  fun _ h => nomatch h

theorem Sys2Proof.Laws.WordOfReplica.stateCopyDone (copy : StateCopy) :
    Sys2Proof.Laws.WordOfReplica.Statement (Sys2Proof.Instr.stateCopyDone copy) :=
  fun _ h => nomatch h

theorem Sys2Proof.Laws.WordOfReplica.stateCopyFailed :
    Sys2Proof.Laws.WordOfReplica.Statement (Sys2Proof.Instr.stateCopyFailed) :=
  fun _ h => nomatch h

theorem Sys2Proof.Laws.WordOfReplica.copyNow :
    Sys2Proof.Laws.WordOfReplica.Statement (Sys2Proof.Instr.copyNow) :=
  fun _ h => nomatch h

theorem Sys2Proof.Laws.WordOfReplica.twinClearCounts :
    Sys2Proof.Laws.WordOfReplica.Statement (Sys2Proof.Instr.twinClearCounts) :=
  fun _ h => nomatch h

theorem Sys2Proof.Laws.WordOfReplica.roleSwap (req : Req) (hold : Bool) :
    Sys2Proof.Laws.WordOfReplica.Statement (Sys2Proof.Instr.roleSwap req hold) :=
  fun _ h => nomatch h

theorem Sys2Proof.Laws.WordOfReplica.mixedMinute :
    Sys2Proof.Laws.WordOfReplica.Statement (Sys2Proof.Instr.mixedMinute) :=
  fun _ h => nomatch h

theorem Sys2Proof.Laws.WordOfReplica.successorExpired :
    Sys2Proof.Laws.WordOfReplica.Statement (Sys2Proof.Instr.successorExpired) :=
  fun _ h => nomatch h

theorem Sys2Proof.Laws.WordOfReplica.ringPeriod :
    Sys2Proof.Laws.WordOfReplica.Statement (Sys2Proof.Instr.ringPeriod) :=
  fun _ h => nomatch h

theorem Sys2Proof.Laws.WordOfReplica.inputFrame (ring : Fin 2) (check : FrameCheck) (frame : RingFrame) :
    Sys2Proof.Laws.WordOfReplica.Statement (Sys2Proof.Instr.inputFrame ring check frame) :=
  fun _ h => nomatch h

theorem Sys2Proof.Laws.WordOfReplica.stationDropout (station : Nat) :
    Sys2Proof.Laws.WordOfReplica.Statement (Sys2Proof.Instr.stationDropout station) :=
  fun _ h => nomatch h

theorem Sys2Proof.Laws.WordOfReplica.ringFrameForward (ring : Fin 2) (check : FrameCheck) (frame : RingFrame) :
    Sys2Proof.Laws.WordOfReplica.Statement (Sys2Proof.Instr.ringFrameForward ring check frame) :=
  fun _ h => nomatch h

theorem Sys2Proof.Laws.WordOfReplica.ringBreak (ring : Fin 2) :
    Sys2Proof.Laws.WordOfReplica.Statement (Sys2Proof.Instr.ringBreak ring) :=
  fun _ h => nomatch h

theorem Sys2Proof.Laws.WordOfReplica.ringBreakLocated (ring : Fin 2) :
    Sys2Proof.Laws.WordOfReplica.Statement (Sys2Proof.Instr.ringBreakLocated ring) :=
  fun _ h => nomatch h

theorem Sys2Proof.Laws.WordOfReplica.ringRestored (ring : Fin 2) :
    Sys2Proof.Laws.WordOfReplica.Statement (Sys2Proof.Instr.ringRestored ring) :=
  fun _ h => nomatch h

theorem Sys2Proof.Laws.WordOfReplica.twinFrame (ring : Fin 2) (kind index : Nat) (last : Bool) (cycle : DWord) (content : List Byte) :
    Sys2Proof.Laws.WordOfReplica.Statement (Sys2Proof.Instr.twinFrame ring kind index last cycle content) :=
  fun _ h => nomatch h

theorem Sys2Proof.Laws.WordOfReplica.peerFrame (ring : Fin 2) (check : FrameCheck) (frame : RingFrame) :
    Sys2Proof.Laws.WordOfReplica.Statement (Sys2Proof.Instr.peerFrame ring check frame) :=
  fun _ h => nomatch h

theorem Sys2Proof.Laws.WordOfReplica.mkaKeyDistribution (peers : Nat) :
    Sys2Proof.Laws.WordOfReplica.Statement (Sys2Proof.Instr.mkaKeyDistribution peers) :=
  fun _ h => nomatch h

theorem Sys2Proof.Laws.WordOfReplica.ringClearCounts (ring : Fin 2) :
    Sys2Proof.Laws.WordOfReplica.Statement (Sys2Proof.Instr.ringClearCounts ring) :=
  fun _ h => nomatch h

theorem Sys2Proof.Laws.WordOfReplica.ringClearMax (ring : Fin 2) :
    Sys2Proof.Laws.WordOfReplica.Statement (Sys2Proof.Instr.ringClearMax ring) :=
  fun _ h => nomatch h

theorem Sys2Proof.Laws.WordOfReplica.ptpSample (ref : DWord) (stampOk : Bool) (delayNs : Word) (stepsRemoved : Nat) (utcOffset : Int) :
    Sys2Proof.Laws.WordOfReplica.Statement (Sys2Proof.Instr.ptpSample ref stampOk delayNs stepsRemoved utcOffset) :=
  fun _ h => nomatch h

theorem Sys2Proof.Laws.WordOfReplica.ppsEdge (widthNs : Nat) (ptpTime : DWord) :
    Sys2Proof.Laws.WordOfReplica.Statement (Sys2Proof.Instr.ppsEdge widthNs ptpTime) :=
  fun _ h => nomatch h

theorem Sys2Proof.Laws.WordOfReplica.timeSample :
    Sys2Proof.Laws.WordOfReplica.Statement (Sys2Proof.Instr.timeSample) :=
  fun _ h => nomatch h

theorem Sys2Proof.Laws.WordOfReplica.rebase :
    Sys2Proof.Laws.WordOfReplica.Statement (Sys2Proof.Instr.rebase) :=
  fun _ h => nomatch h

theorem Sys2Proof.Laws.WordOfReplica.timeHoldover :
    Sys2Proof.Laws.WordOfReplica.Statement (Sys2Proof.Instr.timeHoldover) :=
  fun _ h => nomatch h

theorem Sys2Proof.Laws.WordOfReplica.followingUpdate :
    Sys2Proof.Laws.WordOfReplica.Statement (Sys2Proof.Instr.followingUpdate) :=
  fun _ h => nomatch h

theorem Sys2Proof.Laws.WordOfReplica.timeJournal :
    Sys2Proof.Laws.WordOfReplica.Statement (Sys2Proof.Instr.timeJournal) :=
  fun _ h => nomatch h

theorem Sys2Proof.Laws.WordOfReplica.ptpAnnounceTimeout :
    Sys2Proof.Laws.WordOfReplica.Statement (Sys2Proof.Instr.ptpAnnounceTimeout) :=
  fun _ h => nomatch h

theorem Sys2Proof.Laws.WordOfReplica.timeRestart (req : Option Req) :
    Sys2Proof.Laws.WordOfReplica.Statement (Sys2Proof.Instr.timeRestart req) :=
  fun _ h => nomatch h

theorem Sys2Proof.Laws.WordOfReplica.setTime (req : Req) (second : DWord) :
    Sys2Proof.Laws.WordOfReplica.Statement (Sys2Proof.Instr.setTime req second) :=
  fun _ h => nomatch h

theorem Sys2Proof.Laws.WordOfReplica.txTimestamp (frameId : BitVec 16) (port : Fin 5) :
    Sys2Proof.Laws.WordOfReplica.Statement (Sys2Proof.Instr.txTimestamp frameId port) :=
  fun _ h => nomatch h

theorem Sys2Proof.Laws.WordOfReplica.tsqRemove :
    Sys2Proof.Laws.WordOfReplica.Statement (Sys2Proof.Instr.tsqRemove) :=
  fun _ h => nomatch h

theorem Sys2Proof.Laws.WordOfReplica.timeClearOverflow :
    Sys2Proof.Laws.WordOfReplica.Statement (Sys2Proof.Instr.timeClearOverflow) :=
  fun _ h => nomatch h

theorem Sys2Proof.Laws.WordOfReplica.timeClearMax :
    Sys2Proof.Laws.WordOfReplica.Statement (Sys2Proof.Instr.timeClearMax) :=
  fun _ h => nomatch h

theorem Sys2Proof.Laws.WordOfReplica.timeClearCounts :
    Sys2Proof.Laws.WordOfReplica.Statement (Sys2Proof.Instr.timeClearCounts) :=
  fun _ h => nomatch h

theorem Sys2Proof.Laws.WordOfReplica.timeTLo (path : Path) :
    Sys2Proof.Laws.WordOfReplica.Statement (Sys2Proof.Instr.timeTLo path) :=
  fun _ h => nomatch h

theorem Sys2Proof.Laws.WordOfReplica.timeCountLo (path : Path) :
    Sys2Proof.Laws.WordOfReplica.Statement (Sys2Proof.Instr.timeCountLo path) :=
  fun _ h => nomatch h

theorem Sys2Proof.Laws.WordOfReplica.timeOffsetLo (path : Path) :
    Sys2Proof.Laws.WordOfReplica.Statement (Sys2Proof.Instr.timeOffsetLo path) :=
  fun _ h => nomatch h

theorem Sys2Proof.Laws.WordOfReplica.timeStepLo (path : Path) :
    Sys2Proof.Laws.WordOfReplica.Statement (Sys2Proof.Instr.timeStepLo path) :=
  fun _ h => nomatch h

theorem Sys2Proof.Laws.WordOfReplica.timePpsCapLo (path : Path) :
    Sys2Proof.Laws.WordOfReplica.Statement (Sys2Proof.Instr.timePpsCapLo path) :=
  fun _ h => nomatch h

theorem Sys2Proof.Laws.WordOfReplica.cycleNumLo (path : Path) :
    Sys2Proof.Laws.WordOfReplica.Statement (Sys2Proof.Instr.cycleNumLo path) :=
  fun _ h => nomatch h

theorem Sys2Proof.Laws.WordOfReplica.takeTLo (path : Path) :
    Sys2Proof.Laws.WordOfReplica.Statement (Sys2Proof.Instr.takeTLo path) :=
  fun _ h => nomatch h

theorem Sys2Proof.Laws.WordOfReplica.canTxTLo (path : Path) (port : Fin 4) :
    Sys2Proof.Laws.WordOfReplica.Statement (Sys2Proof.Instr.canTxTLo path port) :=
  fun _ h => nomatch h

theorem Sys2Proof.Laws.WordOfReplica.histOldestLo (path : Path) :
    Sys2Proof.Laws.WordOfReplica.Statement (Sys2Proof.Instr.histOldestLo path) :=
  fun _ h => nomatch h

theorem Sys2Proof.Laws.WordOfReplica.sealTLo (path : Path) :
    Sys2Proof.Laws.WordOfReplica.Statement (Sys2Proof.Instr.sealTLo path) :=
  fun _ h => nomatch h

theorem Sys2Proof.Laws.WordOfReplica.certExpLo (path : Path) :
    Sys2Proof.Laws.WordOfReplica.Statement (Sys2Proof.Instr.certExpLo path) :=
  fun _ h => nomatch h

theorem Sys2Proof.Laws.WordOfReplica.uptimeLo (path : Path) :
    Sys2Proof.Laws.WordOfReplica.Statement (Sys2Proof.Instr.uptimeLo path) :=
  fun _ h => nomatch h

theorem Sys2Proof.Laws.WordOfReplica.dioSample (levels : Word) (fldMv ma : Nat) :
    Sys2Proof.Laws.WordOfReplica.Statement (Sys2Proof.Instr.dioSample levels fldMv ma) :=
  fun _ h => nomatch h

theorem Sys2Proof.Laws.WordOfReplica.dioLevelChange (pin : Fin 32) :
    Sys2Proof.Laws.WordOfReplica.Statement (Sys2Proof.Instr.dioLevelChange pin) :=
  fun _ h => nomatch h

theorem Sys2Proof.Laws.WordOfReplica.dioCurrentLimit (pin : Fin 32) (units : Nat) :
    Sys2Proof.Laws.WordOfReplica.Statement (Sys2Proof.Instr.dioCurrentLimit pin units) :=
  fun _ h => nomatch h

theorem Sys2Proof.Laws.WordOfReplica.dioThermalShutdown (pin : Fin 32) :
    Sys2Proof.Laws.WordOfReplica.Statement (Sys2Proof.Instr.dioThermalShutdown pin) :=
  fun _ h => nomatch h

theorem Sys2Proof.Laws.WordOfReplica.dioClearCounts :
    Sys2Proof.Laws.WordOfReplica.Statement (Sys2Proof.Instr.dioClearCounts) :=
  fun _ h => nomatch h

theorem Sys2Proof.Laws.WordOfReplica.aoReadbackSample (ch : Fin 16) (raw : Int) :
    Sys2Proof.Laws.WordOfReplica.Statement (Sys2Proof.Instr.aoReadbackSample ch raw) :=
  fun _ h => nomatch h

theorem Sys2Proof.Laws.WordOfReplica.aoReadbackFault (ch : Fin 16) :
    Sys2Proof.Laws.WordOfReplica.Statement (Sys2Proof.Instr.aoReadbackFault ch) :=
  fun _ h => nomatch h

theorem Sys2Proof.Laws.WordOfReplica.aoOvertemp (ch : Fin 16) :
    Sys2Proof.Laws.WordOfReplica.Statement (Sys2Proof.Instr.aoOvertemp ch) :=
  fun _ h => nomatch h

theorem Sys2Proof.Laws.WordOfReplica.aoFaultReset (ch : Fin 16) :
    Sys2Proof.Laws.WordOfReplica.Statement (Sys2Proof.Instr.aoFaultReset ch) :=
  fun _ h => nomatch h

theorem Sys2Proof.Laws.WordOfReplica.cloClearStats (ch : Fin 16) :
    Sys2Proof.Laws.WordOfReplica.Statement (Sys2Proof.Instr.cloClearStats ch) :=
  fun _ h => nomatch h

theorem Sys2Proof.Laws.WordOfReplica.hartPoll (ch : Fin 16) :
    Sys2Proof.Laws.WordOfReplica.Statement (Sys2Proof.Instr.hartPoll ch) :=
  fun _ h => nomatch h

theorem Sys2Proof.Laws.WordOfReplica.hartResponse (ch : Fin 16) (answer : Option HartAnswer) :
    Sys2Proof.Laws.WordOfReplica.Statement (Sys2Proof.Instr.hartResponse ch answer) :=
  fun _ h => nomatch h

theorem Sys2Proof.Laws.WordOfReplica.hartRequest (req : Req) (ch : Fin 16) (addr : Nat) (cmd : List Byte) :
    Sys2Proof.Laws.WordOfReplica.Statement (Sys2Proof.Instr.hartRequest req ch addr cmd) :=
  fun _ h => nomatch h

theorem Sys2Proof.Laws.WordOfReplica.faConversion (ch : Fin 32) (raw : Int) :
    Sys2Proof.Laws.WordOfReplica.Statement (Sys2Proof.Instr.faConversion ch raw) :=
  fun _ h => nomatch h

theorem Sys2Proof.Laws.WordOfReplica.faiClearMinmax (ch : Fin 32) :
    Sys2Proof.Laws.WordOfReplica.Statement (Sys2Proof.Instr.faiClearMinmax ch) :=
  fun _ h => nomatch h

theorem Sys2Proof.Laws.WordOfReplica.calExport (req : Req) :
    Sys2Proof.Laws.WordOfReplica.Statement (Sys2Proof.Instr.calExport req) :=
  fun _ h => nomatch h

theorem Sys2Proof.Laws.WordOfReplica.calPoint (req : Req) (path : Fin 64) (reference raw : Int) :
    Sys2Proof.Laws.WordOfReplica.Statement (Sys2Proof.Instr.calPoint req path reference raw) :=
  fun _ h => nomatch h

theorem Sys2Proof.Laws.WordOfReplica.calCommit (req : Req) (cert : List Byte) :
    Sys2Proof.Laws.WordOfReplica.Statement (Sys2Proof.Instr.calCommit req cert) :=
  fun _ h => nomatch h

theorem Sys2Proof.Laws.WordOfReplica.calImport (req : Req) (file : List Byte) :
    Sys2Proof.Laws.WordOfReplica.Statement (Sys2Proof.Instr.calImport req file) :=
  fun _ h => nomatch h

theorem Sys2Proof.Laws.WordOfReplica.calAbort (req : Req) :
    Sys2Proof.Laws.WordOfReplica.Statement (Sys2Proof.Instr.calAbort req) :=
  fun _ h => nomatch h

theorem Sys2Proof.Laws.WordOfReplica.calPendingTimeout :
    Sys2Proof.Laws.WordOfReplica.Statement (Sys2Proof.Instr.calPendingTimeout) :=
  fun _ h => nomatch h

theorem Sys2Proof.Laws.WordOfReplica.canFrameComplete (port : Fin 4) (frame : CanFrame) (own : Bool) (tSof : DWord) (busyNs : Nat) (delay : Option Nat) :
    Sys2Proof.Laws.WordOfReplica.Statement (Sys2Proof.Instr.canFrameComplete port frame own tSof busyNs delay) :=
  fun _ h => nomatch h

theorem Sys2Proof.Laws.WordOfReplica.canBusError (port : Fin 4) (kind : Nat) (dataPhase tx heavy : Bool) :
    Sys2Proof.Laws.WordOfReplica.Statement (Sys2Proof.Instr.canBusError port kind dataPhase tx heavy) :=
  fun _ h => nomatch h

theorem Sys2Proof.Laws.WordOfReplica.canTxSelect (port : Fin 4) :
    Sys2Proof.Laws.WordOfReplica.Statement (Sys2Proof.Instr.canTxSelect port) :=
  fun _ h => nomatch h

theorem Sys2Proof.Laws.WordOfReplica.canArbitrationLost (port : Fin 4) :
    Sys2Proof.Laws.WordOfReplica.Statement (Sys2Proof.Instr.canArbitrationLost port) :=
  fun _ h => nomatch h

theorem Sys2Proof.Laws.WordOfReplica.canRecover (port : Fin 4) :
    Sys2Proof.Laws.WordOfReplica.Statement (Sys2Proof.Instr.canRecover port) :=
  fun _ h => nomatch h

theorem Sys2Proof.Laws.WordOfReplica.canRecoveryDone (port : Fin 4) :
    Sys2Proof.Laws.WordOfReplica.Statement (Sys2Proof.Instr.canRecoveryDone port) :=
  fun _ h => nomatch h

theorem Sys2Proof.Laws.WordOfReplica.canClearCounts (port : Fin 4) :
    Sys2Proof.Laws.WordOfReplica.Statement (Sys2Proof.Instr.canClearCounts port) :=
  fun _ h => nomatch h

theorem Sys2Proof.Laws.WordOfReplica.canLoopSelect (port : Fin 4) (value : Fin 4) :
    Sys2Proof.Laws.WordOfReplica.Statement (Sys2Proof.Instr.canLoopSelect port value) :=
  fun _ h => nomatch h

theorem Sys2Proof.Laws.WordOfReplica.txReq (path : Path) (port : Fin 4) (mask : BitVec 3) :
    Sys2Proof.Laws.WordOfReplica.Statement (Sys2Proof.Instr.txReq path port mask) :=
  fun _ h => nomatch h

theorem Sys2Proof.Laws.WordOfReplica.txCancel (path : Path) (port : Fin 4) (mask : BitVec 3) :
    Sys2Proof.Laws.WordOfReplica.Statement (Sys2Proof.Instr.txCancel path port mask) :=
  fun _ h => nomatch h

theorem Sys2Proof.Laws.WordOfReplica.txbData (path : Path) (port : Fin 4) (value : Word) :
    Sys2Proof.Laws.WordOfReplica.Statement (Sys2Proof.Instr.txbData path port value) :=
  fun _ h => nomatch h

theorem Sys2Proof.Laws.WordOfReplica.rxqWord (path : Path) (port : Fin 4) (q : Fin 2) :
    Sys2Proof.Laws.WordOfReplica.Statement (Sys2Proof.Instr.rxqWord path port q) :=
  fun _ h => nomatch h

theorem Sys2Proof.Laws.WordOfReplica.rxqDiscard (port : Fin 4) (q : Fin 2) :
    Sys2Proof.Laws.WordOfReplica.Statement (Sys2Proof.Instr.rxqDiscard port q) :=
  fun _ h => nomatch h

theorem Sys2Proof.Laws.WordOfReplica.rxqFlush (port : Fin 4) (q : Fin 2) :
    Sys2Proof.Laws.WordOfReplica.Statement (Sys2Proof.Instr.rxqFlush port q) :=
  fun _ h => nomatch h

theorem Sys2Proof.Laws.WordOfReplica.rxqClearOverflow (port : Fin 4) (q : Fin 2) :
    Sys2Proof.Laws.WordOfReplica.Statement (Sys2Proof.Instr.rxqClearOverflow port q) :=
  fun _ h => nomatch h

theorem Sys2Proof.Laws.WordOfReplica.eventInsert :
    Sys2Proof.Laws.WordOfReplica.Statement (Sys2Proof.Instr.eventInsert) :=
  fun _ h => nomatch h

theorem Sys2Proof.Laws.WordOfReplica.eventJournalWrite :
    Sys2Proof.Laws.WordOfReplica.Statement (Sys2Proof.Instr.eventJournalWrite) :=
  fun _ h => nomatch h

theorem Sys2Proof.Laws.WordOfReplica.evrecData0 (path : Path) :
    Sys2Proof.Laws.WordOfReplica.Statement (Sys2Proof.Instr.evrecData0 path) :=
  fun _ h => nomatch h

theorem Sys2Proof.Laws.WordOfReplica.evrecData11 (path : Path) :
    Sys2Proof.Laws.WordOfReplica.Statement (Sys2Proof.Instr.evrecData11 path) :=
  fun _ h => nomatch h

theorem Sys2Proof.Laws.WordOfReplica.freeze (req : Option Req) :
    Sys2Proof.Laws.WordOfReplica.Statement (Sys2Proof.Instr.freeze req) :=
  fun _ h => nomatch h

theorem Sys2Proof.Laws.WordOfReplica.unfreeze (req : Option Req) :
    Sys2Proof.Laws.WordOfReplica.Statement (Sys2Proof.Instr.unfreeze req) :=
  fun _ h => nomatch h

theorem Sys2Proof.Laws.WordOfReplica.freezeExpiry :
    Sys2Proof.Laws.WordOfReplica.Statement (Sys2Proof.Instr.freezeExpiry) :=
  fun _ h => nomatch h

theorem Sys2Proof.Laws.WordOfReplica.clearLost :
    Sys2Proof.Laws.WordOfReplica.Statement (Sys2Proof.Instr.clearLost) :=
  fun _ h => nomatch h

theorem Sys2Proof.Laws.WordOfReplica.eventCatalogue (req : Req) :
    Sys2Proof.Laws.WordOfReplica.Statement (Sys2Proof.Instr.eventCatalogue req) :=
  fun _ h => nomatch h

theorem Sys2Proof.Laws.WordOfReplica.histDriveMount (bay : Fin 8) (drive : Drive) :
    Sys2Proof.Laws.WordOfReplica.Statement (Sys2Proof.Instr.histDriveMount bay drive) :=
  fun _ h => nomatch h

theorem Sys2Proof.Laws.WordOfReplica.histSetFailed (bay : Fin 8) (loss : DriveLoss) :
    Sys2Proof.Laws.WordOfReplica.Statement (Sys2Proof.Instr.histSetFailed bay loss) :=
  fun _ h => nomatch h

theorem Sys2Proof.Laws.WordOfReplica.histRebuild :
    Sys2Proof.Laws.WordOfReplica.Statement (Sys2Proof.Instr.histRebuild) :=
  fun _ h => nomatch h

theorem Sys2Proof.Laws.WordOfReplica.histRebuilt :
    Sys2Proof.Laws.WordOfReplica.Statement (Sys2Proof.Instr.histRebuilt) :=
  fun _ h => nomatch h

theorem Sys2Proof.Laws.WordOfReplica.histClearCounts :
    Sys2Proof.Laws.WordOfReplica.Statement (Sys2Proof.Instr.histClearCounts) :=
  fun _ h => nomatch h

theorem Sys2Proof.Laws.WordOfReplica.histFormat (req : Req) (set : Fin 2) (formatId : Nat) :
    Sys2Proof.Laws.WordOfReplica.Statement (Sys2Proof.Instr.histFormat req set formatId) :=
  fun _ h => nomatch h

theorem Sys2Proof.Laws.WordOfReplica.histSample (tag : Nat) (use : DriveUse) :
    Sys2Proof.Laws.WordOfReplica.Statement (Sys2Proof.Instr.histSample tag use) :=
  fun _ h => nomatch h

theorem Sys2Proof.Laws.WordOfReplica.histAggregate (tier : Fin 3) :
    Sys2Proof.Laws.WordOfReplica.Statement (Sys2Proof.Instr.histAggregate tier) :=
  fun _ h => nomatch h

theorem Sys2Proof.Laws.WordOfReplica.histSessionOpen (session : Nat) (certOk : Bool) :
    Sys2Proof.Laws.WordOfReplica.Statement (Sys2Proof.Instr.histSessionOpen session certOk) :=
  fun _ h => nomatch h

theorem Sys2Proof.Laws.WordOfReplica.tagQuery (session : Nat) (tags : List Nat) (t0 : DWord) (t1 : DWord) (tier : Fin 4) :
    Sys2Proof.Laws.WordOfReplica.Statement (Sys2Proof.Instr.tagQuery session tags t0 t1 tier) :=
  fun _ h => nomatch h

theorem Sys2Proof.Laws.WordOfReplica.eventQuery (session : Nat) (byTime : Bool) (lo : DWord) (hi : DWord) (minSev : Fin 8) :
    Sys2Proof.Laws.WordOfReplica.Statement (Sys2Proof.Instr.eventQuery session byTime lo hi minSev) :=
  fun _ h => nomatch h

theorem Sys2Proof.Laws.WordOfReplica.streamOpen (session : Nat) (stream : Nat) (fa : List (Fin 32)) (awl : Bool) :
    Sys2Proof.Laws.WordOfReplica.Statement (Sys2Proof.Instr.streamOpen session stream fa awl) :=
  fun _ h => nomatch h

theorem Sys2Proof.Laws.WordOfReplica.streamClose (session : Nat) (stream : Nat) :
    Sys2Proof.Laws.WordOfReplica.Statement (Sys2Proof.Instr.streamClose session stream) :=
  fun _ h => nomatch h

theorem Sys2Proof.Laws.WordOfReplica.streamMessage (session stream : Nat) (awl : Bool) (place : Fin 32) (taken : Bool) :
    Sys2Proof.Laws.WordOfReplica.Statement (Sys2Proof.Instr.streamMessage session stream awl place taken) :=
  fun _ h => nomatch h

theorem Sys2Proof.Laws.WordOfReplica.sessionOpen (hello : ClientHello) :
    Sys2Proof.Laws.WordOfReplica.Statement (Sys2Proof.Instr.sessionOpen hello) :=
  fun _ h => nomatch h

theorem Sys2Proof.Laws.WordOfReplica.sessionIdleTimeout (session : Nat) :
    Sys2Proof.Laws.WordOfReplica.Statement (Sys2Proof.Instr.sessionIdleTimeout session) :=
  fun _ h => nomatch h

theorem Sys2Proof.Laws.WordOfReplica.addressBlockExpiry (ip : Nat) :
    Sys2Proof.Laws.WordOfReplica.Statement (Sys2Proof.Instr.addressBlockExpiry ip) :=
  fun _ h => nomatch h

theorem Sys2Proof.Laws.WordOfReplica.readReg (req : Req) (offset : Word) (count : BitVec 16) :
    Sys2Proof.Laws.WordOfReplica.Statement (Sys2Proof.Instr.readReg req offset count) :=
  fun _ h => nomatch h

theorem Sys2Proof.Laws.WordOfReplica.writeReg (req : Req) (offset : Word) (value : Word) :
    Sys2Proof.Laws.WordOfReplica.Statement (Sys2Proof.Instr.writeReg req offset value) :=
  fun _ h => nomatch h

theorem Sys2Proof.Laws.WordOfReplica.statusCatalogue (req : Req) :
    Sys2Proof.Laws.WordOfReplica.Statement (Sys2Proof.Instr.statusCatalogue req) :=
  fun _ h => nomatch h

theorem Sys2Proof.Laws.WordOfReplica.attest (req : Req) (nonce : BitVec 256) :
    Sys2Proof.Laws.WordOfReplica.Statement (Sys2Proof.Instr.attest req nonce) :=
  fun _ h => nomatch h

theorem Sys2Proof.Laws.WordOfReplica.fwUpdate (req : Req) (copy : FwCopy) :
    Sys2Proof.Laws.WordOfReplica.Statement (Sys2Proof.Instr.fwUpdate req copy) :=
  fun _ h => nomatch h

theorem Sys2Proof.Laws.WordOfReplica.propose (req : Req) (kind : Byte) (subject : BitVec 384) :
    Sys2Proof.Laws.WordOfReplica.Statement (Sys2Proof.Instr.propose req kind subject) :=
  fun _ h => nomatch h

theorem Sys2Proof.Laws.WordOfReplica.approve (req : Req) (pendingId : Word) (keyIndex : Nat) (sig : Sig) :
    Sys2Proof.Laws.WordOfReplica.Statement (Sys2Proof.Instr.approve req pendingId keyIndex sig) :=
  fun _ h => nomatch h

theorem Sys2Proof.Laws.WordOfReplica.withdraw (req : Req) (pendingId : Word) :
    Sys2Proof.Laws.WordOfReplica.Statement (Sys2Proof.Instr.withdraw req pendingId) :=
  fun _ h => nomatch h

theorem Sys2Proof.Laws.WordOfReplica.approvalLapse :
    Sys2Proof.Laws.WordOfReplica.Statement (Sys2Proof.Instr.approvalLapse) :=
  fun _ h => nomatch h

theorem Sys2Proof.Laws.WordOfReplica.pendingLapse (pendingId : Word) :
    Sys2Proof.Laws.WordOfReplica.Statement (Sys2Proof.Instr.pendingLapse pendingId) :=
  fun _ h => nomatch h

theorem Sys2Proof.Laws.WordOfReplica.csr (req : Req) :
    Sys2Proof.Laws.WordOfReplica.Statement (Sys2Proof.Instr.csr req) :=
  fun _ h => nomatch h

theorem Sys2Proof.Laws.WordOfReplica.installCert (req : Req) (cert : TlsCert) :
    Sys2Proof.Laws.WordOfReplica.Statement (Sys2Proof.Instr.installCert req cert) :=
  fun _ h => nomatch h

theorem Sys2Proof.Laws.WordOfReplica.enrol (req : Req) (record : EnrolRecord) :
    Sys2Proof.Laws.WordOfReplica.Statement (Sys2Proof.Instr.enrol req record) :=
  fun _ h => nomatch h

theorem Sys2Proof.Laws.WordOfReplica.releaseOwner (req : Req) :
    Sys2Proof.Laws.WordOfReplica.Statement (Sys2Proof.Instr.releaseOwner req) :=
  fun _ h => nomatch h

theorem Sys2Proof.Laws.WordOfReplica.secClearCounts :
    Sys2Proof.Laws.WordOfReplica.Statement (Sys2Proof.Instr.secClearCounts) :=
  fun _ h => nomatch h

theorem Sys2Proof.Laws.WordOfReplica.shutdownTest :
    Sys2Proof.Laws.WordOfReplica.Statement (Sys2Proof.Instr.shutdownTest) :=
  fun _ h => nomatch h

theorem Sys2Proof.Laws.WordOfReplica.shutdownTestDone (findings : TestFindings) :
    Sys2Proof.Laws.WordOfReplica.Statement (Sys2Proof.Instr.shutdownTestDone findings) :=
  fun _ h => nomatch h

theorem Sys2Proof.Laws.WordOfReplica.fuseCommit :
    Sys2Proof.Laws.WordOfReplica.Statement (Sys2Proof.Instr.fuseCommit) :=
  fun _ h => nomatch h

theorem Sys2Proof.Laws.WordOfReplica.fuseRepair :
    Sys2Proof.Laws.WordOfReplica.Statement (Sys2Proof.Instr.fuseRepair) :=
  fun _ h => nomatch h

theorem Sys2Proof.Laws.WordOfReplica.clearSoft :
    Sys2Proof.Laws.WordOfReplica.Statement (Sys2Proof.Instr.clearSoft) :=
  fun _ h => nomatch h

theorem Sys2Proof.Laws.WordOfReplica.lifeClearCounts :
    Sys2Proof.Laws.WordOfReplica.Statement (Sys2Proof.Instr.lifeClearCounts) :=
  fun _ h => nomatch h

theorem Sys2Proof.Laws.WordOfReplica.flashBlockFail (block : Fin 8192) (erase : Bool) :
    Sys2Proof.Laws.WordOfReplica.Statement (Sys2Proof.Instr.flashBlockFail block erase) :=
  fun _ h => nomatch h

theorem Sys2Proof.Laws.WordOfReplica.tagPageWrite (page : Fin 24) (content : List Byte) :
    Sys2Proof.Laws.WordOfReplica.Statement (Sys2Proof.Instr.tagPageWrite page content) :=
  fun _ h => nomatch h

theorem Sys2Proof.Laws.WordOfReplica.tagFieldSession :
    Sys2Proof.Laws.WordOfReplica.Statement (Sys2Proof.Instr.tagFieldSession) :=
  fun _ h => nomatch h

theorem Sys2Proof.Laws.WordOfReplica.tagFieldWrite (page : Fin 64) (content : List Byte) :
    Sys2Proof.Laws.WordOfReplica.Statement (Sys2Proof.Instr.tagFieldWrite page content) :=
  fun _ h => nomatch h

theorem Sys2Proof.Laws.WordOfReplica.tagLockExpiry :
    Sys2Proof.Laws.WordOfReplica.Statement (Sys2Proof.Instr.tagLockExpiry) :=
  fun _ h => nomatch h

theorem Sys2Proof.Laws.WordOfReplica.resetRelease :
    Sys2Proof.Laws.WordOfReplica.Statement (Sys2Proof.Instr.resetRelease) :=
  fun _ h => nomatch h

theorem Sys2Proof.Laws.WordOfReplica.girthLinkTrained (delay : Byte) :
    Sys2Proof.Laws.WordOfReplica.Statement (Sys2Proof.Instr.girthLinkTrained delay) :=
  fun _ h => nomatch h

theorem Sys2Proof.Laws.WordOfReplica.ptpMoveBack :
    Sys2Proof.Laws.WordOfReplica.Statement (Sys2Proof.Instr.ptpMoveBack) :=
  fun _ h => nomatch h

theorem Sys2Proof.Laws.WordOfReplica.sessionClose (session : Nat) :
    Sys2Proof.Laws.WordOfReplica.Statement (Sys2Proof.Instr.sessionClose session) :=
  fun _ h => nomatch h

theorem Sys2Proof.Laws.WordOfReplica.tagFieldRelease :
    Sys2Proof.Laws.WordOfReplica.Statement (Sys2Proof.Instr.tagFieldRelease) :=
  fun _ h => nomatch h

theorem Sys2Proof.Laws.WordOfReplica.dioSwitchCooled (pin : Fin 32) :
    Sys2Proof.Laws.WordOfReplica.Statement (Sys2Proof.Instr.dioSwitchCooled pin) :=
  fun _ h => nomatch h

theorem Sys2Proof.Laws.WordOfReplica.flashEraseComplete (block : Fin 8192) :
    Sys2Proof.Laws.WordOfReplica.Statement (Sys2Proof.Instr.flashEraseComplete block) :=
  fun _ h => nomatch h
end

