-- ==== Sys2Proof/Laws/Requests.lean ====
section
/-! SUPPORT. Laws of management requests: what a fresh request comes to, and how `Carries` follows from what its action
answers. -/

namespace Sys2Proof.Machine

/-- A fresh request is carried out by its action on the module with the session's last use noted. -/
theorem request_fresh {s : State} {q : Req} {right : Nat} (h : FreshRequest s q right) (k : ReqKind) (hk : k.right = some right)
    (act : Dev → Reply) (hl : (act (s.dev.touchSession q.session)).later = false) :
    s.dev.request k q act =
      let p := act (s.dev.touchSession q.session)
      (p.dev.complete k q p.status p.body).respond k q p.status p.body p.dup := by
  obtain ⟨ha, ho, hm, hn, ⟨x, hx, hu, hc, hr⟩, hrun, hdone⟩ := h
  have hid : x.id = q.session := by
    have := List.find?_some hx
    simpa using this
  have hne : ∀ y ∈ s.dev.mgmt.running, ¬(y.client = q.client) := hrun
  have e1 : (s.dev.touchSession x.id).mgmt.running = s.dev.mgmt.running := rfl
  have e2 : (s.dev.touchSession x.id).mgmt.completed = s.dev.mgmt.completed := rfl
  have e3 : (s.dev.touchSession x.id).trust = s.dev.trust := rfl
  have f1 : (s.dev.mgmt.running.find? fun y => y.client = q.client && y.id = q.id) = none := by
    rw [List.find?_eq_none]; intro y hy; simp [hrun y hy]
  have f2 : (s.dev.touchSession x.id).storedResult q = none := by
    unfold Dev.storedResult Dev.doneOf
    rw [e2, List.find?_eq_none]
    intro y hy
    have := List.mem_of_mem_take hy
    simp only [List.mem_filter, decide_eq_true_eq] at this
    exact absurd this.2 (hdone y this.1)
  have f3 : (s.dev.mgmt.running.filter fun y => y.client = q.client) = [] := by
    rw [List.filter_eq_nil_iff]; intro y hy; simp [hrun y hy]
  have hm' : x.may k s.dev.trust.owner.isSome = true := by
    unfold Session.may; rw [hk, ho]; simp [hr]
  unfold Dev.request
  rw [if_pos ha, hx]
  simp only [hm, ne_eq, not_true_eq_false, not_lt.mpr hn, if_false, hu, Bool.not_false, Bool.true_and, hc,
    decide_false, Bool.false_eq_true, e3, hm', Bool.not_true, e1, f1, f2, f3, List.length_nil]
  rw [hid, hl]
  simp

/-- An action's result, recorded and sent. -/
def Dev.answered (d : Dev) (k : ReqKind) (q : Req) (st : Status) (body : List Byte) : Dev :=
  (d.complete k q st body).respond k q st body

theorem Dev.answered_replied (d : Dev) (k : ReqKind) (q : Req) (st : Status) (body : List Byte) :
    Replied (d.answered k q st body) k.opcode q st body := by
  refine ⟨rfl, ⟨q.client, q.id, q.digest, k.opcode, st, if body.length ≤ 1024 then some body else none, d.now⟩, ?_, rfl, rfl,
    rfl, rfl⟩
  show _ ∈ List.take 64 (_ :: d.doneOf q.client) ++ _
  simp

/-- An answer counts one request and changes no other register. -/
theorem Dev.answered_regs (d : Dev) (k : ReqKind) (q : Req) (st : Status) (body : List Byte) :
    (d.answered k q st body).regs = (d.incWrap R.SEC_REQUESTS).regs := rfl

/-- An answer changes the management plane and the count of requests only. -/
theorem Dev.answered_eq (d : Dev) (k : ReqKind) (q : Req) (st : Status) (body : List Byte) :
    d.answered k q st body =
      { d with regs := (d.incWrap R.SEC_REQUESTS).regs, mgmt := (d.answered k q st body).mgmt } := rfl

/-- A command whose meaning is a request carries it out as `Carries` says, by what its action answers. -/
theorem carries_of {c : Instr} {s : State} {q : Req} {right : Nat} {k : ReqKind} {act : Dev → Reply} {st : Status}
    {body : List Byte} {fs : List Fld} {P : Dev → Prop} (e : exec c s = s.act fun d => d.request k q act)
    (hk : k.right = some right)
    (h : FreshRequest s q right → let p := act (s.dev.touchSession q.session)
      p.later = false ∧ p.dup = false ∧ p.status = st ∧ p.body = body ∧ OtherFields s.dev p.dev fs ∧
        p.dev.rd R.SEC_REQUESTS = s.dev.rd R.SEC_REQUESTS ∧ P (p.dev.answered k q st body)) :
    Carries c s q right k.opcode st body fs P := by
  intro hf
  obtain ⟨hl, hd, hs, hb, ho, hr, hp⟩ := h hf
  refine answers_act e ?_
  rw [request_fresh hf k hk act hl]
  show Replied _ _ _ _ _ ∧ _
  simp only [hd, hs, hb]
  refine ⟨Dev.answered_replied _ _ _ _ _, ?_, ?_, hp⟩
  · rw [← hr]
    exact Dev.rd_incWrap _ R.SEC_REQUESTS (by decide)
  · intro g hg
    have : R.SEC_REQUESTS.separate g := hg _ (by simp)
    have h1 := Dev.rd_wr_other (act (s.dev.touchSession q.session)).dev R.SEC_REQUESTS g
      ((act (s.dev.touchSession q.session)).dev.rd R.SEC_REQUESTS + 1) (by decide) this
    rw [← ho g (fun f hf => hg f (by simp [hf]))]
    exact h1

end Sys2Proof.Machine
end

