-- ==== Sys2Proof/Laws/Tack.lean ====
section
/-! SUPPORT. What a tack instruction can do, said once for each outcome of its body, and the laws of a core's
registers. -/

namespace Sys2Proof.Machine

/-! ### Registers of a core -/

theorem Core.get_put (c : Core) (k j : Fin 32) (v : DWord) :
    (c.put k v).get j = if j = k ∧ j ≠ 0 then v else c.get j := by
  by_cases hk : k = 0
  · subst hk
    have : ¬(j = 0 ∧ j ≠ 0) := fun h => h.2 h.1
    simp [Core.put, this]
  · by_cases hj : j = 0
    · subst hj; simp [Core.get]
    · by_cases e : j = k
      · subst e; simp [Core.put, Core.get, hj]
      · have : j.val ≠ k.val := fun h => e (Fin.ext h)
        simp [Core.put, Core.get, hk, hj, e, sget_sput_other _ _ _ this]

theorem Replica.get_put (x : Replica) (k j : Fin 32) (v : DWord) :
    (x.put k v).get j = if j = k ∧ j ≠ 0 then v else x.get j := Core.get_put x.core k j v

/-- A write of a register changes the general registers only. -/
theorem Core.put_eq (c : Core) (k : Fin 32) (v : DWord) : c.put k v = { c with g := (c.put k v).g } := by
  unfold Core.put; split <;> rfl

@[simp] theorem Core.put_pc (c : Core) (k : Fin 32) (v : DWord) : (c.put k v).pc = c.pc := by unfold Core.put; split <;> rfl
@[simp] theorem Core.put_epc (c : Core) (k : Fin 32) (v : DWord) : (c.put k v).epc = c.epc := by unfold Core.put; split <;> rfl
@[simp] theorem Core.put_ecause (c : Core) (k : Fin 32) (v : DWord) : (c.put k v).ecause = c.ecause := by
  unfold Core.put; split <;> rfl
@[simp] theorem Core.put_eval (c : Core) (k : Fin 32) (v : DWord) : (c.put k v).eval = c.eval := by unfold Core.put; split <;> rfl
@[simp] theorem Core.put_depth (c : Core) (k : Fin 32) (v : DWord) : (c.put k v).depth = c.depth := by
  unfold Core.put; split <;> rfl
@[simp] theorem Core.put_running (c : Core) (k : Fin 32) (v : DWord) : (c.put k v).running = c.running := by
  unfold Core.put; split <;> rfl

/-! ### One replica -/

/-- A change of one replica is a change of that replica only. -/
theorem onlyReplica_onRep (d : Dev) (t : Fin 144) (r : Fin 3) (f : Replica → Replica) :
    OnlyReplica d (d.onRep t.val r f) t r := by
  refine ⟨rfl, fun u => ?_⟩
  by_cases h : u = t.val
  · subst h; simp [Dev.onRep]
  · simp [h, Dev.onRep, Dev.tile_putTile_other]

@[simp] theorem Dev.rep_onRep (d : Dev) (t : Nat) (r : Fin 3) (f : Replica → Replica) :
    ((d.onRep t r f).tile t).rep r = f ((d.tile t).rep r) := by simp [Dev.onRep]

/-! ### The outcomes of an instruction's body -/

/-- An instruction that completes with a replica `y` leaves `y`, retired. -/
theorem tackStep_ok {s : State} {t : Fin 144} {r : Fin 3} {c : TackCtx} {f : TackCtx → Replica → TackOut} {y : Replica}
    (h : TackReady s t r c) (e : f c (theReplica s t r) = .ok y) :
    s.dev.tackStep t r f = s.dev.onRep t.val r (fun _ => { y with retired := (theReplica s t r).retired + 1 }) := by
  have hp : ¬ 0x20000 ≤ ((s.dev.tile t.val).rep r).core.pc.toNat := by have := h.2; omega
  simp only [theReplica] at e
  simp [Dev.tackStep, h.1, hp, e, theReplica]

/-- An instruction that waits for a shared read. -/
theorem tackStep_wait {s : State} {t : Fin 144} {r : Fin 3} {c : TackCtx} {f : TackCtx → Replica → TackOut} {y : Replica}
    (h : TackReady s t r c) (e : f c (theReplica s t r) = .wait y) :
    s.dev.tackStep t r f = s.dev.onRep t.val r (fun _ => y) := by
  have hp : ¬ 0x20000 ≤ ((s.dev.tile t.val).rep r).core.pc.toNat := by have := h.2; omega
  simp only [theReplica] at e
  simp [Dev.tackStep, h.1, hp, e]

/-- An instruction that raises an exception. -/
theorem tackStep_raise {s : State} {t : Fin 144} {r : Fin 3} {c : TackCtx} {f : TackCtx → Replica → TackOut}
    {cause : Nat} {eval : DWord} {dev : Option Bool}
    (h : TackReady s t r c) (e : f c (theReplica s t r) = .raise cause eval dev) :
    s.dev.tackStep t r f = s.dev.tackRaise t r c cause eval dev := by
  have hp : ¬ 0x20000 ≤ ((s.dev.tile t.val).rep r).core.pc.toNat := by have := h.2; omega
  simp only [theReplica] at e
  simp [Dev.tackStep, h.1, hp, e]

/-- An exception that is no device access is entered, where the replica may retire a further effect. -/
theorem tackRaise_eq {s : State} {t : Fin 144} {r : Fin 3} {c : TackCtx} (cause : Nat) (eval : DWord) (h : c.held < 16) :
    s.dev.tackRaise t r c cause eval none = s.dev.onRep t.val r (fun _ =>
      { theReplica s t r with retired := (theReplica s t r).retired + 1 }.enterException c cause eval) := by
  have : ¬ 16 ≤ c.held := by omega
  simp [Dev.tackRaise, this, theReplica]

/-- A command whose effect on the module is known changes one replica into a known one. -/
theorem replicaBecomes_of {i : Instr} {s : State} {t : Fin 144} {r : Fin 3} {P : Replica → Prop} {y : Replica}
    (e : exec i s = .next { s with dev := s.dev.onRep t.val r (fun _ => y) }) (p : P y) : ReplicaBecomes i s t r P :=
  ⟨_, e, onlyReplica_onRep _ _ _ _, by simpa using p⟩

/-- An ALU instruction writes its value. -/
theorem writesRegister_of {i : Instr} {s : State} {t : Fin 144} {r : Fin 3} {c : TackCtx} {rd : Fin 32} {v : Replica → DWord}
    (h : TackReady s t r c) (e : exec i s = .next { s with dev := s.dev.tackAlu t r rd v }) :
    WritesRegister i s t r rd (v (theReplica s t r)) := by
  have e2 := tackStep_ok (f := fun _ x => .ok ((x.put rd (v x)).next)) h rfl
  rw [Dev.tackAlu, e2] at e
  refine replicaBecomes_of e ⟨fun k => ?_, ?_⟩
  · exact Core.get_put _ rd k _
  · simp only [Replica.next, Replica.goto, Replica.put]
    have := Core.put_eq (theReplica s t r).core rd (v (theReplica s t r))
    rw [this]

end Sys2Proof.Machine
end

