-- ==== Sys2Proof/Machine/Pins.lean ====
section
/-! DEFINITION. What the outside sees of the module: the front-panel LEDs and the state of every pin group (R45, R46). -/

namespace Sys2Proof.Machine

/-- A LED's colour and pattern (R45): slow is 1 Hz, fast 4 Hz. -/
inductive Led where
  | off
  | green
  | greenSlow
  | yellow
  | yellowSlow
  | yellowFast
  | yellowRed
  | red
  | redSlow
  deriving DecidableEq, Repr

/-- PWR. The manual names no pattern for a powered module with no good feed. DESIGN CHOICE (log 30). -/
def Dev.ledPwr (d : Dev) : Option Led :=
  if !d.power.powered then some .off
  else match d.on R.POWER_PWR_A_GOOD, d.on R.POWER_PWR_B_GOOD with
    | true, true => some .green
    | true, false | false, true => some .greenSlow
    | false, false => none

/-- ROLE. -/
def Dev.ledRole (d : Dev) : Led :=
  if !d.lit then .off
  else match d.role with
    | .active => .green
    | .solo => .greenSlow
    | .standby => if d.on R.TWIN_STATUS_COPYING then .yellowFast else .yellow
    | .starting => .yellowFast
    | .safetyMaint => .yellowRed
    | .stopped => .off

/-- FAULT: red also with no acceptable firmware (R447). The manual describes nothing that acknowledges a record, so each
ALARM or higher in the ring is unacknowledged. -/
def Dev.ledFault (d : Dev) : Led :=
  if !d.lit then .off
  else if d.trust.noFirmware || (d.role = .stopped && d.power.faultStop) then .red
  else if d.evrec.ring.any (fun r => 4 ≤ r.2.sev.val) then .redSlow
  else .off

/-- PROT, driven by the bridle. -/
def Dev.ledProt (d : Dev) : Led :=
  if !d.lit || !d.bridle.running then .off
  else if d.bridle.params.isNone then .redSlow
  else if d.bridle.outputs % 2 ^ 16 = 0 then .green
  else if d.ownPresence then .red
  else .redSlow

/-- Errors in the last 10 s. -/
def Dev.errorsLately (d : Dev) (at_ : Option DWord) : Bool :=
  match at_ with
  | some c => d.since c < 10 * nsPerSecond
  | none => false

/-- A link's LED. -/
def Dev.ledLink (d : Dev) (up : Bool) (errAt : Option DWord) : Led :=
  if !d.lit || !up then .off else if d.errorsLately errAt then .yellow else .green

/-- RING A (0), RING B (1) and GIRTH. -/
def Dev.ledRing (d : Dev) (k : Nat) : Led := d.ledLink (d.on (R.RING_STATUS_LINK_UP k)) (d.ring.port k).errAt
def Dev.ledGirth (d : Dev) : Led := d.ledLink (d.on R.TWIN_GIRTH_LINK_UP) d.twin.girthErrAt

/-- KEEPER: K1.1, K1.6, K1.7 or K1.8 on; else the cover open. -/
def Dev.ledKeeper (d : Dev) : Led :=
  let sw := d.rd R.KEEPER_SW
  if !d.lit then .off
  else if [0, 5, 6, 7].any (testBit sw) then .yellow
  else if d.on R.KEEPER_COVER_OPEN then .yellowSlow
  else .off

/-- What a pin group does, in the words of R46. -/
inductive Pins where
  | open_
  | driven
  | notSampled
  | sampled
  | zero
  | silent
  | perImage
  | notEvaluated
  | evaluated
  | off
  | on_
  | pulsing
  | perFunctions
  | perEquations
  | perBridle
  | released
  | asserted
  | dark
  | idle
  | shadow
  | command
  | forwarding
  | forwardingBeats
  | full
  | training
  | status
  | beats
  | recessive
  | monitoring
  | perProgram
  | perst
  | enumerating
  | mounted
  | historian
  | down
  | up
  | readable
  deriving DecidableEq, Repr

/-- The column of R46 that the pins show: none while the module is absent, that is unpowered, in reset, or without
firmware that runs (R447); else a role, which takes effect at the first cycle boundary in it. -/
def Dev.pinColumn (d : Dev) : Option Role := if d.alive then some d.power.pinRole else none

/-- The pins show ACTIVE or SOLO. -/
def Dev.pinsLive (d : Dev) : Bool := d.pinColumn.any Role.commanding

/-- DIO outputs. -/
def Dev.pinsDioOut (d : Dev) : Pins := if d.pinsLive then .driven else .open_

/-- DIO and FB inputs: not sampled in Starting. -/
def Dev.pinsDioIn (d : Dev) : Pins :=
  match d.pinColumn with
  | none | some .starting => .notSampled
  | some _ => .sampled

/-- AO00 to AO15. -/
def Dev.pinsAo (d : Dev) : Pins := if d.pinsLive then .driven else .zero

/-- The HART modems. -/
def Dev.pinsHart (d : Dev) : Pins := if d.pinsLive then .perImage else .silent

/-- FA and FT inputs and the comparators: in Starting once the bridle runs. -/
def Dev.pinsFa (d : Dev) : Pins := if d.faEvaluated then .evaluated else .notEvaluated

/-- TO00 to TO15: per equations with valid parameters; in Starting from the assertion of presence on; dark in SAFETY_MAINT. -/
def Dev.pinsTo (d : Dev) : Pins :=
  match d.pinColumn with
  | none | some .safetyMaint => .dark
  | some .starting => if d.ownPresence then .perEquations else .dark
  | some _ => if d.bridle.params.isSome then .perEquations else .dark

/-- The presence line. -/
def Dev.pinsPresence (d : Dev) : Pins := if d.pinColumn.isSome && d.ownPresence then .asserted else .released

/-- TRIPBUS0 to TRIPBUS5. -/
def Dev.pinsTripbus (d : Dev) : Pins := if d.pinColumn.isSome then .perBridle else .released

/-- SO0 to SO7. -/
def Dev.pinsSo (d : Dev) : Pins := if d.pinsLive then .perFunctions else .off

/-- TP0 to TP3: pulsing once the bridle runs, with FLD_24V good (R51). -/
def Dev.pinsTp (d : Dev) : Pins := if d.pinColumn.isSome && d.bridle.running && d.fldGood then .pulsing else .off

/-- The ENC supplies, which FLD_24V feeds through the field fuse (R50, R52). DEDUCED (log 134). -/
def Dev.pinsEnc (d : Dev) : Pins := if d.pinColumn.isSome && !d.on R.POWER_FLD_TRIPPED then .on_ else .off

/-- A gate link: command or shadow frames only where a loop slot commands it. -/
def Dev.pinsGl (d : Dev) (g : Nat) : Pins :=
  match d.pinColumn with
  | none => .dark
  | some r =>
    if d.committed || !d.image.slots.any (fun i => i.glink = some g) then .idle
    else if r.commanding then .command
    else if r = .standby then .shadow
    else .idle

/-- RING_A and RING_B. -/
def Dev.pinsRing (d : Dev) : Pins :=
  match d.pinColumn with
  | none => .dark
  | some .active | some .solo => .full
  | some .standby => .forwardingBeats
  | some _ => .forwarding

/-- The frames of the present period as they stand in the secure data of both rings. -/
def Dev.ringWire (d : Dev) : List (List Byte) := d.ring.sent.map ringFrameBytes

/-- GIRTH. -/
def Dev.pinsGirth (d : Dev) : Pins :=
  match d.pinColumn with
  | none => .dark
  | some .starting => .training
  | some .stopped | some .safetyMaint => .status
  | some .standby => .beats
  | some .active | some .solo => .full

/-- CAN0 to CAN3. -/
def Dev.pinsCan (d : Dev) : Pins :=
  match d.pinColumn with
  | some .active | some .solo => .perProgram
  | some .standby => .monitoring
  | _ => .recessive

/-- PCIe. -/
def Dev.pinsPcie (d : Dev) : Pins :=
  match d.pinColumn with
  | none => .perst
  | some .starting => .enumerating
  | some .stopped | some .safetyMaint => .mounted
  | some _ => .historian

/-- DATA0 and DATA1. -/
def Dev.pinsData (d : Dev) : Pins :=
  match d.pinColumn with
  | none => .dark
  | some .starting => .down
  | some _ => .up

/-- MGMT0, MGMT1 and X6: up once the firmware runs. -/
def Dev.pinsMgmt (d : Dev) : Pins := if d.pinColumn.isSome then .up else .down

/-- The NFC tag: readable by the field at all times. -/
def Dev.pinsNfc (_ : Dev) : Pins := .readable

end Sys2Proof.Machine
end

