-- ==== Sys2Proof/Tests/Slice0.lean ====
section
/-! SUPPORT. Small checks of the model on fixed values, with their source in the manual, and for the hypotheses of every
statement the witnesses that states and operands meet them: `witness_<statement>`, clause by clause. -/

namespace Sys2Proof.Tests

set_option Elab.async false
open Sys2Proof Sys2Proof.Machine

/-! ### States -/

/-- Fields set one after the other. -/
def put (d : Dev) (fs : List (Fld × Nat)) : Dev := fs.foldl (fun d p => d.wr p.1 p.2) d

/-- A module whose electronics are powered and whose firmware runs, in a role. -/
def up (r : Role) : Dev :=
  { Dev.reset with role := r, power := { Dev.reset.power with powered := true, pinRole := r, start := { firmware := true } } }

/-- A state with an empty queue. -/
def at_ (d : Dev) : State := { dev := d, pending := [] }

/-- What a command makes of a module, if it answers. -/
def after (c : Instr) (d : Dev) : Dev :=
  match exec c (at_ d) with
  | .next s => s.dev
  | _ => d

/-- A module with an owner, and one open session with every right. -/
def owned (d : Dev) : Dev :=
  { d with
    trust := { d.trust with owner := some { rootKey := {}, rootFp := 0, ca := 0, harnessKeys := [], approvers := [], wrapKey := 0 } }
    mgmt := { d.mgmt with sessions := [{ id := 1, client := 7, rights := 0xFF }] } }

/-- A request of that session's client. -/
def req : Req := { session := 1, client := 7, id := 9 }

/-- A request of it is executed, whatever right it needs. -/
def ready (d : Dev) : Bool :=
  d.alive && d.trust.owner.isSome && d.mgmt.sessions == [{ id := 1, client := 7, rights := 0xFF }] && d.mgmt.running == [] &&
    d.mgmt.completed == []

/-- Requests on such a module are fresh: a witness for every statement about one. -/
theorem witness_FreshRequest (d : Dev) (h : ready d = true) (right : Nat) (hr : right < 8) : FreshRequest (at_ d) req right := by
  simp only [ready, Bool.and_eq_true, beq_iff_eq] at h
  obtain ⟨⟨⟨⟨h1, h2⟩, h3⟩, h4⟩, h5⟩ := h
  refine ⟨h1, h2, rfl, by decide, ⟨{ id := 1, client := 7, rights := 0xFF }, ?_, rfl, rfl, ?_⟩, ?_, ?_⟩
  · show (at_ d).dev.session 1 = _
    simp [Dev.session, at_, h3]
  · have : ∀ k : Fin 8, testBit 0xFF k.val = true := by decide
    exact this ⟨right, hr⟩
  · intro y hy; rw [show (at_ d).dev.mgmt.running = [] from h4] at hy; cases hy
  · intro y hy; rw [show (at_ d).dev.mgmt.completed = [] from h5] at hy; cases hy

theorem test_owned_is_ready : ready (owned (up .active)) = true := by decide +kernel

/-- A request on a module without owner. -/
theorem witness_UnownedRequest : UnownedRequest
    (at_ { up .stopped with mgmt := { sessions := [{ id := 1, client := 0, rights := 1, unowned := true }] } }) req :=
  ⟨by decide +kernel, rfl, rfl, by decide, ⟨_, rfl, rfl⟩, by simp [at_], by simp [at_]⟩

/-! ### Operands that no sender can send (WellFormed) -/

theorem test_ill_formed_paceWindow : (Instr.paceWindow 0 []).wellFormed = false := by decide
theorem test_ill_formed_hartResponse : (Instr.hartResponse 0 (some { comm := 1 })).wellFormed = false := by decide
theorem test_ill_formed_tagPageWrite : (Instr.tagPageWrite 0 []).wellFormed = false := by decide
theorem test_ill_formed_tagFieldWrite : (Instr.tagFieldWrite 0 []).wellFormed = false := by decide
theorem test_ill_formed_selfTest : (Instr.startSelfTestDone { spares := [.row 0 3 0] }).wellFormed = false ∧
    (Instr.shutdownTestDone { spares := [.tile 4] }).wellFormed = false := by decide
theorem test_ill_formed_paceWindow_long : (Instr.paceWindow 0 (List.replicate 18 1000)).wellFormed = false := by decide
theorem test_ill_formed_can : (Instr.canFrameComplete 0 { fdf := true, data := List.replicate 9 0 } false 0 0 none).wellFormed = false ∧
    (Instr.canBusError 0 0 false true false).wellFormed = false ∧ (Instr.canBusError 0 7 false true false).wellFormed = false := by
  decide

/-! ### Witnesses for the statements about steps, order and access codes -/

theorem witness_StepRunsTheFrontCommand : ∃ s : State, ∃ c rest, s.pending = c :: rest :=
  ⟨{ dev := Dev.reset, pending := [.ringPeriod] }, .ringPeriod, [], rfl⟩

theorem witness_EveryCommandAnswers : (∃ c : Instr, c.wellFormed = true) ∧ (∃ c : Instr, c.wellFormed = false) ∧
    (∃ s : State, s.pending = [] ∧ s.dev.power.powered = false) ∧ ∃ s : State, s.pending = [] ∧ s.dev.power.powered = true :=
  ⟨⟨.ringPeriod, rfl⟩, ⟨.paceWindow 0 [], by decide⟩, ⟨State.reset, rfl, rfl⟩, at_ (up .active), rfl, rfl⟩

/-- The canonical form, the floors and the limit of the rate hold at reset, and a step answers there. -/
theorem witness_invariants : swf resetWord State.reset.dev.regs = true ∧ Memory.wf State.reset.dev.life.tag = true ∧
    swf (fun _ => (0 : Word)) State.reset.dev.mgmt.latches = true ∧ State.reset.dev.time.rebase = none ∧
    ∃ t, step State.reset = .next t := ⟨rfl, rfl, rfl, rfl, _, rfl⟩

/-- R131 at the ends of its range, and at the distance of 2^31 that neither order covers. -/
theorem witness_LaterFollowsR131 : later 1 0 = true ∧ later 0x7FFFFFFF 0 = true ∧ later 0x80000000 0 = false ∧
    later 0 0x80000000 = false ∧ later 0 0xFFFFFFFF = true ∧ later 5 5 = false := by decide

/-- The worked value of R363: a rate of −71,468 over one second. -/
theorem witness_CorrectedTimeFollowsR363 : ((-549755813 : Int) ≤ -71468 ∧ (-71468 : Int) ≤ 549755813) ∧
    ({ offset := 1000, c0 := 0, rate := -71468 } : TimeSt).at_ 1000000000 = 1000 + 1000000000 - 65 := by decide

theorem witness_RegisterWritesFollowTheAccessCodes :
    let fs : List (Nat × Nat × Acc) := [(0, 4, .rw), (4, 1, .w1c), (5, 1, .w1s), (6, 2, .rwl), (8, 8, .ro), (16, 1, .wo)]
    (∀ f ∈ fs, f.1 + f.2.1 ≤ 32) ∧ fs.Pairwise (fun f g => f.1 + f.2.1 ≤ g.1 ∨ g.1 + g.2.1 ≤ f.1) ∧
      regWrite fs false 0x000000F3 0xFFFFFFFF = 0x000000EF ∧ (∀ f ∈ fs, 17 < f.1 ∨ f.1 + f.2.1 ≤ 17) := by decide

/-- R17 at a tile of each die. -/
theorem witness_TilesBelongToClustersByR17 : clusterOf (12 * 11 + 5) = 7 ∧ clusterOf (12 * 0 + 6) = 1 ∧
    (65 : Nat) ∈ clusterTiles 4 := by decide

/-! ### Tack words (R159 to R162), written out from the formats -/

theorem test_words_of_the_example : tackDecode 3 1 0x28A00008 = some (.lui 3 1 5 8) ∧
    tackDecode 3 1 0x58C50140 = some (.ld 3 1 6 5 0x140) ∧ tackDecode 3 1 0x04E004B0 = some (.addi 3 1 7 0 1200) ∧
    tackDecode 3 1 0x01063808 = some (.slt 3 1 8 6 7) ∧ tackDecode 3 1 0x61090022 = some (.sb 3 1 8 9 0x22) := by decide

theorem test_words_of_device_reads : tackDecode 0 0 0x28A08020 = some (.lui 0 0 5 0x8020) ∧
    tackDecode 0 0 0x54C50204 = some (.lwu 0 0 6 5 0x204) ∧ tackDecode 0 0 0xC0000001 = some (.endc 0 0) ∧
    tackEncode (.trap 0 0 0x22) = some 0xC4000022 ∧ tackEncode (.wrsr 0 0 3 4) = some 0xC0032005 := by decide

theorem witness_TackWordsDecodeAsEncoded : tackEncode (.beq 7 2 1 2 0xFFFC none) = some (wordI 0x20 1 2 0xFFFC) ∧
    tackOf (.beq 7 2 1 2 0xFFFC none) = some (7, 2) ∧ predicted (.beq 7 2 1 2 0xFFFC none) = true ∧
    tackDecode 7 2 (wordI 0x20 1 2 0xFFFC) = some (.beq 7 2 1 2 0xFFFC none) := by decide

/-! ### Tack code -/

/-- A partition on tile 0 with one privileged task. -/
def part0 : PartImg :=
  { num := 0, tile := 0, outLen := 64, tasks := [{ num := 1, spLo := 0x20000, spHi := 0x30000, handler := 0x100, priv := true }] }

/-- Replica A of tile 0 about to execute, with certain registers. -/
def tackDev (g : List (Nat × DWord)) (depth : Nat := 0) (buf : List BufStore := []) : Dev :=
  put { up .active with
    hrn := { Dev.reset.hrn with image := some { parts := [part0] } }
    tiles := [(0, { current := some { task := 1, release := 5 }
                    repA := { core := { g := g, pc := 0x40, running := true, depth := depth, epc := 0x44 }, storeBuf := buf } })] }
    [(R.TILE_STATUS_REP_IN 0, 7)]

/-- A context that satisfies a condition, from a check that evaluates. -/
theorem ready_of (d : Dev) (p : TackCtx → Bool) (h : (d.tackCtx 0 0).any p = true)
    (hp : decide (((d.tile 0).rep 0).core.pc.toNat < 0x20000) = true) : ∃ c, TackReady (at_ d) 0 0 c ∧ p c = true := by
  match e : d.tackCtx 0 0 with
  | some c => rw [e] at h; exact ⟨c, ⟨e, of_decide_eq_true hp⟩, by simpa using h⟩
  | none => rw [e] at h; simp at h

/-- For the ALU, branches, FENCE, ENDC, RDTIME, RDSR and WRSR: no condition but to be about to execute, and space in the
voter; division by 0, at the corner, and elsewhere. -/
theorem witness_TackReady : ∃ c, TackReady (at_ (tackDev [(1, 0x8000000000000000), (2, 0xFFFFFFFFFFFFFFFF), (3, 7)])) 0 0 c ∧
    decide (c.held < 16) = true := ready_of _ _ (by decide +kernel) (by decide +kernel)

theorem witness_TackDivision : let x := ((tackDev [(1, 0x8000000000000000), (2, 0xFFFFFFFFFFFFFFFF), (3, 7)]).tile 0).rep 0
    x.get 0 = 0 ∧ (x.get 1).toInt = -2 ^ 63 ∧ (x.get 2).toInt = -1 ∧ (x.get 3 ≠ 0 ∧ ¬((x.get 1).toInt = -2 ^ 63 ∧ (x.get 3).toInt = -1)) ∧
    (x.get 1).toInt = -1317624576693539401 * (x.get 3).toInt + -1 ∧ ((-1 : Int).natAbs < (x.get 3).toInt.natAbs) ∧
    0 ≤ (-1 : Int) * (x.get 1).toInt := by decide +kernel

/-- Loads and stores at the last bytes of the data area, where an access of each width is aligned. -/
theorem witness_TackLoadsAndStores : ∃ c, TackReady (at_ (tackDev [(1, 0x20000), (2, 0x90038)])) 0 0 c ∧
    decide (0x20000 + 8 ≤ c.part.dataTop ∧ c.part.dataTop ≤ 0x80000 ∧ c.held < 16 ∧ c.part.outLen ≤ 0x10000 ∧
      0x90038 + 8 ≤ 0x90000 + c.part.outLen) = true := ready_of _ _ (by decide +kernel) (by decide +kernel)

theorem witness_TackLoadsAndStores_operands : let x := ((tackDev [(1, 0x20000), (2, 0x90038)]).tile 0).rep 0
    (x.get 1 + (0 : BitVec 16).signExtend 64).toNat % 2 ^ 32 = 0x20000 ∧ effAddr (x.get 1) 0 = 0x20000 ∧ x.storeBuf = [] ∧
    effAddr (x.get 2) 0 = 0x90038 ∧ 0x90038 % 8 = 0 := by decide +kernel

/-- Branches taken and not, and a JALR to an aligned and to a misaligned target. -/
theorem witness_TackBranches : let x := ((tackDev [(1, 5), (2, 0xFFFFFFFFFFFFFFFF)]).tile 0).rep 0
    (x.get 2).toInt < (x.get 1).toInt ∧ (x.get 1).toNat < (x.get 2).toNat ∧ x.get 1 ≠ x.get 2 ∧
    ((x.get 1 + (3 : BitVec 16).signExtend 64).setWidth 32 : Word).toNat % 4 = 0 ∧
    (x.get 1 + (0 : BitVec 16).signExtend 64).toNat % 2 ^ 32 % 4 ≠ 0 := by decide +kernel

/-- The last target inside the code area and the first outside it, of a branch, a jump and a JALR. -/
theorem witness_TackTargets : let pc := ((tackDev [(1, 0x20000), (2, 0x1FFFD)]).tile 0).repA.core.pc
    (pc + ((0x7FEF : BitVec 16).signExtend 32 <<< 2) = 0x1FFFC ∧ pc + ((0x7FF0 : BitVec 16).signExtend 32 <<< 2) = 0x20000) ∧
    (pc + ((0x7FEF : BitVec 26).signExtend 32 <<< 2) = 0x1FFFC ∧ pc + ((0x7FF0 : BitVec 26).signExtend 32 <<< 2) = 0x20000) ∧
    (((tackDev [(1, 0x20000)]).tile 0).repA.get 1 + (0 : BitVec 16).signExtend 64).toNat % 2 ^ 32 = 0x20000 ∧
    (((tackDev [(1, 0x1FFFD)]).tile 0).repA.get 1 + (0 : BitVec 16).signExtend 64).toNat % 2 ^ 32 % 4 ≠ 0 := by decide +kernel

/-- An exception whose push is accepted, at the top of the task's stack; a word that does not decode; a special register
that R170 does not list. -/
theorem witness_TackExceptionEntry : ∃ c, TackReady (at_ (tackDev [(30, 0x30000)])) 0 0 c ∧
    decide (c.task.handler ≠ 0 ∧ c.task.spLo.toNat ≤ 0x30000 - 128 ∧ 0x30000 ≤ c.task.spHi.toNat ∧ 0x30000 ≤ c.part.dataTop) = true :=
  ready_of _ _ (by decide +kernel) (by decide +kernel)

theorem witness_TackExceptionEntry_operands : let x := ((tackDev [(30, 0x30000)]).tile 0).rep 0
    x.storeBuf = [] ∧ x.core.depth < 4 ∧ (x.get 30).toNat = 0x30000 ∧ tackDecode 0 0 0x0C = none ∧ 8 < (9 : Fin 32).val := by
  decide +kernel

/-- A load that is not permitted and one that is misaligned; the same for a store. -/
theorem witness_TackAccess : ∃ c, TackReady (at_ (tackDev [(1, 0x20001), (2, 0xF0000)])) 0 0 c ∧
    decide (c.part.mayLoad c.task.priv 0xF0000 4 = false ∧ c.part.mayStore c.task.priv 0xF0000 4 = false ∧
      c.part.mayLoad c.task.priv 0x20001 2 = true ∧ c.part.mayStore c.task.priv 0x20001 2 = true ∧ 0x20001 % 2 ≠ 0) = true :=
  ready_of _ _ (by decide +kernel) (by decide +kernel)

/-- RFE at depth 0, with a misaligned frame, with a frame outside the data area, and with a good one at its lowest place. -/
theorem witness_TackRfe : (∃ c, TackReady (at_ (tackDev [(30, 0x20000)] 1)) 0 0 c ∧ decide (0x20000 + 128 ≤ c.part.dataTop) = true) ∧
    ((tackDev []).tile 0).repA.core.depth = 0 ∧ (((tackDev [(30, 0x20008)] 1).tile 0).repA.get 30).toNat % 16 ≠ 0 ∧
    ¬(0x20000 ≤ (((tackDev [(30, 0x1FF80)] 1).tile 0).repA.get 30).toNat) :=
  ⟨ready_of _ _ (by decide +kernel) (by decide +kernel), by decide +kernel, by decide +kernel, by decide +kernel⟩

/-- An ADD on replica A writes its register, and goes on. -/
theorem test_add_wraps : let d := after (.add 0 0 4 1 2) (tackDev [(1, 0xFFFFFFFFFFFFFFFF), (2, 2)])
    ((d.tile 0).rep 0).get 4 = 1 ∧ ((d.tile 0).rep 0).core.pc = 0x44 ∧ ((d.tile 0).rep 1).core.pc = 0 := by decide +kernel

/-! ### Words, heartbeats and frames as bytes -/

/-- The worked MUL of R233, and a step at the ends of its operands. -/
theorem witness_LoopWords : loopEncode (.loopMul 0 0 41 40 12) = some 0x1CA4A00C ∧
    loopDecode 3 1 0x1CA4A00C = some (.loopMul 3 1 41 40 12) := by decide

/-- R321 at the limits of the fields of a heartbeat, the TYPE in its first byte, and the number in bytes 14 and 15. -/
theorem witness_Heartbeats :
    let b : Beat := { role := 255, side := 1, pair := 7, flags := 255, fwMajor := 255, fwMinor := 255, safeSet := 255, elig := 65535
                      seq := 0xABCD, epoch := 0xFFFFFFFF }
    b.role < 256 ∧ b.side < 2 ∧ b.pair < 8 ∧ b.flags < 256 ∧ b.fwMajor < 256 ∧ b.fwMinor < 256 ∧ b.safeSet < 256 ∧
      b.elig < 65536 ∧ b.seq < 65536 ∧ (beatBytes b)[0]? = some 0x48 ∧ (beatBytes b)[14]? = some 0xCD ∧
      (beatBytes b)[15]? = some 0xAB := by decide

theorem witness_HeartbeatsNotValid : (List.replicate 47 (0x48 : Byte)).length ≠ 48 ∧
    (List.replicate 48 (0x49 : Byte)).length = 48 ∧ (List.replicate 48 (0x49 : Byte))[0]? ≠ some 0x48 := by decide

/-- A frame with a payload of one byte begins as R344 says; a short string of bytes is no frame. -/
theorem witness_RingFrames : (ringFrameBytes { source := 1, station := 2, payload := [7] }).take 2 = [0x88, 0xB5] ∧
    ([0x88, 0xB5] : List Byte).length < 10 ∧ (List.replicate 64 (0 : Byte)).take 2 ≠ [0x88, 0xB5] := by decide

/-! ### The loop engine (chapter 09) -/

/-- A FRAME slot and a TIMER slot of tile 0, at two steps and more. -/
def slot0 : SlotImg :=
  { num := 0, tile := 0, length := 200, glink := some 0, coefs := [(0, 1468006, 22), (1, 0x10000, 16), (4, 3, 0)], torqueNode := 16 }
def slot1 : SlotImg := { num := 1, tile := 0, trigger := 2, period := 20000, phase := 0, length := 3 }
def group0 : AxisGroupImg :=
  { num := 0, tile := 0, axes := [{ num := 5, vMax := 500000, aMax := 2000000, dMax := 2000000, jMax := 100000000, posLo := -10, posHi := 1000 }] }
def sampleX : LoopSample := { number := 7, at_ := 100, deadline := 20100 }

/-- Replica A of tile 0 at step 0 of the running sample of slot 0. -/
def loopDev (nodes : List (Nat × Word)) (acc : List (Nat × DWord) := []) (x : LoopSlot := {}) : Dev :=
  put { up .active with
    hrn := { Dev.reset.hrn with image := some { slots := [slot0, slot1], axes := [group0] } }
    loop := { slots := [(0, { x with running := some sampleX, coefs := slot0.coefs,
                                     repA := { nodes := nodes, acc := acc, running := true, mode := 2 } })] } }
    [(R.TILE_STATUS_REP_IN 0, 7), (R.LOOP_STATUS_STATE 0, 2)]

/-- The steps that store an accumulator or a node, SINCOS and the others: a replica about to execute a step, with a node
of 0 and one of another value. -/
theorem witness_StepReady : StepReady (at_ (loopDev [(40, 0x80000000)])) 0 0 slot0 ∧
    ((loopDev [(40, 0x80000000)]).slot 0).repA.node 40 ≠ 0 ∧ ((loopDev [(40, 0x80000000)]).slot 0).repA.node 41 = 0 := by
  unfold StepReady; decide +kernel

/-- LOCK, OUT and END: no replica has declared anything in the running sample, in RUN, with its limit not reached. -/
theorem witness_LoopStepsThatStoreNoValue : let d := loopDev []
    StepReady (at_ d) 0 0 slot0 ∧ (d.slot 0).running = some sampleX ∧
    (∀ q : Fin 3, ((d.slot 0).rep q).fault = none ∧ ((d.slot 0).rep q).lost = false ∧ ((d.slot 0).rep q).back = false) ∧
    (d.slot 0).repA.locked = false ∧ (d.slot 0).repA.mode = 2 ∧ ((0 : Nat) : Int) < slot0.coef 4 := by unfold StepReady; decide +kernel

theorem test_loop_locked_twice : (((after (.loopLock 0 0 40 41 0) (loopDev [])).slot 0).rep 0).locked = true := by decide +kernel

/-- The worked MUL of chapter 09: 24,000 × 1,468,006 with a shift of 22 is 8,400. -/
theorem test_loop_mul : (((after (.loopMul 0 0 74 64 0) (loopDev [(64, 24000)])).slot 0).rep 0).node 74 = 8400 := by
  decide +kernel

/-- An accumulator saturates at 2^63 − 1, and says so. -/
theorem test_loop_adda_saturates : let d := after (.loopAdda 0 0 1 40 31) (loopDev [(40, 0x7FFFFFFF)] [(1, 0x7FFFFFFFFFFFFFFF)])
    ((d.slot 0).rep 0).accum 1 = 2 ^ 63 - 1 ∧ d.rd (R.LOOP_STATUS_SAT_ACC 0) = 1 := by decide +kernel

/-- A limit whose upper node is below its lower one gives the lower one (R233). -/
theorem test_loop_lim : let d := after (.loopLim 0 0 50 40 41) (loopDev [(40, 5), (41, 10), (42, 3)])
    ((d.slot 0).rep 0).node 50 = 10 ∧ d.rd (R.LOOP_STATUS_LIM 0) = 1 := by decide +kernel

/-- A return frame with GU_BLOCKED, and its CRC-32 (R244). -/
def frame24 (ok : Bool) : List Byte :=
  let b : List Byte := [0x10, 1, 0, 0] ++ leBytes 4 77 ++ List.replicate 12 0
  b ++ leBytes 4 (if ok then crc32 b else 0)

theorem witness_LoopFrames : returnValid (frame24 true) true = true ∧ returnValid (frame24 false) true = false ∧
    (up .active).alive = true ∧ (up .active).frameLate 0 77 = false := by decide +kernel

/-- A TIMER slot that waits for its first sample, and a running sample whose deadline has not passed, with one late sample
before it. -/
theorem witness_LoopTriggers : let d := put (loopDev []) [(R.LOOP_STATUS_STATE 1, 1)]
    d.slotImg 1 = some slot1 ∧ slot1.trigger = 2 ∧ 0 < slot1.period ∧ slot1.phase ≤ d.timeT.toNat ∧ d.role.runs = true ∧
    d.slotState 1 ≠ 0 ∧ (d.slot 1).waiting = [] ∧ (d.slot 1).running = none ∧ (d.slot 1).last = none := by decide +kernel

theorem witness_LoopDeadlines : let d : Dev := { put (up .active) [(R.LOOP_STATUS_STATE 1, 2), (R.LOOP_STATUS_OVR_RUN 1, 1)] with
      hrn := { Dev.reset.hrn with image := some { slots := [slot1] } }, loop := { slots := [(1, { running := some sampleX })] } }
    d.slotImg 1 = some slot1 ∧ (d.slot 1).running = some sampleX ∧ sampleX.late = false ∧
    d.rd (R.LOOP_STATUS_OVR_RUN 1) < 2 ∧ slot1.glink = none := by decide +kernel

/-- The same of a slot with a gate link, whose last frame goes out again. -/
theorem witness_LoopDeadlines_link : (loopDev []).slotImg 0 = some slot0 ∧ ((loopDev []).slot 0).running = some sampleX ∧
    slot0.glink = some 0 ∧ (loopDev []).role.runs = true ∧ (loopDev []).committed = false ∧
    (loopDev []).rd (R.LOOP_STATUS_OVR_RUN 0) < 2 := by decide +kernel

/-- A waiting sample of a slot in RUN on a tile where nothing runs. -/
def startDev : Dev :=
  { put (up .active) [(R.TILE_STATUS_REP_IN 0, 7), (R.LOOP_STATUS_STATE 0, 2)] with
    hrn := { Dev.reset.hrn with image := some { slots := [slot0, slot1] } }, loop := { slots := [(0, { waiting := [sampleX] })] } }

theorem witness_LoopSampleStarts : startDev.alive = true ∧ startDev.role.runs = true ∧ (startDev.runningSlot 0).isNone = true ∧
    (startDev.tile 0).settled = true ∧ startDev.nextSample 0 = some (slot0, sampleX) ∧ startDev.slotState 0 = 2 ∧
    (startDev.slot 0).resetArmed = false ∧ (startDev.slot 0).coasting = 0 ∧
    (startDev.slot 0).resetFrom = none ∧ startDev.awlInjects 0 sampleX.number = false ∧
    startDev.role ≠ .standby := by decide +kernel

theorem test_loop_sample_starts : ((after (.loopSampleStart 0 none) startDev).slot 0).running = some sampleX ∧
    (((after (.loopSampleStart 0 none) startDev).slot 0).rep 1).node 15 = 2 := by decide +kernel

/-- CATCH, HOLD and a slot that the image defines. -/
theorem witness_LoopTimeoutsAndFaultReset : (put (up .active) [(R.LOOP_STATUS_STATE 47, 4)]).slotState 47 = 4 ∧
    (put (up .active) [(R.LOOP_STATUS_STATE 47, 3)]).slotState 47 = 3 ∧ (startDev.slotImg 1).isSome = true := by decide +kernel

theorem test_catch_timeout : (after (.catchTimeout 47) (put (up .active) [(R.LOOP_STATUS_STATE 47, 4)])).rd (R.LOOP_STATUS_STATE 47) = 6 := by
  decide +kernel

/-- Each clause of the statement about the awl. -/
theorem witness_AwlCommands : (up .active).awlRefused = true ∧
    (let d := put startDev [(R.AWL_CTRL_TRIGGER, 1)]
     d.awlRefused = false ∧ d.rd R.AWL_CTRL_TRIGGER = 1 ∧ d.slotImg (d.rd R.AWL_CTRL_SLOT) = some slot0 ∧ d.twinPair = false) ∧
    (put startDev [(R.AWL_STATUS_STATE, 2)]).rd R.AWL_STATUS_STATE = 2 ∧ (up .standby).role = .standby ∧
    (let d : Dev := { put startDev [(R.AWL_INJ_LENGTH_K, 1)] with loop := { awl := { injected := 1024 } } }
     d.awlLength = some 1024 ∧ 1024 ≤ d.loop.awl.injected) ∧
    (ready (owned startDev) = true ∧ 0 + 0 ≤ (owned startDev).loop.awl.buffer.length) := by decide +kernel

/-- A group at rest that accepts a move of 999 µm absolute and of 1000 µm relative, and one that refuses 1001 µm. -/
theorem witness_AxisCommands_moves : let d := loopDev []
    d.groupImg 0 = some group0 ∧ (d.group 0).state = 0 ∧ group0.axes.map (·.num) = [5] ∧ (group0.axes.map (·.num)).Nodup ∧
    (∀ p ∈ [((5 : Nat), (1000 : Int))], ∀ a ∈ group0.axes, a.num = p.1 → a.posLo ≤ p.2 ∧ p.2 ≤ a.posHi) ∧
    (∀ p ∈ [((5 : Nat), (1000 : Int))], ∀ a ∈ group0.axes, a.num = p.1 →
      a.posLo * 2 ^ 32 ≤ (d.group 0).position p.1 + p.2 * 2 ^ 32 ∧ (d.group 0).position p.1 + p.2 * 2 ^ 32 ≤ a.posHi * 2 ^ 32) ∧
    (d.group 0).move = .none ∧ (d.group 0).armed = [] ∧ d.role.runs = true ∧ (∀ a ∈ group0.axes, a.status = .none) := by
  decide +kernel

/-- A group that moves, one that holds with a move kept, one that holds with none, and one with a fault. -/
theorem witness_AxisCommands_states : let d (x : AxisGroup) : Dev := { loopDev [] with loop := { groups := [(0, x)] } }
    (d { state := 1 }).groupImg 0 = some group0 ∧ ((d { state := 1 }).group 0).state = 1 ∧
    (((d { state := 3, held := some [(5, 7)] }).group 0).state = 3 ∧ ((d { state := 3, held := some [(5, 7)] }).group 0).held = some [(5, 7)]) ∧
    (((d { state := 3 }).group 0).state = 3 ∧ ((d { state := 3 }).group 0).move = .none) ∧
    ((d { state := 4 }).group 0).state = 4 ∧ ((d {}).group 0).state = 0 ∧
    ((d { state := 3, move := .stop [] 1 2 3 }).group 0).move ≠ .none := by decide +kernel

/-- A target beyond the limits, absolute and relative, for a group that takes commands. -/
theorem witness_AxisMoves_refused :
    (∃ p ∈ [((5 : Nat), (1001 : Int))], ∀ a ∈ group0.axes, a.num = p.1 → p.2 < a.posLo ∨ a.posHi < p.2) ∧
    (∃ p ∈ [((5 : Nat), (-11 : Int))], ∀ a ∈ group0.axes, a.num = p.1 →
      ((loopDev []).group 0).position p.1 + p.2 * 2 ^ 32 < a.posLo * 2 ^ 32 ∨
      a.posHi * 2 ^ 32 < ((loopDev []).group 0).position p.1 + p.2 * 2 ^ 32) := by decide +kernel

/-- A ramp of three periods in its second and in its last period (R255). -/
theorem witness_AxisPeriods : let x (k : Nat) : AxisGroup := { state := 2, move := .stop [] 1 1 1, period := k }
    let d : Dev := { loopDev [] with loop := { groups := [(0, x 1)] } }
    d.groupImg 0 = some group0 ∧ d.role.runs = true ∧ (d.group 0).armed = [] ∧ (d.group 0).move ≠ .none ∧
    (x 1).period + 1 < (x 1).move.length ∧ (x 2).move.length ≤ (x 2).period + 1 := by decide +kernel

/-- A ramp that ends leaves the group at rest (R256). -/
theorem test_axis_ramp_ends :
    let d : Dev := { loopDev [] with loop := { groups := [(0, { state := 2, move := .stop [] 1 1 1, period := 2 })] } }
    ((after (.axisPeriod 0) d).group 0).state = 0 ∧ ((after (.axisPeriod 0) d).group 0).move = .none := by decide +kernel

/-- Profiles with and without a period of constant acceleration. -/
theorem witness_AxisProfiles : 0 < segTotal [1, 0, 0, 0, 0, 0, 1] ∧ segTotal [4, 2, 5, 9, 4, 3, 4] ≤ 40 := by decide +kernel

theorem test_axis_move_refused : let d := after (.moveAbs 0 [(5, 1001)] 100) (loopDev [])
    (d.group 0).refused = true ∧ (d.group 0).state = 0 := by decide +kernel

/-! ### The bridle and the safety functions (chapters 10 and 11) -/

/-- Equation 63: FT input 0 with no delay and trip output 0, latched; comparator 0. -/
def eq63 : Equation :=
  { terms := [{ src := 64, en := true }, {}, {}, {}], mask := 1, latch := true, resetSrc := 65, resetEn := true }
def comp0 : Comparator := { hi := 1000, lo := 100, hyst := 16, hiEn := true, loEn := true }
def protect0 : ProtectImg := { comps := [(0, comp0)], eqs := [(63, eq63)], tb := true }

/-- A module whose bridle runs on those parameters. -/
def bridleDev (b : BridleSt → BridleSt) (r : Role := .active) : Dev :=
  { up r with bridle := b { Dev.reset.bridle with params := some protect0, running := true, checked := true, presence := true } }

/-- Each band of a comparator, at the first value outside it. -/
theorem witness_BridleInputsChangeTheirOwnBits :
    (((bridleDev id).bridle.params.getD {}).comps.find? (fun p => p.1 = (0 : Fin 32).val)) = some (0, comp0) ∧
    comp0.hiEn = true ∧ comp0.loEn = true ∧ codeVolts comp0.hi + 320000 < codeVolts comp0.hi + 320001 ∧
    codeVolts comp0.hi - comp0.hyst * 78125 - 320001 < codeVolts comp0.hi - comp0.hyst * 78125 - 320000 ∧
    codeVolts comp0.lo - 320001 < codeVolts comp0.lo - 320000 ∧ (3 : Fin 6).val < 4 ∧ (4 : Fin 6).val = 4 ∧ (5 : Fin 6).val = 5 := by
  decide +kernel

/-- The parameters satisfy what the statements about equations and delays ask of them, with FT0 asserted and not. -/
theorem witness_BridleEvaluatesItsEquations : let d := bridleDev (fun b => { b with ft := 1 })
    d.lit = true ∧ d.bridle.params = some protect0 ∧ d.bridle.evaluates = true ∧ (protect0.eqs.map (·.1)).Nodup ∧
    (∀ q ∈ protect0.eqs, q.1 < 64 ∧ q.2.terms.length = 4) ∧ (63, eq63) ∈ protect0.eqs ∧ d.bridle.startCause = 0 ∧
    oget protect0.eqs 63 = some eq63 ∧ eq63.terms[0]? = some { src := 64, en := true } ∧ d.bridle.source 64 = true ∧
    (bridleDev id).bridle.source 64 = false := by decide +kernel

theorem test_bridle_trips : (after .bridleEvaluate (bridleDev (fun b => { b with ft := 1 }))).bridle.true_ = 2 ^ 63 ∧
    testBit (after .bridleEvaluate (bridleDev (fun b => { b with ft := 1 }))).bridle.outputs 0 = true ∧
    (after .bridleEvaluate (bridleDev id)).bridle.true_ = 0 := by decide +kernel

theorem witness_BridleTimedInputs : (bridleDev id).bridle.checked = true ∧ (bridleDev id).role.runs = true ∧
    (bridleDev id).bridle.running = true ∧ (bridleDev id).safety.degraded = false ∧
    (bridleDev (fun b => { b with outputs := 0 })).bridle.true_ = 0 ∧
    (bridleDev (fun b => { b with outputs := 0 })).bridle.outputs % 2 ^ 16 = 0 := by decide +kernel

/-- Left and right on the trip bus, an own answer read back right and wrong, a partner's answer of odd parity, none, and the
two findings at their 16th. -/
theorem witness_TripBusPollsAndAnswers :
    let l : Dev := { put (bridleDev id) [(R.SADDLE_SIDE, 0)] with conn := { Dev.reset.conn with identified := true } }
    let r : Dev := { put (bridleDev (fun b => { b with missRun := 15, missPresent := 16, selfRun := 16, bothPoll := true })) [(R.SADDLE_SIDE, 1)] with
      conn := { Dev.reset.conn with identified := true } }
    l.tbTakesPart = true ∧ l.identity = some false ∧ (BitVec.ofNat 6 l.tbAnswer).toNat = l.tbAnswer ∧
    (0 : BitVec 6).toNat ≠ l.tbAnswer ∧ ((1 : BitVec 6).getLsbD 0 = true ∧ (bitsOf 6 (1 : BitVec 6).toNat).length % 2 = 1) ∧
    l.bridle.bothPoll = false ∧ r.tbTakesPart = true ∧ r.bridle.bothPoll = true ∧ r.bridle.missRun = 15 ∧ r.identity = some true ∧
    r.bridle.presA = false ∧ 16 ≤ r.bridle.missPresent ∧ r.bridle.silentTold = false ∧ 16 ≤ r.bridle.selfRun ∧
    ({ r with bridle := { r.bridle with presA := true } } : Dev).partnerPresent = true := by decide +kernel

/-- A bridle that runs with no fault, one with a fault, and one before its start checks. -/
theorem witness_BridleDiagnosticsAndFaults : (bridleDev id).alive = true ∧ (bridleDev id).mgmt.staged = [] ∧
    (bridleDev id).role ≠ .safetyMaint ∧ (bridleDev id).committed = false ∧ (bridleDev id).bridle.running = true ∧ (bridleDev id).bridle.protect = none ∧
    (∀ q ∈ [((0 : Nat), (-25 : Int))], q.2.natAbs ≤ 25) ∧ (bridleDev id).bridle.fault = 0 ∧ (8 : Fin 9).val ≠ 0 ∧
    (bridleDev (fun b => { b with fault := 1 })).bridle.fault ≠ 0 ∧ (up .starting).bridle.checked = false := by decide +kernel

/-- A latched equation that may be reset: its AND is false. -/
theorem witness_TripResetFollowsItsRows : let d := owned (bridleDev (fun b => { b with true_ := 2 ^ 63 }))
    ready d = true ∧ d.bridleCycle.tripResetStatus [63, 0, 0, 0] = .ok ∧ [63, 0, 0, (0 : Byte), 0].length ≠ 4 := by decide +kernel

/-- A set with a demanding function 23 whose test pulses come from TP3, and encoder 3 in its stop. -/
def set0 : SafeSet :=
  { fns := [(23, { type := 1, tpA := 4, discT := 1, encMask := 8 })], encs := [(3, {})], degrHours := 8 }

def safetyDev (f : SafetySt → SafetySt) (b : BridleSt → BridleSt := id) : Dev :=
  put { bridleDev b with safety := f { Dev.reset.safety with params := some set0 } } [(R.POWER_FLD_GOOD, 1)]

theorem witness_SafetyInputsAreTaken :
    let d := safetyDev (fun x => { x with fns := [(23, { stop := some { at_ := 0 } })], enc := [(3, { still := 10 })] })
    d.lit = true ∧ d.bridle.running = true ∧ demands (d.safety.img 23).type = true ∧ d.safety.monitored 3 = true ∧
    (d.safety.encImg 3).stillT ≤ (d.safety.encoder 3).still ∧ d.power.pinRole ≠ .starting := by decide +kernel

/-- Each fault of a function, at the first count or time that latches it. -/
theorem witness_SafetyFaultsLatch :
    let a := safetyDev (fun x => { x with fns := [(23, { count1 := 10 })], pulse := [(46, 1)] })
    let b := safetyDev id (fun b => { b with permit := 0x80800000 })
    let run : StopRun := { at_ := 0xFFFFFFFFFA0A1F00 }
    let c := safetyDev (fun x => { x with fns := [(23, { stop := some run })] })
    (demands (a.safety.img 23).type = true ∧ (a.safety.fn 23).fault = 0 ∧
      (a.safety.img 23).discT * 10 ≤ (a.safety.fn 23).count1) ∧
    (a.on R.POWER_FLD_GOOD = true ∧ a.safety.fedFrom 4 = [(23, 46)] ∧ (2 ^ 46 : BitVec 48).getLsbD 46 = true ∧
      1 ≤ sget (fun _ => 0) a.safety.pulse 46) ∧
    (b.role.commanding = true ∧ testBit b.bridle.permit.toNat 31 = true ∧ b.safety.degraded = false ∧
      testBit b.bridle.permit.toNat 23 ≠ (b.safety.fn 23).run ∧ demands (b.safety.img 23).type = true) ∧
    ((c.safety.fn 23).stop = some run ∧ (c.safety.fn 23).run = false ∧ (c.safety.img 23).tMax * 10000000 ≤ c.since run.at_ ∧
      (c.safety.fn 23).fault = 0) := by decide +kernel

theorem witness_SafetyOutputLockouts : let d := safetyDev (fun x => { x with pairs := [(7, { on := true, expecting := true })] })
    d.lit = true ∧ d.bridle.running = true ∧ (d.safety.pair 7).lock = 0 ∧ (d.safety.pair 7).expecting = true ∧
    d.on R.POWER_FLD_GOOD = true ∧ d.on R.POWER_FLD_LOW = false ∧ (d.safety.pair 7).on = true := by decide +kernel

/-- Degraded mode: no permit words; 600 s left; none left; and a channel that is back. -/
theorem witness_DegradedModeRunsItsCourse :
    let start := safetyDev id
    let h := (8 * 3600 * 1000000000 : Nat)
    let a := safetyDev (fun x => { x with degraded := true, degradedAt := BitVec.ofNat 64 (2 ^ 64 - h + 600 * 1000000000) })
    let b := safetyDev (fun x => { x with degraded := true, degradedAt := BitVec.ofNat 64 (2 ^ 64 - h) })
    let c := safetyDev (fun x => { x with degraded := true }) (fun b => { b with permit := 0x80000000 })
    (start.bridle.running = true ∧ start.role.commanding = true ∧ start.safety.defines = true ∧
      testBit start.bridle.permit.toNat 31 = false ∧ start.safety.degraded = false) ∧
    (a.safety.degraded = true ∧ a.safety.params.isSome = true ∧ a.safety.warned = false ∧ a.degradedLeft = 600) ∧
    (b.degradedLeft = 0 ∧ b.safety.lapsed = false) ∧ (c.permitAgrees = true ∧ c.bridle.procLost = false) := by decide +kernel

/-! ### Access to registers (chapter 20) -/

/-- Plain writes of a register that waits for the boundary and of one of a block whose writes act at once; registers with
nothing to write, locked while the module runs, and none at all: in a span and outside every span. -/
theorem witness_RegisterWritesFollowR483 : let plain (o : Nat) (v : Word) : Bool := ((regAt o).map (fun row => (isCanTx o == false && !(decide (o ∈ [0x400014, 0x400004, 0x400058, 0x320008, 0xA0, 0xB0])) && actions row.fields v == []))).getD false
    let d := up .active
    d.lit = true ∧ plain 0x10028 0x640 = true ∧ d.writeResult 0x10028 0x640 = .applied ∧ atOnce 0x10028 = false ∧ d.role ≠ .stopped ∧ d.role ≠ .safetyMaint ∧
    (up .stopped).role = .stopped ∧ plain 0x32000C 0xFFF = true ∧ d.writeResult 0x32000C 0xFFF = .applied ∧ atOnce 0x32000C = true ∧
    d.writeResult 0x500028 5 = .locked ∧ (regAt 0x500028).map (fun row => hasAcc row.fields [.rw, .w1c, .w1s, .wo]) = some false ∧
    d.writeResult 0x500004 6 = .locked ∧ (regAt 0x500004).map (fun row => hasAcc row.fields [.rw, .w1c, .w1s, .wo]) = some true ∧
    atOnce 0x500004 = false ∧
    d.writeResult 0x84 0 = .readOnly ∧ (regAt 0x84).isSome = true ∧ regAt 0xFFFC = none ∧ (spanOf 0xFFFC).isSome = true ∧
    regAt 0xFFFFFC = none ∧ spanOf 0xFFFFFC = none := by decide +kernel

/-- READ_REG and WRITE_REG: a live register, a hole, odd offsets, and offsets outside every span. -/
theorem witness_ReadRegAndWriteReg : ready (owned (up .active)) = true ∧ ready (owned (up .stopped)) = true ∧
    ((regAt 0x10028).isSome = true ∧ 0x10028 % 4 = 0 ∧ isLatched 0x10028 = false ∧ latchSet 0x10028 = [] ∧ rxqAt 0x10028 = none ∧
      (0x10028 < 0x400014)) ∧ (regAt 0xFFFC = none ∧ (spanOf 0xFFFC).isSome = true) ∧ (3 : Nat) % 4 ≠ 0 ∧
    (up .stopped).writeResult 0x10028 0x640 = .applied ∧ (spanOf 0xFFFFFC = none ∧ 0xFFFFFC % 4 = 0) := by decide +kernel

theorem test_read_reg : ((after (.readReg req 0x10028 1) (put (owned (up .active)) [(R.FAB_THRESH_MARGIN_PS 0, 0x5DC)])).mgmt.response.map
    (·.body)) = some [0xDC, 5, 0, 0] := by decide +kernel

/-- Nothing selected, replica B of tile 143 selected with its last counter, and a code that names no replica. -/
theorem witness_PerformanceCounters : (put (up .active) [(R.PERF_SEL_REPLICA, 3)]).perfSelected = none ∧
    (put (up .active) [(R.PERF_SEL_TILE, 143), (R.PERF_SEL_REPLICA, 2), (R.PERF_SEL_COUNTER, 4)]).perfSelected = some (143, 1, 4) ∧
    (let v : Word := 0x4028F
     replicaOf (v.toNat / 2 ^ 8 % 8) = some 1 ∧ (143 : Nat) = v.toNat % 2 ^ 8 ∧ 4 = v.toNat / 2 ^ 16 % 16) ∧
    replicaOf ((0x300 : Word).toNat / 2 ^ 8 % 8) = none ∧ (up .active).alive = true := by decide +kernel

/-! ### Power, start and reset (chapters 01 to 03) -/

/-- A module in a role whose power fields are set. -/
def powerDev (r : Role) (f : PowerSt → PowerSt) (fs : List (Fld × Nat) := []) : Dev := put { up r with power := f (up r).power } fs

/-- Every clause of the statement about reset: powered and lit, a sensor at 115.0 °C, the journal being written for either
reason, both feeds lost, seated and not powered with a copy that the boot ROM accepts and with none, and in reset. -/
theorem witness_ResetAndPowerUp :
    let none_ : Dev := { Dev.reset with trust := { Dev.reset.trust with fwMin := 0xFFFF, fw := [] } }
    let held : Dev := powerDev .stopped (fun p => { p with inReset := true, temps := [(9, 1149)], fldLost := true })
    let fld : Dev := { put Dev.reset [(R.SADDLE_SEATED, 1)] with power := { Dev.reset.power with fldLost := true } }
    ((up .active).power.powered = true ∧ (up .active).lit = true) ∧
    (∃ x ∈ (powerDev .active (fun p => { p with temps := [(9, 1150)] })).power.temps, 1150 ≤ x.2) ∧
    (powerDev .active (fun p => { p with pf := .journalling })).power.pfRestart = false ∧
    (powerDev .active (fun p => { p with pf := .journalling, pfRestart := true })).power.pf = .journalling ∧
    ((powerDev .active (fun p => { p with lostA := true, lostB := true })).power.lostA = true ∧
      (powerDev .active (fun p => { p with lostA := true, lostB := true })).power.lostB = true) ∧
    (fld.canPower = true ∧ fld.power.fldLost = true ∧ fld.on R.POWER_FLD_TRIPPED = false) ∧
    ((put Dev.reset [(R.SADDLE_SEATED, 1)]).canPower = true ∧ Dev.reset.bootCopy = some 0) ∧
    ((put none_ [(R.SADDLE_SEATED, 1)]).canPower = true ∧ none_.bootCopy = none ∧ none_.power.start.firmware = false) ∧
    (held.power.powered = true ∧ held.power.inReset = true ∧ (∀ x ∈ held.power.temps, x.2 < 1150) ∧ held.bootCopy = some 0) := by
  decide +kernel

theorem test_reset_keeps_the_cause : (after (.moduleReset .restart) (up .active)).rd R.RESET_CAUSE_CAUSE = 3 ∧
    (after (.moduleReset .restart) (up .active)).power.inReset = true := by decide +kernel

/-- Every clause of the statement about the feeds. -/
theorem witness_FeedsAndPowerFail :
    let good (p : PowerSt) : PowerSt := { p with lostA := false, lostB := false }
    let lost := powerDev .active (fun p => { p with lostB := true })
    let c (pf : PfStep) : Dev := powerDev .active (fun p => { p with pf := pf })
    let copied : Dev := { c .committed with cycle := { Dev.reset.cycle with copy := some (5, []) } }
    let saving : Dev := { c .saving with cycle := { Dev.reset.cycle with saving := some 1, slots := [(1, { save := 0, cycle := 5, digest := 0, length := 0, crc := 0, data := [] })] } }
    ((powerDev .active good).lit = true ∧ (powerDev .active good).power.lostB = false ∧
      (powerDev .active good [(feedGoodFld 1, 1)]).on (feedGoodFld (1 - (0 : Fin 2).val)) = true ∧
      (powerDev .active good).on (feedGoodFld (1 - (0 : Fin 2).val)) = false) ∧
    (lost.power.lostB = true ∧ (put lost [(R.POWER_HOLDUP_READY, 1)]).on R.POWER_HOLDUP_READY = true ∧
      lost.power.pf = .idle ∧ lost.on R.POWER_HOLDUP_READY = false) ∧
    Dev.reset.lit = false ∧ ((c .rideThrough).power.pf = .rideThrough ∧ (c .rideThrough).on R.EVREC_STATUS_FROZEN = false) ∧
    (copied.power.pf = .committed ∧ copied.cycle.began = false ∧ copied.cycle.copy = some (5, []) ∧ copied.poolEmpty = false) ∧
    ((c .committed).cycle.began = false ∧ (c .committed).cycle.copy = none) ∧
    (saving.lit = true ∧ saving.power.pf = .saving ∧ saving.cycle.saving = some 1 ∧ (oget saving.cycle.slots 1).isSome = true) ∧
    ((up .active).alive = true ∧ (up .active).role ≠ .starting ∧ 85 ≤ (85 : Byte).toNat ∧ (84 : Byte).toNat < 85) := by decide +kernel

theorem test_feed_lost : let d := after (.feedLost 0) (powerDev .active (fun p => { p with lostB := true }) [(R.POWER_HOLDUP_READY, 1)])
    d.rd R.POWER_RIDE_THROUGH = 1 ∧ d.power.pf = .rideThrough ∧ d.role = .active := by decide +kernel

/-- Every clause of the statement about the field supply and the temperatures; 105.0 °C is not above 105 °C. -/
theorem witness_FieldSupplyAndTemperature :
    let drives := powerDev .active id [(R.POWER_FLD_GOOD, 1), (R.DIO_STATUS_GROUPS, 14)]
    let hot := powerDev .active (fun p => { p with hot := [(10, 0xFFFFFFFFC4653600)] })
    (up .active).on R.POWER_FLD_TRIPPED = false ∧ (up .active).power.fldLost = false ∧
    (powerDev .active (fun p => { p with fldLost := true })).power.fldLost = true ∧
    (powerDev .active id [(R.POWER_FLD_TRIPPED, 1)]).on R.POWER_FLD_TRIPPED = true ∧ drives.on R.POWER_FLD_GOOD = true ∧ drives.lit = true ∧
    drives.role.commanding = true ∧ drives.fldDrives = true ∧ drives.rd R.DIO_STATUS_GROUPS < 15 ∧ (1050 : Int) ≤ 1050 ∧
    (hot.mgmt.staged = [] ∧ hot.role ≠ .stopped ∧ hot.committed = false ∧
      ((10 : Nat), (0xFFFFFFFFC4653600 : DWord)) ∈ hot.power.hot ∧ 1000000000 ≤ hot.since 0xFFFFFFFFC4653600 ∧
      oget hot.power.hot (10 : Fin 11).val = some 0xFFFFFFFFC4653600 ∧ oget (up .active).power.hot 10 = none) ∧
    (let again := { hot with role := .stopped }
     again.lit = true ∧ again.role = .stopped ∧ (10 : Nat) ∉ again.power.stopTold ∧ (1051 : Int) > 1050) ∧
    (let short := powerDev .active (fun p => { p with hot := [(10, 0xFFFFFFFFC4653601)] })
     ∀ k ∈ short.power.hot, short.since k.2 < 1000000000) := by decide +kernel

/-- A second excursion is recorded although the first still shows (R63). -/
theorem test_thermal_stop_again :
    let hot := powerDev .stopped (fun p => { p with hot := [(10, 0xFFFFFFFFC4653600)] }) [(R.POWER_THERMAL_STOP, 1)]
    (after .thermalStop hot).evrec.presented.map (·.code) = [.thermalStop] := by decide +kernel

/-- Position code 0x0B: pair 3, side A; K1.5 agrees or not; unequal samples; a latched code whose pins depart; and the
commands of SAFETY_MAINT with K1.1 on and off. -/
theorem witness_IdentityAndKeeper :
    let at0 := up .starting
    let latched : Dev := { up .active with conn := { Dev.reset.conn with
      latched := some (3, false), pins := { value := 3, last := 7, prev := 7 } } }
    let tenth : Dev := { at0 with conn := { Dev.reset.conn with attempts := 9 } }
    let sec : StoredSection := { bytes := [1, 2] }
    let maint : Dev := { up .safetyMaint with bridle := { Dev.reset.bridle with writing := some (some sec, none) } }
    (at0.isStarting = true ∧ at0.power.start.position = false ∧ at0.conn.attempts < 9 ∧ (1 : BitVec 6) ≠ 2) ∧
    (tenth.isStarting = true ∧ tenth.power.start.position = false ∧ tenth.conn.attempts = 9 ∧ tenth.committed = false ∧
      tenth.mgmt.staged = []) ∧
    (∃ c : BitVec 6, codeValid (c.toNat % 32) = true ∧ testBit (c.toNat % 32) 3 = testBit c.toNat 5) ∧
    (∃ c : BitVec 6, codeValid (c.toNat % 32) = false) ∧ (∃ c : BitVec 6, testBit (c.toNat % 32) 3 ≠ testBit c.toNat 5) ∧
    (latched.lit = true ∧ latched.conn.latched = some (3, false) ∧ latched.conn.pins.value = 3 ∧
      (latched.conn.pins.sample 7 5).value ≠ 3 ∧ (latched.conn.pins.sample 3 5).value = 3) ∧
    (({ value := 1, last := 2, prev := 2 } : Debounce).value < 2 ^ 9) ∧
    ((up .active).conn.keeper.sample 0 9).value = 0 ∧ ((up .active).conn.keeper.sample 2 9).value = 0 ∧
    (ready (owned (up .stopped)) = true ∧ (owned (up .stopped)).mgmt.staged = [] ∧ (owned (up .stopped)).hrn.staged = none ∧
      testBit ((put (owned (up .stopped)) [(R.KEEPER_SW, 1)]).rd R.KEEPER_SW) 0 = true ∧
      testBit ((owned (up .stopped)).rd R.KEEPER_SW) 0 = false) ∧
    (maint.alive = true ∧ maint.role = .safetyMaint ∧ maint.bridle.writing = some (some sec, none) ∧
      (writeCrcs (some sec) none).length = 1 ∧ ([] : List Word) ≠ writeCrcs (some sec) none ∧ ready (owned maint) = true) := by decide +kernel

/-- What the start sequence stands at, step by step. That a slot is valid, for the first clause, rests on the formats of
image sections that the manual leaves to the image (`Config.sectionMalformed`); with no slot it is decided. -/
def startDevice (f : StartSt → StartSt) (fs : List (Fld × Nat) := []) : Dev :=
  powerDev .starting (fun p => { p with start := f { firmware := true, position := true, bridle := true } }) fs

/-- An image of a lone module with one loop slot. -/
def imLone : Image := { header := { pairMode := 1 }, slots := [slot0] }

theorem witness_StartSequence :
    let a := startDevice id
    let cold : Dev := { startDevice (fun s => { s with image := true, clusters := 8 }) with
      power := { (startDevice (fun s => { s with image := true, clusters := 8 })).power with temps := [(8, -201)] } }
    let warm := startDevice (fun s => { s with image := true, clusters := 8, coldWait := true }) [(R.FAB_STATUS_POWERED 0, 1)]
    let tested : Dev := { startDevice (fun s => { s with image := true, clusters := 9, selfTest := true }) with
      hrn := { Dev.reset.hrn with image := some imLone } }
    let heard (r : Option Role) := startDevice (fun s => { s with listening := true, heardRole := r }) [(R.POWER_HOLDUP_READY, 1), (R.SADDLE_SIDE, 1)]
    (a.isStarting = true ∧ a.power.start.image = false ∧ a.mgmt.staged = [] ∧ a.committed = false) ∧
    (a.reportMarks.each 4 (fun k d => d.checkAtStart k)).pickSlot.1 = none ∧
    (cold.isStarting = true ∧ cold.power.start.image = true ∧ cold.power.start.clusters = 8 ∧ cold.cold = true) ∧
    (warm.power.start.clusters = 8 ∧ warm.cold = false ∧ warm.on (R.FAB_STATUS_POWERED 0) = true ∧ warm.power.start.coldWait = true) ∧
    (tested.power.start.clusters = 9 ∧ tested.power.start.selfTest = true ∧ tested.power.start.loaded = false ∧
      tested.hrn.image = some imLone ∧ (∀ i ∈ imLone.slots, i.programOk = true) ∧ tested.hrn.staged = none ∧
      tested.placeTiles.role = .starting) ∧
    (({ } : TestFindings).wellFormed = true) ∧
    ((heard (some .active)).power.start.heardRole = some .active ∧ (heard none).on R.POWER_HOLDUP_READY = true ∧
      (heard none).power.start.heardOwn = false ∧ (heard none).on R.TWIN_STATUS_IDENT_CLASH = false ∧ (heard none).rd R.TWIN_ELIG_CAUSES / 64 % 2 = 0 ∧
      (heard (some .starting)).on R.SADDLE_SIDE = true) ∧
    (startDevice (fun s => { s with waitingA := true })).power.start.waitingA = true := by decide +kernel

theorem witness_StartAndRestartCommands :
    let d : Dev := { owned (up .stopped) with bridle := { Dev.reset.bridle with running := true }, hrn := { Dev.reset.hrn with image := some {} } }
    ready d = true ∧ d.mgmt.staged = [] ∧ d.hrn.staged = none ∧ d.on R.TWIN_STATUS_IDENT_CLASH = false ∧
    testBit d.twin.causes 6 = false ∧ d.bridle.running = true ∧ d.bridle.protect = none ∧ d.bridle.safety = none ∧
    d.hrn.image.isSome = true ∧ ({ d with hrn := Dev.reset.hrn } : Dev).hrn.image = none ∧
    ready (owned (up .active)) = true ∧ (owned (up .active)).committed = false ∧ (up .stopped).role.runs = false := by decide +kernel

/-! ### The self-timed fabric (chapter 04) -/

/-- The cluster-link bits and the detour of a link at tile (5, 5), a row below one die edge. -/
theorem test_links_and_detours : clusterOf 65 = 4 ∧ linkBit 65 0 = 10 ∧ detour 65 0 = [(53, 1), (53, 0), (54, 1)] := by decide

/-- Tile 65 powered, with what stands in certain outputs of the routers. -/
def fabDev (outs : List (Nat × FabOut)) (queues : List (Nat × FabQueue) := []) : Dev :=
  { put (up .active) [(R.TILE_STATUS_POWERED 65, 1)] with fab := { outs := outs, queues := queues } }

/-- A packet of one flit for the tile at the far corner, on CTRL and on BULK. -/
def hop0 (use : FabUse := .message) : FabHop := { flit := .header 143 false use 0, src := 65, last := true }

/-- A header at a router where nothing waits; CTRL and BULK that wait for the same output, and its replay buffer's room. -/
theorem witness_RoutersSwitchFlits :
    let d := fabDev []
    let e := fabDev [] [(65 * 64, { flits := [hop0] }), (65 * 64 + 5, { flits := [hop0 .loading] })]
    (d.lit = true ∧ d.on (R.TILE_STATUS_POWERED 65) = true ∧ d.fab.queues = [] ∧ (0 : Byte).toNat = d.expects 65 4 ∧
      (d.fabOut 65 1).owners = [] ∧ (d.fabOut 65 1).replay.length < 4 ∧ d.outLost 65 1 = false) ∧
    (e.fab.queues.map (·.1) = [65 * 64 + 0 * 4, 65 * 64 + 1 * 4 + 1] ∧ (e.fabMove 65 0).map (·.out) = some 1 ∧
      (e.fabMove 65 5).map (·.out) = some 1 ∧ (e.fabMove 65 0).any (e.moveOpen 65) = true ∧
      (e.fabMove 65 5).any (e.moveOpen 65) = true) := by decide +kernel

theorem test_router_takes_the_column_first : let d := after (.flitReceive 65 4 ⟨0, .header 143 false .message 0⟩ true) (fabDev [])
    (d.fabOut 65 1).replay.map (fun x => (x.1, x.2.1)) = [(0, hop0)] ∧ (d.fabOut 65 0).replay = [] := by decide +kernel

/-- With seven transfers of CTRL behind it, BULK has its turn (R75). -/
theorem test_router_turn : let e := fabDev [(65 * 8 + 1, { turn := 7 })] [(65 * 64, { flits := [hop0] }), (65 * 64 + 5, { flits := [hop0 .loading] })]
    ((e.transfer 65 1).fabOut 65 1).replay.map (fun x => x.2.1) = [hop0 .loading] := by decide +kernel

/-- A flit under way to tile 65 from the east and to its interface, expected, accepted already and beyond; rejected three
times and four times; a link that exists, whole, failed, degraded and missing; a detour out of service; a port of the
tile's own; and an I/O port at its primary tile. -/
theorem witness_FlitsLinksAndPorts :
    let d := fabDev [(66 * 8 + 3, { replay := [(0, hop0, 3), (255, hop0, 2)], next := 1 })]
    let own := fabDev [(65 * 8 + 4, { replay := [(0, hop0, 0)], next := 1 })]
    let out := fabDev [(66 * 8 + 3, { replay := [(0, hop0, 4)], next := 1 })]
    let pair := fabDev [(65 * 8 + 4, { replay := [(0, hop0, 4)], next := 1 })]
    (d.lit = true ∧ d.on (R.TILE_STATUS_POWERED 65) = true ∧ d.arriving 65 1 0 (.payload false 0) = some hop0 ∧
      own.arriving 65 5 0 (.payload false 0) = some hop0 ∧ d.arriving 65 1 255 (.payload false 0) = some hop0) ∧
    (d.expects 65 1 = 0 ∧ (0 + 256 - (252 : Byte).toNat) % 256 = 4 ∧ (0 + 256 - (255 : Byte).toNat) % 256 = 1) ∧
    (d.rejections 65 1 0 = 3 ∧ d.rejections 65 1 255 < 3) ∧ linkExists 65 0 = true ∧ linkExists 143 0 = false ∧
    (∃ p ∈ linkPorts 65 0, out.rejectedOut p.1 p.2 = true) ∧
    (∀ n : Fin 9, d.rd (R.FAB_LINK_FAIL n.val) = 0 ∧ d.rd (R.FAB_LINK_DEGR n.val) = 0 ∧ d.rd (R.FAB_STATUS_ROUTE_LOST n.val) = 0) ∧
    (let e : Dev := { d with fab := { d.fab with again := [(130, List.replicate 65 0)] } }
     64 < (((oget e.fab.again (65 * 2 + 0)).getD []).filter (fun x => e.since x ≤ 1000000)).length) ∧
    (let e := put out [(R.FAB_LINK_FAIL (clusterOf 53), 2 ^ linkBit 53 1)]
     testBit (e.rd (R.FAB_LINK_FAIL (clusterOf 65))) (linkBit 65 0) = false ∧ (∃ p ∈ detour 65 0, e.linkOut p.1 p.2 = true) ∧
       (∃ p ∈ linkPorts 65 0, e.rejectedOut p.1 p.2 = true) ∧ e.mgmt.staged = [] ∧ e.role ≠ .stopped ∧ e.committed = false) ∧
    (pair.on (R.TILE_STATUS_STOPPED 65) = false ∧ pair.rejectedOut 65 5 = true) ∧ (up .stopped).role = .stopped := by
  decide +kernel

/-- The I/O port of cluster 0 at its primary tile, with four rejections and 65 retransmissions; and at another tile. -/
theorem witness_FlitsLinksAndPorts_ioport :
    let d : Dev := { put (up .active) [(R.TILE_STATUS_POWERED 1, 1), (R.FAB_IOPORT_PRIMARY 0, 1)] with
      fab := { outs := [(1 * 8 + 5, { replay := [(0, hop0, 4)] })], again := [(512, List.replicate 65 0)] } }
    let e := put d [(R.FAB_IOPORT_PRIMARY 0, 2)]
    clusterOf 1 = 0 ∧ d.lit = true ∧ d.on (R.TILE_STATUS_POWERED 1) = true ∧ d.rejectedOut 1 7 = true ∧
    64 < (((oget d.fab.again (512 + 0)).getD []).filter (fun x => d.since x ≤ 1000000)).length ∧
    d.rd (R.FAB_IOPORT_PRIMARY 0) = 1 ∧ d.on (R.FAB_IOPORT_ON_ALT 0) = false ∧ e.rd (R.FAB_IOPORT_PRIMARY 0) ≠ 1 := by
  decide +kernel

/-- Seventeen periods with one slow monitor; third slow windows of a tile and of the cluster's router; and the rail at each
of its limits. -/
theorem witness_PaceMonitorsAndRails :
    let d := put (up .active) [(R.FAB_STATUS_POWERED 8, 1)]
    let slow (m : Nat) : Dev := { d with fab := { d.fab with slow := sput (fun _ => 0) d.fab.slow (8 * 32 + m) 3 } }
    (d.lit = true ∧ d.on (R.FAB_STATUS_POWERED 8) = true ∧ (List.replicate 16 1500 ++ [1601]).length = 17 ∧
      (∀ p ∈ List.replicate 16 1500 ++ [1601], p < 65536)) ∧
    (d.mgmt.staged = [] ∧ d.role ≠ .stopped ∧ 3 ≤ (slow 15).slowRun 8 15 ∧ 3 ≤ (slow 16).slowRun 8 16 ∧
      d.committed = false ∧ (8 : Nat) ∉ (slow 15).fab.slowTold ∧
      (8 : Nat) ∈ ({ slow 15 with fab := { (slow 15).fab with slowTold := [8] } } : Dev).fab.slowTold) ∧
    (776 ≤ (776 : BitVec 16).toNat ∧ (824 : BitVec 16).toNat ≤ 824 ∧ (775 : BitVec 16).toNat < 776 ∧
      880 < (881 : BitVec 16).toNat) ∧
    776 ≤ (put d [(R.FAB_RAIL_RAIL_MV 8, 776)]).rd (R.FAB_RAIL_RAIL_MV 8) ∧ d.rd (R.FAB_RAIL_RAIL_MV 8) ≤ 824 := by
  decide +kernel

/-! ### Triads (chapter 06) -/

/-- A tile that runs with three replicas in service, in a role. -/
def triadDev (x : Tile) (fs : List (Fld × Nat) := []) (r : Role := .active) (parts : List PartImg := [part0]) : Dev :=
  put { up r with hrn := { Dev.reset.hrn with image := some { parts := parts } }, tiles := [(0, x)] }
    ([(R.TILE_STATUS_REP_IN 0, 7), (R.TILE_STATUS_ROLE 0, 1)] ++ fs)

theorem quiet_of (d : Dev) (h : (d.tileLive 0 && d.rd (R.TILE_STATUS_REP_IN 0) == 7 && (d.tile 0).odd == [] && (d.tile 0).voter == [] &&
    !(d.tile 0).ended && (d.tile 0).halted == 0 && (d.tile 0).retired == 0) = true) : TriadQuiet (at_ d) 0 := by
  simp only [Bool.and_eq_true, beq_iff_eq, Bool.not_eq_true'] at h
  obtain ⟨⟨⟨⟨⟨⟨a, b⟩, c⟩, e⟩, f⟩, g⟩, i⟩ := h
  exact ⟨a, b, c, e, f, g, i⟩

/-- The order of R131 among three values, across the wrap. -/
theorem witness_AgreedValues : later 0 0xFFFFFFFF = true ∧ later 7 0 = true ∧ later 7 0xFFFFFFFF = true := by decide

theorem test_median : agreeBy (fun (x y : Word) => later y x) 0 [7, 0xFFFFFFFF, 0] = 0 := by decide +kernel

theorem witness_Rounds : let d := triadDev { awaitRound := true }
    TriadQuiet (at_ d) 0 ∧ d.roundDue 0 = true ∧ d.role.commanding = true ∧ d.partOf 0 = some part0 ∧
    d.on R.CYCLE_STATUS_FALLBACK = false ∧ d.mgmt.staged = [] ∧ d.twin.divergeDue = none :=
  ⟨quiet_of _ (by decide +kernel), by decide +kernel⟩

/-- Reads that agree, that are of two kinds, that one replica has not issued, and of which no two agree. -/
theorem witness_SharedReads :
    let rd : PendingRead := { kind := .rdtime, addr := 0, rd := 3 }
    let lw (a : Nat) : PendingRead := { kind := .lw, addr := a, rd := 3 }
    let x (a b c : Option PendingRead) : Tile := { repA := { pending := a }, repB := { pending := b }, repC := { pending := c } }
    TriadQuiet (at_ (triadDev (x (some rd) (some rd) none))) 0 ∧ rd.kind = .rdtime ∧ (lw 0).kind ≠ .rdtime ∧
    (((triadDev (x (some rd) (some rd) none)).tile 0).rep 2).pending = none ∧
    (((triadDev (x (some rd) (some rd) (some (lw 0)))).tile 0).rep 2).pending = some (lw 0) ∧
    rd.agrees (lw 0) = false ∧ rd.agrees (lw 4) = false ∧ (lw 0).agrees (lw 4) = false ∧
    (triadDev (x none none none)).on (R.TILE_STATUS_STOPPED 0) = false ∧ (triadDev {}).mgmt.staged = [] :=
  ⟨quiet_of _ (by decide +kernel), by decide +kernel⟩

/-- Entries that wait, that agree, that differ in DUPLEX, that nobody joined, an issued one that a replica lacks, a replica
behind, and a task of higher priority. -/
theorem witness_VoterAndEventDelivery :
    let e : Effect := { idx := 0, kind := 1, mask := 0xFF, target := 0x90000, data := 5 }
    let first : Tile := { repA := { outbox := [e] } }
    let second : Tile := { repB := { outbox := [e] }, voter := [(0, e)] }
    let differ : Tile := { repB := { outbox := [{ e with data := 6 }] }, voter := [(0, e)] }
    let lacking : Tile := { issued := [e], next := 1, repA := { given := 1 }, repB := { given := 1 } }
    let behind : Tile := { event := some { count := 2 }, repA := { retired := 2 }, repB := { retired := 1 }, repC := { retired := 2 } }
    let p : PartImg := { part0 with tasks := [{ num := 1, priority := 5 }, { num := 40, priority := 2 }] }
    let core : Core := { running := true }
    let pre : Tile := { current := some { task := 1, release := 0 }, waiting := [{ task := 40, release := 0 }]
                        repA := { core := core }, repB := { core := core }, repC := { core := core } }
    (TriadQuiet (at_ (triadDev first)) 0 ∧ ((triadDev first).tile 0).next ≤ e.idx) ∧
    ((triadDev second).tileLive 0 = true ∧ (triadDev second).rd (R.TILE_STATUS_REP_IN 0) = 7 ∧ e.same e = true ∧ e.kind = 1 ∧
      (∀ k : Fin 3, ((triadDev second).tile 0).next < (((triadDev second).tile 0).rep k).given + 64)) ∧
    ((triadDev differ [(R.TILE_STATUS_REP_IN 0, 3)]).tileLive 0 = true ∧ ({ e with data := 6 } : Effect).same e = false) ∧
    (((triadDev second).tile 0).issued = [] ∧ (triadDev second).committed = false ∧ pre.event = none) ∧
    (TriadQuiet (at_ (triadDev lacking)) 0 ∧ (lacking.rep 2).given ≤ e.idx ∧ (∀ k : Fin 3, k ≠ 2 → e.idx < (lacking.rep k).given)) ∧
    (TriadQuiet (at_ (triadDev behind)) 0 ∧ behind.stitches = [] ∧ behind.event = some { count := 2 } ∧ (behind.rep 1).retired < 2) ∧
    (TriadQuiet (at_ (triadDev pre [(R.CYCLE_STATUS_FALLBACK, 1)] .active [p])) 0 ∧
      (triadDev pre [(R.CYCLE_STATUS_FALLBACK, 1)] .active [p]).on R.CYCLE_STATUS_FALLBACK = true ∧
      (triadDev pre [] .active [p]).partOf 0 = some p ∧ pre.nextRun p = some { task := 40, release := 0 } ∧
      taskRank p 40 < taskRank p 1 ∧ (p.task 40).isSome = true ∧
      (∀ k : Fin 3, (pre.rep k).retired = (pre.rep 0).retired ∧ (pre.rep k).core.running = true)) :=
  ⟨⟨quiet_of _ (by decide +kernel), by decide +kernel⟩, by decide +kernel, by decide +kernel, by decide +kernel,
   ⟨quiet_of _ (by decide +kernel), by decide +kernel⟩, ⟨quiet_of _ (by decide +kernel), by decide +kernel⟩,
   ⟨quiet_of _ (by decide +kernel), by decide +kernel⟩⟩

/-- Stitches delivered by two replicas, with an equal and a different third; and a replica halted while its tile is
reintegrated, on a TRIAD tile and on a LOOP tile. -/
theorem witness_StitchesSramAndReintegration :
    let x (v : DWord) : Tile := { stitches := [(0, 3, 9), (1, 3, 9)], repC := { closed := [(3, v)] } }
    let re (k : Nat) := triadDev { halted := 4 } [(R.TILE_STATUS_REINTEGRATING 0, 1), (R.TILE_STATUS_REP_IN 0, 3), (R.TILE_STATUS_ROLE 0, k)]
    TriadQuiet (at_ (triadDev (x 9))) 0 ∧ (triadDev (x 9)).rd (R.TILE_STATUS_ROLE 0) = 1 ∧ (8 : DWord) ≠ 9 ∧
    (triadDev (x 9)).on (R.TILE_STATUS_REINTEGRATING 0) = false ∧ ((triadDev {}).tile 0).stitches = [] ∧
    (let off := put (up .active) [(R.TILE_STATUS_POWERED 0, 1)]
     off.lit = true ∧ off.on (R.TILE_STATUS_POWERED 0) = true ∧ off.tileLive 0 = false) ∧
    (∀ k ∈ [1, 2], (re k).tileLive 0 = true ∧ (re k).on (R.TILE_STATUS_REINTEGRATING 0) = true ∧ ((re k).tile 0).halted = 2 ^ (2 : Fin 3).val ∧
      (re k).rd (R.TILE_STATUS_REP_IN 0) = 7 - 2 ^ (2 : Fin 3).val ∧ (re k).rd (R.TILE_STATUS_ROLE 0) = k ∧ ((re k).tile 0).odd = [] ∧
      (re k).on (R.TILE_STATUS_STOPPED 0) = false ∧ ((re k).runningSlot 0).isNone = true ∧ (re k).hrn.image.isSome = true) :=
  ⟨quiet_of _ (by decide +kernel), by decide +kernel⟩

theorem test_third_stitch_differs :
    let d := after (.stitchDeliver 0 2) (triadDev { stitches := [(0, 3, 9), (1, 3, 9)], repC := { closed := [(3, 8)] } })
    d.rd R.TRIAD_LAST_REPLICA = 4 ∧ d.rd (R.TILE_STATUS_REP_IN 0) = 3 ∧ (d.tile 0).majority = [(3, 9)] := by decide +kernel

/-! ### Harness slots and staging (chapter 04) -/

/-- A signed image with the five required sections, all of them empty: header and directory of R90 and R91 with the first 32
bytes of SHA-384 of no bytes (FIPS 180-4), and the signature block of R99 with a signature made outside the model. -/
def imgTest : Memory :=
  [(0, 72), (1, 82), (2, 78), (3, 49), (4, 1), (6, 5), (9, 32), (17, 16), (24, 65), (25, 3), (26, 2), (2048, 1),
    (2050, 1), (2057, 16), (2072, 56), (2073, 176), (2074, 96), (2075, 167), (2076, 81), (2077, 172), (2078, 150), (2079, 56), (2080, 76), (2081, 217),
    (2082, 50), (2083, 126), (2084, 177), (2085, 177), (2086, 227), (2087, 106), (2088, 33), (2089, 253), (2090, 183), (2091, 17), (2092, 20), (2093, 190),
    (2094, 7), (2095, 67), (2096, 76), (2097, 12), (2098, 199), (2099, 191), (2100, 99), (2101, 246), (2102, 225), (2103, 218), (2112, 2), (2114, 1),
    (2121, 16), (2136, 56), (2137, 176), (2138, 96), (2139, 167), (2140, 81), (2141, 172), (2142, 150), (2143, 56), (2144, 76), (2145, 217), (2146, 50)] ++
  [(2147, 126), (2148, 177), (2149, 177), (2150, 227), (2151, 106), (2152, 33), (2153, 253), (2154, 183), (2155, 17), (2156, 20), (2157, 190), (2158, 7),
    (2159, 67), (2160, 76), (2161, 12), (2162, 199), (2163, 191), (2164, 99), (2165, 246), (2166, 225), (2167, 218), (2176, 3), (2178, 1), (2185, 16),
    (2200, 56), (2201, 176), (2202, 96), (2203, 167), (2204, 81), (2205, 172), (2206, 150), (2207, 56), (2208, 76), (2209, 217), (2210, 50), (2211, 126),
    (2212, 177), (2213, 177), (2214, 227), (2215, 106), (2216, 33), (2217, 253), (2218, 183), (2219, 17), (2220, 20), (2221, 190), (2222, 7), (2223, 67),
    (2224, 76), (2225, 12), (2226, 199), (2227, 191), (2228, 99), (2229, 246), (2230, 225), (2231, 218), (2240, 4), (2242, 1), (2249, 16), (2264, 56)] ++
  [(2265, 176), (2266, 96), (2267, 167), (2268, 81), (2269, 172), (2270, 150), (2271, 56), (2272, 76), (2273, 217), (2274, 50), (2275, 126), (2276, 177),
    (2277, 177), (2278, 227), (2279, 106), (2280, 33), (2281, 253), (2282, 183), (2283, 17), (2284, 20), (2285, 190), (2286, 7), (2287, 67), (2288, 76),
    (2289, 12), (2290, 199), (2291, 191), (2292, 99), (2293, 246), (2294, 225), (2295, 218), (2304, 12), (2306, 1), (2313, 16), (2328, 56), (2329, 176),
    (2330, 96), (2331, 167), (2332, 81), (2333, 172), (2334, 150), (2335, 56), (2336, 76), (2337, 217), (2338, 50), (2339, 126), (2340, 177), (2341, 177),
    (2342, 227), (2343, 106), (2344, 33), (2345, 253), (2346, 183), (2347, 17), (2348, 20), (2349, 190), (2350, 7), (2351, 67), (2352, 76), (2353, 12)] ++
  [(2354, 199), (2355, 191), (2356, 99), (2357, 246), (2358, 225), (2359, 218), (4096, 75), (4104, 23), (4105, 199), (4106, 164), (4107, 187), (4108, 209),
    (4109, 198), (4110, 21), (4111, 104), (4112, 93), (4113, 158), (4114, 72), (4115, 96), (4116, 203), (4117, 39), (4118, 88), (4119, 54), (4120, 239),
    (4121, 175), (4122, 227), (4123, 204), (4124, 230), (4125, 164), (4126, 204), (4127, 190), (4128, 226), (4129, 234), (4130, 57), (4131, 156), (4132, 106),
    (4133, 220), (4134, 58), (4135, 26), (4136, 229), (4137, 147), (4138, 179), (4139, 38), (4140, 98), (4141, 171), (4142, 131), (4143, 227), (4144, 137),
    (4145, 179), (4146, 192), (4147, 170), (4148, 3), (4149, 134), (4150, 81), (4151, 53), (4152, 221), (4153, 251), (4154, 100), (4155, 118), (4156, 204)] ++
  [(4157, 60), (4158, 31), (4159, 88), (4160, 61), (4161, 109), (4162, 78), (4163, 126), (4164, 52), (4165, 118), (4166, 151), (4167, 242), (4168, 205),
    (4169, 145), (4170, 167), (4171, 33), (4172, 100), (4173, 200), (4174, 58), (4175, 95), (4176, 92), (4177, 60), (4178, 75), (4179, 93), (4180, 44),
    (4181, 183), (4182, 26), (4183, 82), (4184, 172), (4185, 171), (4186, 86), (4187, 48), (4188, 160), (4189, 213), (4190, 161), (4191, 214), (4192, 63),
    (4193, 57), (4194, 154), (4195, 206), (4196, 128), (4197, 224), (4198, 164), (4199, 119)]

def testKey : PubKey :=
  { x := 38782368093490071747657743800695031374521408414431448708541986004073168101049948510436944418274911268928862748728451
    y := 217907064595870433887904581194768389550247523771251539850982796122090822369847137070358002198032248152350832307004 }

/-- A module whose owner has that harness-signing key, with that image in slot 2. -/
def imgDev (r : Role) (hrn : HrnSt → HrnSt := id) : Dev :=
  let d := put (owned (up r)) [(R.IDENT_HW_ISSUE, 0x43), (R.FW_VERSION_MAJOR, 3), (R.FW_VERSION_MINOR, 2)]
  { d with
    trust := { d.trust with owner := some { rootKey := {}, rootFp := 0, ca := 0, harnessKeys := [{ keyId := 0x4B, key := testKey }],
                                            approvers := [], wrapKey := 0 } }
    hrn := hrn { d.hrn with slots := [(2, { bytes := imgTest, committed := true, seq := 9 })] } }

/-- Directory entries with those IDs, of empty sections. -/
def dirTest (ids : List Nat) : List DirEntry := ids.map (fun i =>
  { id := i, version := 1, offset := 4096, digest := 0x38b060a751ac96384cd9327eb1b1e36a21fdb71114be07434c0cc7bf63f6e1da })

theorem imgTest_dir : imgDir imgTest = dirTest [1, 2, 3, 4, 12] := by decide +kernel

/-- What the manual leaves open allows that image: the formats of its sections allow empty ones, and what they hold keeps
the ranges of R94 to R97, R191, R194, R207 and R224. -/
def Admitted : Prop := (∀ id bs, Config.sectionMalformed id bs = false) ∧ (loadImage imgTest).bad = false

/-- An image keeps those ranges: one partition, with a preferred spare in each cluster. -/
theorem test_ranges_of_an_image :
    let im : Image := { roles := [(0, 1)], parts := [part0], limitUs := 500, spares := (List.range 9).map (fun n => (n, ((clusterTiles n)[15]?).getD 0)) }
    im.bad = false ∧ { im with limitUs := 49 }.bad = true ∧ { im with spares := [] }.bad = true := by decide +kernel

/-- The image breaks no rule of R93, where the formats of its sections, which the manual leaves open, allow empty ones. -/
theorem imgTest_wellFormed (h : ∀ id bs, Config.sectionMalformed id bs = false) : imgMalformed imgTest = false := by
  have e2 : entryOk imgTest = fun x => (decide (x.offset % 4096 = 0) && decide (4096 ≤ x.offset) && decide (x.flags < 2) &&
      (match sectionClass x.id with
       | none => decide (x.flags = 0)
       | some _ => x.digest = sha384 (imgSection imgTest x) / 2 ^ 128 &&
          !(if x.id = idStations then stationsMalformed (imgSection imgTest x)
            else if x.id = idProtect then protectMalformed (imgSection imgTest x)
            else if x.id = idSafety then safetyMalformed (imgSection imgTest x) else false))) := by
    funext x
    simp only [entryOk, sectionBad, h]
    all_goals (split <;> simp_all)
  unfold imgMalformed
  rw [e2, imgTest_dir]
  decide +kernel

/-- The bytes of a sorted memory from an address on, in one walk. -/
def fill : Nat → Nat → Memory → List Byte
  | 0, _, _ => []
  | n + 1, a, [] => 0 :: fill n (a + 1) []
  | n + 1, a, (k, b) :: m => if k = a then b :: fill n (a + 1) m else 0 :: fill n (a + 1) ((k, b) :: m)

theorem read_below {m : Memory} {lo a : Nat} (w : swfFrom byteDflt lo m) (h : a < lo) : m.read a = 0 := by
  induction m generalizing lo with
  | nil => rfl
  | cons p m ih =>
    simp only [swfFrom, Bool.and_eq_true, decide_eq_true_eq] at w
    have : a ≠ p.1 := by omega
    simpa [Memory.read, sget, this] using ih w.2 (by omega)

theorem readBytes_cons {p : Nat × Byte} {m : Memory} {a n : Nat} (h : p.1 < a) :
    Memory.readBytes (p :: m) a n = Memory.readBytes m a n := by
  induction n generalizing a with
  | zero => rfl
  | succ n ih =>
    have : a ≠ p.1 := by omega
    simp [Memory.readBytes, Memory.read, sget, this, ih (show p.1 < a + 1 by omega)]

theorem readBytes_eq_fill {m : Memory} {a : Nat} (n : Nat) (w : swfFrom byteDflt a m) : m.readBytes a n = fill n a m := by
  induction n generalizing m a with
  | zero => rfl
  | succ n ih =>
    cases m with
    | nil => simpa [Memory.readBytes, fill, Memory.read, sget, byteDflt] using ih (a := a + 1) (m := []) rfl
    | cons p m =>
      have w' := w
      simp only [swfFrom, Bool.and_eq_true, decide_eq_true_eq] at w'
      by_cases h : p.1 = a
      · subst h
        simp [Memory.readBytes, fill, Memory.read, sget, readBytes_cons (Nat.lt_succ_self _), ih w'.2]
      · have wl : swfFrom byteDflt (a + 1) (p :: m) = true := by
          simp only [swfFrom, Bool.and_eq_true, decide_eq_true_eq]; exact ⟨⟨by omega, w'.1.2⟩, w'.2⟩
        have e := ih wl
        have r := read_below wl (Nat.lt_succ_self a)
        simp only [Memory.readBytes, r, e, fill, h, if_false]

theorem imgTest_sorted : swfFrom byteDflt 0 imgTest = true := by decide +kernel
theorem imgTest_length : (imgHeader imgTest).signedLength = 4096 := by decide +kernel
theorem imgTest_digest : sha384 (fill 4096 0 imgTest) =
    0xa120929476b43cab2411f22a72306ebb2d1541f327e077423fe4122b57287faaed2f6487a7514b1b4471df6bf8237d79 := by decide +kernel
theorem imgTest_sig : ecdsaVerify testKey
    (BitVec.ofNat 384 0xa120929476b43cab2411f22a72306ebb2d1541f327e077423fe4122b57287faaed2f6487a7514b1b4471df6bf8237d79).toNat
    ⟨0x17c7a4bbd1c615685d9e4860cb275836efafe3cce6a4ccbee2ea399c6adc3a1ae593b32662ab83e389b3c0aa03865135,
     0xddfb6476cc3c1f583d6d4e7e347697f2cd91a72164c83a5f5c3c4b5d2cb71a52acab5630a0d5a1d63f399ace80e0a477⟩ = true := by decide +kernel
theorem imgTest_keyId : imgField imgTest 4096 8 = 0x4B := by decide +kernel
theorem imgTest_r : beNat (imgTest.readBytes (4096 + 8) 48) =
    0x17c7a4bbd1c615685d9e4860cb275836efafe3cce6a4ccbee2ea399c6adc3a1ae593b32662ab83e389b3c0aa03865135 := by decide +kernel
theorem imgTest_s : beNat (imgTest.readBytes (4096 + 56) 48) =
    0xddfb6476cc3c1f583d6d4e7e347697f2cd91a72164c83a5f5c3c4b5d2cb71a52acab5630a0d5a1d63f399ace80e0a477 := by decide +kernel

theorem imgTest_subject : imgSubject imgTest = BitVec.ofNat 384
    0xa120929476b43cab2411f22a72306ebb2d1541f327e077423fe4122b57287faaed2f6487a7514b1b4471df6bf8237d79 := by
  unfold imgSubject
  rw [imgTest_length, readBytes_eq_fill _ imgTest_sorted, imgTest_digest]

theorem imgTest_signed (d : Dev) (t : d.trust = (imgDev .stopped).trust) : imgSigned d imgTest = true := by
  unfold imgSigned
  simp only [imgTest_length, imgTest_subject, imgTest_keyId, imgTest_r, imgTest_s, t]
  exact imgTest_sig

/-- The slot passes every check of R100, on a module with that owner, hardware and firmware. -/
theorem imgTest_valid (h : Admitted) (d : Dev) (s : HrnSlot)
    (hs : s.bytes = imgTest ∧ s.committed = true ∧ s.erase = false) (t : d.trust = (imgDev .stopped).trust)
    (w : d.rd R.IDENT_HW_ISSUE = 0x43 ∧ d.rd R.FW_VERSION_MAJOR = 3 ∧ d.rd R.FW_VERSION_MINOR = 2) : d.slotCause s = 0 := by
  have m : (imgHeader imgTest).hwIssue = 0x41 ∧ (imgHeader imgTest).fwMajor = 3 ∧ (imgHeader imgTest).fwMinor = 2 ∧
      (imgHeader imgTest).secver = 0 ∧ (imgHeader imgTest).pairMode = 0 := by decide +kernel
  have v : d.trust.minSecver = 0 := by rw [t]; rfl
  simp [Dev.slotCause, hs, imgTest_wellFormed h.1, h.2, imgTest_signed d t, m, w, v]

/-- What a slot shows by its cause. -/
def shown (d : Dev) (k cause : Nat) : Dev :=
  let s := d.hrnSlot k
  let state := if s.writing then 3 else if s.empty then 0 else if cause = 0 then 1 else 2
  let d := (d.wr (R.HRN_SLOT_STATE k) state).wr (R.HRN_SLOT_CAUSE k) (if state = 2 then cause else 0)
  let d := (d.wr (R.HRN_SLOT_SEQ k) (s.seq.toNat % 2 ^ 16)).flag (R.HRN_SLOT_BOOT_PTR k) (d.hrn.bootPtr = k)
  (d.flag (R.HRN_SLOT_RUNNING k) (d.hrn.image.isSome && d.hrn.slot = k)).flag (R.HRN_SLOT_STAGED k)
    (match d.hrn.staged with | some g => g.slot = k | none => false)

theorem checkSlot_of_valid {d : Dev} {k : Nat} (e : (d.putSlot k { d.hrnSlot k with checked := !(d.hrnSlot k).committed, writing := false }).slotCause
    ((d.putSlot k { d.hrnSlot k with checked := !(d.hrnSlot k).committed, writing := false }).hrnSlot k) = 0) :
    d.checkSlot k = shown (d.putSlot k { d.hrnSlot k with checked := !(d.hrnSlot k).committed, writing := false }) k 0 := by
  rw [← e]; rfl

/-- The first clause of StartSequence: the boot pointer names that slot, and no partner that commands runs another image. -/
def bootDev : Dev :=
  let d := imgDev .starting (fun x => { x with bootPtr := 2 })
  { d with power := { d.power with start := { firmware := true, position := true, bridle := true } } }

theorem witness_StartSequence_boots (h : Admitted) :
    bootDev.isStarting = true ∧ bootDev.power.start.image = false ∧ bootDev.mgmt.staged = [] ∧
    bootDev.committed = false ∧
    (let d1 := bootDev.reportMarks.each 4 (fun k d => d.checkAtStart k)
     d1.pickSlot.1 = some 2 ∧ d1.pickSlot.2.partnerSlot 2 = none) := by
  refine ⟨by decide +kernel, by decide +kernel, by decide +kernel, by decide +kernel, ?_⟩
  show let d1 := (((bootDev.reportMarks.checkAtStart 0).checkAtStart 1).checkSlot 2).checkAtStart 3
    d1.pickSlot.1 = some 2 ∧ d1.pickSlot.2.partnerSlot 2 = none
  rw [checkSlot_of_valid (d := (bootDev.reportMarks.checkAtStart 0).checkAtStart 1) (k := 2)
    (imgTest_valid h _ _ ⟨rfl, rfl, rfl⟩ rfl (by decide +kernel))]
  constructor <;> decide +kernel

/-- Slots: beyond the last byte and at it; a slot in use and one that is not; one being written; and, as slotCause of a slot
that was never committed shows, one that fails. -/
theorem witness_SlotsAreWrittenCommittedAndRead :
    let d := owned (up .stopped)
    let w : Dev := { d with hrn := { d.hrn with slots := [(3, { writing := true })] } }
    ready d = true ∧ 256 * 2 ^ 20 < 256 * 2 ^ 20 + [(0 : Byte)].length ∧ 256 * 2 ^ 20 - 1 + [(0 : Byte)].length ≤ 256 * 2 ^ 20 ∧
    d.slotInUse 0 = true ∧ d.slotInUse 3 = false ∧ d.poolEmpty = false ∧ (d.hrnSlot 3).writing = false ∧
    (w.hrnSlot 3).writing = true ∧ ready w = true := by decide +kernel

theorem test_slot_write : ((after (.slotWrite req 3 10 [7, 0, 9]) (owned (up .stopped))).hrnSlot 3).bytes = [(10, 7), (12, 9)] := by
  decide +kernel

/-- The running image has no SCHEDULE (class 2): the slot's image changes that. -/
def changeDev (r : Role) : Dev := imgDev r (fun x => { x with image := some { dir := dirTest [1, 2, 3, 12] } })

theorem changeDev_shows (h : Admitted) (r : Role) (hr : r = .stopped ∨ r = .solo) :
    ((changeDev r).checkSlot 2).slotValid 2 = true := by
  rw [checkSlot_of_valid (imgTest_valid h _ _ ⟨rfl, rfl, rfl⟩ rfl (by obtain rfl | rfl := hr <;> decide +kernel))]
  obtain rfl | rfl := hr <;> decide +kernel

theorem staged_of_schedule {d : Dev} {k : Nat} (m : StageMode) (c : d.changedBy k = [4]) : (d.newStaged k m).cls < 3 ∧
    (d.newStaged k m).bridle = false ∧ (d.newStaged k m).security = false := by
  simp [Dev.newStaged, c, changeClass, sectionClass, idPartitions, idProtect, idSafety, idSecurity]

/-- The clauses of staging: a VALID change of class 2 in STOPPED and in SOLO, no change, and a slot that is not VALID. -/
theorem witness_StagingRunsItsCourse (h : Admitted) (r : Role)
    (hr : r = .stopped ∨ r = .solo) :
    (ready (changeDev r) = true ∧ (changeDev r).role = r ∧ (changeDev r).hrn.staged = none ∧
      ((changeDev r).checkSlot 2).slotValid 2 = true ∧ (changeDev r).changedBy 2 ≠ [] ∧
      (((changeDev r).checkSlot 2).newStaged 2 .load).cls < 3 ∧ (((changeDev r).checkSlot 2).newStaged 2 .load).bridle = false ∧
      (((changeDev r).checkSlot 2).newStaged 2 .load).security = false) ∧
    (imgDev r (fun x => { x with image := some { dir := dirTest [1, 2, 3, 4, 12] } })).changedBy 2 = [] ∧
    ((up .stopped).checkSlot 0).slotValid 0 = false := by
  have c : (changeDev r).changedBy 2 = [4] := by
    show changedIds (dirTest [1, 2, 3, 12]) (imgDir imgTest) = [4]
    rw [imgTest_dir]; decide +kernel
  have c' : ((changeDev r).checkSlot 2).changedBy 2 = [4] := by
    show changedIds (dirTest [1, 2, 3, 12]) (imgDir imgTest) = [4]
    rw [imgTest_dir]; decide +kernel
  have n : (imgDev r (fun x => { x with image := some { dir := dirTest [1, 2, 3, 4, 12] } })).changedBy 2 = [] := by
    show changedIds (dirTest [1, 2, 3, 4, 12]) (imgDir imgTest) = []
    rw [imgTest_dir]; decide +kernel
  exact ⟨⟨by obtain rfl | rfl := hr <;> decide +kernel, rfl, rfl, changeDev_shows h r hr, by rw [c]; decide,
    staged_of_schedule .load c'⟩, n, by decide +kernel⟩

theorem witness_StagingRunsItsCourse_staged :
    let g : Staged := { slot := 2, cls := 2, mode := .alone, at_ := 0xFFFFFFFDABF41C00, parts := [5] }
    let d : Dev := { owned (up .solo) with hrn := { Dev.reset.hrn with staged := some g } }
    let has : Dev := { d with hrn := { d.hrn with slots := [(2, { bytes := imgTest })] } }
    let p : Dev := { owned (up .active) with hrn := { Dev.reset.hrn with staged := some { g with mode := .pair, parts := [] } } }
    let s : Dev := { owned (up .solo) with hrn := { Dev.reset.hrn with staged := some { g with switched := true } } }
    ready d = true ∧ d.hrn.staged = some g ∧ 5 ∈ g.missing ∧ g.switched = false ∧ d.partitionsDigest 2 = false ∧ has.partitionsDigest 2 = true ∧ g.mode = .alone ∧
    g.timeout * 1000000000 ≤ d.since g.at_ ∧
    (p.hrn.staged = some { g with mode := .pair, parts := [] } ∧ ({ g with parts := [] } : Staged).missing = [] ∧
      g.partnerReady = false ∧ p.on R.CYCLE_STATUS_FALLBACK = false ∧ p.alive = true) ∧
    (s.hrn.staged = some { g with switched := true } ∧ s.alive = true) := by decide +kernel

theorem imgTest_again : imgTest.foldl (fun m x => Memory.write m x.1 x.2) [] = imgTest := by decide +kernel

/-- A pair that changes together: what the STANDBY hears; the ACTIVE's side; a copied image that is VALID and one that is
not; and the ends of a reload. -/
theorem witness_PairsChangeTogether (h : Admitted) :
    let d := put (imgDev .standby (fun x => { x with slots := [], image := some { dir := dirTest [1, 2, 3, 12] } })) [(R.TWIN_STATUS_GIRTH_UP, 1)]
    let slot : HrnSlot := { bytes := imgTest.foldl (fun m x => Memory.write m x.1 x.2) [], committed := true, seq := d.hrn.lastSeq + 1 }
    let e := d.putSlot 0 slot
    d.alive = true ∧ d.role = .standby ∧ d.on R.TWIN_STATUS_GIRTH_UP = true ∧ d.hrn.staged = none ∧ d.copySlot = some 0 ∧ d.slotCause slot = 0 ∧
    d.slotCause {} ≠ 0 ∧ e.changedBy 0 ≠ [] ∧ (e.newStaged 0 .shadow).cls < 3 ∧ (e.newStaged 0 .shadow).bridle = false ∧
    (e.newStaged 0 .shadow).security = false := by
  intro d slot e
  have m : slot.bytes = imgTest := by simp only [slot]; exact imgTest_again
  have c : e.changedBy 0 = [4] := by
    show changedIds (dirTest [1, 2, 3, 12]) (imgDir slot.bytes) = [4]
    rw [m, imgTest_dir]; decide +kernel
  exact ⟨rfl, rfl, by decide +kernel, rfl, by decide +kernel, imgTest_valid h d _ ⟨m, rfl, rfl⟩ rfl (by decide +kernel), by decide +kernel, by rw [c]; decide,
    staged_of_schedule .shadow c⟩

theorem witness_PairsChangeTogether_staged :
    let g : Staged := { slot := 2, cls := 2, mode := .shadow, fp := 5 }
    let st (r : Role) (g : Staged) : Dev := { up r with hrn := { Dev.reset.hrn with staged := some g } }
    let re (g : Staged) : Dev := put { st .starting g with
      power := { (up .starting).power with start := { firmware := true, loaded := true } }
      twin := { Dev.reset.twin with girthAt := some 0 } } [(R.TWIN_STATUS_GIRTH_UP, 1)]
    ((st .standby g).hrn.staged = some g ∧ g.mode = .shadow ∧ g.switched = false) ∧
    ((st .active { g with mode := .pair }).role = .active ∧ g.fp = 5 ∧ g.swapped = false) ∧
    ((re g).on R.TWIN_STATUS_IDENT_CLASH = false ∧ (up .standby).on R.TWIN_STATUS_GIRTH_UP = false) ∧
    ((re { g with phase := .back 255 }).power.start.loaded = true ∧ (re { g with phase := .back 255 }).pathLive true = true ∧
      (re { g with phase := .back 255 }).alive = true) ∧
    (re { g with phase := .reloading, mode := .first }).hrn.staged = some { g with phase := .reloading, mode := .first } ∧
    (re { g with phase := .reloading, mode := .follow }).hrn.staged = some { g with phase := .reloading, mode := .follow } := by
  decide +kernel

/-! ### Twin operation (chapter 12) -/

/-- Every clause about heartbeats. -/
theorem witness_HeartbeatsKeepTheTwinsInRank :
    let idn (r : Role) (t : TwinSt → TwinSt) (fs : List (Fld × Nat)) : Dev :=
      put { up r with conn := { Dev.reset.conn with identified := true }, twin := t Dev.reset.twin
                      hrn := { Dev.reset.hrn with image := some { header := { pairMode := 1 } } } } fs
    let a := idn .active id []
    let both := idn .active (fun t => { t with ringAt := some 0 }) [(R.TWIN_STATUS_GIRTH_UP, 1), (R.TWIN_STATUS_RING_HB, 1)]
    let girth := idn .active (fun t => { t with girthAt := some 0 }) [(R.TWIN_STATUS_GIRTH_UP, 1), (R.TWIN_STATUS_RING_HB, 1)]
    let stand (n : Nat) := idn .standby (fun t => { t with causes := n }) [(R.TWIN_STATUS_GIRTH_UP, 1)]
    let b : Beat := { role := 2, side := 1, fwMajor := a.rd R.FW_VERSION_MAJOR, safeSet := a.safety.set, fp := a.image.fp }
    let yields : Dev := { a with twin := { a.twin with commandSince := 0xFFFFFFFFFFFE7960 }
                                 ring := { a.ring with validAt := some 0xFFFFFFFFFFFE7960 } }
    (a.alive = true ∧ a.committed = false ∧ a.conn.identified = true ∧ a.role.runs = true ∧ (idn .stopped id []).role.runs = false) ∧
    (b.checkOk = true ∧ ({ b with checkOk := false } : Beat).checkOk = false ∧ a.on (R.RING_STATUS_SECURED 1) = false ∧ b.pair = a.rd R.SADDLE_PAIR ∧ b.side ≠ a.rd R.SADDLE_SIDE ∧ b.elig = 0 ∧
      a.on R.TWIN_STATUS_IDENT_CLASH = false ∧ a.on R.TWIN_STATUS_MIXED = false ∧ a.hrn.staged = none ∧
      a.power.start.listening = false ∧ a.power.start.waitingA = false ∧ ({ b with side := 0 } : Beat).side = a.rd R.SADDLE_SIDE) ∧
    (later 1 a.twin.epoch = true ∧ a.role.commanding = true ∧ a.mgmt.staged = []) ∧
    (yields.image.header.pairMode = 1 ∧ 100000 ≤ yields.since yields.twin.commandSince ∧
      yields.committed = false ∧ yields.ring.validAt = some 0xFFFFFFFFFFFE7960 ∧ 100000 ≤ yields.since 0xFFFFFFFFFFFE7960) ∧
    (both.on R.TWIN_STATUS_GIRTH_UP = true ∧ both.pathLive true = false ∧ both.pathLive false = true) ∧
    (girth.on R.TWIN_STATUS_RING_HB = true ∧ girth.pathLive false = false ∧ girth.pathLive true = true ∧ girth.role.runs = true) ∧
    ((stand 0).on R.TWIN_STATUS_GIRTH_UP = true ∧ (stand 0).pathLive true = false ∧ (stand 0).pathLive false = false ∧
      (stand 0).role = .standby ∧ (stand 0).twin.causes = 0 ∧ (stand 0).twin.swap = none ∧ (stand 0).hrn.staged = none ∧
      (stand 1).twin.causes ≠ 0) := by decide +kernel

theorem test_standby_takes_over :
    let d := after (.pathSilent 0) (put { up .standby with
      conn := { Dev.reset.conn with identified := true }, twin := { Dev.reset.twin with causes := 0, epoch := 6 }
      hrn := { Dev.reset.hrn with image := some { header := { pairMode := 1 } } } } [(R.TWIN_STATUS_GIRTH_UP, 1)])
    d.role = .active ∧ d.twin.epoch = 7 := by decide +kernel

/-- Every clause about the shadow: a record with a good and a bad check; a late one; summaries that agree and that differ; a
copy in progress; and the minutes of the mixed state. -/
theorem witness_TheStandbyFollowsInShadow :
    let d (t : TwinSt → TwinSt) (fs : List (Fld × Nat)) : Dev := put { up .standby with twin := t Dev.reset.twin } fs
    let fb := d id [(R.CYCLE_STATUS_FALLBACK, 1)]
    let own : Summary := { cycle := 4, tiles := [(143, 1)] }
    let cmp := d (fun t => { t with ownSummaries := [own], lastRecordAt := some 0 }) []
    let mixed := d id [(R.TWIN_STATUS_MIXED, 1), (R.TWIN_MIXED_OLDER, 1)]
    (fb.alive = true ∧ fb.role = .standby ∧ fb.on R.CYCLE_STATUS_FALLBACK = true ∧ fb.twin.held.length + 1 ≤ 2 ∧
      (readRecord false (recHeader { cycle := 5 } 32 0 (crc32 (recHeader { cycle := 5 } 32 0 0)))).crcOk = true ∧ (readRecord false []).crcOk = false) ∧
    (cmp.copyDue = false ∧ cmp.twin.lastRecordAt.isSome = true ∧ cmp.twin.loopStitches = [] ∧ cmp.twin.slotWait = [] ∧
      cmp.twin.ownSummaries = [own] ∧ ({ own with tiles := [(143, 2)] } : Summary).slots = [] ∧ (1 : DWord) ≠ 2 ∧
      cmp.on R.TWIN_STATUS_MIXED = false) ∧
    fb.twin.ownSummaries = [] ∧ (let c := d id [(R.TWIN_STATUS_COPYING, 1)]
     c.on R.TWIN_STATUS_COPYING = true ∧ c.on R.TWIN_STATUS_GIRTH_UP = false ∧
       (put c [(R.TWIN_STATUS_GIRTH_UP, 1)]).on R.TWIN_STATUS_GIRTH_UP = true) ∧
    (mixed.on R.TWIN_STATUS_MIXED = true ∧ mixed.on R.TWIN_MIXED_OLDER = true ∧ mixed.rd R.TWIN_MIXED_REMAIN_MIN = 0 ∧
      mixed.on R.TWIN_MIXED_EXPIRED = false) ∧ ready (owned (up .standby)) = true := by decide +kernel

theorem witness_RoleSwapIsAnnounced :
    let d (fs : List (Fld × Nat)) := put (owned (up .active)) fs
    ready (d []) = true ∧ (d []).role = .active ∧ (d []).on R.TWIN_STATUS_GIRTH_UP = false ∧
    ((d [(R.TWIN_STATUS_GIRTH_UP, 1)]).on R.TWIN_STATUS_GIRTH_UP = true ∧ (d [(R.TWIN_STATUS_GIRTH_UP, 1)]).on R.TWIN_STATUS_ELIGIBLE = false) ∧
    (d [(R.TWIN_STATUS_GIRTH_UP, 1), (R.TWIN_STATUS_ELIGIBLE, 1)]).on R.TWIN_STATUS_ELIGIBLE = true := by decide +kernel

/-- The swap is announced for the cycle after the next. -/
theorem test_role_swap :
    let d := after (.roleSwap req true) (put { owned (up .active) with cycle := { Dev.reset.cycle with num := 10 } }
      [(R.TWIN_STATUS_GIRTH_UP, 1), (R.TWIN_STATUS_ELIGIBLE, 1)])
    d.rd R.TWIN_SWAP_CYCLE = 12 ∧ d.rd R.TWIN_SWAP_STATE = 1 ∧ d.role = .active := by decide +kernel

/-! ### The control cycle (chapter 08) -/

/-- A cycle that a SOLO module runs, begun the given time ago, with a limit of 1,000 µs. -/
def cycleDev (ns : Nat) (fs : List (Fld × Nat) := []) (f : CycleSt → CycleSt := id) : Dev :=
  put { up .solo with hrn := { Dev.reset.hrn with image := some { limitUs := 1000, parts := [part0] } }
                      cycle := f { Dev.reset.cycle with running := true, began := true, startedAt := BitVec.ofNat 64 (2 ^ 64 - ns), num := 41 } } fs

/-- Each clause about boundaries: exactly at the limit and 1 ns beyond it for the third time, no boundary due, under the
fall-back schedule, returning, commands, and an overdue instance. -/
theorem witness_CyclesAreBoundedAndMeasured :
    let d := cycleDev 1000000
    let longer := cycleDev 1000001 [(R.CYCLE_STATUS_OVER_COUNT, 2)]
    let fb := cycleDev 0 [(R.CYCLE_STATUS_FALLBACK, 1)]
    let ret := cycleDev 0 [(R.CYCLE_STATUS_FALLBACK, 1), (R.CYCLE_STATUS_RETURNING, 1)]
    let tile (n : Nat) : Tile := { current := some { task := 1, release := 5 }, repA := { retired := 4, core := { running := true } }
                                   repB := { retired := 4 }, repC := { retired := n } }
    let dog (n : Nat) : Dev := { cycleDev 4000000 [(R.TILE_STATUS_REP_IN 0, 7)] with tiles := [(0, tile n)] }
    (d.role = .solo ∧ d.mgmt.staged = [] ∧ d.hrn.staged = none ∧ d.twin.swap = none ∧ d.time.restartAtBoundary = false ∧
      d.on R.CYCLE_CTRL_FORCE_FALLBACK = false ∧ d.on R.TWIN_STATUS_COPYING = false) ∧
    (d.boundaryDue = true ∧ d.cycle.began = true ∧ d.since d.cycle.startedAt ≤ d.image.limitUs * 1000) ∧
    (longer.boundaryDue = true ∧ longer.image.limitUs * 1000 < longer.since longer.cycle.startedAt ∧ longer.rd R.CYCLE_STATUS_OVER_COUNT = 2) ∧
    fb.boundaryDue = false ∧
    (fb.alive = true ∧ fb.cycle.running = true ∧ fb.on R.CYCLE_STATUS_FALLBACK = true ∧ fb.committed = false ∧
      fb.on R.CYCLE_STATUS_RETURNING = false ∧ fb.image.returnEn = false) ∧
    (ret.on R.CYCLE_STATUS_RETURNING = true ∧ ret.returnLate = false ∧ (∀ u ∈ ret.tilesIn 1, (ret.tile u).idle = true)) ∧
    ((0 : Word).getLsbD 1 = false ∧ (1 : Word).getLsbD 0 = true) ∧
    (let a : Dev := { put ret [(R.CYCLE_CTRL_FORCE_FALLBACK, 1)] with role := .active }
     a.alive = true ∧ a.role ≠ .standby ∧ a.on R.CYCLE_STATUS_RETURNING = true) ∧
    (∀ n ∈ [3, 4], (dog n).tileLive 0 = true ∧ (dog n).partOf 0 = some part0 ∧ ((dog n).tile 0).current = some { task := 1, release := 5 } ∧
      (dog n).overdue part0 { task := 1, release := 5 } = true ∧ ((dog n).tile 0).ended = false ∧ ((dog n).tile 0).event = none ∧
      (∃ r ∈ (dog n).serving 0, (((dog n).tile 0).rep r).core.running = true)) ∧
    (∃ r ∈ (dog 3).serving 0, (((dog 3).tile 0).rep r).retired < (dog 3).topCount 0) ∧
    (∀ r ∈ (dog 4).serving 0, (((dog 4).tile 0).rep r).retired = (dog 4).topCount 0 ∧ ((dog 4).tile 0).unissued r < 16) := by
  decide +kernel

theorem test_cycle_boundary : let d := after (.cycleBoundary false) (cycleDev 1000000)
    d.cycle.num = 42 ∧ d.rd R.CYCLE_LAST = 1000000 ∧ d.on R.CYCLE_STATUS_FALLBACK = false := by decide +kernel

theorem test_third_long_cycle : (after (.cycleBoundary false) (cycleDev 1000001 [(R.CYCLE_STATUS_OVER_COUNT, 2)])).on
    R.CYCLE_STATUS_FALLBACK = true := by decide +kernel

/-- A command body of 48 argument bytes for partition 0. -/
def cmdBody : List Byte := leBytes 4 77 ++ leBytes 2 0 ++ leBytes 2 5 ++ [48, 0, 0, 0] ++ List.replicate 48 7

theorem witness_PlantCommands :
    let d := owned (cycleDev 0)
    let c : PlantCmd := { source := 7, serial := 77, part := 0, code := 5, args := [] }
    let q : Dev := { d with cycle := { d.cycle with queue := [c] } }
    ready d = true ∧ (List.replicate 59 (0 : Byte)).length ≠ 60 ∧ cmdMalformed cmdBody = false ∧ (up .stopped).role.commanding = false ∧
    d.role.commanding = true ∧ (∃ p ∈ d.image.parts, p.num = cmdPart cmdBody) ∧ d.cycle.sources = [] ∧ d.cycle.queue = [] ∧
    d.cycle.inbox = [] ∧ (q.cycle.queue = [c] ∧ c.journalled = false ∧ q.poolEmpty = false) := by decide +kernel

theorem test_plant_command : ((after (.plantCommand req cmdBody) (owned (cycleDev 0))).cycle.queue.map (·.serial)) = [77] := by
  decide +kernel

/-! ### The field rings (chapter 13) -/

/-- A module with one station of a kind, in a role. -/
def ringDev (r : Role) (e : StationImg) (x : StationSt := {}) (p : RingPort := {}) (fs : List (Fld × Nat) := []) : Dev :=
  put { up r with hrn := { Dev.reset.hrn with image := some { stations := { entries := [e] } } }
                  ring := { Dev.reset.ring with a := p, b := p, stations := [(e.number, x)] } } fs

def station126 : StationImg := { number := 126, kind := 1, inLen := 2, outLen := 4, dropN := 3 }

/-- An INPUT frame of that station: TYPE 3, LEN, RANK, OBEYED, TOKEN, safety bytes and data. -/
def inputF (seq epoch : Nat) : RingFrame :=
  { source := 0, station := 126, seq := BitVec.ofNat 32 seq, payload := [3, 0, 2, 0] ++ leBytes 4 epoch ++ List.replicate 8 0 ++ [8, 9] }

theorem witness_RingFramesAreSentAndAccepted :
    let d := ringDev .stopped station126
    let peer : StationImg := { number := 100, kind := 3, peerPair := 4, inLen := 2 }
    let f : RingFrame := { source := 8, station := 0, seq := 1, payload := [0x50, 0, 2, 0] ++ leBytes 4 6 ++ [1, 2] }
    let sec := ringDev .stopped station126 {} {} [(R.RING_STATUS_SECURED 0, 1)]
    (sec.on (R.RING_STATUS_SECURED 0) = true ∧ d.on (R.RING_STATUS_SECURED 0) = false ∧
      (ringDev .stopped station126 { last := some 5, dropped := false } {} [(R.RING_STATUS_SECURED 0, 1)]).on (R.RING_STATUS_SECURED 0) = true) ∧
    (d.alive = true ∧ d.role.commanding = false ∧ (ringDev .active station126 {} {} [(R.TWIN_STATUS_GIRTH_UP, 1)]).on R.TWIN_STATUS_GIRTH_UP = true ∧
      (ringDev .active station126).committed = false) ∧
    (d.stationEntry (inputF 5 0).station.toNat = some station126 ∧ station126.kind = 1 ∧ ringType (inputF 5 0) = 3 ∧
      (d.ring.station 126).last = none ∧ 16 + station126.inLen ≤ (inputF 5 0).payload.length) ∧
    (((ringDev .stopped station126 { last := some 5 }).ring.station 126).last = some (inputF 5 0).seq ∧ later 6 (inputF 5 0).seq = true) ∧
    (testBit (payField (inputF 5 9) 8 1) 7 = false ∧ later (w32 (payField (inputF 5 9) 4 4)) d.twin.epoch = true ∧
      (ringDev .active station126).role.commanding = true) ∧
    ((1 : Byte) ≠ d.ringSource) ∧
    ((ringDev .stopped peer).stations.entries = [peer] ∧ peer.peerPair ≠ 0 ∧ peer.peerPair = f.source.toNat / 2 % 8 ∧
      peer.inLen = payField f 2 2 ∧ ringType f = 0x50 ∧ ((ringDev .stopped peer).ring.station 100).rank = none ∧
      8 + peer.inLen ≤ f.payload.length ∧ later 7 (w32 (payField f 4 4)) = true) ∧
    (station126.isInput = true ∧ ((ringDev .stopped station126 { missed := 3 }).ring.station 126).dropped = false ∧
      station126.dropN ≤ ((ringDev .stopped station126 { missed := 3 }).ring.station 126).missed) := by decide +kernel

theorem test_input_frame : let d := after (.inputFrame 0 .good (inputF 5 0)) (ringDev .stopped station126 {} {} [(R.RING_STATUS_SECURED 0, 1)])
    ((d.ring.station 126).frames = [(5, [8, 9])]) ∧ d.rd (R.RING_RX_FRAMES 0) = 1 := by decide +kernel

/-- Without a key no frame is valid (R355); a full frame store keeps its newest four where no round runs. -/
theorem test_input_frame_without_key : (after (.inputFrame 0 .good (inputF 5 0)) (ringDev .stopped station126)).ring.stations = [(126, {})] := by
  decide +kernel
theorem test_input_frame_full : let x : StationSt := { last := some 4, frames := [(4, []), (3, []), (2, []), (1, [])] }
    let d := after (.inputFrame 0 .good (inputF 5 0)) (ringDev .stopped station126 x {} [(R.RING_STATUS_SECURED 0, 1)])
    (d.ring.station 126).frames.map (·.1) = [5, 4, 3, 2] := by decide +kernel

theorem witness_RingBreaksFragmentsAndKeys :
    let p (x : RingPort) (fs : List (Fld × Nat)) := ringDev .standby station126 {} x fs
    ((p { silent := 2 } []).role.runs = true ∧ 2 ≤ ((p { silent := 2 } []).ring.port 1).silent ∧
      ((p { silent := 2 } []).ring.port 1).broken = false ∧ ((p { silent := 1 } []).ring.port 1).silent < 2) ∧
    (((p { broken := true, back := 16 } []).ring.port 1).broken = true ∧ (p { broken := true } []).breakNode 1 = some 0 ∧
      (p { broken := true } [(R.RING_STATUS_LINK_UP 1, 1)]).breakNode 1 = none ∧ 16 ≤ ((p { broken := true, back := 16 } []).ring.port 1).back) ∧
    ((p {} []).alive = true ∧ (p {} []).role = .standby ∧ (p {} []).ring.fragments = [] ∧ (p {} []).ring.twinDone = [] ∧
      (p {} [(R.RING_STATUS_SECURED 1, 1)]).on (R.RING_STATUS_SECURED 1) = true) ∧
    ((p {} [(R.SEC_STATUS_CAK_OK, 1)]).on R.SEC_STATUS_CAK_OK = true ∧ (p {} []).on R.SEC_STATUS_CAK_OK = false) := by decide +kernel

theorem test_ring_break : let d := after (.ringBreak 1) (ringDev .standby station126 {} { silent := 2 })
    d.rd (R.RING_STATUS_BROKEN 1) = 1 ∧ d.rd (R.RING_BREAK_NODE 1) = 0xFF := by decide +kernel

/-! ### The time base (chapter 14) -/

/-- A module whose time base stands so. -/
def timeDev (r : Role) (t : TimeSt) (fs : List (Fld × Nat) := []) : Dev := put { up r with time := t } fs

/-- The step at its limit of 1,000 ns and beyond it, the servo and its divergence at 1 ms, the rebase, a holdover, a
STANDBY's mean, and restarts where they are permitted and not. -/
theorem witness_TheTimeBaseStepsSlewsAndFollows :
    let x : TimeSample := { ref := 5000, count := 100 }
    let e (t : TimeSt) : Int := (t.at_ x.count - x.ref).toInt
    let t : TimeSt := { sample := some x, offset := 6000, qual := some 2100, prev := some (0, 50) }
    let far : TimeSt := { sample := some x, offset := 1005901 }
    let d := timeDev .solo t [(R.TIME_STATUS_STEP_ARMED, 0), (R.TIME_STATUS_STATE, 2)]
    let s (sum : Int) (k : Nat) := timeDev .standby { followSum := sum, followN := 2, prev := some (0, 0) } [(R.TIME_STATUS_STEP_ARMED, k)]
    (e t = 1100 ∧ (e t - 2100).natAbs ≤ 1000 ∧ (timeDev .solo t [(R.TIME_STATUS_STEP_ARMED, 1)]).on R.TIME_STATUS_STEP_ARMED = true ∧
      1000 < (e t - 2101).natAbs) ∧
    (d.on R.TIME_STATUS_STEP_ARMED = false ∧ (e t).natAbs ≤ 1000000 ∧ d.rd R.TIME_STATUS_STATE ≠ 4 ∧ d.time.prev = some (0, 50)) ∧
    (e far = 1001001 ∧ 1000000 < (e far).natAbs) ∧ t.rebase = none ∧ far.rebase = none ∧
    ({ rebase := some (-7) } : TimeSt).sample = none ∧ ({ rebase := some (-7), sample := some x } : TimeSt).sample = some x ∧
    d.rd R.TIME_STATUS_STATE = 2 ∧
    ((s 3 1).role = .standby ∧ (s 3 1).time.followN ≠ 0 ∧ (s 3 1).on R.TIME_STATUS_STEP_ARMED = true ∧
      (s 3 0).on R.TIME_STATUS_STEP_ARMED = false ∧ (roundDiv 2000000 2).natAbs ≤ 1000000 ∧ 1000000 < (roundDiv 2000001 2).natAbs) ∧
    (ready (owned (up .stopped)) = true ∧ ready (owned (up .active)) = true ∧ (up .active).role ≠ .stopped ∧ (up .active).role ≠ .standby) := by
  decide +kernel

/-- A sample that waits for the rebase is used with it (R371). -/
theorem test_sample_waits : let d := timeDev .solo { sample := some { ref := 5000, count := 100 }, rebase := some 9 }
    (after .timeSample d).time = d.time ∧ (after .rebase d).time.sample = none ∧ (after .rebase d).time.rate = 9 := by decide +kernel

/-- The step takes T to the reference (R368). -/
theorem test_time_step : let d := after .timeSample (timeDev .solo { sample := some { ref := 5000, count := 100 }, qual := some (-4900) }
      [(R.TIME_STATUS_STEP_ARMED, 1)])
    d.time.offset = 5000 ∧ d.time.c0 = 100 ∧ d.rd R.TIME_STATUS_STATE = 2 := by decide +kernel

theorem witness_ReferencesAreSampledAndStampsQueued :
    let pps (n : Nat) (set : Option (DWord × DWord)) :=
      timeDev .solo { ppsPrev := some (BitVec.ofNat 64 (2 ^ 64 - n)), setTime := set } [(R.TIME_CONFIG_SOURCE, 2)]
    let d3 := timeDev .solo { ppsPrev := some 0xFFFFFFFFC4653600, setTime := some (9, 0xFFFFFFFFC4653600) } [(R.TIME_CONFIG_SOURCE, 3)]
    ((pps 0 none).alive = true ∧ (timeDev .solo {} [(R.TIME_CONFIG_SOURCE, 1)]).rd R.TIME_CONFIG_SOURCE = 1 ∧ (999 : Nat) < 1000 ∧
      (500000000 : Nat) < 500000001) ∧
    (∀ n ∈ [999800000, 1000200000], (pps n none).time.ppsPrev = some (BitVec.ofNat 64 (2 ^ 64 - n)) ∧
      999800000 ≤ (pps n none).since (BitVec.ofNat 64 (2 ^ 64 - n)) ∧ (pps n none).since (BitVec.ofNat 64 (2 ^ 64 - n)) ≤ 1000200000 ∧
      (pps n none).rd R.TIME_CONFIG_SOURCE = 2 ∧ (pps n none).role ≠ .standby) ∧
    ((4000100000 : DWord).toNat % 1000000000 ≤ 100000 ∧ 100000 < (4000100001 : DWord).toNat % 1000000000 ∧
      (4999899999 : DWord).toNat % 1000000000 < 999900000) ∧
    (d3.rd R.TIME_CONFIG_SOURCE = 3 ∧ d3.time.setTime = some (9, 0xFFFFFFFFC4653600) ∧ d3.time.ppsPrev = some 0xFFFFFFFFC4653600 ∧
      999800000 ≤ d3.since 0xFFFFFFFFC4653600 ∧ d3.since 0xFFFFFFFFC4653600 ≤ 1000200000) ∧
    ((up .solo).poolEmpty = false ∧ (List.replicate 31 (⟨0, 0, 0⟩ : Stamp)).length < 32 ∧ 32 ≤ (List.replicate 32 (⟨0, 0, 0⟩ : Stamp)).length) := by
  decide +kernel

/-! ### Local field I/O (chapter 15) -/

def ioDev (f : IoSt → IoSt) (fs : List (Fld × Nat) := []) : Dev :=
  put { owned (up .active) with io := f Dev.reset.io }
    ([(R.POWER_FLD_GOOD, 1), (R.DIO_DIR, 0x80000000), (R.DIO_OUT, 0x80000000), (R.DIO_STATUS_GROUPS, 15), (R.DIO_RAW, 0x80000000),
      (R.CLO_STATUS_MODE 15, 1), (R.CLO_SET_CMD_UA 15, 22001)] ++ fs)

/-- Pins, current limit at its first unit above 100, and a driving loop with a difference of 101 µA, in fault and released. -/
theorem witness_PinsAndLoopsAreSampledAndGuarded :
    let c : AoSt := { released := true, readback := 101, changedAt := some 0xFFFFFFFFFEB04E80 }
    let d := ioDev (fun x => { x with ao := [(15, c)] })
    d.samples = true ∧ (testBit (d.rd R.DIO_READBACK) 31 ≠ testBit (d.rd R.DIO_RAW) 31) ∧ (100 < 101 ∧ testBit d.dioDriven 31 = true) ∧
    (d.lit = true ∧ d.fldGood = true ∧ testBit (d.rd R.DIO_DIR) 31 = true) ∧
    (d.pinsCommand = true ∧ d.fldDrives = true ∧ d.rd (R.CLO_STATUS_MODE 15) ≠ 0 ∧ d.rd (R.CLO_STATUS_HART 15) ≠ 2 ∧
      d.on (R.CLO_STATUS_FAULT 15) = false ∧ d.aoCompares 15 = true ∧ d.aoLasted 15 = true ∧ 100 < d.aoDiff 15 ∧ d.alive = true) ∧
    ((d.io.chan 15).released = true ∧ d.rd (R.CLO_SET_CMD_UA 15) ≠ 0xFFFF) ∧
    d.dioSteady 31 = true ∧ (ioDev (fun x => { x with rawAt := [(31, 0)] })).dioSteady 31 = false ∧
    d.faEvaluated = true := by decide +kernel

theorem test_ao_fault_level : let d := after (.aoReadbackFault 15) (ioDev (fun x => { x with
      ao := [(15, { released := true, readback := 101, changedAt := some 0xFFFFFFFFFEB04E80 })] }))
    d.rd (R.CLO_STATUS_FAULT 15) = 1 ∧ d.rd (R.CLO_SET_OUT_UA 15) = 3500 := by decide +kernel

/-- Every clause about HART and calibration but the import of a good file. -/
theorem witness_HartAndCalibration :
    let hart (c : AoSt) := ioDev (fun x => { x with ao := [(15, c)] }) [(R.CLO_STATUS_HART 15, 1)]
    let h : HartReq := { client := 7, id := 4, address := 63, command := [] }
    let run : Dev := { hart { busy := some (63, true), queue := [h] } with mgmt := { (hart {}).mgmt with running := [⟨0x0203, 7, 4, 0⟩] } }
    let cal (k : Nat) := ioDev (fun x => { x with points := [(31, 5, 6)], pendingCal := [(31, {})] }) [(R.KEEPER_SW, k)]
    ((hart {}).alive = true ∧ (hart {}).role.commanding = true ∧ (hart {}).pinsCommand = true ∧ ((hart {}).io.chan 15).queue = [] ∧ ((hart {}).io.chan 15).busy = none ∧
      ((hart {}).hartDevices 15)[((hart {}).io.chan 15).next]? = some 0) ∧
    (((hart { busy := some (0, false), devs := [(0, { missed := 2 })] }).io.chan 15).busy = some (0, false) ∧
      (((hart { busy := some (0, false), devs := [(0, { missed := 2 })] }).io.chan 15).dev 0).missed = 2 ∧
      ({ comm := 0 } : HartAnswer).comm = 0) ∧
    ((run.io.chan 15).busy = some (63, true) ∧ (run.io.chan 15).queue = [h] ∧ run.mgmt.running = [⟨0x0203, h.client, h.id, 0⟩]) ∧
    (ready (hart {}) = true ∧ (hart {}).rd (R.CLO_STATUS_HART 15) ≠ 0 ∧ (List.replicate 3 h).length < 4 ∧ (up .standby).role.commanding = false) ∧
    (oget (cal 0).io.points 30 = none ∧ oget (cal 0).io.points 31 = some (5, 6) ∧ 10000000 ≤ ((5 : Int) - 10000005).natAbs) ∧
    ((cal 0).calSwitch = false ∧ (cal 0x40).calSwitch = true ∧ (cal 0).poolEmpty = false ∧ (cal 0).io.pendingCal = [(31, {})] ∧
      ready (cal 0x40) = true ∧ (List.replicate 16 (0 : Byte)).length = 16 ∧ ([] : List Byte).length ≠ 16) ∧
    ((ioDev (fun x => { x with pendingSince := BitVec.ofNat 64 (2 ^ 64 - 1800 * nsPerSecond) })).since
        (BitVec.ofNat 64 (2 ^ 64 - 1800 * nsPerSecond)) = 1800 * nsPerSecond ∧
      (ioDev id).since (BitVec.ofNat 64 (2 ^ 64 - 1800 * nsPerSecond + 1)) < 1800 * nsPerSecond) := by decide +kernel

/-- A file to import: its header names the serial number, its end is the CRC-32 of the rest. Which records a body holds is
the factory's format (`Config.calRecords`): the clause meets its hypotheses where they are good. -/
def calFileTest (serial : Nat) : List Byte :=
  let b : List Byte := [0x43, 0x41, 0x4C, 0x31] ++ leBytes 4 serial ++ [0x43, 0, 0, 0]
  b ++ leBytes 4 (crc32 b)

theorem witness_HartAndCalibration_import :
    let d := ioDev id [(R.KEEPER_SW, 0x40), (R.SERIAL, 9)]
    let file := calFileTest 9
    d.calSwitch = true ∧ file.take 4 = [0x43, 0x41, 0x4C, 0x31] ∧ leNat ((file.drop 4).take 4) = d.rd R.SERIAL ∧
    leNat (file.drop (file.length - 4)) = crc32 (file.take (file.length - 4)) ∧ d.poolEmpty = false ∧ ready d = true ∧
    leNat (((calFileTest 8).drop 4).take 4) ≠ d.rd R.SERIAL := by decide +kernel

/-! ### CAN FD ports (chapter 16) -/

def canDev (r : Role) (p : CanPort) (fs : List (Fld × Nat) := []) (filters : List (Word × Word × Nat) := []) : Dev :=
  put { up r with can := [(3, p)], hrn := { Dev.reset.hrn with image := some { cans := [{ port := 3, filters := filters }] } } }
    ((R.CAN_CONFIG_USED 3, 1) :: fs)

def canF : CanFrame := { id := 0x04, ide := true, data := [1, 2, 3] }

/-- The buffer that holds that frame. -/
def canB : CanBuf := { hdr := 0x00000003, id := 4, data := [(0, 0x030201)], state := 1 }

theorem witness_CanFramesAreNumberedFilteredAndSent :
    let d := canDev .active {}
    let own : CanFrame := { canF with ide := canB.ide, fdf := canB.fdf, brs := canB.brs, rtr := canB.rtr, data := canB.bytes }
    let own' : CanFrame := { own with id := BitVec.ofNat 29 canB.ident }
    let send := canDev .active { bufs := [(2, { canB with onBus := true })] }
    let choose (o : Nat) := canDev .active { bufs := [(1, canB), (2, canB)] } [(R.CAN_CONFIG_ORDER 3, o)]
    (canFrameOk canF = true ∧ d.alive = true ∧ d.on (R.CAN_CONFIG_USED 3) = true ∧ d.role.commanding = true ∧ d.canMode 3 ≠ 1) ∧
    (canFilter [] canF = none ∧ canFilter [(0, 0, 1)] canF = some (0, 1) ∧ canFilter [(0, 0, 0), (4, 7, 2)] canF = some (1, 2) ∧
      (d.port 3).q0.length < 64 ∧ 64 ≤ (List.replicate 64 (⟨0, []⟩ : CanEntry)).length) ∧
    ((send.port 3).sending = some 2 ∧ ((send.port 3).buf 2).is own' = true ∧ canFrameOk own' = true ∧ send.canMode 3 < 2) ∧
    ((canDev .standby { bufs := [(2, canB)] }).canShadow 3 own' = some 2) ∧
    (d.canSends 3 = true ∧ d.canOff 3 = false ∧ (d.port 3).tec + 8 ≤ 255 ∧ ((canDev .active { tec := 248 }).port 3).tec + 8 > 255 ∧
      ((canDev .active { tec := 247 }).port 3).tec + 8 ≤ 255) ∧
    ((choose 1).canChoose 3 = some 1 ∧ (choose 0).canChoose 3 = some 1 ∧ ((choose 0).port 3).sending = none) ∧
    ((canDev .active {} [(R.CAN_STATUS_STATE 3, 2)]).canOff 3 = true ∧ (canDev .active {} [(R.CAN_STATUS_RECOVERING 3, 1)]).on (R.CAN_STATUS_RECOVERING 3) = true) ∧
    (up .stopped).role = .stopped ∧ d.role ≠ .stopped := by decide +kernel

theorem test_can_bus_off : (after (.canBusError 3 1 false true false) (canDev .active { tec := 248 })).rd (R.CAN_STATUS_STATE 3) = 2 := by
  decide +kernel

theorem witness_CanBuffersAreRequestedAndQueuesRead :
    let d (b : CanBuf) (fs : List (Fld × Nat)) := canDev .stopped { bufs := [(2, b)] } fs
    let q (fs : List (Fld × Nat)) := canDev .stopped { q0 := [⟨1, [1, 2, 3, 4, 5, 6]⟩], q1 := [⟨1, [1, 2, 3, 4, 5, 6]⟩] } fs
    ((d {} []).alive = true ∧ ((d {} []).port 3).buf 2 = {} ∧ (d {} []).canBadRequest 3 {} = false ∧
      (d {} []).canBadRequest 3 { hdr := 0x3F } = true ∧ ({ hdr := 0x3F } : CanBuf).state ≠ 1) ∧
    ((((d canB []).port 3).buf 2).state = 1 ∧ (((d canB []).port 3).buf 2).onBus = false ∧
      (((d { canB with onBus := true } []).port 3).buf 2).onBus = true ∧ (d {} [(R.CAN_TXB_SEL_BUF 3, 2)]).rd (R.CAN_TXB_SEL_BUF 3) = 2) ∧
    ((q []).on (R.CAN_CONFIG_Q0_OWNER 3) = false ∧ (q [(R.CAN_CONFIG_Q0_OWNER 3, 1)]).on (R.CAN_CONFIG_Q0_OWNER 3) = true ∧
      (q []).on (R.CAN_RXQ0_STATUS_LOCKED 3) = false ∧ ((q []).port 3).q0 = [⟨1, [1, 2, 3, 4, 5, 6]⟩]) ∧
    (let l := q [(R.CAN_CONFIG_Q1_OWNER 3, 1), (R.CAN_RXQ1_STATUS_LOCKED 3, 1), (R.CAN_RXQ1_STATUS_POS 3, 5)]
     l.on (R.CAN_RXQ1_STATUS_LOCKED 3) = true ∧ l.rd (R.CAN_RXQ1_STATUS_POS 3) + 1 = 6 ∧ (l.port 3).q1 = [⟨1, [1, 2, 3, 4, 5, 6]⟩]) := by
  decide +kernel

/-! ### Event recorder -/

def recA : EvRec := { code := .trip, sev := 6, src := 9, tFirst := 1000, tLast := 1000 }

def recDev (f : EvrecSt → EvrecSt) (fs : List (Fld × Nat) := []) : Dev := put { up .active with evrec := f Dev.reset.evrec } fs

/-- A full ring with one record of no higher severity than the new one, and with none. -/
theorem full_ring (n : Nat) : let low : EvRec := { code := .histRebuilt, sev := 1, src := 3 }
    let top : EvRec := { code := .trip, sev := 7, src := 4 }
    let ring := (5, low) :: List.replicate n (6, top)
    ring.length = n + 1 ∧ ring.filter (fun p => p.2.src = recA.src) = [] ∧ ring.filter (fun p => p.2.sev ≤ recA.sev) = [(5, low)] ∧
    (List.replicate (n + 1) (6, top)).filter (fun p => p.2.sev ≤ recA.sev) = [] := by
  intro low top ring
  have a : decide (low.src = recA.src) = false := by decide
  have b : decide (top.src = recA.src) = false := by decide
  have c : decide (low.sev ≤ recA.sev) = true := by decide
  have d : decide (top.sev ≤ recA.sev) = false := by decide
  exact ⟨by simp [ring], by simp [ring, a, b], by simp [ring, c, d], by simp [d]⟩

theorem witness_RecordsAreInserted_full : ∃ ring : List (Nat × EvRec), ∃ h, 32768 ≤ ring.length ∧
    ring.filter (fun p => p.2.src = recA.src) = [] ∧ ring.filter (fun p => p.2.sev ≤ recA.sev) = [(5, h)] :=
  ⟨_, _, (full_ring 32767).1.ge, (full_ring 32767).2.1, (full_ring 32767).2.2.1⟩

/-- A presented record in a ring that is empty, that has a record of the source (a repeat at the last nanosecond of the
window), closed, and frozen with 255 and with 256 held. -/
theorem witness_RecordsAreInsertedMergedHeldOrDropped :
    let d := recDev (fun e => { e with presented := [recA] }) [(R.EVREC_REPEAT_WIN_MS, 100)]
    let h : EvRec := { recA with tLast := 1000 }
    let late : EvRec := { recA with tFirst := 100001000, tLast := 100001000 }
    let rep := recDev (fun e => { e with presented := [late], ring := [(0, h)] }) [(R.EVREC_REPEAT_WIN_MS, 100)]
    let held (n : Nat) := recDev (fun e => { e with presented := [recA], fifo := List.replicate n { recA with code := .feedDip } }) [(R.EVREC_STATUS_FROZEN, 1)]
    (d.evrec.presented = [recA] ∧ d.evrec.closed = false ∧ d.on R.EVREC_STATUS_FROZEN = false ∧
      d.evrec.ring.filter (fun p => p.2.src = recA.src) = [] ∧ d.evrec.ring.length < 32768) ∧
    (rep.evrec.ring.filter (fun p => p.2.src = late.src) = [(0, h)] ∧ rep.rd R.EVREC_REPEAT_WIN_MS ≠ 0 ∧ late.code = h.code ∧
      late.tFirst.toNat ≤ h.tLast.toNat + rep.rd R.EVREC_REPEAT_WIN_MS * 1000000) ∧
    ((recDev (fun e => { e with presented := [recA], closed := true })).evrec.closed = true) ∧
    ((held 255).on R.EVREC_STATUS_FROZEN = true ∧ (∀ x ∈ (held 255).evrec.fifo, x.code ≠ recA.code) ∧
      (held 255).evrec.fifo.length < 256 ∧ (held 256).evrec.fifo.length = 256) ∧
    (let m := recDev (fun e => { e with presented := [late], fifo := [h] }) [(R.EVREC_STATUS_FROZEN, 1), (R.EVREC_REPEAT_WIN_MS, 100)]
     m.evrec.fifo = [h] ∧ m.on R.EVREC_STATUS_FROZEN = true ∧ m.rd R.EVREC_REPEAT_WIN_MS ≠ 0) := by decide +kernel

theorem test_event_insert : let d := after .eventInsert (recDev (fun e => { e with presented := [recA] }))
    (d.evrec.ring.map (fun p => (p.1, p.2.seq))) = [(0, 1)] ∧ d.rd R.EVREC_HEAD = 1 := by decide +kernel

theorem witness_RecordsAreJournalledAndFrozen :
    let d := recDev (fun e => { e with ring := [(0, recA)] })
    let worn : Dev := { d with life := { d.life with pool := 0 } }
    let fr (c : DWord) (fs : List (Fld × Nat)) : Dev := put (owned (recDev (fun e => { e with freezeEnded := some c }) [])) fs
    (d.alive = true ∧ 2 ≤ recA.sev.val ∧ recA.journalled = false ∧ recA.journalAt = none ∧ d.poolEmpty = false ∧
      d.evrec.journal.length < 2097152 ∧ worn.poolEmpty = true ∧ worn.on R.LIFE_FLASH_WORN = false ∧
      d.life.intents.contains (journalBlock d.evrec.nextEntry) = false ∧
      ({ d with life := { d.life with intents := [journalBlock d.evrec.nextEntry] } } : Dev).life.intents.contains (journalBlock d.evrec.nextEntry) = true) ∧
    (let at_ (n : Nat) := recDev (fun e => { e with frozenAt := BitVec.ofNat 64 (2 ^ 64 - n), fifo := [recA] }) [(R.EVREC_STATUS_FROZEN, 1)]
     100000000 ≤ (at_ 100000000).since (at_ 100000000).evrec.frozenAt ∧ ¬100000000 ≤ (at_ 99999999).since (at_ 99999999).evrec.frozenAt ∧
       (at_ 100000000).evrec.fifo = [recA] ∧ (at_ 100000000).evrec.ring = []) ∧
    (∀ x ∈ [((0 : Nat), { recA with sev := 1 })], x.2.sev.val < 2) ∧
    (let g := fr 0xFFFFFFFFC4653600 []
     g.on R.HIST_STATUS_MOUNTED = false ∧ g.on R.EVREC_STATUS_FROZEN = false ∧ 1000000000 ≤ g.since 0xFFFFFFFFC4653600 ∧ ready g = true) ∧
    (fr 0 []).since 0 < 1000000000 ∧ (fr 0 [(R.HIST_STATUS_MOUNTED, 1)]).on R.HIST_STATUS_MOUNTED = true ∧
    (fr 0 [(R.EVREC_STATUS_FROZEN, 1)]).on R.EVREC_STATUS_FROZEN = true ∧ (fr 0 []).evrec.fifo = [] := by decide +kernel

/-- A full journal, for n = 2,097,152. -/
theorem witness_RecordsAreJournalled_full (n : Nat) : let e : JournalEntry := { number := 0, record := recA, crc := 0 }
    let d := recDev (fun x => { x with ring := [(0, recA)], journal := List.replicate n e })
    n ≤ d.evrec.journal.length ∧ d.alive = true ∧ d.evrec.ring = [(0, recA)] ∧ d.poolEmpty = false :=
  ⟨Nat.le_of_eq List.length_replicate.symm, rfl, rfl, rfl⟩

theorem witness_RecordsAreRead : oget (recDev (fun e => { e with ring := [(7, recA)], idxMgmt := 7 })).evrec.ring
      ((recDev (fun e => { e with ring := [(7, recA)], idxMgmt := 7 })).evLatch .mgmt).2 = some recA ∧
    oget (recDev id).evrec.ring ((recDev id).evLatch .mgmt).2 = none ∧ (up .active).lit = true := by decide +kernel

/-! ### Historian (chapter 17) -/

def histDev (h : HistSt → HistSt) (fs : List (Fld × Nat) := []) (im : Image := {}) : Dev :=
  put { owned (up .active) with hist := h Dev.reset.hist, hrn := { Dev.reset.hrn with image := some im } } fs

/-- Drives that fit and do not, a set that fails, one that can be rebuilt, and formats. -/
theorem witness_DriveSets :
    let x : Drive := { capGb := 64000 }
    let d := histDev id
    let m := histDev (fun h => { h with drives := [(7, x)] }) [(R.HIST_DRV_STATUS_PRESENT 7, 1), (R.HIST_DRV_STATUS_STATE 7, 1)]
    let r := histDev (fun h => { h with set1 := { failed := true }, drives := [(0, x), (7, x)] })
      [(R.HIST_DRV_STATUS_PRESENT 7, 1), (R.HIST_DRV_STATUS_STATE 7, 1), (R.HIST_STATUS_SET0_OK, 1)]
    let u := histDev id [(R.HIST_DRV_STATUS_PRESENT 7, 1), (R.HIST_DRV_STATUS_STATE 7, 2), (R.HIST_DRV_CAP 7, 64000)]
    (d.alive = true ∧ x.formatOk = true ∧ 0 < x.capGb ∧ x.capGb ≤ 64000 ∧ d.hist.drives = [] ∧ d.setBays (1 - 7 / 4) = [] ∧
      (d.driveSet 1).failed = false ∧ 64000 < ({ capGb := 64001 } : Drive).capGb) ∧
    (oget m.hist.drives 7 = some x ∧ m.on R.HIST_STATUS_REBUILDING = false ∧ oget d.hist.drives 7 = none) ∧
    ((r.driveSet 1).failed = true ∧ (r.driveSet 0).failed = false ∧ r.setOk 0 = true ∧ r.setBays 1 = [7] ∧
      r.rd (R.HIST_DRV_STATUS_STATE 7) = 1 ∧ (d.hist.set0.failed = false ∧ d.hist.set1.failed = false)) ∧
    ((histDev id [(R.HIST_STATUS_REBUILDING, 1)]).on R.HIST_STATUS_REBUILDING = true ∧ d.rd R.HIST_REBUILD_SET = 0) ∧
    ((∀ n : Fin 8, d.rd (R.HIST_DRV_STATUS_STATE n.val) ≠ 2) ∧ ready d = true) ∧
    (u.setBays 1 = [7] ∧ u.rd (R.HIST_DRV_STATUS_STATE 7) = 2 ∧ (∀ p ∈ u.hist.drives, p.1 / 4 ≠ 1) ∧ 0 < u.rd (R.HIST_DRV_CAP 7) ∧
      u.rd (R.HIST_DRV_CAP 7) ≤ 64000) := by decide +kernel

/-- A tag of every tier, with no sample and (where its value, which Config leaves open, differs by no more than the
deadband) with one. -/
def histImg : Image := { publish := [{ part := 0, type := 0, addr := 0, len := 8 }], tags := [{ var := 0, tiers := 15, maxInterval := 1000 }] }

theorem witness_SamplesAndAggregates :
    let d (r : TagRun) : Dev :=
      let x := histDev (fun h => { h with tags := [(0, r)] }) [(R.HIST_STATUS_SET0_OK, 1)] histImg
      { x with cycle := { x.cycle with publishRead := true } }
    let g : Agg := { least := 0, greatest := 0, sum := 0, count := 1, final := 0 }
    ((d {}).alive = true ∧ (d {}).histRunning = true ∧ (d {}).tagOf 0 = some ({ var := 0, tiers := 15, maxInterval := 1000 }, { part := 0, type := 0, addr := 0, len := 8 }) ∧
      (∀ k : Fin 4, testBit 15 k.val = true) ∧ (d {}).cycle.publishRead = true ∧ (0 : BitVec 5).getLsbD 0 = false ∧
      (d {}).on R.HIST_STATUS_BACKLOG = false ∧ (d {}).tagRun 0 = {} ∧ (1 : BitVec 5).getLsbD 0 = true ∧ (d {}).setOk 0 = true ∧
      (90 : Nat) ≤ 90 ∧ (90 : Nat) < 91) ∧
    ((d { last := some { tag := 0 } }).tagRun 0 = { last := some { tag := 0 } } ∧
      ((d {}).timeT - ({ tag := 0 } : TagSample).t).toNat < 1000 * 1000000) ∧
    ((d {}).tagCount = 1 ∧ ∀ k : Fin 3, aggOf ((d { second := some g, minute := some g, hour := some g }).tagRun 0) k = some g) ∧
    (histDev id).histRunning = false := by decide +kernel

/-- Sessions at their limit of 16 and streams at theirs of 8. -/
theorem witness_ExportAnswersAndStreams :
    let d (n k : Nat) := histDev (fun h => { h with
      sessions := List.range n, streams := (List.range k).map (fun i => { id := i, session := 0, fa := [], awl := false }) }) [(R.HIST_STATUS_SET0_OK, 1)]
    ((d 15 0).alive = true ∧ 99 ∉ (d 15 0).hist.sessions ∧ (d 15 0).hist.sessions.length < 16 ∧ 16 ≤ (d 16 0).hist.sessions.length) ∧
    (14 ∈ (d 15 0).hist.sessions ∧ (List.replicate 256 0).length ≤ 256 ∧ (d 15 0).setOk 0 = true ∧ 256 < (List.replicate 257 0).length) ∧
    ((d 1 7).hist.streams.length < 8 ∧ (∀ y ∈ (d 1 7).hist.streams, y.id ≠ 7) ∧ 8 ≤ (d 1 8).hist.streams.length) ∧
    ((d 1 8).hist.streams.find? (fun y => y.id = 7 && y.session = 0) = some { id := 7, session := 0, fa := [], awl := false } ∧
      (d 1 7).hist.streams.find? (fun y => y.id = 7 && y.session = 0) = none) := by decide +kernel

/-- A stream of FA channel 31 with 1,024 samples that wait and with 1,023, and one of the awl with 512 words in the buffer and
with 511. -/
theorem witness_ExportStreams :
    let fa (n : Nat) : Stream := { id := 7, session := 0, fa := [31], awl := false, waiting := [(31, List.replicate n (5, 6))] }
    let awl : Stream := { id := 7, session := 0, fa := [], awl := true }
    let d (x : Stream) (n : Nat) : Dev :=
      { histDev (fun h => { h with sessions := [0], streams := [x] }) with
        loop := { awl := { buffer := List.replicate n [1, 2, 3, 4], times := List.replicate n 9 } } }
    ((d (fa 1024) 0).hist.streams.find? (fun y => y.id = 7 && y.session = 0) = some (fa 1024) ∧ 31 ∈ (fa 1024).fa ∧
      sget (fun _ => []) (fa 1024).waiting 31 = (5, 6) :: List.replicate 1023 (5, 6) ∧ 1023 ≤ (List.replicate 1023 ((5 : DWord), (6 : BitVec 16))).length ∧
      (sget (fun _ => []) (fa 1023).waiting 31).length < 1024) ∧
    ((d awl 512).hist.streams.find? (fun y => y.id = 7 && y.session = 0) = some awl ∧ sget (fun _ => 0) awl.sent 3 = 0 ∧
      (((d awl 512).loop.awl.buffer.drop 0).take 512).length = 512 ∧ (d awl 512).loop.awl.times[0]? = some 9 ∧
      (((d awl 511).loop.awl.buffer.drop 0).take 512).length < 512 ∧ (3 : Fin 32).val < 4 ∧ ¬(4 : Fin 32).val < 4) ∧
    (∀ y ∈ (d awl 0).hist.streams, ¬(y.id = 7 ∧ y.session = 1)) := by decide +kernel

/-! ### Management plane (chapter 18) -/

/-- Sessions that open with and without an owner, that are refused for the first and for the sixteenth time, and blocked. -/
theorem witness_SessionsOpenCloseAndAreRefused :
    let c : ClientEntry := { digest16 := 5, id := 7, rights := 1 }
    let im : Image := { security := { clients := [c], revoked := [66] } }
    let free (h : ClientHello) (d : Dev) : Bool := d.alive && decide (d.mgmt.sessions.length < 16) && (d.session h.session).isNone &&
      d.mgmt.blocked.all (fun p => p.1 != h.ip)
    let n := up .active
    let o : Dev := { owned n with hrn := { n.hrn with image := some im } }
    let h : ClientHello := { session := 2, digest16 := 5, levels := some 3 }
    let f : Dev := { n with mgmt := { n.mgmt with refusals := List.replicate 15 (0, 0), blocked := [(9, 0)] } }
    (free { x6 := true } n = true ∧ n.trust.owner = none) ∧
    (free h o = true ∧ o.trust.owner.isSome = true ∧ o.hrn.image = some im ∧ h.serial ∉ im.security.revoked ∧ o.datesChecked = false ∧
      im.security.clients.find? (fun x => x.digest16 = h.digest16) = some c) ∧
    (n.mgmt.refusals = [] ∧ free { x6 := false } n = true ∧ (66 : Nat) ∈ im.security.revoked ∧ (∃ k > 3, (some 4 : Option Nat) = some k)) ∧
    (f.mgmt.refusals.length = 15 ∧ (∀ p ∈ f.mgmt.refusals, p.1 = 0 ∧ f.since p.2 ≤ 60 * 1000000000) ∧ free {} f = true ∧
      (∃ p ∈ f.mgmt.blocked, p.1 = 9)) ∧
    (let at_ (k : Nat) : Dev := { n with mgmt := { n.mgmt with sessions := [{ id := 1, client := 7, rights := 1, lastUse := BitVec.ofNat 64 (2 ^ 64 - k) }] } }
     let long := 300 * 1000000000
     (at_ long).session 1 = some { id := 1, client := 7, rights := 1, lastUse := BitVec.ofNat 64 (2 ^ 64 - long) } ∧
       (at_ long).since (BitVec.ofNat 64 (2 ^ 64 - long)) = long ∧ (at_ (long - 1)).since (BitVec.ofNat 64 (2 ^ 64 - (long - 1))) < long ∧
       (at_ long).session 2 = none) := by
  refine ⟨by decide +kernel, by decide +kernel, ⟨by decide +kernel, by decide +kernel, by decide +kernel, 4, by decide, rfl⟩,
    by decide +kernel, by decide +kernel⟩

/-- The checks of a request, each on the state that it is about. -/
theorem witness_RequestsAreCheckedInOrder :
    let d (m : MgmtSt → MgmtSt) : Dev := { owned (up .active) with mgmt := m (owned (up .active)).mgmt }
    let x : Session := { id := 1, client := 7, rights := 0xFF }
    let y : Running := ⟨0x0103, 7, 9, 0⟩
    let z : Done := { client := 7, id := 9, digest := 0, opcode := 0x0103, status := .ok, body := none, at_ := 0 }
    (up .active).session 1 = none ∧ ((d id).alive = true ∧ (d id).session 1 = some x) ∧ ¬({ req with length := 1048577 } : Req).length ≤ 1048576 ∧
    (req.magic = 0x31474D4E ∧ ({ req with length := 1048576 } : Req).length ≤ 1048576) ∧
    (x.unowned = false ∧ ({ req with client := 8 } : Req).client ≠ x.client ∧ testBit 0xFE 0 = false ∧ testBit x.rights 0 = true) ∧
    ((d (fun m => { m with running := [y] })).mgmt.running = [y] ∧ y.client = req.client ∧ y.id = req.id ∧ y.digest = req.digest) ∧
    ((d (fun m => { m with completed := [z] })).mgmt.completed = [z] ∧ (d id).since z.at_ ≤ 600 * 1000000000) ∧
    ((List.replicate 8 (⟨0x0103, 7, 8, 0⟩ : Running)).length = 8 ∧
      ∀ r ∈ List.replicate 8 (⟨0x0103, 7, 8, 0⟩ : Running), r.client = req.client ∧ r.id ≠ req.id) ∧ ready (d id) = true := by decide +kernel

def testKey2 : PubKey :=
  ⟨0xae707c7812fd2c3890c36c8d2b44cd1af684828e2657b84bb93c7781e7aaf31b1a62dfdf52754808fcc3c0b52c1a659e,
   0xf746b529a5256eca00456724a44630f825759f3c733805972bf9908f4fd817f04004504291a9db8dd9b5e5e5a706f0b6⟩

/-- A proposed change 3 of kind 1 on a module with two approvers, and a signature over its statement made outside the model. -/
def pendDev (k : Nat) (as : List Approval) : Dev :=
  let d := owned (up .active)
  { d with mgmt := { d.mgmt with pend := [(k, { id := 3, kind := 1, subject := 5, approvals := as })] }
           hrn := { d.hrn with image := some { security := { approvers := [testKey, testKey2] } } } }

def sig3 : Sig :=
    ⟨0x17c7a4bbd1c615685d9e4860cb275836efafe3cce6a4ccbee2ea399c6adc3a1ae593b32662ab83e389b3c0aa03865135,
     0xd9d4980668ec18c71ddb82d9aa768d93b8d249111188b7b5441af5969b0eeafd9775fa9842640270457c7f7471cd72e1⟩

theorem witness_PendingChanges_signed : ecdsaVerify testKey
    (sha384 (statementBytes 0x31565041 (pendDev 7 []).ownerFp (BitVec.ofNat 8 1) (pendDev 7 []).pairByte 3 5)) sig3 = true := by decide +kernel

/-- The clauses about pending changes: the approval of the first approver, alone, again, and as the second; one that has
lapsed; an index beyond the table; a wrong signature; slots that are free and full. -/
theorem witness_PendingChanges :
    let d (as : List Approval) := pendDev 7 as
    let p (as : List Approval) : Pending := { id := 3, kind := 1, subject := 5, approvals := as }
    let b (k : PubKey) (t : DWord) : Approval := { keyIndex := 1, key := k, sig := {}, t := t }
    let full : Dev := { d [] with mgmt := { (d []).mgmt with pend := (List.range 8).map (fun k => (k, { p [] with id := BitVec.ofNat 32 k })) } }
    ready (d []) = true ∧ (5 < (6 : Byte).toNat ∧ 0 < (5 : Byte).toNat ∧ (5 : Byte).toNat ≤ 5) ∧
    ((∀ x ∈ (owned (up .active)).mgmt.pend, x.2.open_ = false) ∧ oget (owned (up .active)).mgmt.pend 0 = none) ∧
    ((d []).mgmt.pend = [(7, p [])] ∧ (p []).open_ = true ∧ (p []).state = .proposed) ∧
    ((∀ j : Fin 8, (oget full.mgmt.pend j.val).isSome) ∧ (∀ x ∈ full.mgmt.pend, x.2.open_ = true ∧ x.2.kind ≠ 2)) ∧
    ((d []).approvers[0]? = some testKey ∧ (d []).approvers[2]? = none ∧ ({ x := 0, y := 0 } : PubKey) ≠ testKey ∧ testKey2 ≠ testKey) ∧
    ecdsaVerify testKey 0 {} = false ∧
    (((d []).timeT - (b testKey2 0).t).toNat ≤ 600 * 1000000000 ∧ 600 * 1000000000 < ((d []).timeT - (b testKey2 0xFFFFFF744CDF31FF).t).toNat) ∧
    ((d []).timeT.toNat = 0 ∧ 3600 * 1000000000 ≤ ((d []).timeT - BitVec.ofNat 64 (2 ^ 64 - 3600 * 1000000000)).toNat ∧
      ((d []).timeT - BitVec.ofNat 64 (2 ^ 64 - 3600 * 1000000000 + 1)).toNat < 3600 * 1000000000) ∧
    (∀ x ∈ [((0 : Nat), { p [] with state := .lapsed })], x.2.state ≠ .proposed) := by decide +kernel

/-- The keys of an enrolment, and its record: the fields of tags 0x0001 to 0x0007, whose values but the minimum are cut to a
byte or none, and three signatures made outside the model, of its root key and of two approvers. -/
def enrolKey1 : PubKey :=
  ⟨0x11de24a2c251c777573cac5ea025e467f208e51dbff98fc54f6661cbe56583b037882f4a1ca297e60abcdbc3836d84bc,
   0x8fa696c77440f92d0f5837e90a00e7c5284b447754d5dee88c986533b6901aeb3177686d0ae8fb33184414abe6c1713a⟩
def enrolKey2 : PubKey :=
  ⟨0x283c1d7365ce4788f29f8ebf234edffead6fe997fbea5ffa2d58cc9dfa7b1c508b05526f55b9ebb2040f05b48fb6d0e1,
   0x9475c99061e41b88ba52efdb8c1690471a61d867ed799729d9c92cd01dbd225630d84ede32a78f9e64664cdac512ef8c⟩
def enrolFields : List (Nat × List Byte) := [(1, [1]), (2, []), (3, []), (4, []), (5, []), (6, [2, 0, 0, 0]), (7, [7])]

def enrolTest : EnrolRecord :=
  let fp : BitVec 128 := 0x8d2ce87d86f55fcfab770a047b090da2
  let ws := enrolFields.flatMap tlvBytes
  let st (i : Nat) (sig : Sig) : Statement := { ownerFp := fp, kind := 5, subject := BitVec.ofNat 384 (sha384 ws), keyIndex := i, sig := sig }
  { rootKey := enrolKey1, rootFp := fp, harnessKeys := [{}], approvers := [enrolKey1, enrolKey2], minSecver := 2
    bytes := (enrolFields.take 6).flatMap tlvBytes, withSig := ws
    rootSig := ⟨0xd8a17e55b8e2f47bc369fd9616695ce273dce4e307830a65f5a4a9aa8967c987aeea7ad365677a13bfd65c3fe5a66939,
     0xdada2995622ab1bbfacc9e7620ed533a52dbf24b13828b81a4c8114e40522d5b167d885cc19934dd8158e61d51c9e37a⟩
    approvals := [st 0 ⟨0xd8a17e55b8e2f47bc369fd9616695ce273dce4e307830a65f5a4a9aa8967c987aeea7ad365677a13bfd65c3fe5a66939,
     0xdd294e06c3ee0d5f232f4ff998850962ae9b707185dbc79e4884f8cc705b4471ceb90a6350a9b85bd7ad52178638a20a⟩,
      st 1 ⟨0xd8a17e55b8e2f47bc369fd9616695ce273dce4e307830a65f5a4a9aa8967c987aeea7ad365677a13bfd65c3fe5a66939,
     0x5324c567d81a9f013ba5edd605d9aff6f111ee522502e270fced930fb353fba40994b2f6a0ae1249a410fc90ad492416⟩] }

theorem witness_Ownership_spelled : recordSpelled enrolTest = true ∧ recordSpelled { enrolTest with withSig := [2] } = false := by decide +kernel

def unownedDev : Dev :=
  put { up .stopped with mgmt := { sessions := [{ id := 1, client := 0, rights := 1, unowned := true }] } } [(R.KEEPER_COVER_OPEN, 1)]

theorem witness_Ownership_root : ecdsaVerify enrolTest.rootKey (sha384 enrolTest.bytes) enrolTest.rootSig = true := by decide +kernel
theorem witness_Ownership_approved : unownedDev.enrolApproved enrolTest = true := by decide +kernel

/-- Approved changes for a firmware copy and for a release, a TLS key with a certificate that fits it, the states in which
each command is turned away, and enrolment (whether the wrap key unwraps is the factory's, `Config.wrapKeyUnwraps`). -/
theorem witness_FirmwareCertificatesAndOwnership :
    let d (r : Role) (k : Nat) (s : BitVec 384) : Dev :=
      let d := owned (up r)
      { d with mgmt := { d.mgmt with pend := [(7, { id := 3, kind := k, subject := s, state := .approved })] } }
    let tls : Dev := { owned (up .active) with trust := { (owned (up .active)).trust with tlsKey := some testKey } }
    (ready (d .stopped 4 9) = true ∧ (d .stopped 4 9).mgmt.pend = [(7, { id := 3, kind := 4, subject := 9, state := .approved })]) ∧
    (ready (owned (up .standby)) = true ∧ (owned (up .standby)).mgmt.pend = [] ∧ (owned (up .standby)).trust.tlsKey = none) ∧
    (ready tls = true ∧ tls.trust.tlsKey = some testKey ∧ ({ chains := true, key := testKey } : TlsCert).key = testKey) ∧
    ((d .stopped 5 (BitVec.ofNat 384 (sha384 (leBytes 4 ((up .stopped).rd R.SERIAL))))).mgmt.pend.length = 1) ∧
    (unownedDev.role = .stopped ∧ unownedDev.on R.KEEPER_COVER_OPEN = true ∧ (up .stopped).on R.KEEPER_COVER_OPEN = false ∧
      (0 < enrolTest.harnessKeys.length ∧ enrolTest.harnessKeys.length ≤ 8 ∧ 2 ≤ enrolTest.approvers.length ∧ enrolTest.approvers.length ≤ 16) ∧
      ¬(2 ≤ ({ enrolTest with approvers := [testKey] } : EnrolRecord).approvers.length)) := by decide +kernel

/-! ### Self-test, repair and the tag (chapter 19) -/

def lifeDev (r : Role) (f : LifeSt → LifeSt) (fs : List (Fld × Nat) := []) : Dev := put { up r with life := f Dev.reset.life } fs

/-- Tests, their findings, fuses up to their capacity, and the pool at its last block and empty. -/
theorem witness_TestsRepairsAndFlash :
    let t := lifeDev .stopped (fun l => { l with testing := true })
    let f (x : Fin 144) : TestFindings := { tiles := [x] }
    let fuse (k : Nat) (n : Nat) := lifeDev .stopped (fun l => { l with map0 := some { entries := [.tile 143] }, fused := List.replicate n (.tile 142) }) [(R.KEEPER_SW, k)]
    ((up .active).role ≠ .stopped ∧ t.life.testing = true ∧ (up .stopped).life.testing = false ∧ (up .stopped).alive = true) ∧
    ((f 143).wellFormed = true ∧ ({ spares := [.tile 4] } : TestFindings).wellFormed = false ∧ ({ cause := 3 } : TestFindings).cause ≠ 0) ∧
    (t.life.map.isSome = true ∧ t.poolEmpty = false ∧ (∀ n : Fin 9, t.covered n.val = true) ∧ t.life.map0 = some {} ∧ t.life.map1 = none ∧
      t.life.fused = [] ∧ t.roleOfTile 143 = 0) ∧
    (testBit ((fuse 0 0).rd R.KEEPER_SW) 5 = false ∧ testBit ((fuse 0x20 0).rd R.KEEPER_SW) 5 = true ∧ (fuse 0x20 0).life.soft = [.tile 143] ∧
      fuseUsed (fuse 0x20 1).life.fused (.tile 143) < fuseCapacity (.tile 143) ∧ ¬fuseUsed (fuse 0x20 2).life.fused (.tile 143) < fuseCapacity (.tile 143)) ∧
    ((lifeDev .stopped (fun l => { l with burning := [.tile 3] })).life.burning = [.tile 3] ∧ (lifeDev .stopped (fun l => { l with pool := 1 })).life.pool ≠ 0 ∧
      (lifeDev .stopped (fun l => { l with pool := 0 })).life.pool = 0 ∧ (up .stopped).on R.LIFE_FLASH_WORN = false) := by decide +kernel

theorem test_flash_block_fail : let d := after (.flashBlockFail 8191 true) (lifeDev .stopped (fun l => { l with pool := 64 }))
    d.rd R.LIFE_FLASH_POOL = 63 ∧ d.rd R.LIFE_FLASH_POOL_LOW = 1 ∧ d.life.replaced = [8191] := by decide +kernel

/-- CRC-32 over a page with 248 bytes of 0, in pieces that the kernel evaluates; the values were computed outside the model. -/
theorem crc_of_page {v c0 c1 c2 c3 c4 : Nat} (h0 : crcReflected 0xEDB88320 0xFFFFFFFF (leBytes 4 v) = c0)
    (h1 : crcReflected 0xEDB88320 c0 (List.replicate 62 0) = c1) (h2 : crcReflected 0xEDB88320 c1 (List.replicate 62 0) = c2)
    (h3 : crcReflected 0xEDB88320 c2 (List.replicate 62 0) = c3) (h4 : crcReflected 0xEDB88320 c3 (List.replicate 62 0) = c4) :
    crc32 (leBytes 4 v ++ List.replicate 248 0) = c4.xor 0xFFFFFFFF := by
  have e : List.replicate 248 (0 : Byte) =
      List.replicate 62 0 ++ (List.replicate 62 0 ++ (List.replicate 62 0 ++ List.replicate 62 0)) := by
    simp
  unfold crc32
  rw [e]
  simp only [crcReflected, List.foldl_append] at *
  rw [h0, h1, h2, h3, h4]

theorem tagVersion_of {l : LifeSt} {p v k : Nat} (hb : l.tagBytes p = leBytes 4 v ++ List.replicate 248 0 ++ leBytes 4 k)
    (hc : crc32 (leBytes 4 v ++ List.replicate 248 0) = k) (hk : leNat (leBytes 4 k) = k) : l.tagVersion p = some (w32 (leNat (leBytes 4 v))) := by
  have lv : (leBytes 4 v ++ List.replicate 248 (0 : Byte)).length = 252 := by rw [List.length_append, List.length_replicate]; rfl
  have l4 : (leBytes 4 v).length = 4 := by simp [leBytes]
  unfold LifeSt.tagVersion
  simp only [hb]
  rw [List.drop_left' lv, List.take_left' lv, hc, hk, List.append_assoc, List.take_left' l4]
  simp

theorem crc_last : crc32 (leBytes 4 0xFFFFFFFF ++ List.replicate 248 0) = 0xFFFFFFFF :=
  crc_of_page (c0 := 0x0) (c1 := 0x0) (c2 := 0x0) (c3 := 0x0) (c4 := 0x0)
    (by decide +kernel) (by decide +kernel) (by decide +kernel) (by decide +kernel) (by decide +kernel)
theorem crc_zero : crc32 (leBytes 4 0x0 ++ List.replicate 248 0) = 0xA66359F1 :=
  crc_of_page (c0 := 0xDEBB20E3) (c1 := 0xE381391A) (c2 := 0x3D570562) (c3 := 0x2E7EA73B) (c4 := 0x599CA60E)
    (by decide +kernel) (by decide +kernel) (by decide +kernel) (by decide +kernel) (by decide +kernel)
theorem crc_one : crc32 (leBytes 4 0x1 ++ List.replicate 248 0) = 0xA59AA192 :=
  crc_of_page (c0 := 0x66074786) (c1 := 0xAA689405) (c2 := 0xEA8F051) (c3 := 0xFE071897) (c4 := 0x5A655E6D)
    (by decide +kernel) (by decide +kernel) (by decide +kernel) (by decide +kernel) (by decide +kernel)

/-- A page of a tag with that version and 248 bytes of 0. -/
def tagPage (page v crc : Nat) (m : Memory) : Memory := (m.writeBytes (page * 256) (leBytes 4 v)).writeBytes (page * 256 + 252) (leBytes 4 crc)

/-- The two pages of pair 23 with no valid version, with one each, and with both, whose order wraps. -/
theorem witness_TheTagIsWritten_versions :
    let t (m : Memory) : LifeSt := { Dev.reset.life with tag := m }
    (Dev.reset.life.tagVersion 48 = none ∧ Dev.reset.life.tagVersion 49 = none) ∧
    ((t (tagPage 48 0xFFFFFFFF 0xFFFFFFFF [])).tagVersion 48 = some 0xFFFFFFFF ∧ (t (tagPage 48 0xFFFFFFFF 0xFFFFFFFF [])).tagVersion 49 = none) ∧
    ((t (tagPage 49 1 0xA59AA192 [])).tagVersion 48 = none ∧ (t (tagPage 49 1 0xA59AA192 [])).tagVersion 49 = some 1) ∧
    ((t (tagPage 49 0 0xA66359F1 (tagPage 48 0xFFFFFFFF 0xFFFFFFFF []))).tagVersion 48 = some 0xFFFFFFFF ∧
      (t (tagPage 49 0 0xA66359F1 (tagPage 48 0xFFFFFFFF 0xFFFFFFFF []))).tagVersion 49 = some 0 ∧ later 0 0xFFFFFFFF = true) := by
  have z : ∀ l : LifeSt, ∀ p, l.tagBytes p = leBytes 4 0 ++ List.replicate 248 0 ++ leBytes 4 0 → l.tagVersion p = none := by
    intro l p h
    have lv : (leBytes 4 0 ++ List.replicate 248 (0 : Byte)).length = 252 := by rw [List.length_append, List.length_replicate]; rfl
    have n0 : ¬leNat (leBytes 4 0) = 0xA66359F1 := by decide
    unfold LifeSt.tagVersion
    simp only [h]
    rw [List.drop_left' lv, List.take_left' lv, crc_zero, if_neg n0]
  refine ⟨⟨z _ _ (by decide +kernel), z _ _ (by decide +kernel)⟩, ⟨tagVersion_of (by decide +kernel) crc_last (by decide), z _ _ (by decide +kernel)⟩,
    ⟨z _ _ (by decide +kernel), tagVersion_of (by decide +kernel) crc_one (by decide)⟩,
    tagVersion_of (by decide +kernel) crc_last (by decide), tagVersion_of (by decide +kernel) crc_zero (by decide), by decide⟩

/-- A lock with a queue of 7 and of 8, and a session with switch 8 of K1 on. -/
theorem witness_TheTagIsWrittenByHostAndField :
    let l0 := Dev.reset.life
    let q (n : Nat) : LifeSt := { l0 with lock := some ⟨57, 0⟩, queue := (List.range n).map (fun k => (k, [])) }
    ((up .active).alive = true ∧ (List.replicate 248 (0 : Byte)).length = 248 ∧ l0.lock = none) ∧
    ((q 7).lock = some ⟨57, 0⟩ ∧ (∀ x ∈ (q 8).queue, x.1 ≠ 23) ∧ (q 7).queue.length < 8 ∧ (q 8).queue.length = 8) ∧
    ({ l0 with session := some true } : LifeSt).session = some true ∧ (List.replicate 256 (0 : Byte)).length = 256 ∧
    (up .active).since (BitVec.ofNat 64 (2 ^ 64 - 200000000)) = 200000000 ∧ (up .active).since (BitVec.ofNat 64 (2 ^ 64 - 199999999)) < 200000000 ∧
    ([] : List Byte).length ≠ 248 ∧ ([] : List Byte).length ≠ 256 ∧ l0.session ≠ some true := by decide +kernel

/-- Of the reserved pages the host writes content 0, of another page its own (R478; here queued behind a
lock), and a lock held for 200 ms ends. -/
theorem test_reserved_page :
    let d := lifeDev .active (fun l => { l with lock := some ⟨57, 0⟩ })
    (after (.tagPageWrite 5 (List.replicate 248 9)) d).life.queue = [(5, List.replicate 248 0)] ∧
    (after (.tagPageWrite 4 (List.replicate 248 9)) d).life.queue = [(4, List.replicate 248 9)] := by decide +kernel
theorem test_tag_lock_expires :
    let d := lifeDev .active (fun l => { l with lock := some ⟨57, BitVec.ofNat 64 (2 ^ 64 - 200000000)⟩, session := some true })
    (after .tagLockExpiry d).life.lock = none ∧ (after .tagLockExpiry d).life.session = some true := by decide +kernel

/-! ### Worked examples of the manual -/

/-- `MOD.SADDLE` before the bridles assert presence: 0x0000_00B1 on module A of pair 1 and 0x0000_00B9 on module B (chapter 02). -/
theorem test_saddle : let d (c : BitVec 6) := after (.positionSampleAttempt c c c) (put (up .starting) [(R.SADDLE_SEATED, 1)])
    (d 0x01).word 0x84 = 0xB1 ∧ (d 0x39).word 0x84 = 0xB9 := by decide +kernel

/-- `SEC.PEND0` of the worked change: ID 0x0017, STATE 3, KIND 1, APPROVALS 2 (chapter 18). -/
theorem test_pend_word : (put (up .active) [(R.SEC_PEND_ID_LO 0, 0x17), (R.SEC_PEND_STATE 0, PendState.consumed.code),
    (R.SEC_PEND_KIND 0, 1), (R.SEC_PEND_APPROVALS 0, 2)]).word (R.SEC_PEND_ID_LO 0).off = 0x010B0017 := by decide +kernel

/-- The check value of CRC-32C over the digits 1 to 9, and of CRC-32. -/
theorem test_crc : crc32c [0x31, 0x32, 0x33, 0x34, 0x35, 0x36, 0x37, 0x38, 0x39] = 0xE3069283 ∧
    crc32 [0x31, 0x32, 0x33, 0x34, 0x35, 0x36, 0x37, 0x38, 0x39] = 0xCBF43926 := by decide +kernel

end Sys2Proof.Tests
end

section
/-! LAWS. What every command can do to the ledger of the module: the register file, the tag, the latches, the version
floors, the fuses and the rates. One law for each function of the model that answers a module; the invariants follow. -/

namespace Sys2Proof.Machine

/-! ### The ledger: the parts of the module that the invariants speak of, and what one write does to it -/

/-- The parts of the module that an invariant over every command speaks of: the register file, the tag, the latches
(R3, R478, R488), the version floors and the fuses (R446, R447, R473), and the rates of the time base (R363). -/
structure Ledger where
  regs : List (Nat × Word)
  tag : Memory
  latches : List (Nat × Word)
  minSecver : Word
  fwMin : BitVec 16
  fused : List RepairEntry
  rate : Int
  freq : Int
  rebase : Option Int

/-- The ledger of a module. -/
def Dev.ledger (d : Dev) : Ledger where
  regs := d.regs
  tag := d.life.tag
  latches := d.mgmt.latches
  minSecver := d.trust.minSecver
  fwMin := d.trust.fwMin
  fused := d.life.fused
  rate := d.time.rate
  freq := d.time.freq
  rebase := d.time.rebase

/-- One write of a part of the ledger: everything a command can do to it is a row of such writes. -/
inductive Ledger.Write : Ledger → Ledger → Prop
  | reg (l : Ledger) (off : Nat) (w : Word) : Write l { l with regs := sput resetWord l.regs off w }
  | reset (l : Ledger) : Write l { l with regs := keepRegs l.regs, latches := [], rate := 0, freq := 0, rebase := none }
  | tagBytes (l : Ledger) (a : Nat) (bs : List Byte) : Write l { l with tag := Memory.writeBytes l.tag a bs }
  | latch (l : Ledger) (k : Nat) (w : Word) : Write l { l with latches := sput (fun _ => (0 : Word)) l.latches k w }
  | imageFloor (l : Ledger) (v : Word) :
      Write l { l with minSecver := if l.minSecver.toNat < v.toNat then v else l.minSecver }
  | firmwareFloor (l : Ledger) (v : BitVec 16) :
      Write l { l with fwMin := if l.fwMin.toNat < v.toNat then v else l.fwMin }
  | fuse (l : Ledger) (e : RepairEntry) : Write l { l with fused := l.fused ++ [e] }
  | zeroRates (l : Ledger) : Write l { l with rate := 0, freq := 0, rebase := none }
  | steer (l : Ledger) (x : Int) : Write l { l with freq := clampRate x }
  | planRate (l : Ledger) (x : Int) : Write l { l with rebase := some (clampRate x) }
  | dropPlan (l : Ledger) : Write l { l with rebase := none }
  | applyPlan (l : Ledger) (r : Int) : l.rebase = some r → Write l { l with rate := r, rebase := none }

/-- A row of latches is a row of writes. -/
theorem Ledger.reaches_latches (l : Ledger) (k : Nat → Nat) (w : Nat → Word) (offs : List Nat) :
    Relation.ReflTransGen Ledger.Write l
      { l with latches := offs.foldl (fun m o => sput (fun _ => (0 : Word)) m (k o) (w o)) l.latches } := by
  induction offs generalizing l with
  | nil => exact .refl
  | cons o offs ih => exact .head (.latch l (k o) (w o)) (ih _)

/-! ### Writes of the repair map leave the tag and the fuses -/

@[simp] theorem LifeSt.writeMap_tag (l : LifeSt) (es : List RepairEntry) : (l.writeMap es).tag = l.tag := by
  unfold LifeSt.writeMap
  split
  · rfl
  · rfl
  · rfl
  · split <;> rfl

@[simp] theorem LifeSt.writeMap_fused (l : LifeSt) (es : List RepairEntry) : (l.writeMap es).fused = l.fused := by
  unfold LifeSt.writeMap
  split
  · rfl
  · rfl
  · rfl
  · split <;> rfl

/-- The second module's ledger comes from the first one's by a row of writes. -/
def Dev.Reaches (d e : Dev) : Prop := Relation.ReflTransGen Ledger.Write d.ledger e.ledger

namespace Dev.Reaches

variable {d₀ d : Dev}

theorem refl : d.Reaches d := Relation.ReflTransGen.refl

/-- One more write. -/
theorem write {e : Dev} (h : d₀.Reaches d) (w : Ledger.Write d.ledger e.ledger) : d₀.Reaches e :=
  Relation.ReflTransGen.tail h w

/-- A change that leaves the ledger. -/
theorem same {e : Dev} (h : d₀.Reaches d) (w : e.ledger = d.ledger) : d₀.Reaches e := by
  unfold Dev.Reaches
  rwa [w]

/-! ### Choices and repetitions -/

theorem ite {c : Prop} [Decidable c] {a b : Dev} (ha : d₀.Reaches a) (hb : d₀.Reaches b) :
    d₀.Reaches (if c then a else b) := by
  split
  · exact ha
  · exact hb

theorem iteReply {c : Prop} [Decidable c] {a b : Reply} (ha : d₀.Reaches a.dev) (hb : d₀.Reaches b.dev) :
    d₀.Reaches (if c then a else b).dev := by
  split
  · exact ha
  · exact hb

theorem iteSnd {α : Type} {c : Prop} [Decidable c] {a b : α × Dev} (ha : d₀.Reaches a.2) (hb : d₀.Reaches b.2) :
    d₀.Reaches (if c then a else b).2 := by
  split
  · exact ha
  · exact hb

theorem foldl {α : Type} {f : Dev → α → Dev} {l : List α} (h : d₀.Reaches d)
    (hf : ∀ x a, d₀.Reaches x → d₀.Reaches (f x a)) : d₀.Reaches (l.foldl f d) := by
  induction l generalizing d with
  | nil => exact h
  | cons a l ih => exact ih (hf d a h)

theorem foldlFst {α β : Type} {f : Dev × β → α → Dev × β} {l : List α} {p : Dev × β} (h : d₀.Reaches p.1)
    (hf : ∀ x a, d₀.Reaches x.1 → d₀.Reaches (f x a).1) : d₀.Reaches (l.foldl f p).1 := by
  induction l generalizing p with
  | nil => exact h
  | cons a l ih => exact ih (hf p a h)

/-! ### Parts of the module outside the ledger -/

theorem withRole {x} (h : d₀.Reaches d) : d₀.Reaches { d with role := x } := h
theorem withConn {x} (h : d₀.Reaches d) : d₀.Reaches { d with conn := x } := h
theorem withPower {x} (h : d₀.Reaches d) : d₀.Reaches { d with power := x } := h
theorem withEvrec {x} (h : d₀.Reaches d) : d₀.Reaches { d with evrec := x } := h
theorem withHist {x} (h : d₀.Reaches d) : d₀.Reaches { d with hist := x } := h
theorem withHrn {x} (h : d₀.Reaches d) : d₀.Reaches { d with hrn := x } := h
theorem withTiles {x} (h : d₀.Reaches d) : d₀.Reaches { d with tiles := x } := h
theorem withCycle {x} (h : d₀.Reaches d) : d₀.Reaches { d with cycle := x } := h
theorem withLoop {x} (h : d₀.Reaches d) : d₀.Reaches { d with loop := x } := h
theorem withBridle {x} (h : d₀.Reaches d) : d₀.Reaches { d with bridle := x } := h
theorem withSafety {x} (h : d₀.Reaches d) : d₀.Reaches { d with safety := x } := h
theorem withTwin {x} (h : d₀.Reaches d) : d₀.Reaches { d with twin := x } := h
theorem withIo {x} (h : d₀.Reaches d) : d₀.Reaches { d with io := x } := h
theorem withCan {x} (h : d₀.Reaches d) : d₀.Reaches { d with can := x } := h
theorem withRing {x} (h : d₀.Reaches d) : d₀.Reaches { d with ring := x } := h
theorem withFab {x} (h : d₀.Reaches d) : d₀.Reaches { d with fab := x } := h
theorem withFree {x} (h : d₀.Reaches d) : d₀.Reaches { d with free := x } := h

theorem withTrust {t : TrustSt} (h : d₀.Reaches d) (hs : t.minSecver = d.trust.minSecver)
    (hf : t.fwMin = d.trust.fwMin) : d₀.Reaches { d with trust := t } :=
  h.same (by simp only [Dev.ledger, hs, hf])

/-! ### Functions that answer a pair -/

theorem ofSnd {α : Type} {p : α × Dev} {a e} (he : p = (a, e)) (h : d₀.Reaches p.2) : d₀.Reaches e := by
  rwa [he] at h

/-! ### The functions of Machine/Ops.lean -/

theorem putWord {off w} (h : d₀.Reaches d) : d₀.Reaches (d.putWord off w) :=
  h.write (.reg _ off w)

theorem wr {f v} (h : d₀.Reaches d) : d₀.Reaches (d.wr f v) :=
  .putWord h

theorem raise {f} (h : d₀.Reaches d) : d₀.Reaches (d.raise f) :=
  .wr h

theorem drop {f} (h : d₀.Reaches d) : d₀.Reaches (d.drop f) :=
  .wr h

theorem flag {f b} (h : d₀.Reaches d) : d₀.Reaches (d.flag f b) :=
  .wr h

theorem wrInt {f v} (h : d₀.Reaches d) : d₀.Reaches (d.wrInt f v) :=
  .wr h

theorem addSat {f k} (h : d₀.Reaches d) : d₀.Reaches (d.addSat f k) :=
  .wr h

theorem incSat {f} (h : d₀.Reaches d) : d₀.Reaches (d.incSat f) :=
  .addSat h

theorem incWrap {f} (h : d₀.Reaches d) : d₀.Reaches (d.incWrap f) :=
  .wr h

theorem wrSat {f v} (h : d₀.Reaches d) : d₀.Reaches (d.wrSat f v) :=
  .wr h

theorem maxTo {f v} (h : d₀.Reaches d) : d₀.Reaches (d.maxTo f v) :=
  .wr h

theorem wr64 {lo hi v} (h : d₀.Reaches d) : d₀.Reaches (d.wr64 lo hi v) :=
  .wr (.wr h)

theorem clear {fs} (h : d₀.Reaches d) : d₀.Reaches (d.clear fs) :=
  .foldl h fun _ _ hx => .drop hx

theorem when {c f} (h : d₀.Reaches d) (hf : ∀ x, d₀.Reaches x → d₀.Reaches (f x)) : d₀.Reaches (d.when c f) :=
  .ite (hf _ h) h

theorem each {n f} (h : d₀.Reaches d) (hf : ∀ x x1, d₀.Reaches x1 → d₀.Reaches (f x x1)) : d₀.Reaches (d.each n f) :=
  .foldl h fun _ _ hx => hf _ _ hx

theorem event {e src ps} (h : d₀.Reaches d) : d₀.Reaches (d.event e src ps) :=
  h

theorem eventM {e ps} (h : d₀.Reaches d) : d₀.Reaches (d.eventM e ps) :=
  .event h

theorem wornFlash (h : d₀.Reaches d) : d₀.Reaches d.wornFlash :=
  .ite h (.eventM (.raise h))

theorem flashWrite {f} (h : d₀.Reaches d) (hf : ∀ x, d₀.Reaches x → d₀.Reaches (f x)) : d₀.Reaches (d.flashWrite f) :=
  .ite (.wornFlash h) (hf _ h)

/-! ### The functions of Machine/Recorder.lean -/

theorem dropRecord {r} (h : d₀.Reaches d) : d₀.Reaches (d.dropRecord r) :=
  .raise (.incSat h)

theorem showRing (h : d₀.Reaches d) : d₀.Reaches d.showRing :=
  .wr (.flag (.wr h))

theorem onSets {f} (h : d₀.Reaches d) : d₀.Reaches (d.onSets f) := by
  unfold Dev.onSets
  extract_lets +onlyGivenNames _ d1
  have h1 : d₀.Reaches d1 := .ite (.withHist h) h
  exact .ite (.withHist h1) h1

theorem histEvent {r} (h : d₀.Reaches d) : d₀.Reaches (d.histEvent r) :=
  .ite (.wr (.onSets h)) h

theorem insertAt {slot r} (h : d₀.Reaches d) : d₀.Reaches (d.insertAt slot r) :=
  .histEvent (.showRing (.wr (.withEvrec h)))

theorem place {r} (h : d₀.Reaches d) : d₀.Reaches (Dev.insertRecord.place d r) := by
  refine .ite (.insertAt h) ?_
  split
  · exact .insertAt h
  · exact .dropRecord h

theorem insertRecord {r} (h : d₀.Reaches d) : d₀.Reaches (d.insertRecord r) := by
  unfold Dev.insertRecord
  split
  · exact .ite (.histEvent (.withEvrec h)) (.place h)
  · exact .place h

theorem holdRecord {r} (h : d₀.Reaches d) : d₀.Reaches (d.holdRecord r) :=
  .ite (.withEvrec h) (.ite (.wr (.withEvrec h)) (.dropRecord h))

theorem endFreeze (h : d₀.Reaches d) : d₀.Reaches d.endFreeze :=
  .ite (.foldl (.drop (.drop (.withEvrec h))) fun _ _ hx => .insertRecord hx) h

theorem freeze (h : d₀.Reaches d) : d₀.Reaches d.freeze :=
  .raise (.withEvrec h)

theorem beginFreeze {e} (h : d₀.Reaches d) (he : d.beginFreeze = .ok e) : d₀.Reaches e := by
  unfold Dev.beginFreeze at he
  split at he
  · cases he
  · split at he
    · cases he
    · split at he
      · split at he
        · cases he
        · cases he
          exact .freeze h
      · cases he
        exact .freeze h

theorem recorderTick (h : d₀.Reaches d) : d₀.Reaches d.recorderTick := by
  unfold Dev.recorderTick
  split
  · exact h
  · extract_lets +onlyGivenNames _ d1
    have h1 : d₀.Reaches d1 := .withEvrec h
    exact .ite h1 (.ite (.holdRecord h1) (.insertRecord h1))

theorem appendJournal {r} (h : d₀.Reaches d) : d₀.Reaches (d.appendJournal r) :=
  .withEvrec h

theorem journalSlot {k r} (h : d₀.Reaches d) : d₀.Reaches (d.journalSlot k r) :=
  .flashWrite h fun _ hx => .withEvrec (.appendJournal hx)

theorem powerFailJournal (h : d₀.Reaches d) : d₀.Reaches d.powerFailJournal :=
  .withEvrec (.foldl h fun _ _ hx => .journalSlot hx)

theorem restoreRing (h : d₀.Reaches d) : d₀.Reaches d.restoreRing :=
  .showRing (.raise (.wrSat (.wrSat (.wr (.foldl (.withEvrec h) fun _ _ hx => .wr hx)))))

theorem setEvLatch {p ws i} (h : d₀.Reaches d) : d₀.Reaches (d.setEvLatch p ws i) := by
  unfold Dev.setEvLatch
  split <;> exact .withEvrec h

theorem readEvData {p k} (h : d₀.Reaches d) : d₀.Reaches (d.readEvData p k).2 :=
  .setEvLatch h

/-! ### The functions of Machine/TimeOps.lean -/

/-- A change of the time base that leaves its rates. -/
theorem onTime {f} (h : d₀.Reaches d) (hr : (f d.time).rate = d.time.rate) (hf : (f d.time).freq = d.time.freq)
    (hb : (f d.time).rebase = d.time.rebase) : d₀.Reaches (d.onTime f) :=
  h.same (by simp only [Dev.ledger, Dev.onTime, hr, hf, hb])

/-- A change of the time base that drops a rate that waits. -/
theorem dropPlan {f} (h : d₀.Reaches d) (hr : (f d.time).rate = d.time.rate) (hf : (f d.time).freq = d.time.freq)
    (hb : (f d.time).rebase = none) : d₀.Reaches (d.onTime f) :=
  h.write (by simpa only [Dev.ledger, Dev.onTime, hr, hf, hb] using .dropPlan d.ledger)

/-- A change of the time base that starts its rates again at 0. -/
theorem zeroRates {f} (h : d₀.Reaches d) (hr : (f d.time).rate = 0) (hf : (f d.time).freq = 0)
    (hb : (f d.time).rebase = none) : d₀.Reaches (d.onTime f) :=
  h.write (by simpa only [Dev.ledger, Dev.onTime, hr, hf, hb] using .zeroRates d.ledger)

/-- A change of the time base by which a limited rate waits for its rebase, with the frequency as it is or limited. -/
theorem planRate {f y} (h : d₀.Reaches d) (hr : (f d.time).rate = d.time.rate)
    (hf : (f d.time).freq = d.time.freq ∨ ∃ x, (f d.time).freq = clampRate x)
    (hb : (f d.time).rebase = some (clampRate y)) : d₀.Reaches (d.onTime f) := by
  obtain hf | ⟨x, hf⟩ := hf
  · exact h.write (by simpa only [Dev.ledger, Dev.onTime, hr, hf, hb] using .planRate d.ledger y)
  · refine Relation.ReflTransGen.tail (Relation.ReflTransGen.tail h (.steer _ x)) ?_
    simpa only [Dev.ledger, Dev.onTime, hr, hf, hb] using Ledger.Write.planRate { d.ledger with freq := clampRate x } y

theorem refState (h : d₀.Reaches d) : d₀.Reaches d.refState :=
  .ite (.wr h) h

theorem restartTime {powerUp} (h : d₀.Reaches d) : d₀.Reaches (d.restartTime powerUp) :=
  .event (.incWrap (.refState (.wr (.raise (.clear (.zeroRates h rfl rfl rfl))))))

theorem disarmStep (h : d₀.Reaches d) : d₀.Reaches d.disarmStep :=
  .ite (.wr (.drop h)) (.ite (.wr (.drop h)) (.drop h))

theorem stepTime {ref c state} (h : d₀.Reaches d) : d₀.Reaches (d.stepTime ref c state) :=
  .event (.incWrap (.wr (.raise (.drop (.wr64 (.dropPlan h rfl rfl rfl))))))

theorem showError {e} (h : d₀.Reaches d) : d₀.Reaches (d.showError e) :=
  .maxTo (.wrInt h)

theorem servo {e delta slew} (h : d₀.Reaches d) : d₀.Reaches (d.servo e delta slew) := by
  refine .wrInt (.wrInt (.planRate h rfl ?_ rfl))
  dsimp only
  split
  · exact .inr ⟨_, rfl⟩
  · exact .inl rfl

theorem divergeTime (h : d₀.Reaches d) : d₀.Reaches d.divergeTime :=
  .event (.dropPlan (.raise (.raise (.wr h))) rfl rfl rfl)

theorem useSample {s} (h : d₀.Reaches d) : d₀.Reaches (d.useSample s) := by
  unfold Dev.useSample
  extract_lets +onlyGivenNames _ _ _ _ d1
  have h1 : d₀.Reaches d1 := .onTime (.raise (.showError h)) rfl rfl rfl
  refine .ite ?_ (.ite (.onTime (.ite h1 (.divergeTime h1)) rfl rfl rfl)
      (.onTime (.servo (.when (.onTime (.wr (.drop h1)) rfl rfl rfl) fun _ hx => .event hx)) rfl rfl rfl))
  split
  · exact .ite (.stepTime h1) (.onTime h1 rfl rfl rfl)
  · exact .onTime h1 rfl rfl rfl

theorem presentSample {ref} (h : d₀.Reaches d) : d₀.Reaches (d.presentSample ref) :=
  .ite h (.onTime (.incWrap h) rfl rfl rfl)

theorem rebaseTime (h : d₀.Reaches d) : d₀.Reaches d.rebaseTime := by
  unfold Dev.rebaseTime
  split
  next r hr => exact h.write (.applyPlan _ r hr)
  next => exact h

theorem followTime (h : d₀.Reaches d) : d₀.Reaches d.followTime := by
  refine .ite h ?_
  extract_lets +onlyGivenNames _ _ d1
  have h1 : d₀.Reaches d1 := .raise (.showError (.incWrap (.onTime h rfl rfl rfl)))
  exact .ite (.stepTime h1) (.ite (.onTime (.event h1) rfl rfl rfl) (.onTime (.servo h1) rfl rfl rfl))

/-! ### The functions of Machine/Requests.lean -/

theorem refuse {s} (h : d₀.Reaches d) : d₀.Reaches (d.refuse s).dev :=
  h

theorem done {body} (h : d₀.Reaches d) : d₀.Reaches (d.done body).dev :=
  h

theorem respond {k r s body dup trunc} (h : d₀.Reaches d) : d₀.Reaches (d.respond k r s body dup trunc) :=
  h

theorem touchSession {id} (h : d₀.Reaches d) : d₀.Reaches (d.touchSession id) :=
  h

theorem closeSession {id} (h : d₀.Reaches d) : d₀.Reaches (d.closeSession id) :=
  .wr h

theorem complete {k r s body} (h : d₀.Reaches d) : d₀.Reaches (d.complete k r s body) :=
  .incWrap h

theorem request {k r act} (h : d₀.Reaches d) (hact : ∀ x, d₀.Reaches x → d₀.Reaches (act x).dev) : d₀.Reaches
    (d.request k r act) := by
  unfold Dev.request
  split
  · exact h
  · extract_lets +onlyGivenNames d1
    have h1 : d₀.Reaches d1 := .touchSession h
    refine .ite (.closeSession (.respond h1)) (.ite (.respond h1) (.ite (.respond h1) ?_))
    split
    · exact .ite (.incSat (.respond h1)) (.respond h1)
    · split
      · exact .ite (.incSat (.respond h1)) (.respond h1)
      · exact .ite (.respond h1) (.ite (.same (hact _ h1) rfl) (.respond (.complete (hact _ h1))))

theorem finishRequest {k client id s body} (h : d₀.Reaches d) : d₀.Reaches (d.finishRequest k client id s body) := by
  unfold Dev.finishRequest
  split
  · exact h
  · exact .respond (.complete h)

theorem putPend {k p} (h : d₀.Reaches d) : d₀.Reaches (d.putPend k p) :=
  .wr (.wr (.wr (.wr h)))

theorem pendState {k p s} (h : d₀.Reaches d) : d₀.Reaches (d.pendState k p s) :=
  .eventM (.putPend h)

theorem withdrawAll (h : d₀.Reaches d) : d₀.Reaches d.withdrawAll :=
  .foldl h fun _ _ hx => .ite (.pendState hx) hx

/-! ### The functions of Machine/Router.lean -/

theorem fabClearMax {n} (h : d₀.Reaches d) : d₀.Reaches (d.fabClearMax n) :=
  .clear (.clear (.wr (.wr h)))

theorem fabClearCounts {n} (h : d₀.Reaches d) : d₀.Reaches (d.fabClearCounts n) :=
  .clear h

theorem downLink {t dir degraded} (h : d₀.Reaches d) : d₀.Reaches (d.downLink t dir degraded) :=
  .ite (.wr (.wr (.wr h))) (.wr (.wr (.wr h)))

theorem checkRoutes (h : d₀.Reaches d) : d₀.Reaches d.checkRoutes :=
  .each h fun _ _ hx => .ite (.event (.raise hx)) hx

theorem onFab {f} (h : d₀.Reaches d) : d₀.Reaches (d.onFab f) :=
  .withFab h

theorem putFlits {t k q} (h : d₀.Reaches d) : d₀.Reaches (d.putFlits t k q) :=
  .onFab h

theorem putOut {t o x} (h : d₀.Reaches d) : d₀.Reaches (d.putOut t o x) :=
  .onFab h

theorem sendFlit {t m} (h : d₀.Reaches d) : d₀.Reaches (d.sendFlit t m) := by
  unfold Dev.sendFlit
  extract_lets +onlyGivenNames _ d1
  have h1 : d₀.Reaches d1 := .putFlits h
  exact .putOut (.ite h1 (.putOut h1))

theorem transfer {t out} (h : d₀.Reaches d) : d₀.Reaches (d.transfer t out) := by
  unfold Dev.transfer
  extract_lets +onlyGivenNames _
  refine .ite h ?_
  extract_lets +onlyGivenNames _ _ _ _ _ _
  split
  · exact h
  · exact .withFree (.sendFlit (.ite (.putOut h) h))

theorem pump {t} (h : d₀.Reaches d) : d₀.Reaches (d.pump t) :=
  .each h fun _ _ hx => .transfer hx

theorem putRejections {t port seq n} (h : d₀.Reaches d) : d₀.Reaches (d.putRejections t port seq n) := by
  unfold Dev.putRejections
  split
  · exact .putOut h
  · exact .onFab h

theorem takeFlit {t io x} (h : d₀.Reaches d) : d₀.Reaches (d.takeFlit t io x) :=
  .onFab h

theorem queueFlit {t port x} (h : d₀.Reaches d) : d₀.Reaches (d.queueFlit t port x) :=
  .putFlits h

theorem acceptFlit {t port x} (h : d₀.Reaches d) : d₀.Reaches (d.acceptFlit t port x) := by
  unfold Dev.acceptFlit
  extract_lets +onlyGivenNames _ _ _ _ _ d1 d2 d3
  have h1 : d₀.Reaches d1 := by
    unfold d1
    split
    · exact .putOut (.onFab h)
    · exact .onFab (.putFlits (.onFab h))
  have h2 : d₀.Reaches d2 := .ite (.takeFlit h1) (.queueFlit h1)
  have h3 : d₀.Reaches d3 := by
    unfold d3
    split
    · exact .pump h2
    · exact h2
  exact .pump h3

theorem sendAgain {t port} (h : d₀.Reaches d) : d₀.Reaches (d.sendAgain t port) := by
  unfold Dev.sendAgain
  extract_lets +onlyGivenNames d1
  have h1 : d₀.Reaches d1 := by
    unfold d1
    split
    · exact .incSat (.incSat h)
    · exact h
  split
  · exact h1
  · exact .onFab h1

theorem flitReceive {t port seq ok flit} (h : d₀.Reaches d) : d₀.Reaches (d.flitReceive t port seq ok flit) := by
  refine .ite h ?_
  split
  · exact h
  · extract_lets +onlyGivenNames _ _
    refine .ite (.acceptFlit h) (.ite h ?_)
    extract_lets +onlyGivenNames _ d1
    have h1 : d₀.Reaches d1 := .putRejections h
    exact .ite (.sendAgain h1) h1

theorem moveReplay {t out} (h : d₀.Reaches d) : d₀.Reaches (d.moveReplay t out) :=
  .foldl (.putOut h) fun _ _ hx => .putFlits hx

theorem loseLink {t dir degraded} (h : d₀.Reaches d) : d₀.Reaches (d.loseLink t dir degraded) :=
  .foldl (.foldl (.downLink h) fun _ _ hx => .moveReplay hx) fun _ _ hx => .pump hx

theorem loseIoPort {t} (h : d₀.Reaches d) : d₀.Reaches (d.loseIoPort t) :=
  .ite (.pump (.moveReplay (.raise (.raise h)))) h

theorem failIn {n bad} (h : d₀.Reaches d) : d₀.Reaches (d.failIn n bad) :=
  .foldl h fun _ _ hx => .foldl hx fun _ _ hx => .ite (.loseLink hx) hx

theorem linkTest {n bad} (h : d₀.Reaches d) : d₀.Reaches (d.linkTest n bad) :=
  .ite (.checkRoutes (.failIn h)) h

/-! ### The functions of Machine/Actions.lean -/

theorem fldReclose (h : d₀.Reaches d) : d₀.Reaches d.fldReclose :=
  .withPower (.drop h)

theorem cycleClearMax (h : d₀.Reaches d) : d₀.Reaches d.cycleClearMax :=
  .drop h

theorem putTile {t x} (h : d₀.Reaches d) : d₀.Reaches (d.putTile t x) :=
  .withTiles h

theorem onRep {t r f} (h : d₀.Reaches d) : d₀.Reaches (d.onRep t r f) :=
  .putTile h

theorem perfClear (h : d₀.Reaches d) : d₀.Reaches d.perfClear := by
  unfold Dev.perfClear
  split
  · exact .onRep h
  · exact h

theorem perfLoad (h : d₀.Reaches d) : d₀.Reaches d.perfLoad :=
  .raise (.wr h)

theorem twinClearCounts (h : d₀.Reaches d) : d₀.Reaches d.twinClearCounts :=
  .clear h

theorem showElig (h : d₀.Reaches d) : d₀.Reaches d.showElig :=
  .flag (.wr h)

theorem setCause {k b} (h : d₀.Reaches d) : d₀.Reaches (d.setCause k b) :=
  .showElig (.withTwin h)

theorem startCopy (h : d₀.Reaches d) : d₀.Reaches d.startCopy := by
  unfold Dev.startCopy
  extract_lets +onlyGivenNames d1
  have h1 : d₀.Reaches d1 := .setCause h
  exact .ite (.raise (.drop (.wr h1))) (.drop h1)

theorem copyNow (h : d₀.Reaches d) : d₀.Reaches d.copyNow :=
  .ite (.startCopy h) h

theorem timeRestartCmd (h : d₀.Reaches d) : d₀.Reaches d.timeRestartCmd :=
  .ite (.restartTime h) h

theorem timeClearOverflow (h : d₀.Reaches d) : d₀.Reaches d.timeClearOverflow :=
  .drop h

theorem timeClearMax (h : d₀.Reaches d) : d₀.Reaches d.timeClearMax :=
  .drop h

theorem timeClearCounts (h : d₀.Reaches d) : d₀.Reaches d.timeClearCounts :=
  .clear h

theorem freezeCmd (h : d₀.Reaches d) : d₀.Reaches d.freezeCmd := by
  unfold Dev.freezeCmd
  split
  next he => exact .beginFreeze h he
  next => exact h

theorem unfreezeCmd (h : d₀.Reaches d) : d₀.Reaches d.unfreezeCmd :=
  .endFreeze h

theorem clearLost (h : d₀.Reaches d) : d₀.Reaches d.clearLost :=
  .clear h

theorem putSet {k x} (h : d₀.Reaches d) : d₀.Reaches (d.putSet k x) :=
  .ite (.withHist h) (.withHist h)

theorem histRebuild (h : d₀.Reaches d) : d₀.Reaches d.histRebuild := by
  unfold Dev.histRebuild
  extract_lets +onlyGivenNames _
  split
  · exact .ite h (.foldl (.withFree (.wr (.drop (.wr (.raise h))))) fun _ _ hx => .wr hx)
  · exact h

theorem histClearCounts (h : d₀.Reaches d) : d₀.Reaches d.histClearCounts :=
  .clear h

theorem secClearCounts (h : d₀.Reaches d) : d₀.Reaches d.secClearCounts :=
  .clear h

/-! ### The functions of Machine/LoopActions.lean -/

theorem onSlot {k f} (h : d₀.Reaches d) : d₀.Reaches (d.onSlot k f) :=
  .withLoop h

theorem onLink {g f} (h : d₀.Reaches d) : d₀.Reaches (d.onLink g f) :=
  .withLoop h

theorem onGroup {g f} (h : d₀.Reaches d) : d₀.Reaches (d.onGroup g f) :=
  .withLoop h

theorem onAwl {f} (h : d₀.Reaches d) : d₀.Reaches (d.onAwl f) :=
  .withLoop h

theorem setSlotState {k s} (h : d₀.Reaches d) : d₀.Reaches (d.setSlotState k s) :=
  .wr h

theorem awlStopInject (h : d₀.Reaches d) : d₀.Reaches d.awlStopInject :=
  .onAwl (.drop h)

theorem awlAbort (h : d₀.Reaches d) : d₀.Reaches d.awlAbort :=
  .ite (.wr (.raise (.awlStopInject h))) h

theorem awlTrigger (h : d₀.Reaches d) : d₀.Reaches d.awlTrigger :=
  .wr (.wr (.onAwl h))

theorem awlLoss {k} (h : d₀.Reaches d) : d₀.Reaches (d.awlLoss k) :=
  .ite h (.ite (.when (.awlStopInject (.awlTrigger h)) fun _ hx => .raise hx) (.awlAbort h))

theorem loopFault {k cause code} (h : d₀.Reaches d) : d₀.Reaches (d.loopFault k cause code) :=
  .ite h (.awlLoss (.event (.onSlot (.incSat (.wr (.setSlotState h))))))

theorem loopFaultReset {k} (h : d₀.Reaches d) : d₀.Reaches (d.loopFaultReset k) :=
  .ite (.onSlot h) h

theorem loopClearFlags {k} (h : d₀.Reaches d) : d₀.Reaches (d.loopClearFlags k) :=
  .clear h

theorem loopClearStats {k} (h : d₀.Reaches d) : d₀.Reaches (d.loopClearStats k) :=
  .clear h

theorem glinkClearCounts {g} (h : d₀.Reaches d) : d₀.Reaches (d.glinkClearCounts g) :=
  .clear h

theorem awlArm (h : d₀.Reaches d) : d₀.Reaches d.awlArm := by
  refine .ite (.raise h) ?_
  extract_lets +onlyGivenNames _ _ _ d1
  have h1 : d₀.Reaches d1 := .wr (.drop (.withHist (.drop (.onAwl h))))
  exact .ite (.awlTrigger h1) h1

theorem awlStart (h : d₀.Reaches d) : d₀.Reaches d.awlStart := by
  refine .ite (.raise h) ?_
  split
  · exact .raise h
  · exact .onAwl h

theorem awlStop (h : d₀.Reaches d) : d₀.Reaches d.awlStop :=
  .awlAbort h

/-! ### The functions of Machine/BridleOps.lean -/

theorem onBridle {f} (h : d₀.Reaches d) : d₀.Reaches (d.onBridle f) :=
  .withBridle h

theorem showPresence (h : d₀.Reaches d) : d₀.Reaches d.showPresence :=
  .flag (.flag h)

theorem compare {n old v} (h : d₀.Reaches d) : d₀.Reaches (d.compare n old v) :=
  h

theorem setBlock {g b} (h : d₀.Reaches d) : d₀.Reaches (d.setBlock g b) :=
  .ite h (.ite (.onLink (.raise (.raise h))) (.onLink (.drop h)))

theorem driveOutputs {gl} (h : d₀.Reaches d) : d₀.Reaches (d.driveOutputs gl) :=
  .each (.onBridle h) fun _ _ hx => .setBlock hx

theorem noteTrips {before} (h : d₀.Reaches d) : d₀.Reaches (d.noteTrips before) :=
  .foldl (.onBridle h) fun _ _ hx => .event hx

theorem showPoller (h : d₀.Reaches d) : d₀.Reaches d.showPoller :=
  .onBridle h

theorem takeProtect (h : d₀.Reaches d) : d₀.Reaches d.takeProtect :=
  .showPoller (.showPresence (.each (.onBridle h) fun _ _ hx => .compare hx))

theorem mirrorEquations (h : d₀.Reaches d) : d₀.Reaches d.mirrorEquations :=
  .each (.wr (.flag (.wr (.wr (.wr (.wr (.wr (.wr (.wr (.wr (.wr (.wr (.wr (.wr (.wr (.wr h))))))))))))))))
      fun _ _ hx => .wr (.wr hx)

theorem mirrorParams (h : d₀.Reaches d) : d₀.Reaches d.mirrorParams :=
  .each (.each (.wr (.wr (.wr h))) fun _ _ hx => .putWord hx) fun _ _ hx => .wrInt
      (.flag (.flag (.flag (.flag (.wr (.flag (.flag (.wr (.wr hx)))))))))

theorem mirrorState (h : d₀.Reaches d) : d₀.Reaches d.mirrorState :=
  .wrSat (.wr (.wr (.wr (.wrInt (.wr (.wr (.wr (.wrSat (.wr (.flag
      (.flag (.flag (.flag (.wr (.wr (.wr (.wr (.flag (.flag (.flag
      (.flag (.flag (.flag (.flag (.flag h)))))))))))))))))))))))))

/-! ### The functions of Machine/SafetyOps.lean -/

theorem onSafety {f} (h : d₀.Reaches d) : d₀.Reaches (d.onSafety f) :=
  .withSafety h

theorem onFn {n f} (h : d₀.Reaches d) : d₀.Reaches (d.onFn n f) :=
  .onSafety h

theorem onPair {k f} (h : d₀.Reaches d) : d₀.Reaches (d.onPair k f) :=
  .onSafety h

theorem onEnc {e f} (h : d₀.Reaches d) : d₀.Reaches (d.onEnc e f) :=
  .onSafety h

theorem lockPair {k cause} (h : d₀.Reaches d) : d₀.Reaches (d.lockPair k cause) :=
  .ite h (.event (.foldl (.onSafety (.onPair h)) fun _ _ hx => .onFn hx))

theorem switchPair {k} (h : d₀.Reaches d) : d₀.Reaches (d.switchPair k) :=
  .ite h (.ite (.ite (.lockPair h) h) (.onPair h))

theorem driveSafety (h : d₀.Reaches d) : d₀.Reaches d.driveSafety :=
  .driveOutputs (.each (.each h fun _ _ hx => .switchPair hx) fun _ _ hx => .when hx fun _ hx => .onEnc hx)

theorem monitorEncoders {mask} (h : d₀.Reaches d) : d₀.Reaches (d.monitorEncoders mask) :=
  .foldl h fun _ _ hx => .ite hx (.onEnc hx)

theorem demandFn {n} (h : d₀.Reaches d) : d₀.Reaches (d.demandFn n) :=
  .ite (.ite (.onFn h) h) (.onFn (.when h fun _ hx => .monitorEncoders hx))

theorem updateFn {n} (h : d₀.Reaches d) : d₀.Reaches (d.updateFn n) :=
  .ite h (.ite (.demandFn (.onFn h)) (.ite (.onFn (.onFn h)) (.onFn h)))

theorem updateFns (h : d₀.Reaches d) : d₀.Reaches d.updateFns :=
  .driveSafety (.each h fun _ _ hx => .updateFn hx)

theorem latchAgain {n cause} (h : d₀.Reaches d) : d₀.Reaches (d.latchAgain n cause) :=
  .updateFn (.event (.onSafety (.onFn h)))

theorem latchFn {n cause} (h : d₀.Reaches d) : d₀.Reaches (d.latchFn n cause) :=
  .ite h (.latchAgain h)

theorem edgeAtFn {r n} (h : d₀.Reaches d) : d₀.Reaches (d.edgeAtFn r n) :=
  .ite h (.ite h (.ite h (.ite (.onFn (.onFn h)) (.onFn h))))

theorem resetEdge {r} (h : d₀.Reaches d) : d₀.Reaches (d.resetEdge r) :=
  .ite h (.updateFns (.each (.each (.when h fun _ hx => .onFn hx) fun _ _ hx => .edgeAtFn hx) fun _ _ hx => .ite
      (.onPair hx) hx))

theorem feedbackLevel {k run} (h : d₀.Reaches d) : d₀.Reaches (d.feedbackLevel k run) :=
  .ite h (.ite (.ite (.onPair h) h) (.ite h (.lockPair h)))

theorem setChannel {c run} (h : d₀.Reaches d) : d₀.Reaches (d.setChannel c run) := by
  refine .ite h ?_
  extract_lets +onlyGivenNames x1 d2
  clear_value x1
  have h2 : d₀.Reaches d2 := .onSafety h
  refine .ite (.driveSafety (.feedbackLevel h2)) ?_
  extract_lets +onlyGivenNames d3 d4
  have h3 : d₀.Reaches d3 := by
    unfold d3
    split
    · exact .updateFn h2
    · exact h2
  have h4 : d₀.Reaches d4 := .driveSafety h3
  refine .ite ?_ h4
  split
  · exact .ite (.resetEdge h4) h4
  · exact h4

theorem discTick {n} (h : d₀.Reaches d) : d₀.Reaches (d.discTick n) :=
  .ite h (.ite (.latchFn (.onFn h)) (.onFn h))

theorem endStop {n} (h : d₀.Reaches d) : d₀.Reaches (d.endStop n) :=
  .onFn h

theorem stopWindow {e n} (h : d₀.Reaches d) : d₀.Reaches (d.stopWindow e n) := by
  unfold Dev.stopWindow
  extract_lets +onlyGivenNames _
  split
  · exact h
  · exact .ite h (.ite (.onEnc (.latchFn (.endStop (.onFn h)))) (.onFn h))

theorem enterDegraded (h : d₀.Reaches d) : d₀.Reaches d.enterDegraded :=
  .ite h (.driveSafety (.event (.onSafety h)))

theorem takeSafety (h : d₀.Reaches d) : d₀.Reaches d.takeSafety :=
  .updateFns (.onSafety h)

theorem leaveMaint (h : d₀.Reaches d) : d₀.Reaches d.leaveMaint :=
  .takeSafety (.ite h (.takeProtect h))

theorem safetyRole {prev new} (h : d₀.Reaches d) : d₀.Reaches (d.safetyRole prev new) := by
  unfold Dev.safetyRole
  extract_lets +onlyGivenNames d1 d2
  have h1 : d₀.Reaches d1 := .ite (.onSafety h) h
  have h2 : d₀.Reaches d2 := .ite h1 (.onBridle h1)
  exact .ite (.leaveMaint h2) (.updateFns h2)

theorem mirrorSafety (h : d₀.Reaches d) : d₀.Reaches d.mirrorSafety :=
  .wr (.each (.wr (.wr (.wr (.wr (.wr (.wr (.wr (.wr (.wr (.wr (.flag
      (.flag (.flag (.flag (.flag (.flag (.flag (.wr (.wr h))))))))))))))))))) fun _ _ hx => .flag (.flag (.wr hx)))

theorem bridleMirror (h : d₀.Reaches d) : d₀.Reaches d.bridleMirror :=
  .ite h (.mirrorSafety (.mirrorParams (.mirrorEquations (.mirrorState (.onBridle h)))))

/-! ### The functions of Machine/CanOps.lean -/

theorem onPort {n f} (h : d₀.Reaches d) : d₀.Reaches (d.onPort n f) :=
  .withCan h

theorem onBuf {n b f} (h : d₀.Reaches d) : d₀.Reaches (d.onBuf n b f) :=
  .onPort h

theorem putQueue {n q es} (h : d₀.Reaches d) : d₀.Reaches (d.putQueue n q es) :=
  .onPort h

theorem canReceive {n f looped t num} (h : d₀.Reaches d) : d₀.Reaches (d.canReceive n f looped t num) := by
  unfold Dev.canReceive
  split
  · exact .incSat h
  · extract_lets +onlyGivenNames d1
    have h1 : d₀.Reaches d1 := .onPort h
    exact .ite h1 (.ite (.incSat (.raise h1)) (.wr (.incWrap (.putQueue h1))))

theorem canErrors {n} (h : d₀.Reaches d) : d₀.Reaches (d.canErrors n) := by
  unfold Dev.canErrors
  extract_lets +onlyGivenNames _ _ _ x1 _ _ _ d2
  clear_value x1
  have h2 : d₀.Reaches d2 := .flag (.ite (.event h) h)
  refine .ite h2 ?_
  extract_lets +onlyGivenNames d3
  have h3 : d₀.Reaches d3 := .wr (.wr h2)
  split
  · exact .event h3
  · exact .event (.raise h3)
  · exact .flag (.event (.incSat (.raise h3)))

theorem canEndAttempt {n} (h : d₀.Reaches d) : d₀.Reaches (d.canEndAttempt n) :=
  .onPort h

theorem canError {n kind dataPhase tx heavy} (h : d₀.Reaches d) : d₀.Reaches (d.canError n kind dataPhase tx heavy)
    := by
  unfold Dev.canError
  extract_lets +onlyGivenNames _
  refine .ite (.wr h) (.ite ?_ (.canErrors (.onPort (.incSat (.wr h)))))
  extract_lets +onlyGivenNames _ d1
  have h1 : d₀.Reaches d1 := .canEndAttempt (.incSat (.wr h))
  exact .canErrors (.ite h1 (.onPort h1))

theorem canRecover {n} (h : d₀.Reaches d) : d₀.Reaches (d.canRecover n) :=
  .when h fun _ hx => .raise hx

theorem canRecovered {n} (h : d₀.Reaches d) : d₀.Reaches (d.canRecovered n) :=
  .ite (.event (.wr (.wr (.clear (.onPort h))))) h

theorem canLoad {n busyNs} (h : d₀.Reaches d) : d₀.Reaches (d.canLoad n busyNs) :=
  .maxTo (.wr (.onPort h))

theorem canSent {n b t num} (h : d₀.Reaches d) : d₀.Reaches (d.canSent n b t num) :=
  .maxTo (.wrSat (.wr64 (.incWrap (.onBuf h))))

theorem canOwn {n b f t num delay} (h : d₀.Reaches d) : d₀.Reaches (d.canOwn n b f t num delay) := by
  unfold Dev.canOwn
  extract_lets +onlyGivenNames d1 d2 d3
  have h1 : d₀.Reaches d1 := .onPort (.canSent h)
  have h2 : d₀.Reaches d2 := by
    unfold d2
    split
    · exact .when h1 fun _ hx => .wr hx
    · exact h1
  have h3 : d₀.Reaches d3 := .canErrors h2
  exact .ite (.canReceive h3) h3

theorem canOther {n f t num} (h : d₀.Reaches d) : d₀.Reaches (d.canOther n f t num) := by
  refine .ite ?_ (.canReceive (.canErrors (.withFree (.onPort h))))
  split
  · exact .canSent h
  · exact .canReceive h

theorem canComplete {n f own t busyNs delay} (h : d₀.Reaches d) : d₀.Reaches (d.canComplete n f own t busyNs delay)
    := by
  refine .ite h ?_
  extract_lets +onlyGivenNames _ _
  refine .ite ?_ (.canOther (.canLoad (.wr h)))
  split
  · exact .ite h (.ite (.canError (.withFree (.wr h))) (.canOwn (.canLoad (.wr h))))
  · exact h

theorem canRequest {n b} (h : d₀.Reaches d) : d₀.Reaches (d.canRequest n b) :=
  .ite h (.ite (.raise h) (.onBuf h))

theorem canCancel {n b} (h : d₀.Reaches d) : d₀.Reaches (d.canCancel n b) :=
  .ite h (.ite (.onBuf (.raise h)) (.onBuf h))

theorem canBits {v f} (h : d₀.Reaches d) (hf : ∀ x x1, d₀.Reaches x1 → d₀.Reaches (f x x1)) : d₀.Reaches
    (d.canBits v f) :=
  .foldl h fun _ _ hx => .ite (hf _ _ hx) hx

theorem canEdit {n f after} (h : d₀.Reaches d) (hafter : ∀ x, d₀.Reaches x → d₀.Reaches (after x)) : d₀.Reaches
    (d.canEdit n f after) :=
  .ite h (.ite (.raise h) (hafter _ (.onBuf h)))

theorem canWrite {n r v} (h : d₀.Reaches d) : d₀.Reaches (d.canWrite n r v) := by
  unfold Dev.canWrite
  split
  · exact .canBits h fun _ _ hx => .canRequest hx
  · exact .canBits h fun _ _ hx => .canCancel hx
  · exact .wr (.wr h)
  · exact .canEdit h fun _ hx => hx
  · exact .canEdit h fun _ hx => hx
  · exact .canEdit h fun _ hx => .wr hx
  · exact h

theorem canMissing {tack n} (h : d₀.Reaches d) : d₀.Reaches (d.canMissing tack n) :=
  .ite (.withTwin (.incSat h)) h

theorem canReadWord {tack n q} (h : d₀.Reaches d) : d₀.Reaches (d.canReadWord tack n q).2 := by
  unfold Dev.canReadWord
  extract_lets +onlyGivenNames _
  refine .iteSnd h ?_
  split
  · exact .canMissing h
  · exact .iteSnd (.wr (.raise h)) (.drop (.drop (.putQueue h)))

theorem canDiscard {n q} (h : d₀.Reaches d) : d₀.Reaches (d.canDiscard n q) :=
  .ite (.drop (.drop (.putQueue h))) h

theorem canFlush {n q} (h : d₀.Reaches d) : d₀.Reaches (d.canFlush n q) :=
  .drop (.drop (.putQueue h))

theorem canClearOverflow {n q} (h : d₀.Reaches d) : d₀.Reaches (d.canClearOverflow n q) :=
  .drop h

theorem canClearCounts {n} (h : d₀.Reaches d) : d₀.Reaches (d.canClearCounts n) :=
  .clear (.onPort h)

theorem canRole {prev new} (h : d₀.Reaches d) : d₀.Reaches (d.canRole prev new) := by
  refine .each h fun _ _ hx => ?_
  extract_lets +onlyGivenNames d1 d2
  have h1 : d₀.Reaches d1 := .ite hx (.canEndAttempt hx)
  have h2 : d₀.Reaches d2 := .ite (.drop h1) h1
  exact .ite (.addSat h2) h2

theorem canCut {nums} (h : d₀.Reaches d) : d₀.Reaches (d.canCut nums) := by
  refine .each h fun _ _ hx => ?_
  split
  · exact .wr hx
  · exact hx

/-! ### The functions of Machine/IoOps.lean -/

theorem onIo {f} (h : d₀.Reaches d) : d₀.Reaches (d.onIo f) :=
  .withIo h

theorem onAo {n f} (h : d₀.Reaches d) : d₀.Reaches (d.onAo n f) :=
  .onIo h

theorem showDio (h : d₀.Reaches d) : d₀.Reaches d.showDio := by
  unfold Dev.showDio
  extract_lets +onlyGivenNames _ _ _ d1
  have h1 : d₀.Reaches d1 := .flag (.flag (.onIo h))
  exact .ite (.event (.wr (.incSat (.raise h1)))) h1

theorem dioRelease {levels} (h : d₀.Reaches d) : d₀.Reaches (d.dioRelease levels) :=
  .showDio (.onIo (.wr (.wr h)))

theorem dioClearCounts (h : d₀.Reaches d) : d₀.Reaches d.dioClearCounts :=
  .clear h

theorem dioRaw {levels} (h : d₀.Reaches d) : d₀.Reaches (d.dioRaw levels) :=
  .wr (.onIo h)

theorem dioLevel {n} (h : d₀.Reaches d) : d₀.Reaches (d.dioLevel n) :=
  .ite h (.wr (.wr h))

theorem aoShow {n} (h : d₀.Reaches d) : d₀.Reaches (d.aoShow n) :=
  .wr (.ite h (.onAo (.wr h)))

theorem aoShowAll (h : d₀.Reaches d) : d₀.Reaches d.aoShowAll :=
  .each h fun _ _ hx => .aoShow hx

theorem aoRelease {n w} (h : d₀.Reaches d) : d₀.Reaches (d.aoRelease n w) :=
  .aoShow (.onAo (.wr h))

theorem aoSample {n raw} (h : d₀.Reaches d) : d₀.Reaches (d.aoSample n raw) :=
  .when (.wrInt (.onAo h)) fun _ hx => .maxTo hx

theorem aoFault {n cause} (h : d₀.Reaches d) : d₀.Reaches (d.aoFault n cause) :=
  .ite h (.event (.aoShow (.wr (.raise h))))

theorem aoFaultReset {n} (h : d₀.Reaches d) : d₀.Reaches (d.aoFaultReset n) :=
  .aoShow (.drop (.drop h))

theorem cloClearStats {n} (h : d₀.Reaches d) : d₀.Reaches (d.cloClearStats n) :=
  .clear h

theorem hartPoll {n} (h : d₀.Reaches d) : d₀.Reaches (d.hartPoll n) := by
  unfold Dev.hartPoll
  extract_lets +onlyGivenNames _ _
  refine .ite ?_ h
  split
  · exact h
  · exact .onAo (.ite (.onAo (.wr h)) h)

theorem hartEnd {n answer} (h : d₀.Reaches d) : d₀.Reaches (d.hartEnd n answer) := by
  unfold Dev.hartEnd
  extract_lets +onlyGivenNames _
  split
  · exact h
  · extract_lets +onlyGivenNames _ _ d1
    have h1 : d₀.Reaches d1 := .ite (.wr h) (.incSat (.wr h))
    refine .ite ?_ ?_
    · extract_lets +onlyGivenNames d2 d3
      have h2 : d₀.Reaches d2 := .onAo h1
      have h3 : d₀.Reaches d3 := by
        unfold d3
        split
        · exact .finishRequest h2
        · exact h2
      exact .onAo h3
    · extract_lets +onlyGivenNames _ d4
      have h4 : d₀.Reaches d4 := .onAo (.onAo h1)
      exact .ite (.event h4) h4

theorem hartShow (h : d₀.Reaches d) : d₀.Reaches d.hartShow :=
  .each h fun _ _ hx => .onAo hx

theorem streamFa {n v} (h : d₀.Reaches d) : d₀.Reaches (d.streamFa n v) :=
  .withHist h

theorem faConvert {n raw} (h : d₀.Reaches d) : d₀.Reaches (d.faConvert n raw) :=
  .wrInt (.wrInt (.wrInt (.wrInt (.when (.flag (.streamFa (.onIo h))) fun _ hx => .raise hx))))

theorem faiClear {n} (h : d₀.Reaches d) : d₀.Reaches (d.faiClear n) :=
  .wr (.wr h)

theorem showCal (h : d₀.Reaches d) : d₀.Reaches d.showCal :=
  .each (.each (.wr (.wr (.wr (.wr (.flag (.wr h)))))) fun _ _ hx => .flag (.flag hx)) fun _ _ hx => .flag (.flag hx)

theorem useCal (h : d₀.Reaches d) : d₀.Reaches d.useCal :=
  .onIo h

theorem loadCal (h : d₀.Reaches d) : d₀.Reaches d.loadCal :=
  .foldl (.showCal (.useCal h)) fun _ _ hx => .event hx

theorem calDrop (h : d₀.Reaches d) : d₀.Reaches d.calDrop :=
  .onIo h

theorem calPoint {path reference raw} (h : d₀.Reaches d) : d₀.Reaches (d.calPoint path reference raw) := by
  unfold Dev.calPoint
  extract_lets +onlyGivenNames _
  split
  · exact .ite (.onIo h) (.onIo h)
  · exact .onIo h

theorem calWrite {rs} (h : d₀.Reaches d) : d₀.Reaches (d.calWrite rs) :=
  .flashWrite h fun _ hx => .showCal (.foldl hx fun _ _ hx => .event (.onIo hx))

theorem ioRole {prev new} (h : d₀.Reaches d) : d₀.Reaches (d.ioRole prev new) := by
  unfold Dev.ioRole
  extract_lets +onlyGivenNames _ d1 d2
  have h1 : d₀.Reaches d1 := .ite (.each (.flag h) fun _ _ hx => .foldl (.onAo hx) fun _ _ hx => .finishRequest hx)
      (.flag h)
  have h2 : d₀.Reaches d2 := .ite (.each h1 fun _ _ hx => .onAo hx) h1
  exact .aoShowAll (.showDio (.ite h2 (.calDrop h2)))

/-! ### The functions of Machine/LifeOps.lean -/

/-- A change of the service memory that leaves the tag and the fuses. -/
theorem onLife {f} (h : d₀.Reaches d) (ht : (f d.life).tag = d.life.tag) (hf : (f d.life).fused = d.life.fused) :
    d₀.Reaches (d.onLife f) :=
  h.same (by simp only [Dev.ledger, Dev.onLife, ht, hf])

theorem showRepair (h : d₀.Reaches d) : d₀.Reaches d.showRepair := by
  unfold Dev.showRepair
  extract_lets +onlyGivenNames _ _ _ _ _
  refine .each (.wrSat (.wr (.wr (.flag h)))) fun _ _ hx => ?_
  extract_lets +onlyGivenNames _ _ _ _ _ _ _ d1
  have h1 : d₀.Reaches d1 := .wrSat (.wrSat (.wrSat (.wrSat (.flag (.flag (.wr (.wr hx)))))))
  split
  · exact .wrSat (.wrSat (.wr (.wr h1)))
  · exact .clear h1

theorem showSeal (h : d₀.Reaches d) : d₀.Reaches d.showSeal := by
  unfold Dev.showSeal
  split
  · exact .wr64 (.flag h)
  · exact .clear h

theorem readSeal (h : d₀.Reaches d) : d₀.Reaches d.readSeal := by
  unfold Dev.readSeal
  extract_lets +onlyGivenNames d1
  have h1 : d₀.Reaches d1 := .ite (.onLife h (LifeSt.writeMap_tag _ _) (LifeSt.writeMap_fused _ _)) h
  exact .showRepair (.showSeal (.onLife (.flag (.wr (.ite (.eventM h1) h1))) rfl rfl))

theorem shutdownTest (h : d₀.Reaches d) : d₀.Reaches d.shutdownTest :=
  .ite (.raise h) (.ite h (.onLife (.each (.each (.drop (.raise h)) fun _ _ hx => .raise hx) fun _ _ hx => .raise hx)
      rfl rfl))

theorem applyFindings {f} (h : d₀.Reaches d) : d₀.Reaches (d.applyFindings f) :=
  .ite h (.flashWrite h fun _ h => .onLife h (LifeSt.writeMap_tag _ _) (LifeSt.writeMap_fused _ _))

theorem failLinks {f} (h : d₀.Reaches d) : d₀.Reaches (d.failLinks f) :=
  .checkRoutes (.foldl h fun _ _ hx => .failIn hx)

theorem endTest {kind f} (h : d₀.Reaches d) : d₀.Reaches (d.endTest kind f) := by
  unfold Dev.endTest
  extract_lets +onlyGivenNames _ _ _ _ _ _ d1
  have h1 : d₀.Reaches d1 := .each (.wrSat (.wrSat (.wr (.wr (.wr (.ite (.failLinks (.applyFindings h)) h))))))
      fun _ _ hx => .wr hx
  exact .showRepair (.showSeal (.ite (.flashWrite h1 fun _ hx => .onLife hx rfl rfl) h1))

theorem abortTest (h : d₀.Reaches d) : d₀.Reaches d.abortTest :=
  .ite (.wr (.drop (.onLife h rfl rfl))) h

theorem clustersOff (h : d₀.Reaches d) : d₀.Reaches d.clustersOff :=
  .each (.each h fun _ _ hx => .clear hx) fun _ _ hx => .drop hx

theorem writeStatus {s} (h : d₀.Reaches d) : d₀.Reaches (d.writeStatus s) :=
  h

theorem fuseCommit (h : d₀.Reaches d) : d₀.Reaches d.fuseCommit :=
  .ite h (.ite (.writeStatus h) (.ite (.writeStatus h) (.wrSat (.onLife h rfl rfl))))

theorem fuseBurn (h : d₀.Reaches d) : d₀.Reaches d.fuseBurn := by
  unfold Dev.fuseBurn
  split
  · exact h
  next e es _ =>
    extract_lets d1 d2
    have h1 : d₀.Reaches d1 := h.write (by
      simpa only [d1, Dev.ledger, Dev.onLife, LifeSt.writeMap_tag] using .fuse d.ledger e)
    have h2 : d₀.Reaches d2 := by
      unfold d2
      split
      · split
        · exact .when h1 fun _ h => .raise h
        · exact h1
      · exact h1
      · exact h1
    exact .eventM (.showRepair h2)

theorem clearSoft (h : d₀.Reaches d) : d₀.Reaches d.clearSoft :=
  .ite (.onLife h rfl rfl) h

theorem lifeClearCounts (h : d₀.Reaches d) : d₀.Reaches d.lifeClearCounts :=
  .clear h

theorem showFlash (h : d₀.Reaches d) : d₀.Reaches d.showFlash :=
  .wrSat (.wrSat (.flag (.wrSat h)))

theorem openIntents {bs} (h : d₀.Reaches d) : d₀.Reaches (d.openIntents bs) :=
  .onLife h rfl rfl

theorem closeIntent {b} (h : d₀.Reaches d) : d₀.Reaches (d.closeIntent b) :=
  .showFlash (.onLife h rfl rfl)

theorem suspendErase (h : d₀.Reaches d) : d₀.Reaches d.suspendErase :=
  .ite h (.incSat h)

theorem reerase (h : d₀.Reaches d) : d₀.Reaches d.reerase := by
  unfold Dev.reerase
  extract_lets +onlyGivenNames _ d1
  have h1 : d₀.Reaches d1 := by
    refine .foldl h fun _ _ hx => ?_
    extract_lets +onlyGivenNames _ d2 _ d3 _ d4
    have h2 : d₀.Reaches d2 := by
      unfold d2
      split
      · exact .withHrn hx
      · exact hx
    have h3 : d₀.Reaches d3 := by
      unfold d3
      split
      · split
        · exact .withCycle h2
        · exact h2
      · exact h2
    have h4 : d₀.Reaches d4 := .withEvrec h3
    exact .onLife (.ite (.onLife h4 rfl rfl) (.ite (.onLife h4 rfl rfl) h4)) rfl rfl
  exact .showFlash (.addSat (.onLife h1 rfl rfl))

theorem showQueue (h : d₀.Reaches d) : d₀.Reaches d.showQueue :=
  .wr h

theorem writeHostPage {n content} (h : d₀.Reaches d) : d₀.Reaches (d.onLife fun l => l.writeHostPage n content) :=
  h.write (.tagBytes _ _ _)

theorem hostWrite {n content} (h : d₀.Reaches d) : d₀.Reaches (d.hostWrite n content) :=
  .ite (.writeHostPage h) (.ite (.onLife h rfl rfl) (.ite (.showQueue (.onLife h rfl rfl)) (.incSat
    (.onLife h rfl rfl))))

theorem unlockTag (h : d₀.Reaches d) : d₀.Reaches d.unlockTag := by
  unfold Dev.unlockTag
  split
  · exact h
  · exact .showQueue (.clear (.foldl (.onLife (.maxTo h) rfl rfl) fun _ _ h => .writeHostPage h))

/-! ### The functions of Machine/RingOps.lean -/

theorem onRing {f} (h : d₀.Reaches d) : d₀.Reaches (d.onRing f) :=
  .withRing h

theorem onRingPort {k f} (h : d₀.Reaches d) : d₀.Reaches (d.onRingPort k f) :=
  .onRing h

theorem onStation {n f} (h : d₀.Reaches d) : d₀.Reaches (d.onStation n f) :=
  .onRing h

theorem mapBit {f n b} (h : d₀.Reaches d) : d₀.Reaches (d.mapBit f n b) :=
  .wr h

theorem closePeriod {k} (h : d₀.Reaches d) : d₀.Reaches (d.closePeriod k) := by
  unfold Dev.closePeriod
  extract_lets +onlyGivenNames _ d1 _ _ _ _ d2
  have h1 : d₀.Reaches d1 := .maxTo (.wrSat h)
  have h2 : d₀.Reaches d2 := .flag (.flag (.each (.ite (.event (.raise h1)) h1) fun _ _ hx => .wr hx))
  exact .onRingPort (.ite (.flag h2) h2)

theorem countMissed (h : d₀.Reaches d) : d₀.Reaches d.countMissed :=
  .foldl h fun _ _ hx => .ite (.onStation (.ite (.incSat (.incSat hx)) hx)) hx

theorem sendTwin (h : d₀.Reaches d) : d₀.Reaches d.sendTwin.2 :=
  .iteSnd (.onRing h) ((.each (.onRing h) fun _ _ hx => .wr hx))

theorem noteSent {k type number} (h : d₀.Reaches d) : d₀.Reaches (d.noteSent k type number) :=
  .onRingPort h

theorem sendPeriod (h : d₀.Reaches d) : d₀.Reaches d.sendPeriod := by
  unfold Dev.sendPeriod
  split
  next _ d1 he1 =>
    have h1 : d₀.Reaches d1 := .ofSnd he1 (.sendTwin h)
    extract_lets +onlyGivenNames _ _ _ _ d2 _ d3
    have h2 : d₀.Reaches d2 := .each (.onRing h1) fun _ _ hx => .onRingPort (.noteSent (.wr (.wr (.wr hx))))
    have h3 : d₀.Reaches d3 := by
      unfold d3
      split
      · exact .withTwin (.wrSat h2)
      · exact h2
    exact .withFree h3

theorem ringPeriod (h : d₀.Reaches d) : d₀.Reaches d.ringPeriod := by
  refine .ite h ?_
  extract_lets +onlyGivenNames d1
  have h1 : d₀.Reaches d1 := .countMissed (.each h fun _ _ hx => .closePeriod hx)
  exact .ite (.sendPeriod h1) (.onRing h1)

theorem ringError {k f} (h : d₀.Reaches d) : d₀.Reaches (d.ringError k f) :=
  .onRingPort (.incSat h)

theorem checkFrame {k c f} (h : d₀.Reaches d) : d₀.Reaches (d.checkFrame k c f).2 := by
  unfold Dev.checkFrame
  extract_lets +onlyGivenNames d1
  have h1 : d₀.Reaches d1 := .onRingPort h
  split
  · exact .ringError h1
  · exact .ringError h1
  · exact .ringError h1
  · exact .ringError h1
  · exact .iteSnd (.onRing (.incWrap h1)) h1

theorem acceptFrame {k n seq data} (h : d₀.Reaches d) : d₀.Reaches (d.acceptFrame k n seq data) := by
  unfold Dev.acceptFrame
  extract_lets +onlyGivenNames _ _ _ d1
  have h1 : d₀.Reaches d1 := .mapBit (.mapBit (.incWrap (.onStation h)))
  exact .ite (.event (.mapBit (.mapBit h1))) h1

theorem acceptSeq {k n seq} (h : d₀.Reaches d) : d₀.Reaches (d.acceptSeq k n seq).2 := by
  unfold Dev.acceptSeq
  extract_lets +onlyGivenNames _
  split
  · exact h
  · exact .iteSnd h (.iteSnd (.incWrap h) (.incSat h))

theorem noteObeyed {k n f} (h : d₀.Reaches d) : d₀.Reaches (d.noteObeyed k n f) :=
  .mapBit h

theorem noteStation {e f} (h : d₀.Reaches d) : d₀.Reaches (d.noteStation e f) := by
  unfold Dev.noteStation
  extract_lets +onlyGivenNames _ _ _ _ _ _ d1 d2 _ _ _ d3
  have h1 : d₀.Reaches d1 := .onStation (.mapBit (.mapBit h))
  have h2 : d₀.Reaches d2 := .ite (.onRing (.wr h1)) h1
  have h3 : d₀.Reaches d3 := .ite h1 (.ite (.withPower h2) h2)
  refine .ite ?_ h3
  extract_lets +onlyGivenNames _ _ _ _ d4
  have h4 : d₀.Reaches d4 := .onStation (.withTwin h3)
  exact .ite (.onStation h4) h4

theorem showTokens (h : d₀.Reaches d) : d₀.Reaches d.showTokens := by
  unfold Dev.showTokens
  extract_lets +onlyGivenNames _ _ _ d1
  have h1 : d₀.Reaches d1 := .wrSat (.wrSat h)
  exact .ite (.maxTo (.wrSat (.withTwin h1))) h1

theorem inputFrame {k c f} (h : d₀.Reaches d) : d₀.Reaches (d.inputFrame k c f) := by
  refine .ite h ?_
  split
  next _ d1 he1 =>
    have h1 : d₀.Reaches d1 := .ofSnd he1 (.checkFrame h)
    split
    · exact h1
    · refine .ite h1 ?_
      extract_lets +onlyGivenNames _ _ d2
      have h2 : d₀.Reaches d2 := .noteObeyed (.onRingPort h1)
      exact .showTokens (.ite (.acceptFrame (.noteStation (.ite (.incWrap (.acceptSeq h2)) (.acceptSeq h2))))
          (.acceptSeq h2))

theorem peerFrame {k c f} (h : d₀.Reaches d) : d₀.Reaches (d.peerFrame k c f) := by
  refine .ite h ?_
  split
  next _ d1 he1 =>
    have h1 : d₀.Reaches d1 := .ofSnd he1 (.checkFrame h)
    extract_lets +onlyGivenNames _ _ _
    split
    · exact h1
    · refine .ite h1 ?_
      extract_lets +onlyGivenNames _ _ d2 _ _ _
      have h2 : d₀.Reaches d2 := .onRingPort h1
      split
      · exact .incWrap (.acceptFrame (.foldl h2 fun _ _ hx => .onStation hx))
      · exact .ite (.incWrap (.acceptFrame (.foldl h2 fun _ _ hx => .onStation hx)))
            (.ite (.ite (.incWrap (.acceptFrame (.foldl (.acceptSeq h2) fun _ _ hx => .onStation hx)))
            (.acceptSeq h2)) (.incSat h2))

theorem forwardFrame {k c f} (h : d₀.Reaches d) : d₀.Reaches (d.forwardFrame k c f) := by
  refine .ite h ?_
  extract_lets +onlyGivenNames _ _
  refine .ite ?_ ?_
  · split
    next _ d1 he1 =>
      have h1 : d₀.Reaches d1 := .ofSnd he1 (.checkFrame h)
      refine .ite ?_ h1
      extract_lets +onlyGivenNames d2 _
      have h2 : d₀.Reaches d2 := .onRingPort h1
      split
      · exact .maxTo (.wrSat h2)
      · exact h2
  · extract_lets +onlyGivenNames d3
    have h3 : d₀.Reaches d3 := .onRingPort h
    refine .ite ?_ h3
    extract_lets +onlyGivenNames d4
    have h4 : d₀.Reaches d4 := .onRing h3
    exact .ite (.wr (.incWrap h4)) h4

theorem dropStation {n} (h : d₀.Reaches d) : d₀.Reaches (d.dropStation n) := by
  unfold Dev.dropStation
  split
  · exact h
  · exact .ite (.event (.mapBit (.mapBit (.onStation h)))) h

theorem breakRing {k} (h : d₀.Reaches d) : d₀.Reaches (d.breakRing k) :=
  .ite (.event (.drop (.wr (.wr (.incSat (.drop (.raise (.onRingPort h)))))))) h

theorem locateBreak {k} (h : d₀.Reaches d) : d₀.Reaches (d.locateBreak k) := by
  refine .ite ?_ h
  split
  · exact .raise (.wr h)
  · exact .drop (.wr h)

theorem restoreBreak {k} (h : d₀.Reaches d) : d₀.Reaches (d.restoreBreak k) :=
  .ite (.event (.raise (.onRingPort h))) h

theorem distributeKey {peers} (h : d₀.Reaches d) : d₀.Reaches (d.distributeKey peers) := by
  refine .ite h (.each h fun _ _ hx => .ite ?_ (.drop (.wr hx)))
  extract_lets +onlyGivenNames _ d1
  have h1 : d₀.Reaches d1 := .wrSat (.wr hx)
  exact .raise (.ite h1 (.incSat (.incWrap h1)))

theorem ringClearCounts {k} (h : d₀.Reaches d) : d₀.Reaches (d.ringClearCounts k) :=
  .clear h

theorem ringClearMax {k} (h : d₀.Reaches d) : d₀.Reaches (d.ringClearMax k) :=
  .clear h

/-! ### The functions of Machine/RegAccess.lean -/

theorem setLatches {p offs} (h : d₀.Reaches d) : d₀.Reaches (d.setLatches p offs) :=
  Relation.ReflTransGen.trans h (Ledger.reaches_latches _ _ _ offs)

theorem readMapped {p off} (h : d₀.Reaches d) : d₀.Reaches (d.readMapped p off).2 := by
  refine .iteSnd (.readEvData h) (.iteSnd h (.iteSnd h ?_))
  split
  · exact .canReadWord h
  · exact .setLatches h

theorem countAccess {p off write} (h : d₀.Reaches d) : d₀.Reaches (d.countAccess p off write) :=
  .flag (.flag (.wr (.incSat h)))

theorem readReg {p off} (h : d₀.Reaches d) : d₀.Reaches (d.readReg p off).2 := by
  unfold Dev.readReg
  split
  · exact .readMapped h
  · exact .countAccess h

theorem readShown {p off} (h : d₀.Reaches d) : d₀.Reaches (d.readShown p off) :=
  .same (.readMapped h) rfl

theorem runAction {off k} (h : d₀.Reaches d) : d₀.Reaches (d.runAction off k) := by
  refine .ite (.fldReclose h) (.ite (.perfClear h) (.ite (.cycleClearMax h)
      (.ite (.ite (.fabClearMax h) (.ite (.fabClearCounts h) (.withFree (.linkTest h))))
      (.ite (.ite (.awlArm h) (.ite (.awlStart h) (.awlStop h))) (.ite
      (.ite (.loopFaultReset h) (.ite (.loopClearFlags h) (.loopClearStats h)))
      (.ite (.glinkClearCounts h) (.ite (.ite (.twinClearCounts h) (.copyNow h))
      (.ite (.ite (.timeRestartCmd h) (.ite (.timeClearOverflow h) (.ite (.timeClearMax h) (.timeClearCounts h))))
      (.ite (.ite (.freezeCmd h) (.ite (.unfreezeCmd h) (.clearLost h)))
      (.ite (.ite (.histRebuild h) (.histClearCounts h)) (.ite (.secClearCounts h)
      (.ite (.ite (.ringClearCounts h) (.ringClearMax h)) (.ite (.dioClearCounts h)
      (.ite (.ite (.aoFaultReset h) (.cloClearStats h)) (.ite (.faiClear h)
      (.ite ?_ (.ite (.ite (.shutdownTest h) (.ite (.fuseCommit h) (.ite (.clearSoft h) (.lifeClearCounts h))))
      h)))))))))))))))))
  extract_lets +onlyGivenNames _
  split
  · exact .ite (.canRecover h) (.canClearCounts h)
  · exact .ite (.canDiscard h) (.ite (.canFlush h) (.canClearOverflow h))
  · exact .ite (.canDiscard h) (.ite (.canFlush h) (.canClearOverflow h))
  · exact h

theorem afterWrite {off} (h : d₀.Reaches d) : d₀.Reaches (d.afterWrite off) :=
  .ite (.refState h) (.ite (.drop h) (.ite (.ite (.withCycle (.drop h)) h) h))

theorem writeReg {p off v} (h : d₀.Reaches d) : d₀.Reaches (d.writeReg p off v) := by
  unfold Dev.writeReg
  split
  · exact .countAccess h
  · exact .ite h (.ite (.ite (.canWrite h) h) (.ite (.setEvLatch h)
        (.foldl (.afterWrite (.putWord h)) fun _ _ hx => .runAction hx)))

theorem applyStaged (h : d₀.Reaches d) : d₀.Reaches d.applyStaged :=
  .foldl h fun _ _ hx => .writeReg hx

theorem mgmtWrite {off v} (h : d₀.Reaches d) : d₀.Reaches (d.mgmtWrite off v) :=
  .ite (.writeReg h) h

theorem writeOpen {off v} (h : d₀.Reaches d) : d₀.Reaches (d.writeOpen off v) := by
  unfold Dev.writeOpen
  split
  · exact h
  · exact .ite (.mgmtWrite h) h

theorem reportedWrite {off v} (h : d₀.Reaches d) : d₀.Reaches (d.reportedWrite off v) := by
  unfold Dev.reportedWrite
  split
  · exact .writeStatus h
  · exact .writeStatus (.writeOpen h)
  · exact .mgmtWrite (.writeStatus h)

/-! ### The functions of Machine/TackOps.lean -/

theorem tackRaise {t r c cause eval dev} (h : d₀.Reaches d) : d₀.Reaches (d.tackRaise t r c cause eval dev) := by
  unfold Dev.tackRaise
  extract_lets +onlyGivenNames _ _
  refine .ite h ?_
  extract_lets +onlyGivenNames d1
  have h1 : d₀.Reaches d1 := by
    unfold d1
    split
    · exact .when h fun _ hx => .countAccess hx
    · exact h
  exact .onRep h1

theorem tackStep {t r f} (h : d₀.Reaches d) : d₀.Reaches (d.tackStep t r f) := by
  unfold Dev.tackStep
  split
  · exact h
  · extract_lets +onlyGivenNames _
    refine .ite (.tackRaise h) ?_
    split
    · exact .onRep h
    · exact .onRep h
    · exact h
    · exact .tackRaise h

theorem tackAlu {t r rd v} (h : d₀.Reaches d) : d₀.Reaches (d.tackAlu t r rd v) :=
  .tackStep h

theorem tackLoad {t r rd ra imm n signed} (h : d₀.Reaches d) : d₀.Reaches (d.tackLoad t r rd ra imm n signed) :=
  .tackStep h

theorem tackStore {t r rs ra imm n} (h : d₀.Reaches d) : d₀.Reaches (d.tackStore t r rs ra imm n) :=
  .tackStep h

theorem tackBranch {t r ra rb off miss test} (h : d₀.Reaches d) : d₀.Reaches (d.tackBranch t r ra rb off miss test) :=
  .tackStep h

/-! ### The functions of Machine/LoopOps.lean -/

theorem retireEnd {t r k} (h : d₀.Reaches d) : d₀.Reaches (d.retireEnd t r k) := by
  unfold Dev.retireEnd
  split
  · exact h
  · exact .onRep (.onSlot h)

theorem impliedEnd {t r i} (h : d₀.Reaches d) : d₀.Reaches (d.impliedEnd t r i) :=
  .ite (.retireEnd h) h

theorem loopStepThen {t r f g} (h : d₀.Reaches d) (hg : ∀ x x1 x2, d₀.Reaches x2 → d₀.Reaches (g x x1 x2)) :
    d₀.Reaches (d.loopStepThen t r f g) := by
  unfold Dev.loopStepThen
  split
  · exact h
  · extract_lets +onlyGivenNames _
    split
    extract_lets +onlyGivenNames d3 d4
    have h3 : d₀.Reaches d3 := .onSlot h
    have h4 : d₀.Reaches d4 := by
      unfold d4
      split
      · exact .raise h3
      · exact h3
    exact .impliedEnd (hg _ _ _ h4)

theorem loopRetire {t r g} (h : d₀.Reaches d) (hg : ∀ x x1 x2, d₀.Reaches x2 → d₀.Reaches (g x x1 x2)) : d₀.Reaches
    (d.loopRetire t r g) :=
  .ite h (.loopStepThen h fun _ _ _ hx => hg _ _ _ hx)

theorem loopEnd {t r} (h : d₀.Reaches d) : d₀.Reaches (d.loopEnd t r) := by
  unfold Dev.loopEnd
  split
  · exact .ite (.impliedEnd h) h
  · exact .loopRetire h fun _ _ _ hx => .retireEnd hx

theorem loopStep {t r f} (h : d₀.Reaches d) : d₀.Reaches (d.loopStep t r f) :=
  .loopStepThen h fun _ _ _ hx => hx

theorem loopAcc {t r a v} (h : d₀.Reaches d) : d₀.Reaches (d.loopAcc t r a v) :=
  .loopStep h

theorem loopNode {t r n g v} (h : d₀.Reaches d) : d₀.Reaches (d.loopNode t r n g v) :=
  .loopStep h

theorem awlAdvance (h : d₀.Reaches d) : d₀.Reaches d.awlAdvance :=
  .onAwl h

theorem awlInject {k} (h : d₀.Reaches d) : d₀.Reaches (d.awlInject k) := by
  unfold Dev.awlInject
  extract_lets +onlyGivenNames _ _ _ d1
  have h1 : d₀.Reaches d1 := .when (.raise h) fun _ hx => .awlTrigger hx
  exact .awlAdvance (.ite (.onSlot (.when h1 fun _ hx => .raise hx)) h1)

theorem awlCapture {t k} (h : d₀.Reaches d) : d₀.Reaches (d.awlCapture t k) :=
  .ite h (.ite (.onAwl h) (.ite (.ite (.wr (.wr (.onAwl h))) (.wr (.onAwl h))) h))

theorem triggerSlot {i number stale} (h : d₀.Reaches d) : d₀.Reaches (d.triggerSlot i number stale) :=
  .ite h (.onSlot h)

theorem applyReset {i s} (h : d₀.Reaches d) : d₀.Reaches (d.applyReset i s) :=
  .ite h (.onSlot (.drop (.setSlotState h)))

theorem advanceSlot {i} (h : d₀.Reaches d) : d₀.Reaches (d.advanceSlot i) := by
  unfold Dev.advanceSlot
  extract_lets +onlyGivenNames _
  split
  · refine .ite ?_ h
    extract_lets +onlyGivenNames _ d1
    have h1 : d₀.Reaches d1 := .onSlot h
    exact .ite (.setSlotState h1) h1
  · exact .onSlot (.setSlotState h)
  · exact .onSlot h

theorem beginSample {t i s fwd} (h : d₀.Reaches d) : d₀.Reaches (d.beginSample t i s fwd) := by
  unfold Dev.beginSample
  extract_lets +onlyGivenNames _ _ d1 d2 _ _ _ _ _ _ _ _ _ _ _ _ d3
  have h1 : d₀.Reaches d1 := .onSlot (.applyReset h)
  have h2 : d₀.Reaches d2 := by
    refine .ite ?_ h1
    split <;> exact .onSlot h1
  have h3 : d₀.Reaches d3 := .putTile (.onSlot (.advanceSlot h2))
  exact .ite (.awlInject h3) h3

theorem rotorLost {i} (h : d₀.Reaches d) : d₀.Reaches (d.rotorLost i) := by
  unfold Dev.rotorLost
  extract_lets +onlyGivenNames _ _ d1
  have h1 : d₀.Reaches d1 := .event (.onSlot (.raise h))
  split
  · exact .loopFault h1
  · exact .awlLoss (.onSlot (.setSlotState h1))
  · exact .awlLoss (.onSlot h1)

theorem rotorBack {k mode} (h : d₀.Reaches d) : d₀.Reaches (d.rotorBack k mode) :=
  .setSlotState (.onSlot (.event h))

theorem loopDecide {t k i} (h : d₀.Reaches d) : d₀.Reaches (d.loopDecide t k i) := by
  unfold Dev.loopDecide
  extract_lets +onlyGivenNames _ d1
  have h1 : d₀.Reaches d1 := by
    unfold d1
    split
    · exact .loopFault h
    · exact h
  exact .ite h1 (.ite (.rotorLost h1) (.ite (.rotorBack h1) h1))

theorem sendFrame {i number repeated} (h : d₀.Reaches d) : d₀.Reaches (d.sendFrame i number repeated) := by
  unfold Dev.sendFrame
  split
  · exact h
  · exact .ite h (.when (.wr (.wr (.onLink h))) fun _ hx => .raise hx)

theorem portWrite {t p w v} (h : d₀.Reaches d) : d₀.Reaches (d.portWrite t p w v) :=
  .putTile h

theorem loopDeliver {dst v} (h : d₀.Reaches d) : d₀.Reaches (d.loopDeliver dst v) := by
  unfold Dev.loopDeliver
  split
  · exact .portWrite h
  · exact .withRing h
  · exact h
  · exact h
  · exact h

theorem messageWord {port w v} (h : d₀.Reaches d) : d₀.Reaches (d.messageWord port w v) := by
  refine .ite (.ite (.onSlot h) h) (.ite ?_ ?_)
  · split
    · exact .onGroup h
    · exact h
  · split
    · exact h
    · exact .foldl h fun _ _ hx => .foldl hx fun _ _ hx => .ite (.portWrite hx) hx

theorem triggerChain {k number} (h : d₀.Reaches d) : d₀.Reaches (d.triggerChain k number) := by
  unfold Dev.triggerChain
  split
  · exact h
  · exact .foldl h fun _ _ hx => .triggerSlot hx

theorem issueOutput {slot o v} (h : d₀.Reaches d) : d₀.Reaches (d.issueOutput slot o v) := by
  unfold Dev.issueOutput
  split
  · exact .ite h (.onSlot h)
  · exact h

theorem deliverOuts {i outs} (h : d₀.Reaches d) : d₀.Reaches (d.deliverOuts i outs) := by
  refine .foldl h fun _ _ hx => ?_
  split
  · exact .loopDeliver hx
  · exact hx

theorem missDeadline {i} (h : d₀.Reaches d) : d₀.Reaches (d.missDeadline i) := by
  unfold Dev.missDeadline
  extract_lets +onlyGivenNames _ _
  split
  · exact h
  · extract_lets +onlyGivenNames _ _ d1
    have h1 : d₀.Reaches d1 := .incSat (.incSat (.raise (.sendFrame (.deliverOuts (.onSlot h)))))
    exact .ite (.loopFault h1) h1

theorem endSample {t} (h : d₀.Reaches d) : d₀.Reaches (d.endSample t) := by
  unfold Dev.endSample
  split
  · exact h
  · split
    · exact h
    · extract_lets +onlyGivenNames _ _ _ _ _ d1
      have h1 : d₀.Reaches d1 := .maxTo (.wrSat (.onSlot (.when h fun _ hx => .missDeadline hx)))
      exact .triggerChain (.awlCapture (.ite h1 (.sendFrame (.deliverOuts (.drop (.onSlot h1))))))

theorem loopBoundary (h : d₀.Reaches d) : d₀.Reaches d.loopBoundary :=
  .withLoop (.foldl h fun _ _ hx => .onSlot hx)

theorem slotEnters {i} (h : d₀.Reaches d) : d₀.Reaches (d.slotEnters i) := by
  unfold Dev.slotEnters
  extract_lets +onlyGivenNames _ d1
  have h1 : d₀.Reaches d1 := .onSlot h
  exact .ite h1 (.setSlotState h1)

theorem slotLeaves {k} (h : d₀.Reaches d) : d₀.Reaches (d.slotLeaves k) := by
  unfold Dev.slotLeaves
  extract_lets +onlyGivenNames d1
  have h1 : d₀.Reaches d1 := .onSlot h
  exact .ite h1 (.setSlotState h1)

theorem loopRole {prev new} (h : d₀.Reaches d) : d₀.Reaches (d.loopRole prev new) := by
  unfold Dev.loopRole
  extract_lets +onlyGivenNames d1
  have h1 : d₀.Reaches d1 := .awlAbort h
  split
  · exact h1
  · exact .ite (.foldl h1 fun _ _ hx => .slotEnters hx) (.ite (.withLoop (.foldl h1 fun _ _ hx => .slotLeaves hx)) h1)

/-! ### The functions of Machine/AxisOps.lean -/

theorem startMove {g targets pct} (h : d₀.Reaches d) : d₀.Reaches (d.startMove g targets pct) :=
  .onGroup (.withFree h)

theorem axisMove {n rel ts pct} (h : d₀.Reaches d) : d₀.Reaches (d.axisMove n rel ts pct) := by
  unfold Dev.axisMove
  split
  · exact h
  · exact .ite (.onGroup h) (.startMove h)

theorem axisRampDown {n hold} (h : d₀.Reaches d) : d₀.Reaches (d.axisRampDown n hold) := by
  unfold Dev.axisRampDown
  split
  · exact h
  · exact .ite (.onGroup h) (.ite h (.onGroup (.withFree h)))

theorem axisResume {n} (h : d₀.Reaches d) : d₀.Reaches (d.axisResume n) := by
  unfold Dev.axisResume
  split
  · exact .ite (.startMove h) h
  · exact h

theorem axisResetFault {n} (h : d₀.Reaches d) : d₀.Reaches (d.axisResetFault n) :=
  .onGroup h

theorem axisWords {n} (h : d₀.Reaches d) : d₀.Reaches (d.axisWords n) := by
  unfold Dev.axisWords
  extract_lets +onlyGivenNames _ d1 _
  have h1 : d₀.Reaches d1 := .onGroup h
  split
  · exact h1
  · extract_lets +onlyGivenNames _ _
    split
    · exact .axisMove h1
    · exact .axisMove h1
    · exact .axisRampDown h1
    · exact .axisRampDown h1
    · exact .axisResume h1
    · exact .axisResetFault h1
    · exact h1

theorem advanceAxis {g} (h : d₀.Reaches d) : d₀.Reaches (d.advanceAxis g) :=
  .ite h (.onGroup h)

theorem passEnvelope {g} (h : d₀.Reaches d) : d₀.Reaches (d.passEnvelope g) :=
  .onSafety h

theorem issueAxis {g} (h : d₀.Reaches d) : d₀.Reaches (d.issueAxis g) := by
  unfold Dev.issueAxis
  extract_lets +onlyGivenNames _ _ _ _ _
  refine .foldl (.passEnvelope (.foldl h fun _ _ hx => .foldl hx fun _ _ hx => .onRep hx)) fun _ _ hx => ?_
  split
  · exact .portWrite hx
  · exact hx

theorem axisDeliver {axis o v} (h : d₀.Reaches d) : d₀.Reaches (d.axisDeliver axis o v) := by
  unfold Dev.axisDeliver
  split
  · exact h
  · split
    · exact h
    · split
      · exact .onSlot h
      · exact .loopDeliver h

theorem axisTick {n} (h : d₀.Reaches d) : d₀.Reaches (d.axisTick n) := by
  unfold Dev.axisTick
  split
  · exact h
  · exact .ite (.issueAxis (.advanceAxis (.axisWords h))) h

/-! ### The functions of Machine/Roles.lean -/

theorem setRole {r} (h : d₀.Reaches d) : d₀.Reaches (d.setRole r) :=
  .canRole (.ioRole (.safetyRole (.loopRole (.withPower (.setCause (.withRole (.wr64 h)))))))

theorem stopCycles (h : d₀.Reaches d) : d₀.Reaches d.stopCycles :=
  h

theorem leaveTo {r} (h : d₀.Reaches d) : d₀.Reaches (d.leaveTo r) :=
  .applyStaged (.withPower (.clear (.drop (.setRole (.stopCycles h)))))

theorem goStopped (h : d₀.Reaches d) : d₀.Reaches d.goStopped := by
  unfold Dev.goStopped
  extract_lets +onlyGivenNames _ d1
  have h1 : d₀.Reaches d1 := .withPower h
  exact .ite h1 (.leaveTo h1)

theorem enterCommand {r} (h : d₀.Reaches d) : d₀.Reaches (d.enterCommand r) := by
  unfold Dev.enterCommand
  extract_lets +onlyGivenNames _ d1
  have h1 : d₀.Reaches d1 := .wr (.clear (.disarmStep (.setRole h)))
  exact h1

theorem enterStandby (h : d₀.Reaches d) : d₀.Reaches d.enterStandby :=
  .startCopy (.withCycle (.restartTime (.setRole h)))

theorem moduleReset {c} (h : d₀.Reaches d) : d₀.Reaches (d.moduleReset c) := by
  unfold Dev.moduleReset
  extract_lets +onlyGivenNames d1
  have h1 : d₀.Reaches d1 := .ite (.clear h) h
  exact .incSat (.wr (h1.write (.reset _)))

/-! ### The functions of Machine/Bridle.lean -/

theorem bridleCycle (h : d₀.Reaches d) : d₀.Reaches d.bridleCycle :=
  .driveOutputs (.noteTrips (.onBridle h))

theorem takeWindow {w} (h : d₀.Reaches d) : d₀.Reaches (d.takeWindow w) := by
  unfold Dev.takeWindow
  split
  · exact .onBridle h
  · exact h

theorem ownFault {cause index} (h : d₀.Reaches d) : d₀.Reaches (d.ownFault cause index) :=
  .ite h (.goStopped (.event (.updateFns (.onBridle h))))

/-! ### The functions of Machine/HarnessOps.lean -/

theorem putSlot {k s} (h : d₀.Reaches d) : d₀.Reaches (d.putSlot k s) :=
  .withHrn h

theorem showSlot {k} (h : d₀.Reaches d) : d₀.Reaches (d.showSlot k) :=
  .flag (.flag (.flag (.wr (.wr (.wr h)))))

theorem checkSlot {k} (h : d₀.Reaches d) : d₀.Reaches (d.checkSlot k) :=
  .showSlot (.putSlot h)

theorem checkAtStart {k} (h : d₀.Reaches d) : d₀.Reaches (d.checkAtStart k) :=
  .ite (.showSlot h) (.checkSlot h)

theorem showMarks (h : d₀.Reaches d) : d₀.Reaches d.showMarks :=
  .wr (.wr (.wr (.each h fun _ _ hx => .flag (.flag (.flag hx)))))

theorem showLoops {im} (h : d₀.Reaches d) : d₀.Reaches (d.showLoops im) := by
  unfold Dev.showLoops
  extract_lets +onlyGivenNames d1
  have h1 : d₀.Reaches d1 := by
    refine .each h fun _ _ hx => ?_
    split
    · exact .putWord (.putWord hx)
    · exact .wr (.wr (.flag (.wr (.wr (.wr (.wr (.wr hx)))))))
  exact .each h1 fun _ _ hx => .wr (.wr (.wr hx))

theorem showIo {im} (h : d₀.Reaches d) : d₀.Reaches (d.showIo im) :=
  .each (.each (.wr (.wr (.wr h))) fun _ _ hx => .wr (.wr (.flag (.wr (.wr hx))))) fun _ _ hx => .flag (.wr hx)

theorem showPorts {im} (h : d₀.Reaches d) : d₀.Reaches (d.showPorts im) :=
  .each (.each h fun _ _ hx => .wr (.wr (.putWord (.putWord (.putWord hx))))) fun _ _ hx => .wr (.wr (.wr hx))

theorem showImage (h : d₀.Reaches d) : d₀.Reaches d.showImage := by
  unfold Dev.showImage
  split
  · exact .clear h
  · exact .showPorts (.showIo (.showLoops (.flag (.wr (.wr (.raise
        (.wr (.wr (.flag (.wr (.wr (.each h fun _ _ hx => .wr hx))))))))))))

theorem runImage {k} (h : d₀.Reaches d) : d₀.Reaches (d.runImage k) :=
  .showMarks (.showImage (.withHrn h))

/-! ### The functions of Machine/Can.lean -/

theorem canTxWrite {path n r v} (h : d₀.Reaches d) : d₀.Reaches (d.canTxWrite path n r v) :=
  .ite h (.ite (.canWrite h) (.ite h (.writeStatus h)))

/-! ### The functions of Machine/HistOps.lean -/

theorem showSets (h : d₀.Reaches d) : d₀.Reaches d.showSets :=
  .wr (.flag (.flag (.flag (.flag (.flag h)))))

theorem showDrive {bay x} (h : d₀.Reaches d) : d₀.Reaches (d.showDrive bay x) :=
  .wrInt (.wrSat (.wr (.wr (.wr (.raise (.raise h))))))

theorem dropRebuild (h : d₀.Reaches d) : d₀.Reaches d.dropRebuild :=
  .ite (.foldl (.drop h) fun _ _ hx => .ite (.wr hx) hx) h

theorem putTag {tag x} (h : d₀.Reaches d) : d₀.Reaches (d.putTag tag x) :=
  .withHist h

theorem readPublish (h : d₀.Reaches d) : d₀.Reaches d.readPublish := by
  unfold Dev.readPublish
  extract_lets +onlyGivenNames _ d1
  have h1 : d₀.Reaches d1 := .withCycle h
  refine .ite (.each h1 fun _ _ hx => ?_) h1
  split
  · exact hx
  · exact .putTag hx

theorem writePublish {copy dataBusy} (h : d₀.Reaches d) : d₀.Reaches (d.writePublish copy dataBusy) := by
  unfold Dev.writePublish
  extract_lets +onlyGivenNames _ _ d1
  have h1 : d₀.Reaches d1 := .withCycle (.ite (.each (.incWrap h) fun _ _ hx => .putTag hx) h)
  exact .ite h1 (.readPublish h1)

theorem showOldest (h : d₀.Reaches d) : d₀.Reaches d.showOldest :=
  .wr64 h

theorem storeRaw {tag t v} (h : d₀.Reaches d) : d₀.Reaches (d.storeRaw tag t v) :=
  .ite (.showOldest (.putTag (.onSets h))) h

theorem noteExport {n} (h : d₀.Reaches d) : d₀.Reaches (d.noteExport n) :=
  .maxTo (.wrSat (.withHist h))

theorem exportReply {session body} (h : d₀.Reaches d) : d₀.Reaches (d.exportReply session body) :=
  .ite (.noteExport (.withHist h)) h

/-! ### The functions of Machine/TrustOps.lean -/

theorem showTrust (h : d₀.Reaches d) : d₀.Reaches d.showTrust :=
  .each (.wr64 (.flag (.wr (.wr (.wr (.wr (.wr (.wr (.each (.wr (.flag (.flag (.flag h)))) fun _ _ hx => .wr
      (.wr hx)))))))))) fun _ _ hx => .wr hx

theorem ownerChanged (h : d₀.Reaches d) : d₀.Reaches d.ownerChanged :=
  .each (.showSets (.showTrust h)) fun _ _ hx => .showSlot hx

theorem authFail {ip} (h : d₀.Reaches d) : d₀.Reaches (d.authFail ip) := by
  unfold Dev.authFail
  extract_lets +onlyGivenNames _ _ d1
  have h1 : d₀.Reaches d1 := .event (.incSat h)
  exact .ite (.wrSat h1) h1

theorem readMany {off n} (h : d₀.Reaches d) : d₀.Reaches (d.readMany off n).2 := by
  induction n generalizing d off with
  | zero => exact h
  | succ n ih => exact ih (.readReg h)

/-! ### The functions of Machine/TriadOps.lean -/

theorem onTile {t f} (h : d₀.Reaches d) : d₀.Reaches (d.onTile t f) :=
  .putTile h

theorem showTriads (h : d₀.Reaches d) : d₀.Reaches d.showTriads :=
  .wrSat (.wrSat h)

theorem tileStop {t portFault} (h : d₀.Reaches d) : d₀.Reaches (d.tileStop t portFault) := by
  unfold Dev.tileStop
  extract_lets +onlyGivenNames d1
  have h1 : d₀.Reaches d1 := .when h fun _ hx => .raise hx
  refine .ite h1 ?_
  extract_lets +onlyGivenNames _ d2
  have h2 : d₀.Reaches d2 := .event (.onTile (.when (.raise h1) fun _ hx => .raise hx))
  exact .ite (.goStopped h2) h2

theorem countOdd {t r cause} (h : d₀.Reaches d) : d₀.Reaches (d.countOdd t r cause) := by
  unfold Dev.countOdd
  extract_lets +onlyGivenNames d1 d2
  have h1 : d₀.Reaches d1 := .wr (.incSat h)
  have h2 : d₀.Reaches d2 := by
    unfold d2
    split
    · exact .raise h1
    · exact h1
  exact .onTile (.event (.drop (.wr (.wr (.wr h2)))))

theorem haltRep {t r} (h : d₀.Reaches d) : d₀.Reaches (d.haltRep t r) :=
  .onTile (.wr h)

theorem retireRep {t r} (h : d₀.Reaches d) : d₀.Reaches (d.retireRep t r) :=
  .event (.raise (.raise (.raise (.onTile h))))

theorem odd {t r cause} (h : d₀.Reaches d) : d₀.Reaches (d.odd t r cause) := by
  unfold Dev.odd
  extract_lets +onlyGivenNames _
  refine .ite h ?_
  extract_lets +onlyGivenNames d1 _ _ d2
  have h1 : d₀.Reaches d1 := .haltRep (.countOdd h)
  have h2 : d₀.Reaches d2 := .when (.flag (.showTriads (.ite (.retireRep h1) h1))) fun _ hx => .drop hx
  exact .ite (.tileStop h2) h2

theorem releaseLocal {t p} (h : d₀.Reaches d) : d₀.Reaches (d.releaseLocal t p) := by
  unfold Dev.releaseLocal
  split
  · exact h
  · extract_lets +onlyGivenNames _ _ _ _
    refine .foldl (.ite h (.dioRelease h)) fun _ _ hx => ?_
    split
    · exact .aoRelease hx
    · exact hx
    · exact hx
    · exact hx
    · exact hx

theorem takeResults {t p staged} (h : d₀.Reaches d) : d₀.Reaches (d.takeResults t p staged) :=
  .withCycle h

theorem releaseStaged {t} (h : d₀.Reaches d) : d₀.Reaches (d.releaseStaged t) := by
  unfold Dev.releaseStaged
  extract_lets +onlyGivenNames _ _ d1
  have h1 : d₀.Reaches d1 := .foldl (.onTile h) fun _ _ hx => .messageWord hx
  split
  · exact .takeResults (.releaseLocal h1)
  · exact h1

theorem listNext {part code task detail} (h : d₀.Reaches d) : d₀.Reaches (d.listNext part code task detail) :=
  .withCycle h

theorem listNow {part code task detail} (h : d₀.Reaches d) : d₀.Reaches (d.listNow part code task detail) :=
  .withCycle h

theorem startRun {t run} (h : d₀.Reaches d) : d₀.Reaches (d.startRun t run) := by
  unfold Dev.startRun
  split
  · exact h
  · exact .foldl (.onTile h) fun _ _ hx => .onRep hx

theorem startNext {t} (h : d₀.Reaches d) : d₀.Reaches (d.startNext t) := by
  unfold Dev.startNext
  split
  · exact h
  · extract_lets +onlyGivenNames _
    refine .ite ?_ ?_
    · split
      · exact h
      · exact .startRun (.onTile h)
    · split
      · exact h
      · exact .startRun (.onTile h)

theorem deliverPublish {t p} (h : d₀.Reaches d) : d₀.Reaches (d.deliverPublish t p) := by
  refine .foldl h fun _ _ hx => ?_
  split
  · exact .withCycle hx
  · exact .tileStop hx

theorem deliverRetain {t p} (h : d₀.Reaches d) : d₀.Reaches (d.deliverRetain t p) := by
  unfold Dev.deliverRetain
  split
  · exact h
  · split
    · exact .withCycle h
    · exact .tileStop h

theorem copyLatest {part} (h : d₀.Reaches d) : d₀.Reaches (d.copyLatest part) := by
  unfold Dev.copyLatest
  split
  · exact h
  · exact .withCycle h

theorem noteTime {part task ns} (h : d₀.Reaches d) : d₀.Reaches (d.noteTime part task ns) :=
  .withCycle h

theorem completeCommand {c aborted} (h : d₀.Reaches d) : d₀.Reaches (d.completeCommand c aborted) :=
  .finishRequest (.withCycle h)

theorem completePart {part aborted} (h : d₀.Reaches d) : d₀.Reaches (d.completePart part aborted) :=
  .foldl h fun _ _ hx => .completeCommand hx

theorem issueMarker {t abort} (h : d₀.Reaches d) : d₀.Reaches (d.issueMarker t abort) := by
  unfold Dev.issueMarker
  extract_lets +onlyGivenNames _
  split
  · exact .onTile (.releaseStaged h)
  · extract_lets +onlyGivenNames d1
    have h1 : d₀.Reaches d1 := .onTile h
    refine .ite h1 ?_
    extract_lets +onlyGivenNames d2
    have h2 : d₀.Reaches d2 := .event h1
    exact .ite (.onTile h2) (.listNext (.onTile h2))

theorem closeRun {t run} (h : d₀.Reaches d) : d₀.Reaches (d.closeRun t run) := by
  unfold Dev.closeRun
  split
  · exact h
  · extract_lets +onlyGivenNames d1
    have h1 : d₀.Reaches d1 := .noteTime h
    refine .ite ?_ h1
    extract_lets +onlyGivenNames d2
    have h2 : d₀.Reaches d2 := .deliverPublish h1
    split
    · extract_lets +onlyGivenNames d3
      have h3 : d₀.Reaches d3 := .ite (.copyLatest (.deliverRetain h2)) h2
      exact .ite (.completePart h3) h3
    · exact h2

theorem deliverCycle {t} (h : d₀.Reaches d) : d₀.Reaches (d.deliverCycle t) := by
  unfold Dev.deliverCycle
  split
  · exact .onTile h
  · exact .onTile (.deliverPublish (.deliverRetain h))

theorem advanceTasks {t} (h : d₀.Reaches d) : d₀.Reaches (d.advanceTasks t) := by
  unfold Dev.advanceTasks
  extract_lets +onlyGivenNames _
  split
  · exact h
  · refine .ite ?_ h
    extract_lets +onlyGivenNames _ d1
    have h1 : d₀.Reaches d1 := .startNext (.closeRun (.onTile h))
    exact .ite (.deliverCycle h1) h1

theorem issueEffect {t e} (h : d₀.Reaches d) : d₀.Reaches (d.issueEffect t e) := by
  unfold Dev.issueEffect
  split
  · exact .onTile h
  · exact .onTile h
  · exact .writeReg h
  · exact .ite (.issueOutput h) (.axisDeliver h)
  · exact .endSample h
  · exact .issueMarker h
  · exact h

theorem noteIssued {t e} (h : d₀.Reaches d) : d₀.Reaches (d.noteIssued t e) :=
  .onTile h

theorem checkLag {t} (h : d₀.Reaches d) : d₀.Reaches (d.checkLag t) := by
  unfold Dev.checkLag
  split
  · exact .odd h
  · exact h

theorem pumpVoter {t n} (h : d₀.Reaches d) : d₀.Reaches (d.pumpVoter t n) := by
  induction n generalizing d with
  | zero => exact h
  | succ n ih =>
    refine .ite h ?_
    split
    · exact .advanceTasks h
    · exact .tileStop h
    · exact ih (.checkLag (.issueEffect (.noteIssued h)))

theorem runVoter {t} (h : d₀.Reaches d) : d₀.Reaches (d.runVoter t) :=
  .pumpVoter h

theorem oddVoted {t r cause} (h : d₀.Reaches d) : d₀.Reaches (d.oddVoted t r cause) :=
  .runVoter (.odd h)

theorem voterEntry {t r} (h : d₀.Reaches d) : d₀.Reaches (d.voterEntry t r) := by
  refine .ite h ?_
  split
  · exact h
  · exact .runVoter (.onTile h)

theorem noteStitch {t w s} (h : d₀.Reaches d) : d₀.Reaches (d.noteStitch t w s) := by
  refine .ite ?_ (.onTile h)
  split
  · exact .withTwin h
  · exact h

theorem compareStitches {t w} (h : d₀.Reaches d) : d₀.Reaches (d.compareStitches t w) := by
  unfold Dev.compareStitches
  extract_lets +onlyGivenNames x1
  clear_value x1
  refine .ite h ?_
  extract_lets +onlyGivenNames d2 _
  have h2 : d₀.Reaches d2 := .onTile h
  split
  · exact .ite (.noteStitch h2) (.tileStop (.raise h2))
  · exact .ite (.noteStitch h2) (.ite (.oddVoted (.noteStitch h2))
        (.ite (.oddVoted (.noteStitch h2)) (.ite (.oddVoted (.noteStitch h2)) (.tileStop (.raise h2)))))
  · exact h2

theorem compareAll {t} (h : d₀.Reaches d) : d₀.Reaches (d.compareAll t) :=
  .foldl h fun _ _ hx => .ite (.compareStitches hx) hx

theorem oddThen {t r cause} (h : d₀.Reaches d) : d₀.Reaches (d.oddThen t r cause) :=
  .compareAll (.oddVoted h)

theorem voterTimeout {t} (h : d₀.Reaches d) : d₀.Reaches (d.voterTimeout t) := by
  refine .ite h ?_
  split
  · exact .oddThen h
  · exact .ite h (.tileStop h)

theorem stitchDeliver {t r} (h : d₀.Reaches d) : d₀.Reaches (d.stitchDeliver t r) := by
  refine .ite h ?_
  split
  · exact h
  · exact .compareAll (.onTile h)

theorem stitchTimeout {t r} (h : d₀.Reaches d) : d₀.Reaches (d.stitchTimeout t r) := by
  refine .ite h ?_
  extract_lets +onlyGivenNames _
  split
  · exact .oddThen h
  · exact h

theorem makeRead {t p rs} (h : d₀.Reaches d) : d₀.Reaches (d.makeRead t p rs) := by
  have hr := readReg (p := .tack t) (off := p.addr - 0x80000000) h
  unfold Dev.makeRead
  generalize d.readReg (.tack t) (p.addr - 0x80000000) = r at hr ⊢
  obtain ⟨w, e⟩ := r
  cases p.kind with
  | rdtime => exact .foldl h fun _ _ h => .onRep h
  | lw => exact .foldl hr fun _ _ h => .onRep h
  | lwu => exact .foldl hr fun _ _ h => .onRep h

theorem readStop {t} (h : d₀.Reaches d) : d₀.Reaches (d.readStop t) :=
  .tileStop (.raise h)

theorem sharedRead {t} (h : d₀.Reaches d) : d₀.Reaches (d.sharedRead t) := by
  refine .ite h ?_
  extract_lets +onlyGivenNames x1
  clear_value x1
  refine .ite h ?_
  split
  · exact .ite (.makeRead h) (.readStop h)
  · exact .ite (.makeRead h) (.ite (.oddThen (.makeRead h)) (.ite (.oddThen (.makeRead h))
        (.ite (.oddThen (.makeRead h)) (.readStop h))))
  · exact h

theorem sharedReadTimeout {t} (h : d₀.Reaches d) : d₀.Reaches (d.sharedReadTimeout t) := by
  refine .ite h ?_
  extract_lets +onlyGivenNames x1 x2
  clear_value x1
  clear_value x2
  split
  · exact .ite (.oddThen (.makeRead h)) (.readStop h)
  · exact .tileStop h
  · exact h

theorem postEvent {t abort} (h : d₀.Reaches d) : d₀.Reaches (d.postEvent t abort) :=
  .ite h (.onTile h)

theorem preempt {t} (h : d₀.Reaches d) : d₀.Reaches (d.preempt t) := by
  unfold Dev.preempt
  extract_lets +onlyGivenNames _
  split
  · exact .ite (.startNext (.onTile h)) h
  · exact h

theorem recordWatchdog {t part task} (h : d₀.Reaches d) : d₀.Reaches (d.recordWatchdog t part task) :=
  .listNext (.raise (.event h))

theorem endRun {t p run} (h : d₀.Reaches d) : d₀.Reaches (d.endRun t p run) := by
  unfold Dev.endRun
  extract_lets +onlyGivenNames _ _ d1 d2
  have h1 : d₀.Reaches d1 := .onTile (.foldl h fun _ _ hx => .onRep hx)
  have h2 : d₀.Reaches d2 := by
    unfold d2
    split
    · exact .ite (.completePart h1) h1
    · exact h1
  exact .recordWatchdog h2

theorem enterEvent {t e} (h : d₀.Reaches d) : d₀.Reaches (d.enterEvent t e) := by
  unfold Dev.enterEvent
  split
  · exact .preempt (.onTile h)
  · split
    · exact .ite h (.endRun (.onTile h))
    · exact .onTile h
  · exact .onTile h

theorem tryEvent {t} (h : d₀.Reaches d) : d₀.Reaches (d.tryEvent t) := by
  unfold Dev.tryEvent
  split
  · exact .ite (.enterEvent h) h
  · exact h

theorem eventDelivery {t} (h : d₀.Reaches d) : d₀.Reaches (d.eventDelivery t) :=
  .ite h (.tryEvent (.ite (.postEvent h) h))

theorem eventTimeout {t r} (h : d₀.Reaches d) : d₀.Reaches (d.eventTimeout t r) := by
  unfold Dev.eventTimeout
  split
  · exact .ite (.oddThen h) h
  · exact h

theorem sramUncorr {t r} (h : d₀.Reaches d) : d₀.Reaches (d.sramUncorr t r) := by
  unfold Dev.sramUncorr
  extract_lets +onlyGivenNames d1
  have h1 : d₀.Reaches d1 := .when h fun _ hx => .raise hx
  exact .ite (.oddThen h1) h1

theorem finishCopy {t r ok} (h : d₀.Reaches d) : d₀.Reaches (d.finishCopy t r ok) := by
  unfold Dev.finishCopy
  split
  · exact h
  · extract_lets +onlyGivenNames _ _ d1
    have h1 : d₀.Reaches d1 := .onTile (.onRep h)
    refine .ite (.showTriads (.incSat (.drop (.onTile (.wr h1))))) ?_
    extract_lets +onlyGivenNames d2
    have h2 : d₀.Reaches d2 := .onRep h1
    exact .ite (.odd h2) (.odd (.drop h2))

theorem reintegrationDone {t ok} (h : d₀.Reaches d) : d₀.Reaches (d.reintegrationDone t ok) := by
  refine .ite ?_ h
  split
  · exact .finishCopy h
  · exact h

theorem loopReintegrationDone {t ok} (h : d₀.Reaches d) : d₀.Reaches (d.loopReintegrationDone t ok) := by
  refine .ite ?_ h
  split
  · exact .finishCopy (.foldl h fun _ _ hx => .onSlot hx)
  · exact h

/-! ### The functions of Machine/TwinFrames.lean -/

theorem queueTwin {kind cycle content} (h : d₀.Reaches d) : d₀.Reaches (d.queueTwin kind cycle content) :=
  .ite (.onRing h) h

theorem takeFragment {x} (h : d₀.Reaches d) : d₀.Reaches (d.takeFragment x).2 := by
  refine .iteSnd h ?_
  extract_lets +onlyGivenNames _ _ _
  split
  · exact .onRing h
  · exact .iteSnd (.onRing h) (.onRing h)

/-! ### The functions of Machine/RoundOps.lean -/

theorem treatDropped {n} (h : d₀.Reaches d) : d₀.Reaches (d.treatDropped n) := by
  refine .ite h ?_
  split
  · exact h
  · exact .event (.mapBit (.mapBit (.onStation h)))

theorem roundStation {t agreed n} (h : d₀.Reaches d) : d₀.Reaches (d.roundStation t agreed n).1 := by
  unfold Dev.roundStation
  extract_lets +onlyGivenNames _ _ x1
  clear_value x1
  split
  · exact .onTile h
  · extract_lets +onlyGivenNames d2
    have h2 : d₀.Reaches d2 := .ite (.withTwin (.incSat h)) h
    exact .onTile (.ite (.treatDropped h2) h2)

theorem roundStations {t a ns} (h : d₀.Reaches d) : d₀.Reaches (d.roundStations t a ns).1 :=
  .foldlFst h fun _ _ h => .roundStation h

theorem showCommands (h : d₀.Reaches d) : d₀.Reaches d.showCommands :=
  .wrSat h

theorem deliverCommands {part} (h : d₀.Reaches d) : d₀.Reaches (d.deliverCommands part) :=
  .showCommands (.withCycle h)

theorem skipTask {p k} (h : d₀.Reaches d) : d₀.Reaches (d.skipTask p k) := by
  unfold Dev.skipTask
  extract_lets +onlyGivenNames _ _ _ d1
  have h1 : d₀.Reaches d1 := .listNext (.withCycle h)
  exact .ite (.goStopped (.raise (.event h1))) h1

theorem swapPorts {t p which} (h : d₀.Reaches d) : d₀.Reaches (d.swapPorts t p which) :=
  .onTile h

theorem releaseTask {t p task} (h : d₀.Reaches d) : d₀.Reaches (d.releaseTask t p task) :=
  .onTile (.withCycle (.swapPorts h))

theorem releaseTasks {t p events} (h : d₀.Reaches d) : d₀.Reaches (d.releaseTasks t p events) :=
  .foldl (.foldl h fun _ _ hx => .releaseTask hx) fun _ _ hx => .ite (.skipTask hx) (.releaseTask hx)

theorem deliverRelease {t p} (h : d₀.Reaches d) : d₀.Reaches (d.deliverRelease t p) :=
  .ite (.onTile (.when h fun _ hx => .deliverCommands hx)) h

theorem listDropout {t part n} (h : d₀.Reaches d) : d₀.Reaches (d.listDropout t part n) :=
  .ite (.listNext h) (.listNow h)

theorem sendRecord (h : d₀.Reaches d) : d₀.Reaches d.sendRecord :=
  .ite (.queueTwin (.when h fun _ hx => .withTwin hx)) h

theorem startTasks {t p events} (h : d₀.Reaches d) : d₀.Reaches (d.startTasks t p events) := by
  refine .ite ?_ ?_
  · extract_lets +onlyGivenNames d1
    have h1 : d₀.Reaches d1 := .ite (.releaseTasks h) h
    exact .ite (.startNext h1) h1
  · extract_lets +onlyGivenNames d2
    have h2 : d₀.Reaches d2 := .startNext (.onTile h)
    exact .ite (.deliverCycle h2) h2

theorem releaseFrames (h : d₀.Reaches d) : d₀.Reaches d.releaseFrames :=
  .foldl h fun _ _ hx => .ite hx (.onStation hx)

theorem completeRound {t p a} (h : d₀.Reaches d) : d₀.Reaches (d.completeRound t p a) :=
  .sendRecord (.releaseFrames (.startTasks (.onTile (.canCut (.onTile
      (.deliverRelease (.foldl (.roundStations h) fun _ _ hx => .ite (.listDropout hx) hx)))))))

theorem runRound {t cs} (h : d₀.Reaches d) : d₀.Reaches (d.runRound t cs) := by
  unfold Dev.runRound
  split
  · exact .onTile h
  · split <;> exact .completeRound h

theorem agreementRound {t a b c} (h : d₀.Reaches d) : d₀.Reaches (d.agreementRound t a b c) :=
  .ite (.runRound h) h

theorem roundTimeout {t a b c} (h : d₀.Reaches d) : d₀.Reaches (d.roundTimeout t a b c) := by
  unfold Dev.roundTimeout
  extract_lets +onlyGivenNames _
  refine .ite ?_ h
  split
  · exact h
  · exact .ite (.runRound (.odd h)) (.odd h)

/-! ### The functions of Machine/StageOps.lean -/

theorem programSlot {k off data} (h : d₀.Reaches d) : d₀.Reaches (d.programSlot k off data) :=
  .openIntents (.putSlot h)

theorem commitSlot {k} (h : d₀.Reaches d) : d₀.Reaches (d.commitSlot k) :=
  .showSlot (.withHrn (.putSlot (.foldl h fun _ _ hx => .closeIntent hx)))

theorem slotWrite {k off data} (h : d₀.Reaches d) : d₀.Reaches (d.slotWrite k off data).dev :=
  .iteReply (.refuse h) (.iteReply (.refuse h) (.iteReply (.refuse (.wornFlash h))
      (.done (.showSlot (.programSlot h)))))

theorem slotCommit {k} (h : d₀.Reaches d) : d₀.Reaches (d.slotCommit k).dev :=
  .iteReply (.refuse h) ((.commitSlot h))

theorem slotRead {k off len} (h : d₀.Reaches d) : d₀.Reaches (d.slotRead k off len).dev :=
  .iteReply (.refuse h) (.done (.suspendErase h))

theorem onStaged {f} (h : d₀.Reaches d) : d₀.Reaches (d.onStaged f) :=
  .withHrn h

theorem stageResult {r} (h : d₀.Reaches d) : d₀.Reaches (d.stageResult r) :=
  .wr h

theorem endStage {r} (h : d₀.Reaches d) : d₀.Reaches (d.endStage r) :=
  .showMarks (.stageResult (.clear h))

theorem beginStage {g state} (h : d₀.Reaches d) : d₀.Reaches (d.beginStage g state) :=
  .showMarks (.stageResult (.clear (.wr (.wr (.wr (.withHrn h))))))

theorem beginSafetyWrite {k ids} (h : d₀.Reaches d) : d₀.Reaches (d.beginSafetyWrite k ids) :=
  .withBridle h

theorem onReaders {im f} (h : d₀.Reaches d) : d₀.Reaches (d.onReaders im f) :=
  .foldl h fun _ _ hx => .onTile hx

theorem loadPages (h : d₀.Reaches d) : d₀.Reaches d.loadPages :=
  .onReaders h

theorem shadowPages {new} (h : d₀.Reaches d) : d₀.Reaches (d.shadowPages new) :=
  .onReaders h

theorem refuseStage {s} (h : d₀.Reaches d) : d₀.Reaches (d.refuseStage s).dev := by
  unfold Dev.refuseStage
  split
  · exact .stageResult h
  · exact .refuse h

theorem acceptStage {g} (h : d₀.Reaches d) : d₀.Reaches (d.acceptStage g) := by
  unfold Dev.acceptStage
  split
  · exact .beginStage h
  · exact .ite (.beginSafetyWrite (.beginStage h)) (.beginStage h)
  · exact .shadowPages (.beginStage h)

theorem stage {k} (h : d₀.Reaches d) : d₀.Reaches (d.stage k).dev := by
  refine .iteReply (.refuseStage h) (.iteReply (.refuseStage h) ?_)
  extract_lets +onlyGivenNames d1
  have h1 : d₀.Reaches d1 := .checkSlot h
  refine .iteReply (.refuseStage h1) (.iteReply (.refuse h1) ?_)
  extract_lets +onlyGivenNames _
  split
  · exact .refuseStage h1
  · extract_lets +onlyGivenNames _
    split
    · exact .refuseStage h1
    · extract_lets +onlyGivenNames d2
      have h2 : d₀.Reaches d2 := by
        unfold d2
        split
        · exact .pendState h1
        · exact h1
      exact .acceptStage h2

theorem loadReserve {k part} (h : d₀.Reaches d) : d₀.Reaches (d.loadReserve k part) := by
  unfold Dev.loadReserve
  split
  · exact .onTile h
  · exact h

theorem partitionReady {part} (h : d₀.Reaches d) : d₀.Reaches (d.partitionReady part) := by
  unfold Dev.partitionReady
  split
  · refine .ite ?_ h
    extract_lets +onlyGivenNames _ d1
    have h1 : d₀.Reaches d1 := .loadReserve (.onStaged h)
    exact .ite (.wr h1) h1
  · exact h

theorem stageTimeout (h : d₀.Reaches d) : d₀.Reaches d.stageTimeout := by
  unfold Dev.stageTimeout
  split
  · exact .ite (.endStage h) h
  · exact h

theorem postponeSwitch {g} (h : d₀.Reaches d) : d₀.Reaches (d.postponeSwitch g) :=
  .stageResult (.wrSat (.incSat (.wr h)))

theorem copyReserve {old part} (h : d₀.Reaches d) : d₀.Reaches (d.copyReserve old part) := by
  unfold Dev.copyReserve
  split
  · exact .onTile h
  · exact h

theorem switchHarness {g epoch} (h : d₀.Reaches d) : d₀.Reaches (d.switchHarness g epoch) := by
  unfold Dev.switchHarness
  extract_lets +onlyGivenNames _ _ _ _ _ d1
  have h1 : d₀.Reaches d1 := .withHrn (.foldl (.withTiles (.runImage h)) fun _ _ hx => .copyReserve hx)
  exact .showMarks (.onStaged (.ite (.withdrawAll h1) h1))

theorem storeSwitch {g} (h : d₀.Reaches d) : d₀.Reaches (d.storeSwitch g) :=
  .endStage (.eventM (.withHrn h))

theorem hrnSwitched (h : d₀.Reaches d) : d₀.Reaches d.hrnSwitched := by
  unfold Dev.hrnSwitched
  split
  · exact .ite (.storeSwitch h) h
  · exact h

theorem takeLoaded (h : d₀.Reaches d) : d₀.Reaches d.takeLoaded := by
  unfold Dev.takeLoaded
  split
  · refine .ite ?_ h
    extract_lets +onlyGivenNames _ _ d1
    have h1 : d₀.Reaches d1 := .withHrn (.runImage h)
    exact .storeSwitch (.ite (.withdrawAll h1) h1)
  · exact h

theorem beginLoading (h : d₀.Reaches d) : d₀.Reaches d.beginLoading :=
  .withPower (.clustersOff (.leaveTo h))

theorem reload {slot} (h : d₀.Reaches d) : d₀.Reaches (d.reload slot) :=
  .beginLoading (.runImage h)

theorem rejoin (h : d₀.Reaches d) : d₀.Reaches d.rejoin := by
  unfold Dev.rejoin
  extract_lets +onlyGivenNames d1
  have h1 : d₀.Reaches d1 := .leaveTo h
  exact .ite h1 (.enterStandby h1)

theorem beginOwnPart {g} (h : d₀.Reaches d) : d₀.Reaches (d.beginOwnPart g) :=
  .ite (.leaveTo (.beginSafetyWrite (.onStaged h))) (.reload (.onStaged h))

theorem imageCopied {image as} (h : d₀.Reaches d) : d₀.Reaches (d.imageCopied image as) := by
  refine .ite h ?_
  split
  · exact h
  · extract_lets +onlyGivenNames _ d1
    have h1 : d₀.Reaches d1 := .commitSlot (.putSlot (.putSlot h))
    exact .ite h1 (.ite (.ite (.shadowPages (.beginStage h1)) (.stageResult h1))
        (.ite (.stageResult h1) (.ite (.stageResult h1) (.beginOwnPart (.beginStage h1)))))

theorem standbyReport {fp r} (h : d₀.Reaches d) : d₀.Reaches (d.standbyReport fp r) := by
  unfold Dev.standbyReport
  split
  · refine .ite ?_ h
    split
    · exact .onStaged h
    · exact .endStage h
    · exact .endStage h
    · exact .endStage h
  · exact h

theorem beginMixed {older window} (h : d₀.Reaches d) : d₀.Reaches (d.beginMixed older window) := by
  unfold Dev.beginMixed
  extract_lets +onlyGivenNames _ _ _ _ d1
  have h1 : d₀.Reaches d1 := .withTwin (.wr (.stageResult (.flag (.wr (.raise h)))))
  exact .ite (.eventM (.raise h1)) h1

theorem endMixed (h : d₀.Reaches d) : d₀.Reaches d.endMixed :=
  .clear h

theorem storeSuccessor (h : d₀.Reaches d) : d₀.Reaches d.storeSuccessor :=
  .showMarks (.withHrn h)

theorem successorDone {g} (h : d₀.Reaches d) : d₀.Reaches (d.successorDone g) := by
  unfold Dev.successorDone
  split
  · exact .endStage (.endMixed h)
  · exact .beginMixed (.onStaged h)
  · exact .endStage (.endMixed (.storeSuccessor h))
  · exact h

theorem formerActive {g hold} (h : d₀.Reaches d) : d₀.Reaches (d.formerActive g hold) := by
  unfold Dev.formerActive
  extract_lets +onlyGivenNames d1
  have h1 : d₀.Reaches d1 := .onStaged h
  exact .ite (.onStaged h1) (.ite (.eventM (.stageResult (.onStaged h1))) (.beginOwnPart h1))

theorem abortStage {r} (h : d₀.Reaches d) : d₀.Reaches (d.abortStage r) := by
  unfold Dev.abortStage
  split
  · exact h
  · refine .ite h ?_
    split
    · exact .rejoin (.endStage (.withBridle h))
    · exact .reload (.stageResult (.endMixed (.onStaged h)))
    · exact .reload (.stageResult (.endMixed (.onStaged h)))
    · exact h
    · exact .endStage (.withBridle h)
    · exact .ite (.endStage h) (.endStage (.endMixed h))
    · exact .endStage h

theorem abortRequest (h : d₀.Reaches d) : d₀.Reaches d.abortRequest.dev := by
  unfold Dev.abortRequest
  split
  · exact .done h
  · exact .iteReply (.refuse h) (.abortStage h)

theorem takeoverStage (h : d₀.Reaches d) : d₀.Reaches d.takeoverStage := by
  unfold Dev.takeoverStage
  split
  · exact h
  · split
    · exact .ite h (.endStage h)
    · exact .endStage (.endMixed (.storeSuccessor h))
    · exact .endStage (.endMixed h)
    · exact .endStage (.endMixed h)
    · exact h

theorem maintKeeperOff (h : d₀.Reaches d) : d₀.Reaches d.maintKeeperOff := by
  refine .ite h ?_
  extract_lets +onlyGivenNames _ d1
  have h1 : d₀.Reaches d1 := .withBridle h
  split
  · split
    · exact .rejoin (.endStage h1)
    · exact .rejoin (.stageResult (.onStaged h1))
    · exact .leaveTo (.endStage h1)
    · exact .leaveTo h1
  · exact .leaveTo h1

theorem noteWritten {crc old new} (h : d₀.Reaches d) : d₀.Reaches (d.noteWritten crc old new) := by
  unfold Dev.noteWritten
  split
  · exact h
  · exact .ite h (.eventM h)

theorem storeSections {p s} (h : d₀.Reaches d) : d₀.Reaches (d.storeSections p s) :=
  .withBridle (.foldl (.noteWritten h) fun _ _ hx => .noteWritten hx)

theorem safetyWritten {crcs} (h : d₀.Reaches d) : d₀.Reaches (d.safetyWritten crcs) := by
  unfold Dev.safetyWritten
  split
  · exact h
  · extract_lets +onlyGivenNames _ _ _ d1
    have h1 : d₀.Reaches d1 := .ite (.storeSections h) (.withBridle h)
    split
    · split
      · exact .ite (.wr (.onStaged h1)) (.endStage h1)
      · exact .ite (.reload (.leaveTo (.onStaged h1))) (.rejoin (.endStage h1))
    · exact h1

theorem dropStage (h : d₀.Reaches d) : d₀.Reaches d.dropStage := by
  unfold Dev.dropStage
  split
  · exact .ite h (.endStage h)
  · exact h

/-! ### The functions of Machine/TwinOps.lean -/

theorem onTwin {f} (h : d₀.Reaches d) : d₀.Reaches (d.onTwin f) :=
  .withTwin h

theorem yieldStage (h : d₀.Reaches d) : d₀.Reaches d.yieldStage := by
  unfold Dev.yieldStage
  split
  · exact .ite (.abortStage h) h
  · exact h

theorem yield (h : d₀.Reaches d) : d₀.Reaches d.yield :=
  .ite h (.yieldStage (.onTwin (.event (.wr (.incSat (.raise (.goStopped h)))))))

theorem ringRxSilent (h : d₀.Reaches d) : d₀.Reaches d.ringRxSilent :=
  .ite (.yield h) h

theorem becomeActive {cause} (h : d₀.Reaches d) : d₀.Reaches (d.becomeActive cause) :=
  .enterCommand (.wr (.drop (.onTwin h)))

theorem takeover (h : d₀.Reaches d) : d₀.Reaches d.takeover :=
  .withCycle (.takeoverStage (.incSat (.becomeActive (.ite (.onTwin (.wr h)) h))))

theorem losePartner (h : d₀.Reaches d) : d₀.Reaches d.losePartner := by
  unfold Dev.losePartner
  extract_lets +onlyGivenNames _ _ d1
  have h1 : d₀.Reaches d1 := .setCause (.onTwin (.raise (.drop h)))
  exact .ite (.event h1) (.ite (.ite (.takeover h1) (.goStopped (.event h1))) h1)

theorem dropPath {girth} (h : d₀.Reaches d) : d₀.Reaches (d.dropPath girth) :=
  .ite (.ite (.when (.incSat (.clear h)) fun _ hx => .dropPlan hx rfl rfl rfl) h) (.ite (.incSat (.drop h)) h)

theorem pathSilent {girth} (h : d₀.Reaches d) : d₀.Reaches (d.pathSilent girth) := by
  unfold Dev.pathSilent
  extract_lets +onlyGivenNames _
  refine .ite h ?_
  extract_lets +onlyGivenNames d1
  have h1 : d₀.Reaches d1 := .dropPath h
  exact .ite (.ite (.ite (.event (.raise h1)) (.event h1)) h1) (.losePartner (.dropPath h1))

theorem sendBeat (h : d₀.Reaches d) : d₀.Reaches d.sendBeat := by
  refine .ite h ?_
  extract_lets +onlyGivenNames _ d1
  have h1 : d₀.Reaches d1 := .onTwin h
  exact .ite (.each (.onTwin h1) fun _ _ hx => .onRingPort (.noteSent (.incWrap (.incWrap hx)))) h1

theorem identClash (h : d₀.Reaches d) : d₀.Reaches d.identClash := by
  unfold Dev.identClash
  extract_lets +onlyGivenNames d1 _ _ d2
  have h1 : d₀.Reaches d1 := .ite h (.setCause (.event (.raise h)))
  have h2 : d₀.Reaches d2 := .ite (.withPower h1) h1
  exact .ite (.goStopped h2) h2

theorem showPartner {b} (h : d₀.Reaches d) : d₀.Reaches (d.showPartner b) :=
  .wr (.flag (.flag (.flag (.wr (.wr (.wr (.wr (.each (.onTwin (.wr (.raise (.wr (.wr h))))) fun _ _ hx => .wr
      hx))))))))

theorem beatCauses {b} (h : d₀.Reaches d) : d₀.Reaches (d.beatCauses b) :=
  .setCause (.setCause (.setCause h))

theorem hear {b} (h : d₀.Reaches d) : d₀.Reaches (d.hear b) :=
  .ite (.withPower h) h

theorem livePath {path} (h : d₀.Reaches d) : d₀.Reaches (d.livePath path) := by
  unfold Dev.livePath
  extract_lets +onlyGivenNames _ d1
  have h1 : d₀.Reaches d1 := .setCause (.onTwin (.raise h))
  refine .ite ?_ (.onTwin (.raise h1))
  extract_lets +onlyGivenNames d2
  have h2 : d₀.Reaches d2 := .onTwin (.drop (.raise (.raise h1)))
  exact .ite (.startCopy h2) h2

theorem girthTime {b} (h : d₀.Reaches d) : d₀.Reaches (d.girthTime b) :=
  .onTime (.flag (.ite (.event (.wrInt h)) (.wrInt h))) rfl rfl rfl

theorem mixedBeat {b} (h : d₀.Reaches d) : d₀.Reaches (d.mixedBeat b) := by
  refine .ite (.ite ?_ h) ?_
  · extract_lets +onlyGivenNames d1
    have h1 : d₀.Reaches d1 := .endMixed h
    split
    · exact .ite (.ite (.endStage h1) h1) (.ite (.endStage h1) h1)
    · exact h1
  · split
    · exact .ite (.beginMixed h) h
    · exact h

theorem joinChecked (h : d₀.Reaches d) : d₀.Reaches d.joinChecked :=
  .ite (.goStopped h) (.wr (.enterStandby h))

theorem runningBeat {path b} (h : d₀.Reaches d) : d₀.Reaches (d.runningBeat path b) := by
  unfold Dev.runningBeat
  extract_lets +onlyGivenNames _ d1 d2 _ d3
  have h1 : d₀.Reaches d1 := .livePath h
  have h2 : d₀.Reaches d2 := .ite (.onTwin h1) h1
  have h3 : d₀.Reaches d3 := .mixedBeat (.ite (.girthTime h2) h2)
  exact .ite (.yield h3) (.ite (.joinChecked (.withPower h3)) h3)

theorem validBeat {path b} (h : d₀.Reaches d) : d₀.Reaches (d.validBeat path b) := by
  unfold Dev.validBeat
  extract_lets +onlyGivenNames _ d1 d2
  have h1 : d₀.Reaches d1 := .hear (.beatCauses (.showPartner h))
  have h2 : d₀.Reaches d2 := .ite (.event h1) h1
  exact .showElig (.ite (.runningBeat h2) h2)

theorem heartbeat {path b} (h : d₀.Reaches d) : d₀.Reaches (d.heartbeat path b) := by
  refine .ite h (.ite (.ite (.onTwin (.incSat h)) (.ringError h)) (.ite (.onRingPort h) ?_))
  extract_lets +onlyGivenNames d1
  have h1 : d₀.Reaches d1 := .ite h (.onRingPort (.onRing (.incWrap h)))
  exact .ite h1 (.ite (.identClash h1) (.validBeat (.ite h1 (.incWrap h1))))

theorem diverge {cause tiles slots} (h : d₀.Reaches d) : d₀.Reaches (d.diverge cause tiles slots) :=
  .startCopy (.event (.onTwin (.wr (.wr (.each (.wr (.wr (.incSat h))) fun _ _ hx => .wr hx)))))

theorem mixedLoad (h : d₀.Reaches d) : d₀.Reaches d.mixedLoad := by
  unfold Dev.mixedLoad
  split
  · exact .ite (.onTwin (.foldl (.foldl h fun _ _ hx => .onTile hx) fun _ _ hx => .onSlot hx)) (.onTwin h)
  · exact h

theorem mixedHold (h : d₀.Reaches d) : d₀.Reaches d.mixedHold :=
  .foldl h fun _ _ hx => .onSlot hx

theorem compareSummaries {own their} (h : d₀.Reaches d) : d₀.Reaches (d.compareSummaries own their) := by
  unfold Dev.compareSummaries
  extract_lets +onlyGivenNames _ _ _ _ _ d1
  have h1 : d₀.Reaches d1 := .onTwin h
  exact .ite h1 (.diverge h1)

theorem stitchSummary {s} (h : d₀.Reaches d) : d₀.Reaches (d.stitchSummary s) := by
  refine .ite h ?_
  split
  · exact .compareSummaries h
  · exact .onTwin h

theorem ownSummary {s} (h : d₀.Reaches d) : d₀.Reaches (d.ownSummary s) := by
  unfold Dev.ownSummary
  split
  · exact .compareSummaries h
  · exact .onTwin h

theorem forwardLate (h : d₀.Reaches d) : d₀.Reaches d.forwardLate :=
  .ite (.diverge (.incSat h)) h

theorem showLag (h : d₀.Reaches d) : d₀.Reaches d.showLag :=
  .maxTo (.wrSat h)

theorem takeRecord {r} (h : d₀.Reaches d) : d₀.Reaches (d.takeRecord r) := by
  refine .ite h ?_
  extract_lets +onlyGivenNames d1
  have h1 : d₀.Reaches d1 := .showLag (.onTwin h)
  exact .ite (.setCause (.diverge h1)) h1

theorem copyTile {t c} (h : d₀.Reaches d) : d₀.Reaches (d.copyTile t c) :=
  .onTile (.onTile h)

theorem copySlotState {k c} (h : d₀.Reaches d) : d₀.Reaches (d.copySlotState k c) :=
  .wr (.onSlot h)

theorem copyResults {rs} (h : d₀.Reaches d) : d₀.Reaches (d.copyResults rs) :=
  .withCycle h

theorem takeCopy {c} (h : d₀.Reaches d) : d₀.Reaches (d.takeCopy c) := by
  unfold Dev.takeCopy
  extract_lets +onlyGivenNames _ _ _ d1
  have h1 : d₀.Reaches d1 := by
    refine .each (.copyResults (.foldl (.foldl (.foldl h fun _ _ hx => .copyTile hx) fun _ _ hx => .copySlotState hx)
        fun _ _ hx => .withLoop hx)) fun _ _ hx => ?_
    split
    · exact .wr hx
    · exact hx
  exact .showLag (.onTwin (.withCycle (.setCause (.setCause (.drop
      (.wr (.maxTo (.wrSat (.incSat (.wr (.wr h1)))))))))))

theorem stateCopyDone {c} (h : d₀.Reaches d) : d₀.Reaches (d.stateCopyDone c) :=
  .ite (.takeCopy h) h

theorem stateCopyFailed (h : d₀.Reaches d) : d₀.Reaches d.stateCopyFailed :=
  .ite (.startCopy (.event (.wr h))) h

theorem reloadDone {c} (h : d₀.Reaches d) : d₀.Reaches (d.reloadDone c) := by
  unfold Dev.reloadDone
  split
  · exact .ite (.ite (.goStopped h) (.when (.successorDone (.takeCopy (.joinChecked h))) fun _ hx => .mixedHold hx)) h
  · exact h

theorem roleSwap {hold} (h : d₀.Reaches d) : d₀.Reaches (d.roleSwap hold).dev :=
  .iteReply (.refuse h) (.iteReply (.refuse h) (.iteReply (.refuse h) (.done (.wr (.flag (.wr (.onTwin h)))))))

theorem swapOut {hold} (h : d₀.Reaches d) : d₀.Reaches (d.swapOut hold) := by
  unfold Dev.swapOut
  extract_lets +onlyGivenNames d1
  have h1 : d₀.Reaches d1 := .onTwin h
  refine .ite (.wr h1) ?_
  extract_lets +onlyGivenNames _ _ d2
  have h2 : d₀.Reaches d2 := .onTwin (.drop (.restartTime (.setRole (.wr (.incSat (.wr h1))))))
  split
  · exact .ite (.formerActive h2) h2
  · exact h2

theorem swapIn (h : d₀.Reaches d) : d₀.Reaches d.swapIn := by
  unfold Dev.swapIn
  extract_lets +onlyGivenNames d1
  have h1 : d₀.Reaches d1 := .onTwin h
  refine .ite (.wr h1) ?_
  extract_lets +onlyGivenNames d2
  have h2 : d₀.Reaches d2 := .becomeActive (.incSat (.wr h1))
  split
  · exact .ite (.storeSuccessor (.onStaged h2)) h2
  · exact h2

theorem announcement {a} (h : d₀.Reaches d) : d₀.Reaches (d.announcement a) := by
  unfold Dev.announcement
  extract_lets +onlyGivenNames _
  refine .ite h ?_
  split
  · exact .when h fun _ hx => .onTwin hx
  · refine .ite h ?_
    split
    · exact h
    · split
      · exact .ite (.onTwin (.onStaged h)) h
      · exact h
    · exact .withCycle h
    · exact .withCycle h
    · exact .onSlot h
    · exact .wr (.flag (.wr (.onTwin h)))
    · exact .abortStage h

theorem mixedMinute (h : d₀.Reaches d) : d₀.Reaches d.mixedMinute :=
  .ite (.wr h) h

theorem successorExpired (h : d₀.Reaches d) : d₀.Reaches d.successorExpired :=
  .ite (.onTwin (.event (.raise h))) h

/-! ### The functions of Machine/CycleOps.lean -/

theorem onCycle {f} (h : d₀.Reaches d) : d₀.Reaches (d.onCycle f) :=
  .withCycle h

theorem announceSchedule {n c} (h : d₀.Reaches d) : d₀.Reaches (d.announceSchedule n c) :=
  .onCycle h

theorem measureCycle (h : d₀.Reaches d) : d₀.Reaches d.measureCycle := by
  unfold Dev.measureCycle
  extract_lets +onlyGivenNames _ d1
  have h1 : d₀.Reaches d1 := .onCycle (.maxTo (.wrSat h))
  exact .ite (.wr h1) h1

theorem completeParts (h : d₀.Reaches d) : d₀.Reaches d.completeParts :=
  .foldl h fun _ _ hx => .completePart hx

theorem completeCopy (h : d₀.Reaches d) : d₀.Reaches d.completeCopy :=
  .onCycle h

theorem summarise (h : d₀.Reaches d) : d₀.Reaches d.summarise :=
  .ite (.ownSummary (.onTwin h)) (.queueTwin (.onTwin h))

theorem proveFirmware (h : d₀.Reaches d) : d₀.Reaches d.proveFirmware :=
  .ite h (.showTrust (h.write (.firmwareFloor _ _)))

theorem endCycle {dataBusy} (h : d₀.Reaches d) : d₀.Reaches (d.endCycle dataBusy) :=
  .ite h (.summarise (.proveFirmware (.onCycle (.writePublish (.completeCopy (.completeParts (.measureCycle h)))))))

theorem switchDue {g} (h : d₀.Reaches d) : d₀.Reaches (d.switchDue g) :=
  .ite (.switchHarness h) (.postponeSwitch h)

theorem pairSwitch {g} (h : d₀.Reaches d) : d₀.Reaches (d.pairSwitch g) := by
  unfold Dev.pairSwitch
  extract_lets +onlyGivenNames _ _
  split
  · exact .ite (.switchDue (.onStaged h)) (.ite h (.ite (.onStaged h) (.postponeSwitch (.onStaged h))))
  · exact .ite (.onStaged h) (.postponeSwitch (.onStaged h))

theorem harnessGate (h : d₀.Reaches d) : d₀.Reaches d.harnessGate := by
  unfold Dev.harnessGate
  split
  · exact h
  · refine .ite h ?_
    split
    · exact .switchDue h
    · exact .ite (.ite (.pairSwitch h) (.switchDue h)) h
    · split
      · exact .ite (.onTwin (.ite (.postponeSwitch h) (.switchHarness h))) h
      · exact h
    · exact h
    · exact h
    · exact h

theorem dueReintegrations (h : d₀.Reaches d) : d₀.Reaches d.dueReintegrations :=
  .foldl h fun _ _ hx => .ite (.raise hx) hx

theorem swapAll {which} (h : d₀.Reaches d) : d₀.Reaches (d.swapAll which) := by
  refine .foldl h fun _ _ hx => ?_
  split
  · exact .swapPorts hx
  · exact hx

theorem takePins (h : d₀.Reaches d) : d₀.Reaches d.takePins :=
  .ite h (.aoShowAll (.showDio (.withPower h)))

theorem boundaryWork (h : d₀.Reaches d) : d₀.Reaches d.boundaryWork := by
  unfold Dev.boundaryWork
  extract_lets +onlyGivenNames d1 d2
  have h1 : d₀.Reaches d1 := .applyStaged (.takePins h)
  have h2 : d₀.Reaches d2 := .ite (.restartTime h1) h1
  exact .useCal (.hartShow (.loopBoundary (.ite (.aoShowAll (.showDio (.withIo h2))) h2)))

theorem onTriads {f} (h : d₀.Reaches d) : d₀.Reaches (d.onTriads f) :=
  .foldl h fun _ _ hx => .onTile hx

theorem listWaiting (h : d₀.Reaches d) : d₀.Reaches d.listWaiting :=
  .onCycle h

theorem shadowCommands {r} (h : d₀.Reaches d) : d₀.Reaches (d.shadowCommands r) :=
  .onCycle h

theorem takeHeld (h : d₀.Reaches d) : d₀.Reaches d.takeHeld := by
  unfold Dev.takeHeld
  split
  · exact h
  · exact .showLag (.shadowCommands (.onCycle (.onTwin h)))

theorem listFallback {forced} (h : d₀.Reaches d) : d₀.Reaches (d.listFallback forced) :=
  .foldl h fun _ _ hx => .listNext hx

theorem enterFallback {forced} (h : d₀.Reaches d) : d₀.Reaches (d.enterFallback forced) :=
  .listFallback (.onCycle (.eventM (.incSat (.flag (.raise (.announceSchedule h))))))

theorem openCycle (h : d₀.Reaches d) : d₀.Reaches d.openCycle :=
  .onCycle (.onTriads (.ite (.takeHeld h) (.foldl h fun _ _ hx => .deliverCommands hx)))

theorem beginCycle (h : d₀.Reaches d) : d₀.Reaches d.beginCycle := by
  unfold Dev.beginCycle
  extract_lets +onlyGivenNames _ d1
  have h1 : d₀.Reaches d1 := .dueReintegrations (.boundaryWork (.mixedLoad
      (.harnessGate (.applyStaged (.takePins h)))))
  split
  · exact .enterFallback h1
  · exact .openCycle (.listWaiting (.onTriads (.swapAll h1)))

theorem swapAt {hold} (h : d₀.Reaches d) : d₀.Reaches (d.swapAt hold) := by
  refine .ite ?_ (.beginCycle (.swapIn h))
  extract_lets +onlyGivenNames d1
  have h1 : d₀.Reaches d1 := .swapOut h
  exact .ite (.beginCycle h1) (.boundaryWork h1)

theorem declareBoundary {dataBusy} (h : d₀.Reaches d) : d₀.Reaches (d.declareBoundary dataBusy) := by
  unfold Dev.declareBoundary
  extract_lets +onlyGivenNames _ x1 d2
  clear_value x1
  have h2 : d₀.Reaches d2 := .endCycle h
  refine .ite h2 ?_
  extract_lets +onlyGivenNames d3
  have h3 : d₀.Reaches d3 := .onCycle h2
  split
  · exact .swapAt h3
  · exact .beginCycle h3

theorem cycleBoundary {dataBusy} (h : d₀.Reaches d) : d₀.Reaches (d.cycleBoundary dataBusy) :=
  .ite (.declareBoundary h) h

theorem judgeReturn (h : d₀.Reaches d) : d₀.Reaches d.judgeReturn :=
  .onCycle (.wrSat h)

theorem listForRelease (h : d₀.Reaches d) : d₀.Reaches d.listForRelease :=
  .onCycle h

theorem publishMerged {dataBusy} (h : d₀.Reaches d) : d₀.Reaches (d.publishMerged dataBusy) :=
  .ite h (.onCycle (.writePublish h))

theorem baseRound (h : d₀.Reaches d) : d₀.Reaches d.baseRound :=
  .onCycle (.onTriads (.dueReintegrations (.boundaryWork (.mixedLoad (.harnessGate h)))))

theorem releaseBoundary (h : d₀.Reaches d) : d₀.Reaches d.releaseBoundary :=
  .onCycle (.listForRelease (.onTriads (.swapAll (.baseRound h))))

theorem countBase (h : d₀.Reaches d) : d₀.Reaches d.countBase := by
  unfold Dev.countBase
  extract_lets +onlyGivenNames _ d1
  have h1 : d₀.Reaches d1 := .onTriads (.onCycle h)
  exact .ite (.takeHeld (.onTwin h1)) h1

theorem returnBoundary (h : d₀.Reaches d) : d₀.Reaches d.returnBoundary :=
  .onCycle (.baseRound h)

theorem beginReturn (h : d₀.Reaches d) : d₀.Reaches d.beginReturn :=
  .returnBoundary (.raise (.announceSchedule h))

theorem releaseBase (h : d₀.Reaches d) : d₀.Reaches d.releaseBase := by
  unfold Dev.releaseBase
  extract_lets +onlyGivenNames d1
  have h1 : d₀.Reaches d1 := .judgeReturn h
  exact .ite (.beginReturn h1) (.releaseBoundary h1)

theorem resumeReleases (h : d₀.Reaches d) : d₀.Reaches d.resumeReleases :=
  .releaseBoundary (.onCycle (.drop (.announceSchedule h)))

theorem returningBase (h : d₀.Reaches d) : d₀.Reaches d.returningBase := by
  unfold Dev.returningBase
  extract_lets +onlyGivenNames d1
  have h1 : d₀.Reaches d1 := .judgeReturn (.applyStaged h)
  exact .ite (.resumeReleases h1) (.returnBoundary h1)

theorem swapBase {hold} (h : d₀.Reaches d) : d₀.Reaches (d.swapBase hold) := by
  refine .ite ?_ (.releaseBase (.swapIn h))
  extract_lets +onlyGivenNames d1
  have h1 : d₀.Reaches d1 := .swapOut h
  exact .ite (.releaseBase h1) (.boundaryWork h1)

theorem basePeriod {dataBusy} (h : d₀.Reaches d) : d₀.Reaches (d.basePeriod dataBusy) := by
  refine .ite h ?_
  extract_lets +onlyGivenNames x1 d2
  clear_value x1
  have h2 : d₀.Reaches d2 := .publishMerged (.countBase h)
  split
  · exact .swapBase h2
  · exact .ite (.returningBase h2) (.releaseBase h2)

theorem leaveFallback {dataBusy} (h : d₀.Reaches d) : d₀.Reaches (d.leaveFallback dataBusy) :=
  .cycleBoundary (.onTriads (.onCycle (.eventM (.clear (.announceSchedule h)))))

theorem fallbackLeft {dataBusy} (h : d₀.Reaches d) : d₀.Reaches (d.fallbackLeft dataBusy) :=
  .ite (.leaveFallback h) h

theorem taskWatchdog {t} (h : d₀.Reaches d) : d₀.Reaches (d.taskWatchdog t) := by
  refine .ite h ?_
  split
  · exact h
  · extract_lets +onlyGivenNames _ _
    split
    · exact .tryEvent (.postEvent h)
    · exact h

/-! ### The functions of Machine/Cycle.lean -/

theorem acceptCommand {r b} (h : d₀.Reaches d) : d₀.Reaches (d.acceptCommand r b).dev :=
  .respond (.showCommands (.incSat (.onCycle h)))

theorem plantCommand {r b} (h : d₀.Reaches d) : d₀.Reaches (d.plantCommand r b).dev := by
  unfold Dev.plantCommand
  extract_lets +onlyGivenNames _
  refine .iteReply (.refuse h) (.iteReply (.refuse h) (.iteReply (.refuse h) ?_))
  extract_lets +onlyGivenNames _
  refine .iteReply (.refuse h) (.iteReply (.refuse h) ?_)
  split
  · exact h
  · exact .iteReply (.refuse h) (.iteReply (.refuse h) (.acceptCommand h))

theorem onCommand {source serial f} (h : d₀.Reaches d) : d₀.Reaches (d.onCommand source serial f) :=
  .onCycle h

theorem refuseCommand {c} (h : d₀.Reaches d) : d₀.Reaches (d.refuseCommand c) :=
  .finishRequest (.showCommands (.onCycle (.raise h)))

/-! ### The functions of Machine/EventRecorder.lean -/

theorem eraseJournal (h : d₀.Reaches d) : d₀.Reaches d.eraseJournal :=
  .openIntents (.withEvrec h)

/-! ### The functions of Machine/FabOps.lean -/

theorem routeStop (h : d₀.Reaches d) : d₀.Reaches d.routeStop :=
  .ite (.goStopped h) h

theorem linkLost {t dir degraded} (h : d₀.Reaches d) : d₀.Reaches (d.linkLost t dir degraded) := by
  unfold Dev.linkLost
  extract_lets +onlyGivenNames d1
  have h1 : d₀.Reaches d1 := .loseLink h
  exact .routeStop (.checkRoutes (.ite h1 (.event h1)))

theorem portStop {t} (h : d₀.Reaches d) : d₀.Reaches (d.portStop t) :=
  .tileStop (.wr h)

theorem linkFailed {t dir} (h : d₀.Reaches d) : d₀.Reaches (d.linkFailed t dir) :=
  .ite h (.ite (.portStop h) (.ite (.loseIoPort h) (.ite (.linkLost h) h)))

theorem linkDegraded {t dir} (h : d₀.Reaches d) : d₀.Reaches (d.linkDegraded t dir) :=
  .ite h (.ite (.loseIoPort h) (.ite (.linkLost h) h))

theorem portTimeout {t port} (h : d₀.Reaches d) : d₀.Reaches (d.portTimeout t port) := by
  refine .ite h (.ite (.portStop h) (.ite (.loseIoPort h) ?_))
  split
  · exact .ite h (.linkLost h)
  · exact h

theorem paceOne {n m period} (h : d₀.Reaches d) : d₀.Reaches (d.paceOne n m period) := by
  unfold Dev.paceOne
  extract_lets +onlyGivenNames _ _
  split
  · exact .maxTo (.wrSat (.onFab h))
  · exact .onFab h

theorem marginWarning {n} (h : d₀.Reaches d) : d₀.Reaches (d.marginWarning n) := by
  unfold Dev.marginWarning
  split
  · exact .ite h (.onFab (.event h))
  · exact .onFab (.event h)

theorem paceWindow {n periods} (h : d₀.Reaches d) : d₀.Reaches (d.paceWindow n periods) := by
  refine .ite h ?_
  extract_lets +onlyGivenNames d1 _ _ d2 _ _ d3
  have h1 : d₀.Reaches d1 := .foldl h fun _ _ hx => .paceOne hx
  have h2 : d₀.Reaches d2 := .wr (.wrSat (.ite h1 (.onFab h1)))
  have h3 : d₀.Reaches d3 := .flag (.ite (.wr (.wrSat h2)) h2)
  exact .ite (.marginWarning h3) h3

theorem clusterStop (h : d₀.Reaches d) : d₀.Reaches d.clusterStop :=
  .ite (.setCause h) (.goStopped (.setCause h))

theorem paceSlow {n m} (h : d₀.Reaches d) : d₀.Reaches (d.paceSlow n m) := by
  refine .ite ?_ h
  extract_lets +onlyGivenNames _ x1 d2
  clear_value x1
  have h2 : d₀.Reaches d2 := by
    unfold d2
    split
    · exact .raise (.raise h)
    · exact .raise h
  exact .ite h2 (.clusterStop (.onFab (.event h2)))

theorem clusterOff {n} (h : d₀.Reaches d) : d₀.Reaches (d.clusterOff n) :=
  .foldl (.clear h) fun _ _ hx => .drop hx

theorem showRail {n mv tj} (h : d₀.Reaches d) : d₀.Reaches (d.showRail n mv tj) :=
  .flag (.wrInt (.wrInt (.wr (.wrSat h))))

theorem onPower {f} (h : d₀.Reaches d) : d₀.Reaches (d.onPower f) :=
  .withPower h

theorem thermalSample {k tenths} (h : d₀.Reaches d) : d₀.Reaches (d.thermalSample k tenths) := by
  unfold Dev.thermalSample
  extract_lets +onlyGivenNames d1
  have h1 : d₀.Reaches d1 := .onPower h
  refine .ite h1 ?_
  extract_lets +onlyGivenNames _ _ d2
  have h2 : d₀.Reaches d2 := .flag h1
  exact .ite (.eventM h2) h2

theorem railSample {n mv tj} (h : d₀.Reaches d) : d₀.Reaches (d.railSample n mv tj) := by
  refine .ite h ?_
  extract_lets +onlyGivenNames _ _ _ _ d1 d2 d3 d4 d5
  have h1 : d₀.Reaches d1 := .thermalSample (.showRail h)
  have h2 : d₀.Reaches d2 := .ite (.event (.raise h1)) h1
  have h3 : d₀.Reaches d3 := .ite (.raise h2) h2
  have h4 : d₀.Reaches d4 := .ite (.event h3) h3
  have h5 : d₀.Reaches d5 := .ite (.event (.raise (.clusterOff h4))) h4
  exact .ite (.clusterStop h5) h5

/-! ### The functions of Machine/Life.lean -/

theorem putRole {t role logical substitute} (h : d₀.Reaches d) : d₀.Reaches (d.putRole t role logical substitute) :=
  .flag (.wr (.wr h))

theorem placeCluster {n} (h : d₀.Reaches d) : d₀.Reaches (d.placeCluster n) := by
  unfold Dev.placeCluster
  extract_lets +onlyGivenNames _ d1 x2 d3
  clear_value x2
  have h1 : d₀.Reaches d1 := .clear (.wr (.wr (.foldl h fun _ _ hx => .putRole hx)))
  have h3 : d₀.Reaches d3 := by
    unfold d3
    split
    · exact .ite h1 (.flag (.raise (.wr (.putRole (.putRole h1)))))
    · exact h1
  exact .ite (.drop h3) (.event (.raise h3))

theorem placeTiles (h : d₀.Reaches d) : d₀.Reaches d.placeTiles := by
  unfold Dev.placeTiles
  extract_lets +onlyGivenNames d1
  have h1 : d₀.Reaches d1 := .each h fun _ _ hx => .placeCluster hx
  exact .ite (.goStopped h1) h1

/-! ### The functions of Machine/BootOps.lean -/

theorem onStart {f} (h : d₀.Reaches d) : d₀.Reaches (d.onStart f) :=
  .onPower h

theorem onConn {f} (h : d₀.Reaches d) : d₀.Reaches (d.onConn f) :=
  .withConn h

theorem showKeeper (h : d₀.Reaches d) : d₀.Reaches d.showKeeper :=
  .wr (.flag (.wr h))

theorem showVersion (h : d₀.Reaches d) : d₀.Reaches d.showVersion :=
  .wr (.wr (.wr h))

theorem boot (h : d₀.Reaches d) : d₀.Reaches d.boot := by
  unfold Dev.boot
  split
  · exact h
  · exact .setRole (.when (.showPresence (.showKeeper (.showFlash
        (.showSeal (.showRepair (.showVersion (.showTrust (.restartTime
        (.restoreRing (.reerase (.onPower h))))))))))) fun _ hx => .eventM (.raise hx))

theorem powerOn (h : d₀.Reaches d) : d₀.Reaches d.powerOn :=
  .ite h (.boot (.fldReclose (.onTime (.onPower h) rfl rfl rfl)))

theorem resetRelease (h : d₀.Reaches d) : d₀.Reaches d.resetRelease :=
  .ite (.boot (.onPower h)) h

theorem unseat (h : d₀.Reaches d) : d₀.Reaches d.unseat :=
  .onPower (.drop (.moduleReset h))

theorem seat (h : d₀.Reaches d) : d₀.Reaches d.seat :=
  .onPower (.raise h)

theorem showCode {pins k15} (h : d₀.Reaches d) : d₀.Reaches (d.showCode pins k15) :=
  .showKeeper (.onConn (.flag (.flag (.flag (.flag (.flag (.wr h)))))))

theorem takeIdentity {pins} (h : d₀.Reaches d) : d₀.Reaches (d.takeIdentity pins) :=
  .showPresence (.onStart (.onConn (.wr (.flag h))))

theorem positionStop {reason pins k15} (h : d₀.Reaches d) : d₀.Reaches (d.positionStop reason pins k15) :=
  .goStopped (.eventM (.showPresence (.onConn h)))

theorem clearCode (h : d₀.Reaches d) : d₀.Reaches d.clearCode :=
  .onConn (.clear h)

theorem readCodeAgain (h : d₀.Reaches d) : d₀.Reaches d.readCodeAgain :=
  .onStart (.onConn h)

theorem positionAttempt {a b c} (h : d₀.Reaches d) : d₀.Reaches (d.positionAttempt a b c) := by
  refine .ite h ?_
  extract_lets +onlyGivenNames _ _
  refine .ite ?_ ?_
  · extract_lets +onlyGivenNames d1
    have h1 : d₀.Reaches d1 := .showCode h
    exact .ite (.positionStop h1) (.ite (.positionStop h1) (.takeIdentity h1))
  · extract_lets +onlyGivenNames d2
    have h2 : d₀.Reaches d2 := .onConn h
    exact .ite (.positionStop (.clearCode h2)) h2

theorem positionChanged {k15} (h : d₀.Reaches d) : d₀.Reaches (d.positionChanged k15) :=
  .eventM (.raise h)

theorem pinSample {pins} (h : d₀.Reaches d) : d₀.Reaches (d.pinSample pins) := by
  refine .ite h ?_
  extract_lets +onlyGivenNames _ d1
  have h1 : d₀.Reaches d1 := .onConn h
  split
  · exact .ite (.positionChanged h1) h1
  · exact h1

theorem twinSwitch {on_} (h : d₀.Reaches d) : d₀.Reaches (d.twinSwitch on_) := by
  unfold Dev.twinSwitch
  split
  · exact .ite (.positionChanged h) h
  · exact h

theorem maintSwitch {on_} (h : d₀.Reaches d) : d₀.Reaches (d.maintSwitch on_) := by
  refine .ite (.maintKeeperOff h) ?_
  split
  · exact .ite (.beginOwnPart h) h
  · exact h

theorem keeperChange {k on_} (h : d₀.Reaches d) : d₀.Reaches (d.keeperChange k on_) := by
  unfold Dev.keeperChange
  extract_lets +onlyGivenNames d1
  have h1 : d₀.Reaches d1 := .eventM h
  exact .ite (.ite (.eventM (.raise h1)) h1) (.ite (.twinSwitch h1) (.ite (.maintSwitch h1) h1))

theorem keeperSample {n} (h : d₀.Reaches d) : d₀.Reaches (d.keeperSample n) := by
  refine .ite h ?_
  extract_lets +onlyGivenNames _ d1
  have h1 : d₀.Reaches d1 := .showKeeper (.onConn h)
  exact .foldl (.ite (.eventM (.flag h1)) h1) fun _ _ hx => .keeperChange hx

theorem compareProtect (h : d₀.Reaches d) : d₀.Reaches d.compareProtect := by
  unfold Dev.compareProtect
  split
  · exact .event h
  · exact .ite (.event h) (.ite h (.goStopped (.event h)))

theorem compareSafety (h : d₀.Reaches d) : d₀.Reaches d.compareSafety := by
  unfold Dev.compareSafety
  split
  · exact .event h
  · exact .ite (.goStopped (.event h)) (.ite (.event h) h)

theorem compareBridle (h : d₀.Reaches d) : d₀.Reaches d.compareBridle :=
  .compareSafety (.compareProtect h)

theorem reportMarks (h : d₀.Reaches d) : d₀.Reaches d.reportMarks := by
  unfold Dev.reportMarks
  extract_lets +onlyGivenNames d1
  have h1 : d₀.Reaches d1 := .ite (.eventM h) h
  exact .withHrn (.ite (.stageResult h1) h1)

theorem pickSlot (h : d₀.Reaches d) : d₀.Reaches d.pickSlot.2 := by
  refine .iteSnd h ?_
  split
  · exact .eventM (.raise h)
  · exact .goStopped (.eventM (.raise h))

theorem preferPartner {k} (h : d₀.Reaches d) : d₀.Reaches (d.preferPartner k).2 := by
  unfold Dev.preferPartner
  split
  · exact .eventM (.raise (.withHrn h))
  · exact h

theorem bootSelect (h : d₀.Reaches d) : d₀.Reaches d.bootSelect := by
  unfold Dev.bootSelect
  extract_lets +onlyGivenNames _
  refine .ite h ?_
  extract_lets +onlyGivenNames d1 _ d2
  have h2 : d₀.Reaches d2 := .withHrn (.each (.reportMarks h) fun _ _ h => .checkAtStart h)
  split
  next he => exact .showMarks (.ofSnd he (.pickSlot h2))
  next he => exact .compareBridle (.onStart (.loadCal (.readSeal (.runImage (.preferPartner (.ofSnd he
    (.pickSlot h2)))))))

theorem clusterUp {n} (h : d₀.Reaches d) : d₀.Reaches (d.clusterUp n) :=
  .ite h (.ite (.onStart (.ite h (.eventM h))) (.onStart (.foldl (.raise h) fun _ _ hx => .raise hx)))

theorem clusterFault {n} (h : d₀.Reaches d) : d₀.Reaches (d.clusterFault n) :=
  .ite (.goStopped (.clusterOff (.event h))) h

theorem coldEnd (h : d₀.Reaches d) : d₀.Reaches d.coldEnd :=
  .ite (.onStart h) h

theorem freshLinks (h : d₀.Reaches d) : d₀.Reaches d.freshLinks :=
  .each (.each (.withFab h) fun _ _ hx => .clear hx) fun _ _ hx => .putWord hx

theorem startTested {f} (h : d₀.Reaches d) : d₀.Reaches (d.startTested f) :=
  .ite h (.routeStop (.onStart (.endTest (.ite (.freshLinks h) h))))

theorem judgeRetain (h : d₀.Reaches d) : d₀.Reaches d.judgeRetain := by
  unfold Dev.judgeRetain
  extract_lets +onlyGivenNames _
  split <;> exact .onCycle h

theorem loadPart {p} (h : d₀.Reaches d) : d₀.Reaches (d.loadPart p) :=
  .putTile h

theorem startTiles (h : d₀.Reaches d) : d₀.Reaches d.startTiles :=
  .showTriads (.each (.each h fun _ _ hx => .raise hx) fun _ _ hx => .ite (.drop hx) (.clear (.wr hx)))

theorem loadLoops (h : d₀.Reaches d) : d₀.Reaches d.loadLoops := by
  unfold Dev.loadLoops
  extract_lets +onlyGivenNames _ _ d1
  have h1 : d₀.Reaches d1 := .foldl (.each h fun _ _ hx => .setSlotState hx) fun _ _ hx => .event (.setSlotState hx)
  exact .ite h1 (.goStopped h1)

theorem forgetCommands (h : d₀.Reaches d) : d₀.Reaches d.forgetCommands :=
  .showCommands (.foldl (.onCycle h) fun _ _ hx => .finishRequest hx)

theorem freshCycle (h : d₀.Reaches d) : d₀.Reaches d.freshCycle :=
  .onCycle h

theorem listen (h : d₀.Reaches d) : d₀.Reaches d.listen :=
  .onStart h

theorem restoreRange {p data} (h : d₀.Reaches d) : d₀.Reaches (d.restoreRange p data) := by
  unfold Dev.restoreRange
  split
  · exact .onTile h
  · exact h

theorem presetOutputs {warm} (h : d₀.Reaches d) : d₀.Reaches (d.presetOutputs warm) :=
  .foldl h fun _ _ hx => .onTile hx

theorem warmStart {c} (h : d₀.Reaches d) : d₀.Reaches (d.warmStart c) :=
  .onCycle (.wr (.presetOutputs (.foldl h fun _ _ hx => .restoreRange hx)))

theorem coldStart (h : d₀.Reaches d) : d₀.Reaches d.coldStart :=
  .onCycle (.wr (.presetOutputs h))

theorem retainInvalid (h : d₀.Reaches d) : d₀.Reaches d.retainInvalid :=
  .listNext (.eventM (.raise h))

theorem restartState {partner} (h : d₀.Reaches d) : d₀.Reaches (d.restartState partner) := by
  unfold Dev.restartState
  extract_lets +onlyGivenNames _ d1
  have h1 : d₀.Reaches d1 := .onCycle h
  refine .ite ?_ (.coldStart h1)
  split
  · exact .warmStart h1
  · exact .coldStart (.retainInvalid h1)

theorem releaseAll (h : d₀.Reaches d) : d₀.Reaches d.releaseAll :=
  .foldl h fun _ _ hx => .releaseLocal hx

theorem enterFromStart {r partner} (h : d₀.Reaches d) : d₀.Reaches (d.enterFromStart r partner) :=
  .releaseAll (.enterCommand (.onStart (.onTwin (.restartState h))))

theorem joinStandby (h : d₀.Reaches d) : d₀.Reaches d.joinStandby :=
  .wr (.enterStandby (.onCycle (.onStart h)))

theorem enterSolo (h : d₀.Reaches d) : d₀.Reaches d.enterSolo :=
  .ite (.ite (.goStopped h) (.enterFromStart h)) h

theorem clustersLoaded (h : d₀.Reaches d) : d₀.Reaches d.clustersLoaded := by
  unfold Dev.clustersLoaded
  extract_lets +onlyGivenNames _
  refine .ite h ?_
  extract_lets +onlyGivenNames _ d1
  have h1 : d₀.Reaches d1 := .loadLoops (.loadPages (.startTiles (.foldl
      (.judgeRetain (.freshCycle (.forgetCommands (.placeTiles h)))) fun _ _ hx => .loadPart hx)))
  refine .ite h1 ?_
  extract_lets +onlyGivenNames d2
  have h2 : d₀.Reaches d2 := .onStart h1
  exact .ite h2 (.ite (.enterSolo h2) (.listen h2))

theorem listenEnd {partner} (h : d₀.Reaches d) : d₀.Reaches (d.listenEnd partner) := by
  unfold Dev.listenEnd
  extract_lets +onlyGivenNames _
  refine .ite h (.ite (.goStopped h) (.ite (.goStopped h) ?_))
  split
  · exact .joinStandby h
  · exact .joinStandby h
  · exact .ite (.onStart h) (.enterFromStart h)
  · exact .enterFromStart h

theorem standbyWait (h : d₀.Reaches d) : d₀.Reaches d.standbyWait :=
  .ite (.listen h) h

theorem freshCounts (h : d₀.Reaches d) : d₀.Reaches d.freshCounts :=
  .clear (.clear (.putWord (.each h fun _ _ hx => .clear hx)))

theorem startCommand {warm} (h : d₀.Reaches d) : d₀.Reaches (d.startCommand warm).dev := by
  refine .iteReply (.refuse h) ?_
  extract_lets +onlyGivenNames d1
  have h1 : d₀.Reaches d1 := .takeLoaded (.abortTest h)
  exact .iteReply (.refuse h1) (.done (.compareBridle (.readCodeAgain
      (.beginLoading (.onCycle (.freshCounts (.onTwin h1)))))))

theorem setLost {x b} (h : d₀.Reaches d) : d₀.Reaches (d.setLost x b) :=
  .onPower h

theorem feedGood {x} (h : d₀.Reaches d) : d₀.Reaches (d.feedGood x) :=
  .onPower (.setLost (.raise h))

theorem beginPowerFail (h : d₀.Reaches d) : d₀.Reaches d.beginPowerFail := by
  refine .ite (.moduleReset (.clear h)) ?_
  split
  · exact .onPower (.eventM (.raise h))
  · exact h

theorem feedLost {x tooHigh} (h : d₀.Reaches d) : d₀.Reaches (d.feedLost x tooHigh) := by
  unfold Dev.feedLost
  extract_lets +onlyGivenNames d1 d2
  have h1 : d₀.Reaches d1 := .setLost (.when (.drop h) fun _ hx => .raise hx)
  have h2 : d₀.Reaches d2 := .ite (.onPower h1) h1
  exact .ite h2 (.ite (.beginPowerFail h2) (.ite (.eventM h2) h2))

theorem feedDip {x} (h : d₀.Reaches d) : d₀.Reaches (d.feedDip x) :=
  .ite (.onPower (.eventM (.drop (.setLost h)))) h

theorem commitPower (h : d₀.Reaches d) : d₀.Reaches d.commitPower :=
  .onPower (.withLoop (.eventM (.clear (.endFreeze h))))

theorem powerFailCommit (h : d₀.Reaches d) : d₀.Reaches d.powerFailCommit :=
  .ite (.commitPower h) h

theorem beginJournal (h : d₀.Reaches d) : d₀.Reaches d.beginJournal :=
  .onPower (.withEvrec (.powerFailJournal h))

theorem beginSave {c} (h : d₀.Reaches d) : d₀.Reaches (d.beginSave c) :=
  .ite (.beginJournal (.wornFlash h)) (.onPower (.raise (.onCycle (.suspendErase h))))

theorem freezeRetain (h : d₀.Reaches d) : d₀.Reaches d.freezeRetain := by
  unfold Dev.freezeRetain
  extract_lets +onlyGivenNames _ d1
  have h1 : d₀.Reaches d1 := .clustersOff (.withTiles (.ite (.completeCopy (.completeParts h)) h))
  split
  · exact .beginSave h1
  · exact .beginJournal h1

theorem pfCycleEnd (h : d₀.Reaches d) : d₀.Reaches d.pfCycleEnd :=
  .ite (.freezeRetain h) h

theorem pfRetainSaved (h : d₀.Reaches d) : d₀.Reaches d.pfRetainSaved := by
  unfold Dev.pfRetainSaved
  split
  · exact .ite (.beginJournal (.drop (.raise (.onCycle h)))) h
  · exact h

theorem pfJournalWritten (h : d₀.Reaches d) : d₀.Reaches d.pfJournalWritten :=
  .ite (.moduleReset h) h

theorem holdupExhausted (h : d₀.Reaches d) : d₀.Reaches d.holdupExhausted :=
  .ite (.moduleReset h) h

theorem holdupCharged {cap} (h : d₀.Reaches d) : d₀.Reaches (d.holdupCharged cap) := by
  refine .ite h ?_
  extract_lets +onlyGivenNames d1
  have h1 : d₀.Reaches d1 := .raise (.wr h)
  exact .enterSolo (.ite (.eventM h1) h1)

theorem restartCommand {warm} (h : d₀.Reaches d) : d₀.Reaches (d.restartCommand warm).dev :=
  .iteReply (.refuse h) (.done (.onCycle (.dropStage h)))

theorem restartNow (h : d₀.Reaches d) : d₀.Reaches d.restartNow := by
  refine .ite h ?_
  split
  · exact .ite h (.commitPower (.onPower h))
  · exact .moduleReset h
  · exact h

theorem fldGoodNow (h : d₀.Reaches d) : d₀.Reaches d.fldGoodNow :=
  .ite h (.aoShowAll (.showDio (.updateFns (.withIo (.onPower (.drop (.raise h)))))))

theorem fldLostNow (h : d₀.Reaches d) : d₀.Reaches d.fldLostNow :=
  .ite h (.aoShowAll (.showDio (.updateFns (.drop (.when (.onPower (.drop h)) fun _ hx => .eventM (.raise hx))))))

theorem fuseOpens (h : d₀.Reaches d) : d₀.Reaches d.fuseOpens :=
  .ite h (.fldLostNow (.ite (.eventM (.raise h)) (.raise h)))

theorem groupEnable (h : d₀.Reaches d) : d₀.Reaches d.groupEnable :=
  .ite (.showDio (.wr h)) h

theorem thermalStop (h : d₀.Reaches d) : d₀.Reaches d.thermalStop :=
  .ite (.goStopped (.eventM (.onPower (.raise h)))) h

theorem thermalReset (h : d₀.Reaches d) : d₀.Reaches d.thermalReset :=
  .ite (.moduleReset h) h

/-! ### The functions of Machine/General.lean -/

theorem registerWrite {p off v} (h : d₀.Reaches d) : d₀.Reaches (d.registerWrite p off v) := by
  refine .ite h ?_
  split
  · exact .reportedWrite h
  · exact .writeStatus (.countAccess h)
  · exact .writeReg h

theorem enterMaint (h : d₀.Reaches d) : d₀.Reaches d.enterMaint.dev :=
  .iteReply (.refuse h) (.iteReply (.refuse h) (.done (.leaveTo (.abortTest h))))

theorem leaveMaintCommand (h : d₀.Reaches d) : d₀.Reaches d.leaveMaintCommand.dev :=
  .iteReply (.refuse h) (.done (.leaveTo (.withBridle h)))

theorem resetFor {c} (h : d₀.Reaches d) : d₀.Reaches (d.resetFor c) := by
  unfold Dev.resetFor
  split
  · exact h
  · exact .unseat h
  · exact .moduleReset h
  · exact .moduleReset h
  · exact .moduleReset h
  · exact .moduleReset h

/-! ### The functions of Machine/Loop.lean -/

theorem frameLost {g} (h : d₀.Reaches d) : d₀.Reaches (d.frameLost g) := by
  unfold Dev.frameLost
  extract_lets +onlyGivenNames _
  refine .foldl (.raise (.drop h)) fun _ _ hx => ?_
  extract_lets +onlyGivenNames _ _ d1
  have h1 : d₀.Reaches d1 := .onSlot (.triggerSlot (.when hx fun _ hx => .onSlot hx))
  exact .ite (.loopFault h1) h1

theorem frameTaken {g bytes} (h : d₀.Reaches d) : d₀.Reaches (d.frameTaken g bytes) := by
  unfold Dev.frameTaken
  extract_lets +onlyGivenNames _ _ _ _ _ _ _ _ _ d1
  have h1 : d₀.Reaches d1 := .when (.onLink (.flag (.flag (.flag (.wr (.wr (.flag (.raise h)))))))) fun _ hx =>
      .event hx
  exact .ite h1 (.foldl h1 fun _ _ hx => .triggerSlot (.onSlot hx))

theorem linkUnsure {g} (h : d₀.Reaches d) : d₀.Reaches (d.linkUnsure g) :=
  .ite (.flag (.withFree h)) h

/-! ### The functions of Machine/Management.lean -/

theorem storeOwner {r} (h : d₀.Reaches d) : d₀.Reaches (d.storeOwner r) :=
  .eventM (.ownerChanged (h.write (.imageFloor _ r.minSecver)))

/-! ### The functions of Machine/Rings.lean -/

theorem twinFrame {k x} (h : d₀.Reaches d) : d₀.Reaches (d.twinFrame k x) := by
  refine .ite h ?_
  extract_lets +onlyGivenNames d1
  have h1 : d₀.Reaches d1 := .onRingPort h
  refine .ite h1 ?_
  extract_lets +onlyGivenNames d2
  have h2 : d₀.Reaches d2 := .onRing (.incWrap (.incWrap h1))
  refine .ite h2 ?_
  split
  next he => exact .ofSnd he (.takeFragment h2)
  next he =>
    have h3 := ofSnd he (.takeFragment h2)
    exact .ite (.takeRecord h3) (.stitchSummary h3)

/-! ### The functions of Machine/SafetyFns.lean -/

theorem encoderSupply {e} (h : d₀.Reaches d) : d₀.Reaches (d.encoderSupply e) :=
  .ite (.onEnc (.withFree h)) (.onEnc h)

/-! ### The functions of Machine/TimeBase.lean -/

theorem ppsLabel (h : d₀.Reaches d) : d₀.Reaches d.ppsLabel.2 := by
  unfold Dev.ppsLabel
  extract_lets +onlyGivenNames x1
  clear_value x1
  split
  · exact .onTime h rfl rfl rfl
  · exact .onTime h rfl rfl rfl
  · exact h

theorem takeSample (h : d₀.Reaches d) : d₀.Reaches d.takeSample := by
  unfold Dev.takeSample
  split
  · exact .useSample (.onTime h rfl rfl rfl)
  · exact h

theorem showTsq (h : d₀.Reaches d) : d₀.Reaches d.showTsq := by
  unfold Dev.showTsq
  extract_lets +onlyGivenNames _
  split
  · exact .wr64 (.raise (.wr (.wr (.wr h))))
  · exact .clear (.wr h)

/-! ### The functions of Machine/Triads.lean -/

theorem declareMissing (h : d₀.Reaches d) : d₀.Reaches d.declareMissing := by
  unfold Dev.declareMissing
  split
  · exact .diverge (.onTwin h)
  · exact h

/-! ### The functions of Machine/Twin.lean -/

theorem forwarded {r dataBusy} (h : d₀.Reaches d) : d₀.Reaches (d.forwarded r dataBusy) := by
  unfold Dev.forwarded
  extract_lets +onlyGivenNames d1
  have h1 : d₀.Reaches d1 := .takeRecord h
  exact .ite h1 (.ite h1 (.cycleBoundary h1))

/-! ### The functions of Machine/Step.lean -/

theorem tick (h : d₀.Reaches d) : d₀.Reaches d.tick :=
  .ite h h

end Dev.Reaches

/-! ### Commands -/

/-- A command answers the next module, whose ledger comes from the old one's by a row of writes. -/
def State.Steps (s : State) (o : Host.Outcome State Fault Refusal) : Prop :=
  ∃ d, o = .next { s with dev := d } ∧ s.dev.Reaches d

namespace State.Steps

variable {s : State}

theorem act {f : Dev → Dev} (h : s.dev.Reaches (f s.dev)) : s.Steps (s.act f) := ⟨_, rfl, h⟩

theorem actIf {b : Bool} {f : Dev → Dev} (h : s.dev.Reaches (f s.dev)) : s.Steps (s.actIf b f) :=
  .act (.ite h .refl)

theorem execBridleStartChecks {cause ms} : s.Steps (execBridleStartChecks cause ms s) := by
  refine .act ?_
  refine .ite .refl ?_
  extract_lets +onlyGivenNames _ _ _ d1
  have h1 : s.dev.Reaches d1 := .withPower (.onBridle .refl)
  exact .ite (.takeSafety (.takeProtect h1)) (.goStopped (.event (.updateFns h1)))

theorem execCommandJournalWritten {source serial ok} : s.Steps (execCommandJournalWritten source serial ok s) := by
  refine .act ?_
  split
  · exact .refl
  · exact .ite (.refuseCommand (.wornFlash .refl)) (.ite (.onCommand .refl) (.refuseCommand .refl))

theorem execTimerSampleTrigger {slot} : s.Steps (execTimerSampleTrigger slot s) := by
  refine .act ?_
  split
  · exact .refl
  · exact .ite .refl (.triggerSlot .refl)

theorem execLoopSampleStart {tile fwd} : s.Steps (execLoopSampleStart tile fwd s) := by
  refine .act ?_
  refine .ite .refl ?_
  split
  · exact .beginSample .refl
  · exact .refl

theorem execSampleDeadline {slot} : s.Steps (execSampleDeadline slot s) := by
  refine .act ?_
  split
  · exact .missDeadline .refl
  · exact .refl

theorem execAwlInjectionEnd : s.Steps (execAwlInjectionEnd s) := by
  refine .act ?_
  split
  · exact .ite (.awlStopInject .refl) .refl
  · exact .refl

theorem execTripLineChange {line asserted} : s.Steps (execTripLineChange line asserted s) := by
  refine .act ?_
  refine .ite (.onBridle .refl) ?_
  extract_lets +onlyGivenNames d1
  have h1 : s.dev.Reaches d1 := .onBridle .refl
  exact .showPoller (.showPresence (.ite h1 (.onBridle h1)))

theorem execTermDelayExpiry {eq term} : s.Steps (execTermDelayExpiry eq term s) := by
  refine .act ?_
  split
  · exact .refl
  · split
    · exact .refl
    · exact .ite (.bridleCycle (.onBridle .refl)) .refl

theorem execTripReset {req body} : s.Steps (execTripReset req body s) := by
  refine .act ?_
  refine .request .refl fun _ hx => ?_
  extract_lets +onlyGivenNames _ _ _ d1
  have h1 : s.dev.Reaches d1 := .eventM (.ite (.bridleCycle hx) hx)
  exact .iteReply (.done (.driveOutputs (.onBridle h1))) (.refuse h1)

theorem execTbAnswer {own window} : s.Steps (execTbAnswer own window s) := by
  refine .act ?_
  refine .ite .refl ?_
  extract_lets +onlyGivenNames d1 _
  have h1 : s.dev.Reaches d1 := .takeWindow .refl
  refine .ite (.onBridle h1) ?_
  split <;> exact .onBridle h1

theorem execBridleDiagRound {dacMv round} : s.Steps (execBridleDiagRound dacMv round s) := by
  refine .act ?_
  refine .ite .refl ?_
  extract_lets +onlyGivenNames _ d1
  have h1 : s.dev.Reaches d1 := .onBridle .refl
  split
  · exact .ownFault h1
  · split
    · exact .ite (.ownFault h1) h1
    · exact h1

theorem execTestPulseCheck {tp high} : s.Steps (execTestPulseCheck tp high s) := by
  refine .act ?_
  refine .ite .refl (.driveSafety (.foldl .refl fun _ _ hx => ?_))
  extract_lets +onlyGivenNames _ d1
  have h1 : s.dev.Reaches d1 := .onSafety hx
  exact .ite (.latchFn h1) h1

theorem execStopTimeout {fn} : s.Steps (execStopTimeout fn s) := by
  refine .act ?_
  split
  · exact .ite (.driveSafety (.latchFn (.endStop .refl))) .refl
  · exact .refl

theorem execInputFrame {ring check frame} : s.Steps (execInputFrame ring check frame s) := by
  refine .act ?_
  extract_lets +onlyGivenNames d1
  have h1 : s.dev.Reaches d1 := .inputFrame .refl
  exact .ite (.yield h1) h1

theorem execPtpSample {ref stampOk delayNs stepsRemoved utcOffset} : s.Steps
    (execPtpSample ref stampOk delayNs stepsRemoved utcOffset s) := by
  refine .act ?_
  refine .ite .refl ?_
  extract_lets +onlyGivenNames _ d1
  have h1 : s.dev.Reaches d1 := .raise (.wr (.wrInt (.wrSat (.wr .refl))))
  exact .ite h1 (.ite (.presentSample h1) (.incSat h1))

theorem execPpsEdge {widthNs ptpTime} : s.Steps (execPpsEdge widthNs ptpTime s) := by
  refine .act (.ite .refl (.ite (.incSat .refl) ?_))
  extract_lets +onlyGivenNames _ d1 _ _ _ _
  have h1 : s.dev.Reaches d1 := .onTime .refl rfl rfl rfl
  refine .ite (.incSat h1) ?_
  extract_lets +onlyGivenNames d2
  have h2 : s.dev.Reaches d2 := .wr64 (.incWrap h1)
  refine .ite (.presentSample h2) (.ite ?_ h2)
  split
  next he => exact .presentSample (.ofSnd he (.ppsLabel h2))
  next he => exact .ofSnd he (.ppsLabel h2)

theorem execTimeHoldover : s.Steps (execTimeHoldover s) := by
  refine .act ?_
  extract_lets +onlyGivenNames d1
  have h1 : s.dev.Reaches d1 := .onTime (.drop .refl) rfl rfl rfl
  exact .ite (.event (.wr (.dropPlan h1 rfl rfl rfl))) h1

theorem execPtpAnnounceTimeout : s.Steps (execPtpAnnounceTimeout s) := by
  refine .act ?_
  extract_lets +onlyGivenNames _
  refine .ite .refl ?_
  extract_lets +onlyGivenNames d1
  have h1 : s.dev.Reaches d1 := .drop (.wr .refl)
  exact .ite h1 (.wr h1)

theorem execTimeRestart {req} : s.Steps (execTimeRestart req s) := by
  refine .act ?_
  split
  · exact .timeRestartCmd .refl
  · exact .request .refl fun _ hx => .iteReply (.done (.restartTime hx)) (.refuse hx)

theorem execDioCurrentLimit {pin units} : s.Steps (execDioCurrentLimit pin units s) := by
  refine .act ?_
  refine .ite (.showDio (.onIo .refl)) (.ite ?_ .refl)
  extract_lets +onlyGivenNames d1
  have h1 : s.dev.Reaches d1 := .maxTo .refl
  exact .ite (.showDio (.onIo h1)) h1

theorem execCanTxSelect {port} : s.Steps (execCanTxSelect port s) := by
  refine .act ?_
  refine .ite ?_ .refl
  split
  · exact .onBuf .refl
  · exact .refl

theorem execEventJournalWrite : s.Steps (execEventJournalWrite s) := by
  refine .act ?_
  refine .ite ?_ .refl
  split
  · exact .ite (.flashWrite .refl fun _ hx => .eraseJournal hx) (.ite .refl (.journalSlot .refl))
  · exact .refl

theorem execFreeze {req} : s.Steps (execFreeze req s) := by
  refine .act ?_
  split
  · exact .freezeCmd .refl
  · refine .request .refl fun d h => ?_
    split
    next he => exact .done (.beginFreeze h he)
    next => exact .refuse h

theorem execUnfreeze {req} : s.Steps (execUnfreeze req s) := by
  refine .act ?_
  split
  · exact .unfreezeCmd .refl
  · exact .request .refl fun _ hx => .done (.endFreeze hx)

theorem execHistDriveMount {bay drive} : s.Steps (execHistDriveMount bay drive s) := by
  refine .act ?_
  refine .ite .refl ?_
  extract_lets +onlyGivenNames _ _ _ d1
  have h1 : s.dev.Reaches d1 := .wr (.showDrive .refl)
  exact .ite (.when (.showSets (.withHist h1)) fun _ hx => .event hx) h1

theorem execHistSetFailed {bay loss} : s.Steps (execHistSetFailed bay loss s) := by
  refine .act ?_
  extract_lets +onlyGivenNames _
  refine .ite ?_ .refl
  extract_lets +onlyGivenNames d1 _ _ _ _ _ d2
  have h1 : s.dev.Reaches d1 := by
    unfold d1
    split
    · exact .clear .refl
    · exact .wr .refl
    · exact .incSat (.wr .refl)
  have h2 : s.dev.Reaches d2 := .dropRebuild (.showSets (.putSet (.withHist h1)))
  exact .ite h2 (.when (.event (.raise h2)) fun _ hx => .event hx)

theorem execHistSample {tag use} : s.Steps (execHistSample tag use s) := by
  refine .act ?_
  split
  · exact .refl
  · extract_lets +onlyGivenNames _ _ _ _ _ _ _ d1
    have h1 : s.dev.Reaches d1 := .flag (.when (.showOldest (.onSets
        (.wr (.maxTo (.wrSat (.wr (.maxTo (.wr (.ite .refl (.readPublish .refl)))))))))) fun _ hx => .event hx)
    exact .ite h1 (.ite (.putTag (.incSat h1)) (.storeRaw h1))

theorem execHistAggregate {tier} : s.Steps (execHistAggregate tier s) := by
  refine .act ?_
  refine .ite ?_ .refl
  extract_lets +onlyGivenNames _
  refine .each .refl fun _ _ hx => ?_
  split
  · extract_lets +onlyGivenNames d1
    have h1 : s.dev.Reaches d1 := .putTag hx
    exact .ite (.onSets h1) h1
  · exact hx

theorem execStreamMessage {session stream awl place taken} : s.Steps
    (execStreamMessage session stream awl place taken s) := by
  refine .act ?_
  extract_lets +onlyGivenNames _
  split
  · exact .refl
  · split
    · exact .refl
    · extract_lets +onlyGivenNames _ d1
      have h1 : s.dev.Reaches d1 := .withHist .refl
      exact .ite (.noteExport (.withHist h1)) h1

theorem execSessionOpen {hello} : s.Steps (execSessionOpen hello s) := by
  refine .act ?_
  refine .ite .refl (.ite .refl ?_)
  extract_lets +onlyGivenNames d1
  have h1 : s.dev.Reaches d1 := .flag .refl
  split
  · exact .authFail h1
  · exact .wr h1

theorem execSessionIdleTimeout {session} : s.Steps (execSessionIdleTimeout session s) := by
  refine .act ?_
  split
  · exact .ite (.closeSession .refl) .refl
  · exact .refl

theorem execReadReg {req offset count} : s.Steps (execReadReg req offset count s) := by
  refine .act ?_
  refine .request .refl fun _ hx => ?_
  extract_lets +onlyGivenNames _ _
  refine .iteReply (.refuse hx) ?_
  split
  · exact .refuse (.countAccess hx)
  · exact .iteReply (.refuse hx) (.done (.readMany hx))

theorem execWriteReg {req offset value} : s.Steps (execWriteReg req offset value s) := by
  refine .act ?_
  refine .request .refl fun _ hx => ?_
  extract_lets +onlyGivenNames _
  refine .iteReply (.refuse hx) ?_
  split
  · exact .refuse (.countAccess hx)
  · split
    · exact .refuse (.countAccess hx)
    · extract_lets +onlyGivenNames d1
      have h1 : s.dev.Reaches d1 := .reportedWrite hx
      exact .iteReply (.done h1) (.refuse h1)

theorem execFwUpdate {req copy} : s.Steps (execFwUpdate req copy s) := by
  refine .act ?_
  refine .request .refl fun _ hx => .iteReply (.refuse hx) ?_
  split
  · exact .refuse hx
  · exact .done (.pendState (.raise hx))

theorem execPropose {req kind subject} : s.Steps (execPropose req kind subject s) := by
  refine .act ?_
  refine .request .refl fun _ hx => ?_
  extract_lets +onlyGivenNames _
  refine .iteReply (.refuse hx) ?_
  split
  · exact .done hx
  · split
    · exact .refuse hx
    · exact .done (.wr (.pendState hx))

theorem execApprove {req pendingId keyIndex sig} : s.Steps (execApprove req pendingId keyIndex sig s) := by
  refine .act ?_
  refine .request .refl fun _ hx => ?_
  split
  · exact .refuse hx
  · split
    · exact .refuse hx
    · refine .iteReply (.refuse hx) (.iteReply (.refuse hx) ?_)
      extract_lets +onlyGivenNames _ d1
      have h1 : s.dev.Reaches d1 := .event hx
      exact .iteReply (.done h1) (.iteReply (.done (.pendState h1)) (.done (.putPend h1)))

theorem execWithdraw {req pendingId} : s.Steps (execWithdraw req pendingId s) := by
  refine .act ?_
  refine .request .refl fun _ hx => ?_
  split
  · exact .refuse hx
  · exact .done (.pendState hx)

theorem execPendingLapse {pendingId} : s.Steps (execPendingLapse pendingId s) := by
  refine .act ?_
  split
  · exact .ite (.pendState .refl) .refl
  · exact .refl

theorem execCsr {req} : s.Steps (execCsr req s) := by
  refine .act ?_
  refine .request .refl fun _ hx => ?_
  split
  · exact .done hx
  · exact .refuse hx

theorem execReleaseOwner {req} : s.Steps (execReleaseOwner req s) := by
  refine .act (.request .refl fun _ hx => .iteReply (.refuse hx) ?_)
  split
  · exact .refuse hx
  · exact .done (.ownerChanged (.clear (.showImage (.withHrn (.withTrust (.pendState hx) rfl rfl)))))

theorem execFlashBlockFail {block erase} : s.Steps (execFlashBlockFail block erase s) := by
  refine .act ?_
  refine .ite .refl (.flashWrite (.incSat .refl) fun _ hx => ?_)
  extract_lets +onlyGivenNames _ _ d1
  have h1 : s.dev.Reaches d1 := .showFlash (.onLife hx rfl rfl)
  exact .ite (.eventM h1) h1

theorem execTagFieldWrite {page content} : s.Steps (execTagFieldWrite page content s) := by
  refine .actIf ?_
  split
  · exact .ite (.incSat (.raise (.wr (.raise (Dev.Reaches.refl.write (.tagBytes _ _ _)))))) .refl
  · exact .refl

theorem execTagLockExpiry : s.Steps (execTagLockExpiry s) := by
  refine .act ?_
  split
  · exact .ite (.unlockTag .refl) .refl
  · exact .refl

/-- Every command reaches the module it answers with by a row of writes. -/
theorem exec (c : Instr) : s.Steps (exec c s) := by
  unfold Machine.exec
  cases c with
  | registerWrite => exact .act (.registerWrite .refl)
  | enterSafetyMaint => exact .act (.request .refl fun _ hx => .enterMaint hx)
  | leaveSafetyMaint => exact .act (.request .refl fun _ hx => .leaveMaintCommand hx)
  | seatedLoopClose => exact .act (.seat .refl)
  | electronicsPowerOn => exact .act (.powerOn .refl)
  | seatedLoopOpen => exact .act (.unseat .refl)
  | moduleReset => exact .act (.ite (.resetFor .refl) .refl)
  | positionSampleAttempt => exact .act (.positionAttempt .refl)
  | positionPinSample => exact .act (.pinSample .refl)
  | keeperSample => exact .act (.keeperSample .refl)
  | feedGood => exact .act (.feedGood .refl)
  | feedLost => exact .act (.feedLost .refl)
  | feedOvervoltage => exact .act (.feedLost .refl)
  | feedDip => exact .act (.feedDip .refl)
  | powerFailCommit => exact .act (.powerFailCommit .refl)
  | pfCycleEnd => exact .act (.pfCycleEnd .refl)
  | pfRetainSaved => exact .act (.pfRetainSaved .refl)
  | pfJournalWritten => exact .act (.pfJournalWritten .refl)
  | holdupExhausted => exact .act (.holdupExhausted .refl)
  | holdupCharged => exact .act (.holdupCharged .refl)
  | fldGood => exact .act (.fldGoodNow .refl)
  | fldLost => exact .act (.fldLostNow .refl)
  | fldFuse => exact .act (.fuseOpens .refl)
  | fldReclose => exact .act (.fldReclose .refl)
  | coldStartWaitEnd => exact .act (.coldEnd .refl)
  | bridleStartChecks => exact .execBridleStartChecks
  | harnessBootSelect => exact .act (.bootSelect .refl)
  | clusterPowerUp => exact .act (.clusterUp .refl)
  | clusterPower => exact .act (.clusterFault .refl)
  | startSelfTestDone => exact .actIf (.startTested .refl)
  | clustersLoaded => exact .act (.clustersLoaded .refl)
  | listenWindowEnd => exact .act (.listenEnd .refl)
  | standbyWaitTimeout => exact .act (.standbyWait .refl)
  | thermalSample => exact .act (.thermalSample .refl)
  | thermalStop => exact .act (.thermalStop .refl)
  | thermalReset => exact .act (.thermalReset .refl)
  | dioGroupEnable => exact .act (.groupEnable .refl)
  | flitReceive => exact .act (.flitReceive .refl)
  | linkFailed => exact .act (.linkFailed .refl)
  | linkDegraded => exact .act (.linkDegraded .refl)
  | portCompletionTimeout => exact .act (.portTimeout .refl)
  | paceWindow => exact .actIf (.paceWindow .refl)
  | paceSlow => exact .act (.paceSlow .refl)
  | railSample => exact .act (.railSample .refl)
  | fabClearMax => exact .act (.fabClearMax .refl)
  | fabClearCounts => exact .act (.fabClearCounts .refl)
  | linkTest => exact .act (.linkTest .refl)
  | slotWrite => exact .act (.request .refl fun _ hx => .slotWrite hx)
  | slotCommit => exact .act (.request .refl fun _ hx => .slotCommit hx)
  | slotRead => exact .act (.request .refl fun _ hx => .slotRead hx)
  | stage => exact .act (.request .refl fun _ hx => .stage hx)
  | abortStage => exact .act (.request .refl fun _ hx => .abortRequest hx)
  | partitionReady => exact .act (.partitionReady .refl)
  | stageTimeout => exact .act (.stageTimeout .refl)
  | hrnSwitched => exact .act (.hrnSwitched .refl)
  | switchAnnounce => exact .act (.announcement .refl)
  | standbyReadyReport => exact .act (.standbyReport .refl)
  | standbyImageCopied => exact .act (.imageCopied .refl)
  | successorReloadDone => exact .act (.reloadDone .refl)
  | agreementRound => exact .act (.declareMissing (.agreementRound .refl))
  | roundTimeout => exact .act (.declareMissing (.roundTimeout .refl))
  | sharedRead => exact .act (.sharedRead .refl)
  | sharedReadTimeout => exact .act (.sharedReadTimeout .refl)
  | eventDelivery => exact .act (.eventDelivery .refl)
  | eventTimeout => exact .act (.eventTimeout .refl)
  | voterEntry => exact .act (.voterEntry .refl)
  | voterTimeout => exact .act (.voterTimeout .refl)
  | stitchDeliver => exact .act (.stitchDeliver .refl)
  | stitchTimeout => exact .act (.stitchTimeout .refl)
  | sramUncorr => exact .act (.sramUncorr .refl)
  | sramCorrected => exact .act (.ite (.incSat .refl) .refl)
  | reintegrationDone => exact .act (.reintegrationDone .refl)
  | loopReintegrationDone => exact .act (.loopReintegrationDone .refl)
  | add => exact .act (.tackAlu .refl)
  | sub => exact .act (.tackAlu .refl)
  | and => exact .act (.tackAlu .refl)
  | or => exact .act (.tackAlu .refl)
  | xor => exact .act (.tackAlu .refl)
  | shl => exact .act (.tackAlu .refl)
  | shr => exact .act (.tackAlu .refl)
  | sar => exact .act (.tackAlu .refl)
  | slt => exact .act (.tackAlu .refl)
  | sltu => exact .act (.tackAlu .refl)
  | sadd => exact .act (.tackAlu .refl)
  | ssub => exact .act (.tackAlu .refl)
  | mul => exact .act (.tackAlu .refl)
  | mulh => exact .act (.tackAlu .refl)
  | mulhu => exact .act (.tackAlu .refl)
  | div => exact .act (.tackAlu .refl)
  | divu => exact .act (.tackAlu .refl)
  | rem => exact .act (.tackAlu .refl)
  | remu => exact .act (.tackAlu .refl)
  | addi => exact .act (.tackAlu .refl)
  | andi => exact .act (.tackAlu .refl)
  | ori => exact .act (.tackAlu .refl)
  | xori => exact .act (.tackAlu .refl)
  | shli => exact .act (.tackAlu .refl)
  | shri => exact .act (.tackAlu .refl)
  | sari => exact .act (.tackAlu .refl)
  | slti => exact .act (.tackAlu .refl)
  | sltiu => exact .act (.tackAlu .refl)
  | lui => exact .act (.tackAlu .refl)
  | lb => exact .act (.tackLoad .refl)
  | lbu => exact .act (.tackLoad .refl)
  | lh => exact .act (.tackLoad .refl)
  | lhu => exact .act (.tackLoad .refl)
  | lw => exact .act (.tackLoad .refl)
  | lwu => exact .act (.tackLoad .refl)
  | ld => exact .act (.tackLoad .refl)
  | sb => exact .act (.tackStore .refl)
  | sh => exact .act (.tackStore .refl)
  | sw => exact .act (.tackStore .refl)
  | sd => exact .act (.tackStore .refl)
  | beq => exact .act (.tackBranch .refl)
  | bne => exact .act (.tackBranch .refl)
  | blt => exact .act (.tackBranch .refl)
  | bge => exact .act (.tackBranch .refl)
  | bltu => exact .act (.tackBranch .refl)
  | bgeu => exact .act (.tackBranch .refl)
  | jump => exact .act (.tackStep .refl)
  | jal => exact .act (.tackStep .refl)
  | jalr => exact .act (.tackStep .refl)
  | fence => exact .act (.tackStep .refl)
  | endc => exact .act (.tackStep .refl)
  | rfe => exact .act (.tackStep .refl)
  | rdtime => exact .act (.tackStep .refl)
  | rdsr => exact .act (.tackStep .refl)
  | wrsr => exact .act (.tackStep .refl)
  | trap => exact .act (.tackStep .refl)
  | illegalInstruction => exact .act (.ite .refl (.tackStep .refl))
  | perfSelect => exact .act (.ite (.writeReg .refl) .refl)
  | perfDataValid => exact .act (.ite (.perfLoad .refl) .refl)
  | perfClear => exact .act (.ite (.writeReg .refl) .refl)
  | cycleBoundary => exact .act (.cycleBoundary .refl)
  | taskWatchdog => exact .act (.taskWatchdog .refl)
  | basePeriodBoundary => exact .act (.basePeriod .refl)
  | fallbackLeft => exact .act (.fallbackLeft .refl)
  | forceFallback => exact .act (.ite (.writeReg .refl) .refl)
  | cycleClearMax => exact .act (.cycleClearMax .refl)
  | start => exact .act (.request .refl fun _ hx => .startCommand hx)
  | restart => exact .act (.restartNow (.request .refl fun _ hx => .restartCommand hx))
  | plantCommand => exact .act (.request .refl fun _ hx => .plantCommand hx)
  | commandJournalWritten => exact .execCommandJournalWritten
  | commandAck => exact .act (.onCommand .refl)
  | returnFrame => exact .act (.ite .refl (.ite (.frameTaken .refl) (.frameLost (.incSat .refl))))
  | returnFrameMissing => exact .act (.ite .refl (.frameLost (.incSat (.linkUnsure .refl))))
  | timerSampleTrigger => exact .execTimerSampleTrigger
  | loopSampleStart => exact .execLoopSampleStart
  | sampleDeadline => exact .execSampleDeadline
  | loopNop => exact .act (.loopStep .refl)
  | loopClr => exact .act (.loopAcc .refl)
  | loopMac => exact .act (.loopAcc .refl)
  | loopMsb => exact .act (.loopAcc .refl)
  | loopMacn => exact .act (.loopAcc .refl)
  | loopAdda => exact .act (.loopAcc .refl)
  | loopSta => exact .act (.loopNode .refl)
  | loopMul => exact .act (.loopNode .refl)
  | loopAdd => exact .act (.loopNode .refl)
  | loopSub => exact .act (.loopNode .refl)
  | loopLim => exact .act (.loopStep .refl)
  | loopMov => exact .act (.loopStep .refl)
  | loopLdc => exact .act (.loopStep .refl)
  | loopSel => exact .act (.loopStep .refl)
  | loopSincos => exact .act (.loopStep .refl)
  | loopLock => exact .act (.loopStepThen .refl fun _ _ _ hx => .loopDecide hx)
  | loopOut => exact .act (.loopRetire .refl fun _ _ _ hx => .onRep hx)
  | loopFlt => exact .act (.loopStepThen .refl fun _ _ _ hx => .loopDecide hx)
  | loopEnd => exact .act (.loopEnd .refl)
  | catchTimeout => exact .act (.ite (.loopFault .refl) .refl)
  | holdTimeout => exact .act (.ite (.onSlot .refl) .refl)
  | loopFaultReset => exact .act (.loopFaultReset .refl)
  | loopClearFlags => exact .act (.loopClearFlags .refl)
  | loopClearStats => exact .act (.loopClearStats .refl)
  | glinkClearCounts => exact .act (.glinkClearCounts .refl)
  | moveAbs => exact .act (.axisMove .refl)
  | moveRel => exact .act (.axisMove .refl)
  | axisStop => exact .act (.axisRampDown .refl)
  | axisHold => exact .act (.axisRampDown .refl)
  | axisResume => exact .act (.axisResume .refl)
  | axisResetFault => exact .act (.axisResetFault .refl)
  | axisPeriod => exact .act (.axisTick .refl)
  | awlArm => exact .act (.awlArm .refl)
  | awlStart => exact .act (.awlStart .refl)
  | awlStop => exact .act (.awlStop .refl)
  | awlAnnounce => exact .act (.ite .refl (.onAwl (.putWord (.putWord (.putWord (.wr .refl))))))
  | awlInjectionEnd => exact .execAwlInjectionEnd
  | awlRead => exact .act (.request .refl fun _ hx => .iteReply (.refuse hx) (.done hx))
  | comparatorCrossing => exact .act (.compare .refl)
  | ftInputChange => exact .act (.onBridle .refl)
  | tripLineChange => exact .execTripLineChange
  | bridleEvaluate => exact .act (.ite (.bridleCycle .refl) .refl)
  | termDelayExpiry => exact .execTermDelayExpiry
  | outputHoldExpiry => exact .act (.driveOutputs (.onBridle .refl))
  | bridleRefresh => exact .act (.ite .refl (.driveSafety (.onBridle .refl)))
  | procLost => exact .act (.ite .refl (.enterDegraded (.onBridle .refl)))
  | tripReset => exact .execTripReset
  | tbPoll => exact .act (.when (.showPoller .refl) fun _ hx => .onBridle hx)
  | tbAnswer => exact .execTbAnswer
  | tbPollerTakeover => exact .act (.ite (.onBridle .refl) .refl)
  | tbPartnerSilent => exact .act (.ite (.event (.onBridle .refl)) .refl)
  | tbSelfFail => exact .act (.ite (.event (.onBridle .refl)) .refl)
  | bridleDiagRound => exact .execBridleDiagRound
  | bridleFault => exact .act (.ownFault .refl)
  | bridleMirrorRefresh => exact .act (.ite (.bridleMirror .refl) .refl)
  | firstOutRearm => exact .act (.ite (.onBridle .refl) .refl)
  | safetyWritten => exact .act (.safetyWritten .refl)
  | safetyChannelRun => exact .act (.ite (.setChannel .refl) .refl)
  | safetyChannelSafe => exact .act (.ite (.setChannel .refl) .refl)
  | testPulseCheck => exact .execTestPulseCheck
  | discrepancyTick => exact .act (.ite (.driveSafety (.each .refl fun _ _ hx => .discTick hx)) .refl)
  | discrepancy => exact .act (.ite (.driveSafety (.latchFn .refl)) .refl)
  | encoderSpeedWindow => exact .act (.ite .refl (.driveSafety (.each (.onEnc (.encoderSupply .refl)) fun _ _ hx =>
      .stopWindow hx)))
  | standstill => exact .act (.ite .refl (.driveSafety (.each (.onEnc .refl) fun _ _ hx => .ite (.endStop hx) hx)))
  | stopTimeout => exact .execStopTimeout
  | encoderFault => exact .act (.ite .refl (.driveSafety (.foldl (.onEnc .refl) fun _ _ hx => .ite
      (.endStop (.latchFn hx)) hx)))
  | feedbackChange => exact .act (.ite (.setChannel .refl) .refl)
  | fbTimeout => exact .act (.ite (.driveSafety (.lockPair .refl)) .refl)
  | outputSwitchTest => exact .act (.ite (.driveSafety (.lockPair .refl)) .refl)
  | switchReadbackFault => exact .act (.ite (.driveSafety (.lockPair .refl)) .refl)
  | cross => exact .act (.ite (.driveSafety (.latchFn .refl)) .refl)
  | permitValidTimeout => exact .act (.ite (.enterDegraded .refl) .refl)
  | degradedExpiring => exact .act (.ite (.event (.onSafety .refl)) .refl)
  | degradedExpired => exact .act (.ite (.driveSafety (.each (.event (.onSafety .refl)) fun _ _ hx => .ite hx
      (.latchAgain hx))) .refl)
  | safeChannelBack => exact .act (.ite (.updateFns (.event (.onSafety .refl))) .refl)
  | heartbeatSend => exact .act (.sendBeat .refl)
  | heartbeat => exact .act (.heartbeat .refl)
  | pathSilent => exact .act (.pathSilent .refl)
  | ringRxSilent => exact .act (.ringRxSilent .refl)
  | forwardedRecord => exact .act (.forwarded .refl)
  | forwardLate => exact .act (.forwardLate .refl)
  | stitchSummary => exact .act (.stitchSummary .refl)
  | stateCopyDone => exact .act (.stateCopyDone .refl)
  | stateCopyFailed => exact .act (.stateCopyFailed .refl)
  | copyNow => exact .act (.copyNow .refl)
  | twinClearCounts => exact .act (.twinClearCounts .refl)
  | roleSwap => exact .act (.request .refl fun _ hx => .roleSwap hx)
  | mixedMinute => exact .act (.mixedMinute .refl)
  | successorExpired => exact .act (.successorExpired .refl)
  | ringPeriod => exact .act (.ringPeriod .refl)
  | inputFrame => exact .execInputFrame
  | stationDropout => exact .act (.dropStation .refl)
  | ringFrameForward => exact .act (.forwardFrame .refl)
  | ringBreak => exact .act (.breakRing .refl)
  | ringBreakLocated => exact .act (.locateBreak .refl)
  | ringRestored => exact .act (.restoreBreak .refl)
  | twinFrame => exact .act (.ite (.twinFrame .refl) .refl)
  | peerFrame => exact .act (.peerFrame .refl)
  | mkaKeyDistribution => exact .act (.distributeKey .refl)
  | ringClearCounts => exact .act (.ringClearCounts .refl)
  | ringClearMax => exact .act (.ringClearMax .refl)
  | ptpSample => exact .execPtpSample
  | ppsEdge => exact .execPpsEdge
  | timeSample => exact .act (.ite .refl (.takeSample .refl))
  | rebase => exact .act (.ite (.takeSample (.rebaseTime .refl)) .refl)
  | timeHoldover => exact .execTimeHoldover
  | followingUpdate => exact .act (.followTime .refl)
  | timeJournal => exact .act (.ite (.flashWrite .refl fun _ hx => .onTime hx rfl rfl rfl) .refl)
  | ptpAnnounceTimeout => exact .execPtpAnnounceTimeout
  | timeRestart => exact .execTimeRestart
  | setTime => exact .act (.request .refl fun _ hx => .done (.onTime hx rfl rfl rfl))
  | txTimestamp => exact .act (.ite .refl (.ite (.showTsq (.onTime .refl rfl rfl rfl))
      (.when (.incSat (.raise .refl)) fun _ hx => .onTime (.event hx) rfl rfl rfl)))
  | tsqRemove => exact .act (.showTsq (.onTime .refl rfl rfl rfl))
  | timeClearOverflow => exact .act (.timeClearOverflow .refl)
  | timeClearMax => exact .act (.timeClearMax .refl)
  | timeClearCounts => exact .act (.timeClearCounts .refl)
  | timeTLo => exact .act (.readShown .refl)
  | timeCountLo => exact .act (.readShown .refl)
  | timeOffsetLo => exact .act (.readShown .refl)
  | timeStepLo => exact .act (.readShown .refl)
  | timePpsCapLo => exact .act (.readShown .refl)
  | cycleNumLo => exact .act (.readShown .refl)
  | takeTLo => exact .act (.readShown .refl)
  | canTxTLo => exact .act (.readShown .refl)
  | histOldestLo => exact .act (.readShown .refl)
  | sealTLo => exact .act (.readShown .refl)
  | certExpLo => exact .act (.readShown .refl)
  | uptimeLo => exact .act (.readShown .refl)
  | dioSample => exact .act (.ite (.maxTo (.wrSat (.wr (.wr (.dioRaw .refl))))) .refl)
  | dioLevelChange => exact .act (.ite (.dioLevel .refl) .refl)
  | dioCurrentLimit => exact .execDioCurrentLimit
  | dioThermalShutdown => exact .act (.ite (.showDio (.onIo .refl)) .refl)
  | dioClearCounts => exact .act (.dioClearCounts .refl)
  | aoReadbackSample => exact .act (.ite (.aoSample .refl) .refl)
  | aoReadbackFault => exact .act (.ite (.aoFault .refl) .refl)
  | aoOvertemp => exact .act (.ite (.aoFault .refl) .refl)
  | aoFaultReset => exact .act (.aoFaultReset .refl)
  | cloClearStats => exact .act (.cloClearStats .refl)
  | hartPoll => exact .act (.hartPoll .refl)
  | hartResponse => exact .actIf (.hartEnd .refl)
  | hartRequest => exact .act (.request .refl fun _ hx => .iteReply (.refuse hx)
      (.iteReply (.refuse hx) (.iteReply (.refuse hx) (.onAo hx))))
  | faConversion => exact .act (.ite (.faConvert .refl) .refl)
  | faiClearMinmax => exact .act (.faiClear .refl)
  | calExport => exact .act (.request .refl fun _ hx => .done (.wr hx))
  | calPoint => exact .act (.request .refl fun _ hx => .iteReply (.refuse hx)
      (.iteReply (.refuse hx) (.done (.calPoint hx))))
  | calCommit => exact .act (.request .refl fun _ hx => .iteReply (.refuse hx)
      (.iteReply (.refuse hx) (.done (.calDrop (.calWrite hx)))))
  | calImport => exact .act (.request .refl fun _ hx => .iteReply (.refuse hx)
      (.iteReply (.refuse hx) (.iteReply (.refuse hx) (.iteReply (.refuse hx) (.done (.calWrite hx))))))
  | calAbort => exact .act (.request .refl fun _ hx => .done (.calDrop hx))
  | calPendingTimeout => exact .act (.ite (.calDrop .refl) .refl)
  | canFrameComplete => exact .actIf (.canComplete .refl)
  | canBusError => exact .actIf (.ite (.canError .refl) .refl)
  | canTxSelect => exact .execCanTxSelect
  | canArbitrationLost => exact .act (.ite (.canEndAttempt (.incSat .refl)) .refl)
  | canRecover => exact .act (.canRecover .refl)
  | canRecoveryDone => exact .act (.canRecovered .refl)
  | canClearCounts => exact .act (.canClearCounts .refl)
  | canLoopSelect => exact .act (.ite (.wr .refl) (.writeStatus .refl))
  | txReq => exact .act (.canTxWrite .refl)
  | txCancel => exact .act (.canTxWrite .refl)
  | txbData => exact .act (.canTxWrite .refl)
  | rxqWord => exact .act (.readShown .refl)
  | rxqDiscard => exact .act (.canDiscard .refl)
  | rxqFlush => exact .act (.canFlush .refl)
  | rxqClearOverflow => exact .act (.canClearOverflow .refl)
  | eventInsert => exact .act (.recorderTick .refl)
  | eventJournalWrite => exact .execEventJournalWrite
  | evrecData0 => exact .act (.readShown .refl)
  | evrecData11 => exact .act (.readShown .refl)
  | freeze => exact .execFreeze
  | unfreeze => exact .execUnfreeze
  | freezeExpiry => exact .act (.ite (.endFreeze .refl) .refl)
  | clearLost => exact .act (.clearLost .refl)
  | eventCatalogue => exact .act (.request .refl fun _ hx => .done hx)
  | histDriveMount => exact .execHistDriveMount
  | histSetFailed => exact .execHistSetFailed
  | histRebuild => exact .act (.histRebuild .refl)
  | histRebuilt => exact .act (.ite (.event (.drop (.wr (.showSets (.putSet (.dropRebuild .refl)))))) .refl)
  | histClearCounts => exact .act (.histClearCounts .refl)
  | histFormat => exact .act (.request .refl fun _ hx => .done (.showOldest
      (.showSets (.foldl (.putSet (.withHist hx)) fun _ _ hx => .ite (.wr (.withHist hx)) hx))))
  | histSample => exact .execHistSample
  | histAggregate => exact .execHistAggregate
  | histSessionOpen => exact .act (.ite .refl (.ite .refl (.ite (.incSat .refl) (.wr (.withHist .refl)))))
  | tagQuery => exact .act (.ite (.exportReply .refl) .refl)
  | eventQuery => exact .act (.exportReply .refl)
  | streamOpen => exact .act (.ite (.wr (.withHist .refl)) .refl)
  | streamClose => exact .act (.wr (.withHist .refl))
  | streamMessage => exact .execStreamMessage
  | sessionOpen => exact .execSessionOpen
  | sessionIdleTimeout => exact .execSessionIdleTimeout
  | addressBlockExpiry => exact .act (.wrSat .refl)
  | readReg => exact .execReadReg
  | writeReg => exact .execWriteReg
  | statusCatalogue => exact .act (.request .refl fun _ hx => .done hx)
  | attest => exact .act (.request .refl fun _ hx => .done (.incWrap hx))
  | fwUpdate => exact .execFwUpdate
  | propose => exact .execPropose
  | approve => exact .execApprove
  | withdraw => exact .execWithdraw
  | approvalLapse => exact .act (.foldl .refl fun _ _ hx => .ite (.putPend hx) hx)
  | pendingLapse => exact .execPendingLapse
  | csr => exact .execCsr
  | installCert => exact .act (.request .refl fun _ hx => .iteReply (.refuse hx)
      (.iteReply (.refuse hx) (.done (.showTrust hx))))
  | enrol => exact .act (.request .refl fun _ hx => .iteReply (.refuse hx)
      (.iteReply (.refuse hx) (.iteReply (.refuse hx) (.iteReply (.refuse hx)
      (.iteReply (.refuse hx) (.iteReply (.refuse hx) (.done (.storeOwner hx))))))))
  | releaseOwner => exact .execReleaseOwner
  | secClearCounts => exact .act (.secClearCounts .refl)
  | shutdownTest => exact .act (.shutdownTest .refl)
  | shutdownTestDone => exact .actIf (.ite (.raise (.drop (.onLife (.clustersOff (.endTest .refl)) rfl rfl))) .refl)
  | fuseCommit => exact .act (.fuseCommit .refl)
  | fuseRepair => exact .act (.ite (.fuseBurn .refl) .refl)
  | clearSoft => exact .act (.clearSoft .refl)
  | lifeClearCounts => exact .act (.lifeClearCounts .refl)
  | flashBlockFail => exact .execFlashBlockFail
  | tagPageWrite => exact .actIf (.ite (.hostWrite .refl) .refl)
  | tagFieldSession => exact .act (.onLife (.raise .refl) rfl rfl)
  | tagFieldWrite => exact .execTagFieldWrite
  | tagLockExpiry => exact .execTagLockExpiry
  | resetRelease => exact .act (.resetRelease .refl)
  | girthLinkTrained => exact .act (.ite (.wr (.raise .refl)) .refl)
  | ptpMoveBack => exact .act (.ite (.wr .refl) .refl)
  | sessionClose => exact .act (.closeSession .refl)
  | tagFieldRelease => exact .act (.onLife (.drop (.unlockTag .refl)) rfl rfl)
  | dioSwitchCooled => exact .act (.showDio (.onIo .refl))
  | flashEraseComplete => exact .act (.ite (.closeIntent .refl) .refl)

end State.Steps

end Sys2Proof.Machine

end

section
/-! LAWS. What every step keeps: the canonical form (O6), and the state after reset (O3). -/

namespace Sys2Proof.Machine

/-! ### What holds of the ledger after every step -/

/-- A step leads to a module whose ledger comes from the old one's by a row of writes. -/
theorem step_reaches {s t : State} (h : step s = .next t) : s.dev.Reaches t.dev := by
  unfold step at h
  split at h
  next =>
    cases h
    exact .tick .refl
  next c rest _ =>
    obtain ⟨d, hd, hr⟩ := State.Steps.exec (s := { s with pending := rest }) c
    rw [hd] at h
    cases h
    exact hr

/-- What every write of the ledger keeps, every step keeps. -/
theorem step_keeps_ledger {P : Ledger → Prop} (keep : ∀ l m, Ledger.Write l m → P l → P m) {s t : State}
    (h : step s = .next t) (hs : P s.dev.ledger) : P t.dev.ledger := by
  have hr : Relation.ReflTransGen Ledger.Write s.dev.ledger t.dev.ledger := step_reaches h
  generalize t.dev.ledger = m at hr ⊢
  induction hr with
  | refl => exact hs
  | tail _ w ih => exact keep _ _ w ih

/-! ### The canonical form -/

/-- The register file, the tag and the latches of a ledger are in canonical form. -/
structure Ledger.Canonical (l : Ledger) : Prop where
  regs : swf resetWord l.regs = true
  tag : Memory.wf l.tag = true
  latches : swf (fun _ => (0 : Word)) l.latches = true

/-- The register file after a module reset is in canonical form, for it is written from an empty one. -/
theorem keepRegs_canonical (regs : List (Nat × Word)) : swf resetWord (keepRegs regs) = true := by
  unfold keepRegs
  generalize keptBits = ks
  have fold : ∀ m : List (Nat × Word), swf resetWord m = true → swf resetWord (ks.foldl (fun m k =>
      sput resetWord m k.1 (w32 (((resetWord k.1).toNat &&& (0xFFFFFFFF - k.2)) |||
        ((sget resetWord regs k.1).toNat &&& k.2)))) m) = true := by
    induction ks with
    | nil => exact fun m hm => hm
    | cons k ks ih => exact fun m hm => ih _ (swf_sput _ _ _ _ hm)
  exact fold [] rfl

/-- Every write of the ledger keeps its canonical form. -/
theorem Ledger.Canonical.write {l m : Ledger} (w : Ledger.Write l m) (h : l.Canonical) : m.Canonical := by
  obtain ⟨hr, ht, hl⟩ := h
  cases w with
  | reg off w => exact ⟨swf_sput _ _ _ _ hr, ht, hl⟩
  | reset => exact ⟨keepRegs_canonical _, ht, rfl⟩
  | tagBytes a bs => exact ⟨hr, Memory.wf_writeBytes _ _ _ ht, hl⟩
  | latch k w => exact ⟨hr, ht, swf_sput _ _ _ _ hl⟩
  | imageFloor | firmwareFloor | fuse | zeroRates | steer | planRate | dropPlan | applyPlan => exact ⟨hr, ht, hl⟩

/-- Settles O6: a step is a row of writes of the ledger, and each of them keeps the canonical form. -/
theorem everyStepKeepsTheCanonicalForm : Obligations.EveryStepKeepsTheCanonicalForm := by
  intro s t hr ht hl h
  obtain ⟨hr', ht', hl'⟩ := step_keeps_ledger (P := Ledger.Canonical) (fun _ _ w => .write w) h ⟨hr, ht, hl⟩
  exact ⟨hr', ht', hl'⟩

/-- A register that nothing has written since reset holds its reset value. -/
theorem reset_word (off : Nat) : State.reset.dev.word off = resetWord off := rfl

/-- Settles O3: after reset no register, no byte of the tag and no latch is listed, so each register holds its reset
value and the three maps are in canonical form. -/
theorem resetHoldsTheResetValues : Obligations.ResetHoldsTheResetValues := by
  refine ⟨?_, rfl, rfl, rfl⟩
  simp only [Dev.rd, reset_word]
  decide

end Sys2Proof.Machine

end

section
/-! LAWS. Register writes by access code (O10). -/

namespace Sys2Proof.Machine

/-! ### The bits of a register after a write (R3, R4) -/

/-- A bit of a word that a field does not cover is unchanged when the field is set. -/
theorem setField_getLsbD_outside (w : Word) (f : Fld) (v k : Nat) (h : f.lo + f.wd ≤ 32)
    (hk : k < f.lo ∨ f.lo + f.wd ≤ k) :
    (setField w f v).getLsbD k = w.getLsbD k := by
  rw [← BitVec.testBit_toNat, ← BitVec.testBit_toNat, setField_testBit w f v k h, if_neg (by omega)]

/-- A bit of a word that a field covers is the field's bit once the field is set. -/
theorem setField_getLsbD_inside (w : Word) (f : Fld) (v k : Nat) (h : f.lo + f.wd ≤ 32)
    (h1 : f.lo ≤ k) (h2 : k < f.lo + f.wd) :
    (setField w f v).getLsbD k = v.testBit (k - f.lo) := by
  rw [← BitVec.testBit_toNat, setField_testBit w f v k h, if_pos ⟨h1, h2⟩]

/-- The bit that a write leaves in a field, by the field's access code. -/
def accBit (acc : Acc) (free old new : Bool) : Bool :=
  match acc with
  | .rw => new
  | .w1c => old && !new
  | .w1s => old || new
  | .rwl => if free then new else old
  | .ro | .ros | .wo => old

/-- A write of a field's value acts on each of its bits by the access code. -/
theorem accWrite_testBit (acc : Acc) (free : Bool) (old new wd i : Nat) (hn : new < 2 ^ wd) (hi : i < wd) :
    (accWrite acc free old new wd).testBit i = accBit acc free (old.testBit i) (new.testBit i) := by
  cases acc with
  | w1c =>
    have e : 2 ^ wd - 1 - new = 2 ^ wd - (new + 1) := by omega
    simp only [accWrite, accBit, Nat.testBit_and, e, Nat.testBit_two_pow_sub_succ hn, hi, decide_true, Bool.true_and]
  | w1s => simp only [accWrite, accBit, Nat.testBit_or]
  | rwl => cases free <;> rfl
  | rw | ro | wo | ros => rfl

/-- The write of one field: the first step of a register's write. -/
def fieldWrite (f : Nat × Nat × Acc) (free : Bool) (old new : Word) : Word :=
  setField old ⟨0, f.1, f.2.1⟩
    (accWrite f.2.2 free (old.toNat / 2 ^ f.1 % 2 ^ f.2.1) (new.toNat / 2 ^ f.1 % 2 ^ f.2.1) f.2.1)

theorem regWrite_cons (f : Nat × Nat × Acc) (fs : List (Nat × Nat × Acc)) (free : Bool) (old new : Word) :
    regWrite (f :: fs) free old new = regWrite fs free (fieldWrite f free old new) new := rfl

theorem fieldWrite_getLsbD_outside (f : Nat × Nat × Acc) (free : Bool) (old new : Word) (k : Nat)
    (h : f.1 + f.2.1 ≤ 32) (hk : k < f.1 ∨ f.1 + f.2.1 ≤ k) :
    (fieldWrite f free old new).getLsbD k = old.getLsbD k :=
  setField_getLsbD_outside old ⟨0, f.1, f.2.1⟩ _ k h hk

theorem fieldWrite_getLsbD_inside (f : Nat × Nat × Acc) (free : Bool) (old new : Word) (k : Nat)
    (h : f.1 + f.2.1 ≤ 32) (h1 : f.1 ≤ k) (h2 : k < f.1 + f.2.1) :
    (fieldWrite f free old new).getLsbD k = accBit f.2.2 free (old.getLsbD k) (new.getLsbD k) := by
  have hi : k - f.1 < f.2.1 := by omega
  have hk : f.1 + (k - f.1) = k := by omega
  rw [fieldWrite, setField_getLsbD_inside old ⟨0, f.1, f.2.1⟩ _ k h h1 h2,
    accWrite_testBit _ _ _ _ _ _ (Nat.mod_lt _ (by positivity)) hi, testBit_field, testBit_field]
  simp only [hi, hk, decide_true, Bool.true_and, BitVec.testBit_toNat]

/-- A bit that no field covers is unchanged by a write (R4). -/
theorem regWrite_getLsbD_outside (fs : List (Nat × Nat × Acc)) (free : Bool) (old new : Word) (k : Nat)
    (fit : ∀ f ∈ fs, f.1 + f.2.1 ≤ 32) (out : ∀ f ∈ fs, k < f.1 ∨ f.1 + f.2.1 ≤ k) :
    (regWrite fs free old new).getLsbD k = old.getLsbD k := by
  induction fs generalizing old with
  | nil => rfl
  | cons f fs ih =>
    rw [List.forall_mem_cons] at fit out
    rw [regWrite_cons, ih _ fit.2 out.2, fieldWrite_getLsbD_outside f free old new k fit.1 out.1]

/-- A bit of a field that shares no bit with the others takes what the field's access code says (R3). -/
theorem regWrite_getLsbD_inside (fs : List (Nat × Nat × Acc)) (free : Bool) (old new : Word) (k : Nat)
    (fit : ∀ f ∈ fs, f.1 + f.2.1 ≤ 32) (disj : fs.Pairwise fun f g => f.1 + f.2.1 ≤ g.1 ∨ g.1 + g.2.1 ≤ f.1)
    {f : Nat × Nat × Acc} (mem : f ∈ fs) (h1 : f.1 ≤ k) (h2 : k < f.1 + f.2.1) :
    (regWrite fs free old new).getLsbD k = accBit f.2.2 free (old.getLsbD k) (new.getLsbD k) := by
  induction fs generalizing old with
  | nil => cases mem
  | cons g fs ih =>
    rw [List.forall_mem_cons] at fit
    rw [List.pairwise_cons] at disj
    rw [regWrite_cons]
    rcases List.mem_cons.1 mem with rfl | mem
    · have out : ∀ g ∈ fs, k < g.1 ∨ g.1 + g.2.1 ≤ k := fun g hg => by
        have := disj.1 g hg
        omega
      rw [regWrite_getLsbD_outside fs free _ new k fit.2 out, fieldWrite_getLsbD_inside f free old new k fit.1 h1 h2]
    · have := disj.1 f mem
      rw [ih _ fit.2 disj.2 mem, fieldWrite_getLsbD_outside g free old new k fit.1 (by omega)]

/-! ### What a write comes to (R3, R427, R483 to R486) -/

theorem exec_registerWrite (p : Path) (off : BitVec 24) (v : Word) (s : State) :
    exec (.registerWrite p off v) s = s.act fun d => d.registerWrite p off.toNat v := rfl

section
variable {d : Dev} {p : Path} {off : Nat} {v : Word} {row : RegRow}

/-- Of a lit module a management write of a listed register is answered with a status. -/
theorem registerWrite_mgmt (lit : d.lit = true) (hr : regAt off = some row) :
    d.registerWrite .mgmt off v = d.reportedWrite off v := by
  rw [Dev.registerWrite.eq_def, if_neg (by simp [lit]), hr]

/-- A management write of an offset that no map lists is counted and refused. -/
theorem registerWrite_hole (lit : d.lit = true) (hr : regAt off = none) :
    d.registerWrite .mgmt off v = (d.countAccess .mgmt off true).writeStatus
      (.named (if (spanOf off).isSome then "READ_ONLY" else "UNMAPPED")) := by
  rw [Dev.registerWrite.eq_def, if_neg (by simp [lit]), hr]

/-- Tack code's write acts at once. -/
theorem registerWrite_tack (lit : d.lit = true) (t : Fin 144) :
    d.registerWrite (.tack t) off v = d.writeReg (.tack t) off v := by
  rw [Dev.registerWrite.eq_def, if_neg (by simp [lit])]

/-- A plain write stores the register's new word and does nothing else. -/
theorem PlainWrite.writeReg_eq (h : PlainWrite row off v) (d : Dev) (p : Path) :
    d.writeReg p off v = d.putWord off (storedAs off (regWrite row.fields (d.unlocked p off) (d.word off) v)) := by
  obtain ⟨hr, hc, ho, ha⟩ := h
  simp only [List.mem_cons, List.not_mem_nil, or_false, not_or] at ho
  obtain ⟨h1, h2, h3, h4, h5, h6⟩ := ho
  simp [Dev.writeReg, hr, hc, h1, h2, h3, Dev.afterWrite, h4, h5, h6, ha]

theorem mgmtWrite_now (h : atOnce off = true ∨ d.role = .stopped ∨ d.role = .safetyMaint) :
    d.mgmtWrite off v = d.writeReg .mgmt off v := by
  rcases h with h | h | h <;> simp [Dev.mgmtWrite, h]

theorem mgmtWrite_staged (h : atOnce off = false) (h1 : d.role ≠ .stopped) (h2 : d.role ≠ .safetyMaint) :
    d.mgmtWrite off v = { d with mgmt := { d.mgmt with staged := d.mgmt.staged ++ [⟨off, v⟩] } } := by
  simp [Dev.mgmtWrite, h, h1, h2]

theorem reportedWrite_applied (h : d.writeResult off v = .applied) :
    d.reportedWrite off v = (d.writeStatus .ok).mgmtWrite off v := by
  simp [Dev.reportedWrite, h]

theorem reportedWrite_locked (h : d.writeResult off v = .locked) :
    d.reportedWrite off v = (d.writeOpen off v).writeStatus .locked := by
  simp [Dev.reportedWrite, h]

theorem reportedWrite_readOnly (h : d.writeResult off v = .readOnly) :
    d.reportedWrite off v = d.writeStatus (.named "READ_ONLY") := by
  simp [Dev.reportedWrite, h]

/-- The fields that no lock covers are written in part: none of them, or all with the locked ones kept. -/
theorem writeOpen_closed (hr : regAt off = some row)
    (h : hasAcc row.fields [.rw, .w1c, .w1s, .wo] = false) : d.writeOpen off v = d := by
  simp only [Dev.writeOpen, hr, h, Bool.false_eq_true, if_false]

theorem writeOpen_open (hr : regAt off = some row)
    (h : hasAcc row.fields [.rw, .w1c, .w1s, .wo] = true) :
    d.writeOpen off v = d.mgmtWrite off (keepLocked row.fields (d.word off) v) := by
  simp only [Dev.writeOpen, hr, h, if_true]

/-- A word stored in a register: that register holds it, and every other one is as before. -/
theorem word_putWord (d : Dev) (off : Nat) (w : Word) :
    (d.putWord off w).word off = w ∧ ∀ k : Nat, k ≠ off → (d.putWord off w).word k = d.word k :=
  ⟨sget_sput_same _ _ _ _, fun _ hk => sget_sput_other _ _ _ hk⟩

end

/-! ### Fields set one after another -/

theorem setsOnly_nil (d : Dev) : SetsOnly d d [] := ⟨⟨fun _ h => (nomatch h), otherFields_refl d []⟩, rfl⟩

/-- One more field is set: the ones before it, which share no bit with it, keep their values. -/
theorem SetsOnly.wr {d e : Dev} {fs : List (Fld × Nat)} (h : SetsOnly d e fs) (f : Fld) (v : Nat)
    (fit : f.lo + f.wd ≤ 32) (sep : ∀ p ∈ fs, f.separate p.1) :
    SetsOnly d (e.wr f v) (fs ++ [(f, v % 2 ^ f.wd)]) := by
  obtain ⟨⟨vals, others⟩, rest⟩ := h
  refine ⟨⟨fun p hp => ?_, ?_⟩, congrArg (fun x : Dev => { x with regs := (e.wr f v).regs }) rest⟩
  · rcases List.mem_append.1 hp with hp | hp
    · rw [Dev.rd_wr_other e f p.1 v fit (sep p hp), vals p hp]
    · rw [List.mem_singleton.1 hp, Dev.rd_wr_same e f v fit]
  · rw [List.map_append]
    exact others.wr f v fit

/-- The status of a write is no field of a register. -/
theorem SetsOnly.writeStatus {d e : Dev} {fs : List (Fld × Nat)} (h : SetsOnly d e fs) (st : Status) :
    Sets d (e.writeStatus st) fs ∧
      e.writeStatus st = { d with regs := (e.writeStatus st).regs, mgmt := { d.mgmt with writeStatus := st } } := by
  obtain ⟨⟨vals, others⟩, rest⟩ := h
  have same : (e.writeStatus st).regs = e.regs := rfl
  exact ⟨⟨fun p hp => (Dev.rd_of_regs same p.1).trans (vals p hp),
    fun g hg => (Dev.rd_of_regs same g).trans (others g hg)⟩, congrArg (Dev.writeStatus · st) rest⟩

/-- A management access to a hole counts, and notes the offset, the path and the direction (R484). -/
theorem countAccess_mgmt_setsOnly (d : Dev) (off : Nat) (h : off < 2 ^ 24) :
    SetsOnly d (d.countAccess .mgmt off true) [(R.ACCESS_ERR_MGMT, min (d.rd R.ACCESS_ERR_MGMT + 1) 65535),
      (R.ACCESS_ADDR_OFFSET, off), (R.ACCESS_ADDR_PATH, 0), (R.ACCESS_ADDR_WRITE, 1)] := by
  have counted := (setsOnly_nil d).wr R.ACCESS_ERR_MGMT (min (d.rd R.ACCESS_ERR_MGMT + 1) 65535) (by decide) (by simp)
  have noted := ((counted.wr R.ACCESS_ADDR_OFFSET off (by decide) (by simp +decide)).wr R.ACCESS_ADDR_PATH 0
    (by decide) (by simp +decide)).wr R.ACCESS_ADDR_WRITE 1 (by decide) (by simp +decide)
  have saturated : min (d.rd R.ACCESS_ERR_MGMT + 1) 65535 % 2 ^ R.ACCESS_ERR_MGMT.wd =
      min (d.rd R.ACCESS_ERR_MGMT + 1) 65535 := Nat.mod_eq_of_lt (by change _ < 65536; omega)
  have offset : off % 2 ^ R.ACCESS_ADDR_OFFSET.wd = off := Nat.mod_eq_of_lt h
  rw [saturated, offset] at noted
  exact noted

/-! ### The obligation -/

/-- What a plain write stores: the register's new word, and every other register is as before. -/
theorem PlainWrite.writeReg_stores {row : RegRow} {off : Nat} {v : Word} (h : PlainWrite row off v)
    (d : Dev) (p : Path) :
    ((d.writeReg p off v).word off = storedAs off (regWrite row.fields (d.unlocked p off) (d.word off) v) ∧
      ∀ k : Nat, k ≠ off → (d.writeReg p off v).word k = d.word k) ∧
    d.writeReg p off v = { d with regs := (d.writeReg p off v).regs } := by
  rw [h.writeReg_eq]
  exact ⟨word_putWord _ _ _, rfl⟩

/-- Tack code's writes of the event recorder's CTRL and REPEAT_WIN are ignored (R427). -/
theorem writeReg_tack_ignored (d : Dev) (t : Fin 144) (v : Word) {off : Nat} (h : off = 0x400004 ∨ off = 0x400058) :
    d.writeReg (.tack t) off v = d := by
  rcases h with rfl | rfl <;> rfl

/-- Settles O10: the bits of a written register by its fields' codes; what a write comes to, by path, role and lock. -/
theorem registerWritesFollowTheAccessCodes : Obligations.RegisterWritesFollowTheAccessCodes := by
  unfold Obligations.RegisterWritesFollowTheAccessCodes
  refine ⟨fun fields free old new k _ fit disj => ?_, fun s off v row t lit => ?_⟩
  · refine ⟨regWrite_getLsbD_outside fields free old new k fit, fun f mem h1 h2 => ?_⟩
    rw [regWrite_getLsbD_inside fields free old new k fit disj mem h1 h2]
    cases f.2.2 <;> rfl
  refine ⟨fun plain res now => ?applied, fun res hr later h1 h2 => ?staged, fun res hr closed => ?locked,
    fun res hr opens later h1 h2 => ?lockedInPart, fun res hr => ?readOnly, fun hr => ?hole, fun plain => ?tack,
    fun ignored => ?tackIgnored⟩
  all_goals refine answers_act (exec_registerWrite _ off v s) ?_
  case applied =>
    rw [registerWrite_mgmt lit plain.1, reportedWrite_applied res, mgmtWrite_now (d := s.dev.writeStatus .ok) now]
    exact plain.writeReg_stores (s.dev.writeStatus .ok) .mgmt
  case staged =>
    rw [registerWrite_mgmt lit hr, reportedWrite_applied res, mgmtWrite_staged (d := s.dev.writeStatus .ok) later h1 h2]
    rfl
  case locked => rw [registerWrite_mgmt lit hr, reportedWrite_locked res, writeOpen_closed hr closed]; rfl
  case lockedInPart =>
    rw [registerWrite_mgmt lit hr, reportedWrite_locked res, writeOpen_open hr opens, mgmtWrite_staged later h1 h2]
    rfl
  case readOnly => rw [registerWrite_mgmt lit hr, reportedWrite_readOnly res]; rfl
  case hole =>
    rw [registerWrite_hole lit hr]
    exact (countAccess_mgmt_setsOnly s.dev off.toNat off.isLt).writeStatus _
  case tack =>
    rw [registerWrite_tack lit]
    exact plain.writeReg_stores s.dev (.tack t)
  case tackIgnored => rw [registerWrite_tack lit, writeReg_tack_ignored s.dev t v ignored]

end Sys2Proof.Machine

end

section
/-! LAWS. The tiles of the clusters and dies (O12). -/

namespace Sys2Proof.Machine

/-! ### The cluster of a tile and the tiles of a cluster (R17) -/

/-- The tile in column `x` of row `y` lies in the block of four by four tiles that its coordinates name. -/
theorem clusterOf_tile {x y : Nat} (hx : x < 12) : clusterOf (12 * y + x) = y / 4 * 3 + x / 4 := by
  have row : (12 * y + x) / 12 = y := by omega
  have column : (12 * y + x) % 12 = x := by omega
  rw [clusterOf, row, column]

/-- A tile is in a cluster's list exactly when it is one of the 144 and the cluster is its own. -/
theorem mem_clusterTiles {n t : Nat} (hn : n < 9) : t ∈ clusterTiles n ↔ t < 144 ∧ clusterOf t = n := by
  simp only [clusterTiles, clusterOf, List.mem_map, List.mem_range]
  constructor
  · rintro ⟨l, hl, rfl⟩
    omega
  · rintro ⟨ht, hc⟩
    exact ⟨t / 12 % 4 * 4 + t % 12 % 4, by omega, by omega⟩

theorem clusterTiles_length (n : Nat) : (clusterTiles n).length = 16 := by
  rw [clusterTiles, List.length_map, List.length_range]

theorem clusterTiles_nodup (n : Nat) : (clusterTiles n).Nodup := by
  refine List.nodup_range.map_on fun l hl m hm same => ?_
  rw [List.mem_range] at hl hm
  omega

/-! ### The position register (R88) -/

/-- What the position register of the tile in column `x` of row `y` holds after reset, nibble by nibble: the
coordinates, the cluster, the die, the place in the cluster and the logical tile. -/
def tilePosition (x y : Nat) : Nat :=
  x + 16 * (y + 16 * (y / 4 * 3 + x / 4 +
    16 * ((if 6 ≤ x then 1 else 0) + 16 * (y % 4 * 4 + x % 4 + 16 * (12 * y + x)))))

theorem resetWord_tilePosition {x y : Nat} (hx : x < 12) (hy : y < 12) :
    (resetWord (0x100004 + (12 * y + x) * 0x100)).toNat = tilePosition x y := by
  have low : ¬0x100004 + (12 * y + x) * 0x100 < 0x10000 := by omega
  have fab : ¬0x100004 + (12 * y + x) * 0x100 < 0x12400 := by omega
  have tile : 0x100000 ≤ 0x100004 + (12 * y + x) * 0x100 ∧ 0x100004 + (12 * y + x) * 0x100 < 0x109000 := by omega
  have reg : (0x100004 + (12 * y + x) * 0x100 - 0x100000) % 0x100 = 4 := by omega
  have num : (0x100004 + (12 * y + x) * 0x100 - 0x100000) / 0x100 = 12 * y + x := by omega
  have row : (12 * y + x) / 12 = y := by omega
  have column : (12 * y + x) % 12 = x := by omega
  simp only [resetWord, if_neg low, if_neg fab, if_pos tile, reg, num, row, column, if_true, BitVec.toNat_ofNat,
    tilePosition]
  split <;> omega

/-- Above its two coordinates the position register holds the cluster, and above that the die. -/
theorem tilePosition_fields {x y : Nat} (hx : x < 12) (hy : y < 12) :
    tilePosition x y / 2 ^ 8 % 2 ^ 4 = y / 4 * 3 + x / 4 ∧
      tilePosition x y / 2 ^ 12 % 2 ^ 1 = if 6 ≤ x then 1 else 0 := by
  have cluster : y / 4 * 3 + x / 4 < 16 := by omega
  have die : (if 6 ≤ x then 1 else 0) < 2 := by split <;> omega
  unfold tilePosition
  generalize y / 4 * 3 + x / 4 = c at *
  generalize (if 6 ≤ x then 1 else 0) = b at *
  generalize y % 4 * 4 + x % 4 + 16 * (12 * y + x) = rest
  omega

theorem reset_tileCluster {x y : Nat} (hx : x < 12) (hy : y < 12) :
    State.reset.dev.rd (R.TILE_POS_CLUSTER (12 * y + x)) = y / 4 * 3 + x / 4 := by
  rw [Dev.rd, reset_word, R.TILE_POS_CLUSTER, resetWord_tilePosition hx hy, (tilePosition_fields hx hy).1]

theorem reset_tileDie {x y : Nat} (hx : x < 12) (hy : y < 12) :
    State.reset.dev.rd (R.TILE_POS_DIE (12 * y + x)) = if x ≤ 5 then 0 else 1 := by
  rw [Dev.rd, reset_word, R.TILE_POS_DIE, resetWord_tilePosition hx hy, (tilePosition_fields hx hy).2]
  split <;> split <;> omega

/-! ### The obligation -/

/-- Settles O12: a tile's cluster by its coordinates, as its position register shows it after reset, and the sixteen
tiles of a cluster. -/
theorem tilesBelongToClustersByR17 : Obligations.TilesBelongToClustersByR17 :=
  ⟨fun _ _ hx hy => ⟨clusterOf_tile hx, reset_tileCluster hx hy, reset_tileDie hx hy⟩,
    fun _ _ hn => mem_clusterTiles hn, fun n _ => ⟨clusterTiles_length n, clusterTiles_nodup n⟩⟩

end Sys2Proof.Machine

end

section
/-! LAWS. Bits of a number, debouncing (R41), and fields written one after another. -/

namespace Sys2Proof.Machine

/-! ### Bits of a number -/

theorem testBit_eq (n k : Nat) : testBit n k = n.testBit k := by
  rw [testBit, Nat.testBit_eq_decide_div_mod_eq]

theorem bit_lt_two (b : Bool) : bit b < 2 := by cases b <;> decide

@[simp] theorem bit_mod_two (b : Bool) : bit b % 2 = bit b := Nat.mod_eq_of_lt (bit_lt_two b)

/-- The bits of a number that is cut at bit `k` into the bits above it, the bit itself and those below. -/
theorem testBit_cut {k r c : Nat} (q j : Nat) (hr : r < 2 ^ k) (hc : c < 2) :
    (2 ^ k * (2 * q + c) + r).testBit j =
      if j < k then r.testBit j else if j = k then decide (c = 1) else q.testBit (j - k - 1) := by
  rw [Nat.testBit_two_pow_mul_add _ hr]
  refine ite_congr rfl (fun _ => rfl) fun h => ?_
  split
  · rw [show j - k = 0 by omega, Nat.testBit_zero, Nat.mul_add_mod, Nat.mod_eq_of_lt hc]
  · rw [show j - k = j - k - 1 + 1 by omega, Nat.testBit_succ, Nat.add_sub_cancel, show (2 * q + c) / 2 = q by omega]

/-- A number with one bit put reads that bit there, and is as before elsewhere. -/
theorem testBit_putBit (n k j : Nat) (b : Bool) : testBit (putBit n k b) j = if j = k then b else testBit n j := by
  have low : n % 2 ^ k < 2 ^ k := Nat.mod_lt _ (by positivity)
  have old : n = 2 ^ k * (2 * (n / 2 ^ (k + 1)) + n / 2 ^ k % 2) + n % 2 ^ k := by
    conv_lhs => rw [word_split n k 1, pow_one]
    ring
  have put : putBit n k b = 2 ^ k * (2 * (n / 2 ^ (k + 1)) + bit b) + n % 2 ^ k := by
    have kept := Nat.mul_add (2 ^ k) (2 * (n / 2 ^ (k + 1))) (n / 2 ^ k % 2)
    have made := Nat.mul_add (2 ^ k) (2 * (n / 2 ^ (k + 1))) (bit b)
    have := Nat.mul_comm (2 ^ k) (n / 2 ^ k % 2)
    have := Nat.mul_comm (2 ^ k) (bit b)
    unfold putBit
    omega
  rw [testBit_eq, put, testBit_cut _ _ low (bit_lt_two b), testBit_eq]
  conv_rhs => rw [old, testBit_cut _ _ low (Nat.mod_lt _ two_pos)]
  by_cases at_ : j = k
  · subst at_
    cases b <;> simp [bit]
  · simp only [if_neg at_]

/-- A put bit stays within the width. -/
theorem putBit_lt {n k w : Nat} (b : Bool) (hn : n < 2 ^ w) (hk : k < w) : putBit n k b < 2 ^ w := by
  refine Nat.lt_pow_two_of_testBit _ fun j hj => ?_
  rw [← testBit_eq, testBit_putBit, if_neg (by omega), testBit_eq]
  exact Nat.testBit_lt_two_pow (hn.trans_le (Nat.pow_le_pow_right two_pos hj))

/-- K1.5 is not one of the switches that select the parameter set. -/
theorem putBit_four_safeSet (n : Nat) (b : Bool) : putBit n 4 b / 2 % 8 = n / 2 % 8 := by
  refine Nat.eq_of_testBit_eq fun i => ?_
  have bits := fun m => testBit_field m 1 3 i
  simp only [Nat.reducePow] at bits
  rw [bits, bits]
  by_cases hi : i < 3
  · rw [← testBit_eq, ← testBit_eq, testBit_putBit, if_neg (by omega)]
  · simp only [hi, decide_false, Bool.false_and]

/-! ### Debouncing (R41) -/

/-- Of the lowest `w` bits, those that have settled follow their level, and the others keep theirs. -/
def settleBits (settled level : Nat → Bool) (v w : Nat) : Nat :=
  (List.range w).foldl (fun v k => if settled k then putBit v k (level k) else v) v

theorem settleBits_succ (settled level : Nat → Bool) (v w : Nat) :
    settleBits settled level v (w + 1) =
      if settled w then putBit (settleBits settled level v w) w (level w) else settleBits settled level v w := by
  rw [settleBits, List.range_succ, List.foldl_append]
  rfl

theorem testBit_settleBits (settled level : Nat → Bool) (v w k : Nat) :
    testBit (settleBits settled level v w) k = if k < w ∧ settled k then level k else testBit v k := by
  induction w with
  | zero => simp [settleBits]
  | succ w ih =>
    rw [settleBits_succ]
    by_cases here : k = w
    · subst here
      cases h : settled k <;> simp [h, testBit_putBit, ih]
    · have : k < w + 1 ↔ k < w := by omega
      cases settled w <;> simp [testBit_putBit, here, ih, this]

theorem settleBits_lt (settled level : Nat → Bool) {v m w : Nat} (hv : v < 2 ^ w) (hm : m ≤ w) :
    settleBits settled level v m < 2 ^ w := by
  induction m with
  | zero => exact hv
  | succ m ih =>
    rw [settleBits_succ]
    split
    · exact putBit_lt _ (ih (by omega)) (by omega)
    · exact ih (by omega)

/-- A sample is kept with the one before it, and each input that it settles follows it. -/
theorem sample_eq (x : Debounce) (n w : Nat) :
    x.sample n w =
      { last := n, prev := x.last
        value := settleBits (fun k => testBit n k = testBit x.last k && testBit n k = testBit x.prev k) (testBit n)
          x.value w } := rfl

/-- An input follows after three equal samples, and stays as it is otherwise. -/
theorem testBit_sample (x : Debounce) (n : Nat) {w k : Nat} (hk : k < w) :
    testBit (x.sample n w).value k =
      if testBit n k = testBit x.last k ∧ testBit n k = testBit x.prev k then testBit n k else testBit x.value k := by
  rw [sample_eq, testBit_settleBits]
  simp only [hk, true_and, Bool.and_eq_true, decide_eq_true_eq]

/-! ### Fields written one after another -/

/-- Fields written one after another. -/
def Dev.writes (d : Dev) (fs : List (Fld × Nat)) : Dev := fs.foldl (fun d p => d.wr p.1 p.2) d

theorem writes_rest (d : Dev) (fs : List (Fld × Nat)) : d.writes fs = { d with regs := (d.writes fs).regs } := by
  induction fs generalizing d with
  | nil => rfl
  | cons p fs ih => exact ih (d.wr p.1 p.2)

theorem sets_nil (d : Dev) : Sets d d [] := (setsOnly_nil d).1

theorem Sets.of_regs {d e e' : Dev} {fs : List (Fld × Nat)} (h : Sets d e fs) (r : e'.regs = e.regs) : Sets d e' fs :=
  ⟨fun p hp => (Dev.rd_of_regs r p.1).trans (h.1 p hp), fun g hg => (Dev.rd_of_regs r g).trans (h.2 g hg)⟩

theorem Sets.rd_of_mem {d e : Dev} {fs : List (Fld × Nat)} {f : Fld} {v : Nat} (h : Sets d e fs) (hf : (f, v) ∈ fs) :
    e.rd f = v := h.1 _ hf

/-- The order in which fields are listed does not matter. -/
theorem Sets.of_perm {d e : Dev} {fs gs : List (Fld × Nat)} (h : Sets d e fs) (p : fs.Perm gs) : Sets d e gs :=
  ⟨fun x hx => h.1 x (p.mem_iff.2 hx), h.2.mono (List.map_subset _ p.subset)⟩

/-- One more field is written: the ones before it, which share no bit with it, keep their values. -/
theorem Sets.wr {d e : Dev} {fs : List (Fld × Nat)} (h : Sets d e fs) (f : Fld) (v : Nat) (fit : f.lo + f.wd ≤ 32)
    (sep : ∀ p ∈ fs, f.separate p.1) : Sets d (e.wr f v) (fs ++ [(f, v % 2 ^ f.wd)]) := by
  obtain ⟨vals, others⟩ := h
  refine ⟨fun p hp => ?_, ?_⟩
  · rcases List.mem_append.1 hp with hp | hp
    · rw [Dev.rd_wr_other e f p.1 v fit (sep p hp), vals p hp]
    · rw [List.mem_singleton.1 hp, Dev.rd_wr_same e f v fit]
  · rw [List.map_append]
    exact others.wr f v fit

/-- A field and what it holds of the value written to it. -/
def stored (p : Fld × Nat) : Fld × Nat := (p.1, p.2 % 2 ^ p.1.wd)

/-- More fields are written, no two of which share a bit: each holds its value, modulo its width. Both conditions speak of
the fields alone, so `of_decide_eq_true rfl` settles them whatever the values are. -/
theorem Sets.writes {d e : Dev} {gs : List (Fld × Nat)} (h : Sets d e gs) (fs : List (Fld × Nat))
    (fit : ∀ f ∈ fs.map Prod.fst, f.lo + f.wd ≤ 32) (sep : ((gs ++ fs).map Prod.fst).Pairwise Fld.separate) :
    Sets d (e.writes fs) (gs ++ fs.map stored) := by
  induction fs generalizing e gs with
  | nil => simpa [Dev.writes] using h
  | cons p fs ih =>
    rw [List.map_cons, List.forall_mem_cons] at fit
    have later : ∀ q ∈ gs, p.1.separate q.1 := fun q hq => by
      rw [List.map_append, List.pairwise_append] at sep
      exact Fld.separate_symm (sep.2.2 q.1 (List.mem_map_of_mem hq) p.1 (by simp))
    have rest := ih (h.wr p.1 p.2 fit.1 later) fit.2 (by simpa using sep)
    simpa [Dev.writes, stored] using rest

end Sys2Proof.Machine

end

section
/-! LAWS. What a change of role leaves as it is: the connectors, the writes that wait, the bridle's write, and what the
position code and the keeper show. One law for each function of the model that a change of role comes to. -/

namespace Sys2Proof.Machine

/-! ### What stays, and the fields that show it -/

/-- The fields that show the position code, the latched identity and the keeper's switches (R43, R44). -/
def identityFlds : List Fld :=
  [R.SADDLE_PAIR, R.SADDLE_SIDE, R.SADDLE_PARITY_OK, R.SADDLE_CODE_VALID, R.SADDLE_ID_MISMATCH, R.KEEPER_ID_LATCHED,
    R.KEEPER_SW, R.KEEPER_COVER_OPEN, R.KEEPER_SAFE_SET]

/-- A field that shares no bit with those. -/
abbrev Fld.Aside (f : Fld) : Prop := f.lo + f.wd ≤ 32 ∧ ∀ g ∈ identityFlds, f.separate g

/-- A field of an array of registers that lies above `MOD.SADDLE`. -/
theorem aside_of_above {base stride n lo wd : Nat} (h : 0x84 < base) (fit : lo + wd ≤ 32) :
    Fld.Aside ⟨base + n * stride, lo, wd⟩ := by
  refine ⟨fit, fun g hg => .inl ?_⟩
  have low : g.off ≤ 0x84 := by
    revert g
    decide
  show base + n * stride ≠ g.off
  omega

/-- What stays over a change of role, beside the role itself and the records presented. -/
structure Standing where
  conn : ConnSt
  role : Role
  staged : List StagedWrite
  writing : Option (Option StoredSection × Option StoredSection)
  presented : List EvRec
  shown : List Nat

/-- How a module stands. -/
def Dev.standing (d : Dev) : Standing where
  conn := d.conn
  role := d.role
  staged := d.mgmt.staged
  writing := d.bridle.writing
  presented := d.evrec.presented
  shown := identityFlds.map d.rd

/-- A second module stands as the first one, with more records presented at most. -/
def Standing.Holds (a b : Standing) : Prop := ∃ rs, b = { a with presented := a.presented ++ rs }
def Dev.Stays (d e : Dev) : Prop := d.standing.Holds e.standing

/-- A role presents no record. -/
theorem Presents.withRole {d e : Dev} {es : List (Ev × BitVec 16)} {r : Role} (h : Presents d e es) :
    Presents d { e with role := r } es := h

namespace Dev.Stays

variable {d₀ d : Dev}

theorem refl : d.Stays d := ⟨[], by rw [List.append_nil]⟩

theorem conn_eq (h : d₀.Stays d) : d.conn = d₀.conn := let ⟨_, e⟩ := h; congrArg Standing.conn e
theorem role_eq (h : d₀.Stays d) : d.role = d₀.role := let ⟨_, e⟩ := h; congrArg Standing.role e
theorem staged_eq (h : d₀.Stays d) : d.mgmt.staged = d₀.mgmt.staged := let ⟨_, e⟩ := h; congrArg Standing.staged e
theorem writing_eq (h : d₀.Stays d) : d.bridle.writing = d₀.bridle.writing :=
  let ⟨_, e⟩ := h; congrArg Standing.writing e

/-- The fields of the identity and the keeper read as before. -/
theorem rd_eq (h : d₀.Stays d) {f : Fld} (hf : f ∈ identityFlds) : d.rd f = d₀.rd f := by
  obtain ⟨rs, e⟩ := h
  have shown : identityFlds.map d.rd = identityFlds.map d₀.rd := congrArg Standing.shown e
  exact List.map_inj_left.1 shown f hf

/-- What the first module has presented comes first. -/
theorem presents {d' : Dev} {es : List (Ev × BitVec 16)} (h : d₀.Stays d) (hp : Presents d' d₀ es) :
    ∃ more, Presents d' d (es ++ more) := by
  obtain ⟨rs, e⟩ := h
  obtain ⟨qs, q, rfl⟩ := hp
  refine ⟨rs.map fun r => (r.code, r.src), qs ++ rs, ?_, List.map_append⟩
  rw [← List.append_assoc, ← q]
  exact congrArg Standing.presented e

/-- A change that leaves all of it. -/
theorem same {e : Dev} (h : d₀.Stays d) (w : e.standing = d.standing) : d₀.Stays e := by
  unfold Dev.Stays
  rwa [w]

/-- Both modules in one role. -/
theorem withRole {r : Role} (h : d₀.Stays d) : Dev.Stays { d₀ with role := r } { d with role := r } := by
  obtain ⟨rs, e⟩ := h
  exact ⟨rs, congrArg (fun x : Standing => { x with role := r }) e⟩

/-! ### Choices and repetitions -/

theorem ite {c : Prop} [Decidable c] {a b : Dev} (ha : d₀.Stays a) (hb : d₀.Stays b) :
    d₀.Stays (if c then a else b) := by
  split
  · exact ha
  · exact hb

theorem foldlMem {α : Type} {f : Dev → α → Dev} {l : List α} (h : d₀.Stays d)
    (hf : ∀ x, ∀ a ∈ l, d₀.Stays x → d₀.Stays (f x a)) : d₀.Stays (l.foldl f d) := by
  induction l generalizing d with
  | nil => exact h
  | cons a l ih => exact ih (hf d a List.mem_cons_self h) fun x b hb => hf x b (List.mem_cons_of_mem a hb)

theorem foldl {α : Type} {f : Dev → α → Dev} {l : List α} (h : d₀.Stays d)
    (hf : ∀ x a, d₀.Stays x → d₀.Stays (f x a)) : d₀.Stays (l.foldl f d) :=
  .foldlMem h fun x a _ hx => hf x a hx

theorem each {n f} (h : d₀.Stays d) (hf : ∀ k x, d₀.Stays x → d₀.Stays (f k x)) : d₀.Stays (d.each n f) :=
  .foldl h fun _ _ hx => hf _ _ hx

theorem when {c f} (h : d₀.Stays d) (hf : ∀ x, d₀.Stays x → d₀.Stays (f x)) : d₀.Stays (d.when c f) :=
  .ite (hf _ h) h

/-! ### Fields, events and parts of the module -/

theorem wr {f v} (h : d₀.Stays d) (hf : f.Aside := by decide) : d₀.Stays (d.wr f v) := by
  refine h.same ?_
  have shown : identityFlds.map (d.wr f v).rd = identityFlds.map d.rd :=
    List.map_congr_left fun g hg => Dev.rd_wr_other d f g v hf.1 (hf.2 g hg)
  simp only [Dev.standing, shown, Dev.wr_conn, Dev.wr_role, Dev.wr_mgmt, Dev.wr_bridle, Dev.wr_evrec]

theorem raise {f} (h : d₀.Stays d) (hf : f.Aside := by decide) : d₀.Stays (d.raise f) := .wr h hf
theorem drop {f} (h : d₀.Stays d) (hf : f.Aside := by decide) : d₀.Stays (d.drop f) := .wr h hf
theorem flag {f b} (h : d₀.Stays d) (hf : f.Aside := by decide) : d₀.Stays (d.flag f b) := .wr h hf
theorem addSat {f k} (h : d₀.Stays d) (hf : f.Aside := by decide) : d₀.Stays (d.addSat f k) := .wr h hf
theorem incSat {f} (h : d₀.Stays d) (hf : f.Aside := by decide) : d₀.Stays (d.incSat f) := .wr h hf
theorem incWrap {f} (h : d₀.Stays d) (hf : f.Aside := by decide) : d₀.Stays (d.incWrap f) := .wr h hf

theorem clear {fs : List Fld} (h : d₀.Stays d) (hf : ∀ f ∈ fs, f.Aside := by decide) : d₀.Stays (d.clear fs) :=
  .foldlMem h fun _ f hm hx => .drop hx (hf f hm)

theorem event {e src ps} (h : d₀.Stays d) : d₀.Stays (d.event e src ps) := by
  obtain ⟨rs, q⟩ := h
  obtain ⟨r, hr, -⟩ := d.event_presented e src ps
  refine ⟨rs ++ [r], ?_⟩
  show { d.standing with presented := (d.event e src ps).evrec.presented } = _
  rw [hr, ← List.append_assoc, show d.evrec.presented = d₀.evrec.presented ++ rs from congrArg Standing.presented q, q]
  rfl

theorem eventM {e ps} (h : d₀.Stays d) : d₀.Stays (d.eventM e ps) := .event h

theorem withPower {x} (h : d₀.Stays d) : d₀.Stays { d with power := x } := h
theorem withLoop {x} (h : d₀.Stays d) : d₀.Stays { d with loop := x } := h
theorem withTwin {x} (h : d₀.Stays d) : d₀.Stays { d with twin := x } := h
theorem onLife {f} (h : d₀.Stays d) : d₀.Stays (d.onLife f) := h
theorem onSlot {k f} (h : d₀.Stays d) : d₀.Stays (d.onSlot k f) := h
theorem onLink {g f} (h : d₀.Stays d) : d₀.Stays (d.onLink g f) := h
theorem onSafety {f} (h : d₀.Stays d) : d₀.Stays (d.onSafety f) := h
theorem onFn {n f} (h : d₀.Stays d) : d₀.Stays (d.onFn n f) := h
theorem onPair {k f} (h : d₀.Stays d) : d₀.Stays (d.onPair k f) := h
theorem onEnc {e f} (h : d₀.Stays d) : d₀.Stays (d.onEnc e f) := h
theorem onIo {f} (h : d₀.Stays d) : d₀.Stays (d.onIo f) := h
theorem onPort {n f} (h : d₀.Stays d) : d₀.Stays (d.onPort n f) := h
theorem onAo {n f} (h : d₀.Stays d) : d₀.Stays (d.onAo n f) := h

/-- A change of the bridle that leaves its write. -/
theorem onBridle {f} (h : d₀.Stays d) (hf : (f d.bridle).writing = d.bridle.writing := by rfl) :
    d₀.Stays (d.onBridle f) :=
  h.same (by simp only [Dev.standing, Dev.onBridle, hf]; rfl)

/-! ### The loop engine (R46, R259, R260) -/

theorem awlAbort (h : d₀.Stays d) : d₀.Stays d.awlAbort :=
  .ite (.wr (.raise (.withLoop (.drop h)))) h

theorem setSlotState {k v} (h : d₀.Stays d) : d₀.Stays (d.setSlotState k v) :=
  .wr h (aside_of_above (by decide) (by decide))

theorem slotEnters {i} (h : d₀.Stays d) : d₀.Stays (d.slotEnters i) :=
  .ite (.onSlot h) (.setSlotState (.onSlot h))

theorem slotLeaves {k} (h : d₀.Stays d) : d₀.Stays (d.slotLeaves k) :=
  .ite (.onSlot h) (.setSlotState (.onSlot h))

theorem loopRole {prev new} (h : d₀.Stays d) : d₀.Stays (d.loopRole prev new) := by
  unfold Dev.loopRole
  extract_lets +onlyGivenNames d1
  have h1 : d₀.Stays d1 := .awlAbort h
  split
  · exact h1
  · exact .ite (.foldl h1 fun _ _ hx => .slotEnters hx) (.ite (.withLoop (.foldl h1 fun _ _ hx => .slotLeaves hx)) h1)

/-! ### The bridle and the safety functions (R272, R282 to R298) -/

theorem setBlock {g b} (h : d₀.Stays d) : d₀.Stays (d.setBlock g b) :=
  have active : (R.GLINK_STATUS_BLOCK_ACTIVE g).Aside := aside_of_above (by decide) (by decide)
  have seen : (R.GLINK_STATUS_BLOCK_SEEN g).Aside := aside_of_above (by decide) (by decide)
  .ite h (.ite (.onLink (.raise (.raise h active) seen)) (.onLink (.drop h active)))

theorem driveOutputs {gl} (h : d₀.Stays d) : d₀.Stays (d.driveOutputs gl) :=
  .each (.onBridle h) fun _ _ hx => .setBlock hx

theorem lockPair {k cause} (h : d₀.Stays d) : d₀.Stays (d.lockPair k cause) :=
  .ite h (.event (.foldl (.onSafety (.onPair h)) fun _ _ hx => .onFn hx))

theorem switchPair {k} (h : d₀.Stays d) : d₀.Stays (d.switchPair k) :=
  .ite h (.ite (.ite (.lockPair h) h) (.onPair h))

theorem driveSafety (h : d₀.Stays d) : d₀.Stays d.driveSafety :=
  .driveOutputs (.each (.each h fun _ _ hx => .switchPair hx) fun _ _ hx => .when hx fun _ hx => .onEnc hx)

theorem monitorEncoders {mask} (h : d₀.Stays d) : d₀.Stays (d.monitorEncoders mask) :=
  .foldl h fun _ _ hx => .ite hx (.onEnc hx)

theorem demandFn {n} (h : d₀.Stays d) : d₀.Stays (d.demandFn n) :=
  .ite (.ite (.onFn h) h) (.onFn (.when h fun _ hx => .monitorEncoders hx))

theorem updateFn {n} (h : d₀.Stays d) : d₀.Stays (d.updateFn n) :=
  .ite h (.ite (.demandFn (.onFn h)) (.ite (.onFn (.onFn h)) (.onFn h)))

theorem updateFns (h : d₀.Stays d) : d₀.Stays d.updateFns :=
  .driveSafety (.each h fun _ _ hx => .updateFn hx)

theorem compare {n old v} (h : d₀.Stays d) : d₀.Stays (d.compare n old v) := h

theorem showPresence (h : d₀.Stays d) : d₀.Stays d.showPresence := .flag (.flag h)

theorem takeProtect (h : d₀.Stays d) : d₀.Stays d.takeProtect :=
  .onBridle (.showPresence (.each (.onBridle h) fun _ _ hx => .compare hx))

theorem takeSafety (h : d₀.Stays d) : d₀.Stays d.takeSafety := .updateFns (.onSafety h)

theorem leaveMaint (h : d₀.Stays d) : d₀.Stays d.leaveMaint := .takeSafety (.ite h (.takeProtect h))

theorem safetyRole {prev new} (h : d₀.Stays d) : d₀.Stays (d.safetyRole prev new) := by
  unfold Dev.safetyRole
  extract_lets +onlyGivenNames d1 d2
  have h1 : d₀.Stays d1 := .ite (.onSafety h) h
  have h2 : d₀.Stays d2 := .ite h1 (.onBridle h1)
  exact .ite (.leaveMaint h2) (.updateFns h2)

/-! ### Local I/O and the CAN ports (R46, R398, R416) -/

theorem finishRequest {k client id s body} (h : d₀.Stays d) : d₀.Stays (d.finishRequest k client id s body) := by
  unfold Dev.finishRequest
  split
  · exact h
  · exact (h.incWrap : d₀.Stays (d.incWrap R.SEC_REQUESTS))

theorem showDio (h : d₀.Stays d) : d₀.Stays d.showDio := by
  unfold Dev.showDio
  extract_lets +onlyGivenNames _ _ _ d1
  have h1 : d₀.Stays d1 := .flag (.flag (.onIo h))
  exact .ite (.event (.wr (.incSat (.raise h1)))) h1

theorem aoShow {n} (h : d₀.Stays d) : d₀.Stays (d.aoShow n) :=
  .wr (.ite h (.onAo (.wr h (aside_of_above (by decide) (by decide))))) (aside_of_above (by decide) (by decide))

theorem ioRole {prev new} (h : d₀.Stays d) : d₀.Stays (d.ioRole prev new) := by
  unfold Dev.ioRole
  extract_lets +onlyGivenNames d0 d1 d2 d3
  have h0 : d₀.Stays d0 := .flag h
  have h1 : d₀.Stays d1 := .ite (.each h0 fun _ _ hx => .foldl (.onAo hx) fun _ _ hx => .finishRequest hx) h0
  have h2 : d₀.Stays d2 := .ite (.each h1 fun _ _ hx => .onAo hx) h1
  have h3 : d₀.Stays d3 := .ite h2 (.onIo h2)
  exact .each (.showDio h3) fun _ _ hx => .aoShow hx

theorem canEndAttempt {n} (h : d₀.Stays d) : d₀.Stays (d.canEndAttempt n) := .onPort h

theorem canRole {prev new} (h : d₀.Stays d) : d₀.Stays (d.canRole prev new) := by
  unfold Dev.canRole
  refine .each h fun _ _ hx => ?_
  extract_lets +onlyGivenNames d1 d2
  have h1 : d₀.Stays d1 := .ite hx (.canEndAttempt hx)
  have h2 : d₀.Stays d2 := .ite (.drop h1 (aside_of_above (by decide) (by decide))) h1
  exact .ite (.addSat h2 (aside_of_above (by decide) (by decide))) h2

/-! ### Changes of role (R9 to R12, R46, R486) -/

theorem setCause {k b} (h : d₀.Stays d) : d₀.Stays (d.setCause k b) := .flag (.wr (.withTwin h))

theorem setRole {r} (h : d₀.Stays d) : Dev.Stays { d₀ with role := r } (d.setRole r) := by
  have taken : d₀.Stays (d.wr64 R.TWIN_TAKE_T_LO R.TWIN_TAKE_T_HI d.timeT) := .wr (.wr h)
  exact .canRole (.ioRole (.safetyRole (.loopRole (.withPower (.setCause taken.withRole)))))

/-- With no write waiting nothing is applied. -/
theorem applyStaged (h : d₀.Stays d) (hs : d₀.mgmt.staged = []) : d₀.Stays d.applyStaged := by
  have waiting : d.mgmt.staged = [] := h.staged_eq.trans hs
  have idle : d.applyStaged = d := by
    unfold Dev.applyStaged
    rw [waiting]
    show { d with mgmt := { d.mgmt with staged := [] } } = d
    rw [← waiting]
  rwa [idle]

/-- A module that goes to a role with no write waiting stands as before but for that role. -/
theorem leaveTo {r} (h : d₀.Stays d) (hs : d₀.mgmt.staged = []) : Dev.Stays { d₀ with role := r } (d.leaveTo r) :=
  .applyStaged (.withPower (.clear (.drop (.setRole (d := d.stopCycles) h)))) hs

/-- A fault takes a module that has not committed to STOPPED. -/
theorem goStopped (h : d₀.Stays d) (hs : d₀.mgmt.staged = []) (hr : d.role ≠ .stopped) (hc : d.committed = false) :
    Dev.Stays { d₀ with role := .stopped } d.goStopped := by
  unfold Dev.goStopped
  extract_lets +onlyGivenNames _ d1
  have kept : d1.committed = false := hc
  have goes : ¬(d1.role = .stopped || d1.committed) := by simp [kept, show d1.role ≠ .stopped from hr]
  rw [if_neg goes]
  exact .leaveTo (d := d1) h hs

theorem abortTest (h : d₀.Stays d) : d₀.Stays d.abortTest := .ite (.wr (.drop (.onLife h))) h

end Dev.Stays

end Sys2Proof.Machine

end

section
/-! LAWS. The position code, the identity and the keeper's switches (O31). -/

namespace Sys2Proof.Machine

/-! ### The commands' meanings -/

theorem exec_positionSampleAttempt (a b c : BitVec 6) (s : State) :
    exec (.positionSampleAttempt a b c) s = s.act fun d => d.positionAttempt a.toNat b.toNat c.toNat := rfl
theorem exec_positionPinSample (p : BitVec 5) (s : State) :
    exec (.positionPinSample p) s = s.act fun d => d.pinSample p.toNat := rfl
theorem exec_keeperSample (n : BitVec 9) (s : State) :
    exec (.keeperSample n) s = s.act fun d => d.keeperSample n.toNat := rfl
theorem exec_enterSafetyMaint (r : Req) (s : State) :
    exec (.enterSafetyMaint r) s = s.act fun d => d.request rqStart r Dev.enterMaint := rfl
theorem exec_leaveSafetyMaint (r : Req) (s : State) :
    exec (.leaveSafetyMaint r) s = s.act fun d => d.request rqStart r Dev.leaveMaintCommand := rfl
theorem exec_safetyWritten (crcs : List Word) (s : State) :
    exec (.safetyWritten crcs) s = s.act fun d => d.safetyWritten crcs := rfl

/-! ### The fields of the code, the keeper and the identity (R29, R30, R43, R44) -/

/-- The fields in which the debounced switches and the cover are written. -/
def keeperFields (v : Nat) : List (Fld × Nat) :=
  [(R.KEEPER_SW, v), (R.KEEPER_COVER_OPEN, bit (testBit v 8)), (R.KEEPER_SAFE_SET, v / 2)]

/-- The fields in which an agreed code and K1.5 are written. -/
def codeFields (pins : Nat) (k15 : Bool) : List (Fld × Nat) :=
  [(R.SADDLE_PAIR, pins), (R.SADDLE_SIDE, bit (testBit pins 3)), (R.SADDLE_PARITY_OK, bit (parityOk pins)),
    (R.SADDLE_CODE_VALID, bit (codeValid pins)), (R.SADDLE_ID_MISMATCH, bit (testBit pins 3 != k15)),
    (R.KEEPER_ID_LATCHED, bit k15)]

/-- The fields in which the twin identity is written. -/
def twinFields (pins : Nat) : List (Fld × Nat) :=
  [(R.TWIN_IDENT_SIDE, bit (testBit pins 3)), (R.TWIN_IDENT_PAIR, pins)]

/-- The fields in which the presence lines are written. -/
def presenceFields (own partner : Bool) : List (Fld × Nat) :=
  [(R.SADDLE_PRESENT_OWN, bit own), (R.SADDLE_PRESENT_PARTNER, bit partner)]

theorem keeperFields_stored (v : Nat) : (keeperFields v).map stored =
    [(R.KEEPER_SW, v % 256), (R.KEEPER_COVER_OPEN, bit (testBit v 8)), (R.KEEPER_SAFE_SET, v / 2 % 8)] := by
  simp [keeperFields, stored, R.KEEPER_SW, R.KEEPER_COVER_OPEN, R.KEEPER_SAFE_SET]

theorem codeFields_stored (pins : Nat) (k15 : Bool) : (codeFields pins k15).map stored =
    [(R.SADDLE_PAIR, pins % 8), (R.SADDLE_SIDE, bit (testBit pins 3)), (R.SADDLE_PARITY_OK, bit (parityOk pins)),
      (R.SADDLE_CODE_VALID, bit (codeValid pins)), (R.SADDLE_ID_MISMATCH, bit (testBit pins 3 != k15)),
      (R.KEEPER_ID_LATCHED, bit k15)] := by
  simp [codeFields, stored, R.SADDLE_PAIR, R.SADDLE_SIDE, R.SADDLE_PARITY_OK, R.SADDLE_CODE_VALID, R.SADDLE_ID_MISMATCH,
    R.KEEPER_ID_LATCHED]

theorem twinFields_stored (pins : Nat) : (twinFields pins).map stored =
    [(R.TWIN_IDENT_SIDE, bit (testBit pins 3)), (R.TWIN_IDENT_PAIR, pins % 8)] := by
  simp [twinFields, stored, R.TWIN_IDENT_SIDE, R.TWIN_IDENT_PAIR]

theorem presenceFields_stored (own partner : Bool) :
    (presenceFields own partner).map stored = presenceFields own partner := by
  simp [presenceFields, stored, R.SADDLE_PRESENT_OWN, R.SADDLE_PRESENT_PARTNER]

theorem showKeeper_eq (d : Dev) : d.showKeeper = d.writes (keeperFields d.conn.keeper.value) := rfl

theorem showPresence_eq (d : Dev) : d.showPresence = d.writes (presenceFields d.ownPresence d.partnerPresent) := rfl

/-- The partner's line is chosen by the identity, which the presence fields do not hold. -/
theorem partnerPresent_showPresence (d : Dev) : d.showPresence.partnerPresent = d.partnerPresent := by
  have side : d.showPresence.rd R.SADDLE_SIDE = d.rd R.SADDLE_SIDE :=
    ((Dev.Stays.refl (d := d)).showPresence).rd_eq (by decide)
  have same : d.showPresence.identity = d.identity := by
    unfold Dev.identity Dev.on
    rw [side]
    rfl
  unfold Dev.partnerPresent
  rw [same]
  rfl

/-! ### The position code (R29, R30) -/

/-- The connectors once a code is latched: the switches and the pins go on from it. -/
def ConnSt.latch (c : ConnSt) (pins : Nat) (k15 : Bool) : ConnSt :=
  { c with
    latched := some (pins, k15), pins := ⟨pins, pins, pins⟩
    keeper := ⟨putBit c.keeper.value 4 k15, putBit c.keeper.last 4 k15, putBit c.keeper.prev 4 k15⟩ }

theorem showCode_eq (d : Dev) (pins : Nat) (k15 : Bool) :
    d.showCode pins k15 = ((d.writes (codeFields pins k15)).onConn fun c => c.latch pins k15).showKeeper := rfl

/-- What three equal samples write: the code's own fields, and the switches with K1.5 settled. -/
theorem showCode_sets (d : Dev) (pins : Nat) (k15 : Bool) :
    Sets d (d.showCode pins k15)
      ((codeFields pins k15).map stored ++ (keeperFields (putBit d.conn.keeper.value 4 k15)).map stored) := by
  rw [showCode_eq, showKeeper_eq]
  have code : Sets d (d.writes (codeFields pins k15)) ((codeFields pins k15).map stored) :=
    (sets_nil d).writes _ (of_decide_eq_true rfl) (of_decide_eq_true rfl)
  have latched : Sets d ((d.writes (codeFields pins k15)).onConn fun c => c.latch pins k15) _ := code.of_regs rfl
  exact latched.writes _ (of_decide_eq_true rfl) (of_decide_eq_true rfl)

theorem isStarting_role {d : Dev} (hs : d.isStarting = true) : d.role = .starting := by
  simp only [Dev.isStarting, Bool.and_eq_true, decide_eq_true_eq] at hs
  exact hs.2

/-- Three equal samples of a valid code whose side agrees with K1.5. -/
theorem positionAttempt_agreed {d : Dev} {n : Nat} (hs : d.isStarting = true) (hp : d.power.start.position = false)
    (valid : codeValid (n % 32) = true) (side : testBit (n % 32) 3 = testBit n 5) :
    d.positionAttempt n n n = (d.showCode (n % 32) (testBit (n % 32) 3)).takeIdentity (n % 32) := by
  simp [Dev.positionAttempt, hs, hp, valid, side]

/-- Three equal samples of a code that is not valid, or whose side is not K1.5's. -/
theorem positionAttempt_refused {d : Dev} {n : Nat} (hs : d.isStarting = true) (hp : d.power.start.position = false)
    (bad : codeValid (n % 32) = false ∨ testBit (n % 32) 3 ≠ testBit n 5) :
    ∃ reason, d.positionAttempt n n n =
      (d.showCode (n % 32) (testBit n 5)).positionStop reason (n % 32) (testBit n 5) := by
  cases valid : codeValid (n % 32) with
  | false => exact ⟨2, by simp [Dev.positionAttempt, hs, hp, valid]⟩
  | true =>
    have side : testBit (n % 32) 3 ≠ testBit n 5 := bad.resolve_left (by simp [valid])
    exact ⟨3, by simp [Dev.positionAttempt, hs, hp, valid, side]⟩

/-- Samples that are not all equal: one more attempt, and the tenth stops the start. -/
theorem positionAttempt_unequal {d : Dev} {a b c : Nat} (hs : d.isStarting = true) (hp : d.power.start.position = false)
    (ne : ¬(a = b ∧ b = c)) :
    d.positionAttempt a b c =
      let e := d.onConn fun x => { x with attempts := x.attempts + 1 }
      if 10 ≤ d.conn.attempts + 1 then e.clearCode.positionStop 1 (c % 32) (testBit c 5) else e := by
  simp only [Dev.positionAttempt, hs, hp, ne, Bool.not_true, Bool.or_self, Bool.false_eq_true, if_false]
  rfl

/-! ### A start that stops at the code -/

/-- The connectors of a module that takes no identity. -/
def ConnSt.unidentified (c : ConnSt) : ConnSt := { c with identified := false }

/-- The module that has found its code at fault, with its event, before it goes to STOPPED. -/
def Dev.codeAtFault (d : Dev) (reason pins : Nat) (k15 : Bool) : Dev :=
  (d.onConn ConnSt.unidentified).showPresence.eventM .positionCode [w32 reason, w32 pins, w32 (bit k15)]

section
variable (d : Dev) (reason pins : Nat) (k15 : Bool)

theorem positionStop_eq : d.positionStop reason pins k15 = (d.codeAtFault reason pins k15).goStopped := rfl

theorem codeAtFault_presents : Presents d (d.codeAtFault reason pins k15) [(.positionCode, source 0 0)] := ⟨_, rfl, rfl⟩

theorem codeAtFault_stays : Dev.Stays (d.onConn ConnSt.unidentified) (d.codeAtFault reason pins k15) :=
  .eventM (.showPresence .refl)

theorem codeAtFault_role : (d.codeAtFault reason pins k15).role = d.role :=
  (codeAtFault_stays d reason pins k15).role_eq

theorem codeAtFault_power : (d.codeAtFault reason pins k15).power = d.power := by
  simp only [Dev.codeAtFault, Dev.showPresence, Dev.eventM_power, Dev.flag_power, Dev.onConn]

theorem codeAtFault_committed : (d.codeAtFault reason pins k15).committed = d.committed := by
  simp only [Dev.committed, codeAtFault_power]

variable {d} (hs : d.mgmt.staged = []) (hr : d.role = .starting) (hc : d.committed = false)
include hs hr hc

/-- A start that stops at the code stands as whatever led to it did, but for the role. -/
theorem positionStop_of_stays {d₀ : Dev} (h : d₀.Stays (d.codeAtFault reason pins k15)) :
    Dev.Stays { d₀ with role := .stopped } (d.positionStop reason pins k15) := by
  have waiting : d₀.mgmt.staged = [] :=
    h.staged_eq.symm.trans ((codeAtFault_stays d reason pins k15).staged_eq.trans hs)
  have starting : (d.codeAtFault reason pins k15).role ≠ .stopped := by
    rw [codeAtFault_role, hr]
    decide
  rw [positionStop_eq]
  exact .goStopped h waiting starting ((codeAtFault_committed d reason pins k15).trans hc)

/-- The module is in STOPPED without an identity, and the code is shown as before. -/
theorem positionStop_stays :
    Dev.Stays { d.onConn ConnSt.unidentified with role := .stopped } (d.positionStop reason pins k15) :=
  positionStop_of_stays reason pins k15 hs hr hc (codeAtFault_stays d reason pins k15)

/-- POSITION_CODE is the first record that it presents. -/
theorem positionStop_presents :
    ∃ es, Presents d (d.positionStop reason pins k15) ((.positionCode, source 0 0) :: es) :=
  (positionStop_of_stays reason pins k15 hs hr hc .refl).presents (codeAtFault_presents d reason pins k15).withRole

end

/-! ### A start that takes its identity -/

theorem showCode_rest (d : Dev) (pins : Nat) (k15 : Bool) :
    d.showCode pins k15 = { d with regs := (d.showCode pins k15).regs, conn := d.conn.latch pins k15 } := by
  rw [showCode_eq, showKeeper_eq, writes_rest, writes_rest d]
  rfl

/-- The connectors and the start sequence of a module with its identity. -/
def ConnSt.named (c : ConnSt) : ConnSt := { c with identified := true }
def PowerSt.named (p : PowerSt) : PowerSt := { p with start := { p.start with position := true } }

/-- The module with its identity taken, before the presence lines are shown. -/
def Dev.named (d : Dev) (pins : Nat) : Dev := ((d.writes (twinFields pins)).onConn ConnSt.named).onPower PowerSt.named

theorem takeIdentity_eq (d : Dev) (pins : Nat) : d.takeIdentity pins = (d.named pins).showPresence := rfl

theorem showPresence_rest (d : Dev) : d.showPresence = { d with regs := d.showPresence.regs } := rfl

theorem takeIdentity_rest (d : Dev) (pins : Nat) :
    d.takeIdentity pins =
      { d with regs := (d.takeIdentity pins).regs, conn := d.conn.named, power := d.power.named } := by
  rw [takeIdentity_eq, showPresence_rest, Dev.named, writes_rest]
  rfl

theorem ownPresence_showPresence (d : Dev) : d.showPresence.ownPresence = d.ownPresence := rfl

/-- The code, the switches, the identity and the presence lines are shown, and no other field changes. -/
theorem takeIdentity_sets (d : Dev) (pins : Nat) (k15 : Bool) :
    let e := (d.showCode pins k15).takeIdentity pins
    Sets d e ((codeFields pins k15).map stored ++ (twinFields pins).map stored ++
      (keeperFields (putBit d.conn.keeper.value 4 k15)).map stored ++
      presenceFields e.ownPresence e.partnerPresent) := by
  have coded := showCode_sets d pins k15
  intro e
  have shown : e = ((d.showCode pins k15).named pins).showPresence := takeIdentity_eq _ pins
  generalize d.showCode pins k15 = c at *
  have twin : Sets d (c.writes (twinFields pins)) _ := coded.writes _ (of_decide_eq_true rfl) (of_decide_eq_true rfl)
  have taken : Sets d (c.named pins) _ := twin.of_regs rfl
  have present := taken.writes (presenceFields e.ownPresence e.partnerPresent) (of_decide_eq_true rfl)
    (of_decide_eq_true rfl)
  rw [presenceFields_stored] at present
  have lines : e = (c.named pins).writes (presenceFields e.ownPresence e.partnerPresent) := by
    rw [shown, ownPresence_showPresence, partnerPresent_showPresence, ← showPresence_eq]
  rw [← lines, List.append_assoc (List.map stored (codeFields pins k15))] at present
  rw [List.append_assoc (List.map stored (codeFields pins k15))]
  exact present.of_perm ((List.perm_append_comm.append_left _).append_right _)

/-- The answer to three equal samples of a valid code whose side agrees with K1.5. -/
theorem positionAttempt_identifies {d : Dev} {n : Nat} (hs : d.isStarting = true) (hp : d.power.start.position = false)
    (valid : codeValid (n % 32) = true) (side : testBit (n % 32) 3 = testBit n 5) :
    let pins := n % 32
    let e := d.positionAttempt n n n
    Sets d e [(R.SADDLE_PAIR, pins % 8), (R.SADDLE_SIDE, bit (testBit pins 3)), (R.SADDLE_PARITY_OK, 1),
      (R.SADDLE_CODE_VALID, 1), (R.SADDLE_ID_MISMATCH, 0), (R.KEEPER_ID_LATCHED, bit (testBit pins 3)),
      (R.TWIN_IDENT_SIDE, bit (testBit pins 3)), (R.TWIN_IDENT_PAIR, pins % 8),
      (R.KEEPER_SW, putBit d.conn.keeper.value 4 (testBit pins 3) % 256),
      (R.KEEPER_COVER_OPEN, bit (testBit d.conn.keeper.value 8)), (R.KEEPER_SAFE_SET, d.conn.keeper.value / 2 % 8),
      (R.SADDLE_PRESENT_OWN, bit e.ownPresence), (R.SADDLE_PRESENT_PARTNER, bit e.partnerPresent)] ∧
    e = { d with
      regs := e.regs, conn := (d.conn.latch pins (testBit pins 3)).named, power := d.power.named } := by
  intro pins e
  have agreed : e = (d.showCode pins (testBit pins 3)).takeIdentity pins := positionAttempt_agreed hs hp valid side
  have parity : parityOk pins = true := by
    simp only [codeValid, Bool.and_eq_true] at valid
    exact valid.1.1
  have shown := takeIdentity_sets d pins (testBit pins 3)
  rw [codeFields_stored, keeperFields_stored, twinFields_stored, ← agreed, parity,
    show codeValid pins = true from valid, bne_self_eq_false, testBit_putBit, putBit_four_safeSet] at shown
  have rest := takeIdentity_rest (d.showCode pins (testBit pins 3)) pins
  rw [← agreed, showCode_rest] at rest
  exact ⟨shown, rest⟩

/-! ### A start that stops at the code, or goes on to the next attempt -/

/-- The start stops: STOPPED without an identity, the code shown as it was, and POSITION_CODE is the first record. -/
theorem positionStop_spec {d e : Dev} (he : e = { d with regs := e.regs, conn := e.conn }) (reason pins : Nat)
    (k15 : Bool) (hs : d.mgmt.staged = []) (hr : d.role = .starting) (hc : d.committed = false) :
    let f := e.positionStop reason pins k15
    f.role = .stopped ∧ f.conn = e.conn.unidentified ∧ (∀ g ∈ identityFlds, f.rd g = e.rd g) ∧
      ∃ es, Presents d f ((.positionCode, source 0 0) :: es) := by
  have staged : e.mgmt.staged = [] := by rw [he]; exact hs
  have role : e.role = .starting := by rw [he]; exact hr
  have committed : e.committed = false := by rw [he]; exact hc
  have told : e.evrec.presented = d.evrec.presented := by rw [he]
  have stays := positionStop_stays reason pins k15 staged role committed
  obtain ⟨es, rs, presented, named⟩ := positionStop_presents reason pins k15 staged role committed
  exact ⟨stays.role_eq, stays.conn_eq, fun g hg => stays.rd_eq hg, es, rs, told ▸ presented, named⟩

/-- Three equal samples of a code that is not valid, or whose side is not K1.5's: the code is shown, and the start
stops. -/
theorem positionAttempt_stops {d : Dev} {n : Nat} (hs : d.isStarting = true) (hp : d.power.start.position = false)
    (bad : codeValid (n % 32) = false ∨ testBit (n % 32) 3 ≠ testBit n 5) (hc : d.committed = false)
    (hst : d.mgmt.staged = []) :
    let pins := n % 32
    let e := d.positionAttempt n n n
    e.role = .stopped ∧ e.conn.latched = some (pins, testBit n 5) ∧ e.conn.identified = false ∧
      e.rd R.SADDLE_PAIR = pins % 8 ∧ e.rd R.SADDLE_SIDE = bit (testBit pins 3) ∧
      e.rd R.SADDLE_CODE_VALID = bit (codeValid pins) ∧
      e.rd R.SADDLE_ID_MISMATCH = bit (testBit pins 3 != testBit n 5) ∧
      ∃ es, Presents d e ((.positionCode, source 0 0) :: es) := by
  intro pins e
  obtain ⟨reason, refused⟩ := positionAttempt_refused hs hp bad
  have conn : (d.showCode pins (testBit n 5)).conn = d.conn.latch pins (testBit n 5) := by rw [showCode_rest]
  have coded := showCode_sets d pins (testBit n 5)
  rw [codeFields_stored] at coded
  obtain ⟨stopped, connAfter, shown, told⟩ := positionStop_spec (e := d.showCode pins (testBit n 5))
    (by rw [conn]; exact showCode_rest d pins (testBit n 5)) reason pins (testBit n 5) hst (isStarting_role hs) hc
  rw [← refused] at stopped connAfter shown told
  rw [conn] at connAfter
  refine ⟨stopped, by rw [connAfter]; rfl, by rw [connAfter]; rfl, ?_, ?_, ?_, ?_, told⟩
  all_goals
    rw [shown _ (by decide)]
    exact coded.rd_of_mem (by simp)

/-- The connectors with no code latched. -/
def ConnSt.unlatched (c : ConnSt) : ConnSt := { c with latched := none }

theorem clearCode_rest (d : Dev) : d.clearCode = { d with regs := d.clearCode.regs, conn := d.conn.unlatched } := by
  unfold Dev.clearCode
  rw [Dev.clear_eq]
  rfl

/-- The fields of the code read 0 once it is cleared. -/
theorem rd_clearCode (d : Dev) : ∀ f ∈ [R.SADDLE_PAIR, R.SADDLE_SIDE, R.SADDLE_PARITY_OK, R.SADDLE_CODE_VALID,
    R.SADDLE_ID_MISMATCH, R.KEEPER_ID_LATCHED], d.clearCode.rd f = 0 :=
  fun f hf => Dev.rd_clear _ d f (by decide) (by decide) hf

/-- The tenth attempt without three equal samples: nothing is latched, the code's fields read 0, and the start stops. -/
theorem positionAttempt_tenth {d : Dev} {a b c : Nat} (hs : d.isStarting = true) (hp : d.power.start.position = false)
    (ne : ¬(a = b ∧ b = c)) (tenth : d.conn.attempts = 9) (hc : d.committed = false) (hst : d.mgmt.staged = []) :
    let e := d.positionAttempt a b c
    e.role = .stopped ∧ e.conn.latched = none ∧ e.conn.identified = false ∧
      (∀ f ∈ [R.SADDLE_PAIR, R.SADDLE_SIDE, R.SADDLE_PARITY_OK, R.SADDLE_CODE_VALID, R.SADDLE_ID_MISMATCH,
        R.KEEPER_ID_LATCHED], e.rd f = 0) ∧ ∃ es, Presents d e ((.positionCode, source 0 0) :: es) := by
  intro e
  let x := d.onConn fun x => { x with attempts := x.attempts + 1 }
  have stops : e = x.clearCode.positionStop 1 (c % 32) (testBit c 5) := by
    rw [show e = _ from positionAttempt_unequal hs hp ne, tenth]
    rfl
  have conn : x.clearCode.conn = x.conn.unlatched := by rw [clearCode_rest]
  obtain ⟨stopped, connAfter, shown, told⟩ := positionStop_spec (d := d) (e := x.clearCode)
    (by rw [conn]; exact clearCode_rest x) 1 (c % 32) (testBit c 5) hst (isStarting_role hs) hc
  rw [← stops] at stopped connAfter shown told
  rw [conn] at connAfter
  refine ⟨stopped, by rw [connAfter]; rfl, by rw [connAfter]; rfl, fun f hf => ?_, told⟩
  rw [shown f (by revert f; decide), rd_clearCode x f hf]

/-! ### The pins and the keeper's switches after the start (R31, R41, R42) -/

/-- A departure of the pins from the latched code is shown and told, once. -/
theorem pinSample_departs {d : Dev} {n code : Nat} {side : Bool} (lit : d.lit = true)
    (latched : d.conn.latched = some (code, side))
    (departs : d.conn.pins.value = code ∧ (d.conn.pins.sample n 5).value ≠ code) :
    d.pinSample n = (d.onConn fun c => { c with pins := c.pins.sample n 5 }).positionChanged false := by
  simp [Dev.pinSample, lit, Dev.onConn, latched, departs]

/-- Any other sample of the pins is kept, and nothing else changes. -/
theorem pinSample_stays {d : Dev} {n code : Nat} {side : Bool} (lit : d.lit = true)
    (latched : d.conn.latched = some (code, side))
    (stays : ¬(d.conn.pins.value = code ∧ (d.conn.pins.sample n 5).value ≠ code)) :
    d.pinSample n = d.onConn fun c => { c with pins := c.pins.sample n 5 } := by
  simp only [Dev.pinSample, lit, Dev.onConn, latched, stays, Bool.not_true, Bool.false_eq_true, if_false]

/-- The event of a departure from the latched code sets CODE_CHANGED and changes no other field. -/
theorem positionChanged_sets (d : Dev) : Sets d (d.positionChanged false) [(R.SADDLE_CODE_CHANGED, 1)] :=
  ((sets_nil d).wr R.SADDLE_CODE_CHANGED 1 (by decide) (by simp)).of_regs rfl

/-- A sample of the switches as it is kept and shown, before what follows the changes. -/
def Dev.keeperShown (d : Dev) (n : Nat) : Dev := (d.onConn fun c => { c with keeper := c.keeper.sample n 9 }).showKeeper

theorem keeperShown_sets (d : Dev) (n : Nat) :
    let new := (d.conn.keeper.sample n 9).value
    Sets d (d.keeperShown n) [(R.KEEPER_SW, new % 256), (R.KEEPER_COVER_OPEN, bit (testBit new 8)),
      (R.KEEPER_SAFE_SET, new / 2 % 8)] := by
  intro new
  rw [← keeperFields_stored]
  have kept : Sets d (d.onConn fun c => { c with keeper := c.keeper.sample n 9 }) [] := (sets_nil d).of_regs rfl
  exact kept.writes (keeperFields new) (of_decide_eq_true rfl) (of_decide_eq_true rfl)

/-- The switches of which a sample changes the debounced level. -/
def keeperChanges (d : Dev) (n : Nat) : List Nat :=
  (List.range 9).filter fun k => testBit d.conn.keeper.value k != testBit (d.conn.keeper.sample n 9).value k

/-- A sample of a lit module's switches: it is shown, and each change is acted on in turn. -/
theorem keeperSample_eq {d : Dev} (n : Nat) (lit : d.lit = true) :
    d.keeperSample n =
      let new := (d.conn.keeper.sample n 9).value
      let e := d.keeperShown n
      (keeperChanges d n).foldl (fun d k => d.keeperChange k (testBit new k))
        (if (keeperChanges d n).any fun k => 1 ≤ k && k ≤ 3 then
          (e.flag R.SAFE_STATUS_SET_PENDING (new / 2 % 8 ≠ e.safety.set)).eventM .safeSetChanged else e) := by
  rw [Dev.keeperSample, if_neg (by simp [lit])]
  rfl

theorem keeperChange_stays {d₀ d : Dev} {k : Nat} {on_ : Bool} (h : d₀.Stays d) (hk : k ≠ 0) :
    d₀.Stays (d.keeperChange k on_) := by
  have told : d₀.Stays (d.eventM .keeperChanged [w32 (k + 1), w32 (bit on_)]) := h.eventM
  unfold Dev.keeperChange
  refine .ite (.ite (.eventM (.raise told)) told) (.ite ?_ ?_)
  · unfold Dev.twinSwitch
    split
    · exact .ite (.eventM (.raise told)) told
    · exact told
  · rw [if_neg hk]
    exact told

/-- While K1.1 does not change, what follows a sample leaves the role and the connectors, and what the sample shows. -/
theorem keeperSample_stays {d : Dev} {n : Nat} (lit : d.lit = true)
    (k11 : testBit (d.conn.keeper.sample n 9).value 0 = testBit d.conn.keeper.value 0) :
    (d.keeperShown n).Stays (d.keeperSample n) := by
  rw [keeperSample_eq n lit]
  refine .foldlMem (.ite (.eventM (.flag .refl)) .refl) fun x k hk hx => keeperChange_stays hx ?_
  rintro rfl
  simp [keeperChanges, k11] at hk

/-- A sample that changes no switch is shown, and nothing follows. -/
theorem keeperSample_unchanged {d : Dev} {n : Nat} (lit : d.lit = true)
    (same : ∀ k : Nat, k < 9 → testBit (d.conn.keeper.sample n 9).value k = testBit d.conn.keeper.value k) :
    d.keeperSample n = d.keeperShown n := by
  have none : keeperChanges d n = [] := by
    refine List.filter_eq_nil_iff.2 fun k hk => ?_
    simp [same k (List.mem_range.1 hk)]
  rw [keeperSample_eq n lit, none]
  rfl

/-! ### SAFETY_MAINT (R10) -/

/-- In STOPPED or STANDBY with K1.1 on the module goes to SAFETY_MAINT; a test that runs is aborted first. -/
theorem enterMaint_done {d : Dev} (hr : d.role = .stopped ∨ d.role = .standby)
    (k11 : testBit (d.rd R.KEEPER_SW) 0 = true) : d.enterMaint = (d.abortTest.leaveTo .safetyMaint).done := by
  have admits : ¬(d.role ≠ .stopped ∧ d.role ≠ .standby) := by tauto
  simp [Dev.enterMaint, admits, k11]

/-- With K1.1 off the request is refused. -/
theorem enterMaint_refused {d : Dev} (hr : d.role = .stopped ∨ d.role = .standby)
    (k11 : testBit (d.rd R.KEEPER_SW) 0 = false) : d.enterMaint = d.refuse (.hrn 13) := by
  have admits : ¬(d.role ≠ .stopped ∧ d.role ≠ .standby) := by tauto
  simp [Dev.enterMaint, admits, k11]

theorem leaveMaintCommand_done {d : Dev} (hr : d.role = .safetyMaint) :
    d.leaveMaintCommand = ({ d with bridle := { d.bridle with writing := none } }.leaveTo .stopped).done := by
  simp [Dev.leaveMaintCommand, hr]

/-- A fresh request whose action is done is answered OK without a body, on the module that the action leaves. -/
theorem answers_done {c : Instr} {s : State} {r : Req} {right : Nat} {k : ReqKind} {act : Dev → Reply} {e : Dev}
    (fresh : FreshRequest s r right) (ex : exec c s = s.act fun d => d.request k r act) (hk : k.right = some right)
    (done : act (s.dev.touchSession r.session) = e.done) :
    Answers c s fun d => d = e.answered k r .ok [] := by
  refine answers_act ex ?_
  rw [request_fresh fresh k hk act (by rw [done]; rfl), done]
  rfl

/-! ### The bridle's write of new copies (R289) -/

/-- A second module that differs from the first in its records and its free values only. -/
def Dev.OnlyTells (d e : Dev) : Prop := e = { d with free := e.free, evrec := e.evrec }

theorem Dev.OnlyTells.trans {d e c : Dev} (h1 : d.OnlyTells e) (h2 : e.OnlyTells c) : d.OnlyTells c :=
  Eq.trans h2 (congrArg (fun x : Dev => { x with free := c.free, evrec := c.evrec }) h1)

theorem noteWritten_onlyTells (d : Dev) (crc : StoredSection → Word) (old new : Option StoredSection) :
    d.OnlyTells (d.noteWritten crc old new) := by
  unfold Dev.noteWritten
  split
  · rfl
  · split <;> rfl

/-- One record for a new copy whose CRC is not the old one's, and none otherwise. -/
theorem noteWritten_presents (d : Dev) (crc : StoredSection → Word) (old new : Option StoredSection) :
    Presents d (d.noteWritten crc old new)
      (List.replicate (bit (new.isSome && old.map crc != new.map crc)) (.safetyWritten, source 0 0)) := by
  cases new with
  | none => exact presents_none d d rfl
  | some y =>
    by_cases same : old.map crc = some (crc y)
    · simpa [Dev.noteWritten, same, bit] using presents_none d d rfl
    · simpa [Dev.noteWritten, same, bit, Dev.eventM] using presents_event d .safetyWritten (source 0 0) _

/-- Copies noted one after another: one record for each that differs. -/
theorem noteEach_presents {α : Type} (crc : α → StoredSection → Word) (old new : Option StoredSection) (l : List α)
    (d : Dev) : Presents d (l.foldl (fun d k => d.noteWritten (crc k) old new) d)
      (List.replicate (l.filter fun k => new.isSome && old.map (crc k) != new.map (crc k)).length
        (.safetyWritten, source 0 0)) := by
  induction l generalizing d with
  | nil => exact presents_none d d rfl
  | cons k l ih =>
    have step := (noteWritten_presents d (crc k) old new).trans (ih (d.noteWritten (crc k) old new))
    rw [← List.replicate_add] at step
    cases differs : new.isSome && old.map (crc k) != new.map (crc k) with
    | false => simpa [List.filter_cons, differs, bit] using step
    | true => simpa [List.filter_cons, differs, bit, Nat.add_comm] using step

theorem noteEach_onlyTells {α : Type} (crc : α → StoredSection → Word) (old new : Option StoredSection) (l : List α)
    (d : Dev) : d.OnlyTells (l.foldl (fun d k => d.noteWritten (crc k) old new) d) := by
  induction l generalizing d with
  | nil => rfl
  | cons k l ih => exact (noteWritten_onlyTells d (crc k) old new).trans (ih _)

/-- The CRC of a PROTECT copy. -/
def protectCrc (x : StoredSection) : Word := w32 (crc32 x.bytes)

/-- The module once the bridle holds the new copies. -/
def Dev.storedCopies (d : Dev) (p q : Option StoredSection) : Dev :=
  { d with bridle := { d.bridle with
      protect := p.or d.bridle.protect, safety := q.or d.bridle.safety, writing := none } }

/-- The new copies are stored together, with a record for each copy and set that differs. -/
theorem storeSections_spec (d : Dev) (p q : Option StoredSection) :
    let e := d.storeSections p q
    Presents d e (List.replicate
      (bit (p.isSome && d.bridle.protect.map protectCrc != p.map protectCrc) + ((List.range 8).filter fun k =>
        q.isSome && d.bridle.safety.map (safetySetCrc ·.bytes k) != q.map (safetySetCrc ·.bytes k)).length)
      (.safetyWritten, source 0 0)) ∧
    e = { d with
      free := e.free, evrec := e.evrec
      bridle := { d.bridle with
        protect := p.or d.bridle.protect, safety := q.or d.bridle.safety, writing := none } } := by
  intro e
  let setCrc (k : Nat) (x : StoredSection) : Word := safetySetCrc x.bytes k
  have told := (noteWritten_presents d protectCrc d.bridle.protect p).trans
    (noteEach_presents setCrc d.bridle.safety q (List.range 8) (d.noteWritten protectCrc d.bridle.protect p))
  have only := (noteWritten_onlyTells d protectCrc d.bridle.protect p).trans
    (noteEach_onlyTells setCrc d.bridle.safety q (List.range 8) (d.noteWritten protectCrc d.bridle.protect p))
  rw [← List.replicate_add] at told
  exact ⟨told, congrArg (Dev.storedCopies · p q) only⟩

theorem safetyWritten_right {d : Dev} {p q : Option StoredSection} (alive : d.alive = true) (hr : d.role = .safetyMaint)
    (writing : d.bridle.writing = some (p, q)) (staged : d.hrn.staged = none) :
    d.safetyWritten (writeCrcs p q) = d.storeSections p q := by
  have none : (d.storeSections p q).hrn.staged = none := by rw [(storeSections_spec d p q).2]; exact staged
  simp [Dev.safetyWritten, alive, hr, writing, none]

theorem safetyWritten_wrong {d : Dev} {p q : Option StoredSection} {crcs : List Word} (alive : d.alive = true)
    (hr : d.role = .safetyMaint) (writing : d.bridle.writing = some (p, q)) (staged : d.hrn.staged = none)
    (wrong : crcs ≠ writeCrcs p q) :
    d.safetyWritten crcs = { d with bridle := { d.bridle with writing := none } } := by
  simp [Dev.safetyWritten, alive, hr, writing, staged, wrong]

theorem answered_role (d : Dev) (k : ReqKind) (q : Req) (st : Status) (body : List Byte) :
    (d.answered k q st body).role = d.role := rfl
theorem answered_bridle (d : Dev) (k : ReqKind) (q : Req) (st : Status) (body : List Byte) :
    (d.answered k q st body).bridle = d.bridle := rfl

/-! ### The obligation -/

/-- Three samples are equal as numbers exactly when they are equal. -/
theorem samples_unequal {a b c : BitVec 6} (ne : a ≠ b ∨ b ≠ c) : ¬(a.toNat = b.toNat ∧ b.toNat = c.toNat) := by
  rw [BitVec.toNat_inj, BitVec.toNat_inj]
  tauto

/-- Settles O31: each command's meaning, case by case; what a change of role leaves carries the code over the stop. -/
theorem identityAndKeeper : Obligations.IdentityAndKeeper := by
  unfold Obligations.IdentityAndKeeper
  refine ⟨fun x n w k hv => ⟨rfl, rfl, settleBits_lt _ _ hv le_rfl, testBit_sample x n⟩,
    fun s a b c hs hp => ⟨fun ac bc valid side => ?agreed, fun ne few => ?again, fun ne tenth hc hst => ?tenth,
      fun ac bc bad hc hst => ?stopped⟩,
    fun s p code side lit latched => ⟨fun departs => ?departs, fun stays => ?pinsKept⟩,
    fun s n lit => ⟨fun k11 => ?switches, fun same => ?unchanged⟩,
    fun s r p q hst idle => ⟨fun hr k11 fresh => ?enters, fun hr k11 => ?refused, fun hr fresh => ?leaves,
      fun alive hr writing => ?written, fun crcs alive hr writing wrong => ?wrongCrc⟩⟩
  case agreed =>
    subst ac bc
    refine answers_act (exec_positionSampleAttempt _ _ _ s) ?_
    obtain ⟨shown, rest⟩ := positionAttempt_identifies hs hp valid side
    refine ⟨shown, ?_, ?_, ?_, ?_⟩ <;> rw [rest] <;> rfl
  case again =>
    refine answers_act (exec_positionSampleAttempt _ _ _ s) ?_
    rw [positionAttempt_unequal hs hp (samples_unequal ne)]
    exact if_neg (by omega)
  case tenth =>
    exact answers_act (exec_positionSampleAttempt _ _ _ s)
      (positionAttempt_tenth hs hp (samples_unequal ne) tenth hc hst)
  case stopped =>
    subst ac bc
    exact answers_act (exec_positionSampleAttempt _ _ _ s) (positionAttempt_stops hs hp bad hc hst)
  case departs =>
    refine answers_act (exec_positionPinSample p s) ?_
    rw [pinSample_departs lit latched departs]
    exact ⟨positionChanged_sets _, ⟨_, rfl, rfl⟩, rfl⟩
  case pinsKept =>
    refine answers_act (exec_positionPinSample p s) ?_
    rw [pinSample_stays lit latched stays]
    rfl
  case switches =>
    refine answers_act (exec_keeperSample n s) ?_
    have stays := keeperSample_stays lit k11
    have shown := keeperShown_sets s.dev n.toNat
    refine ⟨?_, ?_, ?_, stays.conn_eq, stays.role_eq⟩
    all_goals
      rw [stays.rd_eq (by decide)]
      exact shown.rd_of_mem (by simp)
  case unchanged =>
    refine answers_act (exec_keeperSample n s) ?_
    rw [keeperSample_unchanged lit same]
    exact ⟨keeperShown_sets s.dev n.toNat, rfl⟩
  case enters =>
    refine (answers_done fresh (exec_enterSafetyMaint r s) rfl (enterMaint_done hr k11)).mono ?_
    rintro d rfl
    have stays := Dev.Stays.leaveTo (r := .safetyMaint) (.abortTest (.refl (d := s.dev.touchSession r.session))) hst
    rw [answered_role]
    exact ⟨Dev.answered_replied _ _ _ _ _, stays.role_eq⟩
  case refused =>
    refine carries_of (exec_enterSafetyMaint r s) rfl fun _ => ?_
    rw [enterMaint_refused (d := s.dev.touchSession r.session) hr k11]
    exact ⟨rfl, rfl, rfl, rfl, otherFields_refl _ _, rfl, rfl, rfl⟩
  case leaves =>
    refine (answers_done fresh (exec_leaveSafetyMaint r s) rfl (leaveMaintCommand_done hr)).mono ?_
    rintro d rfl
    have stays := Dev.Stays.leaveTo (r := .stopped)
      (.refl (d := { s.dev.touchSession r.session with bridle := { s.dev.bridle with writing := none } })) hst
    rw [answered_role, answered_bridle]
    exact ⟨Dev.answered_replied _ _ _ _ _, stays.role_eq, stays.writing_eq⟩
  case written =>
    refine answers_act (exec_safetyWritten _ s) ?_
    rw [safetyWritten_right alive hr writing idle]
    obtain ⟨told, rest⟩ := storeSections_spec s.dev p q
    refine ⟨told, ?_, ?_, ?_⟩ <;> rw [rest]
  case wrongCrc =>
    exact answers_act (exec_safetyWritten crcs s) (safetyWritten_wrong alive hr writing idle wrong)

end Sys2Proof.Machine

end

section
/-! LAWS. Maps written in a row, and bits beyond others. -/

namespace Sys2Proof.Machine

/-! ### A row of writes of a sparse map -/

section
variable {α β : Type} [DecidableEq α] (df : Nat → α) (key : β → Nat) (val : β → α)

/-- A key that no write of the row names reads as before. -/
theorem sget_foldl_sput_outside {l : List β} {j : Nat} (out : ∀ b ∈ l, key b ≠ j) (m : List (Nat × α)) :
    sget df (l.foldl (fun m b => sput df m (key b) (val b)) m) j = sget df m j := by
  induction l generalizing m with
  | nil => rfl
  | cons b l ih =>
    rw [List.forall_mem_cons] at out
    rw [List.foldl_cons, ih out.2, sget_sput_other _ _ _ out.1.symm]

/-- Of a row of writes of different keys each is read back. -/
theorem sget_foldl_sput_inside {l : List β} (nodup : (l.map key).Nodup) {b : β} (mem : b ∈ l) (m : List (Nat × α)) :
    sget df (l.foldl (fun m b => sput df m (key b) (val b)) m) (key b) = val b := by
  obtain ⟨l₁, l₂, rfl⟩ := List.append_of_mem mem
  have later : ∀ c ∈ l₂, key c ≠ key b := fun c hc same => by
    rw [List.map_append, List.map_cons, List.nodup_append, List.nodup_cons] at nodup
    exact nodup.2.1.1 (same ▸ List.mem_map_of_mem hc)
  rw [List.foldl_append, List.foldl_cons, sget_foldl_sput_outside df key val later, sget_sput_same]

end

/-! ### Bits -/

theorem testBit_or (a b k : Nat) : testBit (a ||| b) k = (testBit a k || testBit b k) := by
  rw [testBit_eq, testBit_eq, testBit_eq, Nat.testBit_or]

/-- The bits of a number beyond those of another. -/
theorem testBit_bitsBeyond (a b k : Nat) : testBit (bitsBeyond a b) k = (testBit a k && !testBit b k) := by
  rw [testBit_eq, testBit_eq, testBit_eq]
  unfold bitsBeyond
  have within (a b : Nat) : a &&& b ≤ a := Nat.and_le_left
  induction k generalizing a b with
  | zero =>
    have common := Nat.and_mod_two_eq_one (a := a) (b := b)
    have := within a b
    simp only [Nat.testBit_zero, ← decide_not, ← Bool.decide_and, decide_eq_decide]
    omega
  | succ k ih =>
    have halves : (a - (a &&& b)) / 2 = a / 2 - (a / 2 &&& b / 2) := by
      have common := Nat.and_mod_two_eq_one (a := a) (b := b)
      have := within a b
      rw [← Nat.and_div_two]
      omega
    rw [Nat.testBit_succ, Nat.testBit_succ, Nat.testBit_succ, halves, ih]

end Sys2Proof.Machine

end

section
/-! LAWS. What driving the outputs changes (R27, R266, R272, R282 to R298): the functions' states, the pairs and the
encoders, the outputs and their minimum times, and the fields that show BLOCK on the gate links. -/

namespace Sys2Proof.Machine

/-! ### What stays -/

/-- The module without what driving the outputs changes. -/
def Dev.undriven (d : Dev) : Dev :=
  { d with
    regs := [], free := 0, evrec := { d.evrec with presented := [] }, loop := { d.loop with links := [] }
    safety := { d.safety with fns := [], pairs := [], enc := [], lastLock := (0, 0) }
    bridle := { d.bridle with outputs := 0, held := 0, demand := 0, darkEvents := [] } }

/-- The fields that show BLOCK on the twelve gate links (R245). -/
def blockFlds : List Fld :=
  (List.range 12).flatMap fun g => [R.GLINK_STATUS_BLOCK_ACTIVE g, R.GLINK_STATUS_BLOCK_SEEN g]

/-- The second module comes from the first one by driving outputs: nothing else has changed. -/
structure Dev.Drives (d e : Dev) : Prop where
  rest : e.undriven = d.undriven
  shown : OtherFields d e blockFlds

theorem mem_blockFlds {g : Nat} (hg : g < 12) :
    R.GLINK_STATUS_BLOCK_ACTIVE g ∈ blockFlds ∧ R.GLINK_STATUS_BLOCK_SEEN g ∈ blockFlds := by
  constructor <;> exact List.mem_flatMap.2 ⟨g, List.mem_range.2 hg, by simp⟩

namespace Dev.Drives

variable {d₀ d : Dev}

theorem refl : d.Drives d := ⟨rfl, otherFields_refl d _⟩

/-- A change that leaves the registers and the rest. -/
theorem same {e : Dev} (h : d₀.Drives d) (rest : e.undriven = d.undriven) (regs : e.regs = d.regs) : d₀.Drives e :=
  ⟨rest.trans h.rest, fun g hg => (Dev.rd_of_regs regs g).trans (h.shown g hg)⟩

theorem wr {f v} (h : d₀.Drives d) (hf : f ∈ blockFlds) : d₀.Drives (d.wr f v) := by
  have fits : ∀ f ∈ blockFlds, f.lo + f.wd ≤ 32 := by decide
  exact ⟨h.rest, fun g hg => (Dev.rd_wr_other d f g v (fits f hf) (hg f hf)).trans (h.shown g hg)⟩

/-- A part of the module that driving the outputs does not reach is as before. -/
theorem part_eq {α : Type} (h : d₀.Drives d) (part : Dev → α)
    (kept : ∀ x : Dev, part x.undriven = part x := by intro; rfl) : part d = part d₀ := by
  rw [← kept d, h.rest, kept d₀]

/-! ### Choices and repetitions -/

theorem ite {c : Prop} [Decidable c] {a b : Dev} (ha : d₀.Drives a) (hb : d₀.Drives b) :
    d₀.Drives (if c then a else b) := by
  split
  · exact ha
  · exact hb

theorem foldl {α : Type} {f : Dev → α → Dev} {l : List α} (h : d₀.Drives d)
    (hf : ∀ x, ∀ a ∈ l, d₀.Drives x → d₀.Drives (f x a)) : d₀.Drives (l.foldl f d) := by
  induction l generalizing d with
  | nil => exact h
  | cons a l ih => exact ih (hf d a List.mem_cons_self h) fun x b hb => hf x b (List.mem_cons_of_mem a hb)

theorem each {n f} (h : d₀.Drives d) (hf : ∀ k < n, ∀ x, d₀.Drives x → d₀.Drives (f k x)) : d₀.Drives (d.each n f) :=
  .foldl h fun x k hk hx => hf k (List.mem_range.1 hk) x hx

theorem when {c f} (h : d₀.Drives d) (hf : ∀ x, d₀.Drives x → d₀.Drives (f x)) : d₀.Drives (d.when c f) :=
  .ite (hf _ h) h

/-! ### Records, and the parts that are driven -/

theorem event {e src ps} (h : d₀.Drives d) : d₀.Drives (d.event e src ps) := h.same rfl rfl
theorem onLink {g f} (h : d₀.Drives d) : d₀.Drives (d.onLink g f) := h.same rfl rfl
theorem onFn {n f} (h : d₀.Drives d) : d₀.Drives (d.onFn n f) := h.same rfl rfl
theorem onPair {k f} (h : d₀.Drives d) : d₀.Drives (d.onPair k f) := h.same rfl rfl
theorem lastLock {x} (h : d₀.Drives d) : d₀.Drives (d.onSafety fun s => { s with lastLock := x }) := h.same rfl rfl
theorem onEnc {e f} (h : d₀.Drives d) : d₀.Drives (d.onEnc e f) := h.same rfl rfl

theorem setBlock {g b} (hg : g < 12) (h : d₀.Drives d) : d₀.Drives (d.setBlock g b) :=
  have ⟨active, seen⟩ := mem_blockFlds hg
  .ite h (.ite (.onLink (.wr (.wr h active) seen)) (.onLink (.wr h active)))

theorem driveOutputs {gl} (h : d₀.Drives d) : d₀.Drives (d.driveOutputs gl) :=
  .each (h.same rfl rfl) fun _ hg _ hx => .setBlock hg hx

theorem lockPair {k cause} (h : d₀.Drives d) : d₀.Drives (d.lockPair k cause) :=
  .ite h (.event (.foldl (.lastLock (.onPair h)) fun _ _ _ hx => .onFn hx))

theorem switchPair {k} (h : d₀.Drives d) : d₀.Drives (d.switchPair k) :=
  .ite h (.ite (.ite (.lockPair h) h) (.onPair h))

theorem driveSafety (h : d₀.Drives d) : d₀.Drives d.driveSafety :=
  .driveOutputs (.each (.each h fun _ _ _ hx => .switchPair hx) fun _ _ _ hx => .when hx fun _ hx => .onEnc hx)

/-! ### The safety functions -/

theorem monitorEncoders {mask} (h : d₀.Drives d) : d₀.Drives (d.monitorEncoders mask) :=
  .foldl h fun _ _ _ hx => .ite hx (.onEnc hx)

theorem demandFn {n} (h : d₀.Drives d) : d₀.Drives (d.demandFn n) :=
  .ite (.ite (.onFn h) h) (.onFn (.when h fun _ hx => .monitorEncoders hx))

theorem updateFn {n} (h : d₀.Drives d) : d₀.Drives (d.updateFn n) :=
  .ite h (.ite (.demandFn (.onFn h)) (.ite (.onFn (.onFn h)) (.onFn h)))

theorem updateFns (h : d₀.Drives d) : d₀.Drives d.updateFns :=
  .driveSafety (.each h fun _ _ _ hx => .updateFn hx)

end Dev.Drives

/-! ### What the outputs come to -/

theorem setBlock_bridle (d : Dev) (g : Nat) (b : Bool) : (d.setBlock g b).bridle = d.bridle := by
  unfold Dev.setBlock
  split
  · rfl
  · split <;> rfl

theorem each_setBlock_bridle (d : Dev) (n : Nat) (b : Nat → Bool) :
    (d.each n fun g d => d.setBlock g (b g)).bridle = d.bridle := by
  unfold Dev.each
  generalize List.range n = l
  induction l generalizing d with
  | nil => rfl
  | cons g l ih => rw [List.foldl_cons, ih, setBlock_bridle]

/-- What is called for is driven, and so is each output in its minimum time, a demand that begins among them (R272). -/
theorem driveOutputs_outputs (d : Dev) (gl : Nat) :
    (d.driveOutputs gl).bridle.outputs =
      d.bridleDemand gl ||| (d.bridle.held ||| bitsBeyond (d.bridleDemand gl) d.bridle.demand) := by
  unfold Dev.driveOutputs
  rw [each_setBlock_bridle]
  rfl

end Sys2Proof.Machine

end

section
/-! LAWS. The bridle's inputs, sampled and timed (O23). -/

namespace Sys2Proof.Machine

/-! ### The commands' meanings -/

theorem exec_comparatorCrossing (n : Fin 32) (v : Int) (s : State) :
    exec (.comparatorCrossing n v) s = s.act fun d => d.compare n.val (some (d.bridle.voltsAt n.val)) v := rfl
theorem exec_ftInputChange (ft : Fin 16) (high : Bool) (s : State) :
    exec (.ftInputChange ft high) s =
      s.act fun d => d.onBridle fun b => { b with ft := putBit b.ft ft.val high } := rfl
theorem exec_tripLineChange (line : Fin 6) (high : Bool) (s : State) :
    exec (.tripLineChange line high) s = execTripLineChange line high s := rfl
theorem exec_termDelayExpiry (n : Fin 64) (i : Fin 4) (s : State) :
    exec (.termDelayExpiry n i) s = execTermDelayExpiry n i s := rfl
theorem exec_outputHoldExpiry (out : Fin 32) (s : State) :
    exec (.outputHoldExpiry out) s = s.act fun d =>
      (d.onBridle fun b => { b with held := putBit b.held out.val false }).driveOutputs d.safetyBlock := rfl
theorem exec_bridleRefresh (s : State) : exec .bridleRefresh s = execBridleRefresh s := rfl
theorem exec_procLost (s : State) : exec .procLost s = s.act fun d =>
    if !d.lit || !d.bridle.checked then d
    else (d.onBridle fun b => { b with procLost := true }).enterDegraded := rfl
theorem exec_firstOutRearm (s : State) : exec .firstOutRearm s = s.act fun d =>
    if d.bridle.true_ = 0 ∧ d.bridle.outputs % 2 ^ 16 = 0 then d.onBridle fun b => { b with firstOut := none } else d := rfl

/-! ### Window comparators (R267) -/

/-- A voltage above the band of the point at which a signal rises asserts it. -/
theorem signalAfter_above {rise v : Int} (h : rise + 320000 < v) (now : Bool) (old : Option Int) (fall : Int)
    (free : Bool) : signalAfter now old v rise fall free = true := if_pos h

/-- A voltage below the band of the point at which a signal falls releases it. -/
theorem signalAfter_below {rise fall v : Int} (h : v < fall - 320000) (order : fall ≤ rise) (now : Bool)
    (old : Option Int) (free : Bool) : signalAfter now old v rise fall free = false := by
  rw [signalAfter, if_neg (by omega), if_pos h]

section
variable {d : Dev} {n m : Nat} {c : Comparator} (found : (d.bridle.params.getD {}).comps.find? (fun p => p.1 = n) = some (m, c))
  (old : Option Int) (v : Int)
include found

/-- The signal HI of a comparator that has parameters. -/
theorem testBit_compare_hi :
    testBit (d.compare n old v).bridle.compHi n =
      (c.hiEn && signalAfter (testBit d.bridle.compHi n) old v (codeVolts c.hi) (codeVolts c.hi - c.hyst * 78125)
        (Config.comparatorBand n true d.free)) := by
  simp only [Dev.compare, found, Option.elim_some, testBit_putBit, if_true]

/-- The signal LO, which a falling voltage asserts. -/
theorem testBit_compare_lo :
    testBit (d.compare n old v).bridle.compLo n =
      (c.loEn && signalAfter (testBit d.bridle.compLo n) (old.map (-·)) (-v) (-(codeVolts c.lo))
        (-(codeVolts c.lo + c.hyst * 78125)) (Config.comparatorBand n false d.free)) := by
  simp only [Dev.compare, found, Option.elim_some, testBit_putBit, if_true]

end

/-- A crossing changes the bridle and takes a free value; the signals of the other comparators are as before. -/
theorem compare_others (d : Dev) (n : Nat) (old : Option Int) (v : Int) :
    let e := d.compare n old v
    e = { d with bridle := e.bridle, free := d.free + 1 } ∧
      ∀ k, k ≠ n → testBit e.bridle.compHi k = testBit d.bridle.compHi k ∧
        testBit e.bridle.compLo k = testBit d.bridle.compLo k := by
  refine ⟨rfl, fun k hk => ?_⟩
  simp only [Dev.compare, testBit_putBit, if_neg hk, and_self]

/-! ### FT inputs, trip lines and presence lines (R33, R268) -/

/-- A change of a presence line of another device, before the lines and the poller are shown. -/
def Dev.presenceLine (d : Dev) (a high : Bool) : Dev :=
  let d := d.onBridle fun b => if a then { b with presA := high } else { b with presB := high }
  if d.partnerPresent then d else d.onBridle fun b => { b with missPresent := 0 }

theorem presenceLine_bridle (d : Dev) (a high : Bool) :
    (d.presenceLine a high).showPresence.showPoller.bridle.presA = (if a then high else d.bridle.presA) ∧
      (d.presenceLine a high).showPresence.showPoller.bridle.presB = if a then d.bridle.presB else high := by
  have kept (x : Dev) : let y := if x.partnerPresent then x else x.onBridle fun b => { b with missPresent := 0 }
      y.bridle.presA = x.bridle.presA ∧ y.bridle.presB = x.bridle.presB := by
    cases x.partnerPresent <;> exact ⟨rfl, rfl⟩
  cases a <;> exact kept _

theorem exec_tripLineChange_trip {line : Fin 6} (h : line.val < 4) (high : Bool) (s : State) :
    exec (.tripLineChange line high) s =
      s.act fun d => d.onBridle fun b => { b with lines := putBit b.lines line.val high } := by
  rw [exec_tripLineChange]
  unfold execTripLineChange
  simp only [if_pos h]

theorem exec_tripLineChange_presence {line : Fin 6} (h : ¬line.val < 4) (high : Bool) (s : State) :
    exec (.tripLineChange line high) s =
      s.act fun d => (d.presenceLine (line.val = 4) high).showPresence.showPoller := by
  rw [exec_tripLineChange]
  unfold execTripLineChange Dev.presenceLine
  simp only [if_neg h, decide_eq_true_eq]

/-! ### The delay of a term (R270) -/

/-- The samples that one evaluation of an equation writes: each term's key and its count. -/
def termCounts (b : BridleSt) (n : Nat) (e : Equation) : List (Nat × Nat) :=
  ((List.range e.terms.length).zip e.terms).map fun p =>
    (n * 4 + p.1, if p.2.en then b.sampleTerm (n * 4 + p.1) p.2 else 0)

theorem evalEquation_terms (b : BridleSt) (n : Nat) (e : Equation) (out : BridleSt) :
    (evalEquation b n e out).terms = (termCounts b n e).foldl (fun m c => sput (fun _ => 0) m c.1 c.2) out.terms := rfl

theorem termCounts_keys (b : BridleSt) (n : Nat) (e : Equation) :
    (termCounts b n e).map Prod.fst = (List.range e.terms.length).map (n * 4 + ·) := by
  have places : ((List.range e.terms.length).zip e.terms).map Prod.fst = List.range e.terms.length :=
    List.map_fst_zip (by simp)
  conv_rhs => rw [← places, List.map_map]
  rw [termCounts, List.map_map]
  rfl

/-- An equation writes the counts of its own terms only. -/
theorem evalEquation_terms_other {b out : BridleSt} {n j : Nat} {e : Equation} (four : e.terms.length = 4)
    (other : j / 4 ≠ n) : sget (fun _ => 0) (evalEquation b n e out).terms j = sget (fun _ => 0) out.terms j := by
  rw [evalEquation_terms]
  refine sget_foldl_sput_outside _ _ _ (fun c hc same => ?_) _
  have key := List.mem_map_of_mem (f := Prod.fst) hc
  rw [termCounts_keys, four, same] at key
  obtain ⟨i, hi, rfl⟩ := List.mem_map.1 key
  rw [List.mem_range] at hi
  omega

/-- An enabled term counts its sample. -/
theorem evalEquation_terms_own {b out : BridleSt} {n i : Nat} {e : Equation} {t : Term} (ht : e.terms[i]? = some t)
    (en : t.en = true) :
    sget (fun _ => 0) (evalEquation b n e out).terms (n * 4 + i) = b.sampleTerm (n * 4 + i) t := by
  obtain ⟨hi, rfl⟩ := List.getElem?_eq_some_iff.1 ht
  have listed : (n * 4 + i, b.sampleTerm (n * 4 + i) e.terms[i]) ∈ termCounts b n e := by
    refine List.mem_map.2 ⟨(i, e.terms[i]), List.mem_iff_getElem.2 ⟨i, by simpa using hi, by simp⟩, by simp [en]⟩
  have nodup : ((termCounts b n e).map Prod.fst).Nodup := by
    rw [termCounts_keys]
    exact List.nodup_range.map fun x y h => by simpa using h
  rw [evalEquation_terms]
  exact sget_foldl_sput_inside _ Prod.fst Prod.snd nodup listed _

/-- One cycle of every equation counts the sample of each enabled term (R270). -/
theorem evaluate_terms {b : BridleSt} {p : ProtectImg} {n i : Nat} {e : Equation} {t : Term}
    (hp : b.params = some p) (runs : b.evaluates = true) (nodup : (p.eqs.map (·.1)).Nodup)
    (four : ∀ q ∈ p.eqs, q.2.terms.length = 4) (mem : (n, e) ∈ p.eqs) (ht : e.terms[i]? = some t) (en : t.en = true) :
    sget (fun _ => 0) b.evaluate.terms (n * 4 + i) = b.sampleTerm (n * 4 + i) t := by
  have few : i < 4 := by
    obtain ⟨hi, -⟩ := List.getElem?_eq_some_iff.1 ht
    exact four _ mem ▸ hi
  have others : ∀ (l : List (Nat × Equation)) (out : BridleSt), (∀ q ∈ l, q.2.terms.length = 4 ∧ q.1 ≠ n) →
      sget (fun _ => 0) (l.foldl (fun out q => evalEquation b q.1 q.2 out) out).terms (n * 4 + i) =
        sget (fun _ => 0) out.terms (n * 4 + i) := by
    intro l
    induction l with
    | nil => exact fun _ _ => rfl
    | cons q l ih =>
      intro out hl
      rw [List.forall_mem_cons] at hl
      rw [List.foldl_cons, ih _ hl.2, evalEquation_terms_other hl.1.1 (by omega)]
  obtain ⟨l₁, l₂, split⟩ := List.append_of_mem mem
  have later : ∀ q ∈ l₂, q.2.terms.length = 4 ∧ q.1 ≠ n := by
    rw [split, List.map_append, List.map_cons, List.nodup_append, List.nodup_cons] at nodup
    refine fun q hq => ⟨four q (by rw [split]; simp [hq]), fun same => nodup.2.1.1 (List.mem_map.2 ⟨q, hq, same⟩)⟩
  simp only [BridleSt.evaluate, hp, runs, if_true]
  rw [split, List.foldl_append, List.foldl_cons, others l₂ _ later, evalEquation_terms_own ht en]

/-- New trips are recorded beside the samples of the terms. -/
theorem noteTrips_terms (d : Dev) (before : Nat) : (d.noteTrips before).bridle.terms = d.bridle.terms := by
  unfold Dev.noteTrips
  have told (x : Dev) (l : List Nat) : x.Drives (l.foldl (fun d n => d.event .trip (source 10 n) [w32 n]) x) :=
    .foldl .refl fun _ _ _ hx => .event hx
  exact (told _ _).part_eq (·.bridle.terms)

theorem bridleCycle_terms (d : Dev) : d.bridleCycle.bridle.terms = d.bridle.evaluate.terms := by
  unfold Dev.bridleCycle
  rw [(Dev.Drives.driveOutputs .refl).part_eq (·.bridle.terms), noteTrips_terms]
  rfl

/-- The bridle as the end of a term's delay leaves it before the cycle that follows. -/
def BridleSt.delayEnds (b : BridleSt) (key : Nat) (t : Term) : BridleSt :=
  { b with terms := sput (fun _ => 0) b.terms key t.delay }

/-- The next sample of a term whose source is asserted is the one after its delay. -/
theorem sampleTerm_delayEnds {b : BridleSt} {t : Term} (asserted : b.source t.src ≠ t.inv) (key : Nat) :
    (b.delayEnds key t).sampleTerm key t = t.delay + 1 := by
  have source : (b.delayEnds key t).source t.src = b.source t.src := rfl
  have count : sget (fun _ => 0) (b.delayEnds key t).terms key = t.delay := sget_sput_same _ _ _ _
  rw [BridleSt.sampleTerm, source, count, if_pos (by simpa using asserted), min_self]

theorem exec_termDelayExpiry_asserted {s : State} {p : ProtectImg} {n : Fin 64} {i : Fin 4} {e : Equation} {t : Term}
    (lit : s.dev.lit = true) (hp : s.dev.bridle.params = some p) (runs : s.dev.bridle.evaluates = true)
    (he : oget p.eqs n.val = some e) (ht : e.terms[i.val]? = some t) (en : t.en = true)
    (asserted : s.dev.bridle.source t.src ≠ t.inv) :
    exec (.termDelayExpiry n i) s = .next { s with dev :=
      (s.dev.onBridle fun b => b.delayEnds (n.val * 4 + i.val) t).bridleCycle } := by
  simp only [exec_termDelayExpiry, execTermDelayExpiry, State.act, hp, Option.getD_some, he, ht, lit, en, runs,
    Bool.and_self, Bool.true_and, bne_iff_ne, ne_eq, asserted, not_false_eq_true, if_true]
  rfl

/-! ### The minimum time of an output (R272) -/

/-- An output whose minimum time has ended follows the demand. -/
theorem testBit_driveOutputs {d : Dev} {k : Nat} (free : testBit d.bridle.held k = false) (gl : Nat) :
    testBit (d.driveOutputs gl).bridle.outputs k = testBit (d.bridleDemand gl) k := by
  rw [driveOutputs_outputs, testBit_or, testBit_or, testBit_bitsBeyond, free]
  cases testBit (d.bridleDemand gl) k <;> rfl

/-! ### The processor channel (R269, R303) -/

/-- The bridle's inputs as a refresh in a role that runs cycles brings them. -/
def Dev.refreshed (d : Dev) : Dev := d.onBridle fun b =>
  { b with pt := d.outWord .trip 2, permit := w32 (d.outWord .permit 4), loopRequests := d.loopRequests, procLost := false }

theorem exec_bridleRefresh_runs {s : State} (lit : s.dev.lit = true) (checked : s.dev.bridle.checked = true)
    (runs : s.dev.role.runs = true) :
    exec .bridleRefresh s = .next { s with dev := s.dev.refreshed.driveSafety } := by
  simp only [exec_bridleRefresh, execBridleRefresh, State.act, lit, checked, runs, Bool.not_true, Bool.or_self,
    Bool.false_eq_true, if_false, if_true]
  rfl

/-- Degraded mode as it begins, with its record. -/
def Dev.degradedNow (d : Dev) : Dev :=
  (d.onSafety fun s => { s with degraded := true, degradedAt := d.now, warned := false, lapsed := false }).event
    .safeDegraded (source 0 0)

theorem enterDegraded_begins {d : Dev} (running : d.bridle.running = true) (before : d.safety.degraded = false) :
    d.enterDegraded = d.degradedNow.driveSafety := by
  rw [Dev.enterDegraded, if_neg (by simp [running, before])]
  rfl

/-! ### The obligation -/

/-- Settles O23: each input puts its own bit, and what the bridle's outputs come to leaves the inputs and the samples. -/
theorem bridleInputsChangeTheirOwnBits : Obligations.BridleInputsChangeTheirOwnBits := by
  unfold Obligations.BridleInputsChangeTheirOwnBits
  refine ⟨fun s n v ft high line m c => ⟨fun found => ?comparator, ?ft, fun trip => ?trip, fun a => ?presenceA,
    fun b => ?presenceB⟩, fun s p n i e t out lit => ⟨fun hp runs nodup four mem he ht en asserted => ?delay, ?hold,
    fun checked runs => ?refresh, fun checked running before => ?lost, fun idle dark => ?rearm⟩⟩
  case comparator =>
    have order : (0 : Int) ≤ c.hyst * 78125 := by positivity
    obtain ⟨rest, others⟩ := compare_others s.dev n.val (some (s.dev.bridle.voltsAt n.val)) v
    have hi := testBit_compare_hi found (some (s.dev.bridle.voltsAt n.val)) v
    have lo := testBit_compare_lo found (some (s.dev.bridle.voltsAt n.val)) v
    refine ⟨fun en above => ?_, fun below => ?_, fun en below => ?_, fun above => ?_⟩
    all_goals refine answers_act (exec_comparatorCrossing n v s) ⟨?_, rest, others⟩
    · exact hi.trans (by rw [en, signalAfter_above above, Bool.true_and])
    · exact hi.trans (by rw [signalAfter_below below (by omega), Bool.and_false])
    · exact lo.trans (by rw [en, signalAfter_above (by omega), Bool.true_and])
    · exact lo.trans (by rw [signalAfter_below (by omega) (by omega), Bool.and_false])
  case ft => exact answers_act (exec_ftInputChange ft high s) ⟨rfl, fun k => testBit_putBit _ _ _ _⟩
  case trip => exact answers_act (exec_tripLineChange_trip trip high s) ⟨rfl, fun k => testBit_putBit _ _ _ _⟩
  case presenceA =>
    refine answers_act (exec_tripLineChange_presence (by omega) high s) ?_
    simpa [a] using presenceLine_bridle s.dev true high
  case presenceB =>
    refine answers_act (exec_tripLineChange_presence (by omega) high s) ?_
    simpa [b] using (presenceLine_bridle s.dev false high).symm
  case delay =>
    refine ⟨_, exec_termDelayExpiry_asserted lit hp runs he ht en asserted, ?_⟩
    beta_reduce
    rw [bridleCycle_terms]
    exact (evaluate_terms (b := s.dev.bridle.delayEnds _ t) hp runs nodup (fun q hq => (four q hq).2) mem ht en).trans
      (sampleTerm_delayEnds asserted _)
  case hold =>
    refine answers_act (exec_outputHoldExpiry out s) ⟨?_, (Dev.Drives.driveOutputs .refl).part_eq (·.bridle.true_)⟩
    have free : testBit (putBit s.dev.bridle.held out.val false) out.val = false := by
      rw [testBit_putBit, if_pos rfl]
    exact testBit_driveOutputs free _
  case refresh =>
    have kept := Dev.Drives.driveSafety (.refl (d := s.dev.refreshed))
    exact ⟨_, exec_bridleRefresh_runs lit checked runs, kept.part_eq (·.bridle.pt), kept.part_eq (·.bridle.permit),
      kept.part_eq (·.bridle.loopRequests), kept.part_eq (·.bridle.procLost)⟩
  case lost =>
    let lost := s.dev.onBridle fun b => { b with procLost := true }
    have kept := Dev.Drives.driveSafety (.refl (d := lost.degradedNow))
    have told : Presents s.dev lost.degradedNow [(.safeDegraded, source 0 0)] := ⟨_, rfl, rfl⟩
    refine answers_act (exec_procLost s) ?_
    rw [if_neg (by simp [lit, checked]), enterDegraded_begins (d := lost) running before]
    exact ⟨kept.part_eq (·.bridle.procLost), kept.part_eq (·.safety.degraded), kept.part_eq (·.safety.degradedAt),
      (Dev.Stays.driveSafety .refl).presents told⟩
  case rearm =>
    refine answers_act (exec_firstOutRearm s) ?_
    rw [if_pos ⟨idle, dark⟩]
    rfl

end Sys2Proof.Machine

end

section
/-! LAWS. What a start and a change of role leave of the power record, the counter, the firmware that runs and
`MOD.POWER`. One law for each function of the model that they come to. -/

namespace Sys2Proof.Machine

/-! ### What stays -/

/-- The power record, the counter, the firmware that runs, and the word of `MOD.POWER` (R67). -/
structure Supply where
  power : PowerSt
  counter : DWord
  firmware : Nat
  shown : Word

/-- The supply of a module. -/
def Dev.supply (d : Dev) : Supply where
  power := d.power
  counter := d.time.counter
  firmware := d.trust.fwRunning
  shown := d.word 0x88

/-- A second module's supply is the first one's. -/
def Dev.KeepsSupply (d e : Dev) : Prop := e.supply = d.supply

/-- A field of an array of registers that lies above `MOD.POWER`. -/
theorem ne_power_of_above {base stride n : Nat} (h : 0x88 < base) : base + n * stride ≠ 0x88 := by omega

theorem lostFld_ne_power (k : Nat) : (lostFld k).off ≠ 0x88 := ne_power_of_above (by decide)

namespace Dev.KeepsSupply

variable {d₀ d : Dev}

theorem refl : d.KeepsSupply d := rfl

theorem power_eq (h : d₀.KeepsSupply d) : d.power = d₀.power := congrArg Supply.power h
theorem counter_eq (h : d₀.KeepsSupply d) : d.time.counter = d₀.time.counter := congrArg Supply.counter h
theorem firmware_eq (h : d₀.KeepsSupply d) : d.trust.fwRunning = d₀.trust.fwRunning := congrArg Supply.firmware h

/-- The fields of `MOD.POWER` read as before. -/
theorem rd_eq (h : d₀.KeepsSupply d) {f : Fld} (hf : f.off = 0x88) : d.rd f = d₀.rd f := by
  have shown : d.word 0x88 = d₀.word 0x88 := congrArg Supply.shown h
  unfold Dev.rd
  rw [hf, shown]

/-- A change that leaves all of it. -/
theorem same {e : Dev} (h : d₀.KeepsSupply d) (w : e.supply = d.supply) : d₀.KeepsSupply e := Eq.trans w h

/-- Driving the outputs leaves it. -/
theorem drives {e : Dev} (h : d₀.KeepsSupply d) (k : d.Drives e) : d₀.KeepsSupply e := by
  have shown : e.word 0x88 = d.word 0x88 := BitVec.eq_of_toNat_eq (by
    have word (x : Dev) : x.rd ⟨0x88, 0, 32⟩ = (x.word 0x88).toNat := by
      rw [Dev.rd, pow_zero, Nat.div_one, Nat.mod_eq_of_lt (x.word 0x88).isLt]
    rw [← word, ← word]
    exact k.shown _ (by decide))
  refine h.same ?_
  simp only [Dev.supply, shown, k.part_eq (·.power), k.part_eq (·.time), k.part_eq (·.trust)]

/-! ### Choices and repetitions -/

theorem ite {c : Prop} [Decidable c] {a b : Dev} (ha : d₀.KeepsSupply a) (hb : d₀.KeepsSupply b) :
    d₀.KeepsSupply (if c then a else b) := by
  split
  · exact ha
  · exact hb

theorem foldl {α : Type} {f : Dev → α → Dev} {l : List α} (h : d₀.KeepsSupply d)
    (hf : ∀ x a, d₀.KeepsSupply x → d₀.KeepsSupply (f x a)) : d₀.KeepsSupply (l.foldl f d) := by
  induction l generalizing d with
  | nil => exact h
  | cons a l ih => exact ih (hf d a h)

theorem each {n f} (h : d₀.KeepsSupply d) (hf : ∀ k x, d₀.KeepsSupply x → d₀.KeepsSupply (f k x)) :
    d₀.KeepsSupply (d.each n f) :=
  .foldl h fun _ _ hx => hf _ _ hx

/-! ### Fields, records and parts of the module -/

theorem wr {f v} (h : d₀.KeepsSupply d) (hf : f.off ≠ 0x88 := by decide) : d₀.KeepsSupply (d.wr f v) :=
  h.same (by simp only [Dev.supply, Dev.word_wr_other d f v hf.symm, Dev.wr_power, Dev.wr_time, Dev.wr_trust])

theorem raise {f} (h : d₀.KeepsSupply d) (hf : f.off ≠ 0x88 := by decide) : d₀.KeepsSupply (d.raise f) := .wr h hf
theorem drop {f} (h : d₀.KeepsSupply d) (hf : f.off ≠ 0x88 := by decide) : d₀.KeepsSupply (d.drop f) := .wr h hf
theorem flag {f b} (h : d₀.KeepsSupply d) (hf : f.off ≠ 0x88 := by decide) : d₀.KeepsSupply (d.flag f b) := .wr h hf
theorem wrSat {f v} (h : d₀.KeepsSupply d) (hf : f.off ≠ 0x88 := by decide) : d₀.KeepsSupply (d.wrSat f v) := .wr h hf
theorem addSat {f k} (h : d₀.KeepsSupply d) (hf : f.off ≠ 0x88 := by decide) : d₀.KeepsSupply (d.addSat f k) := .wr h hf
theorem incSat {f} (h : d₀.KeepsSupply d) (hf : f.off ≠ 0x88 := by decide) : d₀.KeepsSupply (d.incSat f) := .wr h hf
theorem incWrap {f} (h : d₀.KeepsSupply d) (hf : f.off ≠ 0x88 := by decide) : d₀.KeepsSupply (d.incWrap f) := .wr h hf
theorem wr64 {lo hi v} (h : d₀.KeepsSupply d) (hl : lo.off ≠ 0x88 := by decide) (hh : hi.off ≠ 0x88 := by decide) :
    d₀.KeepsSupply (d.wr64 lo hi v) := .wr (.wr h hl) hh

theorem clear {fs : List Fld} (h : d₀.KeepsSupply d) (hf : ∀ f ∈ fs, f.off ≠ 0x88 := by decide) :
    d₀.KeepsSupply (d.clear fs) := by
  induction fs generalizing d with
  | nil => exact h
  | cons f fs ih => exact ih (.drop h (hf f List.mem_cons_self)) fun g hg => hf g (List.mem_cons_of_mem f hg)

/-- Both modules with a field of `MOD.POWER` written. -/
theorem wrShown {f v} (h : d₀.KeepsSupply d) (hf : f.off = 0x88 := by rfl) : (d₀.wr f v).KeepsSupply (d.wr f v) := by
  have wrote (x : Dev) : (x.wr f v).supply = { x.supply with shown := setField x.supply.shown f v } := by
    have word := x.word_wr_same f v
    rw [hf] at word
    rw [Dev.supply, word]
    rfl
  show (d.wr f v).supply = (d₀.wr f v).supply
  rw [wrote, wrote, show d.supply = d₀.supply from h]

/-- Both modules with the power record changed. -/
theorem onPower {f} (h : d₀.KeepsSupply d) : (d₀.onPower f).KeepsSupply (d.onPower f) := by
  have changed (x : Dev) : (x.onPower f).supply = { x.supply with power := f x.supply.power } := rfl
  show (d.onPower f).supply = (d₀.onPower f).supply
  rw [changed, changed, show d.supply = d₀.supply from h]

theorem event {e src ps} (h : d₀.KeepsSupply d) : d₀.KeepsSupply (d.event e src ps) := h
theorem eventM {e ps} (h : d₀.KeepsSupply d) : d₀.KeepsSupply (d.eventM e ps) := h
theorem withRole {x} (h : d₀.KeepsSupply d) : d₀.KeepsSupply { d with role := x } := h
theorem withEvrec {x} (h : d₀.KeepsSupply d) : d₀.KeepsSupply { d with evrec := x } := h
theorem withHrn {x} (h : d₀.KeepsSupply d) : d₀.KeepsSupply { d with hrn := x } := h
theorem withCycle {x} (h : d₀.KeepsSupply d) : d₀.KeepsSupply { d with cycle := x } := h
theorem withLoop {x} (h : d₀.KeepsSupply d) : d₀.KeepsSupply { d with loop := x } := h
theorem withTwin {x} (h : d₀.KeepsSupply d) : d₀.KeepsSupply { d with twin := x } := h
theorem onSlot {k f} (h : d₀.KeepsSupply d) : d₀.KeepsSupply (d.onSlot k f) := h
theorem onBridle {f} (h : d₀.KeepsSupply d) : d₀.KeepsSupply (d.onBridle f) := h
theorem onSafety {f} (h : d₀.KeepsSupply d) : d₀.KeepsSupply (d.onSafety f) := h
theorem onIo {f} (h : d₀.KeepsSupply d) : d₀.KeepsSupply (d.onIo f) := h
theorem onAo {n f} (h : d₀.KeepsSupply d) : d₀.KeepsSupply (d.onAo n f) := h
theorem onPort {n f} (h : d₀.KeepsSupply d) : d₀.KeepsSupply (d.onPort n f) := h
theorem onLife {f} (h : d₀.KeepsSupply d) : d₀.KeepsSupply (d.onLife f) := h
theorem updateFns (h : d₀.KeepsSupply d) : d₀.KeepsSupply d.updateFns := h.drives (.updateFns .refl)

/-- A change of the time base that leaves the counter. -/
theorem onTime {f} (h : d₀.KeepsSupply d) (hc : (f d.time).counter = d.time.counter := by rfl) :
    d₀.KeepsSupply (d.onTime f) :=
  h.same (by simp only [Dev.supply, Dev.onTime, hc]; rfl)

/-! ### The loop engine, the bridle and the safety functions at a change of role (R259, R260, R284, R288) -/

theorem awlAbort (h : d₀.KeepsSupply d) : d₀.KeepsSupply d.awlAbort :=
  .ite (.wr (.raise (.withLoop (.drop h)))) h

theorem setSlotState {k v} (h : d₀.KeepsSupply d) : d₀.KeepsSupply (d.setSlotState k v) :=
  .wr h (ne_power_of_above (by decide))

theorem slotEnters {i} (h : d₀.KeepsSupply d) : d₀.KeepsSupply (d.slotEnters i) :=
  .ite (.onSlot h) (.setSlotState (.onSlot h))

theorem slotLeaves {k} (h : d₀.KeepsSupply d) : d₀.KeepsSupply (d.slotLeaves k) :=
  .ite (.onSlot h) (.setSlotState (.onSlot h))

theorem loopRole {prev new} (h : d₀.KeepsSupply d) : d₀.KeepsSupply (d.loopRole prev new) := by
  unfold Dev.loopRole
  extract_lets +onlyGivenNames d1
  have h1 : d₀.KeepsSupply d1 := .awlAbort h
  split
  · exact h1
  · exact .ite (.foldl h1 fun _ _ hx => .slotEnters hx) (.ite (.withLoop (.foldl h1 fun _ _ hx => .slotLeaves hx)) h1)

theorem compare {n old v} (h : d₀.KeepsSupply d) : d₀.KeepsSupply (d.compare n old v) := h

theorem showPresence (h : d₀.KeepsSupply d) : d₀.KeepsSupply d.showPresence := .flag (.flag h)

theorem takeProtect (h : d₀.KeepsSupply d) : d₀.KeepsSupply d.takeProtect :=
  .onBridle (.showPresence (.each (.onBridle h) fun _ _ hx => .compare hx))

theorem takeSafety (h : d₀.KeepsSupply d) : d₀.KeepsSupply d.takeSafety := .updateFns (.onSafety h)

theorem leaveMaint (h : d₀.KeepsSupply d) : d₀.KeepsSupply d.leaveMaint := .takeSafety (.ite h (.takeProtect h))

theorem safetyRole {prev new} (h : d₀.KeepsSupply d) : d₀.KeepsSupply (d.safetyRole prev new) := by
  unfold Dev.safetyRole
  extract_lets +onlyGivenNames d1 d2
  have h1 : d₀.KeepsSupply d1 := .ite (.onSafety h) h
  have h2 : d₀.KeepsSupply d2 := .ite h1 (.onBridle h1)
  exact .ite (.leaveMaint h2) (.updateFns h2)

/-! ### Local I/O and the CAN ports at a change of role (R398, R416) -/

theorem finishRequest {k client id s body} (h : d₀.KeepsSupply d) :
    d₀.KeepsSupply (d.finishRequest k client id s body) := by
  unfold Dev.finishRequest
  split
  · exact h
  · exact (h.incWrap : d₀.KeepsSupply (d.incWrap R.SEC_REQUESTS))

theorem showDio (h : d₀.KeepsSupply d) : d₀.KeepsSupply d.showDio := by
  unfold Dev.showDio
  extract_lets +onlyGivenNames _ _ _ d1
  have h1 : d₀.KeepsSupply d1 := .flag (.flag (.onIo h))
  exact .ite (.event (.wr (.incSat (.raise h1)))) h1

theorem aoShow {n} (h : d₀.KeepsSupply d) : d₀.KeepsSupply (d.aoShow n) :=
  .wr (.ite h (.onAo (.wr h (ne_power_of_above (by decide))))) (ne_power_of_above (by decide))

theorem aoShowAll (h : d₀.KeepsSupply d) : d₀.KeepsSupply d.aoShowAll := .each h fun _ _ hx => .aoShow hx

theorem ioRole {prev new} (h : d₀.KeepsSupply d) : d₀.KeepsSupply (d.ioRole prev new) := by
  unfold Dev.ioRole
  extract_lets +onlyGivenNames d0 d1 d2 d3
  have h0 : d₀.KeepsSupply d0 := .flag h
  have h1 : d₀.KeepsSupply d1 := .ite (.each h0 fun _ _ hx => .foldl (.onAo hx) fun _ _ hx => .finishRequest hx) h0
  have h2 : d₀.KeepsSupply d2 := .ite (.each h1 fun _ _ hx => .onAo hx) h1
  have h3 : d₀.KeepsSupply d3 := .ite h2 (.onIo h2)
  exact .aoShowAll (.showDio h3)

theorem canEndAttempt {n} (h : d₀.KeepsSupply d) : d₀.KeepsSupply (d.canEndAttempt n) := .onPort h

theorem canRole {prev new} (h : d₀.KeepsSupply d) : d₀.KeepsSupply (d.canRole prev new) := by
  unfold Dev.canRole
  refine .each h fun _ _ hx => ?_
  extract_lets +onlyGivenNames d1 d2
  have h1 : d₀.KeepsSupply d1 := .ite hx (.canEndAttempt hx)
  have h2 : d₀.KeepsSupply d2 := .ite (.drop h1 (ne_power_of_above (by decide))) h1
  exact .ite (.addSat h2 (ne_power_of_above (by decide))) h2

end Dev.KeepsSupply

/-! ### Changes of role (R45, R46, R486) -/

/-- What entering a role changes of the power record: the fault's light, and the pins of a role that runs no cycles. -/
def PowerSt.enters (p : PowerSt) (r : Role) : PowerSt :=
  { p with faultStop := p.faultStop && r == Role.stopped, pinRole := if r.runs then p.pinRole else r }

/-- What going to STOPPED or SAFETY_MAINT changes of it besides: the waits of the start end. -/
def PowerSt.stopsWaiting (p : PowerSt) : PowerSt := { p with start := { p.start with listening := false, waitingA := false } }

/-- Writes that wait for a boundary, with none waiting. -/
theorem applyStaged_idle {d : Dev} (h : d.mgmt.staged = []) : d.applyStaged = d := by
  unfold Dev.applyStaged
  rw [h]
  show { d with mgmt := { d.mgmt with staged := [] } } = d
  rw [← h]

/-- A module that goes to STOPPED or SAFETY_MAINT, before its waits end and the writes that wait are applied. -/
def Dev.leaving (d : Dev) (r : Role) : Dev :=
  ((d.stopCycles.setRole r).drop R.DIO_STATUS_GROUPS).clear
    [R.CYCLE_STATUS_FALLBACK, R.CYCLE_STATUS_RETURNING, R.CYCLE_STATUS_FORCED, R.CYCLE_STATUS_OVER_COUNT]

theorem leaveTo_settled {d : Dev} (h : d.mgmt.staged = []) (r : Role) :
    d.leaveTo r = (d.leaving r).onPower PowerSt.stopsWaiting := by
  have stays : Dev.Stays { d.stopCycles with role := r } (d.leaving r) := .clear (.drop (.setRole .refl))
  have goes : d.leaveTo r = ((d.leaving r).onPower PowerSt.stopsWaiting).applyStaged := rfl
  rw [goes, applyStaged_idle (d := (d.leaving r).onPower _) (stays.staged_eq.trans h)]

/-- A module that has not committed goes to STOPPED after a fault. -/
theorem goStopped_leaves {d : Dev} (hr : d.role ≠ .stopped) (hc : d.committed = false) :
    d.goStopped = (d.onPower fun p => { p with faultStop := true }).leaveTo .stopped := by
  have goes : ¬(d.role = .stopped || d.committed) := by simp [hr, hc]
  exact if_neg goes

/-- In STOPPED a fault changes the light only. -/
theorem goStopped_stopped {d : Dev} (hr : d.role = .stopped) :
    d.goStopped = d.onPower fun p => { p with faultStop := true } := by
  have stays : (d.role = .stopped || d.committed) := by simp [hr]
  exact if_pos stays

namespace Dev.KeepsSupply

variable {d₀ d : Dev}

theorem setRole {r} (h : d₀.KeepsSupply d) : (d₀.onPower (·.enters r)).KeepsSupply (d.setRole r) := by
  have shown : d₀.KeepsSupply (({ d.wr64 R.TWIN_TAKE_T_LO R.TWIN_TAKE_T_HI d.timeT with role := r }).setCause 5
      (r != Role.standby)) := .flag (.wr (.withTwin (.withRole (.wr64 h))))
  exact .canRole (.ioRole (.safetyRole (.loopRole shown.onPower)))

theorem leaveTo {r} (h : d₀.KeepsSupply d) (hs : d.mgmt.staged = []) :
    ((d₀.onPower (·.enters r)).onPower PowerSt.stopsWaiting).KeepsSupply (d.leaveTo r) := by
  rw [leaveTo_settled hs]
  exact .onPower (.clear (.drop (.setRole (d := d.stopCycles) h)))

/-! ### What a start restores and shows (R58, R365, R432, R466, R477) -/

theorem reerase (h : d₀.KeepsSupply d) : d₀.KeepsSupply d.reerase := by
  unfold Dev.reerase
  extract_lets +onlyGivenNames _ d1
  have h1 : d₀.KeepsSupply d1 := by
    refine .foldl h fun _ _ hx => ?_
    extract_lets +onlyGivenNames _ d2 _ d3 _ d4
    have h2 : d₀.KeepsSupply d2 := by
      unfold d2
      split
      · exact .withHrn hx
      · exact hx
    have h3 : d₀.KeepsSupply d3 := by
      unfold d3
      split
      · split
        · exact .withCycle h2
        · exact h2
      · exact h2
    have h4 : d₀.KeepsSupply d4 := .withEvrec h3
    exact .onLife (.ite (.onLife h4) (.ite (.onLife h4) h4))
  exact .wrSat (.wrSat (.flag (.wrSat (.addSat (.onLife h1)))))

theorem showRing (h : d₀.KeepsSupply d) : d₀.KeepsSupply d.showRing := .wr (.flag (.wr h))

theorem restoreRing (h : d₀.KeepsSupply d) : d₀.KeepsSupply d.restoreRing :=
  .showRing (.raise (.wrSat (.wrSat (.wr (.foldl (.withEvrec h) fun _ k hx => .wr hx (lostFld_ne_power k))))))

theorem refState (h : d₀.KeepsSupply d) : d₀.KeepsSupply d.refState := .ite (.wr h) h

theorem restartTime {powerUp} (h : d₀.KeepsSupply d) : d₀.KeepsSupply (d.restartTime powerUp) :=
  .event (.incWrap (.refState (.wr (.raise (.clear (.onTime h))))))

theorem showTrust (h : d₀.KeepsSupply d) : d₀.KeepsSupply d.showTrust := by
  have arrays (b : Nat) (above : 0x88 < b) (k : Nat) : b + k * 0x4 ≠ 0x88 := ne_power_of_above above
  exact .each (.wr64 (.flag (.wr (.wr (.wr (.wr (.wr (.wr (.each (.wr (.flag (.flag (.flag h)))) fun k _ hx =>
    .wr (.wr hx (arrays _ (by decide) k)) (arrays _ (by decide) k)))))))))) fun k _ hx => .wr hx (arrays _ (by decide) k)

theorem showVersion (h : d₀.KeepsSupply d) : d₀.KeepsSupply d.showVersion := .wr (.wr (.wr h))

theorem showRepair (h : d₀.KeepsSupply d) : d₀.KeepsSupply d.showRepair := by
  have rows (b : Nat) (above : 0x88 < b) (k : Nat) : b + k * 0x10 ≠ 0x88 := ne_power_of_above above
  unfold Dev.showRepair
  extract_lets +onlyGivenNames _ _ _ _ _
  refine .each (.wrSat (.wr (.wr (.flag h)))) fun k _ hx => ?_
  have tile := rows 0x900040 (by decide) k
  have soft := rows 0x900044 (by decide) k
  have fuse := rows 0x900048 (by decide) k
  have worst := rows 0x90004C (by decide) k
  extract_lets +onlyGivenNames _ _ _ _ _ _ _ d1
  have h1 : d₀.KeepsSupply d1 := .wrSat (.wrSat (.wrSat (.wrSat (.flag (.flag (.wr (.wr hx tile) tile) tile) tile)
    soft) soft) fuse) fuse
  split
  · exact .wrSat (.wrSat (.wr (.wr h1 worst) worst) worst) worst
  · exact .clear h1 (by simp only [List.forall_mem_cons]; exact ⟨worst, worst, worst, worst, nofun⟩)

theorem showSeal (h : d₀.KeepsSupply d) : d₀.KeepsSupply d.showSeal := by
  unfold Dev.showSeal
  split
  · exact .wr64 (.flag h)
  · exact .clear h

theorem showFlash (h : d₀.KeepsSupply d) : d₀.KeepsSupply d.showFlash := .wrSat (.wrSat (.flag (.wrSat h)))

theorem showKeeper (h : d₀.KeepsSupply d) : d₀.KeepsSupply d.showKeeper := .wr (.flag (.wr h))

end Dev.KeepsSupply

end Sys2Proof.Machine

end

section
/-! LAWS. What a reset for any cause leaves (R26, R27, R57). -/

namespace Sys2Proof.Machine

/-! ### The register file -/

/-- The word of a register after a reset, of which it keeps the bits of a mask. -/
theorem keptWord_eq (r x : Word) {m : Nat} (hm : m ≤ 0xFFFFFFFF) :
    w32 ((r.toNat &&& (0xFFFFFFFF - m)) ||| (x.toNat &&& m)) =
      (r &&& ~~~BitVec.ofNat 32 m) ||| (x &&& BitVec.ofNat 32 m) := by
  have small : m % 2 ^ 32 = m := Nat.mod_eq_of_lt (by omega)
  have within : (r.toNat &&& (0xFFFFFFFF - m)) ||| (x.toNat &&& m) < 2 ^ 32 :=
    Nat.or_lt_two_pow (Nat.and_le_left.trans_lt r.isLt) (Nat.and_le_left.trans_lt x.isLt)
  refine BitVec.eq_of_toNat_eq ?_
  rw [w32, BitVec.toNat_ofNat, Nat.mod_eq_of_lt within, BitVec.toNat_or, BitVec.toNat_and, BitVec.toNat_and,
    BitVec.toNat_not, BitVec.toNat_ofNat, small]

/-- A register of which a reset keeps no bit is at its reset value. -/
theorem keepRegs_reset (regs : List (Nat × Word)) {o : Nat} (out : ∀ k ∈ keptBits, k.1 ≠ o) :
    sget resetWord (keepRegs regs) o = resetWord o :=
  sget_foldl_sput_outside resetWord Prod.fst _ out []

/-- A register of which a reset keeps bits. -/
theorem keepRegs_kept (regs : List (Nat × Word)) {k : Nat × Nat} (hk : k ∈ keptBits) :
    sget resetWord (keepRegs regs) k.1 =
      (resetWord k.1 &&& ~~~BitVec.ofNat 32 k.2) ||| (sget resetWord regs k.1 &&& BitVec.ofNat 32 k.2) := by
  have masks : ∀ k ∈ keptBits, k.2 ≤ 0xFFFFFFFF := by decide
  rw [← keptWord_eq _ _ (masks k hk)]
  exact sget_foldl_sput_inside resetWord Prod.fst _ (by decide) hk []

/-- A reset keeps the count of resets, the upper half of its register (R6). -/
theorem keptCount (x : Word) :
    ((resetWord 0x10 &&& ~~~BitVec.ofNat 32 0xFFFF0000) ||| (x &&& BitVec.ofNat 32 0xFFFF0000)).toNat / 2 ^ 16 % 2 ^ 16 =
      x.toNat / 2 ^ 16 % 2 ^ 16 := by
  have upper : ∀ i : Nat, i < 16 → (resetWord 0x10).getLsbD (16 + i) = false ∧
      (BitVec.ofNat 32 0xFFFF0000).getLsbD (16 + i) = true := by decide
  refine Nat.eq_of_testBit_eq fun i => ?_
  rw [testBit_field, testBit_field, BitVec.testBit_toNat, BitVec.testBit_toNat]
  by_cases hi : i < 16
  · rw [BitVec.getLsbD_or, BitVec.getLsbD_and, BitVec.getLsbD_and, (upper i hi).1, (upper i hi).2, Bool.false_and,
      Bool.false_or, Bool.and_true]
  · simp only [hi, decide_false, Bool.false_and]

/-! ### The module -/

/-- A module before the reset, with no slot written where its power-fail sequence ends in the ride-through (R57). -/
def Dev.unsaved (d : Dev) : Dev :=
  if d.power.pf = .rideThrough then d.clear [R.POWER_LAST_PF_SAVED, R.POWER_LAST_PF_INCOMPLETE] else d

theorem unsaved_rest (d : Dev) : d.unsaved = { d with regs := d.unsaved.regs } := by
  unfold Dev.unsaved
  split
  · exact Dev.clear_eq _ d
  · rfl

theorem unsaved_count (d : Dev) : d.unsaved.rd R.RESET_CAUSE_COUNT = d.rd R.RESET_CAUSE_COUNT := by
  unfold Dev.unsaved
  split
  · exact Dev.rd_clear_other _ _ _ (by decide) (by decide)
  · rfl

/-- The module at its reset state, before the cause is shown and the reset is counted. -/
def Dev.cleared (d : Dev) (c : ResetCause) : Dev := { d.moduleReset c with regs := keepRegs d.unsaved.regs }

theorem moduleReset_eq (d : Dev) (c : ResetCause) :
    d.moduleReset c = ((d.cleared c).wr R.RESET_CAUSE_CAUSE (resetCode c)).incSat R.RESET_CAUSE_COUNT := rfl

theorem cleared_word (d : Dev) (c : ResetCause) (o : Nat) : (d.cleared c).word o = sget resetWord (keepRegs d.unsaved.regs) o :=
  rfl

/-- The cause and the count are shown in a register of their own. -/
theorem moduleReset_word (d : Dev) (c : ResetCause) {o : Nat} (h : o ≠ 0x10) :
    (d.moduleReset c).word o = sget resetWord (keepRegs d.unsaved.regs) o := by
  rw [moduleReset_eq, Dev.incSat, Dev.addSat, Dev.word_wr_other _ R.RESET_CAUSE_COUNT _ h,
    Dev.word_wr_other _ R.RESET_CAUSE_CAUSE _ h, cleared_word]

theorem moduleReset_cause (d : Dev) (c : ResetCause) : (d.moduleReset c).rd R.RESET_CAUSE_CAUSE = resetCode c := by
  rw [moduleReset_eq, Dev.incSat, Dev.addSat, Dev.rd_wr_other _ R.RESET_CAUSE_COUNT _ _ (by decide) (.inr (by decide)),
    Dev.rd_wr_same _ _ _ (by decide)]
  cases c <;> rfl

theorem moduleReset_count (d : Dev) (c : ResetCause) :
    (d.moduleReset c).rd R.RESET_CAUSE_COUNT = min (d.rd R.RESET_CAUSE_COUNT + 1) 65535 := by
  have kept : (d.cleared c).rd R.RESET_CAUSE_COUNT = d.rd R.RESET_CAUSE_COUNT := by
    have word := keepRegs_kept d.unsaved.regs (k := (0x10, 0xFFFF0000)) (by decide)
    rw [← unsaved_count d]
    exact (congrArg (fun w : Word => w.toNat / 2 ^ 16 % 2 ^ 16) word).trans (keptCount _)
  rw [moduleReset_eq, Dev.rd_incSat _ _ (by decide), Dev.rd_wr_other _ R.RESET_CAUSE_CAUSE _ _ (by decide) (.inr (by decide)),
    kept]
  rfl

/-- Reset is asserted: every register and every part of the module is as `ResetTaken` says. -/
theorem moduleReset_taken (d : Dev) (c : ResetCause) : ResetTaken d (d.moduleReset c) c := by
  have part {α : Type} (p : Dev → α) (regs : ∀ x : Dev, p { d with regs := x.regs } = p d := by intro; rfl) :
      p d.unsaved = p d := by
    rw [unsaved_rest]
    exact regs d.unsaved
  refine ⟨rfl, rfl, rfl, rfl, rfl, rfl, rfl, fun o out => ?_, fun k hk other => ?_, moduleReset_cause d c,
    moduleReset_count d c, rfl, congrArg (· && keepsPower c) (part (·.power.powered)), part (·.evrec.journal),
    part (·.hrn.slots), part (·.bridle.protect), part (·.bridle.safety), part (·.life.fused), part (·.life.tag),
    part (·.trust.owner), part (·.trust.minSecver), part (·.time.counter), part (·.cycle.slots)⟩
  · rw [moduleReset_word d c (out (0x10, 0xFFFF0000) (by decide)).symm, keepRegs_reset _ out]
  · rw [moduleReset_word d c other, keepRegs_kept _ hk]
    rfl

end Sys2Proof.Machine

end

section
/-! LAWS. Reset, power-up and the field supply (O29). -/

namespace Sys2Proof.Machine

/-! ### The commands' meanings -/

theorem exec_seatedLoopClose (s : State) : exec .seatedLoopClose s = s.act Dev.seat := rfl
theorem exec_seatedLoopOpen (s : State) : exec .seatedLoopOpen s = s.act Dev.unseat := rfl
theorem exec_moduleReset (c : ResetCause) (s : State) :
    exec (.moduleReset c) s = s.act fun d => if d.power.powered then d.resetFor c else d := rfl
theorem exec_thermalReset (s : State) : exec .thermalReset s = s.act Dev.thermalReset := rfl
theorem exec_pfJournalWritten (s : State) : exec .pfJournalWritten s = s.act Dev.pfJournalWritten := rfl
theorem exec_holdupExhausted (s : State) : exec .holdupExhausted s = s.act Dev.holdupExhausted := rfl
theorem exec_electronicsPowerOn (s : State) : exec .electronicsPowerOn s = s.act Dev.powerOn := rfl
theorem exec_resetRelease (s : State) : exec .resetRelease s = s.act Dev.resetRelease := rfl
theorem exec_fldGood (s : State) : exec .fldGood s = s.act Dev.fldGoodNow := rfl
theorem exec_fldLost (s : State) : exec .fldLost s = s.act Dev.fldLostNow := rfl
theorem exec_fldFuse (s : State) : exec .fldFuse s = s.act Dev.fuseOpens := rfl
theorem exec_dioGroupEnable (s : State) : exec .dioGroupEnable s = s.act Dev.groupEnable := rfl
theorem exec_thermalSample (n : Fin 11) (x : Int) (s : State) :
    exec (.thermalSample n x) s = s.act fun d => d.thermalSample n.val x := rfl
theorem exec_thermalStop (s : State) : exec .thermalStop s = s.act Dev.thermalStop := rfl

/-! ### Reset is asserted (R25 to R27, R57, R63) -/

section
variable {d : Dev}

/-- A reset for a cause that is not the loop's or the power-up's own. -/
theorem resetFor_taken {c : ResetCause} (h1 : c ≠ .powerUp) (h2 : c ≠ .seated) : ResetTaken d (d.resetFor c) c := by
  cases c with
  | powerUp => exact absurd rfl h1
  | seated => exact absurd rfl h2
  | holdup | restart | watchdog | thermal => exact moduleReset_taken d _

/-- The loop opens: reset is taken, SEATED shows it, and the seating begins anew. -/
theorem unseat_taken (d : Dev) : ∃ e, ResetTaken d e .seated ∧ Sets e d.unseat [(R.SADDLE_SEATED, 0)] ∧
    d.unseat = { e with regs := d.unseat.regs, power := { e.power with seatingWait := false } } :=
  ⟨d.moduleReset .seated, moduleReset_taken d _,
    ((sets_nil _).wr R.SADDLE_SEATED 0 (by decide) (by simp)).of_regs rfl, rfl⟩

theorem thermalReset_taken (lit : d.lit = true) (hot : ∃ x ∈ d.power.temps, 1150 ≤ x.2) :
    ResetTaken d d.thermalReset .thermal := by
  have above : d.power.temps.any (fun t => 1150 ≤ t.2) = true := by simpa using hot
  rw [Dev.thermalReset, lit, above]
  exact moduleReset_taken d _

theorem pfJournalWritten_taken (lit : d.lit = true) (pf : d.power.pf = .journalling) :
    ResetTaken d d.pfJournalWritten (if d.power.pfRestart then .restart else .holdup) := by
  rw [Dev.pfJournalWritten, if_pos (by simp [lit, pf])]
  exact moduleReset_taken d _

theorem holdupExhausted_taken (lit : d.lit = true) (a : d.power.lostA = true) (b : d.power.lostB = true) :
    ResetTaken d d.holdupExhausted .holdup := by
  rw [Dev.holdupExhausted, if_pos (by simp [lit, Dev.bothLost, a, b])]
  exact moduleReset_taken d _

end

/-! ### The start of the firmware (R58, R447) -/

/-- The firmware copy that the boot ROM has accepted runs, and the start sequence begins anew. -/
def Dev.booting (d : Dev) (k : Nat) : Dev :=
  ({ d with trust := { d.trust with fwRunning := k, fwFirst := k, noFirmware := false } } : Dev).onPower fun p =>
    { p with start := { firmware := true } }

/-- What the firmware restores and shows as it starts. -/
def Dev.restored (d : Dev) : Dev :=
  (d.reerase.restoreRing.restartTime true).showTrust.showVersion.showRepair.showSeal.showFlash.showKeeper.showPresence

theorem restored_keepsSupply (d : Dev) : d.KeepsSupply d.restored :=
  .showPresence (.showKeeper (.showFlash (.showSeal (.showRepair (.showVersion (.showTrust (.restartTime
    (.restoreRing (.reerase .refl)))))))))

/-- A field supply that is lost is shown, and recorded (R51). -/
def Dev.lossShown (d : Dev) : Dev := d.when d.power.fldLost fun d => (d.raise R.POWER_FLD_LOW).eventM .fldLost

theorem Dev.KeepsSupply.lossShown {d₀ d : Dev} (h : d₀.KeepsSupply d) : d₀.lossShown.KeepsSupply d.lossShown := by
  unfold Dev.lossShown
  rw [h.power_eq]
  cases d₀.power.fldLost with
  | false => exact h
  | true => exact h.wrShown

theorem boot_eq {d : Dev} {k : Nat} (hk : d.bootCopy = some k) :
    d.boot = (d.booting k).restored.lossShown.setRole .starting := by
  unfold Dev.boot
  rw [hk]
  rfl

/-- The loss of the field supply is shown in FLD_LOW, and changes nothing else of the supply. -/
theorem lossShown_spec (d : Dev) :
    d.lossShown.power = d.power ∧ d.lossShown.time = d.time ∧ d.lossShown.trust = d.trust ∧
      d.lossShown.rd R.POWER_FLD_TRIPPED = d.rd R.POWER_FLD_TRIPPED ∧
      (d.power.fldLost = true → d.lossShown.rd R.POWER_FLD_LOW = 1) := by
  unfold Dev.lossShown
  cases lost : d.power.fldLost with
  | false => exact ⟨rfl, rfl, rfl, rfl, nofun⟩
  | true =>
    exact ⟨rfl, rfl, rfl, Dev.rd_wr_other d R.POWER_FLD_LOW _ 1 (by decide) (.inr (by decide)),
      fun _ => Dev.rd_raise d R.POWER_FLD_LOW (by decide) (by decide)⟩

/-- The boot ROM starts a copy: the module is in Starting, and of its supply only the start, the pins' role and FLD_LOW
have changed. -/
theorem boot_spec {d : Dev} {k : Nat} (hk : d.bootCopy = some k) :
    d.boot.role = .starting ∧
      d.boot.power = ({ d.power with start := { firmware := true } } : PowerSt).enters .starting ∧
      d.boot.time.counter = d.time.counter ∧ d.boot.trust.fwRunning = k ∧
      d.boot.rd R.POWER_FLD_TRIPPED = d.rd R.POWER_FLD_TRIPPED ∧
      (d.power.fldLost = true → d.boot.rd R.POWER_FLD_LOW = 1) := by
  have kept := (restored_keepsSupply (d.booting k)).lossShown.setRole (r := .starting)
  have role := (Dev.Stays.setRole (r := .starting) (.refl (d := (d.booting k).restored.lossShown))).role_eq
  rw [← boot_eq hk] at kept role
  obtain ⟨power, time, trust, tripped, low⟩ := lossShown_spec (d.booting k)
  refine ⟨role, kept.power_eq.trans ?_, kept.counter_eq.trans (congrArg TimeSt.counter time),
    kept.firmware_eq.trans (congrArg TrustSt.fwRunning trust), (kept.rd_eq rfl).trans tripped,
    fun lost => (kept.rd_eq rfl).trans (low lost)⟩
  exact congrArg (PowerSt.enters · .starting) power

/-- With no acceptable copy the firmware does not run. -/
theorem boot_none {d : Dev} (hk : d.bootCopy = none) : d.boot = { d with trust := { d.trust with noFirmware := true } } := by
  unfold Dev.boot
  rw [hk]

/-! ### Power-up and the release of a reset (R25, R52, R57, R58, R362) -/

/-- The module with its electronics powered, the counter at 0 and the field fuse closed. -/
def Dev.poweredUp (d : Dev) : Dev :=
  ((d.onPower fun p => { p with powered := true, inReset := false, seatingWait := false, pf := .idle }).onTime fun t =>
    { t with counter := 0 }).fldReclose

theorem powerOn_boots {d : Dev} (can : d.canPower = true) : d.powerOn = d.poweredUp.boot := by
  rw [Dev.powerOn, if_neg (by simp [can])]
  rfl

theorem poweredUp_power (d : Dev) : d.poweredUp.power =
    { d.power with
      powered := true, inReset := false, seatingWait := false, pf := .idle
      fldLost := d.power.fldLost && !d.on R.POWER_FLD_TRIPPED } := rfl

theorem poweredUp_tripped (d : Dev) : d.poweredUp.rd R.POWER_FLD_TRIPPED = 0 :=
  Dev.rd_drop _ R.POWER_FLD_TRIPPED (by decide)

/-- The electronics are powered, and the boot ROM starts an acceptable copy. -/
theorem powerOn_starts {d : Dev} {k : Nat} (can : d.canPower = true) (hk : d.bootCopy = some k) :
    let e := d.powerOn
    e.role = .starting ∧ e.alive = true ∧ e.time.counter = 0 ∧ e.trust.fwRunning = k ∧ e.power.pf = .idle ∧
      e.power.start = { firmware := true } ∧ e.rd R.POWER_FLD_TRIPPED = 0 ∧
      (d.power.fldLost = true → d.on R.POWER_FLD_TRIPPED = false → e.rd R.POWER_FLD_LOW = 1) := by
  obtain ⟨role, power, counter, firmware, tripped, low⟩ := boot_spec (d := d.poweredUp) hk
  rw [poweredUp_power] at power
  rw [powerOn_boots can]
  refine ⟨role, ?_, counter, firmware, ?_, ?_, tripped.trans (poweredUp_tripped d), fun lost closed => low ?_⟩
  · simp only [Dev.alive, power, PowerSt.enters, Bool.not_false, Bool.and_self]
  · rw [power]
    rfl
  · rw [power]
    rfl
  · simp only [poweredUp_power, lost, closed, Bool.not_false, Bool.and_self]

/-- The electronics are powered, and no copy is acceptable. -/
theorem powerOn_noFirmware {d : Dev} (can : d.canPower = true) (hk : d.bootCopy = none)
    (before : d.power.start.firmware = false) :
    let e := d.powerOn
    e.power.powered = true ∧ e.alive = false ∧ e.time.counter = 0 ∧ e.trust.noFirmware = true ∧ e.role = d.role := by
  rw [powerOn_boots can, boot_none (d := d.poweredUp) hk]
  refine ⟨rfl, ?_, rfl, rfl, rfl⟩
  simp only [Dev.alive, poweredUp_power, before, Bool.and_false]

/-- A reset that is released starts an acceptable copy; the counter goes on. -/
theorem resetRelease_starts {d : Dev} {k : Nat} (powered : d.power.powered = true) (inReset : d.power.inReset = true)
    (cool : ∀ x ∈ d.power.temps, x.2 < 1150) (hk : d.bootCopy = some k) :
    let e := d.resetRelease
    e.role = .starting ∧ e.alive = true ∧ e.trust.fwRunning = k ∧ e.time.counter = d.time.counter ∧
      (d.power.fldLost = true → e.rd R.POWER_FLD_LOW = 1) := by
  have boots : d.resetRelease = (d.onPower fun p => { p with inReset := false }).boot :=
    if_pos (by simpa [powered, inReset] using cool)
  obtain ⟨role, power, counter, firmware, -, low⟩ :=
    boot_spec (d := d.onPower fun p => { p with inReset := false }) hk
  rw [boots]
  refine ⟨role, ?_, firmware, counter, low⟩
  rw [Dev.alive, power]
  show (d.power.powered && !false && true) = true
  rw [powered]
  rfl

/-! ### What the digital outputs hold (R60, R384) -/

/-- The wait for a cycle boundary, the thermal latches, the enabled groups and the released levels. -/
def Dev.dioHeld (d : Dev) : Bool × Nat × Nat × Nat :=
  (d.io.fldWait, d.io.latched, d.rd R.DIO_STATUS_GROUPS, d.rd R.DIO_OUT)

/-- A second module holds them as the first one does. -/
def Dev.KeepsDio (d e : Dev) : Prop := e.dioHeld = d.dioHeld

namespace Dev.KeepsDio

variable {d₀ d : Dev}

theorem refl : d.KeepsDio d := rfl

theorem fldWait_eq (h : d₀.KeepsDio d) : d.io.fldWait = d₀.io.fldWait := congrArg (·.1) h
theorem latched_eq (h : d₀.KeepsDio d) : d.io.latched = d₀.io.latched := congrArg (·.2.1) h
theorem groups_eq (h : d₀.KeepsDio d) : d.rd R.DIO_STATUS_GROUPS = d₀.rd R.DIO_STATUS_GROUPS := congrArg (·.2.2.1) h
theorem out_eq (h : d₀.KeepsDio d) : d.rd R.DIO_OUT = d₀.rd R.DIO_OUT := congrArg (·.2.2.2) h

/-- A change that leaves all of it. -/
theorem same {e : Dev} (h : d₀.KeepsDio d) (w : e.dioHeld = d.dioHeld) : d₀.KeepsDio e := Eq.trans w h

theorem ite {c : Prop} [Decidable c] {a b : Dev} (ha : d₀.KeepsDio a) (hb : d₀.KeepsDio b) :
    d₀.KeepsDio (if c then a else b) := by
  split
  · exact ha
  · exact hb

theorem wr {f v} (h : d₀.KeepsDio d) (fits : f.lo + f.wd ≤ 32 := by decide)
    (apart : f.separate R.DIO_STATUS_GROUPS ∧ f.separate R.DIO_OUT := by decide) : d₀.KeepsDio (d.wr f v) :=
  h.same (by simp only [Dev.dioHeld, Dev.rd_wr_other d f _ v fits apart.1, Dev.rd_wr_other d f _ v fits apart.2,
    Dev.wr_io])

theorem raise {f} (h : d₀.KeepsDio d) (fits : f.lo + f.wd ≤ 32 := by decide)
    (apart : f.separate R.DIO_STATUS_GROUPS ∧ f.separate R.DIO_OUT := by decide) : d₀.KeepsDio (d.raise f) :=
  .wr h fits apart

theorem flag {f b} (h : d₀.KeepsDio d) (fits : f.lo + f.wd ≤ 32 := by decide)
    (apart : f.separate R.DIO_STATUS_GROUPS ∧ f.separate R.DIO_OUT := by decide) : d₀.KeepsDio (d.flag f b) :=
  .wr h fits apart

theorem incSat {f} (h : d₀.KeepsDio d) (fits : f.lo + f.wd ≤ 32 := by decide)
    (apart : f.separate R.DIO_STATUS_GROUPS ∧ f.separate R.DIO_OUT := by decide) : d₀.KeepsDio (d.incSat f) :=
  .wr h fits apart

theorem event {e src ps} (h : d₀.KeepsDio d) : d₀.KeepsDio (d.event e src ps) := h
theorem onAo {n f} (h : d₀.KeepsDio d) : d₀.KeepsDio (d.onAo n f) := h
theorem limit {x : IoSt → Nat} (h : d₀.KeepsDio d) : d₀.KeepsDio (d.onIo fun io => { io with limit := x io }) := h

theorem drives {e : Dev} (h : d₀.KeepsDio d) (k : d.Drives e) : d₀.KeepsDio e :=
  h.same (by simp only [Dev.dioHeld, k.part_eq (·.io), k.shown R.DIO_STATUS_GROUPS (by decide),
    k.shown R.DIO_OUT (by decide)])

theorem showDio (h : d₀.KeepsDio d) : d₀.KeepsDio d.showDio := by
  unfold Dev.showDio
  extract_lets +onlyGivenNames _ _ _ d1
  have h1 : d₀.KeepsDio d1 := .flag (.flag (.limit h))
  exact .ite (.event (.wr (.incSat (.raise h1)))) h1

theorem aoShow {n} (h : d₀.KeepsDio d) : d₀.KeepsDio (d.aoShow n) := by
  have above (b lo wd : Nat) (hb : 0x60000C < b) :
      Fld.separate ⟨b + n * 0x20, lo, wd⟩ R.DIO_STATUS_GROUPS ∧ Fld.separate ⟨b + n * 0x20, lo, wd⟩ R.DIO_OUT :=
    ⟨.inl (by show b + n * 0x20 ≠ 0x600000; omega), .inl (by show b + n * 0x20 ≠ 0x60000C; omega)⟩
  have driven (v : Nat) : d₀.KeepsDio (d.wr (R.CLO_SET_OUT_UA n) v) :=
    .wr h (by show 16 + 16 ≤ 32; decide) (above _ _ _ (by decide))
  exact .wr (.ite h (.onAo (driven _))) (by show 4 + 2 ≤ 32; decide) (above _ _ _ (by decide))

theorem aoShowAll (h : d₀.KeepsDio d) : d₀.KeepsDio d.aoShowAll := by
  unfold Dev.aoShowAll Dev.each
  generalize List.range 16 = l
  induction l generalizing d with
  | nil => exact h
  | cons n l ih => exact ih (.aoShow h)

end Dev.KeepsDio

/-! ### The field supply (R51, R52, R60) -/

/-- The safety functions and the local outputs follow the field supply. -/
def Dev.outputsFollow (d : Dev) : Dev := d.updateFns.showDio.aoShowAll

theorem outputsFollow_keepsSupply (d : Dev) : d.KeepsSupply d.outputsFollow := .aoShowAll (.showDio (.updateFns .refl))
theorem outputsFollow_keepsDio (d : Dev) : d.KeepsDio d.outputsFollow :=
  .aoShowAll (.showDio (.drives .refl (.updateFns .refl)))
theorem outputsFollow_stays (d : Dev) : d.Stays d.outputsFollow :=
  .each (.showDio (.updateFns .refl)) fun _ _ hx => .aoShow hx

/-- The field supply as it becomes good. -/
def Dev.fldReturns (d : Dev) : Dev :=
  let d := ((d.raise R.POWER_FLD_GOOD).drop R.DIO_STATUS_GROUPS).onPower fun p => { p with fldLost := false }
  d.onIo fun io => { io with fldWait := true }

theorem fldReturns_sets (d : Dev) : Sets d d.fldReturns [(R.POWER_FLD_GOOD, 1), (R.DIO_STATUS_GROUPS, 0)] :=
  (((sets_nil d).wr R.POWER_FLD_GOOD 1 (by decide) (by simp)).wr R.DIO_STATUS_GROUPS 0 (by decide)
    (by simp +decide)).of_regs rfl

theorem fldGoodNow_eq {d : Dev} (closed : d.on R.POWER_FLD_TRIPPED = false) : d.fldGoodNow = d.fldReturns.outputsFollow := by
  rw [Dev.fldGoodNow, if_neg (by simp [closed])]
  rfl

/-- A fuse that is open keeps the supply from becoming good. -/
theorem fldGoodNow_tripped {d : Dev} (tripped : d.on R.POWER_FLD_TRIPPED = true) : d.fldGoodNow = d := if_pos tripped

/-- The loss of the field supply of a lit module as it is shown and recorded, with every output off. -/
def Dev.fldGoes (d : Dev) : Dev :=
  let d := (d.drop R.POWER_FLD_GOOD).onPower fun p => { p with fldLost := true }
  ((d.raise R.POWER_FLD_LOW).eventM .fldLost).drop R.DIO_STATUS_GROUPS

theorem fldGoes_sets (d : Dev) :
    Sets d d.fldGoes [(R.POWER_FLD_GOOD, 0), (R.POWER_FLD_LOW, 1), (R.DIO_STATUS_GROUPS, 0)] := by
  have gone := ((sets_nil d).wr R.POWER_FLD_GOOD 0 (by decide) (by simp)).of_regs
    (e' := (d.drop R.POWER_FLD_GOOD).onPower fun p => { p with fldLost := true }) rfl
  exact (gone.wr R.POWER_FLD_LOW 1 (by decide) (by simp +decide)).of_regs rfl |>.wr R.DIO_STATUS_GROUPS 0 (by decide)
    (by simp +decide)

theorem fldGoes_stays (d : Dev) : ∃ e : Dev, Presents d e [(.fldLost, source 0 0)] ∧ e.role = d.role ∧ e.Stays d.fldGoes :=
  ⟨(((d.drop R.POWER_FLD_GOOD).onPower fun p => { p with fldLost := true }).raise R.POWER_FLD_LOW).eventM .fldLost,
    ⟨_, rfl, rfl⟩, rfl, .drop .refl⟩

theorem fldLostNow_eq {d : Dev} (before : d.power.fldLost = false) (lit : d.lit = true) :
    d.fldLostNow = d.fldGoes.outputsFollow := by
  have still : ((d.drop R.POWER_FLD_GOOD).onPower fun p => { p with fldLost := true }).lit = true := lit
  rw [Dev.fldLostNow, if_neg (by simp [before])]
  dsimp only
  rw [still]
  rfl

/-- A supply that is lost already is lost no more. -/
theorem fldLostNow_lost {d : Dev} (lost : d.power.fldLost = true) : d.fldLostNow = d := if_pos lost

/-- The field supply of a lit module is lost: it is shown and recorded, and the fuse is as it was. -/
theorem fldLostNow_spec {d : Dev} (before : d.power.fldLost = false) (lit : d.lit = true) :
    let e := d.fldLostNow
    e.rd R.POWER_FLD_GOOD = 0 ∧ e.rd R.POWER_FLD_LOW = 1 ∧ e.power.fldLost = true ∧ e.rd R.DIO_STATUS_GROUPS = 0 ∧
      e.role = d.role ∧ (∃ es, Presents d e ((.fldLost, source 0 0) :: es)) ∧
      e.rd R.POWER_FLD_TRIPPED = d.rd R.POWER_FLD_TRIPPED := by
  have shown := fldGoes_sets d
  have supply := outputsFollow_keepsSupply d.fldGoes
  obtain ⟨x, told, role, stays⟩ := fldGoes_stays d
  have follows := outputsFollow_stays d.fldGoes
  obtain ⟨more, first⟩ := stays.presents told
  rw [fldLostNow_eq before lit]
  refine ⟨(supply.rd_eq rfl).trans (shown.rd_of_mem (by simp)), (supply.rd_eq rfl).trans (shown.rd_of_mem (by simp)),
    congrArg PowerSt.fldLost supply.power_eq, (outputsFollow_keepsDio _).groups_eq.trans (shown.rd_of_mem (by simp)),
    follows.role_eq.trans (stays.role_eq.trans role), ?_, (supply.rd_eq rfl).trans (shown.2 _ (by simp +decide))⟩
  obtain ⟨es, presented⟩ := follows.presents first
  exact ⟨more ++ es, by simpa using presented⟩

/-- The field fuse of a lit module has opened, with its record. -/
def Dev.fuseShown (d : Dev) : Dev := (d.raise R.POWER_FLD_TRIPPED).eventM .fldFuse

theorem fuseOpens_eq {d : Dev} (closed : d.on R.POWER_FLD_TRIPPED = false) (lit : d.lit = true) :
    d.fuseOpens = d.fuseShown.fldLostNow := by
  have still : (d.raise R.POWER_FLD_TRIPPED).lit = true := lit
  rw [Dev.fuseOpens, if_neg (by simp [closed])]
  dsimp only
  rw [if_pos still]
  rfl

/-- A fuse that is open opens no more. -/
theorem fuseOpens_tripped {d : Dev} (tripped : d.on R.POWER_FLD_TRIPPED = true) : d.fuseOpens = d := if_pos tripped

theorem fuseShown_setsAndTells (d : Dev) :
    SetsAndTells d d.fuseShown [(R.POWER_FLD_TRIPPED, 1)] [(.fldFuse, source 0 0)] :=
  ⟨((sets_nil d).wr R.POWER_FLD_TRIPPED 1 (by decide) (by simp)).of_regs rfl, ⟨_, rfl, rfl⟩, rfl⟩

/-- The next group of outputs is enabled. -/
theorem groupEnable_eq {d : Dev} (lit : d.lit = true) (role : d.role.commanding = true) (drives : d.fldDrives = true)
    (more : d.rd R.DIO_STATUS_GROUPS < 15) :
    d.groupEnable = (d.wr R.DIO_STATUS_GROUPS (2 * d.rd R.DIO_STATUS_GROUPS + 1)).showDio :=
  if_pos (by simp [lit, role, drives, more])

end Sys2Proof.Machine

end

section
/-! LAWS. Temperatures (R63), and the obligation (O29). -/

namespace Sys2Proof.Machine

/-! ### Temperatures (R63) -/

/-- The power record after a sample of a sensor. -/
def PowerSt.sensed (p : PowerSt) (now : DWord) (k : Nat) (x : Int) : PowerSt :=
  { p with
    temps := oput p.temps k x
    stopTold := if x ≤ 1050 then p.stopTold.filter (· ≠ k) else p.stopTold
    hot := if x ≤ 1050 then oerase p.hot k else match oget p.hot k with | some _ => p.hot | none => oput p.hot k now }

/-- A field follows a condition, and the condition's rise is recorded. -/
def Dev.follow (d : Dev) (f : Fld) (code : Ev) (b : Bool) : Dev :=
  if b && !d.on f then (d.flag f b).eventM code else d.flag f b

theorem follow_spec (d : Dev) (f : Fld) (code : Ev) (b : Bool) (fit : f.lo + f.wd ≤ 32) (one : f.wd = 1) :
    (d.follow f code b).power = d.power ∧ Sets d (d.follow f code b) [(f, bit b)] ∧
      Presents d (d.follow f code b) (if b && !d.on f then [(code, source 0 0)] else []) := by
  have wrote : Sets d (d.flag f b) [(f, bit b)] := by
    have set := (sets_nil d).wr f (bit b) fit (by simp)
    rwa [one, pow_one, bit_mod_two] at set
  unfold Dev.follow
  split
  · exact ⟨rfl, wrote.of_regs rfl, (presents_none d _ rfl).event code (source 0 0) []⟩
  · exact ⟨rfl, wrote, presents_none _ _ rfl⟩

/-- What a sample of a lit module comes to. -/
theorem thermalSample_lit {d : Dev} (lit : d.lit = true) (k : Nat) (x : Int) :
    d.thermalSample k x =
      (d.onPower fun _ => d.power.sensed d.now k x).follow R.POWER_THERMAL_HIGH .thermalHigh
        ((d.power.sensed d.now k x).temps.any fun t => 1000 ≤ t.2) := by
  have still : (d.onPower fun _ => d.power.sensed d.now k x).lit = true := lit
  unfold Dev.thermalSample
  exact if_neg (by
    rw [Bool.not_eq_true, Bool.not_eq_false']
    exact still)

/-- What a sample of a lit module changes. -/
theorem thermalSample_spec {d : Dev} (lit : d.lit = true) (k : Nat) (x : Int) :
    let e := d.thermalSample k x
    let high := e.power.temps.any fun t => 1000 ≤ t.2
    e.power = d.power.sensed d.now k x ∧ Sets d e [(R.POWER_THERMAL_HIGH, bit high)] ∧
      Presents d e (if high && !d.on R.POWER_THERMAL_HIGH then [(.thermalHigh, source 0 0)] else []) := by
  have shown := follow_spec (d.onPower fun _ => d.power.sensed d.now k x) R.POWER_THERMAL_HIGH .thermalHigh
    ((d.power.sensed d.now k x).temps.any fun t => 1000 ≤ t.2) (by decide) rfl
  rw [← thermalSample_lit lit] at shown
  intro e high
  have same : high = (d.power.sensed d.now k x).temps.any fun t => 1000 ≤ t.2 :=
    congrArg (fun p : PowerSt => p.temps.any fun t => 1000 ≤ t.2) shown.1
  rw [same]
  exact shown

theorem mem_tooHot {d : Dev} {h : Nat × DWord} (hot : h ∈ d.power.hot) (long : 1000000000 ≤ d.since h.2) : h.1 ∈ d.tooHot :=
  List.mem_map.2 ⟨h, List.mem_filter.2 ⟨hot, decide_eq_true long⟩, rfl⟩

/-- A field shows a condition, which changes the power record and is recorded. -/
def Dev.noted (d : Dev) (f : Fld) (p : PowerSt → PowerSt) (code : Ev) : Dev := ((d.raise f).onPower p).eventM code

theorem noted_sets (d : Dev) {f : Fld} (p : PowerSt → PowerSt) (code : Ev) (fit : f.lo + f.wd ≤ 32) :
    Sets d (d.noted f p code) [(f, 1 % 2 ^ f.wd)] := ((sets_nil d).wr f 1 fit (by simp)).of_regs rfl

theorem noted_presents (d : Dev) (f : Fld) (p : PowerSt → PowerSt) (code : Ev) :
    Presents d (d.noted f p code) [(code, source 0 0)] := (presents_none d _ rfl).event code (source 0 0) []

/-- A condition that is noted takes a running module to STOPPED. -/
theorem goStopped_noted {d : Dev} {f : Fld} (hf : f.off = 0x88) (fit : f.lo + f.wd ≤ 32) (hs : d.mgmt.staged = [])
    (hr : d.role ≠ .stopped) (hc : d.committed = false) {p : PowerSt → PowerSt}
    (hp : (p d.power).pf = d.power.pf) (code : Ev) :
    let e := (d.noted f p code).goStopped
    e.role = .stopped ∧ e.power.faultStop = true ∧ e.rd f = 1 % 2 ^ f.wd ∧
      ∃ es, Presents d e ((code, source 0 0) :: es) := by
  have same : (d.noted f p code).power.pf = d.power.pf := hp
  have early : (d.noted f p code).committed = false := by rwa [Dev.committed, same]
  have stays := Dev.Stays.goStopped (.refl (d := d.noted f p code)) hs hr early
  have supply := Dev.KeepsSupply.leaveTo (r := .stopped)
    (.refl (d := (d.noted f p code).onPower fun q => { q with faultStop := true })) hs
  rw [← goStopped_leaves (d := d.noted f p code) hr early] at supply
  exact ⟨stays.role_eq, congrArg PowerSt.faultStop supply.power_eq,
    (supply.rd_eq hf).trans ((noted_sets d p code fit).rd_of_mem (by simp)),
    stays.presents (noted_presents d f p code).withRole⟩

/-- A condition that is noted in STOPPED changes the power record besides, and nothing else. -/
theorem goStopped_noted_stopped {d : Dev} {f : Fld} (fit : f.lo + f.wd ≤ 32) (hr : d.role = .stopped)
    (p : PowerSt → PowerSt) (code : Ev) :
    let e := (d.noted f p code).goStopped
    e.role = .stopped ∧ Sets d e [(f, 1 % 2 ^ f.wd)] ∧ Presents d e [(code, source 0 0)] := by
  rw [goStopped_stopped (d := d.noted f p code) hr]
  exact ⟨hr, (noted_sets d p code fit).of_regs rfl, noted_presents d f p code⟩

/-- A sensor that has been too hot for 1 s stops the module, and in STOPPED is recorded once. -/
theorem thermalStop_eq {d : Dev} {k : Nat} (lit : d.lit = true) (hot : k ∈ d.tooHot)
    (new : d.role ≠ .stopped ∨ k ∉ d.power.stopTold) :
    d.thermalStop =
      (d.noted R.POWER_THERMAL_STOP (fun p => { p with stopTold := d.tooHot }) .thermalStop).goStopped := by
  have some : d.tooHot.isEmpty = false := by
    rw [List.isEmpty_eq_false_iff]
    exact List.ne_nil_of_mem hot
  have acts : (d.role ≠ .stopped || d.tooHot.any fun k => !d.power.stopTold.contains k) = true := by
    rcases new with role | untold
    · simp [role]
    · have any : (d.tooHot.any fun k => !d.power.stopTold.contains k) = true :=
        List.any_eq_true.2 ⟨k, hot, by simpa using untold⟩
      rw [any, Bool.or_true]
  rw [Dev.thermalStop, if_pos (by rw [lit, some, acts]; rfl)]
  rfl

/-- With no sensor too hot for 1 s nothing happens. -/
theorem thermalStop_cool {d : Dev} (cool : ∀ k ∈ d.power.hot, d.since k.2 < 1000000000) : d.thermalStop = d := by
  have none : d.tooHot = [] := by
    rw [Dev.tooHot, List.map_eq_nil_iff, List.filter_eq_nil_iff]
    intro k hk
    rw [decide_eq_true_iff, not_le]
    exact cool k hk
  rw [Dev.thermalStop, none]
  exact if_neg (by simp)

/-! ### The obligation -/

/-- Settles O29: each command's meaning, case by case; a reset by what its register file and its parts are written from, a
start and the supply's losses by what they leave of the supply. -/
theorem resetPowerUpAndSupplies : Obligations.ResetPowerUpAndSupplies := by
  unfold Obligations.ResetPowerUpAndSupplies
  refine ⟨fun s c k => ⟨?seat, ?unseat, fun powered h1 h2 => ?reset, fun lit hot => ?thermal,
      fun lit pf cold => ?holdup, fun lit pf warm => ?restart, fun lit a b => ?exhausted, fun can hk => ?powerOn,
      fun can hk before => ?noFirmware, fun powered inReset cool hk => ?release⟩,
    fun s n x h => ⟨fun closed => ?good, fun tripped => ?goodTripped, fun lost => ?lostAlready,
      fun before lit => ?lost, fun before closed lit => ?fuse, fun lost closed lit => ?fuseLost,
      fun tripped => ?fuseTripped, fun lit role drives more => ?groups, fun lit => ?sample,
      fun settled hr hc hot long => ?stop, fun lit hr hot long untold => ?stopAgain, fun lit cool => ?cool⟩⟩
  case seat =>
    exact answers_act (exec_seatedLoopClose s)
      ⟨((sets_nil s.dev).wr R.SADDLE_SEATED 1 (by decide) (by simp)).of_regs rfl, rfl⟩
  case unseat => exact answers_act (exec_seatedLoopOpen s) (unseat_taken s.dev)
  case reset =>
    refine answers_act (exec_moduleReset c s) ?_
    rw [if_pos powered]
    exact resetFor_taken h1 h2
  case thermal => exact answers_act (exec_thermalReset s) (thermalReset_taken lit hot)
  case holdup =>
    have taken := pfJournalWritten_taken lit pf
    rw [cold] at taken
    exact answers_act (exec_pfJournalWritten s) taken
  case restart =>
    have taken := pfJournalWritten_taken lit pf
    rw [warm] at taken
    exact answers_act (exec_pfJournalWritten s) taken
  case exhausted => exact answers_act (exec_holdupExhausted s) (holdupExhausted_taken lit a b)
  case powerOn => exact answers_act (exec_electronicsPowerOn s) (powerOn_starts can hk)
  case noFirmware => exact answers_act (exec_electronicsPowerOn s) (powerOn_noFirmware can hk before)
  case release => exact answers_act (exec_resetRelease s) (resetRelease_starts powered inReset cool hk)
  case good =>
    refine answers_act (exec_fldGood s) ?_
    have shown := fldReturns_sets s.dev
    have supply := outputsFollow_keepsSupply s.dev.fldReturns
    have dio := outputsFollow_keepsDio s.dev.fldReturns
    rw [fldGoodNow_eq closed]
    exact ⟨(supply.rd_eq rfl).trans (shown.rd_of_mem (by simp)), dio.groups_eq.trans (shown.rd_of_mem (by simp)),
      dio.fldWait_eq, congrArg PowerSt.fldLost supply.power_eq, (outputsFollow_stays s.dev.fldReturns).role_eq⟩
  case goodTripped => exact answers_act (exec_fldGood s) (fldGoodNow_tripped tripped)
  case lostAlready => exact answers_act (exec_fldLost s) (fldLostNow_lost lost)
  case lost =>
    obtain ⟨good, low, lost, groups, role, told, -⟩ := fldLostNow_spec before lit
    exact answers_act (exec_fldLost s) ⟨good, low, lost, groups, role, told⟩
  case fuse =>
    refine answers_act (exec_fldFuse s) ?_
    obtain ⟨good, low, -, -, role, ⟨es, told⟩, tripped⟩ := fldLostNow_spec (d := s.dev.fuseShown) before lit
    obtain ⟨opened, recorded, -⟩ := fuseShown_setsAndTells s.dev
    rw [fuseOpens_eq closed lit]
    exact ⟨tripped.trans (opened.rd_of_mem (by simp)), good, low, role, es, recorded.trans told⟩
  case fuseLost =>
    refine answers_act (exec_fldFuse s) ?_
    rw [fuseOpens_eq closed lit, fldLostNow_lost (d := s.dev.fuseShown) lost]
    exact fuseShown_setsAndTells s.dev
  case fuseTripped => exact answers_act (exec_fldFuse s) (fuseOpens_tripped tripped)
  case groups =>
    refine answers_act (exec_dioGroupEnable s) ?_
    have dio := Dev.KeepsDio.showDio
      (.refl (d := s.dev.wr R.DIO_STATUS_GROUPS (2 * s.dev.rd R.DIO_STATUS_GROUPS + 1)))
    rw [groupEnable_eq lit role drives more]
    exact ⟨dio.groups_eq.trans (Dev.rd_wr_same _ _ _ (by decide)),
      dio.out_eq.trans (Dev.rd_wr_other _ _ R.DIO_OUT _ (by decide) (.inl (by decide))),
      (Dev.Stays.showDio (.wr .refl)).role_eq, dio.latched_eq⟩
  case sample =>
    refine answers_act (exec_thermalSample n x s) ?_
    obtain ⟨power, shown, told⟩ := thermalSample_spec lit n.val x
    refine ⟨?_, shown, told, fun cool => ?_, fun hot first => ?_, fun hot c since => ?_⟩
    all_goals rw [power]
    · exact oget_oput_same _ _ _
    · simp only [PowerSt.sensed, if_pos cool, oget_oerase_same]
    · simp only [PowerSt.sensed, if_neg (not_le.2 hot), first, oget_oput_same, Dev.now]
    · simp only [PowerSt.sensed, if_neg (not_le.2 hot), since]
  case stop =>
    refine answers_act (exec_thermalStop s) ?_
    rw [thermalStop_eq settled.1 (mem_tooHot hot long) (.inl hr)]
    exact goStopped_noted rfl (by decide) settled.2 hr hc rfl _
  case stopAgain =>
    refine answers_act (exec_thermalStop s) ?_
    rw [thermalStop_eq lit (mem_tooHot hot long) (.inr untold)]
    exact goStopped_noted_stopped (by decide) hr _ _
  case cool => exact answers_act (exec_thermalStop s) (thermalStop_cool cool)

end Sys2Proof.Machine

end

section
/-! LAWS. The clear commands (O11). -/

namespace Sys2Proof.Machine

/-! ### Fields that one command clears or sets -/

/-- Fields that lie in their registers and share no bit with each other. -/
abbrev TidyFields (fs : List Fld) : Prop := (∀ f ∈ fs, f.lo + f.wd ≤ 32) ∧ fs.Pairwise Fld.separate

theorem clearsOnly_of_tidy {c : Instr} {s : State} {fs : List Fld} (e : exec c s = s.act (·.clear fs))
    (h : TidyFields fs) : ClearsOnly c s fs := clearsOnly_of e h.1 h.2

/-- A clear writes 0 to each field. -/
theorem clear_eq_writes (d : Dev) (fs : List Fld) : d.clear fs = d.writes (fs.map fun f => (f, 0)) := by
  rw [Dev.writes, List.foldl_map]
  rfl

theorem writes_append (d : Dev) (fs gs : List (Fld × Nat)) : (d.writes fs).writes gs = d.writes (fs ++ gs) :=
  List.foldl_append.symm

/-- Tidy fields that are written read what each was given, and nothing else changes. -/
theorem writes_setsOnly (d : Dev) {fs : List (Fld × Nat)} (h : TidyFields (fs.map Prod.fst)) :
    SetsOnly d (d.writes fs) (fs.map stored) :=
  ⟨(sets_nil d).writes fs h.1 h.2, writes_rest d fs⟩

theorem stored_fields (fs : List (Fld × Nat)) : (fs.map stored).map Prod.fst = fs.map Prod.fst := by
  rw [List.map_map]
  rfl

theorem SetsOnly.onlyFields {d e : Dev} {fs : List (Fld × Nat)} (h : SetsOnly d e fs) :
    OnlyFields d e (fs.map Prod.fst) := ⟨h.2, h.1.2⟩

/-! ### The clear commands that change something else (R52, R87, R401, R420) -/

theorem exec_fldReclose (s : State) : exec .fldReclose s = s.act Dev.fldReclose := rfl
theorem exec_fabClearMax (n : Fin 9) (s : State) : exec (.fabClearMax n) s = s.act (·.fabClearMax n.val) := rfl
theorem exec_faiClearMinmax (c : Fin 32) (s : State) : exec (.faiClearMinmax c) s = s.act (·.faiClear c.val) := rfl
theorem exec_canClearCounts (p : Fin 4) (s : State) : exec (.canClearCounts p) s = s.act (·.canClearCounts p.val) := rfl

/-- The extremes of a cluster as CLEAR_MAX writes them (R87). -/
def clusterExtremes (n : Nat) : List (Fld × Nat) :=
  [(R.FAB_RAIL_RAIL_MIN_MV n, 0xFFFF), (R.FAB_TEMP_TJ_MAX n, 0x8000), (R.FAB_PACE_MAX_PERIOD_MAX n, 0),
    (R.FAB_PACE_MAX_SLOWEST_MAX n, 0)] ++ (clusterTiles n).map fun t => (R.TILE_PACE_PERIOD_MAX t, 0)

theorem fabClearMax_eq (d : Dev) (n : Nat) : d.fabClearMax n = d.writes (clusterExtremes n) := by
  have tiles : (clusterTiles n).map (fun t => (R.TILE_PACE_PERIOD_MAX t, 0)) =
      ((clusterTiles n).map R.TILE_PACE_PERIOD_MAX).map fun f => (f, 0) := by
    rw [List.map_map]
    rfl
  rw [clusterExtremes, tiles, ← writes_append, ← clear_eq_writes]
  rfl

theorem clusterExtremes_tidy (n : Fin 9) : TidyFields ((clusterExtremes n.val).map Prod.fst) := by
  decide +revert

theorem clusterExtremes_fields (n : Nat) : (clusterExtremes n).map Prod.fst =
    [R.FAB_RAIL_RAIL_MIN_MV n, R.FAB_TEMP_TJ_MAX n, R.FAB_PACE_MAX_PERIOD_MAX n, R.FAB_PACE_MAX_SLOWEST_MAX n] ++
      (clusterTiles n).map R.TILE_PACE_PERIOD_MAX := by
  rw [clusterExtremes, List.map_append, List.map_map]
  rfl

/-- CLEAR_MAX sets the extremes of a cluster and of its tiles, and nothing else (R87). -/
theorem fabClearMax_setsOnly (d : Dev) (n : Fin 9) :
    SetsOnly d (d.fabClearMax n.val) ((clusterExtremes n.val).map stored) := by
  rw [fabClearMax_eq]
  exact writes_setsOnly d (clusterExtremes_tidy n)

/-- The extremes of an FA channel (R401). -/
theorem faiClear_setsOnly (d : Dev) (c : Fin 32) :
    SetsOnly d (d.faiClear c.val) [(R.FAI_MINMAX_MIN c.val, 0x7FFF), (R.FAI_MINMAX_MAX c.val, 0x8000)] :=
  writes_setsOnly d (fs := [(R.FAI_MINMAX_MIN c.val, 0x7FFF), (R.FAI_MINMAX_MAX c.val, 0x8000)]) (by decide +revert)

/-- FLD_RECLOSE clears FLD_TRIPPED (R52). -/
theorem fldReclose_sets (d : Dev) : Sets d d.fldReclose [(R.POWER_FLD_TRIPPED, 0)] :=
  ((sets_nil d).wr R.POWER_FLD_TRIPPED 0 (by decide) (by simp)).of_regs rfl

/-- The counters of a CAN port that CLEAR_COUNTS clears (R420). -/
def canCounts (n : Nat) : List Fld :=
  [R.CAN_ERR_COUNT_TX_ERR n, R.CAN_ERR_COUNT_RX_ERR n, R.CAN_BUSOFF_COUNT n, R.CAN_TX_COUNT_SENT n,
    R.CAN_TX_COUNT_ARB_LOST n, R.CAN_RX_COUNT_ACCEPTED n, R.CAN_RX_COUNT_NO_MATCH n, R.CAN_RX_DROP_OVF0 n,
    R.CAN_RX_DROP_OVF1 n, R.CAN_SHADOW_MISSING n, R.CAN_SHADOW_RESENT n]

theorem canCounts_tidy (p : Fin 4) : TidyFields (canCounts p.val) := by decide +revert

/-- A port changed is read back, and every other port is as before. -/
theorem port_onPort (d : Dev) (n : Nat) (f : CanPort → CanPort) :
    (d.onPort n f).port n = f (d.port n) ∧ ∀ k, k ≠ n → (d.onPort n f).port k = d.port k :=
  ⟨sget_sput_same _ _ _ _, fun _ hk => sget_sput_other _ _ _ hk⟩

/-- CLEAR_COUNTS of a CAN port: the counters read 0, the hit counts are gone, and nothing else changes (R420). -/
theorem canClearCounts_spec (d : Dev) (p : Fin 4) :
    let e := d.canClearCounts p.val
    (∀ f ∈ canCounts p.val, e.rd f = 0) ∧ OtherFields d e (canCounts p.val) ∧ (e.port p.val).hits = [] ∧
      (∀ k, k ≠ p.val → e.port k = d.port k) ∧ e = { d with regs := e.regs, can := e.can } := by
  have without : d.canClearCounts p.val =
      (d.onPort p.val fun x => { x with hits := [] }).clear (canCounts p.val) := rfl
  obtain ⟨own, others⟩ := port_onPort d p.val fun x => { x with hits := [] }
  generalize hb : d.onPort p.val (fun x => { x with hits := [] }) = b at *
  have ports (k : Nat) : (b.clear (canCounts p.val)).port k = b.port k := by rw [Dev.port, Dev.clear_can, Dev.port]
  have regs : b.regs = d.regs := by rw [← hb]; rfl
  have rest : b = { d with can := b.can } := by rw [← hb]; rfl
  rw [without]
  refine ⟨fun f hf => Dev.rd_clear _ b f (canCounts_tidy p).1 (canCounts_tidy p).2 hf, fun g hg => ?_, ?_, fun k hk => ?_, ?_⟩
  · exact (Dev.rd_clear_other _ b g (canCounts_tidy p).1 hg).trans (Dev.rd_of_regs regs g)
  · rw [ports, own]
  · rw [ports, others k hk]
  · rw [Dev.clear_can]
    exact (Dev.clear_eq _ b).trans (congrArg (fun x : Dev => { x with regs := (b.clear (canCounts p.val)).regs }) rest)

/-! ### The obligation -/

/-- Settles O11: a clear of fields that share no bit, for each command; what else changes is read off its meaning. -/
theorem clearCommandsClearTheirFieldsOnly : Obligations.ClearCommandsClearTheirFieldsOnly := by
  unfold Obligations.ClearCommandsClearTheirFieldsOnly
  refine ⟨fun s n k g x a p q => ⟨?fab, ?cycle, ?flags, ?stats, ?link, ?twin, ?overflow, ?error, ?time, ?lost, ?hist, ?sec,
    ?dio, ?clo, ?queue, ?life, ?load, ?ring⟩, fun s n c p => ⟨?reclose, ?extremes, ?minmax, ?can⟩⟩
  case reclose =>
    exact answers_act (exec_fldReclose s) ⟨(fldReclose_sets s.dev).rd_of_mem (by simp), (fldReclose_sets s.dev).2, rfl⟩
  case extremes =>
    refine answers_act (exec_fabClearMax n s) ?_
    have only := fabClearMax_setsOnly s.dev n
    have fields := only.onlyFields
    rw [stored_fields, clusterExtremes_fields] at fields
    have read {f : Fld} {v : Nat} (hf : (f, v) ∈ clusterExtremes n.val) :
        (s.dev.fabClearMax n.val).rd f = v % 2 ^ f.wd := only.1.1 (stored (f, v)) (List.mem_map_of_mem hf)
    refine ⟨read (f := R.FAB_RAIL_RAIL_MIN_MV n.val) (v := 0xFFFF) ?_, read (f := R.FAB_TEMP_TJ_MAX n.val) (v := 0x8000) ?_,
      read (f := R.FAB_PACE_MAX_PERIOD_MAX n.val) (v := 0) ?_, read (f := R.FAB_PACE_MAX_SLOWEST_MAX n.val) (v := 0) ?_,
      fun t ht => read (f := R.TILE_PACE_PERIOD_MAX t) (v := 0) (List.mem_append_right _ (List.mem_map_of_mem ht)), fields⟩
    all_goals simp [clusterExtremes]
  case minmax =>
    refine answers_act (exec_faiClearMinmax c s) ?_
    have only := faiClear_setsOnly s.dev c
    exact ⟨only.1.rd_of_mem (by simp), only.1.rd_of_mem (by simp), only.onlyFields⟩
  case can => exact answers_act (exec_canClearCounts p s) (canClearCounts_spec s.dev p)
  all_goals exact clearsOnly_of_tidy rfl (by decide +revert)

end Sys2Proof.Machine

end

section
/-! LAWS. The feeds and the power-fail sequence (O30): a change repeated over an index, the clusters switched off, the
power-fail journal, and the bits of a field that a reset keeps. -/

namespace Sys2Proof.Machine

/-! ### A change repeated over an index -/

theorem each_succ (d : Dev) (n : Nat) (f : Nat → Dev → Dev) : d.each (n + 1) f = f n (d.each n f) := by
  rw [Dev.each, List.range_succ, List.foldl_append]
  rfl

/-- A field that no step changes. -/
theorem each_rd_other {f : Nat → Dev → Dev} {g : Fld} (keeps : ∀ j d, (f j d).rd g = d.rd g) (d : Dev) (n : Nat) :
    (d.each n f).rd g = d.rd g := by
  induction n with
  | zero => rfl
  | succ n ih => rw [each_succ, keeps, ih]

/-- A field that one step sets and no other changes. -/
theorem each_rd_set {f : Nat → Dev → Dev} {g : Fld} {k v : Nat} (sets : ∀ d, (f k d).rd g = v)
    (keeps : ∀ j d, j ≠ k → (f j d).rd g = d.rd g) (d : Dev) {n : Nat} (hk : k < n) : (d.each n f).rd g = v := by
  induction n with
  | zero => exact absurd hk (Nat.not_lt_zero k)
  | succ n ih =>
    rw [each_succ]
    by_cases e : n = k
    · rw [e, sets]
    · rw [keeps n _ e, ih (by omega)]

/-- A second change of registers alone. -/
theorem regs_trans {a b c : Dev} (h1 : b = { a with regs := b.regs }) (h2 : c = { b with regs := c.regs }) :
    c = { a with regs := c.regs } := h2.trans (congrArg (fun x : Dev => { x with regs := c.regs }) h1)

/-- Steps that change registers alone. -/
theorem each_rest {f : Nat → Dev → Dev} (regs : ∀ j d, f j d = { d with regs := (f j d).regs }) (d : Dev) (n : Nat) :
    d.each n f = { d with regs := (d.each n f).regs } := by
  induction n with
  | zero => rfl
  | succ n ih =>
    rw [each_succ]
    exact regs_trans ih (regs n _)

/-! ### Every cluster off (R54) -/

/-- The fields of a cluster that go with its supply. -/
def clusterSupply (k : Nat) : List Fld := [R.FAB_STATUS_POWERED k, R.FAB_STATUS_STARTED k, R.FAB_STATUS_RAIL_OK k]

theorem clusterSupply_tidy (k : Nat) :
    (∀ f ∈ clusterSupply k, f.lo + f.wd ≤ 32) ∧ (clusterSupply k).Pairwise Fld.separate := by
  simp [clusterSupply, Fld.separate, R.FAB_STATUS_POWERED, R.FAB_STATUS_STARTED, R.FAB_STATUS_RAIL_OK]

theorem clusterSupply_off {k : Nat} {f : Fld} (h : f ∈ clusterSupply k) : f.off = 0x10000 + k * 0x400 := by
  simp only [clusterSupply, List.mem_cons, List.not_mem_nil, or_false] at h
  rcases h with rfl | rfl | rfl <;> rfl

/-- The clusters' own fields cleared. -/
def Dev.clustersDown (d : Dev) : Dev := d.each 9 fun k d => d.clear (clusterSupply k)

theorem clustersOff_eq (d : Dev) : d.clustersOff = d.clustersDown.each 144 fun t d => d.drop (R.TILE_STATUS_POWERED t) := rfl

theorem drop_rest (d : Dev) (f : Fld) : d.drop f = { d with regs := (d.drop f).regs } := rfl

/-- Registers alone change. -/
theorem clustersOff_rest (d : Dev) : d.clustersOff = { d with regs := d.clustersOff.regs } := by
  have down : d.clustersDown = { d with regs := d.clustersDown.regs } := each_rest (fun _ => Dev.clear_eq _) d 9
  rw [clustersOff_eq]
  exact regs_trans down (each_rest (fun t d => drop_rest d (R.TILE_STATUS_POWERED t)) _ _)

theorem clustersOff_tile (d : Dev) {t : Nat} (ht : t < 144) : d.clustersOff.rd (R.TILE_STATUS_POWERED t) = 0 := by
  have fit (t : Nat) : (R.TILE_STATUS_POWERED t).lo + (R.TILE_STATUS_POWERED t).wd ≤ 32 := by simp [R.TILE_STATUS_POWERED]
  rw [clustersOff_eq]
  refine each_rd_set (f := fun t d => d.drop (R.TILE_STATUS_POWERED t)) (fun d => ?_) (fun j d hj => ?_) d.clustersDown ht
  · exact Dev.rd_drop d _ (fit t)
  · exact Dev.rd_wr_other d _ _ 0 (fit j) (.inl (by simp only [R.TILE_STATUS_POWERED]; omega))

theorem clustersOff_cluster (d : Dev) {n : Nat} (hn : n < 9) : d.clustersOff.rd (R.FAB_STATUS_POWERED n) = 0 := by
  have tiles (t : Nat) (d : Dev) : (d.drop (R.TILE_STATUS_POWERED t)).rd (R.FAB_STATUS_POWERED n) =
      d.rd (R.FAB_STATUS_POWERED n) :=
    Dev.rd_wr_other d _ _ 0 (by simp [R.TILE_STATUS_POWERED])
      (.inl (by simp only [R.TILE_STATUS_POWERED, R.FAB_STATUS_POWERED]; omega))
  rw [clustersOff_eq, each_rd_other tiles]
  refine each_rd_set (fun d => ?_) (fun j d hj => ?_) d hn
  · obtain ⟨fit, sep⟩ := clusterSupply_tidy n
    exact Dev.rd_clear _ d _ fit sep List.mem_cons_self
  · refine Dev.rd_clear_other _ d _ (clusterSupply_tidy j).1 fun f hf => .inl ?_
    rw [clusterSupply_off hf]
    simp only [R.FAB_STATUS_POWERED]
    omega

/-! ### The power-fail journal (R431) -/

/-- Writes to the flash journal: the recorder may change, and where the flash is worn, one flag. -/
structure Dev.Journals (d e : Dev) : Prop where
  power : e.power = d.power
  cycle : e.cycle = d.cycle
  regs : OtherFields d e [R.LIFE_FLASH_WORN]

theorem Dev.Journals.trans {d e c : Dev} (h : d.Journals e) (h' : e.Journals c) : d.Journals c :=
  ⟨h'.power.trans h.power, h'.cycle.trans h.cycle, (h.regs.trans h'.regs).mono (by simp)⟩

theorem wornFlash_journals (d : Dev) : d.Journals d.wornFlash := by
  unfold Dev.wornFlash
  split
  · exact ⟨rfl, rfl, otherFields_refl d _⟩
  · have worn : OtherFields d (d.raise R.LIFE_FLASH_WORN) [R.LIFE_FLASH_WORN] := otherFields_wr d _ 1 (by decide)
    refine ⟨?_, ?_, worn.trans (otherFields_of_regs (Dev.eventM_regs _ _ _) [])⟩
    · rw [Dev.eventM_power, Dev.raise_power]
    · rw [Dev.eventM_cycle, Dev.raise_cycle]

theorem journalSlot_journals (d : Dev) (k : Nat) (r : EvRec) : d.Journals (d.journalSlot k r) := by
  unfold Dev.journalSlot Dev.flashWrite
  split
  · exact wornFlash_journals d
  · exact ⟨rfl, rfl, otherFields_of_regs rfl _⟩

theorem powerFailJournal_journals (d : Dev) : d.Journals d.powerFailJournal := by
  have slots (l : List (Nat × EvRec)) (d : Dev) :
      d.Journals (l.foldl (fun d p => d.journalSlot p.1 { p.2 with pf := true }) d) := by
    induction l generalizing d with
    | nil => exact ⟨rfl, rfl, otherFields_refl d _⟩
    | cons p l ih => exact (journalSlot_journals d p.1 _).trans (ih _)
  exact (slots _ d).trans ⟨rfl, rfl, otherFields_of_regs rfl _⟩

/-- The journal begins: the recorder closes, the sequence goes on, and no field of the supply changes. -/
theorem beginJournal_shape (d : Dev) :
    d.beginJournal.power = { d.power with pf := .journalling } ∧ d.beginJournal.evrec.closed = true ∧
      d.beginJournal.cycle = d.cycle ∧ OtherFields d d.beginJournal [R.LIFE_FLASH_WORN] := by
  obtain ⟨power, cycle, regs⟩ := powerFailJournal_journals d
  exact ⟨congrArg (fun p : PowerSt => { p with pf := .journalling }) power, rfl, cycle, regs⟩

/-! ### The bits of a field that a reset keeps -/

/-- A field within the bits that a reset keeps. -/
theorem keptField (r x m : Word) {lo wd : Nat} (within : ∀ i < wd, m.getLsbD (lo + i) = true) :
    ((r &&& ~~~m) ||| (x &&& m)).toNat / 2 ^ lo % 2 ^ wd = x.toNat / 2 ^ lo % 2 ^ wd := by
  refine Nat.eq_of_testBit_eq fun i => ?_
  rw [testBit_field, testBit_field, BitVec.testBit_toNat, BitVec.testBit_toNat]
  by_cases hi : i < wd
  · rw [BitVec.getLsbD_or, BitVec.getLsbD_and, BitVec.getLsbD_and, BitVec.getLsbD_not, within i hi, Bool.not_true,
      Bool.and_false, Bool.and_false, Bool.false_or, Bool.and_true]
  · simp only [hi, decide_false, Bool.false_and]

/-- A reset keeps a field of the kept bits; a sequence that it ends in the ride-through has written no slot (R57). -/
theorem moduleReset_rd (d : Dev) (c : ResetCause) {f : Fld} {m : Nat} (kept : (f.off, m) ∈ keptBits) (other : f.off ≠ 0x10)
    (within : ∀ i < f.wd, (BitVec.ofNat 32 m).getLsbD (f.lo + i) = true) : (d.moduleReset c).rd f = d.unsaved.rd f := by
  rw [Dev.rd, moduleReset_word d c other, keepRegs_kept d.unsaved.regs kept]
  exact keptField _ _ _ within

/-! ### Flags of one bit -/

theorem Sets.drop {d e : Dev} {fs : List (Fld × Nat)} (h : Sets d e fs) (f : Fld) (fit : f.lo + f.wd ≤ 32)
    (sep : ∀ p ∈ fs, f.separate p.1) : Sets d (e.drop f) (fs ++ [(f, 0)]) := by
  have dropped := h.wr f 0 fit sep
  rwa [Nat.zero_mod] at dropped

theorem Sets.raise {d e : Dev} {fs : List (Fld × Nat)} (h : Sets d e fs) (f : Fld) (fit : f.lo + f.wd ≤ 32) (pos : 0 < f.wd)
    (sep : ∀ p ∈ fs, f.separate p.1) : Sets d (e.raise f) (fs ++ [(f, 1)]) := by
  have raised := h.wr f 1 fit sep
  rwa [Nat.mod_eq_of_lt (Nat.one_lt_two_pow (by omega))] at raised

/-! ### The feeds (R48, R55) -/

theorem exec_feedGood (s : State) (x : Fin 2) : exec (.feedGood x) s = s.act (·.feedGood x.val) := rfl
theorem exec_feedLost (s : State) (x : Fin 2) : exec (.feedLost x) s = s.act (·.feedLost x.val false) := rfl
theorem exec_feedOvervoltage (s : State) (x : Fin 2) : exec (.feedOvervoltage x) s = s.act (·.feedLost x.val true) := rfl
theorem exec_feedDip (s : State) (x : Fin 2) : exec (.feedDip x) s = s.act (·.feedDip x.val) := rfl

section
variable (d : Dev) (x : Fin 2)

/-- A feed's flags are two bits of one register. -/
theorem feedFlds_fit :
    ((feedGoodFld x.val).lo + (feedGoodFld x.val).wd ≤ 32 ∧ 0 < (feedGoodFld x.val).wd) ∧
      (feedLostFld x.val).lo + (feedLostFld x.val).wd ≤ 32 ∧ 0 < (feedLostFld x.val).wd := by
  decide +revert

theorem feedFlds_apart : (feedLostFld x.val).separate (feedGoodFld x.val) ∧
    ∀ f ∈ [feedGoodFld x.val, feedLostFld x.val], f.separate (feedGoodFld (1 - x.val)) := by
  decide +revert

/-- They share no bit with the flags of the bank. -/
theorem feedFlds_bank : ∀ f ∈ [feedGoodFld x.val, feedLostFld x.val],
    f.separate R.POWER_HOLDUP_READY ∧ R.POWER_RIDE_THROUGH.separate f := by
  decide +revert

/-- Whether a feed, and whether the other feed, has been declared lost. -/
def Dev.feedIsLost : Bool := if x = 0 then d.power.lostA else d.power.lostB
def Dev.otherIsLost : Bool := if x = 0 then d.power.lostB else d.power.lostA

theorem setLost_feedIsLost (b : Bool) : (d.setLost x.val b).feedIsLost x = b := by
  match x with
  | 0 => rfl
  | 1 => rfl

theorem setLost_otherIsLost (b : Bool) : (d.setLost x.val b).otherIsLost x = d.otherIsLost x := by
  match x with
  | 0 => rfl
  | 1 => rfl

theorem setLost_lit (b : Bool) : (d.setLost x.val b).lit = d.lit := by
  match x with
  | 0 => rfl
  | 1 => rfl

theorem bothLost_eq : d.bothLost = (d.feedIsLost x && d.otherIsLost x) := by
  match x with
  | 0 => rfl
  | 1 => exact Bool.and_comm _ _

/-- FEED_GOOD shows the feed as good; its loss is over and its input switch closed. -/
theorem feedGood_shape :
    Sets d (d.feedGood x.val) [(feedGoodFld x.val, 1)] ∧ (d.feedGood x.val).feedIsLost x = false ∧
      d.feedGood x.val = { d with
        regs := (d.feedGood x.val).regs
        power := if x = 0 then { d.power with lostA := false, switchOpenA := false }
          else { d.power with lostB := false, switchOpenB := false } } := by
  obtain ⟨⟨fit, pos⟩, -⟩ := feedFlds_fit x
  refine ⟨((sets_nil d).raise _ fit pos (by simp)).of_regs rfl, ?_⟩
  match x with
  | 0 => exact ⟨rfl, rfl⟩
  | 1 => exact ⟨rfl, rfl⟩

/-- The loss of a feed as a lit module shows it. -/
def Dev.feedGone (d : Dev) (x : Nat) : Dev := ((d.drop (feedGoodFld x)).raise (feedLostFld x)).setLost x true

theorem feedGone_sets : Sets d (d.feedGone x.val) [(feedGoodFld x.val, 0), (feedLostFld x.val, 1)] := by
  obtain ⟨⟨fitG, -⟩, fitL, pos⟩ := feedFlds_fit x
  have sep := (feedFlds_apart x).1
  exact (((sets_nil d).drop _ fitG (by simp)).raise _ fitL pos (by simpa using sep)).of_regs rfl

theorem feedGone_rest : d.feedGone x.val = { d with
    regs := (d.feedGone x.val).regs, power := (d.feedGone x.val).power } := rfl

theorem feedGone_pf {p : PfStep} (h : d.power.pf = p) : (d.feedGone x.val).power.pf = p := by
  match x with
  | 0 => exact h
  | 1 => exact h

theorem feedGone_isLost : (d.feedGone x.val).feedIsLost x = true := setLost_feedIsLost _ x true

theorem feedGone_bothLost : (d.feedGone x.val).bothLost = d.otherIsLost x := by
  rw [bothLost_eq _ x, feedGone_isLost, Bool.true_and]
  exact setLost_otherIsLost _ x true

/-- What the loss of one feed leaves as it shows. -/
theorem feedGone_on {f : Fld} (sep : ∀ g ∈ [feedGoodFld x.val, feedLostFld x.val], g.separate f) :
    (d.feedGone x.val).on f = d.on f := by
  rw [Dev.on, (feedGone_sets d x).2 f sep, Dev.on]

end

section
variable {d : Dev} (x : Fin 2)

theorem feedLost_lit (lit : d.lit = true) :
    d.feedLost x.val false =
      if d.otherIsLost x then (d.feedGone x.val).beginPowerFail
      else if d.on (feedGoodFld (1 - x.val)) then (d.feedGone x.val).eventM .feedLost [w32 x.val]
      else d.feedGone x.val := by
  have gone : ((d.drop (feedGoodFld x.val)).when d.lit fun d => d.raise (feedLostFld x.val)).setLost x.val true =
      d.feedGone x.val := by
    rw [Dev.when, if_pos lit, Dev.feedGone]
  have stillLit : (d.feedGone x.val).lit = true := (setLost_lit _ x true).trans lit
  simp only [Dev.feedLost, gone, stillLit, Bool.not_true, Bool.false_eq_true, if_false, feedGone_bothLost,
    feedGone_on d x (feedFlds_apart x).2]

/-- The overvoltage of a feed as an unlit module takes it. -/
def Dev.overvolted (d : Dev) (x : Nat) : Dev :=
  ((d.drop (feedGoodFld x)).setLost x true).onPower fun p =>
    if x = 0 then { p with switchOpenA := true } else { p with switchOpenB := true }

theorem overvolted_lit (d : Dev) : (d.overvolted x.val).lit = d.lit := by
  match x with
  | 0 => rfl
  | 1 => rfl

theorem feedOvervoltage_unlit (unlit : d.lit = false) : d.feedLost x.val true = d.overvolted x.val := by
  have dropped : (d.drop (feedGoodFld x.val)).when d.lit (fun d => d.raise (feedLostFld x.val)) =
      d.drop (feedGoodFld x.val) := by
    rw [unlit]
    rfl
  simp only [Dev.feedLost, dropped, if_true]
  exact if_pos (by rw [← Dev.overvolted, overvolted_lit, unlit]; rfl)

/-- GOOD falls, the feed is lost and its input switch open. -/
theorem overvolted_shape (d : Dev) :
    SetsOnly { d with power := (d.overvolted x.val).power } (d.overvolted x.val) [(feedGoodFld x.val, 0)] ∧
      (d.overvolted x.val).feedIsLost x = true ∧
      (if x = 0 then (d.overvolted x.val).power.switchOpenA else (d.overvolted x.val).power.switchOpenB) = true := by
  obtain ⟨⟨fit, -⟩, -⟩ := feedFlds_fit x
  refine ⟨⟨((sets_nil _).drop _ fit (by simp)).of_regs rfl, rfl⟩, ?_⟩
  match x with
  | 0 => exact ⟨rfl, rfl⟩
  | 1 => exact ⟨rfl, rfl⟩

/-- Both feeds lost with the bank not charged: reset at once, with no slot written (R57). -/
theorem beginPowerFail_unready {d : Dev} (h : d.on R.POWER_HOLDUP_READY = false) :
    d.beginPowerFail.role = .stopped ∧ d.beginPowerFail.power.powered = false ∧
      d.beginPowerFail.rd R.RESET_CAUSE_CAUSE = 2 ∧ d.beginPowerFail.rd R.POWER_LAST_PF_SAVED = 0 ∧
      d.beginPowerFail.rd R.POWER_LAST_PF_INCOMPLETE = 0 := by
  let unwritten := d.clear [R.POWER_LAST_PF_SAVED, R.POWER_LAST_PF_INCOMPLETE]
  have reset : d.beginPowerFail = unwritten.moduleReset .holdup := by
    rw [Dev.beginPowerFail, h]
    rfl
  have slot {f : Fld} (hf : f ∈ [R.POWER_LAST_PF_SAVED, R.POWER_LAST_PF_INCOMPLETE]) : unwritten.unsaved.rd f = 0 := by
    unfold Dev.unsaved
    split <;> exact Dev.rd_clear _ _ _ (by decide) (by decide) hf
  obtain ⟨role, -⟩ := moduleReset_taken unwritten .holdup
  rw [reset]
  refine ⟨rfl, Bool.and_false _, moduleReset_cause _ _, ?_, ?_⟩
  · rw [moduleReset_rd (f := R.POWER_LAST_PF_SAVED) (m := 0xC53) _ _ (by decide) (by decide) (by decide), slot (by decide)]
  · rw [moduleReset_rd (f := R.POWER_LAST_PF_INCOMPLETE) (m := 0xC53) _ _ (by decide) (by decide) (by decide),
      slot (by decide)]

/-- A dip ends the ride-through (R55). -/
theorem feedDip_shape (lit : d.lit = true) (riding : d.power.pf = .rideThrough) :
    Sets d (d.feedDip x.val) [(R.POWER_RIDE_THROUGH, 0)] ∧ (d.feedDip x.val).feedIsLost x = false ∧
      (d.feedDip x.val).power.pf = .idle ∧ Presents d (d.feedDip x.val) [(.feedDip, source 0 0)] := by
  have shape : d.feedDip x.val = ((((d.setLost x.val false).drop R.POWER_RIDE_THROUGH).eventM .feedDip).onPower
      fun p => { p with pf := .idle }) := by
    rw [Dev.feedDip, lit, riding]
    rfl
  rw [shape]
  refine ⟨?_, setLost_feedIsLost d x false, rfl, _, rfl, rfl⟩
  exact ((sets_nil d).of_regs (e' := d.setLost x.val false) rfl |>.drop _ (by decide) (by simp)).of_regs rfl

end

/-! ### The ride-through, the commit and the bank (R53 to R55) -/

/-- Both feeds lost with the bank charged: the ride-through begins (R54). -/
theorem beginPowerFail_idle {d : Dev} (ready : d.on R.POWER_HOLDUP_READY = true) (idle : d.power.pf = .idle) :
    d.beginPowerFail.regs = (d.raise R.POWER_RIDE_THROUGH).regs ∧
      d.beginPowerFail.power = { d.power with pf := .rideThrough } ∧
      Presents d d.beginPowerFail [(.bothFeedsLost, source 0 0)] := by
  rw [Dev.beginPowerFail, ready, idle]
  exact ⟨by simp [Dev.onPower], by simp [Dev.onPower], _, rfl, rfl⟩

/-- The commit: the power-fail flags fall, the gate links idle, and POWER_FAIL is recorded. -/
theorem commitPower_shape {d : Dev} (live : d.on R.EVREC_STATUS_FROZEN = false) :
    Sets d d.commitPower [(R.POWER_RIDE_THROUGH, 0), (R.POWER_LAST_PF_SAVED, 0), (R.POWER_LAST_PF_INCOMPLETE, 0)] ∧
      d.commitPower.power = { d.power with pf := .committed } ∧ (∀ p ∈ d.commitPower.loop.links, p.2.sent = none) ∧
      Presents d d.commitPower [(.powerFail, source 0 0)] := by
  have thawed : d.endFreeze = d := by
    rw [Dev.endFreeze, live]
    rfl
  rw [Dev.commitPower, thawed]
  refine ⟨?_, ?_, ?_, ?_⟩
  · exact ((((sets_nil d).drop R.POWER_RIDE_THROUGH (by decide) (by simp)).drop R.POWER_LAST_PF_SAVED (by decide)
      (by decide)).drop R.POWER_LAST_PF_INCOMPLETE (by decide) (by decide)).of_regs rfl
  · rw [Dev.clear_eq]
    rfl
  · intro p hp
    obtain ⟨q, -, rfl⟩ := List.mem_map.1 hp
    rfl
  · rw [Dev.clear_eq]
    exact ⟨_, rfl, rfl⟩

/-- The bank is charged: its capacitance shows, and a weak bank is recorded (R53). -/
theorem holdupCharged_eq {d : Dev} {cap : Nat} (alive : d.alive = true) (role : d.role ≠ .starting) :
    d.holdupCharged cap =
      let e := (d.wr R.POWER_HOLDUP_CAP cap).raise R.POWER_HOLDUP_READY
      if cap < 85 then e.eventM .holdupLow else e := by
  have noStart (e : Dev) (h : e.role = d.role) : e.enterSolo = e := by
    rw [Dev.enterSolo, Dev.isStarting, h]
    simp [role]
  simp only [Dev.holdupCharged, alive, Bool.not_true, Bool.false_eq_true, if_false]
  refine noStart _ ?_
  split
  · rw [Dev.eventM_role, Dev.raise_role, Dev.wr_role]
  · rw [Dev.raise_role, Dev.wr_role]

theorem bankShown_sets (d : Dev) (cap : Byte) :
    SetsOnly d ((d.wr R.POWER_HOLDUP_CAP cap.toNat).raise R.POWER_HOLDUP_READY)
      [(R.POWER_HOLDUP_CAP, cap.toNat), (R.POWER_HOLDUP_READY, 1)] := by
  have small : cap.toNat % 2 ^ R.POWER_HOLDUP_CAP.wd = cap.toNat := Nat.mod_eq_of_lt cap.isLt
  have shown := (setsOnly_nil d).wr R.POWER_HOLDUP_CAP cap.toNat (by decide) (by simp)
  rw [small] at shown
  exact shown.wr R.POWER_HOLDUP_READY 1 (by decide) (by simp; decide)

/-- A record after fields that are set. -/
theorem SetsOnly.eventM {d e : Dev} {fs : List (Fld × Nat)} (h : SetsOnly d e fs) (ev : Ev) :
    SetsAndTells d (e.eventM ev) fs [(ev, source 0 0)] := by
  obtain ⟨sets, rest⟩ := h
  refine ⟨sets.of_regs (Dev.eventM_regs _ _ _), ?_, ?_⟩
  · rw [rest]
    exact presents_event _ _ _ _
  · rw [rest]
    rfl

/-! ### The end of the cycle and the save (R54, R208, R431) -/

/-- The module at the end of its last cycle: the tiles halt and the clusters are off. -/
def Dev.darkened (d : Dev) : Dev :=
  { d with tiles := d.tiles.map fun (p : Nat × Tile) => (p.1, p.2.halt) }.clustersOff

theorem darkened_rest (d : Dev) : d.darkened = { d with
    regs := d.darkened.regs, tiles := d.tiles.map fun (p : Nat × Tile) => (p.1, p.2.halt) } := clustersOff_rest _

theorem darkened_cycle (d : Dev) : d.darkened.cycle = d.cycle := by rw [darkened_rest]

section
variable {d : Dev} (between : d.cycle.began = false)
include between

/-- Between cycles nothing completes: the frozen copy is saved, or with none the journal is written. -/
theorem freezeRetain_copy {c : DWord × List (Nat × List Byte)} (copy : d.cycle.copy = some c) :
    d.freezeRetain = d.darkened.beginSave c := by
  simp only [Dev.freezeRetain, between, Bool.and_false, Bool.false_and, Bool.false_eq_true, if_false]
  rw [← Dev.darkened, darkened_cycle, copy]

theorem freezeRetain_noCopy (copy : d.cycle.copy = none) : d.freezeRetain = d.darkened.beginJournal := by
  simp only [Dev.freezeRetain, between, Bool.and_false, Bool.false_and, Bool.false_eq_true, if_false]
  rw [← Dev.darkened, darkened_cycle, copy]

end

/-- A slot as a save writes it: not yet complete, not consumed, and intact. -/
theorem retainSave_intact (n : Word) (digest : Nat) (c : DWord × List (Nat × List Byte)) :
    (retainSave n digest c).intact = true := by
  simp only [RetainSlot.intact, retainSave, RetainSlot.covered, decide_true, Bool.and_self]

theorem suspendErase_rest (d : Dev) : d.suspendErase = { d with regs := d.suspendErase.regs } := by
  unfold Dev.suspendErase
  split <;> rfl

theorem suspendErase_rd (d : Dev) {f : Fld} (h : R.LIFE_ERASE_SUSPENDS.separate f) : d.suspendErase.rd f = d.rd f := by
  unfold Dev.suspendErase
  split
  · rfl
  · exact Dev.rd_wr_other d _ f _ (by decide) h

/-- The slot that a save goes to depends on the slots alone. -/
theorem saveSlot_of_cycle {d e : Dev} (h : e.cycle = d.cycle) : e.saveSlot = d.saveSlot := by
  simp only [Dev.saveSlot, Dev.newerRetain, h]

/-- The save begins, with the slot that it writes. -/
theorem beginSave_eq {d : Dev} (c : DWord × List (Nat × List Byte)) (pool : d.poolEmpty = false) :
    d.beginSave c = { d.suspendErase.raise R.POWER_LAST_PF_INCOMPLETE with
      power := { d.power with pf := .saving }
      cycle := { d.cycle with
        slots := oput d.cycle.slots d.saveSlot.1 (retainSave d.saveSlot.2 d.image.retainDigest c)
        saving := some d.saveSlot.1 } } := by
  have suspended := suspendErase_rest d
  have same : d.suspendErase.saveSlot = d.saveSlot := saveSlot_of_cycle (by rw [suspended])
  have image : d.suspendErase.image = d.image := by rw [suspended]; rfl
  have power : d.suspendErase.power = d.power := by rw [suspended]
  have cycle : d.suspendErase.cycle = d.cycle := by rw [suspended]
  simp only [Dev.beginSave, pool, Bool.false_eq_true, if_false, same, image]
  rw [← power, ← cycle]
  rfl

/-- A field of the supply or the clusters after the save has begun. -/
theorem beginSave_rd {d : Dev} (c : DWord × List (Nat × List Byte)) (pool : d.poolEmpty = false) (f : Fld) :
    (d.beginSave c).rd f = (d.suspendErase.raise R.POWER_LAST_PF_INCOMPLETE).rd f :=
  Dev.rd_of_regs (by rw [beginSave_eq c pool]) f

theorem beginSave_rd_other {d : Dev} (c : DWord × List (Nat × List Byte)) (pool : d.poolEmpty = false) {f : Fld}
    (h1 : R.LIFE_ERASE_SUSPENDS.separate f) (h2 : R.POWER_LAST_PF_INCOMPLETE.separate f) :
    (d.beginSave c).rd f = d.rd f := by
  rw [beginSave_rd c pool, Dev.raise, Dev.rd_wr_other _ _ f 1 (by decide) h2, suspendErase_rd d h1]

/-- The flags of a save that is complete, as it shows on a module. -/
theorem savedFlags (d : Dev) : Sets d ((d.raise R.POWER_LAST_PF_SAVED).drop R.POWER_LAST_PF_INCOMPLETE)
    [(R.POWER_LAST_PF_SAVED, 1), (R.POWER_LAST_PF_INCOMPLETE, 0)] :=
  ((sets_nil d).raise R.POWER_LAST_PF_SAVED (by decide) (by decide) (by simp)).drop R.POWER_LAST_PF_INCOMPLETE
    (by decide) (by decide)

/-- The journal leaves the flags of the save. -/
theorem savedJournal_shape {d e : Dev} (flags : Sets d e [(R.POWER_LAST_PF_SAVED, 1), (R.POWER_LAST_PF_INCOMPLETE, 0)]) :
    e.beginJournal.rd R.POWER_LAST_PF_SAVED = 1 ∧ e.beginJournal.rd R.POWER_LAST_PF_INCOMPLETE = 0 := by
  obtain ⟨-, -, -, others⟩ := beginJournal_shape e
  rw [others R.POWER_LAST_PF_SAVED (by decide), others R.POWER_LAST_PF_INCOMPLETE (by decide)]
  exact ⟨flags.rd_of_mem (by simp), flags.rd_of_mem (by simp)⟩

/-- The saved slot is complete, and the journal is written (R208, R431). -/
theorem pfRetainSaved_shape {d : Dev} {k : Nat} {y : RetainSlot} (lit : d.lit = true) (pf : d.power.pf = .saving)
    (saving : d.cycle.saving = some k) (slot : oget d.cycle.slots k = some y) :
    d.pfRetainSaved.power.pf = .journalling ∧ d.pfRetainSaved.evrec.closed = true ∧
      d.pfRetainSaved.cycle.saving = none ∧ oget d.pfRetainSaved.cycle.slots k = some { y with complete := true } ∧
      d.pfRetainSaved.rd R.POWER_LAST_PF_SAVED = 1 ∧ d.pfRetainSaved.rd R.POWER_LAST_PF_INCOMPLETE = 0 := by
  simp only [Dev.pfRetainSaved, saving, lit, pf, decide_true, Bool.and_self, if_true, Dev.onCycle, slot]
  have flags := savedFlags { d with cycle := { d.cycle with
    slots := oput d.cycle.slots k { y with complete := true }, saving := none } }
  obtain ⟨power, closed, cycle, -⟩ := beginJournal_shape
    (({ d with cycle := { d.cycle with
      slots := oput d.cycle.slots k { y with complete := true }, saving := none } }.raise R.POWER_LAST_PF_SAVED).drop
        R.POWER_LAST_PF_INCOMPLETE)
  rw [cycle]
  exact ⟨congrArg PowerSt.pf power, closed, by simp, by simp, savedJournal_shape flags⟩

/-! ### The obligation -/

theorem exec_powerFailCommit (s : State) : exec .powerFailCommit s = s.act Dev.powerFailCommit := rfl
theorem exec_pfCycleEnd (s : State) : exec .pfCycleEnd s = s.act Dev.pfCycleEnd := rfl
theorem exec_pfRetainSaved (s : State) : exec .pfRetainSaved s = s.act Dev.pfRetainSaved := rfl
theorem exec_holdupCharged (s : State) (cap : Byte) :
    exec (.holdupCharged cap) s = s.act (·.holdupCharged cap.toNat) := rfl

theorem pfCycleEnd_committed {d : Dev} (lit : d.lit = true) (pf : d.power.pf = .committed) :
    d.pfCycleEnd = d.freezeRetain := by
  rw [Dev.pfCycleEnd, lit, pf]
  rfl

theorem powerFailCommit_riding {d : Dev} (lit : d.lit = true) (pf : d.power.pf = .rideThrough) :
    d.powerFailCommit = d.commitPower := by
  rw [Dev.powerFailCommit, lit, pf]
  rfl

/-- The end of the last cycle with a frozen copy: the clusters go off and the copy is being saved. -/
theorem pfCycleEnd_saves {d : Dev} {c : DWord × List (Nat × List Byte)} (lit : d.lit = true)
    (pf : d.power.pf = .committed) (between : d.cycle.began = false) (copied : d.cycle.copy = some c)
    (pool : d.poolEmpty = false) :
    d.pfCycleEnd.power.pf = .saving ∧ d.pfCycleEnd.cycle.saving = some d.saveSlot.1 ∧
      d.pfCycleEnd.rd R.POWER_LAST_PF_INCOMPLETE = 1 ∧
      oget d.pfCycleEnd.cycle.slots d.saveSlot.1 = some (retainSave d.saveSlot.2 d.image.retainDigest c) ∧
      ∀ f : Fld, R.LIFE_ERASE_SUSPENDS.separate f → R.POWER_LAST_PF_INCOMPLETE.separate f →
        d.pfCycleEnd.rd f = d.darkened.rd f := by
  have dark : d.darkened.poolEmpty = false := by rw [Dev.poolEmpty, darkened_rest]; exact pool
  have slot : d.darkened.saveSlot = d.saveSlot := saveSlot_of_cycle (darkened_cycle d)
  have image : d.darkened.image = d.image := by rw [darkened_rest]; rfl
  rw [pfCycleEnd_committed lit pf, freezeRetain_copy between copied]
  refine ⟨?_, ?_, ?_, ?_, fun f h1 h2 => beginSave_rd_other c dark h1 h2⟩
  · rw [beginSave_eq c dark]
  · rw [beginSave_eq c dark, slot]
  · rw [beginSave_rd c dark, Dev.rd_raise _ _ (by decide) (by decide)]
  · rw [beginSave_eq c dark, slot, image, oget_oput_same]

/-- Settles O30, clause by clause. -/
theorem feedsAndPowerFail : Obligations.FeedsAndPowerFail := by
  intro s x k y cap copy
  have gone := feedGone_sets s.dev x
  have isLost := feedGone_isLost s.dev x
  have charged := feedGone_on s.dev x fun f hf => (feedFlds_bank x f hf).1
  refine ⟨?_, fun lit other good => ?_, fun lit other good => ?_, fun lit other ready idle => ?_, fun lit other ready => ?_,
    fun unlit => ?_, fun lit riding => ?_, fun lit riding live => ?_, fun lit pf between copied pool => ?_,
    fun lit pf between copied => ?_, fun lit pf saving slot => ?_, fun alive role strong => ?_, fun alive role weak => ?_⟩
  · exact answers_act (exec_feedGood s x) (feedGood_shape s.dev x)
  · refine answers_act (exec_feedLost s x) ?_
    rw [feedLost_lit x lit, Dev.otherIsLost, other, good]
    exact ⟨gone.of_regs rfl, isLost, presents_event _ _ _ _⟩
  · refine answers_act (exec_feedLost s x) ?_
    rw [feedLost_lit x lit, Dev.otherIsLost, other, good]
    exact ⟨⟨gone, feedGone_rest s.dev x⟩, isLost⟩
  · refine answers_act (exec_feedLost s x) ?_
    obtain ⟨regs, power, presents⟩ := beginPowerFail_idle (charged.trans ready) (feedGone_pf s.dev x idle)
    have riding := gone.raise R.POWER_RIDE_THROUGH (by decide) (by decide)
      fun p hp => (feedFlds_bank x p.1 (List.mem_map_of_mem (f := Prod.fst) hp)).2
    have stillLost : (s.dev.feedGone x.val).beginPowerFail.feedIsLost x = true := by
      rw [Dev.feedIsLost, power]
      exact isLost
    rw [feedLost_lit x lit, Dev.otherIsLost, other, if_pos rfl]
    exact ⟨riding.of_regs regs, stillLost, congrArg PowerSt.pf power, presents⟩
  · refine answers_act (exec_feedLost s x) ?_
    rw [feedLost_lit x lit, Dev.otherIsLost, other, if_pos rfl]
    exact beginPowerFail_unready (charged.trans ready)
  · refine answers_act (exec_feedOvervoltage s x) ?_
    rw [feedOvervoltage_unlit x unlit]
    exact overvolted_shape x s.dev
  · exact answers_act (exec_feedDip s x) (feedDip_shape x lit riding)
  · refine answers_act (exec_powerFailCommit s) ?_
    rw [powerFailCommit_riding lit riding]
    exact commitPower_shape live
  · refine answers_act (exec_pfCycleEnd s) ?_
    obtain ⟨saving, slot, incomplete, saved, others⟩ := pfCycleEnd_saves lit pf between copied pool
    refine ⟨saving, slot, incomplete, ⟨_, saved, rfl, rfl, rfl, rfl, rfl, rfl, retainSave_intact _ _ _⟩, fun n hn => ?_,
      fun t ht => ?_⟩
    · rw [others _ (.inl ?_) (.inl ?_)]
      · exact clustersOff_cluster _ hn
      all_goals simp only [R.LIFE_ERASE_SUSPENDS, R.POWER_LAST_PF_INCOMPLETE, R.FAB_STATUS_POWERED]; omega
    · rw [others _ (.inl ?_) (.inl ?_)]
      · exact clustersOff_tile _ ht
      all_goals simp only [R.LIFE_ERASE_SUSPENDS, R.POWER_LAST_PF_INCOMPLETE, R.TILE_STATUS_POWERED]; omega
  · refine answers_act (exec_pfCycleEnd s) ?_
    rw [pfCycleEnd_committed lit pf, freezeRetain_noCopy between copied]
    obtain ⟨power, closed, -⟩ := beginJournal_shape s.dev.darkened
    exact ⟨congrArg PowerSt.pf power, closed⟩
  · exact answers_act (exec_pfRetainSaved s) (pfRetainSaved_shape lit pf saving slot)
  · refine answers_act (exec_holdupCharged s cap) ?_
    simp only [holdupCharged_eq alive role, Nat.not_lt.2 strong, if_false]
    exact bankShown_sets s.dev cap
  · refine answers_act (exec_holdupCharged s cap) ?_
    simp only [holdupCharged_eq alive role, weak, if_true]
    exact (bankShown_sets s.dev cap).eventM .holdupLow

end Sys2Proof.Machine
end

section
/-! LAWS. A part of the module that a change keeps; what the end of a freeze keeps, and what the writes that wait for a
boundary keep of the role: no register's action changes it (R428, R483, R486). One law for each function of the model that
they come to. -/

namespace Sys2Proof.Machine

/-! ### A part that is kept -/

/-- A part of the module is in the second module what it is in the first. -/
def Dev.Keeps {α : Type} (part : Dev → α) (d e : Dev) : Prop := part e = part d

namespace Dev.Keeps

variable {α : Type} {part : Dev → α} {d₀ d : Dev}

theorem refl : d.Keeps part d := rfl

/-- A change that leaves the part. -/
theorem same {e : Dev} (h : d₀.Keeps part d) (w : part e = part d) : d₀.Keeps part e := w.trans h

theorem ite {c : Prop} [Decidable c] {a b : Dev} (ha : d₀.Keeps part a) (hb : d₀.Keeps part b) :
    d₀.Keeps part (if c then a else b) := by
  split
  · exact ha
  · exact hb

theorem foldlMem {β : Type} {f : Dev → β → Dev} {l : List β} (h : d₀.Keeps part d)
    (hf : ∀ x, ∀ a ∈ l, d₀.Keeps part x → d₀.Keeps part (f x a)) : d₀.Keeps part (l.foldl f d) := by
  induction l generalizing d with
  | nil => exact h
  | cons a l ih => exact ih (hf d a List.mem_cons_self h) fun x b hb => hf x b (List.mem_cons_of_mem a hb)

theorem foldl {β : Type} {f : Dev → β → Dev} {l : List β} (h : d₀.Keeps part d)
    (hf : ∀ x a, d₀.Keeps part x → d₀.Keeps part (f x a)) : d₀.Keeps part (l.foldl f d) :=
  .foldlMem h fun x a _ hx => hf x a hx

theorem each {n f} (h : d₀.Keeps part d) (hf : ∀ k x, d₀.Keeps part x → d₀.Keeps part (f k x)) :
    d₀.Keeps part (d.each n f) :=
  .foldl h fun _ _ hx => hf _ _ hx

theorem when {c f} (h : d₀.Keeps part d) (hf : ∀ x, d₀.Keeps part x → d₀.Keeps part (f x)) :
    d₀.Keeps part (d.when c f) :=
  .ite (hf _ h) h

end Dev.Keeps

/-! ### The end of a freeze (R428) -/

/-- The module without its registers, its recorder and its historian. -/
def Dev.unrecorded (d : Dev) : Dev := { d with regs := [], evrec := {}, hist := {} }

/-- The recorder has taken records: nothing else has changed. -/
def Dev.Records (d e : Dev) : Prop := d.Keeps Dev.unrecorded e

namespace Dev.Records

variable {d₀ d : Dev}

/-- A part of the module that records do not reach is as before. -/
theorem part_eq {α : Type} (h : d₀.Records d) (part : Dev → α)
    (kept : ∀ x : Dev, part x.unrecorded = part x := by intro; rfl) : part d = part d₀ := by
  rw [← kept d, show d.unrecorded = d₀.unrecorded from h, kept d₀]

theorem ite {c : Prop} [Decidable c] {a b : Dev} (ha : d₀.Records a) (hb : d₀.Records b) : d₀.Records (if c then a else b) :=
  Keeps.ite ha hb

theorem foldl {α : Type} {f : Dev → α → Dev} {l : List α} (h : d₀.Records d) (hf : ∀ x a, d₀.Records x → d₀.Records (f x a)) :
    d₀.Records (l.foldl f d) :=
  Keeps.foldl h hf

theorem wr {f v} (h : d₀.Records d) : d₀.Records (d.wr f v) := h
theorem drop {f} (h : d₀.Records d) : d₀.Records (d.drop f) := h
theorem withEvrec {x} (h : d₀.Records d) : d₀.Records { d with evrec := x } := h
theorem withHist {x} (h : d₀.Records d) : d₀.Records { d with hist := x } := h
theorem showRing (h : d₀.Records d) : d₀.Records d.showRing := h
theorem raise {f} (h : d₀.Records d) : d₀.Records (d.raise f) := h
theorem incSat {f} (h : d₀.Records d) : d₀.Records (d.incSat f) := h
theorem dropRecord {r} (h : d₀.Records d) : d₀.Records (d.dropRecord r) := .raise (.incSat h)

theorem onSets {f} (h : d₀.Records d) : d₀.Records (d.onSets f) := by
  have h1 : d₀.Records (if d.setOk 0 then { d with hist := { d.hist with set0 := f d.hist.set0 } } else d) :=
    .ite (.withHist h) h
  exact .ite (.withHist h1) h1

theorem histEvent {r} (h : d₀.Records d) : d₀.Records (d.histEvent r) := .ite (.wr (.onSets h)) h

theorem insertAt {k r} (h : d₀.Records d) : d₀.Records (d.insertAt k r) := .histEvent (.showRing (.wr (.withEvrec h)))

theorem place {r} (h : d₀.Records d) : d₀.Records (Dev.insertRecord.place d r) := by
  refine .ite (.insertAt h) ?_
  split
  · exact .insertAt h
  · exact .dropRecord h

theorem insertRecord {r} (h : d₀.Records d) : d₀.Records (d.insertRecord r) := by
  unfold Dev.insertRecord
  split
  · exact .ite (.histEvent (.withEvrec h)) (.place h)
  · exact .place h

theorem endFreeze (h : d₀.Records d) : d₀.Records d.endFreeze :=
  .ite (.foldl (.drop (.drop (.withEvrec h))) fun _ _ hx => .insertRecord hx) h

end Dev.Records

/-! ### The role over a register's write -/

/-- The role and the writes that wait are as before. -/
def Dev.KeepsRole (d e : Dev) : Prop := d.Keeps (fun x => (x.role, x.mgmt.staged)) e

namespace Dev.KeepsRole

variable {d₀ d : Dev}

theorem role_eq (h : d₀.KeepsRole d) : d.role = d₀.role := congrArg Prod.fst h
theorem staged_eq (h : d₀.KeepsRole d) : d.mgmt.staged = d₀.mgmt.staged := congrArg Prod.snd h

theorem ite {c : Prop} [Decidable c] {a b : Dev} (ha : d₀.KeepsRole a) (hb : d₀.KeepsRole b) :
    d₀.KeepsRole (if c then a else b) :=
  Keeps.ite ha hb

theorem foldl {α : Type} {f : Dev → α → Dev} {l : List α} (h : d₀.KeepsRole d)
    (hf : ∀ x a, d₀.KeepsRole x → d₀.KeepsRole (f x a)) : d₀.KeepsRole (l.foldl f d) :=
  Keeps.foldl h hf

theorem each {n f} (h : d₀.KeepsRole d) (hf : ∀ k x, d₀.KeepsRole x → d₀.KeepsRole (f k x)) :
    d₀.KeepsRole (d.each n f) :=
  Keeps.each h hf

theorem wr {f v} (h : d₀.KeepsRole d) : d₀.KeepsRole (d.wr f v) := h
theorem raise {f} (h : d₀.KeepsRole d) : d₀.KeepsRole (d.raise f) := h
theorem drop {f} (h : d₀.KeepsRole d) : d₀.KeepsRole (d.drop f) := h
theorem flag {f b} (h : d₀.KeepsRole d) : d₀.KeepsRole (d.flag f b) := h
theorem wrSat {f v} (h : d₀.KeepsRole d) : d₀.KeepsRole (d.wrSat f v) := h
theorem incSat {f} (h : d₀.KeepsRole d) : d₀.KeepsRole (d.incSat f) := h
theorem incWrap {f} (h : d₀.KeepsRole d) : d₀.KeepsRole (d.incWrap f) := h
theorem putWord {off w} (h : d₀.KeepsRole d) : d₀.KeepsRole (d.putWord off w) := h
theorem event {e src ps} (h : d₀.KeepsRole d) : d₀.KeepsRole (d.event e src ps) := h
theorem clear {fs} (h : d₀.KeepsRole d) : d₀.KeepsRole (d.clear fs) := .foldl h fun _ _ hx => drop hx
theorem withPower {x} (h : d₀.KeepsRole d) : d₀.KeepsRole { d with power := x } := h
theorem withCycle {x} (h : d₀.KeepsRole d) : d₀.KeepsRole { d with cycle := x } := h
theorem withHist {x} (h : d₀.KeepsRole d) : d₀.KeepsRole { d with hist := x } := h
theorem withTwin {x} (h : d₀.KeepsRole d) : d₀.KeepsRole { d with twin := x } := h
theorem withTiles {x y} (h : d₀.KeepsRole d) : d₀.KeepsRole { d with tiles := x, twin := y } := h
theorem withEvrec {x} (h : d₀.KeepsRole d) : d₀.KeepsRole { d with evrec := x } := h
theorem withFree {x} (h : d₀.KeepsRole d) : d₀.KeepsRole { d with free := x } := h
theorem onTime {f} (h : d₀.KeepsRole d) : d₀.KeepsRole (d.onTime f) := h
theorem onLife {f} (h : d₀.KeepsRole d) : d₀.KeepsRole (d.onLife f) := h
theorem onSlot {k f} (h : d₀.KeepsRole d) : d₀.KeepsRole (d.onSlot k f) := h
theorem onAwl {f} (h : d₀.KeepsRole d) : d₀.KeepsRole (d.onAwl f) := h
theorem onAo {n f} (h : d₀.KeepsRole d) : d₀.KeepsRole (d.onAo n f) := h
theorem onBuf {n b f} (h : d₀.KeepsRole d) : d₀.KeepsRole (d.onBuf n b f) := h
theorem onPort {n f} (h : d₀.KeepsRole d) : d₀.KeepsRole (d.onPort n f) := h
theorem onRep {t r f} (h : d₀.KeepsRole d) : d₀.KeepsRole (d.onRep t r f) := h
theorem putQueue {n q es} (h : d₀.KeepsRole d) : d₀.KeepsRole (d.putQueue n q es) := h
theorem putFlits {t k q} (h : d₀.KeepsRole d) : d₀.KeepsRole (d.putFlits t k q) := h
theorem putOut {t o x} (h : d₀.KeepsRole d) : d₀.KeepsRole (d.putOut t o x) := h
theorem writeStatus {x} (h : d₀.KeepsRole d) : d₀.KeepsRole (d.writeStatus x) := h

/-! ### The fabric and the twin (R74 to R87, R330) -/

theorem downLink {t dir degraded} (h : d₀.KeepsRole d) : d₀.KeepsRole (d.downLink t dir degraded) :=
  .ite (.wr (.wr (.wr h))) (.wr (.wr (.wr h)))

theorem checkRoutes (h : d₀.KeepsRole d) : d₀.KeepsRole d.checkRoutes :=
  .each h fun _ _ hx => .ite (event (raise hx)) hx

theorem sendFlit {t m} (h : d₀.KeepsRole d) : d₀.KeepsRole (d.sendFlit t m) := by
  unfold Dev.sendFlit
  extract_lets +onlyGivenNames _ d1
  have h1 : d₀.KeepsRole d1 := .putFlits h
  exact .putOut (.ite h1 (.putOut h1))

theorem transfer {t out} (h : d₀.KeepsRole d) : d₀.KeepsRole (d.transfer t out) := by
  unfold Dev.transfer
  extract_lets +onlyGivenNames _
  refine .ite h ?_
  extract_lets +onlyGivenNames _ _ _ _ _ _
  split
  · exact h
  · exact .withFree (.sendFlit (.ite (.putOut h) h))

theorem pump {t} (h : d₀.KeepsRole d) : d₀.KeepsRole (d.pump t) := .each h fun _ _ hx => transfer hx

theorem moveReplay {t out} (h : d₀.KeepsRole d) : d₀.KeepsRole (d.moveReplay t out) :=
  .foldl (.putOut h) fun _ _ hx => putFlits hx

theorem loseLink {t dir degraded} (h : d₀.KeepsRole d) : d₀.KeepsRole (d.loseLink t dir degraded) :=
  .foldl (.foldl (.downLink h) fun _ _ hx => moveReplay hx) fun _ _ hx => pump hx

theorem failIn {n bad} (h : d₀.KeepsRole d) : d₀.KeepsRole (d.failIn n bad) :=
  .foldl h fun _ _ hx => .foldl hx fun _ _ hx => .ite (loseLink hx) hx

theorem linkTest {n bad} (h : d₀.KeepsRole d) : d₀.KeepsRole (d.linkTest n bad) :=
  .ite (.checkRoutes (.failIn h)) h

theorem fabClearMax {n} (h : d₀.KeepsRole d) : d₀.KeepsRole (d.fabClearMax n) := .clear (.clear (.wr (.wr h)))

theorem perfClear (h : d₀.KeepsRole d) : d₀.KeepsRole d.perfClear := by
  unfold Dev.perfClear
  split
  · exact .onRep h
  · exact h

theorem setCause {k b} (h : d₀.KeepsRole d) : d₀.KeepsRole (d.setCause k b) := .flag (.wr (.withTwin h))

theorem startCopy (h : d₀.KeepsRole d) : d₀.KeepsRole d.startCopy := by
  unfold Dev.startCopy
  extract_lets +onlyGivenNames d1
  have h1 : d₀.KeepsRole d1 := .setCause h
  exact .ite (.raise (.drop (.wr (.withTiles h1)))) (.drop (.withTiles h1))

/-! ### The time base, the recorder and the historian (R375, R427, R428, R434) -/

theorem refState (h : d₀.KeepsRole d) : d₀.KeepsRole d.refState := .ite (.wr h) h

theorem restartTime {powerUp} (h : d₀.KeepsRole d) : d₀.KeepsRole (d.restartTime powerUp) :=
  .event (.incWrap (.refState (.wr (.raise (.clear (.onTime h))))))

theorem freezeCmd (h : d₀.KeepsRole d) : d₀.KeepsRole d.freezeCmd := by
  have begun {e : Dev} (he : d.beginFreeze = .ok e) : e = d.freeze := by
    unfold Dev.beginFreeze at he
    grind
  unfold Dev.freezeCmd
  split
  next he =>
    rw [begun he]
    exact .raise (.withEvrec h)
  next => exact h

theorem endFreeze (h : d₀.KeepsRole d) : d₀.KeepsRole d.endFreeze :=
  Keeps.same h ((Records.endFreeze Keeps.refl).part_eq fun x => (x.role, x.mgmt.staged))

theorem histRebuild (h : d₀.KeepsRole d) : d₀.KeepsRole d.histRebuild := by
  unfold Dev.histRebuild
  extract_lets +onlyGivenNames _
  split
  · exact .ite h (.foldl (.withFree (.wr (.drop (.wr (.raise h))))) fun _ _ hx => wr hx)
  · exact h

/-! ### The loop engine and local I/O (R243, R258 to R260, R388) -/

theorem awlAbort (h : d₀.KeepsRole d) : d₀.KeepsRole d.awlAbort := .ite (.wr (.raise (.onAwl (.drop h)))) h

theorem awlTrigger (h : d₀.KeepsRole d) : d₀.KeepsRole d.awlTrigger := .wr (.wr (.onAwl h))

theorem awlArm (h : d₀.KeepsRole d) : d₀.KeepsRole d.awlArm := by
  refine .ite (.raise h) ?_
  extract_lets +onlyGivenNames _ _ _ d1
  have h1 : d₀.KeepsRole d1 := .wr (.drop (.withHist (.drop (.onAwl h))))
  exact .ite (.awlTrigger h1) h1

theorem awlStart (h : d₀.KeepsRole d) : d₀.KeepsRole d.awlStart := by
  refine .ite (.raise h) ?_
  split
  · exact .raise h
  · exact .onAwl h

theorem loopFaultReset {k} (h : d₀.KeepsRole d) : d₀.KeepsRole (d.loopFaultReset k) := .ite (.onSlot h) h

theorem aoShow {n} (h : d₀.KeepsRole d) : d₀.KeepsRole (d.aoShow n) := .wr (.ite h (.onAo (.wr h)))

theorem aoFaultReset {n} (h : d₀.KeepsRole d) : d₀.KeepsRole (d.aoFaultReset n) := .aoShow (.drop (.drop h))

/-! ### The CAN ports (R407 to R416) -/

theorem canRecover {n} (h : d₀.KeepsRole d) : d₀.KeepsRole (d.canRecover n) := .ite (.raise h) h

theorem canDiscard {n q} (h : d₀.KeepsRole d) : d₀.KeepsRole (d.canDiscard n q) :=
  .ite (.drop (.drop (.putQueue h))) h

theorem canFlush {n q} (h : d₀.KeepsRole d) : d₀.KeepsRole (d.canFlush n q) := .drop (.drop (.putQueue h))

theorem canBits {v f} (h : d₀.KeepsRole d) (hf : ∀ x y, d₀.KeepsRole y → d₀.KeepsRole (f x y)) :
    d₀.KeepsRole (d.canBits v f) :=
  .foldl h fun _ _ hx => .ite (hf _ _ hx) hx

theorem canRequest {n b} (h : d₀.KeepsRole d) : d₀.KeepsRole (d.canRequest n b) :=
  .ite h (.ite (.raise h) (.onBuf h))

theorem canCancel {n b} (h : d₀.KeepsRole d) : d₀.KeepsRole (d.canCancel n b) :=
  .ite h (.ite (.onBuf (.raise h)) (.onBuf h))

theorem canEdit {n f after} (h : d₀.KeepsRole d) (ha : ∀ x, d₀.KeepsRole x → d₀.KeepsRole (after x)) :
    d₀.KeepsRole (d.canEdit n f after) :=
  .ite h (.ite (.raise h) (ha _ (.onBuf h)))

theorem canWrite {n a v} (h : d₀.KeepsRole d) : d₀.KeepsRole (d.canWrite n a v) := by
  unfold Dev.canWrite
  split
  · exact .canBits h fun _ _ hx => .canRequest hx
  · exact .canBits h fun _ _ hx => .canCancel hx
  · exact .wr (.wr h)
  · exact .canEdit h fun _ hx => hx
  · exact .canEdit h fun _ hx => hx
  · exact .canEdit h fun _ hx => .wr hx
  · exact h

/-! ### Self-test and repair (R468, R474, R481) -/

theorem shutdownTest (h : d₀.KeepsRole d) : d₀.KeepsRole d.shutdownTest :=
  .ite (.raise h) (.ite h (.onLife (.each (.each (.drop (.raise h)) fun _ _ hx => raise hx)
    fun _ _ hx => raise hx)))

theorem fuseCommit (h : d₀.KeepsRole d) : d₀.KeepsRole d.fuseCommit :=
  .ite h (.ite (.writeStatus h) (.ite (.writeStatus h) (.wrSat (.onLife h))))

theorem clearSoft (h : d₀.KeepsRole d) : d₀.KeepsRole d.clearSoft := .ite (.onLife h) h

/-! ### A write and its actions (R483 to R486) -/

theorem countAccess {p off write} (h : d₀.KeepsRole d) : d₀.KeepsRole (d.countAccess p off write) :=
  .flag (.flag (.wr (.incSat h)))

theorem runAction {off k} (h : d₀.KeepsRole d) : d₀.KeepsRole (d.runAction off k) := by
  refine .ite (.withPower (.drop h)) (.ite (.perfClear h) (.ite (.drop h) (.ite
    (.ite (.fabClearMax h) (.ite (.clear h) (.withFree (.linkTest h)))) (.ite
    (.ite (.awlArm h) (.ite (.awlStart h) (.awlAbort h))) (.ite
    (.ite (.loopFaultReset h) (.ite (.clear h) (.clear h))) (.ite (.clear h) (.ite
    (.ite (.clear h) (.ite (.startCopy h) h)) (.ite
    (.ite (.ite (.restartTime h) h) (.ite (.drop h) (.ite (.drop h) (.clear h)))) (.ite
    (.ite (.freezeCmd h) (.ite (.endFreeze h) (.clear h))) (.ite
    (.ite (.histRebuild h) (.clear h)) (.ite (.clear h) (.ite (.ite (.clear h) (.clear h)) (.ite
    (.clear h) (.ite (.ite (.aoFaultReset h) (.clear h)) (.ite (.wr (.wr h)) (.ite ?_ (.ite
    (.ite (.shutdownTest h) (.ite (.fuseCommit h) (.ite (.clearSoft h) (.clear h)))) h)))))))))))))))))
  extract_lets +onlyGivenNames _
  split
  · exact .ite (.canRecover h) (.clear (.onPort h))
  · exact .ite (.canDiscard h) (.ite (.canFlush h) (.drop h))
  · exact .ite (.canDiscard h) (.ite (.canFlush h) (.drop h))
  · exact h

theorem afterWrite {off} (h : d₀.KeepsRole d) : d₀.KeepsRole (d.afterWrite off) :=
  .ite (.refState h) (.ite (.drop h) (.ite (.ite (.withCycle (.drop h)) h) h))

theorem setEvLatch {p ws i} (h : d₀.KeepsRole d) : d₀.KeepsRole (d.setEvLatch p ws i) := by
  unfold Dev.setEvLatch
  split
  · exact .withEvrec h
  · exact .withEvrec h

theorem writeReg {p off v} (h : d₀.KeepsRole d) : d₀.KeepsRole (d.writeReg p off v) := by
  unfold Dev.writeReg
  split
  · exact .countAccess h
  · exact .ite h (.ite (.ite (.canWrite h) h) (.ite (.setEvLatch h)
      (.foldl (.afterWrite (.putWord h)) fun _ _ hx => runAction hx)))

end Dev.KeepsRole

/-- The writes that wait leave the role. -/
theorem applyStaged_role (d : Dev) : d.applyStaged.role = d.role := by
  let taken : Dev := { d with mgmt := { d.mgmt with staged := [] } }
  have written : taken.KeepsRole d.applyStaged := .foldl Dev.Keeps.refl fun _ _ hx => .writeReg hx
  exact written.role_eq

end Sys2Proof.Machine

end

section
/-! LAWS. What outlasts a change of role: the images, the stored copies, the start's steps and the fields of the start. One
law for each function of the model that a change of role comes to. -/

namespace Sys2Proof.Machine

/-! ### What lasts, and the fields that show it -/

/-- The fields that a change of role leaves: the boot slot, the counters since the start, the test's result, and what is
powered. -/
def Fld.Lasting (g : Fld) : Prop :=
  g.off = 0x50 ∨ g.off = 0xCC ∨ (g.off = 0xB4 ∧ 16 ≤ g.lo) ∨ g.off = 0x900008 ∨ (0x10000 ≤ g.off ∧ g.off < 0x124000)

/-- A field that shares no bit with those. -/
abbrev Fld.Passing (f : Fld) : Prop :=
  f.lo + f.wd ≤ 32 ∧ f.off ≠ 0x50 ∧ f.off ≠ 0xCC ∧ (f.off = 0xB4 → f.lo + f.wd ≤ 16) ∧ f.off ≠ 0x900008 ∧
    (f.off < 0x10000 ∨ 0x124000 ≤ f.off)

theorem Fld.Passing.separate {f g : Fld} (hf : f.Passing) (hg : g.Lasting) : f.separate g := by
  obtain ⟨-, boot, count, cycle, test, fabric⟩ := hf
  unfold Fld.Lasting at hg
  unfold Fld.separate
  omega

/-- A field of an array of registers that lies above the tiles. -/
theorem passing_array {base stride n lo wd : Nat} (fit : lo + wd ≤ 32) (above : 0x124000 ≤ base) (step : stride % 16 = 0)
    (place : base % 16 ≠ 8) : Fld.Passing ⟨base + n * stride, lo, wd⟩ := by
  have residue : (base + n * stride) % 16 = base % 16 := by
    rw [Nat.add_mod, Nat.mul_mod, step, Nat.mul_zero, Nat.zero_mod, Nat.add_zero, Nat.mod_mod]
  refine ⟨fit, ?_⟩
  simp only
  omega

/-- What lasts over a change of role, beside those fields. -/
structure Lasting where
  hrn : HrnSt
  staged : List StagedWrite
  named : Option Bool
  epoch : Word
  yielded : Bool
  protect : Option StoredSection
  safety : Option StoredSection
  start : StartSt
  shown : {g : Fld // g.Lasting} → Nat

/-- The steps of the start without its waits. -/
def StartSt.steps (s : StartSt) : StartSt := { s with listening := false, waitingA := false }

/-- What of a module lasts. -/
def Dev.lasting (d : Dev) : Lasting where
  hrn := d.hrn
  staged := d.mgmt.staged
  named := d.cycle.named
  epoch := d.twin.epoch
  yielded := d.twin.yielded
  protect := d.bridle.protect
  safety := d.bridle.safety
  start := d.power.start.steps
  shown := fun g => d.rd g.1

/-- What lasts of a second module is what lasts of the first one. -/
def Dev.Lasts (d e : Dev) : Prop := d.Keeps Dev.lasting e

namespace Dev.Lasts

variable {d₀ d : Dev}

theorem refl : d.Lasts d := rfl

theorem trans {e : Dev} (h : d₀.Lasts d) (h' : d.Lasts e) : d₀.Lasts e := Eq.trans h' h

theorem hrn_eq (h : d₀.Lasts d) : d.hrn = d₀.hrn := congrArg Lasting.hrn h
theorem staged_eq (h : d₀.Lasts d) : d.mgmt.staged = d₀.mgmt.staged := congrArg Lasting.staged h
theorem named_eq (h : d₀.Lasts d) : d.cycle.named = d₀.cycle.named := congrArg Lasting.named h
theorem epoch_eq (h : d₀.Lasts d) : d.twin.epoch = d₀.twin.epoch := congrArg Lasting.epoch h
theorem yielded_eq (h : d₀.Lasts d) : d.twin.yielded = d₀.twin.yielded := congrArg Lasting.yielded h
theorem protect_eq (h : d₀.Lasts d) : d.bridle.protect = d₀.bridle.protect := congrArg Lasting.protect h
theorem safety_eq (h : d₀.Lasts d) : d.bridle.safety = d₀.bridle.safety := congrArg Lasting.safety h
theorem steps_eq (h : d₀.Lasts d) : d.power.start.steps = d₀.power.start.steps := congrArg Lasting.start h

/-- The lasting fields read as before. -/
theorem rd_eq (h : d₀.Lasts d) {g : Fld} (hg : g.Lasting) : d.rd g = d₀.rd g :=
  congrFun (congrArg Lasting.shown h) ⟨g, hg⟩

/-- A change that leaves all of it. -/
theorem same {e : Dev} (h : d₀.Lasts d) (w : e.lasting = d.lasting) : d₀.Lasts e := Keeps.same h w

/-- Driving the outputs leaves it. -/
theorem drives {e : Dev} (h : d₀.Lasts d) (k : d.Drives e) : d₀.Lasts e := by
  have passing : ∀ f ∈ blockFlds, f.Passing := by decide
  have shown (g : {g : Fld // g.Lasting}) : e.rd g.1 = d.rd g.1 := k.shown g.1 fun f hf => (passing f hf).separate g.2
  refine h.same ?_
  simp only [Dev.lasting, shown, k.part_eq (·.hrn), k.part_eq (·.mgmt), k.part_eq (·.cycle), k.part_eq (·.twin),
    k.part_eq (·.bridle.protect), k.part_eq (·.bridle.safety), k.part_eq (·.power)]

/-! ### Choices and repetitions -/

theorem ite {c : Prop} [Decidable c] {a b : Dev} (ha : d₀.Lasts a) (hb : d₀.Lasts b) : d₀.Lasts (if c then a else b) :=
  Keeps.ite ha hb

theorem foldl {α : Type} {f : Dev → α → Dev} {l : List α} (h : d₀.Lasts d) (hf : ∀ x a, d₀.Lasts x → d₀.Lasts (f x a)) :
    d₀.Lasts (l.foldl f d) :=
  Keeps.foldl h hf

theorem each {n f} (h : d₀.Lasts d) (hf : ∀ k x, d₀.Lasts x → d₀.Lasts (f k x)) : d₀.Lasts (d.each n f) :=
  Keeps.each h hf

/-! ### Fields, records and parts of the module -/

theorem wr {f v} (h : d₀.Lasts d) (hf : f.Passing := by decide) : d₀.Lasts (d.wr f v) := by
  have shown (g : {g : Fld // g.Lasting}) : (d.wr f v).rd g.1 = d.rd g.1 :=
    Dev.rd_wr_other d f g.1 v hf.1 (hf.separate g.2)
  exact h.same (by simp only [Dev.lasting, shown, Dev.wr_hrn, Dev.wr_mgmt, Dev.wr_cycle, Dev.wr_twin, Dev.wr_bridle,
    Dev.wr_power])

theorem raise {f} (h : d₀.Lasts d) (hf : f.Passing := by decide) : d₀.Lasts (d.raise f) := .wr h hf
theorem drop {f} (h : d₀.Lasts d) (hf : f.Passing := by decide) : d₀.Lasts (d.drop f) := .wr h hf
theorem flag {f b} (h : d₀.Lasts d) (hf : f.Passing := by decide) : d₀.Lasts (d.flag f b) := .wr h hf
theorem addSat {f k} (h : d₀.Lasts d) (hf : f.Passing := by decide) : d₀.Lasts (d.addSat f k) := .wr h hf
theorem incSat {f} (h : d₀.Lasts d) (hf : f.Passing := by decide) : d₀.Lasts (d.incSat f) := .wr h hf
theorem incWrap {f} (h : d₀.Lasts d) (hf : f.Passing := by decide) : d₀.Lasts (d.incWrap f) := .wr h hf

theorem clear {fs : List Fld} (h : d₀.Lasts d) (hf : ∀ f ∈ fs, f.Passing := by decide) : d₀.Lasts (d.clear fs) :=
  Keeps.foldlMem h fun _ f hm hx => drop hx (hf f hm)

theorem event {e src ps} (h : d₀.Lasts d) : d₀.Lasts (d.event e src ps) := h
theorem eventM {e ps} (h : d₀.Lasts d) : d₀.Lasts (d.eventM e ps) := h
theorem withRole {x} (h : d₀.Lasts d) : d₀.Lasts { d with role := x } := h
theorem withLoop {x} (h : d₀.Lasts d) : d₀.Lasts { d with loop := x } := h
theorem onSlot {k f} (h : d₀.Lasts d) : d₀.Lasts (d.onSlot k f) := h
theorem onSafety {f} (h : d₀.Lasts d) : d₀.Lasts (d.onSafety f) := h
theorem onIo {f} (h : d₀.Lasts d) : d₀.Lasts (d.onIo f) := h
theorem onAo {n f} (h : d₀.Lasts d) : d₀.Lasts (d.onAo n f) := h
theorem onPort {n f} (h : d₀.Lasts d) : d₀.Lasts (d.onPort n f) := h
theorem stopCycles (h : d₀.Lasts d) : d₀.Lasts d.stopCycles := h

/-- A change of the bridle that leaves the stored copies. -/
theorem onBridle {f} (h : d₀.Lasts d) (hp : (f d.bridle).protect = d.bridle.protect := by rfl)
    (hs : (f d.bridle).safety = d.bridle.safety := by rfl) : d₀.Lasts (d.onBridle f) :=
  h.same (by simp only [Dev.lasting, Dev.onBridle, hp, hs]; rfl)

/-- A change of the power record that leaves the steps of the start. -/
theorem onPower {f} (h : d₀.Lasts d) (hs : (f d.power).start.steps = d.power.start.steps := by rfl) :
    d₀.Lasts (d.onPower f) :=
  h.same (by simp only [Dev.lasting, Dev.onPower, hs]; rfl)

/-! ### The loop engine, the bridle and the safety functions (R259, R260, R284, R288) -/

theorem awlAbort (h : d₀.Lasts d) : d₀.Lasts d.awlAbort := .ite (.wr (.raise (.withLoop (.drop h)))) h

theorem setSlotState {k v} (h : d₀.Lasts d) : d₀.Lasts (d.setSlotState k v) :=
  .wr h (passing_array (by decide) (by decide) (by decide) (by decide))

theorem slotEnters {i} (h : d₀.Lasts d) : d₀.Lasts (d.slotEnters i) := .ite (.onSlot h) (.setSlotState (.onSlot h))

theorem slotLeaves {k} (h : d₀.Lasts d) : d₀.Lasts (d.slotLeaves k) := .ite (.onSlot h) (.setSlotState (.onSlot h))

theorem loopRole {prev new} (h : d₀.Lasts d) : d₀.Lasts (d.loopRole prev new) := by
  unfold Dev.loopRole
  extract_lets +onlyGivenNames d1
  have h1 : d₀.Lasts d1 := .awlAbort h
  split
  · exact h1
  · exact .ite (.foldl h1 fun _ _ hx => .slotEnters hx) (.ite (.withLoop (.foldl h1 fun _ _ hx => .slotLeaves hx)) h1)

theorem updateFns (h : d₀.Lasts d) : d₀.Lasts d.updateFns := h.drives (.updateFns .refl)

theorem compare {n old v} (h : d₀.Lasts d) : d₀.Lasts (d.compare n old v) := h

theorem takeProtect (h : d₀.Lasts d) : d₀.Lasts d.takeProtect :=
  .onBridle (.flag (.flag (.each (.onBridle h) fun _ _ hx => .compare hx)))

theorem takeSafety (h : d₀.Lasts d) : d₀.Lasts d.takeSafety := .updateFns (.onSafety h)

theorem leaveMaint (h : d₀.Lasts d) : d₀.Lasts d.leaveMaint := .takeSafety (.ite h (.takeProtect h))

theorem safetyRole {prev new} (h : d₀.Lasts d) : d₀.Lasts (d.safetyRole prev new) := by
  unfold Dev.safetyRole
  extract_lets +onlyGivenNames d1 d2
  have h1 : d₀.Lasts d1 := .ite (.onSafety h) h
  have h2 : d₀.Lasts d2 := .ite h1 (.onBridle h1)
  exact .ite (.leaveMaint h2) (.updateFns h2)

/-! ### Local I/O and the CAN ports (R398, R416) -/

theorem finishRequest {k client id s body} (h : d₀.Lasts d) : d₀.Lasts (d.finishRequest k client id s body) := by
  unfold Dev.finishRequest
  split
  · exact h
  · exact (h.incWrap : d₀.Lasts (d.incWrap R.SEC_REQUESTS))

theorem showDio (h : d₀.Lasts d) : d₀.Lasts d.showDio := by
  unfold Dev.showDio
  extract_lets +onlyGivenNames _ _ _ d1
  have h1 : d₀.Lasts d1 := .flag (.flag (.onIo h))
  exact .ite (.event (.wr (.incSat (.raise h1)))) h1

theorem aoShow {n} (h : d₀.Lasts d) : d₀.Lasts (d.aoShow n) :=
  have level : (R.CLO_STATUS_LEVEL n).Passing := passing_array (by decide) (by decide) (by decide) (by decide)
  have out : (R.CLO_SET_OUT_UA n).Passing := passing_array (by decide) (by decide) (by decide) (by decide)
  .wr (.ite h (.onAo (.wr h out))) level

theorem ioRole {prev new} (h : d₀.Lasts d) : d₀.Lasts (d.ioRole prev new) := by
  unfold Dev.ioRole
  extract_lets +onlyGivenNames d0 d1 d2 d3
  have h0 : d₀.Lasts d0 := .flag h
  have h1 : d₀.Lasts d1 := .ite (.each h0 fun _ _ hx => .foldl (.onAo hx) fun _ _ hx => .finishRequest hx) h0
  have h2 : d₀.Lasts d2 := .ite (.each h1 fun _ _ hx => .onAo hx) h1
  have h3 : d₀.Lasts d3 := .ite h2 (.onIo h2)
  exact .each (.showDio h3) fun _ _ hx => .aoShow hx

theorem canRole {prev new} (h : d₀.Lasts d) : d₀.Lasts (d.canRole prev new) := by
  unfold Dev.canRole
  refine .each h fun n _ hx => ?_
  have loop : (R.CAN_CTRL_LOOP n).Passing := passing_array (by decide) (by decide) (by decide) (by decide)
  have resent : (R.CAN_SHADOW_RESENT n).Passing := passing_array (by decide) (by decide) (by decide) (by decide)
  extract_lets +onlyGivenNames d1 d2
  have h1 : d₀.Lasts d1 := .ite hx (.onPort hx)
  have h2 : d₀.Lasts d2 := .ite (.drop h1 loop) h1
  exact .ite (.addSat h2 resent) h2

/-! ### Changes of role (R9 to R12, R46) -/

theorem setRole {r} (h : d₀.Lasts d) : d₀.Lasts (d.setRole r) := by
  have taken : d₀.Lasts (d.wr64 R.TWIN_TAKE_T_LO R.TWIN_TAKE_T_HI d.timeT) := .wr (.wr h)
  have shown {b : Bool} {x : Dev} (hx : d₀.Lasts x) : d₀.Lasts (x.setCause 5 b) :=
    have caused : d₀.Lasts { x with twin := { x.twin with causes := putBit x.twin.causes 5 b } } := hx
    .flag (.wr caused)
  exact .canRole (.ioRole (.safetyRole (.loopRole ((shown taken.withRole).onPower (f := (·.enters r))))))

/-- With no write waiting. -/
theorem leaveTo {r} (h : d₀.Lasts d) (hs : d.mgmt.staged = []) : d₀.Lasts (d.leaveTo r) := by
  rw [leaveTo_settled hs]
  exact .onPower (.clear (.drop (.setRole (.stopCycles h))))

/-- A fault, with no write waiting. -/
theorem goStopped (h : d₀.Lasts d) (hs : d.mgmt.staged = []) : d₀.Lasts d.goStopped :=
  have lit : d₀.Lasts (d.onPower fun p => { p with faultStop := true }) := h.onPower
  .ite lit (.leaveTo lit hs)

end Dev.Lasts

end Sys2Proof.Machine

end

section
/-! LAWS. What the requests START and RESTART come to (O32). -/

namespace Sys2Proof.Machine

/-! ### What a request comes to -/

theorem exec_start (r : Req) (warm : Bool) (s : State) :
    exec (.start r warm) s = s.act fun d => d.request rqStart r (·.startCommand warm) := rfl
theorem exec_restart (r : Req) (warm : Bool) (s : State) :
    exec (.restart r warm) s = s.act fun d => (d.request rqRestart r (·.restartCommand warm)).restartNow := rfl

section
variable {s : State} {r : Req} {right : Nat} (fresh : FreshRequest s r right)
include fresh

/-- A fresh request is answered with what its action replies, on the module that the action leaves. -/
theorem request_done {k : ReqKind} {act : Dev → Reply} {e : Dev} (hk : k.right = some right)
    (done : act (s.dev.touchSession r.session) = e.done) : s.dev.request k r act = e.answered k r .ok [] := by
  rw [request_fresh fresh k hk act (by rw [done]; rfl), done]
  rfl

theorem request_refused {k : ReqKind} {act : Dev → Reply} {e : Dev} {st : Status} (hk : k.right = some right)
    (refused : act (s.dev.touchSession r.session) = e.refuse st) : s.dev.request k r act = e.answered k r st [] := by
  rw [request_fresh fresh k hk act (by rw [refused]; rfl), refused]
  rfl

end

/-! ### RESTART (R212, R216) -/

/-- In a role that runs cycles RESTART is accepted, with the kind it names. -/
theorem restartCommand_runs {d : Dev} (runs : d.role.runs = true) (idle : d.hrn.staged = none) (warm : Bool) :
    d.restartCommand warm = (d.onCycle fun c => { c with named := some warm }).done := by
  have kept : d.dropStage = d := by rw [Dev.dropStage, idle]
  rw [Dev.restartCommand, runs, kept]
  rfl

theorem restartCommand_stopped {d : Dev} (runs : d.role.runs = false) (warm : Bool) :
    d.restartCommand warm = d.refuse .notPermitted := by
  rw [Dev.restartCommand, runs]
  rfl

/-- In a role that runs no cycles no restart is carried out. -/
theorem restartNow_stopped {d : Dev} (runs : d.role.runs = false) : d.restartNow = d := by
  rw [Dev.restartNow, runs]
  rfl

theorem restartNow_cold {d : Dev} (runs : d.role.runs = true) (named : d.cycle.named = some false) :
    d.restartNow = d.moduleReset .restart := by
  rw [Dev.restartNow, runs, named]
  rfl

theorem restartNow_warm {d : Dev} (runs : d.role.runs = true) (named : d.cycle.named = some true)
    (idle : d.committed = false) :
    d.restartNow = (d.onPower fun p => { p with pfRestart := true }).commitPower := by
  rw [Dev.restartNow, runs, named, idle]
  rfl

/-- The commit leaves the management plane and the cycle engine, and moves the power-fail steps on. -/
theorem commitPower_rest (d : Dev) : d.commitPower.mgmt = d.mgmt ∧ d.commitPower.cycle = d.cycle ∧
    d.commitPower.power = { d.power with pf := .committed } := by
  have thawed : d.Records d.endFreeze := .endFreeze Dev.Keeps.refl
  rw [Dev.commitPower, Dev.clear_eq]
  exact ⟨thawed.part_eq (·.mgmt), thawed.part_eq (·.cycle),
    congrArg (fun p : PowerSt => { p with pf := .committed }) (thawed.part_eq (·.power))⟩

/-! ### START (R209, R333, R481) -/

/-- A START that is accepted, before it loads: the test is over, the counts are 0 and the restart kind is named. -/
def Dev.starts (d : Dev) (warm : Bool) : Dev :=
  (d.abortTest.onTwin fun t => { t with yielded := false }).freshCounts.onCycle fun c => { c with named := some warm }

theorem abortTest_rest (d : Dev) : d.abortTest = { d with regs := d.abortTest.regs, life := d.abortTest.life } := by
  unfold Dev.abortTest
  split <;> rfl

theorem freshCounts_rest (d : Dev) : d.freshCounts = { d with regs := d.freshCounts.regs } := by
  have tiles := each_rest (f := fun t d => d.clear [R.TILE_MISCNT_MIS_A t, R.TILE_MISCNT_MIS_B t, R.TILE_MISCNT_MIS_C t,
    R.TILE_ECC_CORR_A t, R.TILE_ECC_CORR_B t, R.TILE_ECC_CORR_C t]) (fun _ => Dev.clear_eq _) d 144
  exact regs_trans (regs_trans (regs_trans tiles rfl) (Dev.clear_eq _ _)) (Dev.clear_eq _ _)

/-- The clusters' supply shows in their own registers and their tiles'. -/
theorem clustersOff_below (d : Dev) {g : Fld} (low : g.off < 0x10000) : d.clustersOff.rd g = d.rd g := by
  have tile (t : Nat) (d : Dev) : (d.drop (R.TILE_STATUS_POWERED t)).rd g = d.rd g :=
    Dev.rd_wr_other d _ g 0 (by simp [R.TILE_STATUS_POWERED]) (.inl (by simp only [R.TILE_STATUS_POWERED]; omega))
  have cluster (k : Nat) (d : Dev) : (d.clear (clusterSupply k)).rd g = d.rd g :=
    Dev.rd_clear_other _ d g (clusterSupply_tidy k).1 fun f hf => .inl (by rw [clusterSupply_off hf]; omega)
  rw [clustersOff_eq, each_rd_other tile]
  exact each_rd_other cluster d 9

section
variable {d : Dev} (hr : d.role = .stopped) (clash : d.on R.TWIN_STATUS_IDENT_CLASH = false)
  (elig : testBit d.twin.causes 6 = false) (runs : d.bridle.running = true) (idle : d.hrn.staged = none)
include hr clash elig runs idle

/-- START is accepted in STOPPED with the bridle running and an image. -/
theorem startCommand_image (image : d.hrn.image.isSome = true) (warm : Bool) :
    d.startCommand warm = ((d.starts warm).beginLoading.readCodeAgain.compareBridle).done := by
  have kept : d.abortTest.takeLoaded = d.abortTest := by
    rw [Dev.takeLoaded, abortTest_rest, idle]
  have loaded : d.abortTest.hrn.image.isNone = false := by
    rw [abortTest_rest, Option.isNone_eq_false_iff]
    exact image
  simp only [Dev.startCommand, hr, clash, elig, runs, kept, loaded]
  rfl

theorem startCommand_noImage (image : d.hrn.image = none) (warm : Bool) :
    d.startCommand warm = d.abortTest.refuse (.hrn 7) := by
  have kept : d.abortTest.takeLoaded = d.abortTest := by
    rw [Dev.takeLoaded, abortTest_rest, idle]
  have empty : d.abortTest.hrn.image.isNone = true := by
    rw [abortTest_rest, image]
    rfl
  simp only [Dev.startCommand, hr, clash, elig, runs, kept, empty]
  rfl

end

theorem startCommand_role {d : Dev} (hr : d.role ≠ .stopped) (warm : Bool) :
    d.startCommand warm = d.refuse .notPermitted := by
  simp [Dev.startCommand, hr]

/-- What counts since the start (R88, R155, R156, R219, R223, R341). -/
theorem freshCounts_counts (d : Dev) :
    d.freshCounts.rd R.CMD_STATUS_ACCEPTED = 0 ∧ d.freshCounts.rd R.CYCLE_STATUS_FALLBACK_ENTRIES = 0 := by
  unfold Dev.freshCounts
  extract_lets +onlyGivenNames d1 d2
  have zero {f : Fld} (hf : f ∈ [R.TRIAD_REINT_COUNT, R.CYCLE_STATUS_FALLBACK_ENTRIES, R.CMD_STATUS_ACCEPTED]) :
      d2.rd f = 0 := Dev.rd_clear _ _ f (by decide) (by decide) hf
  exact ⟨(Dev.rd_clear_other _ d2 _ (by decide) (by decide)).trans (zero (by decide)),
    (Dev.rd_clear_other _ d2 _ (by decide) (by decide)).trans (zero (by decide))⟩

theorem starts_rest (d : Dev) (warm : Bool) : d.starts warm = { d with
    regs := (d.starts warm).regs, life := (d.starts warm).life, cycle := { d.cycle with named := some warm }
    twin := { d.twin with yielded := false } } := by
  unfold Dev.starts Dev.onCycle Dev.onTwin
  rw [freshCounts_rest, abortTest_rest]

/-- With no copy stored, each absence is recorded. -/
theorem compareBridle_absent {d : Dev} (protect : d.bridle.protect = none) (safety : d.bridle.safety = none) :
    d.compareBridle = (d.event .protectAbsent (source 0 0)).event .safetyAbsent (source 0 0) := by
  have first : d.compareProtect = d.event .protectAbsent (source 0 0) := by rw [Dev.compareProtect, protect]
  rw [Dev.compareBridle, first, Dev.compareSafety, Dev.event_bridle, safety]

theorem withPower_rd (d : Dev) (p : PowerSt) (g : Fld) : Dev.rd { d with power := p } g = d.rd g := rfl

/-- Loading begins (R333): the start's steps are ahead, the clusters are off, and what lasts is as before. -/
theorem beginLoading_shape {d : Dev} (idle : d.mgmt.staged = []) :
    d.beginLoading.role = .starting ∧ d.beginLoading.power.start.clusters = 0 ∧
      d.beginLoading.power.start.loaded = false ∧
      (d.beginLoading.cycle.named = d.cycle.named ∧ d.beginLoading.twin.yielded = d.twin.yielded ∧
        d.beginLoading.bridle.protect = d.bridle.protect ∧ d.beginLoading.bridle.safety = d.bridle.safety) ∧
      (∀ n : Nat, n < 9 → d.beginLoading.rd (R.FAB_STATUS_POWERED n) = 0) ∧
      ∀ g : Fld, g.Lasting → g.off < 0x10000 → d.beginLoading.rd g = d.rd g := by
  have lasts : d.Lasts (d.leaveTo .starting) := Dev.Lasts.refl.leaveTo idle
  have role : (d.leaveTo .starting).role = .starting := (Dev.Stays.leaveTo (r := .starting) (.refl (d := d)) idle).role_eq
  have regs (g : Fld) : d.beginLoading.rd g = (d.leaveTo .starting).clustersOff.rd g := withPower_rd _ _ g
  refine ⟨?_, rfl, rfl, ?_, fun n hn => (regs _).trans (clustersOff_cluster _ hn), fun g hg low => (regs g).trans ?_⟩
  · rw [Dev.beginLoading, clustersOff_rest]
    exact role
  · rw [Dev.beginLoading, clustersOff_rest]
    exact ⟨lasts.named_eq, lasts.yielded_eq, lasts.protect_eq, lasts.safety_eq⟩
  · rw [clustersOff_below _ low, lasts.rd_eq hg]

/-- An answer leaves a field beside the count of requests. -/
theorem answered_rd (d : Dev) (k : ReqKind) (q : Req) (st : Status) (body : List Byte) {g : Fld}
    (sep : R.SEC_REQUESTS.separate g) : (d.answered k q st body).rd g = d.rd g :=
  (Dev.rd_of_regs (Dev.answered_regs d k q st body) g).trans (Dev.rd_wr_other d _ g _ (by decide) sep)

/-! ### START and RESTART, request by request -/

/-- What a START counts begins at 0. -/
theorem starts_counts (d : Dev) (warm : Bool) :
    (d.starts warm).rd R.CMD_STATUS_ACCEPTED = 0 ∧ (d.starts warm).rd R.CYCLE_STATUS_FALLBACK_ENTRIES = 0 := by
  have same (x : Dev) (f : CycleSt → CycleSt) (g : Fld) : (x.onCycle f).rd g = x.rd g := rfl
  rw [Dev.starts, same, same]
  exact freshCounts_counts _

/-- The position code is read again, and the absence of the stored sections is recorded. -/
theorem readCodeAgain_shape {d : Dev} (protect : d.bridle.protect = none) (safety : d.bridle.safety = none) :
    let e := d.readCodeAgain.compareBridle
    e.role = d.role ∧ e.cycle = d.cycle ∧ e.twin = d.twin ∧ e.power.start = { d.power.start with position := false } ∧
      e.conn.attempts = 0 ∧ e.regs = d.regs := by
  rw [compareBridle_absent (d := d.readCodeAgain) protect safety]
  exact ⟨rfl, rfl, rfl, rfl, rfl, rfl⟩

/-- A START that is accepted, at the begin of the start sequence. -/
def Dev.restarted (d : Dev) (warm : Bool) : Dev := (d.starts warm).beginLoading.readCodeAgain.compareBridle

theorem restarted_shape {d : Dev} (staged : d.mgmt.staged = []) (protect : d.bridle.protect = none)
    (safety : d.bridle.safety = none) (warm : Bool) :
    let e := d.restarted warm
    e.role = .starting ∧ e.cycle.named = some warm ∧ e.power.start.clusters = 0 ∧ e.power.start.loaded = false ∧
      e.power.start.position = false ∧ e.conn.attempts = 0 ∧ e.twin.yielded = false ∧
      e.rd R.CMD_STATUS_ACCEPTED = 0 ∧ e.rd R.CYCLE_STATUS_FALLBACK_ENTRIES = 0 ∧
      ∀ n : Nat, n < 9 → e.rd (R.FAB_STATUS_POWERED n) = 0 := by
  obtain ⟨accepted, entries⟩ := starts_counts d warm
  have rest := starts_rest d warm
  have named : (d.starts warm).cycle.named = some warm := by rw [rest]
  have yielded : (d.starts warm).twin.yielded = false := by rw [rest]
  have noProtect : (d.starts warm).bridle.protect = none := by rw [rest]; exact protect
  have noSafety : (d.starts warm).bridle.safety = none := by rw [rest]; exact safety
  have noWrites : (d.starts warm).mgmt.staged = [] := by rw [rest]; exact staged
  unfold Dev.restarted
  generalize d.starts warm = x at accepted entries named yielded noProtect noSafety noWrites
  obtain ⟨role, clusters, loaded, ⟨named', yielded', protect', safety'⟩, dark, reads⟩ := beginLoading_shape noWrites
  replace accepted := (reads R.CMD_STATUS_ACCEPTED (.inr (.inl rfl)) (by decide)).trans accepted
  replace entries := (reads R.CYCLE_STATUS_FALLBACK_ENTRIES (.inr (.inr (.inl (by decide)))) (by decide)).trans entries
  generalize x.beginLoading = y at role clusters loaded named' yielded' protect' safety' dark accepted entries
  obtain ⟨role'', cycle'', twin'', start'', attempts, regs⟩ :=
    readCodeAgain_shape (protect'.trans noProtect) (safety'.trans noSafety)
  have same (f : Fld) := Dev.rd_of_regs regs f
  simp only [role'', cycle'', twin'', start'', same]
  exact ⟨role, named'.trans named, clusters, loaded, trivial, attempts, yielded'.trans yielded, accepted, entries, dark⟩

/-- The kind that a RESTART names outlasts its reset (R216). -/
theorem moduleReset_named (d : Dev) : (d.moduleReset .restart).cycle.named = d.cycle.named := by
  have kept : (d.moduleReset .restart).cycle.named =
      if ResetCause.restart = .restart then d.unsaved.cycle.named else none := rfl
  rw [kept, if_pos rfl, unsaved_rest]

section
variable {s : State} {r : Req} (fresh : FreshRequest s r 2)
include fresh

/-- START in STOPPED with an image. -/
theorem start_answers {warm : Bool} (staged : s.dev.mgmt.staged = []) (idle : s.dev.hrn.staged = none)
    (role : s.dev.role = .stopped) (clash : s.dev.on R.TWIN_STATUS_IDENT_CLASH = false)
    (elig : testBit s.dev.twin.causes 6 = false) (runs : s.dev.bridle.running = true)
    (protect : s.dev.bridle.protect = none) (safety : s.dev.bridle.safety = none)
    (image : s.dev.hrn.image.isSome = true) :
    Answers (.start r warm) s fun d => Replied d 0x0307 r .ok [] ∧ d.role = .starting ∧ d.cycle.named = some warm ∧
      d.power.start.clusters = 0 ∧ d.power.start.loaded = false ∧ d.power.start.position = false ∧
      d.conn.attempts = 0 ∧ d.twin.yielded = false ∧ d.rd R.CMD_STATUS_ACCEPTED = 0 ∧
      d.rd R.CYCLE_STATUS_FALLBACK_ENTRIES = 0 ∧ ∀ n : Nat, n < 9 → d.rd (R.FAB_STATUS_POWERED n) = 0 := by
  let touched := s.dev.touchSession r.session
  have done : touched.startCommand warm = (touched.restarted warm).done :=
    startCommand_image (d := touched) role clash elig runs idle image warm
  refine answers_act (exec_start r warm s) ?_
  rw [request_done fresh rfl done]
  obtain ⟨starting, named, clusters, loaded, position, attempts, yielded, accepted, entries, dark⟩ :=
    restarted_shape (d := touched) staged protect safety warm
  generalize touched.restarted warm = e at starting named clusters loaded position attempts yielded accepted entries dark
  have reads {f : Fld} (sep : R.SEC_REQUESTS.separate f) := answered_rd e rqStart r .ok [] sep
  refine ⟨e.answered_replied rqStart r .ok [], starting, named, clusters, loaded, position, attempts, yielded,
    (reads (by decide)).trans accepted, (reads (by decide)).trans entries, fun n hn => (reads ?_).trans (dark n hn)⟩
  exact .inl (by simp only [R.SEC_REQUESTS, R.FAB_STATUS_POWERED]; omega)

theorem start_refused {warm : Bool} (idle : s.dev.hrn.staged = none) (role : s.dev.role = .stopped)
    (clash : s.dev.on R.TWIN_STATUS_IDENT_CLASH = false) (elig : testBit s.dev.twin.causes 6 = false)
    (runs : s.dev.bridle.running = true) (image : s.dev.hrn.image = none) :
    Answers (.start r warm) s fun d => Replied d 0x0307 r (.hrn 7) [] := by
  have refused := startCommand_noImage (d := s.dev.touchSession r.session) role clash elig runs idle image warm
  refine answers_act (exec_start r warm s) ?_
  rw [request_refused fresh rfl refused]
  exact Dev.answered_replied _ rqStart r _ _

theorem start_notPermitted {warm : Bool} (role : s.dev.role ≠ .stopped) :
    Answers (.start r warm) s fun d => Replied d 0x0307 r .notPermitted [] ∧ d.role = s.dev.role := by
  refine answers_act (exec_start r warm s) ?_
  rw [request_refused fresh rfl (startCommand_role (d := s.dev.touchSession r.session) role warm)]
  exact ⟨Dev.answered_replied _ rqStart r _ _, rfl⟩

/-- RESTART in a role that runs cycles, before the restart is carried out. -/
theorem restart_accepted (idle : s.dev.hrn.staged = none) (runs : s.dev.role.runs = true) (warm : Bool) :
    s.dev.request rqRestart r (·.restartCommand warm) =
      ((s.dev.touchSession r.session).onCycle fun c => { c with named := some warm }).answered rqRestart r .ok [] :=
  request_done fresh rfl (restartCommand_runs (d := s.dev.touchSession r.session) runs idle warm)

/-- A cold RESTART asserts reset at once. -/
theorem restart_cold (idle : s.dev.hrn.staged = none) (runs : s.dev.role.runs = true) :
    Answers (.restart r false) s fun d =>
      d.role = .stopped ∧ d.power.inReset = true ∧ d.rd R.RESET_CAUSE_CAUSE = 3 ∧ d.cycle.named = some false := by
  refine answers_act (exec_restart r false s) ?_
  rw [restart_accepted fresh idle runs]
  generalize accepted : ((s.dev.touchSession r.session).onCycle fun c => { c with named := some false }).answered
    rqRestart r .ok [] = e
  have runs' : e.role.runs = true := by rw [← accepted]; exact runs
  have named : e.cycle.named = some false := by rw [← accepted]; rfl
  rw [restartNow_cold runs' named]
  exact ⟨rfl, rfl, moduleReset_cause e .restart, (moduleReset_named e).trans named⟩

/-- A warm RESTART begins the power-fail steps. -/
theorem restart_warm (idle : s.dev.hrn.staged = none) (runs : s.dev.role.runs = true) (live : s.dev.committed = false) :
    Answers (.restart r true) s fun d =>
      Replied d 0x0308 r .ok [] ∧ d.power.pf = .committed ∧ d.power.pfRestart = true ∧ d.cycle.named = some true := by
  refine answers_act (exec_restart r true s) ?_
  rw [restart_accepted fresh idle runs]
  generalize accepted : ((s.dev.touchSession r.session).onCycle fun c => { c with named := some true }).answered
    rqRestart r .ok [] = e
  have runs' : e.role.runs = true := by rw [← accepted]; exact runs
  have named : e.cycle.named = some true := by rw [← accepted]; rfl
  have live' : e.committed = false := by rw [← accepted]; exact live
  have replied : Replied e 0x0308 r .ok [] := by rw [← accepted]; exact Dev.answered_replied _ rqRestart r _ _
  rw [restartNow_warm runs' named live']
  obtain ⟨mgmt, cycle, power⟩ := commitPower_rest (e.onPower fun p => { p with pfRestart := true })
  rw [Replied, mgmt, cycle, power]
  exact ⟨replied, rfl, rfl, named⟩

theorem restart_notPermitted {warm : Bool} (stopped : s.dev.role.runs = false) :
    Answers (.restart r warm) s fun d => Replied d 0x0308 r .notPermitted [] ∧ d.role = s.dev.role := by
  refine answers_act (exec_restart r warm s) ?_
  rw [request_refused fresh rfl (restartCommand_stopped (d := s.dev.touchSession r.session) stopped warm),
    restartNow_stopped (by exact stopped)]
  exact ⟨Dev.answered_replied _ rqRestart r _ _, rfl⟩

end

end Sys2Proof.Machine

end

section
/-! LAWS. The clusters' supply, the cold start and the test at start (O32). -/

namespace Sys2Proof.Machine

/-! ### The clusters' supply (R58, R59) -/

theorem exec_clusterPowerUp (n : Fin 9) (s : State) : exec (.clusterPowerUp n) s = s.act (·.clusterUp n.val) := rfl
theorem exec_clusterPower (n : Fin 9) (s : State) : exec (.clusterPower n) s = s.act (·.clusterFault n.val) := rfl
theorem exec_coldStartWaitEnd (s : State) : exec .coldStartWaitEnd s = s.act Dev.coldEnd := rfl

/-- The fields that show a cluster's supply. -/
def poweredFlds (n : Nat) : List Fld := R.FAB_STATUS_POWERED n :: (clusterTiles n).map R.TILE_STATUS_POWERED

theorem poweredFlds_tidy (n : Fin 9) : TidyFields (poweredFlds n.val) := by
  decide +revert

theorem poweredFlds_stored (n : Nat) : ((poweredFlds n).map fun f => (f, 1)).map stored =
    (R.FAB_STATUS_POWERED n, 1) :: (clusterTiles n).map fun t => (R.TILE_STATUS_POWERED t, 1) := by
  simp [poweredFlds, stored, R.FAB_STATUS_POWERED, R.TILE_STATUS_POWERED]

theorem writes_cons (d : Dev) (p : Fld × Nat) (fs : List (Fld × Nat)) : d.writes (p :: fs) = (d.wr p.1 p.2).writes fs := rfl

theorem powered_sets (d : Dev) (n : Fin 9) :
    Sets d (d.writes ((poweredFlds n.val).map fun f => (f, 1)))
      ((R.FAB_STATUS_POWERED n.val, 1) :: (clusterTiles n.val).map fun t => (R.TILE_STATUS_POWERED t, 1)) := by
  obtain ⟨fit, sep⟩ := poweredFlds_tidy n
  have fields : ((poweredFlds n.val).map fun f => (f, 1)).map Prod.fst = poweredFlds n.val := by
    rw [List.map_map]
    exact List.map_id _
  have shown := (sets_nil d).writes ((poweredFlds n.val).map fun f => (f, 1)) (by rw [fields]; exact fit)
    (by rw [List.nil_append, fields]; exact sep)
  rw [poweredFlds_stored, List.nil_append] at shown
  exact shown

/-! ### The steps of the start -/

/-- A step of the start changes the power record alone. -/
@[simp] theorem Dev.onStart_hrn (d : Dev) (f : StartSt → StartSt) : (d.onStart f).hrn = d.hrn := rfl
@[simp] theorem Dev.onStart_mgmt (d : Dev) (f : StartSt → StartSt) : (d.onStart f).mgmt = d.mgmt := rfl
@[simp] theorem Dev.onStart_start (d : Dev) (f : StartSt → StartSt) : (d.onStart f).power.start = f d.power.start := rfl

@[simp] theorem Dev.onStart_regs (d : Dev) (f : StartSt → StartSt) : (d.onStart f).regs = d.regs := rfl

/-- A step of the start after a change of registers. -/
theorem onStart_rest {d x : Dev} (rest : x = { d with regs := x.regs }) (f : StartSt → StartSt) :
    x.onStart f = { d with regs := (x.onStart f).regs, power := { d.power with start := f d.power.start } } := by
  rw [Dev.onStart_regs, rest]
  rfl

/-! ### A cluster's step (R58, R59) -/

section
variable {d : Dev} {n : Nat} (starting : d.isStarting = true) (position : d.power.start.position = true)
  (image : d.power.start.image = true) (turn : n = d.power.start.clusters)
include starting position image turn

/-- A cluster at its step is powered with its tiles. -/
theorem clusterUp_warm (warm : d.cold = false) :
    d.clusterUp n = (d.writes ((poweredFlds n).map fun f => (f, 1))).onStart fun x => { x with clusters := n + 1 } := by
  have tiles (x : Dev) (l : List Nat) :
      x.writes ((l.map R.TILE_STATUS_POWERED).map fun f => (f, 1)) =
        l.foldl (fun d t => d.raise (R.TILE_STATUS_POWERED t)) x := by
    rw [Dev.writes, List.foldl_map, List.foldl_map]
    rfl
  have powered : d.writes ((poweredFlds n).map fun f => (f, 1)) =
      (clusterTiles n).foldl (fun d t => d.raise (R.TILE_STATUS_POWERED t)) (d.raise (R.FAB_STATUS_POWERED n)) := by
    rw [poweredFlds, List.map_cons, writes_cons, tiles]
    rfl
  simp only [Dev.clusterUp, starting, position, image, ← turn, warm, decide_true, Bool.and_self, Bool.not_true,
    Bool.false_eq_true, if_false, powered]

/-- A cold start waits, and is recorded once. -/
theorem clusterUp_cold (cold : d.cold = true) :
    d.clusterUp n = (if d.power.start.coldRecorded then d else d.eventM .coldStart).onStart
      fun x => { x with coldWait := true, coldRecorded := true } := by
  simp only [Dev.clusterUp, starting, position, image, ← turn, cold, decide_true, Bool.and_self, Bool.not_true,
    Bool.false_eq_true, if_false, if_true]

end

theorem clusterUp_cold_shape (d : Dev) :
    let e := (if d.power.start.coldRecorded then d else d.eventM .coldStart).onStart
      fun x => { x with coldWait := true, coldRecorded := true }
    e.regs = d.regs ∧ e.power.start = { d.power.start with coldWait := true, coldRecorded := true } ∧
      Presents d e (if d.power.start.coldRecorded then [] else [(.coldStart, source 0 0)]) := by
  cases d.power.start.coldRecorded with
  | true => exact ⟨rfl, rfl, presents_none _ _ rfl⟩
  | false => exact ⟨rfl, rfl, presents_event _ _ _ _⟩

/-- The fields that go with a cluster's supply. -/
def unpoweredFlds (n : Nat) : List Fld :=
  [R.FAB_STATUS_POWERED n, R.FAB_STATUS_RAIL_OK n, R.FAB_STATUS_STARTED n] ++ (clusterTiles n).map R.TILE_STATUS_POWERED

theorem clusterOff_eq (d : Dev) (n : Nat) : d.clusterOff n = d.clear (unpoweredFlds n) := by
  rw [unpoweredFlds, Dev.clear, List.foldl_append, List.foldl_map]
  rfl

theorem unpoweredFlds_tidy (n : Fin 9) : TidyFields (unpoweredFlds n.val) := by
  decide +revert

/-- They are fields of the clusters and the tiles. -/
theorem unpoweredFlds_range (n : Fin 9) : ∀ f ∈ unpoweredFlds n.val, 0x10000 ≤ f.off ∧ f.off < 0x124000 := by
  decide +revert

theorem poweredFlds_subset (n : Nat) {f : Fld} (hf : f ∈ poweredFlds n) : f ∈ unpoweredFlds n := by
  rcases List.mem_cons.1 hf with rfl | hf
  · exact List.mem_append_left _ List.mem_cons_self
  · exact List.mem_append_right _ hf

theorem clusterOff_zero (d : Dev) (n : Fin 9) {f : Fld} (hf : f ∈ unpoweredFlds n.val) : (d.clusterOff n.val).rd f = 0 := by
  obtain ⟨fit, sep⟩ := unpoweredFlds_tidy n
  rw [clusterOff_eq]
  exact Dev.rd_clear _ d f fit sep hf

theorem clusterOff_stays (d : Dev) (n : Fin 9) : d.Stays (d.clusterOff n.val) := by
  have low : ∀ g ∈ identityFlds, g.off ≤ 0x84 := by decide
  have aside : ∀ f ∈ unpoweredFlds n.val, f.Aside := fun f hf =>
    ⟨(unpoweredFlds_tidy n).1 f hf, fun g hg => .inl (by have := unpoweredFlds_range n f hf; have := low g hg; omega)⟩
  rw [clusterOff_eq]
  exact .clear .refl aside

/-- A cluster whose rail does not settle stops the start (R59): its supply goes, and the module with it. -/
theorem clusterFault_shape {d : Dev} {n : Fin 9} (starting : d.isStarting = true) (staged : d.mgmt.staged = [])
    (committed : d.committed = false) (powered : d.on (R.FAB_STATUS_POWERED n.val) = true) :
    (d.clusterFault n.val).role = .stopped ∧ (∀ f ∈ unpoweredFlds n.val, (d.clusterFault n.val).rd f = 0) ∧
      ∃ es, Presents d (d.clusterFault n.val) ((.clusterPower, source 2 n.val) :: es) := by
  let told := d.event .clusterPower (source 2 n.val)
  let off := told.clusterOff n.val
  have shape : d.clusterFault n.val = off.goStopped := by
    rw [Dev.clusterFault, starting, powered]
    rfl
  have stays : told.Stays off := clusterOff_stays told n
  have noWrites : told.mgmt.staged = [] := staged
  have role : off.role = .starting := stays.role_eq.trans (isStarting_role starting)
  have power : off.power = told.power := by
    rw [show off = told.clear _ from clusterOff_eq told n.val, Dev.clear_eq]
  have stops : Dev.Stays { told with role := .stopped } off.goStopped :=
    stays.goStopped noWrites (by rw [role]; decide) (by rw [Dev.committed, power]; exact committed)
  have lasts : off.Lasts off.goStopped := Dev.Lasts.refl.goStopped (stays.staged_eq.trans noWrites)
  have first : Presents d { told with role := .stopped } [(.clusterPower, source 2 n.val)] := presents_event d _ _ _
  rw [shape]
  refine ⟨stops.role_eq, fun f hf => ?_, stops.presents first⟩
  have lasting : f.Lasting := .inr (.inr (.inr (.inr (unpoweredFlds_range n f hf))))
  exact (lasts.rd_eq lasting).trans (clusterOff_zero told n hf)

/-! ### The self-test at start (R82, R468, R470) -/

theorem exec_startSelfTestDone (f : TestFindings) (s : State) :
    exec (.startSelfTestDone f) s = s.act fun d => if f.wellFormed then d.startTested f else d := rfl

namespace Dev.KeepsRole

variable {d₀ d : Dev}

theorem applyFindings {f} (h : d₀.KeepsRole d) : d₀.KeepsRole (d.applyFindings f) := by
  have worn : d₀.KeepsRole d.wornFlash := .ite h (.event (.raise h))
  exact .ite h (.ite worn (.onLife h))

theorem failLinks {f} (h : d₀.KeepsRole d) : d₀.KeepsRole (d.failLinks f) :=
  .checkRoutes (.foldl h fun _ _ hx => .failIn hx)

theorem freshLinks (h : d₀.KeepsRole d) : d₀.KeepsRole d.freshLinks := by
  have fab {x} : d₀.KeepsRole { d with fab := x } := h
  exact .each (.each fab fun _ _ hx => .clear hx) fun _ _ hx => .putWord hx

end Dev.KeepsRole

namespace Dev.Lasts

variable {d₀ d : Dev}

theorem wrSat {f v} (h : d₀.Lasts d) (hf : f.Passing := by decide) : d₀.Lasts (d.wrSat f v) := .wr h hf
theorem wr64 {lo hi v} (h : d₀.Lasts d) (hl : lo.Passing := by decide) (hh : hi.Passing := by decide) :
    d₀.Lasts (d.wr64 lo hi v) := .wr (.wr h hl) hh
theorem onLife {f} (h : d₀.Lasts d) : d₀.Lasts (d.onLife f) := h

theorem flashWrite {f} (h : d₀.Lasts d) (hf : d₀.Lasts (f d)) : d₀.Lasts (d.flashWrite f) :=
  .ite (.ite h (.eventM (.raise h))) hf

theorem showSeal (h : d₀.Lasts d) : d₀.Lasts d.showSeal := by
  unfold Dev.showSeal
  split
  · exact .wr64 (.flag h)
  · exact .clear h

/-- A register of the repair map. -/
theorem passing_repair {base k lo wd : Nat} (fit : lo + wd ≤ 32) (above : 0x900040 ≤ base) :
    Fld.Passing ⟨base + k * 0x10, lo, wd⟩ := by
  refine ⟨fit, ?_⟩
  simp only
  omega

theorem showRepair (h : d₀.Lasts d) : d₀.Lasts d.showRepair := by
  unfold Dev.showRepair
  extract_lets +onlyGivenNames _ _ _ _ _
  refine .each (.wrSat (.wr (.wr (.flag h)))) fun k _ hx => ?_
  have row {base lo wd : Nat} (fit : lo + wd ≤ 32) (above : 0x900040 ≤ base) :
    Fld.Passing ⟨base + k * 0x10, lo, wd⟩ := passing_repair fit above
  extract_lets +onlyGivenNames _ _ _ _ _ _ _ d1
  have h1 : d₀.Lasts d1 := .wrSat (.wrSat (.wrSat (.wrSat (.flag (.flag (.wr (.wr hx
    (row (by decide) (by decide))) (row (by decide) (by decide))) (row (by decide) (by decide)))
    (row (by decide) (by decide))) (row (by decide) (by decide))) (row (by decide) (by decide)))
    (row (by decide) (by decide))) (row (by decide) (by decide))
  split
  · exact .wrSat (.wrSat (.wr (.wr h1 (row (by decide) (by decide))) (row (by decide) (by decide)))
      (row (by decide) (by decide))) (row (by decide) (by decide))
  · refine .clear h1 ?_
    simp only [List.forall_mem_cons]
    exact ⟨row (by decide) (by decide), row (by decide) (by decide), row (by decide) (by decide),
      row (by decide) (by decide), nofun⟩

end Dev.Lasts

/-- The fields of a test's result. -/
def testFields (kind result : Nat) (f : TestFindings) : List (Fld × Nat) :=
  [(R.LIFE_SELFTEST_KIND, kind), (R.LIFE_SELFTEST_RESULT, result), (R.LIFE_SELFTEST_CAUSE, f.cause.val),
    (R.LIFE_SELFTEST_FAILS, min f.count 255)]

theorem testFields_rd (d : Dev) (kind result : Nat) (f : TestFindings) :
    (d.writes (testFields kind result f)).rd R.LIFE_SELFTEST_KIND = kind % 4 ∧
      (d.writes (testFields kind result f)).rd R.LIFE_SELFTEST_CAUSE = f.cause.val := by
  have shown := (sets_nil d).writes (testFields kind result f) (of_decide_eq_true rfl) (of_decide_eq_true rfl)
  have cause : f.cause.val % 2 ^ R.LIFE_SELFTEST_CAUSE.wd = f.cause.val := Nat.mod_eq_of_lt f.cause.isLt
  exact ⟨shown.rd_of_mem (by simp [testFields, stored, R.LIFE_SELFTEST_KIND]),
    shown.rd_of_mem (by simp [testFields, stored, cause])⟩

/-- The end of a test: its findings are applied, its result shows, and what lasts is as it then stands. -/
theorem endTest_shape (d : Dev) (kind : Nat) (f : TestFindings) :
    ∃ (e : Dev) (result : Nat), e.mgmt.staged = d.mgmt.staged ∧
      (e.writes (testFields kind result f)).Lasts (d.endTest kind f) := by
  unfold Dev.endTest
  extract_lets +onlyGivenNames valid d1 all result d2 d3 d4 d5
  have found : d.KeepsRole d1 := .ite (.failLinks (.applyFindings Dev.Keeps.refl)) Dev.Keeps.refl
  refine ⟨d1, result, found.staged_eq, ?_⟩
  have h3 : (d1.writes (testFields kind result f)).Lasts d3 := .wrSat (.refl (d := d1.writes (testFields kind result f)))
  have h4 : (d1.writes (testFields kind result f)).Lasts d4 :=
    .each h3 fun _ _ hx => .wr hx (by simp [Fld.Passing, R.LIFE_ST_TILES]; omega)
  have h5 : (d1.writes (testFields kind result f)).Lasts d5 := .ite (.flashWrite h4 (.onLife h4)) h4
  exact .showRepair (.showSeal h5)

/-- The stop at a lost route leaves what lasts (R82). -/
theorem routeStop_lasts {d : Dev} (idle : d.mgmt.staged = []) : d.Lasts d.routeStop := .ite (.goStopped .refl idle) .refl

/-- The test at start ends (R470): its result shows, and the start goes on or stops at a lost route (R82). -/
theorem startTested_shape {d : Dev} (starting : d.isStarting = true) (clusters : d.power.start.clusters = 9)
    (staged : d.mgmt.staged = []) (f : TestFindings) :
    (d.startTested f).power.start.selfTest = true ∧ (d.startTested f).rd R.LIFE_SELFTEST_KIND = 2 ∧
      (d.startTested f).rd R.LIFE_SELFTEST_CAUSE = f.cause.val := by
  let fresh := if f.cause = 0 then d.freshLinks else d
  have kept : d.KeepsRole fresh := .ite (.freshLinks Dev.Keeps.refl) Dev.Keeps.refl
  obtain ⟨e, result, writes, shown⟩ := endTest_shape fresh 2 f
  let tested := (fresh.endTest 2 f).onStart fun s => { s with selfTest := true }
  have shape : d.startTested f = tested.routeStop := by
    simp only [Dev.startTested, starting, clusters, decide_true, Bool.and_self, Bool.not_true, Bool.false_eq_true, if_false]
    rfl
  have idle : tested.mgmt.staged = [] := by
    have written : (e.writes (testFields 2 result f)).mgmt.staged = e.mgmt.staged := by rw [writes_rest]
    exact shown.staged_eq.trans (written.trans (writes.trans (kept.staged_eq.trans staged)))
  have lasts : tested.Lasts tested.routeStop := routeStop_lasts idle
  have done : tested.routeStop.power.start.steps.selfTest = tested.power.start.steps.selfTest :=
    congrArg StartSt.selfTest lasts.steps_eq
  have reads {g : Fld} (hg : g.off = 0x900008) :
      tested.routeStop.rd g = (e.writes (testFields 2 result f)).rd g :=
    have lasting : g.Lasting := .inr (.inr (.inr (.inl hg)))
    calc tested.routeStop.rd g
      _ = tested.rd g := lasts.rd_eq lasting
      _ = (fresh.endTest 2 f).rd g := withPower_rd _ _ g
      _ = _ := shown.rd_eq lasting
  obtain ⟨kind, cause⟩ := testFields_rd e 2 result f
  rw [shape]
  refine ⟨?_, ?_, ?_⟩
  · exact done
  · rw [reads rfl]
    exact kind
  · rw [reads rfl]
    exact cause

end Sys2Proof.Machine

end

section
/-! LAWS. The boot slot (O32): what the checks of the slots at start and the running image leave. -/

namespace Sys2Proof.Machine

/-! ### The boot slot (R102, R103) -/

theorem exec_harnessBootSelect (s : State) : exec .harnessBootSelect s = s.act Dev.bootSelect := rfl

/-- The role, the power record, the writes that wait and the images are as before. -/
def Dev.KeepsBoot (d e : Dev) : Prop := d.Keeps (fun x => (x.role, x.power, x.mgmt.staged, x.hrn)) e

namespace Dev.KeepsBoot

variable {d₀ d : Dev}

theorem role_eq (h : d₀.KeepsBoot d) : d.role = d₀.role := congrArg Prod.fst h
theorem power_eq (h : d₀.KeepsBoot d) : d.power = d₀.power := congrArg (·.2.1) h
theorem staged_eq (h : d₀.KeepsBoot d) : d.mgmt.staged = d₀.mgmt.staged := congrArg (·.2.2.1) h
theorem hrn_eq (h : d₀.KeepsBoot d) : d.hrn = d₀.hrn := congrArg (·.2.2.2) h

theorem refl : d.KeepsBoot d := Keeps.refl
theorem ite {c : Prop} [Decidable c] {a b : Dev} (ha : d₀.KeepsBoot a) (hb : d₀.KeepsBoot b) :
    d₀.KeepsBoot (if c then a else b) :=
  Keeps.ite ha hb
theorem foldl {α : Type} {f : Dev → α → Dev} {l : List α} (h : d₀.KeepsBoot d)
    (hf : ∀ x a, d₀.KeepsBoot x → d₀.KeepsBoot (f x a)) : d₀.KeepsBoot (l.foldl f d) := Keeps.foldl h hf
theorem each {n f} (h : d₀.KeepsBoot d) (hf : ∀ k x, d₀.KeepsBoot x → d₀.KeepsBoot (f k x)) : d₀.KeepsBoot (d.each n f) :=
  Keeps.each h hf

theorem wr {f v} (h : d₀.KeepsBoot d) : d₀.KeepsBoot (d.wr f v) := h
theorem wr64 {lo hi v} (h : d₀.KeepsBoot d) : d₀.KeepsBoot (d.wr64 lo hi v) := h
theorem wrSat {f v} (h : d₀.KeepsBoot d) : d₀.KeepsBoot (d.wrSat f v) := h
theorem raise {f} (h : d₀.KeepsBoot d) : d₀.KeepsBoot (d.raise f) := h
theorem drop {f} (h : d₀.KeepsBoot d) : d₀.KeepsBoot (d.drop f) := h
theorem flag {f b} (h : d₀.KeepsBoot d) : d₀.KeepsBoot (d.flag f b) := h
theorem putWord {off w} (h : d₀.KeepsBoot d) : d₀.KeepsBoot (d.putWord off w) := h
theorem clear {fs} (h : d₀.KeepsBoot d) : d₀.KeepsBoot (d.clear fs) := .foldl h fun _ _ hx => drop hx
theorem event {e src ps} (h : d₀.KeepsBoot d) : d₀.KeepsBoot (d.event e src ps) := h
theorem eventM {e ps} (h : d₀.KeepsBoot d) : d₀.KeepsBoot (d.eventM e ps) := h
theorem onLife {f} (h : d₀.KeepsBoot d) : d₀.KeepsBoot (d.onLife f) := h
theorem onIo {f} (h : d₀.KeepsBoot d) : d₀.KeepsBoot (d.onIo f) := h

theorem showSlot {k} (h : d₀.KeepsBoot d) : d₀.KeepsBoot (d.showSlot k) := .flag (.flag (.flag (.wr (.wr (.wr h)))))

theorem showMarks (h : d₀.KeepsBoot d) : d₀.KeepsBoot d.showMarks :=
  .wr (.wr (.wr (.each h fun _ _ hx => .flag (.flag (.flag hx)))))

theorem showLoops {im} (h : d₀.KeepsBoot d) : d₀.KeepsBoot (d.showLoops im) := by
  refine .each (.each h fun k x hx => ?_) fun _ _ hx => .wr (.wr (.wr hx))
  split
  · exact .putWord (.putWord hx)
  · exact .wr (.wr (.flag (.wr (.wr (.wr (.wr (.wr hx)))))))

theorem showIo {im} (h : d₀.KeepsBoot d) : d₀.KeepsBoot (d.showIo im) :=
  .each (.each (.wr (.wr (.wr h))) fun _ _ hx => .wr (.wr (.flag (.wr (.wr hx))))) fun _ _ hx => .flag (.wr hx)

theorem showPorts {im} (h : d₀.KeepsBoot d) : d₀.KeepsBoot (d.showPorts im) :=
  .each (.each h fun _ _ hx => .wr (.wr (.putWord (.putWord (.putWord hx))))) fun _ _ hx => .wr (.wr (.wr hx))

theorem showImage (h : d₀.KeepsBoot d) : d₀.KeepsBoot d.showImage := by
  unfold Dev.showImage
  split
  · exact .clear h
  · exact .showPorts (.showIo (.showLoops (.flag (.wr (.wr (.raise (.wr (.wr (.flag (.wr (.wr
      (.each h fun _ _ hx => .wr hx))))))))))))

theorem showSeal (h : d₀.KeepsBoot d) : d₀.KeepsBoot d.showSeal := by
  unfold Dev.showSeal
  split
  · exact .wr64 (.flag h)
  · exact .clear h

theorem showRepair (h : d₀.KeepsBoot d) : d₀.KeepsBoot d.showRepair := by
  unfold Dev.showRepair
  extract_lets +onlyGivenNames _ _ _ _ _
  refine .each (.wrSat (.wr (.wr (.flag h)))) fun k _ hx => ?_
  extract_lets +onlyGivenNames _ _ _ _ _ _ _ d1
  have h1 : d₀.KeepsBoot d1 := .wrSat (.wrSat (.wrSat (.wrSat (.flag (.flag (.wr (.wr hx)))))))
  split
  · exact .wrSat (.wrSat (.wr (.wr h1)))
  · exact .clear h1

theorem readSeal (h : d₀.KeepsBoot d) : d₀.KeepsBoot d.readSeal := by
  unfold Dev.readSeal
  extract_lets +onlyGivenNames d1 d2 _ d3 d4
  have h1 : d₀.KeepsBoot d1 := .ite (.onLife h) h
  have h2 : d₀.KeepsBoot d2 := .ite (.eventM h1) h1
  have h3 : d₀.KeepsBoot d3 := .flag (.wr h2)
  exact .showRepair (.showSeal (.onLife h3))

theorem showCal (h : d₀.KeepsBoot d) : d₀.KeepsBoot d.showCal :=
  .each (.each (.wr (.wr (.wr (.wr (.flag (.wr h)))))) fun _ _ hx => .flag (.flag hx)) fun _ _ hx => .flag (.flag hx)

theorem loadCal (h : d₀.KeepsBoot d) : d₀.KeepsBoot d.loadCal := .foldl (.showCal (.onIo h)) fun _ _ hx => .event hx

end Dev.KeepsBoot

theorem Dev.Lasts.image_eq {d e : Dev} (h : d.Lasts e) : e.power.start.image = d.power.start.image :=
  show e.power.start.steps.image = d.power.start.steps.image from congrArg StartSt.image h.steps_eq

/-- What the checks of the slots at start keep. -/
def Dev.bootPart (d : Dev) : Role × PowerSt × List StagedWrite × Word × Nat :=
  (d.role, d.power, d.mgmt.staged, d.hrn.bootEpoch, d.hrn.bootPtr)

theorem Dev.KeepsBoot.bootPart {d e : Dev} (h : d.KeepsBoot e) : d.Keeps Dev.bootPart e := by
  simp only [Dev.Keeps, Dev.bootPart, h.role_eq, h.power_eq, h.staged_eq, h.hrn_eq]

/-- What they keep, part by part. -/
theorem bootPart_parts {d e : Dev} (h : d.Keeps Dev.bootPart e) : e.role = d.role ∧ e.power = d.power ∧
    e.mgmt.staged = d.mgmt.staged ∧ e.hrn.bootEpoch = d.hrn.bootEpoch ∧ e.hrn.bootPtr = d.hrn.bootPtr := by
  simpa only [Dev.Keeps, Dev.bootPart, Prod.mk.injEq] using h

theorem reportMarks_keeps (d : Dev) : d.Keeps Dev.bootPart d.reportMarks := by
  unfold Dev.reportMarks
  extract_lets +onlyGivenNames d1 d2
  have told : d.KeepsBoot d2 := .ite (.wr (.ite (.eventM .refl) .refl)) (.ite (.eventM .refl) .refl)
  exact told.bootPart

theorem checkAtStart_keeps (d : Dev) (k : Nat) : d.Keeps Dev.bootPart (d.checkAtStart k) := by
  have shown (x : Dev) : x.Keeps Dev.bootPart (x.showSlot k) := (Dev.KeepsBoot.refl.showSlot).bootPart
  exact .ite (shown d) (shown (d.putSlot k _))

/-- The slots as a start finds them. -/
def Dev.slotsChecked (d : Dev) : Dev := d.reportMarks.each 4 fun k d => d.checkAtStart k

theorem slotsChecked_keeps (d : Dev) : d.Keeps Dev.bootPart d.slotsChecked :=
  .each (reportMarks_keeps d) fun k x hx => hx.same (checkAtStart_keeps x k)

/-- The epoch of a module's images. -/
def Dev.withEpoch (d : Dev) (e : Word) : Dev := { d with hrn := { d.hrn with epoch := e } }

theorem withEpoch_newestValid (d : Dev) (e : Word) (ks : List Nat) : (d.withEpoch e).newestValid ks = d.newestValid ks := rfl

theorem withEpoch_partnerSlot (d : Dev) (e : Word) (k : Nat) : (d.withEpoch e).partnerSlot k = d.partnerSlot k := rfl

/-- The boot slot does not depend on the epoch. -/
theorem withEpoch_pickSlot {d : Dev} {e : Word} {k : Nat} (picked : d.pickSlot.1 = some k) :
    (d.withEpoch e).pickSlot = (some k, d.pickSlot.2.withEpoch e) := by
  have valid : (d.withEpoch e).slotValid (d.withEpoch e).hrn.bootPtr = d.slotValid d.hrn.bootPtr := rfl
  revert picked
  simp only [Dev.pickSlot, valid, withEpoch_newestValid]
  split
  · rintro ⟨⟩
    rfl
  · split
    · rintro ⟨⟩
      rfl
    · nofun

theorem withEpoch_pickSlot_none {d : Dev} {e : Word} (picked : d.pickSlot.1 = none) :
    (d.withEpoch e).pickSlot = (none, (((d.withEpoch e).raise R.HRN_BOOT_NONE).eventM .noImage).goStopped) := by
  have valid : (d.withEpoch e).slotValid (d.withEpoch e).hrn.bootPtr = d.slotValid d.hrn.bootPtr := rfl
  revert picked
  simp only [Dev.pickSlot, valid, withEpoch_newestValid]
  split
  · nofun
  · split
    · nofun
    · exact fun _ => rfl

theorem pickSlot_keeps {d : Dev} {k : Nat} (picked : d.pickSlot.1 = some k) : d.KeepsBoot d.pickSlot.2 := by
  revert picked
  unfold Dev.pickSlot
  split
  · exact fun _ => .refl
  · split
    · exact fun _ => .eventM (.raise .refl)
    · nofun

/-! ### The marks of the slots (R120, R121) -/

/-- The marks show the boot pointer, and leave `NONE`. -/
theorem showMarks_shape (d : Dev) :
    d.showMarks.rd R.HRN_BOOT_NONE = d.rd R.HRN_BOOT_NONE ∧ d.showMarks.rd R.HRN_BOOT_POINTER_SLOT = d.hrn.bootPtr % 4 := by
  unfold Dev.showMarks
  extract_lets +onlyGivenNames d1 d2
  have none (x : Dev) (k : Nat) (hk : k < 4) {f : Fld} (hf : f.off = 0x40 + k * 4) (fit : f.lo + f.wd ≤ 32) (v : Nat) :
      (x.wr f v).rd R.HRN_BOOT_NONE = x.rd R.HRN_BOOT_NONE :=
    Dev.rd_wr_other x f _ v fit (.inl (by rw [hf, R.HRN_BOOT_NONE]; simp only; omega))
  have marked : d.Keeps (·.rd R.HRN_BOOT_NONE) d1 := .foldlMem .refl fun x k hk hx => by
    have low := List.mem_range.1 hk
    exact ((hx.same (none _ k low rfl (by simp [R.HRN_SLOT_BOOT_PTR]) _)).same
      (none _ k low rfl (by simp [R.HRN_SLOT_RUNNING]) _)).same (none _ k low rfl (by simp [R.HRN_SLOT_STAGED]) _)
  have same : d1.hrn = d.hrn :=
    (Dev.KeepsBoot.each (.refl (d := d)) fun _ _ hx => .flag (.flag (.flag hx))).hrn_eq
  have boot {f : Fld} (hf : f.off = 0x50) : (d2.wr R.HRN_EPOCH d2.hrn.epoch.toNat).rd f = d2.rd f :=
    Dev.rd_wr_other d2 _ f _ (by decide) (.inl (by rw [hf]; decide))
  rw [boot rfl, boot rfl]
  constructor
  · have apart {f : Fld} (hf : f.separate R.HRN_BOOT_NONE) (fit : f.lo + f.wd ≤ 32) (x : Dev) (v : Nat) :
      (x.wr f v).rd R.HRN_BOOT_NONE = x.rd R.HRN_BOOT_NONE := Dev.rd_wr_other x f _ v fit hf
    calc d2.rd R.HRN_BOOT_NONE
      _ = (d1.wr R.HRN_BOOT_RUNNING_SLOT d1.hrn.slot).rd R.HRN_BOOT_NONE := apart (by decide) (by decide) _ _
      _ = d1.rd R.HRN_BOOT_NONE := apart (by decide) (by decide) _ _
      _ = d.rd R.HRN_BOOT_NONE := marked
  · rw [← same]
    exact Dev.rd_wr_same _ _ _ (by decide)

/-! ### The selection (R58, R102) -/

/-- A mismatch that stops the module leaves what lasts. -/
theorem eventStop_lasts {d : Dev} (idle : d.mgmt.staged = []) (e : Ev) : d.Lasts (d.event e (source 0 0)).goStopped :=
  (Dev.Lasts.event .refl).goStopped idle

theorem compareProtect_lasts {d : Dev} (idle : d.mgmt.staged = []) : d.Lasts d.compareProtect := by
  unfold Dev.compareProtect
  split
  · exact .event .refl
  · exact .ite (.event .refl) (.ite .refl (eventStop_lasts idle _))

theorem compareSafety_lasts {d : Dev} (idle : d.mgmt.staged = []) : d.Lasts d.compareSafety := by
  unfold Dev.compareSafety
  split
  · exact .event .refl
  · exact .ite (eventStop_lasts idle _) (.ite (.event .refl) .refl)

/-- The comparisons of the stored sections leave what lasts (R289). -/
theorem compareBridle_lasts {d : Dev} (idle : d.mgmt.staged = []) : d.Lasts d.compareBridle :=
  have first := compareProtect_lasts idle
  first.trans (compareSafety_lasts (first.staged_eq.trans idle))

/-- The image of a slot runs, with the repair map and the calibration of the start. -/
def Dev.bootFrom (d : Dev) (k : Nat) : Dev := ((d.runImage k).readSeal.loadCal).onStart fun s => { s with image := true }

theorem bootFrom_shape (d : Dev) (k : Nat) : (d.bootFrom k).power.start.image = true ∧
    (d.bootFrom k).mgmt.staged = d.mgmt.staged ∧
    (d.bootFrom k).hrn = { d.hrn with image := some (loadImage (d.hrnSlot k).bytes), slot := k } := by
  let taken : Dev := { d with hrn := { d.hrn with image := some (loadImage (d.hrnSlot k).bytes), slot := k } }
  have runs : taken.KeepsBoot (d.runImage k).readSeal.loadCal := .loadCal (.readSeal (.showMarks (.showImage .refl)))
  rw [Dev.bootFrom, Dev.onStart_start, Dev.onStart_mgmt, Dev.onStart_hrn]
  exact ⟨rfl, runs.staged_eq, runs.hrn_eq⟩

/-- A start with no image stops. -/
def Dev.bootNone (d : Dev) : Dev := ((d.raise R.HRN_BOOT_NONE).eventM .noImage).goStopped

theorem bootNone_shape {d : Dev} (role : d.role = .starting) (idle : d.committed = false) (staged : d.mgmt.staged = []) :
    d.bootNone.role = .stopped ∧ d.bootNone.rd R.HRN_BOOT_NONE = 1 ∧
      d.bootNone.power.start.image = d.power.start.image ∧ d.bootNone.hrn = d.hrn := by
  let told := (d.raise R.HRN_BOOT_NONE).eventM .noImage
  have power : told.power = d.power := by rw [Dev.eventM_power, Dev.raise_power]
  have starts : told.role = .starting := role
  have stops : Dev.Stays { told with role := .stopped } told.goStopped :=
    Dev.Stays.goStopped .refl staged (by rw [starts]; decide) (by rw [Dev.committed, power]; exact idle)
  have lasts : told.Lasts d.bootNone := Dev.Lasts.refl.goStopped staged
  have image : d.bootNone.power.start.image = told.power.start.image := lasts.image_eq
  rw [image, power, lasts.rd_eq (.inl rfl), lasts.hrn_eq]
  exact ⟨stops.role_eq, Dev.rd_raise d _ (by decide) (by decide), rfl, rfl⟩

/-- The start goes on with the slot that was picked. -/
def Dev.bootPicked : Option Nat × Dev → Dev
  | (none, d) => d.showMarks
  | (some k, d) => ((d.preferPartner k).2.bootFrom (d.preferPartner k).1).compareBridle

section
variable {d : Dev} (starting : d.isStarting = true) (position : d.power.start.position = true)
  (bridle : d.power.start.bridle = true) (ahead : d.power.start.image = false) (staged : d.mgmt.staged = [])
include starting position bridle ahead

theorem bootSelect_eq : d.bootSelect = Dev.bootPicked (d.slotsChecked.withEpoch d.slotsChecked.hrn.bootEpoch).pickSlot := by
  simp only [Dev.bootSelect, starting, position, bridle, ahead, Bool.and_self, Bool.not_false, Bool.not_true,
    Bool.false_eq_true, if_false]
  rfl

include staged

/-- A slot is found: its image runs from there on. -/
theorem bootSelect_some {k : Nat} (picked : d.slotsChecked.pickSlot.1 = some k)
    (alone : d.slotsChecked.pickSlot.2.partnerSlot k = none) :
    d.bootSelect.power.start.image = true ∧ d.bootSelect.hrn.slot = k ∧ d.bootSelect.hrn.epoch = d.hrn.bootEpoch ∧
      d.bootSelect.hrn.image.isSome = true := by
  obtain ⟨-, -, noWrites, epoch, -⟩ := bootPart_parts (slotsChecked_keeps d)
  have kept := pickSlot_keeps picked
  have own (e : Word) : (d.slotsChecked.pickSlot.2.withEpoch e).preferPartner k =
      (k, d.slotsChecked.pickSlot.2.withEpoch e) := by
    rw [Dev.preferPartner, withEpoch_partnerSlot, alone]
  have shape : d.bootSelect = ((d.slotsChecked.pickSlot.2.withEpoch d.hrn.bootEpoch).bootFrom k).compareBridle := by
    rw [bootSelect_eq starting position bridle ahead, withEpoch_pickSlot picked, epoch, Dev.bootPicked, own]
  rw [shape]
  obtain ⟨image, staged', hrn⟩ := bootFrom_shape (d.slotsChecked.pickSlot.2.withEpoch d.hrn.bootEpoch) k
  have lasts := compareBridle_lasts (staged'.trans (kept.staged_eq.trans (noWrites.trans staged)))
  rw [lasts.hrn_eq, hrn]
  exact ⟨lasts.image_eq.trans image, rfl, rfl, rfl⟩

/-- No slot is VALID: the start stops with no image. -/
theorem bootSelect_none (idle : d.committed = false) (picked : d.slotsChecked.pickSlot.1 = none) :
    d.bootSelect.role = .stopped ∧ d.bootSelect.rd R.HRN_BOOT_NONE = 1 ∧ d.bootSelect.power.start.image = false ∧
      d.bootSelect.rd R.HRN_BOOT_POINTER_SLOT = d.hrn.bootPtr % 4 ∧ d.bootSelect.hrn.epoch = d.hrn.bootEpoch := by
  obtain ⟨role, power, noWrites, epoch, pointer⟩ := bootPart_parts (slotsChecked_keeps d)
  have shape : d.bootSelect = (d.slotsChecked.withEpoch d.hrn.bootEpoch).bootNone.showMarks := by
    rw [bootSelect_eq starting position bridle ahead, withEpoch_pickSlot_none picked, epoch]
    rfl
  have live : d.slotsChecked.committed = false := by
    rw [Dev.committed, power]
    exact idle
  rw [shape]
  generalize d.slotsChecked = e at role power noWrites pointer live
  obtain ⟨stopped, none, image, hrn⟩ := bootNone_shape (d := e.withEpoch d.hrn.bootEpoch)
    (role.trans (isStarting_role starting)) live (noWrites.trans staged)
  generalize (e.withEpoch d.hrn.bootEpoch).bootNone = found at stopped none image hrn
  have marks : found.KeepsBoot found.showMarks := .showMarks .refl
  obtain ⟨none', pointer'⟩ := showMarks_shape found
  rw [none', pointer', marks.hrn_eq, marks.power_eq, marks.role_eq, hrn, image]
  exact ⟨stopped, none, (congrArg (fun p : PowerSt => p.start.image) power).trans ahead, congrArg (· % 4) pointer, rfl⟩

end

end Sys2Proof.Machine

end

section
/-! LAWS. The load of the clusters (O32): what each step of it keeps. -/

namespace Sys2Proof.Machine

/-! ### The clusters are loaded (R58, R94, R209, R216, R231) -/

theorem exec_clustersLoaded (s : State) : exec .clustersLoaded s = s.act Dev.clustersLoaded := rfl

/-- The role, the images and the judgement of the retain slots are as before. -/
def Dev.KeepsLoad (d e : Dev) : Prop := d.Keeps (fun x => (x.role, x.hrn, x.cycle.judged)) e

namespace Dev.KeepsLoad

variable {d₀ d : Dev}

theorem role_eq (h : d₀.KeepsLoad d) : d.role = d₀.role := congrArg Prod.fst h
theorem hrn_eq (h : d₀.KeepsLoad d) : d.hrn = d₀.hrn := congrArg (·.2.1) h
theorem judged_eq (h : d₀.KeepsLoad d) : d.cycle.judged = d₀.cycle.judged := congrArg (·.2.2) h

theorem refl : d.KeepsLoad d := Keeps.refl
theorem trans {e : Dev} (h : d₀.KeepsLoad d) (h' : d.KeepsLoad e) : d₀.KeepsLoad e := Eq.trans h' h
theorem ite {c : Prop} [Decidable c] {a b : Dev} (ha : d₀.KeepsLoad a) (hb : d₀.KeepsLoad b) :
    d₀.KeepsLoad (if c then a else b) :=
  Keeps.ite ha hb
theorem foldl {α : Type} {f : Dev → α → Dev} {l : List α} (h : d₀.KeepsLoad d)
    (hf : ∀ x a, d₀.KeepsLoad x → d₀.KeepsLoad (f x a)) : d₀.KeepsLoad (l.foldl f d) := Keeps.foldl h hf
theorem each {n f} (h : d₀.KeepsLoad d) (hf : ∀ k x, d₀.KeepsLoad x → d₀.KeepsLoad (f k x)) : d₀.KeepsLoad (d.each n f) :=
  Keeps.each h hf

theorem wr {f v} (h : d₀.KeepsLoad d) : d₀.KeepsLoad (d.wr f v) := h
theorem wrSat {f v} (h : d₀.KeepsLoad d) : d₀.KeepsLoad (d.wrSat f v) := h
theorem raise {f} (h : d₀.KeepsLoad d) : d₀.KeepsLoad (d.raise f) := h
theorem drop {f} (h : d₀.KeepsLoad d) : d₀.KeepsLoad (d.drop f) := h
theorem flag {f b} (h : d₀.KeepsLoad d) : d₀.KeepsLoad (d.flag f b) := h
theorem incWrap {f} (h : d₀.KeepsLoad d) : d₀.KeepsLoad (d.incWrap f) := h
theorem clear {fs} (h : d₀.KeepsLoad d) : d₀.KeepsLoad (d.clear fs) := .foldl h fun _ _ hx => drop hx
theorem event {e src ps} (h : d₀.KeepsLoad d) : d₀.KeepsLoad (d.event e src ps) := h
theorem putTile {t x} (h : d₀.KeepsLoad d) : d₀.KeepsLoad (d.putTile t x) := h
theorem onTile {t f} (h : d₀.KeepsLoad d) : d₀.KeepsLoad (d.onTile t f) := .putTile h
theorem onCycle {f} (h : d₀.KeepsLoad d) (hf : (f d.cycle).judged = d.cycle.judged := by rfl) :
    d₀.KeepsLoad (d.onCycle f) := by
  refine h.trans ?_
  simp only [Dev.KeepsLoad, Keeps, Dev.onCycle, hf]

theorem putRole {t role logical sub} (h : d₀.KeepsLoad d) : d₀.KeepsLoad (d.putRole t role logical sub) := .flag (.wr (.wr h))

theorem placeCluster {n} (h : d₀.KeepsLoad d) : d₀.KeepsLoad (d.placeCluster n) := by
  unfold Dev.placeCluster
  extract_lets +onlyGivenNames d1 d2 _ d3
  have h2 : d₀.KeepsLoad d2 := .clear (.wr (.wr (.foldl h fun _ _ hx => .putRole hx)))
  have h3 : d₀.KeepsLoad d3 := by
    unfold d3
    split
    · exact .ite h2 (.flag (.raise (.wr (.putRole (.putRole h2)))))
    · exact h2
  exact .ite (.drop h3) (.event (.raise h3))

theorem finishRequest {k client id s body} (h : d₀.KeepsLoad d) : d₀.KeepsLoad (d.finishRequest k client id s body) := by
  unfold Dev.finishRequest
  split
  · exact h
  · exact (h.incWrap : d₀.KeepsLoad (d.incWrap R.SEC_REQUESTS))

theorem forgetCommands (h : d₀.KeepsLoad d) : d₀.KeepsLoad d.forgetCommands :=
  .wrSat (.foldl (.onCycle h) fun _ _ hx => .finishRequest hx)

theorem freshCycle (h : d₀.KeepsLoad d) : d₀.KeepsLoad d.freshCycle := .onCycle h

theorem loadPart {p} (h : d₀.KeepsLoad d) : d₀.KeepsLoad (d.loadPart p) := .putTile h

theorem startTiles (h : d₀.KeepsLoad d) : d₀.KeepsLoad d.startTiles :=
  .wrSat (.wrSat (.each (.each h fun _ _ hx => .raise hx) fun _ _ hx => .ite (.drop hx) (.clear (.wr hx))))

theorem loadPages (h : d₀.KeepsLoad d) : d₀.KeepsLoad d.loadPages := .foldl h fun _ _ hx => .onTile hx

end Dev.KeepsLoad

theorem leaveTo_role (d : Dev) (r : Role) : (d.leaveTo r).role = r := by
  unfold Dev.leaveTo
  extract_lets +onlyGivenNames d1
  have entered : d1.role = r := (Dev.Stays.refl (d := d.stopCycles)).setRole.role_eq
  rw [applyStaged_role]
  exact entered

/-- A fault leaves the module in STOPPED, or only lights it. -/
theorem goStopped_role (d : Dev) : d.goStopped.role = .stopped ∨ d.KeepsLoad d.goStopped := by
  by_cases stays : (d.role = .stopped || d.committed) = true
  · have lit : d.goStopped = d.onPower fun p => { p with faultStop := true } := if_pos stays
    rw [lit]
    exact .inr rfl
  · exact .inl ((congrArg Dev.role (if_neg stays)).trans (leaveTo_role _ _))

/-- With the module still in its start, the placement has stopped nothing. -/
theorem placeTiles_keeps {d : Dev} (starting : d.placeTiles.role = .starting) : d.KeepsLoad d.placeTiles := by
  let placed := d.each 9 fun n d => d.placeCluster n
  have kept : d.KeepsLoad placed := .each .refl fun _ _ hx => .placeCluster hx
  have shape : d.placeTiles = placed ∨ d.placeTiles = placed.goStopped := by
    by_cases exhausted : ((List.range 9).any fun n => placed.on (R.LIFE_REP_TILE_EXHAUSTED n)) = true
    · exact .inr (if_pos exhausted)
    · exact .inl (if_neg exhausted)
  rcases shape with same | stops
  · rw [same]
    exact kept
  · rcases goStopped_role placed with stopped | lit
    · rw [stops, stopped] at starting
      cases starting
    · rw [stops]
      exact kept.trans lit

/-- The judgement of the retain slots is made (R209). -/
theorem judgeRetain_shape (d : Dev) :
    d.judgeRetain.role = d.role ∧ d.judgeRetain.hrn = d.hrn ∧ d.judgeRetain.cycle.judged.isSome = true := by
  unfold Dev.judgeRetain
  extract_lets +onlyGivenNames _
  split
  · exact ⟨rfl, rfl, rfl⟩
  · exact ⟨rfl, rfl, rfl⟩

/-- The slots of the image read STOPPED, the others UNUSED. -/
def Dev.slotsLoaded (d : Dev) : Dev :=
  d.each 48 fun k d => d.setSlotState k (if (d.slotImg k).isSome then lsStopped else lsUnused)

theorem slotsLoaded_keeps (d : Dev) : d.KeepsLoad d.slotsLoaded := .each .refl fun _ _ hx => .wr hx

/-- With every program well formed no slot is refused (R231). -/
theorem loadLoops_eq {d : Dev} (good : ∀ i ∈ d.image.slots, i.programOk = true) : d.loadLoops = d.slotsLoaded := by
  have image : d.slotsLoaded.image = d.image := by rw [Dev.image, Dev.image, (slotsLoaded_keeps d).hrn_eq]
  have none : d.slotsLoaded.image.slots.filter (fun i => !i.programOk) = [] := by
    simp only [image, List.filter_eq_nil_iff, Bool.not_eq_true', Bool.not_eq_false]
    exact good
  unfold Dev.loadLoops
  simp only [← Dev.slotsLoaded.eq_def d, none, List.foldl_nil, List.isEmpty_nil, if_true]

theorem loadLoops_keeps {d : Dev} (good : ∀ i ∈ d.image.slots, i.programOk = true) : d.KeepsLoad d.loadLoops := by
  rw [loadLoops_eq good]
  exact slotsLoaded_keeps d

/-- The module is loaded with its image, in its start still. -/
def Dev.loadImages (d : Dev) : Dev :=
  ((d.image.parts.foldl Dev.loadPart d).startTiles).loadPages.loadLoops

theorem loadImages_keeps {d : Dev} (good : ∀ i ∈ d.image.slots, i.programOk = true) : d.KeepsLoad d.loadImages := by
  have pages : d.KeepsLoad ((d.image.parts.foldl Dev.loadPart d).startTiles).loadPages :=
    .loadPages (.startTiles (.foldl .refl fun _ _ hx => .loadPart hx))
  refine pages.trans (loadLoops_keeps ?_)
  rw [Dev.image, pages.hrn_eq]
  exact good

section
variable {d : Dev} {im : Image} (starting : d.isStarting = true) (image : d.power.start.image = true)
  (clusters : d.power.start.clusters = 9) (tested : d.power.start.selfTest = true) (ahead : d.power.start.loaded = false)

include starting image clusters tested ahead

theorem clustersLoaded_eq : d.clustersLoaded =
    let e := d.placeTiles.forgetCommands.freshCycle.judgeRetain.loadImages
    let e' := e.onStart fun s => { s with loaded := true }
    if e.role ≠ .starting then e else if e'.reloading then e'
    else if e'.image.header.pairMode = 0 then e'.enterSolo else e'.listen := by
  simp only [Dev.clustersLoaded, starting, image, clusters, tested, ahead, decide_true, Bool.and_self, Bool.not_false,
    Bool.not_true, Bool.false_eq_true, if_false]
  rfl

/-- In a pair the module listens next (R339). -/
theorem clustersLoaded_listens (loaded : d.hrn.image = some im) (pair : im.header.pairMode = 1)
    (good : ∀ i ∈ im.slots, i.programOk = true) (idle : d.hrn.staged = none) (placed : d.placeTiles.role = .starting) :
    d.clustersLoaded.role = .starting ∧ d.clustersLoaded.power.start.loaded = true ∧
      d.clustersLoaded.power.start.listening = true ∧ d.clustersLoaded.power.start.heardRole = none ∧
      d.clustersLoaded.cycle.judged.isSome = true := by
  have placing : d.KeepsLoad d.placeTiles.forgetCommands.freshCycle :=
    .freshCycle (.forgetCommands (placeTiles_keeps placed))
  obtain ⟨role, hrn, judged⟩ := judgeRetain_shape d.placeTiles.forgetCommands.freshCycle
  rw [clustersLoaded_eq starting image clusters tested ahead]
  replace role := role.trans (placing.role_eq.trans (isStarting_role starting))
  replace hrn := hrn.trans placing.hrn_eq
  generalize d.placeTiles.forgetCommands.freshCycle.judgeRetain = x at role hrn judged
  have own : x.image = im := by rw [Dev.image, hrn, loaded]; rfl
  have kept : x.KeepsLoad x.loadImages := loadImages_keeps (by rw [own]; exact good)
  replace role := kept.role_eq.trans role
  replace hrn := kept.hrn_eq.trans hrn
  rw [← kept.judged_eq] at judged
  generalize x.loadImages = y at role hrn judged
  let z := y.onStart fun s => { s with loaded := true }
  have rejoins : z.reloading = false := by rw [Dev.reloading, Dev.onStart_hrn, hrn, idle]
  have pairs : z.image.header.pairMode = 1 := by
    rw [Dev.image, Dev.onStart_hrn, hrn, loaded]
    exact pair
  have shape : (if y.role ≠ .starting then y else if z.reloading then z
      else if z.image.header.pairMode = 0 then z.enterSolo else z.listen) = z.listen := by
    rw [if_neg (not_not_intro role), rejoins, pairs]
    rfl
  rw [show _ = z.listen from shape]
  exact ⟨role, rfl, rfl, rfl, judged⟩

end

end Sys2Proof.Machine

end

section
/-! LAWS. The end of the listen window (O32): the entries into STANDBY and into a role that commands. -/

namespace Sys2Proof.Machine

/-! ### The listen window (R210, R211, R318, R339) -/

theorem exec_listenWindowEnd (p : Option (DWord × List (Nat × List Byte))) (s : State) :
    exec (.listenWindowEnd p) s = s.act (·.listenEnd p) := rfl
theorem exec_standbyWaitTimeout (s : State) : exec .standbyWaitTimeout s = s.act Dev.standbyWait := rfl

/-- The role, the power record, the twin and whether cycles run are as before. -/
def Dev.KeepsEntry (d e : Dev) : Prop := d.Keeps (fun x => (x.role, x.power, x.twin, x.cycle.running)) e

namespace Dev.KeepsEntry

variable {d₀ d : Dev}

theorem role_eq (h : d₀.KeepsEntry d) : d.role = d₀.role := congrArg Prod.fst h
theorem power_eq (h : d₀.KeepsEntry d) : d.power = d₀.power := congrArg (·.2.1) h
theorem twin_eq (h : d₀.KeepsEntry d) : d.twin = d₀.twin := congrArg (·.2.2.1) h
theorem running_eq (h : d₀.KeepsEntry d) : d.cycle.running = d₀.cycle.running := congrArg (·.2.2.2) h

theorem refl : d.KeepsEntry d := Keeps.refl
theorem trans {e : Dev} (h : d₀.KeepsEntry d) (h' : d.KeepsEntry e) : d₀.KeepsEntry e := Eq.trans h' h
theorem ite {c : Prop} [Decidable c] {a b : Dev} (ha : d₀.KeepsEntry a) (hb : d₀.KeepsEntry b) :
    d₀.KeepsEntry (if c then a else b) :=
  Keeps.ite ha hb
theorem foldl {α : Type} {f : Dev → α → Dev} {l : List α} (h : d₀.KeepsEntry d)
    (hf : ∀ x a, d₀.KeepsEntry x → d₀.KeepsEntry (f x a)) : d₀.KeepsEntry (l.foldl f d) := Keeps.foldl h hf

theorem wr {f v} (h : d₀.KeepsEntry d) : d₀.KeepsEntry (d.wr f v) := h
theorem raise {f} (h : d₀.KeepsEntry d) : d₀.KeepsEntry (d.raise f) := h
theorem drop {f} (h : d₀.KeepsEntry d) : d₀.KeepsEntry (d.drop f) := h
theorem flag {f b} (h : d₀.KeepsEntry d) : d₀.KeepsEntry (d.flag f b) := h
theorem incSat {f} (h : d₀.KeepsEntry d) : d₀.KeepsEntry (d.incSat f) := h
theorem clear {fs} (h : d₀.KeepsEntry d) : d₀.KeepsEntry (d.clear fs) := .foldl h fun _ _ hx => drop hx
theorem event {e src ps} (h : d₀.KeepsEntry d) : d₀.KeepsEntry (d.event e src ps) := h
theorem eventM {e ps} (h : d₀.KeepsEntry d) : d₀.KeepsEntry (d.eventM e ps) := h
theorem onTile {t f} (h : d₀.KeepsEntry d) : d₀.KeepsEntry (d.onTile t f) := h
theorem onIo {f} (h : d₀.KeepsEntry d) : d₀.KeepsEntry (d.onIo f) := h
theorem onAo {n f} (h : d₀.KeepsEntry d) : d₀.KeepsEntry (d.onAo n f) := h
theorem listNext {p c t x} (h : d₀.KeepsEntry d) : d₀.KeepsEntry (d.listNext p c t x) := h
theorem onCycle {f} (h : d₀.KeepsEntry d) (hf : (f d.cycle).running = d.cycle.running := by rfl) :
    d₀.KeepsEntry (d.onCycle f) := by
  refine h.trans ?_
  simp only [Dev.KeepsEntry, Keeps, Dev.onCycle, hf]

/-! ### The restart kind (R209, R210) -/

theorem restoreRange {p data} (h : d₀.KeepsEntry d) : d₀.KeepsEntry (d.restoreRange p data) := by
  unfold Dev.restoreRange
  split
  · exact .onTile h
  · exact h

theorem presetOutputs {warm} (h : d₀.KeepsEntry d) : d₀.KeepsEntry (d.presetOutputs warm) :=
  .foldl h fun _ _ hx => .onTile hx

theorem coldStart (h : d₀.KeepsEntry d) : d₀.KeepsEntry d.coldStart := .onCycle (.wr (.presetOutputs h))

theorem warmStart {c} (h : d₀.KeepsEntry d) : d₀.KeepsEntry (d.warmStart c) :=
  .onCycle (.wr (.presetOutputs (.foldl h fun _ _ hx => .restoreRange hx)))

theorem retainInvalid (h : d₀.KeepsEntry d) : d₀.KeepsEntry d.retainInvalid := .listNext (.eventM (.raise h))

theorem restartState {partner} (h : d₀.KeepsEntry d) : d₀.KeepsEntry (d.restartState partner) := by
  unfold Dev.restartState
  extract_lets +onlyGivenNames _ d1
  have h1 : d₀.KeepsEntry d1 := .onCycle h
  refine .ite ?_ (.coldStart h1)
  split
  · exact .warmStart h1
  · exact .coldStart (.retainInvalid h1)

/-! ### The local outputs (R380, R381, R387) -/

theorem showDio (h : d₀.KeepsEntry d) : d₀.KeepsEntry d.showDio := by
  unfold Dev.showDio
  extract_lets +onlyGivenNames _ _ _ d1
  have h1 : d₀.KeepsEntry d1 := .flag (.flag (.onIo h))
  exact .ite (.event (.wr (.incSat (.raise h1)))) h1

theorem aoShow {n} (h : d₀.KeepsEntry d) : d₀.KeepsEntry (d.aoShow n) := .wr (.ite h (.onAo (.wr h)))

theorem aoRelease {n w} (h : d₀.KeepsEntry d) : d₀.KeepsEntry (d.aoRelease n w) := .aoShow (.onAo (.wr h))

theorem dioRelease {w} (h : d₀.KeepsEntry d) : d₀.KeepsEntry (d.dioRelease w) := .showDio (.onIo (.wr (.wr h)))

theorem releaseLocal {t p} (h : d₀.KeepsEntry d) : d₀.KeepsEntry (d.releaseLocal t p) := by
  unfold Dev.releaseLocal
  split
  · exact h
  · refine .foldl (.ite h (.dioRelease h)) fun _ _ hx => ?_
    split
    · exact .aoRelease hx
    all_goals exact hx

theorem releaseAll (h : d₀.KeepsEntry d) : d₀.KeepsEntry d.releaseAll := .foldl h fun _ _ hx => .releaseLocal hx

theorem disarmStep (h : d₀.KeepsEntry d) : d₀.KeepsEntry d.disarmStep := .ite (.wr (.drop h)) (.ite (.wr (.drop h)) (.drop h))

end Dev.KeepsEntry

/-! ### Entering a role at the end of the start -/

/-- A change of role leaves the start's steps and the epoch. -/
theorem setRole_shape (d : Dev) (r : Role) :
    (d.setRole r).role = r ∧ (d.setRole r).power.start = d.power.start ∧ (d.setRole r).twin.epoch = d.twin.epoch := by
  have supply : (d.onPower (·.enters r)).KeepsSupply (d.setRole r) := Dev.KeepsSupply.setRole (d := d) rfl
  have power : (d.setRole r).power = d.power.enters r := congrArg Supply.power supply
  have start : (d.setRole r).power.start = d.power.start := by rw [power, PowerSt.enters]
  exact ⟨(Dev.Stays.refl (d := d)).setRole.role_eq, start, (Dev.Lasts.setRole .refl).epoch_eq⟩

/-- The entry into a role that commands: cycles run from there on. -/
theorem enterCommand_shape (d : Dev) (r : Role) :
    (d.enterCommand r).role = r ∧ (d.enterCommand r).power.start = d.power.start ∧
      (d.enterCommand r).twin.epoch = d.twin.epoch ∧ (d.enterCommand r).cycle.running = true := by
  obtain ⟨role, start, epoch⟩ := setRole_shape d r
  let shown := ((d.setRole r).disarmStep.clear [R.DIO_STATUS_GROUPS, R.CYCLE_STATUS_RETURNING]).wr R.TWIN_TOKENS_HELD 0
  have kept : (d.setRole r).KeepsEntry shown := .wr (.clear (.disarmStep .refl))
  have role' : (d.enterCommand r).role = shown.role := rfl
  have power' : (d.enterCommand r).power = shown.power := rfl
  have epoch' : (d.enterCommand r).twin.epoch = shown.twin.epoch := rfl
  rw [role', power', epoch', kept.role_eq, kept.power_eq, kept.twin_eq]
  exact ⟨role, start, epoch, rfl⟩

/-- The module commands at the end of its start, in the next epoch (R318). -/
theorem enterFromStart_shape (d : Dev) (r : Role) (p : Option (DWord × List (Nat × List Byte))) :
    (d.enterFromStart r p).role = r ∧ (d.enterFromStart r p).cycle.running = true ∧
      (d.enterFromStart r p).power.start.listening = false ∧ (d.enterFromStart r p).twin.epoch = d.startEpoch := by
  have restored : d.KeepsEntry (d.restartState p) := .restartState .refl
  have next : (d.restartState p).startEpoch = d.startEpoch := by
    rw [Dev.startEpoch, Dev.startEpoch, restored.twin_eq, restored.power_eq]
  let entering := ((d.restartState p).onTwin fun t => { t with epoch := (d.restartState p).startEpoch }).onStart
    fun s => { s with listening := false, waitingA := false }
  obtain ⟨role, start, epoch, running⟩ := enterCommand_shape entering r
  have shape : d.enterFromStart r p = (entering.enterCommand r).releaseAll := rfl
  generalize entering.enterCommand r = e at shape role start epoch running
  have out : e.KeepsEntry e.releaseAll := .releaseAll .refl
  rw [shape, out.role_eq, out.running_eq, out.power_eq, out.twin_eq, start, epoch, ← next]
  exact ⟨role, running, rfl, rfl⟩

theorem startCopy_supply (d : Dev) : d.KeepsSupply d.startCopy := by
  unfold Dev.startCopy
  extract_lets +onlyGivenNames d1 _ d2
  have h1 : d.KeepsSupply d1 := .flag (.wr (.withTwin rfl))
  have h2 : d.KeepsSupply d2 := h1
  exact .ite (.raise (.drop (.wr h2))) (.drop h2)

/-- An entry into STANDBY (R330, R375). -/
theorem enterStandby_shape (d : Dev) :
    d.enterStandby.role = .standby ∧ d.enterStandby.power.start = d.power.start := by
  obtain ⟨role, start, -⟩ := setRole_shape d .standby
  let timed := (d.setRole .standby).restartTime false
  have kept : (d.setRole .standby).KeepsRole timed := .restartTime Dev.Keeps.refl
  have supply : (d.setRole .standby).KeepsSupply timed := Dev.KeepsSupply.restartTime (d₀ := d.setRole .standby) rfl
  let running : Dev := { timed with cycle := { timed.cycle with running := true, firstDue := true } }
  have copies : running.KeepsRole running.startCopy := .startCopy Dev.Keeps.refl
  have power : running.startCopy.power = (d.setRole .standby).power :=
    (congrArg Supply.power (startCopy_supply running)).trans (congrArg Supply.power supply)
  have shape : d.enterStandby = running.startCopy := rfl
  rw [shape, power]
  exact ⟨copies.role_eq.trans (kept.role_eq.trans role), start⟩

/-- The module joins as STANDBY (R211). -/
theorem joinStandby_shape (d : Dev) :
    d.joinStandby.role = .standby ∧ d.joinStandby.rd R.CYCLE_STATUS_RESTART_KIND = 3 ∧
      d.joinStandby.power.start.listening = false := by
  let joining := (d.onStart fun s => { s with listening := false, waitingA := false }).onCycle
    fun c => { c with named := none }
  obtain ⟨role, start⟩ := enterStandby_shape joining
  have power : d.joinStandby.power.start = joining.power.start := start
  rw [power]
  exact ⟨role, Dev.rd_wr_same joining.enterStandby _ 3 (by decide), rfl⟩

section
variable {d : Dev} {p : Option (DWord × List (Nat × List Byte))} (starting : d.isStarting = true)
  (listening : d.power.start.listening = true) (ready : d.on R.POWER_HOLDUP_READY = true)
  (own : d.power.start.heardOwn = false) (clash : d.on R.TWIN_STATUS_IDENT_CLASH = false)
  (elig : d.rd R.TWIN_ELIG_CAUSES / 64 % 2 = 0)
include starting listening ready own clash elig

/-- The window ends by what was heard in it: the partner commands, it starts too and this side is B, or nothing. -/
theorem listenEnd_cases :
    (d.power.start.heardRole = some .active ∨ d.power.start.heardRole = some .solo → d.listenEnd p = d.joinStandby) ∧
      (d.power.start.heardRole = some .starting → d.on R.SADDLE_SIDE = true →
        d.listenEnd p = d.onStart fun s => { s with listening := false, waitingA := true }) ∧
      (d.power.start.heardRole = none → d.listenEnd p = d.enterFromStart .active none) := by
  simp only [Dev.listenEnd, starting, listening, ready, own, clash, elig, Bool.and_self, Bool.or_self, Bool.not_true,
    Bool.false_eq_true, if_false, Nat.zero_ne_one]
  refine ⟨?joins, fun heard side => ?waits, fun heard => ?commands⟩
  case joins =>
    rintro (active | solo)
    · simp only [active]
    · simp only [solo]
  case waits => simp only [heard, side, if_true]
  case commands => simp only [heard]

end

theorem standbyWait_listens {d : Dev} (starting : d.isStarting = true) (waiting : d.power.start.waitingA = true) :
    d.standbyWait = d.listen := by
  rw [Dev.standbyWait, starting, waiting]
  rfl

theorem coldEnd_goes {d : Dev} (waiting : d.power.start.coldWait = true) (warm : d.cold = false) :
    d.coldEnd = d.onStart fun s => { s with coldWait := false } := by
  rw [Dev.coldEnd, waiting, warm]
  rfl

end Sys2Proof.Machine

end

section
/-! LAWS. The start sequence and the commands START and RESTART (O32). -/

namespace Sys2Proof.Machine

/-! ### The obligation -/

/-- Settles O32: the steps of the start in their order, then START and RESTART. -/
theorem startAndRestart : Obligations.StartAndRestart := by
  refine ⟨fun s n k f im part => ⟨fun starting position bridle ahead staged live =>
      ⟨fun picked alone => ?boot, fun none => ?noImage⟩,
    fun starting position image turn warm => ?powered, fun starting position image turn cold => ?waits,
    fun starting staged live powered => ?fault, fun waiting warm => ?coldEnd,
    fun starting clusters formed staged => ?tested,
    fun starting image clusters tested ahead loaded pair good idle placed => ?loaded,
    fun starting listening ready own clash elig => ?listened, fun starting waiting => ?again⟩,
    fun s r warm fresh staged idle => ⟨fun role clash elig runs protect safety image => ?start,
      fun role clash elig runs image => ?startNoImage, fun role => ?startRefused, fun runs => ?restartCold,
      fun runs live => ?restartWarm, fun stopped => ?restartRefused⟩⟩
  case boot =>
    exact answers_act (exec_harnessBootSelect s) (bootSelect_some starting position bridle ahead staged picked alone)
  case noImage =>
    exact answers_act (exec_harnessBootSelect s) (bootSelect_none starting position bridle ahead staged live none)
  case powered =>
    refine answers_act (exec_clusterPowerUp n s) ?_
    rw [clusterUp_warm starting position image turn warm]
    exact ⟨(powered_sets s.dev n).of_regs (Dev.onStart_regs _ _), onStart_rest (writes_rest _ _) _⟩
  case waits =>
    refine answers_act (exec_clusterPowerUp n s) ?_
    rw [clusterUp_cold starting position image turn cold]
    exact clusterUp_cold_shape s.dev
  case fault =>
    refine answers_act (exec_clusterPower n s) ?_
    obtain ⟨role, dark, events⟩ := clusterFault_shape starting staged live powered
    exact ⟨role, dark _ (poweredFlds_subset n List.mem_cons_self),
      fun t ht => dark _ (poweredFlds_subset n (List.mem_cons_of_mem _ (List.mem_map_of_mem ht))), events⟩
  case coldEnd => exact answers_act (exec_coldStartWaitEnd s) (coldEnd_goes waiting warm)
  case tested =>
    refine answers_act (exec_startSelfTestDone f s) ?_
    rw [if_pos formed]
    exact startTested_shape starting clusters staged f
  case loaded =>
    exact answers_act (exec_clustersLoaded s)
      (clustersLoaded_listens starting image clusters tested ahead loaded pair good idle placed)
  case listened =>
    obtain ⟨joins, waits, commands⟩ := listenEnd_cases (p := part) starting listening ready own clash elig
    refine ⟨fun heard => answers_act (exec_listenWindowEnd part s) ?_,
      fun heard side => answers_act (exec_listenWindowEnd part s) (waits heard side),
      fun heard => answers_act (exec_listenWindowEnd part s) ?_⟩
    · rw [joins heard]
      exact joinStandby_shape s.dev
    · rw [commands heard]
      exact enterFromStart_shape s.dev .active none
  case again => exact answers_act (exec_standbyWaitTimeout s) (standbyWait_listens starting waiting)
  case start => exact start_answers fresh staged idle role clash elig runs protect safety image
  case startNoImage => exact start_refused fresh idle role clash elig runs image
  case startRefused => exact start_notPermitted fresh role
  case restartCold => exact restart_cold fresh idle runs
  case restartWarm => exact restart_warm fresh idle runs live
  case restartRefused => exact restart_notPermitted fresh stopped

end Sys2Proof.Machine

end

section
/-! LAWS. A condition that stops a running module (R46, R86): what the stop leaves, with the module's own cause of R331. -/

namespace Sys2Proof.Machine

/-! ### The twin's record over a change of role -/

/-- The twin's record is as before. -/
def Dev.KeepsTwin (d e : Dev) : Prop := d.Keeps Dev.twin e

namespace Dev.KeepsTwin

variable {d₀ d : Dev}

theorem refl : d.KeepsTwin d := Keeps.refl
theorem ite {c : Prop} [Decidable c] {a b : Dev} (ha : d₀.KeepsTwin a) (hb : d₀.KeepsTwin b) :
    d₀.KeepsTwin (if c then a else b) :=
  Keeps.ite ha hb
theorem foldl {α : Type} {f : Dev → α → Dev} {l : List α} (h : d₀.KeepsTwin d)
    (hf : ∀ x a, d₀.KeepsTwin x → d₀.KeepsTwin (f x a)) : d₀.KeepsTwin (l.foldl f d) := Keeps.foldl h hf
theorem each {n f} (h : d₀.KeepsTwin d) (hf : ∀ k x, d₀.KeepsTwin x → d₀.KeepsTwin (f k x)) : d₀.KeepsTwin (d.each n f) :=
  Keeps.each h hf

/-- Driving the outputs leaves it. -/
theorem drives {e : Dev} (h : d₀.KeepsTwin d) (k : d.Drives e) : d₀.KeepsTwin e := Keeps.same h (k.part_eq Dev.twin)

theorem wr {f v} (h : d₀.KeepsTwin d) : d₀.KeepsTwin (d.wr f v) := h
theorem raise {f} (h : d₀.KeepsTwin d) : d₀.KeepsTwin (d.raise f) := h
theorem drop {f} (h : d₀.KeepsTwin d) : d₀.KeepsTwin (d.drop f) := h
theorem flag {f b} (h : d₀.KeepsTwin d) : d₀.KeepsTwin (d.flag f b) := h
theorem addSat {f k} (h : d₀.KeepsTwin d) : d₀.KeepsTwin (d.addSat f k) := h
theorem incSat {f} (h : d₀.KeepsTwin d) : d₀.KeepsTwin (d.incSat f) := h
theorem incWrap {f} (h : d₀.KeepsTwin d) : d₀.KeepsTwin (d.incWrap f) := h
theorem clear {fs} (h : d₀.KeepsTwin d) : d₀.KeepsTwin (d.clear fs) := .foldl h fun _ _ hx => drop hx
theorem event {e src ps} (h : d₀.KeepsTwin d) : d₀.KeepsTwin (d.event e src ps) := h
theorem withLoop {x} (h : d₀.KeepsTwin d) : d₀.KeepsTwin { d with loop := x } := h
theorem onSlot {k f} (h : d₀.KeepsTwin d) : d₀.KeepsTwin (d.onSlot k f) := h
theorem onBridle {f} (h : d₀.KeepsTwin d) : d₀.KeepsTwin (d.onBridle f) := h
theorem onSafety {f} (h : d₀.KeepsTwin d) : d₀.KeepsTwin (d.onSafety f) := h
theorem onIo {f} (h : d₀.KeepsTwin d) : d₀.KeepsTwin (d.onIo f) := h
theorem onAo {n f} (h : d₀.KeepsTwin d) : d₀.KeepsTwin (d.onAo n f) := h
theorem onPort {n f} (h : d₀.KeepsTwin d) : d₀.KeepsTwin (d.onPort n f) := h
theorem compare {n old v} (h : d₀.KeepsTwin d) : d₀.KeepsTwin (d.compare n old v) := h
theorem updateFns (h : d₀.KeepsTwin d) : d₀.KeepsTwin d.updateFns := h.drives (.updateFns .refl)

theorem slotEnters {i} (h : d₀.KeepsTwin d) : d₀.KeepsTwin (d.slotEnters i) := .ite (.onSlot h) (.wr (.onSlot h))

theorem slotLeaves {k} (h : d₀.KeepsTwin d) : d₀.KeepsTwin (d.slotLeaves k) := .ite (.onSlot h) (.wr (.onSlot h))

theorem loopRole {prev new} (h : d₀.KeepsTwin d) : d₀.KeepsTwin (d.loopRole prev new) := by
  unfold Dev.loopRole
  extract_lets +onlyGivenNames d1
  have h1 : d₀.KeepsTwin d1 := .ite (.wr (.raise (.withLoop (.drop h)))) h
  split
  · exact h1
  · exact .ite (.foldl h1 fun _ _ hx => .slotEnters hx) (.ite (.withLoop (.foldl h1 fun _ _ hx => .slotLeaves hx)) h1)

theorem takeProtect (h : d₀.KeepsTwin d) : d₀.KeepsTwin d.takeProtect :=
  .onBridle (.flag (.flag (.each (.onBridle h) fun _ _ hx => .compare hx)))

theorem takeSafety (h : d₀.KeepsTwin d) : d₀.KeepsTwin d.takeSafety := .updateFns (.onSafety h)

theorem leaveMaint (h : d₀.KeepsTwin d) : d₀.KeepsTwin d.leaveMaint := .takeSafety (.ite h (.takeProtect h))

theorem safetyRole {prev new} (h : d₀.KeepsTwin d) : d₀.KeepsTwin (d.safetyRole prev new) := by
  unfold Dev.safetyRole
  extract_lets +onlyGivenNames d1 d2
  have h1 : d₀.KeepsTwin d1 := .ite (.onSafety h) h
  have h2 : d₀.KeepsTwin d2 := .ite h1 (.onBridle h1)
  exact .ite (.leaveMaint h2) (.updateFns h2)

theorem finishRequest {k client id s body} (h : d₀.KeepsTwin d) : d₀.KeepsTwin (d.finishRequest k client id s body) := by
  unfold Dev.finishRequest
  split
  · exact h
  · exact (h.incWrap : d₀.KeepsTwin (d.incWrap R.SEC_REQUESTS))

theorem showDio (h : d₀.KeepsTwin d) : d₀.KeepsTwin d.showDio := by
  unfold Dev.showDio
  extract_lets +onlyGivenNames _ _ _ d1
  have h1 : d₀.KeepsTwin d1 := .flag (.flag (.onIo h))
  exact .ite (.event (.wr (.incSat (.raise h1)))) h1

theorem aoShow {n} (h : d₀.KeepsTwin d) : d₀.KeepsTwin (d.aoShow n) := .wr (.ite h (.onAo (.wr h)))

theorem ioRole {prev new} (h : d₀.KeepsTwin d) : d₀.KeepsTwin (d.ioRole prev new) := by
  unfold Dev.ioRole
  extract_lets +onlyGivenNames d0 d1 d2 d3
  have h0 : d₀.KeepsTwin d0 := .flag h
  have h1 : d₀.KeepsTwin d1 := .ite (.each h0 fun _ _ hx => .foldl (.onAo hx) fun _ _ hx => .finishRequest hx) h0
  have h2 : d₀.KeepsTwin d2 := .ite (.each h1 fun _ _ hx => .onAo hx) h1
  have h3 : d₀.KeepsTwin d3 := .ite h2 (.onIo h2)
  exact .each (.showDio h3) fun _ _ hx => .aoShow hx

theorem canRole {prev new} (h : d₀.KeepsTwin d) : d₀.KeepsTwin (d.canRole prev new) := by
  unfold Dev.canRole
  refine .each h fun _ _ hx => ?_
  extract_lets +onlyGivenNames d1 d2
  have h1 : d₀.KeepsTwin d1 := .ite hx (.onPort hx)
  have h2 : d₀.KeepsTwin d2 := .ite (.drop h1) h1
  exact .ite (.addSat h2) h2

end Dev.KeepsTwin

/-- A change of role changes one cause of the twin's record, ROLE (R331). -/
theorem setRole_twin (d : Dev) (r : Role) :
    (d.setRole r).twin = { d.twin with causes := putBit d.twin.causes 5 (r != Role.standby) } := by
  let shown := ({ d.wr64 R.TWIN_TAKE_T_LO R.TWIN_TAKE_T_HI d.timeT with role := r }).setCause 5 (r != Role.standby)
  let entered := shown.onPower (·.enters r)
  have start : entered.KeepsTwin entered := .refl
  have kept : entered.KeepsTwin (d.setRole r) := .canRole (.ioRole (.safetyRole (.loopRole start)))
  exact kept

/-! ### A fault stops the module (R46) -/

section
variable {d : Dev} (staged : d.mgmt.staged = []) (role : d.role ≠ .stopped) (live : d.committed = false)
include staged role live

theorem goStopped_role_of_live : d.goStopped.role = .stopped := (Dev.Stays.refl.goStopped staged role live).role_eq

theorem goStopped_twin : d.goStopped.twin = { d.twin with causes := putBit d.twin.causes 5 true } := by
  rw [goStopped_leaves role live]
  have idle : (d.onPower fun p => { p with faultStop := true }).mgmt.staged = [] := staged
  rw [leaveTo_settled idle]
  let halted := (d.onPower fun p => { p with faultStop := true }).stopCycles
  have kept : (halted.setRole .stopped).KeepsTwin ((halted.setRole .stopped).drop R.DIO_STATUS_GROUPS |>.clear
      [R.CYCLE_STATUS_FALLBACK, R.CYCLE_STATUS_RETURNING, R.CYCLE_STATUS_FORCED, R.CYCLE_STATUS_OVER_COUNT]) :=
    .clear (.drop .refl)
  exact Eq.trans kept (setRole_twin halted .stopped)

/-- What was presented before the stop comes first. -/
theorem goStopped_presents {b : Dev} {es : List (Ev × BitVec 16)} (h : Presents b d es) :
    ∃ more, Presents b d.goStopped (es ++ more) := (Dev.Stays.refl.goStopped staged role live).presents h.withRole

end

/-- The fields of the clusters and the tiles outlast a stop. -/
theorem goStopped_rd {d : Dev} (staged : d.mgmt.staged = []) {g : Fld} (hg : g.Lasting) : d.goStopped.rd g = d.rd g :=
  (Dev.Lasts.refl.goStopped staged).rd_eq hg

/-! ### A condition of a cluster stops the module (R86) -/

theorem Dev.Lasts.setCause {d₀ d : Dev} {k b} (h : d₀.Lasts d) : d₀.Lasts (d.setCause k b) :=
  have caused : d₀.Lasts { d with twin := { d.twin with causes := putBit d.twin.causes k b } } := h
  .flag (.wr caused)

theorem setCause_twin (d : Dev) (k : Nat) (b : Bool) :
    (d.setCause k b).twin = { d.twin with causes := putBit d.twin.causes k b } := rfl

theorem clusterStop_eq {d : Dev} (role : d.role ≠ .stopped) : d.clusterStop = (d.setCause 6 true).goStopped :=
  if_neg role

/-- The module stops and is not eligible; the clusters' fields are left, and what was presented comes first. -/
theorem clusterStop_shape {d : Dev} (staged : d.mgmt.staged = []) (role : d.role ≠ .stopped) (live : d.committed = false) :
    d.clusterStop.role = .stopped ∧ testBit d.clusterStop.twin.causes 6 = true ∧
      (∀ g : Fld, g.Lasting → d.clusterStop.rd g = d.rd g) ∧
      ∀ (b : Dev) (es : List (Ev × BitVec 16)), Presents b d es → ∃ more, Presents b d.clusterStop (es ++ more) := by
  have caused : d.Stays (d.setCause 6 true) := .setCause .refl
  have staged' : (d.setCause 6 true).mgmt.staged = [] := staged
  have live' : (d.setCause 6 true).committed = false := live
  rw [clusterStop_eq role]
  refine ⟨goStopped_role_of_live staged' role live', ?_, fun g hg => ?_, fun b es h => ?_⟩
  · rw [goStopped_twin staged' role live', setCause_twin]
    simp only [testBit_putBit, Nat.reduceEqDiff, if_false, if_true]
  · rw [goStopped_rd staged' hg]
    exact (Dev.Lasts.refl.setCause).rd_eq hg
  · exact goStopped_presents staged' role live' (h.of_eq rfl)

end Sys2Proof.Machine

end

section
/-! LAWS. The pace monitors of a cluster (R84, R85): a row of changes of which one reaches an observation, the windows of
the seventeen monitors, and the slowest of them. -/

namespace Sys2Proof.Machine

/-! ### Fields that hold what is written to them -/

/-- Tidy fields that are written values of their widths read these, and nothing else changes. -/
theorem writes_setsOnly_of_small (d : Dev) {fs : List (Fld × Nat)} (tidy : TidyFields (fs.map Prod.fst))
    (small : ∀ p ∈ fs, p.2 < 2 ^ p.1.wd) : SetsOnly d (d.writes fs) fs := by
  have same : fs.map stored = fs := by
    conv_rhs => rw [← List.map_id fs]
    exact List.map_congr_left fun p hp => Prod.ext rfl (Nat.mod_eq_of_lt (small p hp))
  have written := writes_setsOnly d tidy
  rwa [same] at written

/-- A part of the module beside the registers is as before. -/
theorem writes_part {α : Type} (d : Dev) (fs : List (Fld × Nat)) (part : Dev → α)
    (kept : ∀ x r, part { x with regs := r } = part x := by intros; rfl) : part (d.writes fs) = part d := by
  rw [writes_rest, kept]

/-- A field that shares no bit with those written reads as before. -/
theorem writes_rd_other (d : Dev) {fs : List (Fld × Nat)} {g : Fld}
    (out : ∀ p ∈ fs, p.1.lo + p.1.wd ≤ 32 ∧ p.1.separate g) : (d.writes fs).rd g = d.rd g :=
  Dev.Keeps.foldlMem (part := fun x => x.rd g) rfl fun x p hp hx =>
    (Dev.rd_wr_other x p.1 g p.2 (out p hp).1 (out p hp).2).trans hx

/-! ### A row of changes, of which one reaches an observation -/

/-- In a row of changes with different keys, what only one of them changes is changed once. -/
theorem foldl_once {α β : Type} {obs : Dev → β} {f : Dev → α → Dev} {g : β → β} {key : α → Nat} {l : List α} {a : α}
    (nodup : (l.map key).Nodup) (mem : a ∈ l) (hit : ∀ x, obs (f x a) = g (obs x))
    (miss : ∀ x b, key b ≠ key a → obs (f x b) = obs x) (d : Dev) : obs (l.foldl f d) = g (obs d) := by
  obtain ⟨l₁, l₂, rfl⟩ := List.append_of_mem mem
  have keeps {m : List α} (out : ∀ b ∈ m, key b ≠ key a) (x : Dev) : obs (m.foldl f x) = obs x :=
    Dev.Keeps.foldlMem (part := obs) rfl fun y b hb hy => (miss y b (out b hb)).trans hy
  rw [List.map_append, List.map_cons, List.nodup_append, List.nodup_cons] at nodup
  obtain ⟨-, ⟨later, -⟩, earlier⟩ := nodup
  have before : ∀ b ∈ l₁, key b ≠ key a := fun b hb => earlier _ (List.mem_map_of_mem hb) _ List.mem_cons_self
  have after : ∀ b ∈ l₂, key b ≠ key a := fun b hb same => later (same ▸ List.mem_map_of_mem hb)
  rw [List.foldl_append, List.foldl_cons, keeps after, hit, keeps before]

/-! ### Numbered lists -/

/-- The elements of a list, each with its place. -/
abbrev numbered (l : List Nat) : List (Nat × Nat) := (List.range l.length).zip l

theorem mem_numbered {l : List Nat} {m p : Nat} : (m, p) ∈ numbered l ↔ l[m]? = some p := by
  rw [numbered, List.mem_iff_getElem, List.getElem?_eq_some_iff]
  simp

theorem numbered_nodup (l : List Nat) : ((numbered l).map Prod.fst).Nodup := by
  rw [List.map_fst_zip (by rw [List.length_range])]
  exact List.nodup_range

/-! ### One monitor's window (R84) -/

/-- The tile with a place in its cluster. -/
theorem clusterTile_some (n : Nat) {m : Nat} (hm : m < 16) :
    (clusterTiles n)[m]? = some (((clusterTiles n)[m]?).getD 0) := by
  rw [List.getElem?_eq_getElem (by rwa [clusterTiles_length])]
  rfl

theorem clusterTile_injective {n m k t : Nat} (hm : (clusterTiles n)[m]? = some t) (hk : (clusterTiles n)[k]? = some t) :
    m = k :=
  (List.getElem?_inj (List.getElem?_eq_some_iff.1 hm).1 (clusterTiles_nodup n)).1 (hm.trans hk.symm)

/-- The windows in a row above 1,600 ps, after one more. -/
def slowAfter (period run : Nat) : Nat := if 1600 < period then min 255 (run + 1) else 0

theorem paceOne_slowRun (d : Dev) (n m period k : Nat) :
    (d.paceOne n m period).slowRun n k = if k = m then slowAfter period (d.slowRun n m) else d.slowRun n k := by
  have fab : (d.paceOne n m period).fab.slow =
      sput (fun _ => 0) d.fab.slow (n * 32 + m) (slowAfter period (d.slowRun n m)) := by
    unfold Dev.paceOne
    extract_lets run
    split <;> rfl
  rw [Dev.slowRun, fab, sget_sput]
  exact ite_congr (by rw [Nat.add_left_cancel_iff]) (fun _ => rfl) fun _ => rfl

/-- The tile at a monitor shows its period and the longest one; no other field changes. -/
theorem paceOne_sets (d : Dev) {n m t : Nat} (period : Nat) (ht : (clusterTiles n)[m]? = some t) :
    Sets d (d.paceOne n m period) [(R.TILE_PACE_PERIOD t, min period 65535),
      (R.TILE_PACE_PERIOD_MAX t, max (d.rd (R.TILE_PACE_PERIOD_MAX t)) (min period 65535))] := by
  have longest : (d.wrSat (R.TILE_PACE_PERIOD t) period).rd (R.TILE_PACE_PERIOD_MAX t) = d.rd (R.TILE_PACE_PERIOD_MAX t) :=
    Dev.rd_wr_other d _ _ _ (of_decide_eq_true rfl) (.inr (.inl (of_decide_eq_true rfl)))
  have regs : (d.paceOne n m period).regs = (d.writes [(R.TILE_PACE_PERIOD t, min period 65535),
      (R.TILE_PACE_PERIOD_MAX t, max (d.rd (R.TILE_PACE_PERIOD_MAX t)) (min period 65535))]).regs := by
    rw [← longest, Dev.paceOne, ht]
    rfl
  have old : d.rd (R.TILE_PACE_PERIOD_MAX t) < 65536 := Dev.rd_lt d _
  refine (writes_setsOnly_of_small d ⟨?_, ?_⟩ ?_).1.of_regs regs
  · simp [R.TILE_PACE_PERIOD, R.TILE_PACE_PERIOD_MAX]
  · simp [Fld.separate, R.TILE_PACE_PERIOD, R.TILE_PACE_PERIOD_MAX]
  · simp [R.TILE_PACE_PERIOD]
    simp [R.TILE_PACE_PERIOD_MAX] at old ⊢
    omega

/-- The monitor of the cluster-fabric island shows no tile. -/
theorem paceOne_regs_none (d : Dev) {n m : Nat} (period : Nat) (none : (clusterTiles n)[m]? = none) :
    (d.paceOne n m period).regs = d.regs := by
  rw [Dev.paceOne, none]
  rfl

/-- A monitor's window changes the fields of its tile at most. -/
theorem paceOne_rd_other (d : Dev) (n m period : Nat) {g : Fld}
    (out : ∀ t, (clusterTiles n)[m]? = some t → g.off ≠ 0x100008 + t * 0x100) : (d.paceOne n m period).rd g = d.rd g := by
  cases ht : (clusterTiles n)[m]? with
  | none => exact Dev.rd_of_regs (paceOne_regs_none d period ht) g
  | some t =>
    refine (paceOne_sets d period ht).2 g fun f hf => .inl ?_
    simp only [List.map_cons, List.map_nil, List.mem_cons, List.not_mem_nil, or_false] at hf
    rcases hf with rfl | rfl
    · exact (out t ht).symm
    · exact (out t ht).symm

/-- A monitor's window changes the registers and the fabric's record. -/
theorem paceOne_rest (d : Dev) (n m period : Nat) :
    d.paceOne n m period = { d with regs := (d.paceOne n m period).regs, fab := (d.paceOne n m period).fab } := by
  unfold Dev.paceOne
  extract_lets _ _
  split <;> rfl

/-! ### The seventeen windows -/

/-- The windows of a cluster's monitors, one after another. -/
def Dev.paceAll (d : Dev) (n : Nat) (periods : List Nat) : Dev :=
  (numbered periods).foldl (fun d x => d.paceOne n x.1 x.2) d

section
variable (d : Dev) (n : Nat) (periods : List Nat)

theorem paceAll_slowRun {m p : Nat} (hp : periods[m]? = some p) :
    (d.paceAll n periods).slowRun n m = slowAfter p (d.slowRun n m) :=
  foldl_once (obs := fun x => x.slowRun n m) (g := slowAfter p) (numbered_nodup periods) (mem_numbered.2 hp)
    (fun x => by rw [paceOne_slowRun, if_pos rfl]) (fun x b hb => by rw [paceOne_slowRun, if_neg (Ne.symm hb)]) d

/-- Another monitor's window leaves the fields of a tile. -/
theorem paceOne_rd_of_ne {m k t : Nat} (ht : (clusterTiles n)[m]? = some t) (hk : k ≠ m) (period : Nat) {g : Fld}
    (hg : g.off = 0x100008 + t * 0x100) : (d.paceOne n k period).rd g = d.rd g := by
  refine paceOne_rd_other d n k period fun u hu same => hk (clusterTile_injective hu ?_)
  rwa [show u = t by omega]

theorem paceAll_period {m p t : Nat} (ht : (clusterTiles n)[m]? = some t) (hp : periods[m]? = some p) :
    (d.paceAll n periods).rd (R.TILE_PACE_PERIOD t) = min p 65535 :=
  foldl_once (obs := fun x => x.rd (R.TILE_PACE_PERIOD t)) (g := fun _ => min p 65535) (numbered_nodup periods)
    (mem_numbered.2 hp) (fun x => (paceOne_sets x p ht).rd_of_mem (by simp))
    (fun x b hb => paceOne_rd_of_ne x n ht hb b.2 rfl) d

theorem paceAll_periodMax {m p t : Nat} (ht : (clusterTiles n)[m]? = some t) (hp : periods[m]? = some p) :
    (d.paceAll n periods).rd (R.TILE_PACE_PERIOD_MAX t) = max (d.rd (R.TILE_PACE_PERIOD_MAX t)) (min p 65535) :=
  foldl_once (obs := fun x => x.rd (R.TILE_PACE_PERIOD_MAX t)) (g := fun v => max v (min p 65535))
    (numbered_nodup periods) (mem_numbered.2 hp) (fun x => (paceOne_sets x p ht).rd_of_mem (by simp))
    (fun x b hb => paceOne_rd_of_ne x n ht hb b.2 rfl) d

/-- The monitors' windows leave the fields of the clusters. -/
theorem paceAll_rd {g : Fld} (hg : g.off < 0x100000) : (d.paceAll n periods).rd g = d.rd g :=
  Dev.Keeps.foldl (part := fun x => x.rd g) rfl fun x a hx =>
    (paceOne_rd_other x n a.1 a.2 fun t _ => by omega).trans hx

theorem paceAll_rest : d.paceAll n periods =
    { d with regs := (d.paceAll n periods).regs, fab := (d.paceAll n periods).fab } := by
  have kept : d.Keeps (fun x : Dev => { x with regs := [], fab := {} }) (d.paceAll n periods) :=
    .foldl rfl fun x a hx => by
      rw [paceOne_rest]
      exact hx
  exact congrArg (fun x : Dev => { x with regs := (d.paceAll n periods).regs, fab := (d.paceAll n periods).fab }) kept

end

/-! ### The slowest monitor -/

theorem lt_foldl_max {k : Nat} (l : List Nat) (a : Nat) : k < l.foldl max a ↔ k < a ∨ ∃ p ∈ l, k < p := by
  induction l generalizing a with
  | nil => simp
  | cons p l ih => rw [List.foldl_cons, ih, lt_max_iff, List.exists_mem_cons_iff, or_assoc]

/-- The period that the slowest monitor shows is the longest one. -/
theorem slowestOf_snd (n : Nat) (periods : List Nat) : (slowestOf n periods).2 = periods.foldl max 0 := by
  have longest (l : List (Nat × Nat)) (b : Nat × Nat) :
      (l.foldl (fun b x => if b.2 < x.2 then (((clusterTiles n)[x.1]?).getD 0xFF, x.2) else b) b).2 =
        (l.map Prod.snd).foldl max b.2 := by
    induction l generalizing b with
    | nil => rfl
    | cons x l ih =>
      rw [List.foldl_cons, ih, List.map_cons, List.foldl_cons]
      split
      · rw [max_eq_right (by omega)]
      · rw [max_eq_left (by omega)]
  rw [slowestOf, longest, List.map_snd_zip (by rw [List.length_range])]

theorem any_lt_eq (periods : List Nat) (k : Nat) :
    (periods.any fun p => decide (k < p)) = decide (k < periods.foldl max 0) := by
  rw [Bool.eq_iff_iff, List.any_eq_true, decide_eq_true_iff, lt_foldl_max]
  simp

/-! ### The window of a cluster (R84, R85) -/

/-- The condition of a cluster ends when no monitor of it is slow any more. -/
def Dev.endSlow (d : Dev) (n : Nat) : Dev :=
  if (List.range 17).any (fun m => 3 ≤ d.slowRun n m) then d
  else d.onFab fun f => { f with slowTold := f.slowTold.filter (· ≠ n) }

theorem endSlow_rest (d : Dev) (n : Nat) : d.endSlow n = { d with fab := (d.endSlow n).fab } := by
  unfold Dev.endSlow
  split <;> rfl

theorem endSlow_slowRun (d : Dev) (n k : Nat) : (d.endSlow n).slowRun n k = d.slowRun n k := by
  unfold Dev.endSlow
  split <;> rfl

theorem marginWarning_rest (d : Dev) (n : Nat) : d.marginWarning n = { d with
    fab := (d.marginWarning n).fab, evrec := (d.marginWarning n).evrec, free := (d.marginWarning n).free } := by
  unfold Dev.marginWarning
  split
  · split <;> rfl
  · rfl

theorem marginWarning_slowRun (d : Dev) (n k : Nat) : (d.marginWarning n).slowRun n k = d.slowRun n k := by
  unfold Dev.marginWarning
  split
  · split <;> rfl
  · rfl

/-- The slowest monitor is shown, and kept where it is slower than any before it. -/
def Dev.showSlowest (d : Dev) (n : Nat) (s : Nat × Nat) : Dev :=
  let d := (d.wrSat (R.FAB_PACE_PERIOD n) s.2).wr (R.FAB_PACE_SLOWEST n) s.1
  if d.rd (R.FAB_PACE_MAX_PERIOD_MAX n) < s.2 then
    (d.wrSat (R.FAB_PACE_MAX_PERIOD_MAX n) s.2).wr (R.FAB_PACE_MAX_SLOWEST_MAX n) s.1
  else d

/-- The fields that show the slowest monitor. -/
def slowestShown (n : Nat) (s : Nat × Nat) (longer : Bool) : List (Fld × Nat) :=
  [(R.FAB_PACE_PERIOD n, min s.2 65535), (R.FAB_PACE_SLOWEST n, s.1)] ++
    if longer then [(R.FAB_PACE_MAX_PERIOD_MAX n, min s.2 65535), (R.FAB_PACE_MAX_SLOWEST_MAX n, s.1)] else []

theorem showSlowest_eq (d : Dev) (n : Nat) (s : Nat × Nat) :
    d.showSlowest n s = d.writes (slowestShown n s (decide (d.rd (R.FAB_PACE_MAX_PERIOD_MAX n) < s.2))) := by
  have kept : (d.writes [(R.FAB_PACE_PERIOD n, min s.2 65535), (R.FAB_PACE_SLOWEST n, s.1)]).rd
      (R.FAB_PACE_MAX_PERIOD_MAX n) = d.rd (R.FAB_PACE_MAX_PERIOD_MAX n) :=
    writes_rd_other d (by simp [Fld.separate, R.FAB_PACE_PERIOD, R.FAB_PACE_SLOWEST, R.FAB_PACE_MAX_PERIOD_MAX])
  rw [← kept]
  unfold slowestShown Dev.showSlowest
  extract_lets e
  change _ = d.writes (_ ++ if decide (e.rd _ < s.2) = true then _ else _)
  by_cases longer : e.rd (R.FAB_PACE_MAX_PERIOD_MAX n) < s.2
  · rw [if_pos longer, if_pos (decide_eq_true longer)]
    rfl
  · rw [if_neg longer, if_neg (by simpa using longer)]
    rfl

/-- What a window comes to: the monitors, the end of the condition, the fields shown, and the warning. -/
theorem paceWindow_eq {d : Dev} {n : Nat} (periods : List Nat) (lit : d.lit = true)
    (powered : d.on (R.FAB_STATUS_POWERED n) = true) :
    let y := ((d.paceAll n periods).endSlow n).showSlowest n (slowestOf n periods)
    let margin := periods.any fun p => decide (y.rd (R.FAB_THRESH_MARGIN_PS n) < p)
    let z := y.flag (R.FAB_STATUS_PACE_MARGIN n) margin
    d.paceWindow n periods = if margin then z.marginWarning n else z :=
  if_neg (by rw [lit, powered]; decide)

/-- The fields that show a window. -/
def paceShown (n : Nat) (s : Nat × Nat) (longer margin : Bool) : List (Fld × Nat) :=
  slowestShown n s longer ++ [(R.FAB_STATUS_PACE_MARGIN n, bit margin)]

theorem paceShown_fields (n : Nat) (s t : Nat × Nat) (longer margin : Bool) :
    (paceShown n s longer margin).map Prod.fst = (paceShown n t longer false).map Prod.fst := by
  cases longer <;> rfl

theorem paceShown_tidy (n : Fin 9) (s : Nat × Nat) (longer margin : Bool) :
    TidyFields ((paceShown n.val s longer margin).map Prod.fst) ∧
      ∀ f ∈ (paceShown n.val s longer margin).map Prod.fst, f.off < 0x100000 ∧ f.separate (R.FAB_THRESH_MARGIN_PS n.val) := by
  rw [paceShown_fields n.val s (0, 0)]
  decide +revert

/-- A window that is no slower than the slowest before it leaves the longest period. -/
theorem paceShown_longest (n : Fin 9) (s : Nat × Nat) (margin : Bool) :
    ∀ f ∈ (paceShown n.val s false margin).map Prod.fst, f.separate (R.FAB_PACE_MAX_PERIOD_MAX n.val) := by
  rw [paceShown_fields n.val s (0, 0)]
  decide +revert

/-- Of fields that are written one after another each reads what it was given. -/
theorem rd_writes (d : Dev) {fs : List (Fld × Nat)} (tidy : TidyFields (fs.map Prod.fst)) {f : Fld} {v : Nat}
    (mem : (f, v) ∈ fs) : (d.writes fs).rd f = v % 2 ^ f.wd :=
  (writes_setsOnly d tidy).1.1 (stored (f, v)) (List.mem_map_of_mem mem)

/-- The module without its registers, the fabric's record, the recorder and the free values. -/
def Dev.besideFabric (d : Dev) : Dev := { d with regs := [], fab := {}, evrec := {}, free := 0 }

/-- The module that shows a window. -/
def Dev.paceView (d : Dev) (n : Nat) (periods : List Nat) : Dev :=
  ((d.paceAll n periods).endSlow n).writes (paceShown n (slowestOf n periods)
    (decide (d.rd (R.FAB_PACE_MAX_PERIOD_MAX n) < periods.foldl max 0))
    (decide (d.rd (R.FAB_THRESH_MARGIN_PS n) < periods.foldl max 0)))

theorem endSlow_rd {d : Dev} {n : Nat} (periods : List Nat) {g : Fld} (hg : g.off < 0x100000) :
    ((d.paceAll n periods).endSlow n).rd g = d.rd g := by
  rw [endSlow_rest]
  exact paceAll_rd d n periods hg

theorem fab_low (n : Fin 9) :
    (R.FAB_PACE_MAX_PERIOD_MAX n.val).off < 0x100000 ∧ (R.FAB_THRESH_MARGIN_PS n.val).off < 0x100000 := by
  decide +revert

section
variable {d : Dev} (n : Fin 9) (periods : List Nat) (lit : d.lit = true)
  (powered : d.on (R.FAB_STATUS_POWERED n.val) = true)
include lit powered

/-- A window is shown, and a warning recorded where the slowest monitor is above the threshold. -/
theorem paceWindow_cases :
    d.paceWindow n.val periods = d.paceView n.val periods ∨
      d.paceWindow n.val periods = (d.paceView n.val periods).marginWarning n.val := by
  have limit (l : Bool) : (((d.paceAll n.val periods).endSlow n.val).writes
      (slowestShown n.val (slowestOf n.val periods) l)).rd (R.FAB_THRESH_MARGIN_PS n.val) =
        d.rd (R.FAB_THRESH_MARGIN_PS n.val) := by
    obtain ⟨⟨fit, -⟩, apart⟩ := paceShown_tidy n (slowestOf n.val periods) l false
    refine (writes_rd_other _ fun p hp => ?_).trans (endSlow_rd periods (fab_low n).2)
    have mem : p.1 ∈ (paceShown n.val (slowestOf n.val periods) l false).map Prod.fst :=
      List.mem_map_of_mem (List.mem_append_left _ hp)
    exact ⟨fit _ mem, (apart _ mem).2⟩
  have shape := paceWindow_eq periods lit powered
  simp only [showSlowest_eq, slowestOf_snd, endSlow_rd periods (fab_low n).1, limit, any_lt_eq] at shape
  have shown (m : Bool) (x : Dev) (fs : List (Fld × Nat)) : (x.writes fs).flag (R.FAB_STATUS_PACE_MARGIN n.val) m =
      x.writes (fs ++ [(R.FAB_STATUS_PACE_MARGIN n.val, bit m)]) := by
    rw [← writes_append]
    rfl
  rw [shown] at shape
  rw [shape]
  split
  · exact .inr rfl
  · exact .inl rfl

/-- What a window leaves in a part of the module that neither the recorder nor the warning's time reaches. -/
theorem paceWindow_part {α : Type} (part : Dev → α)
    (kept : ∀ x : Dev, part (x.marginWarning n.val) = part x) :
    part (d.paceWindow n.val periods) = part (d.paceView n.val periods) := by
  rcases paceWindow_cases n periods lit powered with shape | shape
  · rw [shape]
  · rw [shape, kept]

theorem paceWindow_rd (g : Fld) : (d.paceWindow n.val periods).rd g = (d.paceView n.val periods).rd g :=
  paceWindow_part n periods lit powered (fun x => x.rd g) fun x => by rw [marginWarning_rest]; rfl

theorem paceWindow_slowRun (k : Nat) :
    (d.paceWindow n.val periods).slowRun n.val k = (d.paceAll n.val periods).slowRun n.val k := by
  rw [paceWindow_part n periods lit powered (fun x => x.slowRun n.val k) fun x => marginWarning_slowRun x n.val k,
    Dev.paceView, writes_rest]
  exact endSlow_slowRun _ _ _

/-- A window changes the registers, the fabric's record and the recorder. -/
theorem paceWindow_rest : d.paceWindow n.val periods = { d with
    regs := (d.paceWindow n.val periods).regs, fab := (d.paceWindow n.val periods).fab
    evrec := (d.paceWindow n.val periods).evrec, free := (d.paceWindow n.val periods).free } := by
  have kept : (d.paceWindow n.val periods).besideFabric = d.besideFabric := by
    rw [paceWindow_part n periods lit powered Dev.besideFabric fun x => by rw [marginWarning_rest]; rfl, Dev.paceView,
      writes_rest, endSlow_rest, paceAll_rest]
    rfl
  exact congrArg (fun x : Dev => { x with
    regs := (d.paceWindow n.val periods).regs, fab := (d.paceWindow n.val periods).fab
    evrec := (d.paceWindow n.val periods).evrec, free := (d.paceWindow n.val periods).free }) kept

/-- The tiles' own fields are those that the monitors leave. -/
theorem paceWindow_tile {g : Fld} (hg : 0x100000 ≤ g.off) :
    (d.paceWindow n.val periods).rd g = (d.paceAll n.val periods).rd g := by
  rw [paceWindow_rd n periods lit powered, Dev.paceView]
  refine (writes_rd_other _ fun p hp => ?_).trans (by rw [endSlow_rest]; rfl)
  obtain ⟨⟨fit, -⟩, low⟩ := paceShown_tidy n (slowestOf n.val periods)
    (decide (d.rd (R.FAB_PACE_MAX_PERIOD_MAX n.val) < periods.foldl max 0))
    (decide (d.rd (R.FAB_THRESH_MARGIN_PS n.val) < periods.foldl max 0))
  have mem := List.mem_map_of_mem (f := Prod.fst) hp
  exact ⟨fit _ mem, .inl (by have := (low _ mem).1; omega)⟩

/-- The cluster shows the longest period, keeps the longest ever, and warns above the threshold. -/
theorem paceWindow_cluster (small : ∀ p ∈ periods, p < 65536) :
    (d.paceWindow n.val periods).rd (R.FAB_PACE_PERIOD n.val) = periods.foldl max 0 ∧
      (d.paceWindow n.val periods).rd (R.FAB_PACE_MAX_PERIOD_MAX n.val) =
        max (d.rd (R.FAB_PACE_MAX_PERIOD_MAX n.val)) (periods.foldl max 0) ∧
      (d.paceWindow n.val periods).rd (R.FAB_STATUS_PACE_MARGIN n.val) =
        bit (decide (d.rd (R.FAB_THRESH_MARGIN_PS n.val) < periods.foldl max 0)) := by
  have fits : periods.foldl max 0 < 65536 := by
    rw [← not_le, ← Nat.lt_iff_add_one_le, lt_foldl_max]
    rintro (h | ⟨p, hp, h⟩)
    · omega
    · have := small p hp
      omega
  have word : min (periods.foldl max 0) 65535 % 2 ^ 16 = periods.foldl max 0 := by omega
  have view (g : Fld) := paceWindow_rd n periods lit powered g
  obtain ⟨tidy, apart⟩ := paceShown_tidy n (slowestOf n.val periods)
    (decide (d.rd (R.FAB_PACE_MAX_PERIOD_MAX n.val) < periods.foldl max 0))
    (decide (d.rd (R.FAB_THRESH_MARGIN_PS n.val) < periods.foldl max 0))
  refine ⟨?_, ?_, ?_⟩
  · rw [view, Dev.paceView, rd_writes _ tidy (v := min (slowestOf n.val periods).2 65535)
      (by simp [paceShown, slowestShown]), slowestOf_snd]
    exact word
  · rw [view, Dev.paceView]
    by_cases longer : d.rd (R.FAB_PACE_MAX_PERIOD_MAX n.val) < periods.foldl max 0
    · rw [rd_writes _ tidy (v := min (slowestOf n.val periods).2 65535)
        (by simp [paceShown, slowestShown, longer]), slowestOf_snd, max_eq_right longer.le]
      exact word
    · rw [max_eq_left (not_lt.1 longer), decide_eq_false longer]
      rw [decide_eq_false longer] at tidy
      refine (writes_rd_other _ fun p hp => ?_).trans (endSlow_rd periods (fab_low n).1)
      have mem := List.mem_map_of_mem (f := Prod.fst) hp
      exact ⟨tidy.1 _ mem, paceShown_longest n _ _ _ mem⟩
  · rw [view, Dev.paceView, rd_writes _ tidy (v := bit (decide (d.rd (R.FAB_THRESH_MARGIN_PS n.val) < periods.foldl max 0)))
      (by simp [paceShown])]
    exact bit_mod_two _

end

end Sys2Proof.Machine

end

section
/-! LAWS. Slow clusters, rails and temperatures (R84 to R86), and the obligation (O34). -/

namespace Sys2Proof.Machine

/-! ### The commands' meanings -/

theorem exec_paceWindow (n : Fin 9) (periods : List Nat) (s : State) :
    exec (.paceWindow n periods) s = s.act fun d => if decide (periods.length = 17) then d.paceWindow n.val periods else d := rfl
theorem exec_paceSlow (n : Fin 9) (m : Fin 17) (s : State) : exec (.paceSlow n m) s = s.act (·.paceSlow n.val m.val) := rfl
theorem exec_railSample (n : Fin 9) (mv tj : BitVec 16) (s : State) :
    exec (.railSample n mv tj) s = s.act (·.railSample n.val mv.toNat tj.toInt) := rfl

/-! ### A slow cluster (R85, R86) -/

/-- The fields that show a slow monitor: the cluster's, and the tile's where the monitor is a tile's. -/
def slowShown (n m : Nat) : List (Fld × Nat) :=
  (R.FAB_STATUS_PACE_SLOW n, 1) :: (((clusterTiles n)[m]?).map fun t => (R.TILE_FAULT_PACE_SLOW t, 1)).toList

theorem slowShown_tidy (n : Fin 9) (m : Fin 17) : TidyFields ((slowShown n.val m.val).map Prod.fst) ∧
    ∀ p ∈ slowShown n.val m.val, p.2 < 2 ^ p.1.wd ∧ p.1.Lasting := by
  unfold Fld.Lasting
  decide +revert

theorem slowShown_setsOnly (d : Dev) (n : Fin 9) (m : Fin 17) :
    SetsOnly d (d.writes (slowShown n.val m.val)) (slowShown n.val m.val) :=
  have ⟨tidy, small⟩ := slowShown_tidy n m
  writes_setsOnly_of_small d tidy fun p hp => (small p hp).1

/-- The event of a slow cluster. -/
def Dev.tellSlow (d : Dev) (n m : Nat) : Dev :=
  (d.event .paceSlow (source 2 n) [w32 (((clusterTiles n)[m]?).getD 0xFF)]).onFab fun f => { f with slowTold := n :: f.slowTold }

theorem tellSlow_mgmt (d : Dev) (n m : Nat) : (d.tellSlow n m).mgmt = d.mgmt := rfl
theorem tellSlow_role (d : Dev) (n m : Nat) : (d.tellSlow n m).role = d.role := rfl
theorem tellSlow_power (d : Dev) (n m : Nat) : (d.tellSlow n m).power = d.power := rfl
theorem tellSlow_rd (d : Dev) (n m : Nat) (g : Fld) : (d.tellSlow n m).rd g = d.rd g := rfl

theorem tellSlow_presents (d : Dev) (n m : Nat) : Presents d (d.tellSlow n m) [(.paceSlow, source 2 n)] :=
  (presents_event d .paceSlow (source 2 n) _).of_eq rfl

/-- A third slow window is shown; the first one of a condition is recorded and stops the module. -/
theorem paceSlow_eq {d : Dev} {n m : Nat} (lit : d.lit = true) (third : 3 ≤ d.slowRun n m) :
    d.paceSlow n m = if d.fab.slowTold.contains n then d.writes (slowShown n m)
      else ((d.writes (slowShown n m)).tellSlow n m).clusterStop := by
  rw [Dev.paceSlow, if_pos (by rw [lit, decide_eq_true third]; rfl)]
  have told : (d.writes (slowShown n m)).fab = d.fab := by rw [writes_rest]
  rw [← told]
  unfold slowShown Dev.tellSlow
  cases (clusterTiles n)[m]? <;> rfl

theorem paceSlow_again {d : Dev} {n : Fin 9} {m : Fin 17} (lit : d.lit = true) (third : 3 ≤ d.slowRun n.val m.val)
    (told : n.val ∈ d.fab.slowTold) : SetsOnly d (d.paceSlow n.val m.val) (slowShown n.val m.val) := by
  rw [paceSlow_eq lit third, if_pos (List.contains_iff_mem.2 told)]
  exact slowShown_setsOnly d n m

/-- The first third slow window of a condition. -/
theorem paceSlow_stops {d : Dev} {n : Fin 9} {m : Fin 17} (lit : d.lit = true) (third : 3 ≤ d.slowRun n.val m.val)
    (untold : n.val ∉ d.fab.slowTold) (staged : d.mgmt.staged = []) (role : d.role ≠ .stopped) (live : d.committed = false) :
    (d.paceSlow n.val m.val).role = .stopped ∧ testBit (d.paceSlow n.val m.val).twin.causes 6 = true ∧
      (∀ p ∈ slowShown n.val m.val, (d.paceSlow n.val m.val).rd p.1 = p.2) ∧
      ∃ es, Presents d (d.paceSlow n.val m.val) ((.paceSlow, source 2 n.val) :: es) := by
  have shown := slowShown_setsOnly d n m
  rw [paceSlow_eq lit third, if_neg (by simpa using untold)]
  generalize d.writes (slowShown n.val m.val) = x at *
  obtain ⟨⟨vals, -⟩, rest⟩ := shown
  have staged' : (x.tellSlow n.val m.val).mgmt.staged = [] := by rw [tellSlow_mgmt, rest]; exact staged
  have role' : (x.tellSlow n.val m.val).role ≠ .stopped := by rw [tellSlow_role, rest]; exact role
  have live' : (x.tellSlow n.val m.val).committed = false := by rw [Dev.committed, tellSlow_power, rest]; exact live
  have events := (presents_none d x (by rw [rest])).trans (tellSlow_presents x n.val m.val)
  obtain ⟨stopped, cause, reads, presents⟩ := clusterStop_shape staged' role' live'
  refine ⟨stopped, cause, fun p hp => ?_, presents d _ events⟩
  rw [reads _ ((slowShown_tidy n m).2 p hp).2, tellSlow_rd]
  exact vals p hp

/-! ### A measurement of the rail (R84) -/

/-- What a second change sets, after a first one that shares no bit with it. -/
theorem Sets.trans {d e c : Dev} {fs gs : List (Fld × Nat)} (h : Sets d e fs) (h' : Sets e c gs)
    (sep : ∀ p ∈ fs, ∀ q ∈ gs, q.1.separate p.1) : Sets d c (fs ++ gs) := by
  obtain ⟨vals, others⟩ := h
  obtain ⟨vals', others'⟩ := h'
  refine ⟨fun p hp => ?_, by rw [List.map_append]; exact others.trans others'⟩
  rcases List.mem_append.1 hp with hp | hp
  · rw [others' p.1 fun f hf => ?_, vals p hp]
    obtain ⟨q, hq, rfl⟩ := List.mem_map.1 hf
    exact sep p hp q hq
  · exact vals' p hp

/-- The fields that show a measurement of a rail and its temperature. -/
def Dev.railShown (d : Dev) (n mv : Nat) (tj : Int) : List (Fld × Nat) :=
  [(R.FAB_RAIL_RAIL_MV n, mv), (R.FAB_RAIL_RAIL_MIN_MV n, min mv (d.rd (R.FAB_RAIL_RAIL_MIN_MV n))),
    (R.FAB_TEMP_TJ n, (tj % 65536).toNat),
    (R.FAB_TEMP_TJ_MAX n, (max tj (d.rdInt (R.FAB_TEMP_TJ_MAX n)) % 65536).toNat),
    (R.FAB_STATUS_RAIL_OK n, bit (decide (776 ≤ mv) && decide (mv ≤ 824)))]

theorem rdInt_congr {d e : Dev} {f : Fld} (h : d.rd f = e.rd f) : d.rdInt f = e.rdInt f := by
  rw [Dev.rdInt, Dev.rdInt, h]

theorem wrInt_word (d : Dev) {f : Fld} (h : f.wd = 16) (v : Int) : d.wrInt f v = d.wr f (v % 65536).toNat := by
  rw [Dev.wrInt, h]
  norm_num

theorem wrSat_word (d : Dev) {f : Fld} (h : f.wd = 16) {v : Nat} (hv : v < 65536) : d.wrSat f v = d.wr f v := by
  rw [Dev.wrSat, h, min_eq_left (by omega)]

theorem showRail_eq (d : Dev) (n : Nat) {mv : Nat} (hmv : mv < 65536) (tj : Int) :
    d.showRail n mv tj = d.writes (d.railShown n mv tj) := by
  let rail := (d.wr (R.FAB_RAIL_RAIL_MV n) mv).wr (R.FAB_RAIL_RAIL_MIN_MV n) (min mv (d.rd (R.FAB_RAIL_RAIL_MIN_MV n)))
  have highest : rail.rd (R.FAB_TEMP_TJ_MAX n) = d.rd (R.FAB_TEMP_TJ_MAX n) :=
    writes_rd_other d (fs := [(R.FAB_RAIL_RAIL_MV n, mv), (R.FAB_RAIL_RAIL_MIN_MV n, min mv (d.rd (R.FAB_RAIL_RAIL_MIN_MV n)))])
      (by simp [Fld.separate, R.FAB_RAIL_RAIL_MV, R.FAB_RAIL_RAIL_MIN_MV, R.FAB_TEMP_TJ_MAX])
  have shape : d.showRail n mv tj = ((rail.wrInt (R.FAB_TEMP_TJ n) tj).wrInt (R.FAB_TEMP_TJ_MAX n)
      (max tj (rail.rdInt (R.FAB_TEMP_TJ_MAX n)))).flag (R.FAB_STATUS_RAIL_OK n) (776 ≤ mv && mv ≤ 824) := by
    unfold Dev.showRail
    rw [wrSat_word d rfl hmv]
  rw [shape, rdInt_congr highest, wrInt_word _ rfl, wrInt_word _ rfl]
  rfl

theorem railShown_fields (n : Nat) (d : Dev) (mv : Nat) (tj : Int) : (d.railShown n mv tj).map Prod.fst =
    [R.FAB_RAIL_RAIL_MV n, R.FAB_RAIL_RAIL_MIN_MV n, R.FAB_TEMP_TJ n, R.FAB_TEMP_TJ_MAX n, R.FAB_STATUS_RAIL_OK n] := rfl

theorem railShown_tidy (d : Dev) (n : Fin 9) (mv : Nat) (tj : Int) : TidyFields ((d.railShown n.val mv tj).map Prod.fst) ∧
    ∀ f ∈ (d.railShown n.val mv tj).map Prod.fst, R.POWER_THERMAL_HIGH.separate f := by
  rw [railShown_fields]
  clear d
  decide +revert

theorem railShown_small (d : Dev) (n : Nat) {mv : Nat} (hmv : mv < 65536) (tj : Int) :
    ∀ p ∈ d.railShown n mv tj, p.2 < 2 ^ p.1.wd := by
  have word (x : Int) : (x % 65536).toNat < 65536 := by omega
  have lowest : min mv (d.rd (R.FAB_RAIL_RAIL_MIN_MV n)) < 65536 := by omega
  simp only [Dev.railShown, List.forall_mem_cons]
  exact ⟨hmv, lowest, word _, word _, bit_lt_two _, nofun⟩

/-- The module after a measurement, before it acts on a limit. -/
def Dev.measured (d : Dev) (n mv : Nat) (tj : Int) : Dev := (d.showRail n mv tj).thermalSample n tj

section
variable {d : Dev} (lit : d.lit = true) (n : Fin 9) {mv : Nat} (hmv : mv < 65536) (tj : Int)
include lit hmv

/-- What a measurement changes: the rail, the sensor and its extremes, and the module's highest temperature. -/
theorem measured_spec :
    let e := d.measured n.val mv tj
    let high := e.power.temps.any fun t => 1000 ≤ t.2
    Sets d e (d.railShown n.val mv tj ++ [(R.POWER_THERMAL_HIGH, bit high)]) ∧ oget e.power.temps n.val = some tj ∧
      Presents d e (if high && !d.on R.POWER_THERMAL_HIGH then [(.thermalHigh, source 0 0)] else []) := by
  intro e high
  obtain ⟨tidy, apart⟩ := railShown_tidy d n mv tj
  have shown : SetsOnly d (d.showRail n.val mv tj) (d.railShown n.val mv tj) := by
    rw [showRail_eq d n.val hmv]
    exact writes_setsOnly_of_small d tidy (railShown_small d n.val hmv tj)
  have lit' : (d.showRail n.val mv tj).lit = true := by
    rw [showRail_eq d n.val hmv, writes_part d _ Dev.lit]
    exact lit
  obtain ⟨power, sets, presents⟩ := thermalSample_spec lit' n.val tj
  refine ⟨shown.1.trans sets fun p hp q hq => ?_, ?_, ?_⟩
  · rw [List.mem_singleton.1 hq]
    exact apart _ (List.mem_map_of_mem hp)
  · rw [show e.power = _ from power]
    exact oget_oput_same _ _ _
  · have same : (d.showRail n.val mv tj).on R.POWER_THERMAL_HIGH = d.on R.POWER_THERMAL_HIGH := by
      rw [Dev.on, Dev.on, shown.1.2 R.POWER_THERMAL_HIGH fun f hf => Fld.separate_symm (apart f hf)]
    rw [same] at presents
    exact (presents_none d (d.showRail n.val mv tj) (by
      rw [showRail_eq d n.val hmv, writes_part d _ fun x => x.evrec.presented])).trans presents

/-- A measurement leaves the role, the writes that wait and the power-fail sequence. -/
theorem measured_leaves : d.KeepsRole (d.measured n.val mv tj) ∧ (d.measured n.val mv tj).committed = d.committed := by
  have eq := showRail_eq d n.val hmv tj
  have lit' : (d.showRail n.val mv tj).lit = true := by
    rw [eq, writes_part d _ Dev.lit]
    exact lit
  have live : (d.showRail n.val mv tj).committed = d.committed := by rw [eq, writes_part d _ Dev.committed]
  have shown : d.KeepsRole (d.showRail n.val mv tj) := by
    rw [eq]
    exact writes_part d _ fun x => (x.role, x.mgmt.staged)
  rw [Dev.measured]
  generalize d.showRail n.val mv tj = e at *
  obtain ⟨power, -, -⟩ := thermalSample_spec lit' n.val tj
  refine ⟨.ite (.withPower shown) (.ite (.event (.flag (.withPower shown))) (.flag (.withPower shown))), ?_⟩
  rw [← live, Dev.committed, power]
  rfl

end

/-! ### A rail outside its limits (R84, R86) -/

theorem powers_on {d : Dev} {n : Nat} (lit : d.lit = true) (powered : d.on (R.FAB_STATUS_POWERED n) = true) :
    ¬(!(d.lit && d.on (R.FAB_STATUS_POWERED n))) = true := by
  rw [lit, powered]
  decide

section
variable {d : Dev} {n mv : Nat} {tj : Int} (lit : d.lit = true) (powered : d.on (R.FAB_STATUS_POWERED n) = true)
include lit powered

/-- Within its limits a measurement is shown. -/
theorem railSample_within (low : 776 ≤ mv) (high : mv ≤ 824) : d.railSample n mv tj = d.measured n mv tj := by
  rw [Dev.railSample, if_neg (powers_on lit powered)]
  have h1 : ¬mv < 776 := by omega
  have h2 : ¬824 < mv := by omega
  have h3 : ¬880 < mv := by omega
  simp only [h1, h2, h3, decide_false, Bool.false_and, Bool.or_self, Bool.false_eq_true, if_false]
  rfl

/-- Below 0.776 V the module stops. -/
theorem railSample_low (low : mv < 776) (was : 776 ≤ d.rd (R.FAB_RAIL_RAIL_MV n)) :
    d.railSample n mv tj = (((d.measured n mv tj).raise (R.FAB_STATUS_RAIL_LOW n)).event .railLow (source 2 n)
      [w32 n, w32 mv]).clusterStop := by
  rw [Dev.railSample, if_neg (powers_on lit powered)]
  have h1 : ¬d.rd (R.FAB_RAIL_RAIL_MV n) < 776 := by omega
  have h2 : ¬824 < mv := by omega
  have h3 : ¬880 < mv := by omega
  simp only [low, h1, h2, h3, decide_true, decide_false, Bool.and_false, Bool.false_and, Bool.not_false, Bool.and_self,
    Bool.or_false, Bool.false_eq_true, if_false, if_true]
  rfl

/-- Above 0.88 V the cluster is powered off, and the module stops. -/
theorem railSample_over (above : 880 < mv) (was : d.rd (R.FAB_RAIL_RAIL_MV n) ≤ 824) :
    d.railSample n mv tj = ((((((d.measured n mv tj).raise (R.FAB_STATUS_RAIL_HIGH n)).event .railHigh (source 2 n)
      [w32 n, w32 mv]).clusterOff n).raise (R.FAB_STATUS_RAIL_OVER n)).event .railOver (source 2 n)
        [w32 n, w32 mv]).clusterStop := by
  rw [Dev.railSample, if_neg (powers_on lit powered)]
  have h1 : ¬mv < 776 := by omega
  have h2 : 824 < mv := by omega
  simp only [above, was, h1, h2, decide_true, decide_false, Bool.false_and, Bool.and_self, Bool.false_or,
    Bool.false_eq_true, if_false, if_true]
  rfl

end

/-- A condition of a cluster that has been shown and recorded stops a running module. -/
theorem railStop_shape {d e : Dev} {hs rs : List (Ev × BitVec 16)} (kept : d.KeepsRole e)
    (same : e.committed = d.committed) (events : Presents d e (hs ++ rs)) (staged : d.mgmt.staged = [])
    (role : d.role ≠ .stopped) (live : d.committed = false) :
    e.clusterStop.role = .stopped ∧ (∀ g : Fld, g.Lasting → e.clusterStop.rd g = e.rd g) ∧
      ∃ es, Presents d e.clusterStop (hs ++ (rs ++ es)) := by
  obtain ⟨stopped, -, reads, presents⟩ := clusterStop_shape (kept.staged_eq.trans staged)
    (fun h => role (kept.role_eq.symm.trans h)) (same.trans live)
  obtain ⟨es, more⟩ := presents d _ events
  exact ⟨stopped, reads, es, by rwa [List.append_assoc] at more⟩

theorem raise_event_committed (d : Dev) (f : Fld) (e : Ev) (src : BitVec 16) (ps : List Word) :
    ((d.raise f).event e src ps).committed = d.committed := rfl

/-- A cluster's supply that goes is shown in registers alone. -/
theorem clusterOff_leaves (d : Dev) (n : Nat) : (∀ d₀ : Dev, d₀.KeepsRole d → d₀.KeepsRole (d.clusterOff n)) ∧
    (d.clusterOff n).committed = d.committed ∧ (d.clusterOff n).evrec.presented = d.evrec.presented := by
  have rest := Dev.clear_eq (unpoweredFlds n) d
  rw [← clusterOff_eq] at rest
  generalize d.clusterOff n = e at *
  rw [rest]
  exact ⟨fun _ h => h, rfl, rfl⟩

theorem railFlds_lasting (n : Fin 9) : (R.FAB_STATUS_RAIL_LOW n.val).Lasting ∧ (R.FAB_STATUS_RAIL_OK n.val).Lasting ∧
    (R.FAB_STATUS_POWERED n.val).Lasting ∧ (R.FAB_STATUS_RAIL_OVER n.val).Lasting := by
  unfold Fld.Lasting
  decide +revert

/-- A rail that is far too high: the cluster's supply goes, and the module stops. -/
theorem clusterOver_shape {d x : Dev} {n : Fin 9} {hs : List (Ev × BitVec 16)} (kept : d.KeepsRole x)
    (same : x.committed = d.committed) (events : Presents d x hs) (ps : List Word) (staged : d.mgmt.staged = [])
    (role : d.role ≠ .stopped) (live : d.committed = false) :
    let e := (((x.clusterOff n.val).raise (R.FAB_STATUS_RAIL_OVER n.val)).event Ev.railOver (source 2 n.val) ps).clusterStop
    e.role = .stopped ∧ e.rd (R.FAB_STATUS_POWERED n.val) = 0 ∧ e.rd (R.FAB_STATUS_RAIL_OVER n.val) = 1 ∧
      ∃ es, Presents d e (hs ++ (.railOver, source 2 n.val) :: es) := by
  obtain ⟨-, -, onLasts, overLasts⟩ := railFlds_lasting n
  have unpowered : (x.clusterOff n.val).rd (R.FAB_STATUS_POWERED n.val) = 0 :=
    clusterOff_zero x n (List.mem_append_left _ List.mem_cons_self)
  obtain ⟨keptOff, liveOff, eventsOff⟩ := clusterOff_leaves x n.val
  have kept' := keptOff d kept
  have live' := liveOff.trans same
  have events' := events.of_eq eventsOff
  generalize x.clusterOff n.val = off at *
  have raised : Presents d (off.raise (R.FAB_STATUS_RAIL_OVER n.val)) _ := events'.of_eq (by rw [Dev.raise_evrec])
  obtain ⟨stopped, reads, es, presents⟩ := railStop_shape (.event (.raise kept'))
    ((raise_event_committed off _ _ _ _).trans live') (raised.event .railOver (source 2 n.val) ps) staged role live
  refine ⟨stopped, ?_, ?_, es, presents⟩
  · rw [reads _ onLasts, Dev.event_rd, Dev.raise, Dev.rd_wr_other _ _ _ _ (of_decide_eq_true rfl)
      (.inr (.inr (of_decide_eq_true rfl)))]
    exact unpowered
  · rw [reads _ overLasts, Dev.event_rd]
    exact Dev.rd_raise _ _ (of_decide_eq_true rfl) (of_decide_eq_true rfl)

section
variable {d : Dev} {n : Fin 9} {mv : Nat} {tj : Int} (lit : d.lit = true)
  (powered : d.on (R.FAB_STATUS_POWERED n.val) = true) (hmv : mv < 65536) (staged : d.mgmt.staged = [])
  (role : d.role ≠ .stopped) (live : d.committed = false)
include lit powered hmv staged role live

theorem railSample_low_shape (low : mv < 776) (was : 776 ≤ d.rd (R.FAB_RAIL_RAIL_MV n.val)) :
    let e := d.railSample n.val mv tj
    e.role = .stopped ∧ e.rd (R.FAB_STATUS_RAIL_LOW n.val) = 1 ∧ e.rd (R.FAB_STATUS_RAIL_OK n.val) = 0 ∧
      ∃ hs es, hs.length ≤ 1 ∧ Presents d e (hs ++ (.railLow, source 2 n.val) :: es) := by
  obtain ⟨shown, -, events⟩ := measured_spec lit n hmv tj
  obtain ⟨kept, same⟩ := measured_leaves lit n hmv tj
  obtain ⟨lowLasts, okLasts, -, -⟩ := railFlds_lasting n
  rw [railSample_low lit powered low was]
  obtain ⟨stopped, reads, es, presents⟩ := railStop_shape (.event (.raise kept)) same
    (events.event .railLow (source 2 n.val) [w32 n.val, w32 mv]) staged role live
  refine ⟨stopped, ?_, ?_, _, es, ?_, presents⟩
  · rw [reads _ lowLasts, Dev.event_rd]
    exact Dev.rd_raise _ _ (of_decide_eq_true rfl) (of_decide_eq_true rfl)
  · rw [reads _ okLasts, Dev.event_rd, Dev.raise, Dev.rd_wr_other _ _ _ _ (of_decide_eq_true rfl)
      (.inr (.inr (of_decide_eq_true rfl)))]
    have bad : ¬776 ≤ mv := by omega
    exact shown.rd_of_mem (by simp [Dev.railShown, bad, bit])
  · split <;> simp

theorem railSample_over_shape (above : 880 < mv) (was : d.rd (R.FAB_RAIL_RAIL_MV n.val) ≤ 824) :
    let e := d.railSample n.val mv tj
    e.role = .stopped ∧ e.rd (R.FAB_STATUS_POWERED n.val) = 0 ∧ e.rd (R.FAB_STATUS_RAIL_OVER n.val) = 1 ∧
      ∃ hs es, hs.length ≤ 1 ∧ Presents d e (hs ++ (.railHigh, source 2 n.val) :: (.railOver, source 2 n.val) :: es) := by
  obtain ⟨-, -, events⟩ := measured_spec lit n hmv tj
  obtain ⟨kept, same⟩ := measured_leaves lit n hmv tj
  rw [railSample_over lit powered above was]
  obtain ⟨stopped, off, shown, es, presents⟩ := clusterOver_shape (.event (.raise kept)) same
    (events.event .railHigh (source 2 n.val) [w32 n.val, w32 mv]) [w32 n.val, w32 mv] staged role live
  rw [List.append_assoc] at presents
  refine ⟨stopped, off, shown, _, es, ?_, presents⟩
  split <;> simp

end

/-! ### The obligation's clauses -/

section
variable {d : Dev} {n : Fin 9} (lit : d.lit = true)
include lit

theorem paceWindow_shows (powered : d.on (R.FAB_STATUS_POWERED n.val) = true) {ps : List Nat} (len : ps.length = 17)
    (small : ∀ p ∈ ps, p < 65536) {m : Nat} (hm : m < 16) :
    let e := d.paceWindow n.val ps
    let t := ((clusterTiles n.val)[m]?).getD 0
    e.rd (R.TILE_PACE_PERIOD t) = (ps[m]?).getD 0 ∧
      e.rd (R.TILE_PACE_PERIOD_MAX t) = max (d.rd (R.TILE_PACE_PERIOD_MAX t)) ((ps[m]?).getD 0) ∧
      e.slowRun n.val m = slowAfter ((ps[m]?).getD 0) (d.slowRun n.val m) ∧
      e.slowRun n.val 16 = slowAfter ((ps[16]?).getD 0) (d.slowRun n.val 16) := by
  intro e t
  have ht : (clusterTiles n.val)[m]? = some t := clusterTile_some n.val hm
  have shown {k : Nat} (hk : k < 17) : ps[k]? = some ((ps[k]?).getD 0) := by
    rw [List.getElem?_eq_getElem (by omega)]
    rfl
  have hp := shown (show m < 17 by omega)
  have word : min ((ps[m]?).getD 0) 65535 = (ps[m]?).getD 0 := by
    have := small _ (List.mem_of_getElem? hp)
    omega
  refine ⟨?_, ?_, ?_, ?_⟩
  · rw [paceWindow_tile n ps lit powered (Nat.le_add_right_of_le (by decide)), paceAll_period d n.val ps ht hp, word]
  · rw [paceWindow_tile n ps lit powered (Nat.le_add_right_of_le (by decide)), paceAll_periodMax d n.val ps ht hp, word]
  · rw [paceWindow_slowRun n ps lit powered, paceAll_slowRun d n.val ps hp]
  · rw [paceWindow_slowRun n ps lit powered, paceAll_slowRun d n.val ps (shown (by decide))]

theorem railSample_shows (powered : d.on (R.FAB_STATUS_POWERED n.val) = true) (mv tj : BitVec 16) (low : 776 ≤ mv.toNat)
    (high : mv.toNat ≤ 824) :
    let e := d.railSample n.val mv.toNat tj.toInt
    let warm := e.power.temps.any fun x => 1000 ≤ x.2
    Sets d e [(R.FAB_RAIL_RAIL_MV n.val, mv.toNat),
      (R.FAB_RAIL_RAIL_MIN_MV n.val, min mv.toNat (d.rd (R.FAB_RAIL_RAIL_MIN_MV n.val))),
      (R.FAB_TEMP_TJ n.val, tj.toNat),
      (R.FAB_TEMP_TJ_MAX n.val, ((max tj.toInt (d.rdInt (R.FAB_TEMP_TJ_MAX n.val))) % 65536).toNat),
      (R.FAB_STATUS_RAIL_OK n.val, 1), (R.POWER_THERMAL_HIGH, bit warm)] ∧ oget e.power.temps n.val = some tj.toInt ∧
      Presents d e (if warm && !d.on R.POWER_THERMAL_HIGH then [(.thermalHigh, source 0 0)] else []) := by
  have word : (tj.toInt % 65536).toNat = tj.toNat := by
    have := tj.isLt
    rw [BitVec.toInt_eq_toNat_cond]
    split <;> omega
  have measured := measured_spec lit n mv.isLt tj.toInt
  simp only [Dev.railShown, word, low, high, decide_true, Bool.and_self] at measured
  rw [railSample_within lit powered low high]
  exact measured

end

theorem slowShown_tile {n m t : Nat} (ht : (clusterTiles n)[m]? = some t) :
    slowShown n m = [(R.FAB_STATUS_PACE_SLOW n, 1), (R.TILE_FAULT_PACE_SLOW t, 1)] := by
  rw [slowShown, ht]
  rfl

/-- Settles O34: one lemma for each kind of window and measurement, and one for the stop that follows it. -/
theorem paceMonitorsAndRails : Obligations.PaceMonitorsAndRails := by
  unfold Obligations.PaceMonitorsAndRails
  intro s n ps m mv tj lit d0 t worst run
  have ht : (clusterTiles n.val)[m.val]? = some t := clusterTile_some n.val m.isLt
  refine ⟨fun powered len small => answers_act (exec_paceWindow n ps s) ?_, fun ⟨_, staged⟩ role live third untold => ?_,
    fun ⟨_, staged⟩ role live third untold => ?_, fun third told => ?_, fun powered low high => ?_,
    fun ⟨_, staged⟩ role live powered low was => ?_, fun ⟨_, staged⟩ role live powered above was => ?_⟩
  · rw [decide_eq_true len, if_pos rfl]
    obtain ⟨period, longest, slow, island⟩ := paceWindow_shows lit powered len small m.isLt
    obtain ⟨slowest, longestEver, margin⟩ := paceWindow_cluster n ps lit powered small
    exact ⟨period, longest, slow, island, slowest, longestEver, margin, paceWindow_rest n ps lit powered⟩
  · refine answers_act (exec_paceSlow n m.castSucc s) ?_
    obtain ⟨stopped, cause, shown, events⟩ := paceSlow_stops (m := m.castSucc) lit third untold staged role live
    rw [show slowShown n.val m.castSucc.val = _ from slowShown_tile ht, List.forall_mem_cons, List.forall_mem_singleton] at shown
    exact ⟨stopped, shown.1, shown.2, cause, events⟩
  · refine answers_act (exec_paceSlow n 16 s) ?_
    obtain ⟨stopped, -, shown, events⟩ := paceSlow_stops (m := 16) lit third untold staged role live
    exact ⟨stopped, shown _ List.mem_cons_self, events⟩
  · refine answers_act (exec_paceSlow n m.castSucc s) ?_
    rw [← slowShown_tile ht]
    exact paceSlow_again (m := m.castSucc) lit third told
  · exact answers_act (exec_railSample n mv tj s) (railSample_shows lit powered mv tj low high)
  · exact answers_act (exec_railSample n mv tj s) (railSample_low_shape lit powered mv.isLt staged role live low was)
  · exact answers_act (exec_railSample n mv tj s) (railSample_over_shape lit powered mv.isLt staged role live above was)

end Sys2Proof.Machine

end

section
/-! LAWS. A replica that is found odd (R145, R146): the fields that show it, its place in the tile, and what the finding
leaves. -/

namespace Sys2Proof.Machine

/-! ### A change of a tile -/

section
variable (d : Dev) (t : Nat) (f : Tile → Tile)

@[simp] theorem onTile_regs : (d.onTile t f).regs = d.regs := rfl
@[simp] theorem onTile_rd (g : Fld) : (d.onTile t f).rd g = d.rd g := rfl
@[simp] theorem onTile_on (g : Fld) : (d.onTile t f).on g = d.on g := rfl
@[simp] theorem onTile_role : (d.onTile t f).role = d.role := rfl
@[simp] theorem onTile_live (u : Nat) : (d.onTile t f).tileLive u = d.tileLive u := rfl

@[simp] theorem onTile_tile_same : (d.onTile t f).tile t = f (d.tile t) := Dev.tile_putTile_same _ _ _

theorem onTile_tile_other {u : Nat} (h : u ≠ t) : (d.onTile t f).tile u = d.tile u := Dev.tile_putTile_other d _ h

end

/-! ### What a change of tiles, fields and records leaves -/

/-- The module without its registers, its tiles and its recorder. -/
def Dev.besideTiles (d : Dev) : Dev := { d with regs := [], tiles := [], evrec := {}, free := 0 }

/-- Nothing beside the registers, the tiles and the recorder has changed. -/
def Dev.KeepsBeside (d e : Dev) : Prop := d.Keeps Dev.besideTiles e

namespace Dev.KeepsBeside

variable {d₀ d : Dev}

theorem part_eq {α : Type} (h : d₀.KeepsBeside d) (part : Dev → α)
    (kept : ∀ x : Dev, part x.besideTiles = part x := by intro; rfl) : part d = part d₀ := by
  rw [← kept d, show d.besideTiles = d₀.besideTiles from h, kept d₀]

theorem refl : d.KeepsBeside d := Keeps.refl
theorem trans {e : Dev} (h : d₀.KeepsBeside d) (h' : d.KeepsBeside e) : d₀.KeepsBeside e := Eq.trans h' h
theorem ite {c : Prop} [Decidable c] {a b : Dev} (ha : d₀.KeepsBeside a) (hb : d₀.KeepsBeside b) :
    d₀.KeepsBeside (if c then a else b) := Keeps.ite ha hb
theorem wr {f v} (h : d₀.KeepsBeside d) : d₀.KeepsBeside (d.wr f v) := h
theorem raise {f} (h : d₀.KeepsBeside d) : d₀.KeepsBeside (d.raise f) := h
theorem drop {f} (h : d₀.KeepsBeside d) : d₀.KeepsBeside (d.drop f) := h
theorem flag {f b} (h : d₀.KeepsBeside d) : d₀.KeepsBeside (d.flag f b) := h
theorem wrSat {f v} (h : d₀.KeepsBeside d) : d₀.KeepsBeside (d.wrSat f v) := h
theorem incSat {f} (h : d₀.KeepsBeside d) : d₀.KeepsBeside (d.incSat f) := h
theorem event {e src ps} (h : d₀.KeepsBeside d) : d₀.KeepsBeside (d.event e src ps) := h
theorem onTile {t f} (h : d₀.KeepsBeside d) : d₀.KeepsBeside (d.onTile t f) := h
theorem onRep {t r f} (h : d₀.KeepsBeside d) : d₀.KeepsBeside (d.onRep t r f) := h
theorem showTriads (h : d₀.KeepsBeside d) : d₀.KeepsBeside d.showTriads := h
theorem haltRep {t r} (h : d₀.KeepsBeside d) : d₀.KeepsBeside (d.haltRep t r) := .onTile (.wr h)

theorem writes {fs} (h : d₀.KeepsBeside d) : d₀.KeepsBeside (d.writes fs) := Keeps.same h (writes_part d fs Dev.besideTiles)

end Dev.KeepsBeside

section
variable {d e : Dev} {es : List (Ev × BitVec 16)} (h : Presents d e es)
include h

theorem Presents.onTile {t f} : Presents d (e.onTile t f) es := h
theorem Presents.wr {f v} : Presents d (e.wr f v) es := h
theorem Presents.flag {f b} : Presents d (e.flag f b) es := h
theorem Presents.haltRep {t r} : Presents d (e.haltRep t r) es := h
theorem Presents.showTriads : Presents d e.showTriads es := h

end

/-! ### The replicas in service -/

/-- The replicas in a bit mask, in the order A, B, C. -/
def repsIn (mask : Nat) : List (Fin 3) := [(0 : Fin 3), 1, 2].filter fun r => testBit mask r.val

theorem serving_eq (d : Dev) (t : Nat) : d.serving t = repsIn (d.rd (R.TILE_STATUS_REP_IN t)) := rfl

theorem serving_congr {d e : Dev} {t : Nat} (h : e.rd (R.TILE_STATUS_REP_IN t) = d.rd (R.TILE_STATUS_REP_IN t)) :
    e.serving t = d.serving t := by
  rw [serving_eq, serving_eq, h]

theorem mem_serving {d : Dev} {t : Nat} {r : Fin 3} : r ∈ d.serving t ↔ d.inService t r = true := by
  rw [Dev.serving, List.mem_filter, and_iff_right]
  revert r
  decide

/-- With three replicas in service every one is. -/
theorem serving_three {d : Dev} {t : Nat} (three : d.rd (R.TILE_STATUS_REP_IN t) = 7) : d.serving t = [0, 1, 2] := by
  rw [serving_eq, three]
  decide

theorem inService_three {d : Dev} {t : Nat} (three : d.rd (R.TILE_STATUS_REP_IN t) = 7) (r : Fin 3) :
    d.inService t r = true := by
  rw [← mem_serving, serving_three three]
  decide +revert

/-- The two replicas beside one. -/
theorem repsIn_others (r : Fin 3) : repsIn (7 - 2 ^ r.val) = [(0 : Fin 3), 1, 2].filter (· ≠ r) ∧
    (repsIn (7 - 2 ^ r.val)).length = 2 ∧ (repsIn (7 - 2 ^ r.val)).head? = some (if r = 0 then 1 else 0) := by
  decide +revert

/-- A tile that takes part in cycles or samples. -/
theorem tileLive_iff {d : Dev} {t : Nat} : d.tileLive t = true ↔
    d.alive = true ∧ d.role.runs = true ∧ d.on (R.TILE_STATUS_STOPPED t) = false ∧ d.serving t ≠ [] := by
  rw [Dev.tileLive, Bool.and_eq_true, Bool.and_eq_true, Bool.and_eq_true, and_assoc, and_assoc, Bool.not_eq_true',
    Bool.not_eq_true', List.isEmpty_eq_false_iff]

/-- A change that leaves the supply, the role, the tile's stop and its replicas leaves it so. -/
theorem tileLive_congr {d e : Dev} {t : Nat} (power : e.power = d.power) (role : e.role = d.role)
    (stopped : e.rd (R.TILE_STATUS_STOPPED t) = d.rd (R.TILE_STATUS_STOPPED t)) (serving : e.serving t = d.serving t) :
    e.tileLive t = d.tileLive t := by
  have on : e.on (R.TILE_STATUS_STOPPED t) = d.on (R.TILE_STATUS_STOPPED t) := by rw [Dev.on, Dev.on, stopped]
  rw [Dev.tileLive, Dev.tileLive, Dev.alive, Dev.alive, power, role, on, serving]

/-! ### The fields of a finding -/

/-- The fields that show a finding, with their values. -/
def Dev.oddShown (d : Dev) (t : Nat) (r : Fin 3) (cause : Nat) : List (Fld × Nat) :=
  [(misFld t r, min (d.rd (misFld t r) + 1) (2 ^ (misFld t r).wd - 1)), (R.TILE_FAULT_LAST_ODD t, 2 ^ r.val)] ++
    ((oddFlag t cause).toList.map fun f => (f, 1)) ++
    [(R.TRIAD_LAST_TILE, t), (R.TRIAD_LAST_REPLICA, 2 ^ r.val), (R.TRIAD_LAST_CAUSE, cause), (R.TRIAD_LAST_RETIRED, 0)]

/-- The fields that show which replicas serve. -/
def servingShown (t mask duplex halted : Nat) (reint : Bool) : List (Fld × Nat) :=
  [(R.TILE_STATUS_REP_IN t, mask), (R.TRIAD_DUPLEX_TILES, duplex), (R.TRIAD_HALTED_TILES, halted),
    (R.TILE_STATUS_REINTEGRATING t, bit reint)]

/-- The fields of a finding. -/
def oddFlds (t : Nat) (r : Fin 3) (cause : Nat) : List Fld :=
  [misFld t r, R.TILE_FAULT_LAST_ODD t] ++ (oddFlag t cause).toList ++
    [R.TRIAD_LAST_TILE, R.TRIAD_LAST_REPLICA, R.TRIAD_LAST_CAUSE, R.TRIAD_LAST_RETIRED] ++
    [R.TILE_STATUS_REP_IN t, R.TRIAD_DUPLEX_TILES, R.TRIAD_HALTED_TILES, R.TILE_STATUS_REINTEGRATING t]

theorem oddShown_fields (d : Dev) (t : Nat) (r : Fin 3) (cause mask duplex halted : Nat) (reint : Bool) :
    (d.oddShown t r cause ++ servingShown t mask duplex halted reint).map Prod.fst = oddFlds t r cause := by
  unfold Dev.oddShown oddFlds
  cases oddFlag t cause <;> rfl

theorem oddFlag_cases (t cause : Nat) : oddFlag t cause = none ∨ oddFlag t cause = some (R.TILE_FAULT_STITCH_MISMATCH t) ∨
    oddFlag t cause = some (R.TILE_FAULT_VOTER_TIMEOUT t) ∨ oddFlag t cause = some (R.TILE_FAULT_SRAM_UNCORR t) := by
  unfold oddFlag
  split <;> simp

theorem misFld_eq (t : Nat) (r : Fin 3) : misFld t r = ⟨0x100010 + t * 0x100, 8 * r.val, 8⟩ := by
  match r with
  | 0 => rfl
  | 1 => rfl
  | 2 => rfl

theorem oddFlds_tidy (t : Nat) (r : Fin 3) (cause : Nat) : TidyFields (oddFlds t r cause) := by
  have fit : 8 * r.val + 8 ≤ 32 := by omega
  unfold oddFlds
  rw [misFld_eq]
  rcases oddFlag_cases t cause with h | h | h | h
  all_goals
    rw [h]
    simp [TidyFields, Fld.separate, R.TILE_FAULT_LAST_ODD, R.TILE_FAULT_STITCH_MISMATCH, R.TILE_FAULT_VOTER_TIMEOUT,
      R.TILE_FAULT_SRAM_UNCORR, R.TRIAD_LAST_TILE, R.TRIAD_LAST_REPLICA, R.TRIAD_LAST_CAUSE, R.TRIAD_LAST_RETIRED,
      R.TILE_STATUS_REP_IN, R.TRIAD_DUPLEX_TILES, R.TRIAD_HALTED_TILES, R.TILE_STATUS_REINTEGRATING]
    omega

/-! ### The parts of a finding -/

section
variable (d : Dev) (t : Nat) (r : Fin 3) (cause : Nat)

/-- The tile with one more finding, of those within 10 s. -/
def Tile.addOdd (x : Tile) (r : Fin 3) (recent : DWord → Bool) (now : DWord) : Tile :=
  { x with odd := x.odd.filter (fun o => recent o.2) ++ [(r.val, now)] }

theorem countOdd_eq : d.countOdd t r cause =
    ((d.writes (d.oddShown t r cause)).event .replicaOdd (source 1 t) [w32 t, w32 (2 ^ r.val), w32 cause]).onTile t
      (·.addOdd r (fun c => decide (d.since c ≤ 10 * nsPerSecond)) d.now) := by
  have same (x : Dev) (c : DWord) (h : x.time = d.time) : x.since c = d.since c := by rw [Dev.since, Dev.since, h]
  have time : (d.writes (d.oddShown t r cause)).time = d.time := writes_part d _ Dev.time
  rw [← show (d.writes (d.oddShown t r cause)).now = d.now by rw [Dev.now, Dev.now, time]]
  simp only [← fun c => same _ c time]
  unfold Dev.countOdd Dev.oddShown
  cases oddFlag t cause <;> rfl

theorem countOdd_regs : (d.countOdd t r cause).regs = (d.writes (d.oddShown t r cause)).regs := by
  rw [countOdd_eq, onTile_regs, Dev.event_regs]

theorem countOdd_beside : d.KeepsBeside (d.countOdd t r cause) := by
  rw [countOdd_eq]
  exact .onTile (.event (.writes .refl))

theorem countOdd_presents : Presents d (d.countOdd t r cause) [(.replicaOdd, source 1 t)] := by
  rw [countOdd_eq]
  have shown := presents_none d (d.writes (d.oddShown t r cause)) (by
    rw [writes_part d _ fun x => x.evrec.presented])
  exact (shown.event .replicaOdd (source 1 t) [w32 t, w32 (2 ^ r.val), w32 cause]).onTile

theorem countOdd_tile (fresh : (d.tile t).odd = []) :
    (d.countOdd t r cause).tile t = { d.tile t with odd := [(r.val, d.now)] } := by
  rw [countOdd_eq, onTile_tile_same, Dev.event_tile, writes_part d _ fun x => x.tile t, Tile.addOdd, fresh]
  rfl

theorem countOdd_tile_other {u : Nat} (h : u ≠ t) : (d.countOdd t r cause).tile u = d.tile u := by
  rw [countOdd_eq, onTile_tile_other _ t _ h, Dev.event_tile, writes_part d _ fun x => x.tile u]

/-- The tile with a replica halted after its first finding. -/
def Tile.without (x : Tile) (r : Fin 3) (now : DWord) : Tile :=
  { x.setRep r (x.rep r).halt with
    odd := [(r.val, now)], halted := putBit x.halted r.val true
    voter := x.voter.filter (fun e => e.1 ≠ r.val), stitches := x.stitches.filter (fun e => e.1 ≠ r.val) }

/-- The module with a replica counted odd and halted. -/
def Dev.taken : Dev := (d.countOdd t r cause).haltRep t r

theorem taken_tile (fresh : (d.tile t).odd = []) : (d.taken t r cause).tile t = (d.tile t).without r d.now := by
  rw [Dev.taken, Dev.haltRep, onTile_tile_same, Dev.wr_tile, countOdd_tile d t r cause fresh]
  match r with
  | 0 => rfl
  | 1 => rfl
  | 2 => rfl

theorem taken_tile_other {u : Nat} (h : u ≠ t) : (d.taken t r cause).tile u = d.tile u := by
  rw [Dev.taken, Dev.haltRep, onTile_tile_other _ t _ h, Dev.wr_tile, countOdd_tile_other d t r cause h]

theorem taken_beside : d.KeepsBeside (d.taken t r cause) := .haltRep (countOdd_beside d t r cause)

theorem taken_presents : Presents d (d.taken t r cause) [(.replicaOdd, source 1 t)] :=
  (countOdd_presents d t r cause).haltRep

end

/-! ### A finding -/

/-- A replica is taken out of service: the finding is shown, two others serve, and nothing else but the tile and the
recorder changes. -/
structure TakenOut (d e : Dev) (t : Nat) (r : Fin 3) (cause : Nat) : Prop where
  sets : ∃ a b c, Sets d e ((d.oddShown t r cause ++ servingShown t (7 - 2 ^ r.val) a b c).map stored)
  tile : e.tile t = (d.tile t).without r d.now
  other : ∀ u, u ≠ t → e.tile u = d.tile u
  presents : Presents d e [(.replicaOdd, source 1 t)]
  beside : d.KeepsBeside e

/-- The fields that show a finding share no bit with those that show which replicas serve. -/
theorem oddShown_apart (d : Dev) (t : Nat) (r : Fin 3) (cause : Nat) :
    TidyFields ((d.oddShown t r cause).map Prod.fst) ∧
      ∀ f ∈ (d.oddShown t r cause).map Prod.fst, ∀ g ∈ (servingShown t 0 0 0 false).map Prod.fst, f.separate g := by
  obtain ⟨fit, sep⟩ := oddFlds_tidy t r cause
  rw [← oddShown_fields d t r cause 0 0 0 false, List.map_append] at fit sep
  rw [List.pairwise_append] at sep
  obtain ⟨tidy, -, apart⟩ := sep
  exact ⟨⟨fun f hf => fit f (List.mem_append_left _ hf), tidy⟩, apart⟩

theorem showTriads_tile (d : Dev) (t : Nat) : d.showTriads.tile t = d.tile t := rfl

theorem showTriads_regs (d : Dev) : ∃ a b,
    d.showTriads.regs = (d.writes [(R.TRIAD_DUPLEX_TILES, a), (R.TRIAD_HALTED_TILES, b)]).regs := ⟨_, _, rfl⟩

theorem showTriads_rd_tile (d : Dev) {g : Fld} (hg : g.off ≠ 0x90) : d.showTriads.rd g = d.rd g := by
  obtain ⟨a, b, shown⟩ := showTriads_regs d
  rw [Dev.rd_of_regs shown]
  refine writes_rd_other d ?_
  simp only [List.forall_mem_cons]
  exact ⟨⟨of_decide_eq_true rfl, .inl hg.symm⟩, ⟨of_decide_eq_true rfl, .inl hg.symm⟩, nofun⟩

/-- Whether a copy is under way, after the replicas in service have changed. -/
def Dev.showReint (d : Dev) (t : Nat) : Dev :=
  (d.flag (R.TILE_STATUS_REINTEGRATING t) (d.on (R.TILE_STATUS_REINTEGRATING t) ||
    (d.rd (R.TILE_STATUS_ROLE t) = 2))).when ((d.tile t).halted = 0) fun d => d.drop (R.TILE_STATUS_REINTEGRATING t)

theorem showReint_eq {d : Dev} {t : Nat} (halted : (d.tile t).halted ≠ 0) :
    ∃ b, d.showReint t = d.flag (R.TILE_STATUS_REINTEGRATING t) b :=
  ⟨_, if_neg (by rw [decide_eq_false halted]; decide)⟩

/-- With fewer than two replicas left the tile stops. -/
def Dev.stopBelowTwo (d : Dev) (t : Nat) : Dev := if (d.serving t).length < 2 then d.tileStop t else d

/-- The fields after a replica is taken out. -/
theorem haltRep_shown (x : Dev) (t : Nat) (r : Fin 3) (c : Bool) :
    ∃ a b, ((x.haltRep t r).showTriads.flag (R.TILE_STATUS_REINTEGRATING t) c).regs =
      (x.writes (servingShown t (putBit (x.rd (R.TILE_STATUS_REP_IN t)) r.val false) a b c)).regs := ⟨_, _, rfl⟩

theorem countOdd_repIn (d : Dev) (t : Nat) (r : Fin 3) (cause : Nat) :
    (d.countOdd t r cause).rd (R.TILE_STATUS_REP_IN t) = d.rd (R.TILE_STATUS_REP_IN t) := by
  obtain ⟨tidy, apart⟩ := oddShown_apart d t r cause
  rw [Dev.rd_of_regs (countOdd_regs d t r cause)]
  exact writes_rd_other d fun p hp =>
    ⟨tidy.1 _ (List.mem_map_of_mem hp), apart _ (List.mem_map_of_mem hp) _ List.mem_cons_self⟩

/-- What a finding that halts a replica writes. -/
theorem taken_sets (d : Dev) (t : Nat) (r : Fin 3) (cause : Nat) (c : Bool) :
    ∃ a b, Sets d ((d.taken t r cause).showTriads.flag (R.TILE_STATUS_REINTEGRATING t) c)
      ((d.oddShown t r cause ++
        servingShown t (putBit (d.rd (R.TILE_STATUS_REP_IN t)) r.val false) a b c).map stored) := by
  obtain ⟨a, b, regs⟩ := haltRep_shown (d.countOdd t r cause) t r c
  rw [countOdd_repIn] at regs
  obtain ⟨fit, sep⟩ := oddFlds_tidy t r cause
  have counted : Sets d (d.countOdd t r cause) ((d.oddShown t r cause).map stored) :=
    (writes_setsOnly d (oddShown_apart d t r cause).1).1.of_regs (countOdd_regs d t r cause)
  rw [← oddShown_fields d t r cause (putBit (d.rd (R.TILE_STATUS_REP_IN t)) r.val false) a b c] at fit sep
  refine ⟨a, b, ?_⟩
  rw [List.map_append]
  refine (counted.writes _ (fun f hf => fit f ?_) ?_).of_regs regs
  · rw [List.map_append]
    exact List.mem_append_right _ hf
  · rwa [List.map_append, stored_fields, ← List.map_append]

section
variable {d : Dev} {t : Nat} {r : Fin 3} {cause : Nat}
  (counts : (d.inService t r || (decide (cause = ocReintVerify) && testBit (d.tile t).halted r.val)) = true)
  (running : d.on (R.TILE_STATUS_STOPPED t) = false)
include counts running

theorem odd_of_counts : d.odd t r cause =
    ((if 3 ≤ (((d.taken t r cause).tile t).odd.filter (fun o => o.1 = r.val)).length
      then (d.taken t r cause).retireRep t r else d.taken t r cause).showTriads.showReint t).stopBelowTwo t :=
  if_neg (by rw [counts, running]; decide)

variable (fresh : (d.tile t).odd = []) (left : putBit (d.rd (R.TILE_STATUS_REP_IN t)) r.val false = 7 - 2 ^ r.val)
  (alone : putBit (d.tile t).halted r.val true = 2 ^ r.val)
include fresh left alone

/-- With a first finding, and two others left, the replica is halted and neither retired nor the tile stopped. -/
theorem odd_eq : ∃ b, d.odd t r cause = (d.taken t r cause).showTriads.flag (R.TILE_STATUS_REINTEGRATING t) b := by
  have tile := taken_tile d t r cause fresh
  have first : ¬3 ≤ (((d.taken t r cause).tile t).odd.filter (fun o => o.1 = r.val)).length := by
    rw [tile]
    simp [Tile.without]
  have halted : ((d.taken t r cause).showTriads.tile t).halted ≠ 0 := by
    rw [showTriads_tile, tile, show ((d.tile t).without r d.now).halted = _ from alone]
    exact (Nat.two_pow_pos _).ne'
  have repIn : (d.taken t r cause).rd (R.TILE_STATUS_REP_IN t) = (7 - 2 ^ r.val) % 8 := by
    rw [← left, ← countOdd_repIn d t r cause]
    exact Dev.rd_wr_same _ (R.TILE_STATUS_REP_IN t) _ (of_decide_eq_true rfl)
  rw [odd_of_counts counts running, if_neg first]
  generalize d.taken t r cause = x at *
  obtain ⟨b, shown⟩ := showReint_eq halted
  refine ⟨b, ?_⟩
  rw [shown]
  refine if_neg ?_
  rw [serving_eq, Dev.flag, Dev.rd_wr_other _ _ _ _ (of_decide_eq_true rfl) (.inr (.inr (of_decide_eq_true rfl))),
    showTriads_rd_tile x (show 0x100000 + t * 0x100 ≠ 0x90 by omega), repIn,
    Nat.mod_eq_of_lt (by omega), (repsIn_others r).2.1]
  decide

theorem odd_takenOut : TakenOut d (d.odd t r cause) t r cause := by
  obtain ⟨c, shape⟩ := odd_eq counts running fresh left alone
  rw [shape]
  refine ⟨?_, ?_, fun u hu => ?_, ?_, ?_⟩
  · rw [← left]
    obtain ⟨a, b, sets⟩ := taken_sets d t r cause c
    exact ⟨a, b, c, sets⟩
  · rw [Dev.flag, Dev.wr_tile, showTriads_tile, taken_tile d t r cause fresh]
  · rw [Dev.flag, Dev.wr_tile, showTriads_tile, taken_tile_other d t r cause hu]
  · exact (taken_presents d t r cause).showTriads.flag
  · exact .flag (.showTriads (taken_beside d t r cause))

end

/-! ### What a finding shows -/

/-- A field that was given a value of its width reads it. -/
theorem Sets.rd_stored {d e : Dev} {fs : List (Fld × Nat)} {f : Fld} {v : Nat} (h : Sets d e (fs.map stored))
    (mem : (f, v) ∈ fs) (small : v < 2 ^ f.wd) : e.rd f = v :=
  (h.1 _ (List.mem_map_of_mem mem)).trans (Nat.mod_eq_of_lt small)

/-- Replacing a replica leaves the rest of the tile. -/
theorem setRep_rest (x : Tile) (r : Fin 3) (y : Replica) :
    x.setRep r y = { x with repA := (x.setRep r y).repA, repB := (x.setRep r y).repB, repC := (x.setRep r y).repC } := by
  match r with
  | 0 => rfl
  | 1 => rfl
  | 2 => rfl

theorem rep_congr {x y : Tile} (a : x.repA = y.repA) (b : x.repB = y.repB) (c : x.repC = y.repC) (r : Fin 3) :
    x.rep r = y.rep r := by
  match r with
  | 0 => exact a
  | 1 => exact b
  | 2 => exact c

/-- A change of a replica leaves the tile's record of its replicas. -/
theorem onRep_record (d : Dev) (t : Nat) (r : Fin 3) (f : Replica → Replica) :
    ((d.onRep t r f).tile t).halted = (d.tile t).halted ∧ ((d.onRep t r f).tile t).odd = (d.tile t).odd := by
  rw [Dev.onRep, Dev.tile_putTile_same, setRep_rest]
  exact ⟨rfl, rfl⟩

theorem without_ended (x : Tile) (r : Fin 3) (now : DWord) : (x.without r now).ended = x.ended := by
  rw [Tile.without, setRep_rest]

/-- The masks of the replicas when one of three goes out of service, and when it is found odd again. -/
theorem masks_without (r : Fin 3) : putBit 7 r.val false = 7 - 2 ^ r.val ∧ putBit 0 r.val true = 2 ^ r.val ∧
    putBit (7 - 2 ^ r.val) r.val false = 7 - 2 ^ r.val ∧ putBit (2 ^ r.val) r.val true = 2 ^ r.val := by
  decide +revert

theorem rep_without (x : Tile) (r : Fin 3) (now : DWord) : (x.without r now).rep r = (x.rep r).halt := by
  match r with
  | 0 => rfl
  | 1 => rfl
  | 2 => rfl

namespace TakenOut

variable {d e : Dev} {t : Nat} {r : Fin 3} {cause : Nat} (h : TakenOut d e t r cause)
include h

theorem role : e.role = d.role := h.beside.part_eq Dev.role
theorem power : e.power = d.power := h.beside.part_eq Dev.power
theorem mgmt : e.mgmt = d.mgmt := h.beside.part_eq Dev.mgmt

/-- A field that a finding does not write reads as before. -/
theorem rd_other {g : Fld} (out : ∀ f ∈ oddFlds t r cause, f.separate g) : e.rd g = d.rd g := by
  obtain ⟨a, b, c, sets⟩ := h.sets
  refine sets.2 g fun f hf => out f ?_
  rw [← oddShown_fields d t r cause (7 - 2 ^ r.val) a b c]
  rwa [stored_fields] at hf

theorem repIn : e.rd (R.TILE_STATUS_REP_IN t) = 7 - 2 ^ r.val := by
  obtain ⟨a, b, c, sets⟩ := h.sets
  exact sets.rd_stored (List.mem_append_right _ List.mem_cons_self)
    (show 7 - 2 ^ r.val < 8 from (Nat.sub_le 7 _).trans_lt (by decide))

theorem serving : (e.serving t).length = 2 := by
  rw [serving_eq, h.repIn]
  exact (repsIn_others r).2.1

theorem lastReplica : e.rd R.TRIAD_LAST_REPLICA = 2 ^ r.val := by
  obtain ⟨a, b, c, sets⟩ := h.sets
  have small : 2 ^ r.val < 8 := Nat.pow_lt_pow_right (by decide) r.isLt
  exact sets.rd_stored (by simp [Dev.oddShown]) small

theorem lastCause (small : cause < 16) : e.rd R.TRIAD_LAST_CAUSE = cause := by
  obtain ⟨a, b, c, sets⟩ := h.sets
  exact sets.rd_stored (by simp [Dev.oddShown]) small

theorem flagged {f : Fld} (flag : oddFlag t cause = some f) (pos : 0 < f.wd) : e.rd f = 1 := by
  obtain ⟨a, b, c, sets⟩ := h.sets
  exact sets.rd_stored (by simp [Dev.oddShown, flag]) (Nat.one_lt_two_pow pos.ne')

theorem halted : (e.tile t).halted = putBit (d.tile t).halted r.val true := by
  rw [h.tile]
  rfl

end TakenOut

/-- A finding as the statements speak of it. -/
theorem TakenOut.found {d e : Dev} {t : Fin 144} {r : Fin 3} {cause : Nat} (h : TakenOut d e t.val r cause)
    (small : cause < 16) (alone : putBit (d.tile t.val).halted r.val true = 2 ^ r.val) : FoundOdd d e t r cause := by
  obtain ⟨a, b, c, sets⟩ := h.sets
  obtain ⟨recs, presented, named⟩ := h.presents
  have wide : (misFld t.val r).wd = 8 := by rw [misFld_eq]
  have bit3 : 2 ^ r.val < 8 := Nat.pow_lt_pow_right (by decide) r.isLt
  refine ⟨?_, ?_, ?_, h.lastReplica, h.lastCause small, h.repIn, h.halted.trans alone, ?_, ?_, h.role⟩
  · rw [sets.rd_stored (f := misFld t.val r) (v := min (d.rd (misFld t.val r) + 1) (2 ^ (misFld t.val r).wd - 1))
      (by simp [Dev.oddShown]) (by have := Nat.two_pow_pos (misFld t.val r).wd; omega), wide]
    rfl
  · exact sets.rd_stored (by simp [Dev.oddShown]) bit3
  · exact sets.rd_stored (by simp [Dev.oddShown]) (show t.val < 256 by omega)
  · rw [h.tile, rep_without]
    rfl
  · obtain ⟨rec, rfl, name⟩ := List.map_eq_singleton_iff.1 named
    obtain ⟨code, src⟩ := Prod.mk.inj name
    exact ⟨rec, by rw [presented]; exact List.mem_append_right _ List.mem_cons_self, code, src⟩

end Sys2Proof.Machine

end

section
/-! LAWS. The voter and the stitch unit where nothing is pending, the stop of a tile, and the voter's entries (R136 to R139,
R152). -/

namespace Sys2Proof.Machine

/-! ### A voter with nothing to issue -/

theorem entries_nil {x : Tile} (empty : x.voter = []) : x.entries = [] := by
  rw [Tile.entries, empty]
  rfl

/-- A run whose marker has not been issued goes on. -/
theorem advanceTasks_of_running {d : Dev} {t : Nat} (running : (d.tile t).ended = false) : d.advanceTasks t = d := by
  unfold Dev.advanceTasks
  dsimp only
  split
  · rfl
  · exact if_neg (by rw [running, Bool.false_and]; decide)

/-- The voter waits for entries while no run has ended. -/
theorem pumpVoter_waits {d : Dev} {t : Fin 144} (waits : d.vote t.val = .wait) (running : (d.tile t.val).ended = false)
    (n : Nat) : d.pumpVoter t n = d := by
  cases n with
  | zero => rfl
  | succ n =>
    unfold Dev.pumpVoter
    rw [waits, advanceTasks_of_running running, ite_self]

theorem vote_waits {d : Dev} {t : Nat} (few : (d.tile t).entries.length ≤ 1) : d.vote t = .wait := by
  unfold Dev.vote
  match (d.tile t).entries, few with
  | [], _ => rfl
  | [_], _ => rfl

theorem runVoter_empty {d : Dev} {t : Fin 144} (empty : (d.tile t.val).voter = []) (running : (d.tile t.val).ended = false) :
    d.runVoter t = d :=
  pumpVoter_waits (vote_waits (by rw [entries_nil empty]; decide)) running _

/-- With no stitches there is nothing to compare. -/
theorem compareAll_empty {d : Dev} {t : Fin 144} (empty : (d.tile t.val).stitches = []) : d.compareAll t = d := by
  rw [Dev.compareAll, empty]
  rfl

/-! ### A finding on a tile with nothing pending -/

section
variable {s : State} {t : Fin 144} (quiet : TriadQuiet s t) (r : Fin 3) (cause : Nat)
include quiet

theorem odd_quiet : TakenOut s.dev (s.dev.odd t.val r cause) t.val r cause := by
  obtain ⟨live, three, fresh, -, -, halted, -⟩ := quiet
  obtain ⟨-, -, running, -⟩ := tileLive_iff.1 live
  refine odd_takenOut ?_ running fresh ?_ ?_
  · rw [inService_three three, Bool.true_or]
  · rw [three, (masks_without r).1]
  · rw [halted, (masks_without r).2.1]

/-- The voter has nothing to act on after a finding. -/
theorem oddVoted_quiet : s.dev.oddVoted t r cause = s.dev.odd t.val r cause := by
  have tile := (odd_quiet quiet r cause).tile
  obtain ⟨-, -, -, voter, running, -, -⟩ := quiet
  refine runVoter_empty ?_ ?_
  · rw [tile]
    simp [Tile.without, voter]
  · rw [tile, without_ended, running]

theorem found_odd (small : cause < 16) : FoundOdd s.dev (s.dev.odd t.val r cause) t r cause := by
  refine (odd_quiet quiet r cause).found small ?_
  obtain ⟨-, -, -, -, -, halted, -⟩ := quiet
  rw [halted, (masks_without r).2.1]

/-- Nor has the stitch unit, with no stitch delivered. -/
theorem oddThen_quiet (empty : (s.dev.tile t.val).stitches = []) : s.dev.oddThen t r cause = s.dev.odd t.val r cause := by
  rw [Dev.oddThen, oddVoted_quiet quiet]
  refine compareAll_empty ?_
  rw [(odd_quiet quiet r cause).tile]
  simp [Tile.without, empty]

theorem found_oddThen (empty : (s.dev.tile t.val).stitches = []) (small : cause < 16) :
    FoundOdd s.dev (s.dev.oddThen t r cause) t r cause := by
  rw [oddThen_quiet quiet r cause empty]
  exact found_odd quiet r cause small

end

/-! ### The stop of a tile (R80, R152) -/

/-- The fault that a tile's stop shows. -/
def stopFld (t : Nat) (port : Bool) : Fld := if port then R.TILE_FAULT_PORT_FAULT t else R.TILE_FAULT_DUPLEX_STOP t

/-- The fields that show a tile's stop, in the order in which they are written. -/
def stopShown (t : Nat) (port : Bool) : List (Fld × Nat) :=
  if port then [(R.TILE_FAULT_PORT_FAULT t, 1), (R.TILE_STATUS_STOPPED t, 1)]
  else [(R.TILE_STATUS_STOPPED t, 1), (R.TILE_FAULT_DUPLEX_STOP t, 1)]

/-- The tile's own part of its stop. -/
def Dev.tileHalt (d : Dev) (t : Nat) (port : Bool) : Dev :=
  ((d.writes (stopShown t port)).onTile t Tile.halt).event .tileStop (source 1 t) [w32 t]

theorem tileHalt_leaves (d : Dev) (t : Nat) (port : Bool) :
    d.KeepsBeside (d.tileHalt t port) ∧ Presents d (d.tileHalt t port) [(.tileStop, source 1 t)] :=
  ⟨.event (.onTile (.writes .refl)),
    (presents_none d (d.writes (stopShown t port)) (by rw [writes_part d _ fun x => x.evrec.presented])).onTile.event _ _ _⟩

theorem stopShown_tidy (t : Nat) (port : Bool) : TidyFields ((stopShown t port).map Prod.fst) := by
  cases port
  all_goals
    simp [TidyFields, stopShown, Fld.separate, R.TILE_FAULT_PORT_FAULT, R.TILE_FAULT_DUPLEX_STOP, R.TILE_STATUS_STOPPED]

theorem tileHalt_rd (d : Dev) (t : Nat) (port : Bool) :
    (d.tileHalt t port).rd (R.TILE_STATUS_STOPPED t) = 1 ∧ (d.tileHalt t port).rd (stopFld t port) = 1 := by
  have written (f : Fld) (mem : (f, 1) ∈ stopShown t port) (pos : 0 < f.wd) : (d.tileHalt t port).rd f = 1 := by
    rw [Dev.tileHalt, Dev.event_rd, onTile_rd, rd_writes d (stopShown_tidy t port) mem]
    exact Nat.mod_eq_of_lt (Nat.one_lt_two_pow pos.ne')
  cases port
  · exact ⟨written _ (by simp [stopShown]) Nat.zero_lt_one, written _ (by simp [stopShown, stopFld]) Nat.zero_lt_one⟩
  · exact ⟨written _ (by simp [stopShown]) Nat.zero_lt_one, written _ (by simp [stopShown, stopFld]) Nat.zero_lt_one⟩

/-- A running tile that stops takes a module that runs to STOPPED. -/
theorem tileStop_halts {d : Dev} {t : Nat} (running : d.on (R.TILE_STATUS_STOPPED t) = false) (port : Bool) :
    d.tileStop t port = if d.role.runs then (d.tileHalt t port).goStopped else d.tileHalt t port := by
  have still : (d.raise (R.TILE_FAULT_PORT_FAULT t)).on (R.TILE_STATUS_STOPPED t) = false := by
    rw [← running, Dev.on, Dev.on, Dev.raise, Dev.rd_wr_other _ _ _ _ (of_decide_eq_true rfl)
      (.inl (by simp [R.TILE_FAULT_PORT_FAULT, R.TILE_STATUS_STOPPED]))]
  have shape : d.tileStop t port =
      if (d.when port fun d => d.raise (R.TILE_FAULT_PORT_FAULT t)).on (R.TILE_STATUS_STOPPED t) then
        d.when port fun d => d.raise (R.TILE_FAULT_PORT_FAULT t)
      else if (d.tileHalt t port).role.runs then (d.tileHalt t port).goStopped else d.tileHalt t port := by
    cases port <;> rfl
  rw [shape, (tileHalt_leaves d t port).1.part_eq Dev.role, if_neg]
  cases port
  · exact ne_true_of_eq_false running
  · exact ne_true_of_eq_false still

theorem tileStop_eq {d : Dev} {t : Nat} (running : d.on (R.TILE_STATUS_STOPPED t) = false) (runs : d.role.runs = true)
    (port : Bool) : d.tileStop t port = (d.tileHalt t port).goStopped := by
  rw [tileStop_halts running, runs, if_pos rfl]

/-- The fields of a tile are those that a stop of the module leaves. -/
theorem tileFld_lasting {g : Fld} (t : Fin 144) (low : 0x100000 + t.val * 0x100 ≤ g.off)
    (high : g.off < 0x100000 + t.val * 0x100 + 0x100) : g.Lasting :=
  .inr (.inr (.inr (.inr ⟨by omega, by omega⟩)))

/-- A tile that stops. -/
theorem tileStop_shape {d : Dev} {t : Fin 144} (running : d.on (R.TILE_STATUS_STOPPED t.val) = false)
    (runs : d.role.runs = true) (port : Bool) (staged : d.mgmt.staged = []) (live : d.committed = false) :
    let e := d.tileStop t.val port
    e.rd (R.TILE_STATUS_STOPPED t.val) = 1 ∧ e.rd (stopFld t.val port) = 1 ∧ e.role = .stopped ∧
      (∀ g : Fld, g.Lasting → e.rd g = (d.tileHalt t.val port).rd g) ∧
      ∃ es, Presents d e ((.tileStop, source 1 t.val) :: es) := by
  obtain ⟨beside, presents⟩ := tileHalt_leaves d t.val port
  obtain ⟨stopped, fault⟩ := tileHalt_rd d t.val port
  have role : (d.tileHalt t.val port).role ≠ .stopped := by
    rw [beside.part_eq Dev.role]
    intro h
    rw [h] at runs
    cases runs
  have staged' : (d.tileHalt t.val port).mgmt.staged = [] := by rw [beside.part_eq Dev.mgmt, staged]
  have live' : (d.tileHalt t.val port).committed = false := by rw [beside.part_eq Dev.committed, live]
  rw [tileStop_eq running runs]
  refine ⟨?_, ?_, goStopped_role_of_live staged' role live', fun g hg => goStopped_rd staged' hg,
    goStopped_presents staged' role live' presents⟩
  · rw [goStopped_rd staged' (tileFld_lasting t (by simp [R.TILE_STATUS_STOPPED]) (by simp [R.TILE_STATUS_STOPPED])), stopped]
  · rw [goStopped_rd staged' (tileFld_lasting t ?_ ?_), fault]
    · cases port <;> simp [stopFld, R.TILE_FAULT_PORT_FAULT, R.TILE_FAULT_DUPLEX_STOP]
    · cases port <;> simp [stopFld, R.TILE_FAULT_PORT_FAULT, R.TILE_FAULT_DUPLEX_STOP] <;> omega

/-! ### The entries of the next index (R137) -/

theorem entries_one {x : Tile} {r : Fin 3} {e : Effect} (one : x.voter = [(r.val, e)]) :
    x.entries = if e.idx = x.next then [e] else [] := by
  rw [Tile.entries, one]
  match r with
  | 0 | 1 | 2 => by_cases h : e.idx = x.next <;> simp [h]

theorem entries_two {x : Tile} {q r : Fin 3} {f e : Effect} (two : x.voter = [(q.val, f), (r.val, e)]) (ne : q ≠ r)
    (hf : f.idx = x.next) (he : e.idx = x.next) : x.entries = if q < r then [f, e] else [e, f] := by
  rw [Tile.entries, two]
  match q, r, ne with
  | 0, 1, _ | 0, 2, _ | 1, 0, _ | 1, 2, _ | 2, 0, _ | 2, 1, _ => simp [hf, he]
  | 0, 0, ne | 1, 1, ne | 2, 2, ne => exact absurd rfl ne

/-- Two entries that are identical in every bit, and end the same run, are one. -/
theorem same_iff {e f : Effect} : e.same f = true ↔ e.idx = f.idx ∧ e.kind = f.kind ∧ e.mask = f.mask ∧
    e.target = f.target ∧ e.data = f.data := by
  simp [Effect.same, and_assoc]

theorem same_comm (e f : Effect) : e.same f = f.same e := by
  rw [Bool.eq_iff_iff, same_iff, same_iff]
  simp [eq_comm]

theorem eq_of_same {e f : Effect} (same : e.same f = true) (abort : e.abort = f.abort) : e = f := by
  obtain ⟨idx, kind, mask, target, data⟩ := same_iff.1 same
  cases e
  cases f
  simp_all

/-! ### An entry reaches the voter (R136) -/

/-- The tile after an entry of a replica has reached its voter. -/
def Tile.receive (x : Tile) (r : Fin 3) (e : Effect) (es : List Effect) : Tile :=
  { x.setRep r { x.rep r with outbox := es, given := e.idx + 1 } with voter := x.voter ++ [(r.val, e)] }

theorem receive_rep (x : Tile) (r : Fin 3) (e : Effect) (es : List Effect) (k : Fin 3) : (x.receive r e es).rep k =
    if k = r then { x.rep r with outbox := es, given := e.idx + 1 } else x.rep k := by
  have same : (x.receive r e es).rep k = (x.setRep r { x.rep r with outbox := es, given := e.idx + 1 }).rep k := by
    match k with
    | 0 => rfl
    | 1 => rfl
    | 2 => rfl
  rw [same]
  split
  next h => rw [h, Tile.rep_setRep_same]
  next h => exact Tile.rep_setRep_other x r k _ h

/-- A reception changes the voter and the replicas of the tile. -/
theorem receive_rest (x : Tile) (r : Fin 3) (e : Effect) (es : List Effect) :
    (x.receive r e es).next = x.next ∧ (x.receive r e es).ended = x.ended ∧ (x.receive r e es).staged = x.staged ∧
      (x.receive r e es).voter = x.voter ++ [(r.val, e)] := by
  rw [Tile.receive, setRep_rest]
  exact ⟨rfl, rfl, rfl, rfl⟩

theorem voterEntry_eq {d : Dev} {t : Fin 144} {r : Fin 3} {e : Effect} {es : List Effect} (live : d.tileLive t.val = true)
    (serves : d.inService t.val r = true) (out : ((d.tile t.val).rep r).outbox = e :: es)
    (due : (d.tile t.val).next ≤ e.idx) : d.voterEntry t r = (d.onTile t.val (·.receive r e es)).runVoter t := by
  have onTime : ¬e.idx < (d.tile t.val).next := by omega
  unfold Dev.voterEntry
  rw [if_neg (by rw [live, serves]; decide), out]
  simp only [onTime, if_false]
  rfl

/-- The first entry of an index waits for a second. -/
theorem voterEntry_waits {d : Dev} {t : Fin 144} {r : Fin 3} {e : Effect} {es : List Effect} (live : d.tileLive t.val = true)
    (serves : d.inService t.val r = true) (out : ((d.tile t.val).rep r).outbox = e :: es)
    (due : (d.tile t.val).next ≤ e.idx) (empty : (d.tile t.val).voter = []) (running : (d.tile t.val).ended = false) :
    d.voterEntry t r = d.onTile t.val (·.receive r e es) := by
  obtain ⟨-, ended, -, voter⟩ := receive_rest (d.tile t.val) r e es
  rw [voterEntry_eq live serves out due]
  refine pumpVoter_waits (vote_waits ?_) ?_ _
  · rw [onTile_tile_same, entries_one (r := r) (e := e) (by rw [voter, empty]; rfl)]
    split <;> simp
  · rw [onTile_tile_same, ended, running]

end Sys2Proof.Machine

end

section
/-! LAWS. The voter's verdicts (R137 to R139): an effect that two replicas have delivered, entries that differ, and what is
missing after a timeout. -/

namespace Sys2Proof.Machine

/-! ### An effect is issued (R137, R140) -/

theorem pumpVoter_issues {d : Dev} {t : Fin 144} {e : Effect} (live : d.tileLive t.val = true)
    (issues : d.vote t.val = .issue e) (n : Nat) :
    d.pumpVoter t (n + 1) = (((d.noteIssued t.val e).issueEffect t e).checkLag t.val).pumpVoter t n := by
  rw [Dev.pumpVoter, if_neg (by rw [live]; decide), issues]

theorem pumpVoter_stops {d : Dev} {t : Fin 144} (live : d.tileLive t.val = true) (stops : d.vote t.val = .stop) (n : Nat) :
    d.pumpVoter t (n + 1) = d.tileStop t.val := by
  rw [Dev.pumpVoter, if_neg (by rw [live]; decide), stops]

theorem vote_agree {d : Dev} {t : Nat} {e : Effect} (both : (d.tile t).entries = [e, e]) : d.vote t = .issue e := by
  unfold Dev.vote
  rw [both]
  exact if_pos (same_iff.2 ⟨rfl, rfl, rfl, rfl, rfl⟩)

theorem vote_differ {d : Dev} {t : Nat} {e f : Effect} (both : (d.tile t).entries = [f, e]) (differ : f.same e = false)
    (duplex : (d.serving t).length = 2) : d.vote t = .stop := by
  unfold Dev.vote
  rw [both]
  exact (if_neg (by rw [differ]; decide)).trans (if_pos duplex)

/-- An output write is staged. -/
theorem issueEffect_write {d : Dev} {t : Fin 144} {e : Effect} (write : e.kind = 1) :
    d.issueEffect t e = d.onTile t.val fun x => { x with staged := x.staged ++ [e] } := by
  unfold Dev.issueEffect
  rw [write]
  rfl

/-- The module after the voter has issued an output write. -/
def Dev.issued (d : Dev) (t : Nat) (e : Effect) : Dev :=
  (d.noteIssued t e).onTile t fun x => { x with staged := x.staged ++ [e] }

/-- What an issued write leaves of the tile. -/
theorem issued_tile (d : Dev) (t : Nat) (e : Effect) :
    ((d.issued t e).tile t).next = e.idx + 1 ∧
      ((d.issued t e).tile t).voter = (d.tile t).voter.filter (fun y => e.idx < y.2.idx) ∧
      ((d.issued t e).tile t).staged = (d.tile t).staged ++ [e] ∧ ((d.issued t e).tile t).ended = (d.tile t).ended ∧
      ∀ k, ((d.issued t e).tile t).rep k = (d.tile t).rep k := by
  rw [Dev.issued, onTile_tile_same, Dev.noteIssued, onTile_tile_same]
  refine ⟨rfl, rfl, rfl, rfl, fun k => ?_⟩
  match k with
  | 0 => rfl
  | 1 => rfl
  | 2 => rfl

/-- Changes of the tile alone. -/
theorem issued_rest (d : Dev) (t : Nat) (f : Tile → Tile) (e : Effect) :
    (d.onTile t f).issued t e = { d with tiles := ((d.onTile t f).issued t e).tiles } := rfl

/-- No replica is more than 64 indices behind. -/
theorem checkLag_none {d : Dev} {t : Nat} (near : ∀ k : Fin 3, (d.tile t).next ≤ ((d.tile t).rep k).given + 64) :
    d.checkLag t = d := by
  unfold Dev.checkLag
  rw [List.find?_eq_none.2 fun k _ => by have := near k; simp; omega]

/-- The second of two identical entries issues the effect. -/
theorem voterEntry_issues {d : Dev} {t : Fin 144} {q r : Fin 3} {e : Effect} {es : List Effect} (live : d.tileLive t.val = true)
    (serves : d.inService t.val r = true) (ne : q ≠ r) (running : (d.tile t.val).ended = false)
    (one : (d.tile t.val).voter = [(q.val, e)]) (next : e.idx = (d.tile t.val).next)
    (out : ((d.tile t.val).rep r).outbox = e :: es) (write : e.kind = 1)
    (near : ∀ k : Fin 3, (d.tile t.val).next < ((d.tile t.val).rep k).given + 64) :
    d.voterEntry t r = (d.onTile t.val (·.receive r e es)).issued t.val e := by
  obtain ⟨nexts, ended, -, voter⟩ := receive_rest (d.tile t.val) r e es
  let x := d.onTile t.val (·.receive r e es)
  have live' : x.tileLive t.val = true := live
  have tile : x.tile t.val = (d.tile t.val).receive r e es := onTile_tile_same _ _ _
  have votes : x.vote t.val = .issue e := by
    refine vote_agree ?_
    rw [tile, entries_two (q := q) (r := r) (f := e) (e := e) (by rw [voter, one]; rfl) ne (by rw [nexts, next])
      (by rw [nexts, next]), ite_self]
  obtain ⟨next', voter', -, ended', reps⟩ := issued_tile x t.val e
  rw [voterEntry_eq live serves out next.ge, Dev.runVoter, pumpVoter_issues live' votes, issueEffect_write write,
    show (x.noteIssued t.val e).onTile t.val _ = x.issued t.val e from rfl, checkLag_none]
  · refine pumpVoter_waits (vote_waits ?_) ?_ _
    · rw [entries_nil]
      · exact Nat.zero_le 1
      · rw [voter', tile, voter, one]
        simp
    · rw [ended', tile, ended, running]
  · intro k
    rw [next', reps, tile, receive_rep]
    have := near k
    split
    · show e.idx + 1 ≤ e.idx + 1 + 64
      omega
    · omega

/-- An entry that differs from the other replica's stops a tile in DUPLEX (R139). -/
theorem voterEntry_stops {d : Dev} {t : Fin 144} {e f : Effect} {es : List Effect} (live : d.tileLive t.val = true)
    (duplex : d.rd (R.TILE_STATUS_REP_IN t.val) = 3) (one : (d.tile t.val).voter = [(0, f)])
    (next : f.idx = (d.tile t.val).next) (out : ((d.tile t.val).rep 1).outbox = e :: es) (idx : e.idx = f.idx)
    (differ : e.same f = false) : d.voterEntry t 1 = (d.onTile t.val (·.receive 1 e es)).tileStop t.val := by
  obtain ⟨nexts, -, -, voter⟩ := receive_rest (d.tile t.val) 1 e es
  have serves : d.inService t.val 1 = true := by
    rw [Dev.inService, duplex]
    decide
  let x := d.onTile t.val (·.receive 1 e es)
  have live' : x.tileLive t.val = true := live
  have two : (x.serving t.val).length = 2 := by
    rw [serving_eq, onTile_rd, duplex]
    decide
  have votes : x.vote t.val = .stop := by
    refine vote_differ (f := f) (e := e) ?_ (by rw [same_comm, differ]) two
    rw [show x.tile t.val = _ from onTile_tile_same _ _ _, entries_two (q := 0) (r := 1) (f := f) (e := e)
      (by rw [voter, one]; rfl) (by decide) (by rw [nexts, next]) (by rw [nexts, idx, next]), if_pos (by decide)]
  rw [voterEntry_eq live serves out (by omega), Dev.runVoter, pumpVoter_stops live' votes]

/-! ### An entry is missing (R137, R139) -/

/-- No second entry of the next index has come: the tile stops. -/
theorem voterTimeout_stops {d : Dev} {t : Fin 144} {r : Fin 3} {f : Effect} (live : d.tileLive t.val = true)
    (one : (d.tile t.val).voter = [(r.val, f)]) (next : f.idx = (d.tile t.val).next) (issued : (d.tile t.val).issued = []) :
    d.voterTimeout t = d.tileStop t.val := by
  have delivered : d.undelivered t.val = none := by
    rw [Dev.undelivered, issued]
    rfl
  rw [Dev.voterTimeout, if_neg (by rw [live]; decide), delivered, entries_one one, if_pos next]
  rfl

theorem find_replica (r : Fin 3) : ([0, 1, 2] : List (Fin 3)).find? (fun k => decide (k = r)) = some r := by
  decide +revert

/-- A replica has not delivered its entry of an issued effect. -/
theorem voterTimeout_odd {d : Dev} {t : Fin 144} {r : Fin 3} {e : Effect} (live : d.tileLive t.val = true)
    (three : d.rd (R.TILE_STATUS_REP_IN t.val) = 7) (issued : (d.tile t.val).issued = [e])
    (missing : ((d.tile t.val).rep r).given ≤ e.idx)
    (others : ∀ k : Fin 3, k ≠ r → e.idx < ((d.tile t.val).rep k).given) :
    d.voterTimeout t = d.oddThen t r ocVoterTimeout := by
  have lacks (k : Fin 3) : ((d.tile t.val).rep k).given ≤ e.idx ↔ k = r := by
    constructor
    · intro h
      by_contra ne
      have := others k ne
      omega
    · rintro rfl
      exact missing
  have found : ([0, 1, 2] : List (Fin 3)).find? (fun k => decide (((d.tile t.val).rep k).given ≤ e.idx)) = some r := by
    simp only [lacks]
    exact find_replica r
  have undelivered : d.undelivered t.val = some r := by
    rw [Dev.undelivered, issued, serving_three three, List.findSome?_cons, found]
  rw [Dev.voterTimeout, if_neg (by rw [live]; decide), undelivered]

end Sys2Proof.Machine

end

section
/-! LAWS. Events of a tile (R128, R195): an event that waits for a replica, and a task of higher priority that pre-empts the
run under way. -/

namespace Sys2Proof.Machine

/-! ### An event that waits (R128) -/

theorem eventTimeout_odd {d : Dev} {t : Fin 144} {r : Fin 3} {v : TileEvent} (live : d.tileLive t.val = true)
    (serves : d.inService t.val r = true) (waits : (d.tile t.val).event = some v)
    (behind : ((d.tile t.val).rep r).retired < v.count) : d.eventTimeout t r = d.oddThen t r ocEvent := by
  unfold Dev.eventTimeout
  rw [waits]
  exact if_pos (by rw [live, serves, decide_eq_true behind]; rfl)

/-- While a replica stands before the count, the event waits. -/
theorem eventDelivery_waits {d : Dev} {t : Fin 144} {r : Fin 3} {v : TileEvent} (serves : d.inService t.val r = true)
    (waits : (d.tile t.val).event = some v) (behind : ((d.tile t.val).rep r).retired < v.count) : d.eventDelivery t = d := by
  have posted : d.postEvent t.val none = d := if_pos (by rw [waits]; rfl)
  have reached : ¬d.eventReached t.val v = true := by
    rw [Dev.eventReached, List.all_eq_true]
    intro all
    have := all r (mem_serving.2 serves)
    rw [decide_eq_true_iff] at this
    omega
  have tried : d.tryEvent t.val = d := by
    unfold Dev.tryEvent
    rw [waits]
    exact if_neg reached
  unfold Dev.eventDelivery
  rw [posted, ite_self, tried, ite_self]

/-! ### The run that comes next (R195) -/

/-- The better of two instances: the one of the lower place, and of equals the earlier in the list. -/
def pickRun (p : PartImg) (b : Option TaskRun) (r : TaskRun) : Option TaskRun :=
  match b with
  | none => some r
  | some y => if taskRank p r.task < taskRank p y.task then some r else some y

theorem nextRun_eq (x : Tile) (p : PartImg) : x.nextRun p = (x.waiting ++ x.preempted).foldl (pickRun p) none := rfl

theorem pickRun_some (p : PartImg) (y r : TaskRun) :
    pickRun p (some y) r = some (if taskRank p r.task < taskRank p y.task then r else y) := (apply_ite some _ _ _).symm

/-- A run of a later place than the one that runs next does not change it, put first. -/
theorem foldl_pickRun_first {p : PartImg} {l : List TaskRun} {y o r : TaskRun}
    (before : taskRank p o.task ≤ taskRank p y.task) (later : taskRank p r.task < taskRank p o.task)
    (next : l.foldl (pickRun p) (some y) = some r) : l.foldl (pickRun p) (some o) = some r := by
  induction l generalizing y with
  | nil =>
    obtain rfl := Option.some.inj next
    omega
  | cons k l ih =>
    rw [List.foldl_cons, pickRun_some] at next ⊢
    by_cases first : taskRank p k.task < taskRank p o.task
    · rw [if_pos (by omega)] at next
      rw [if_pos first, next]
    · rw [if_neg first]
      refine ih ?_ next
      split <;> omega

/-- A run of a later place than the one that runs next does not change it, wherever it is put. -/
theorem foldl_pickRun_insert {p : PartImg} {l₁ l₂ : List TaskRun} {o r : TaskRun}
    (later : taskRank p r.task < taskRank p o.task) (next : (l₁ ++ l₂).foldl (pickRun p) none = some r) :
    (l₁ ++ o :: l₂).foldl (pickRun p) none = some r := by
  rw [List.foldl_append] at next ⊢
  rw [List.foldl_cons]
  generalize l₁.foldl (pickRun p) none = b at *
  cases b with
  | none =>
    cases l₂ with
    | nil => cases next
    | cons k l =>
      rw [List.foldl_cons, show pickRun p none k = some k from rfl] at next
      rw [show pickRun p none o = some o from rfl, List.foldl_cons, pickRun_some]
      split
      · exact next
      · exact foldl_pickRun_first (by omega) later next
  | some y =>
    rw [pickRun_some]
    split
    · exact foldl_pickRun_first (by omega) later next
    · exact next

/-! ### A run begins (R195) -/

/-- What the start of a run on the replicas leaves. -/
def Dev.runsOf (d : Dev) (t : Nat) : Option TaskRun × List TaskRun × List (Nat × Word) :=
  ((d.tile t).current, (d.tile t).preempted, d.regs)

theorem onRep_runsOf (d : Dev) (t : Nat) (r : Fin 3) (f : Replica → Replica) : (d.onRep t r f).runsOf t = d.runsOf t := by
  unfold Dev.runsOf
  rw [Dev.onRep, Dev.tile_putTile_same, setRep_rest]
  rfl

theorem startRun_runsOf {d : Dev} {t : Nat} {p : PartImg} {run : TaskRun} (part : d.partOf t = some p)
    (task : (p.task run.task).isSome = true) :
    (d.startRun t run).runsOf t = (some { run with cores := [], staged := [] }, (d.tile t).preempted, d.regs) := by
  obtain ⟨k, known⟩ := Option.isSome_iff_exists.1 task
  unfold Dev.startRun
  rw [part, Option.bind_some, known]
  dsimp only
  refine Eq.trans (Dev.Keeps.foldl (part := fun x => x.runsOf t) rfl fun x r hx => ?_) ?_
  · exact (onRep_runsOf x t r _).trans hx
  · unfold Dev.runsOf
    dsimp only
    rw [onTile_tile_same]
    rfl

/-- Under the fall-back schedule the next run by priority begins. -/
theorem startNext_fallback {d : Dev} {t : Nat} {p : PartImg} {r : TaskRun} (part : d.partOf t = some p)
    (fallback : d.on R.CYCLE_STATUS_FALLBACK = true) (next : (d.tile t).nextRun p = some r)
    (task : (p.task r.task).isSome = true) :
    (d.startNext t).runsOf t = (some { r with cores := [], staged := [] },
      (d.tile t).preempted.filter (fun y => y.task ≠ r.task), d.regs) := by
  have shape : d.startNext t = (d.onTile t fun x => { x with
      waiting := x.waiting.filter (fun y => y.task ≠ r.task)
      preempted := x.preempted.filter (fun y => y.task ≠ r.task) }).startRun t r := by
    unfold Dev.startNext
    rw [part]
    dsimp only
    rw [fallback, if_pos rfl, next]
  rw [shape]
  refine (startRun_runsOf (d := d.onTile t _) part task).trans ?_
  rw [onTile_tile_same]
  rfl

/-! ### A release enters (R195) -/

/-- The run under way as it is kept. -/
def Tile.saved (x : Tile) (run : TaskRun) (ns : Nat) : TaskRun :=
  { run with ran := run.ran + ns, cores := [x.repA.core, x.repB.core, x.repC.core], staged := x.staged }

section
variable {d : Dev} {t : Nat} {run rel : TaskRun} {p : PartImg} (current : (d.tile t).current = some run)
  (part : d.partOf t = some p) (next : (d.tile t).nextRun p = some rel) (running : (d.tile t).ended = false)
  (before : taskRank p rel.task < taskRank p run.task)
include current part next running before

theorem preemptDue_of_before : d.preemptDue t = true := by
  unfold Dev.preemptDue
  dsimp only
  rw [current, part]
  dsimp only
  rw [next]
  dsimp only
  rw [running, decide_eq_true before]
  rfl

/-- The run under way is kept in the task context store, and the released one begins. -/
theorem preempt_shape (fallback : d.on R.CYCLE_STATUS_FALLBACK = true) (task : (p.task rel.task).isSome = true)
    (all : ∀ k : Fin 3, ((d.tile t).rep k).core.running = true) :
    ∃ ns, (d.preempt t).runsOf t = (some { rel with cores := [], staged := [] },
      ((d.tile t).saved run ns :: (d.tile t).preempted).filter (fun y => y.task ≠ rel.task), d.regs) := by
  let kept := (d.tile t).saved run (d.since (d.tile t).ranFrom)
  have shape : d.preempt t =
      (d.onTile t fun x => { x with preempted := kept :: x.preempted, current := none }).startNext t := by
    unfold Dev.preempt
    dsimp only
    rw [current]
    dsimp only
    rw [if_pos]
    · rfl
    · rw [preemptDue_of_before current part next running before, Bool.true_and, List.all_eq_true]
      exact fun k _ => all k
  refine ⟨d.since (d.tile t).ranFrom, ?_⟩
  rw [shape]
  refine (startNext_fallback (d := d.onTile t _) part fallback ?_ task).trans ?_
  · rw [onTile_tile_same, nextRun_eq]
    exact foldl_pickRun_insert before next
  · rw [onTile_tile_same]
    rfl

end

/-- Replicas that have all retired as many instructions stand at the highest count. -/
theorem topCount_equal {d : Dev} {t : Nat} (three : d.rd (R.TILE_STATUS_REP_IN t) = 7)
    (equal : ∀ k : Fin 3, ((d.tile t).rep k).retired = ((d.tile t).rep 0).retired) :
    d.topCount t = ((d.tile t).rep 0).retired := by
  rw [Dev.topCount, serving_three three]
  simp only [List.foldl_cons, List.foldl_nil, equal]
  omega

/-- With every replica at one count, an event for a release enters at once. -/
theorem eventDelivery_enters {d : Dev} {t : Fin 144} (live : d.tileLive t.val = true)
    (three : d.rd (R.TILE_STATUS_REP_IN t.val) = 7) (idle : (d.tile t.val).event = none) (due : d.preemptDue t.val = true)
    (equal : ∀ k : Fin 3, ((d.tile t.val).rep k).retired = ((d.tile t.val).rep 0).retired) :
    ∃ e : Dev, d.eventDelivery t = e.preempt t.val ∧ e = { d with tiles := e.tiles } ∧ e.tile t.val = d.tile t.val := by
  let v : TileEvent := ⟨d.topCount t.val, none⟩
  let posted := d.onTile t.val fun x => { x with event := some v }
  have tile : posted.tile t.val = { d.tile t.val with event := some v } := onTile_tile_same _ _ _
  have reached : posted.eventReached t.val v = true := by
    rw [Dev.eventReached, List.all_eq_true, tile]
    intro k _
    have count : v.count = ((d.tile t.val).rep 0).retired := topCount_equal three equal
    have same : ({ d.tile t.val with event := some v } : Tile).rep k = (d.tile t.val).rep k := by
      match k with
      | 0 => rfl
      | 1 => rfl
      | 2 => rfl
    rw [same, count, equal k, decide_eq_true le_rfl]
  have entered : posted.tryEvent t.val = (posted.onTile t.val fun x => { x with event := none }).preempt t.val := by
    unfold Dev.tryEvent
    rw [tile]
    exact if_pos reached
  refine ⟨posted.onTile t.val fun x => { x with event := none }, ?_, rfl, ?_⟩
  · have post : d.postEvent t.val none = posted := if_neg (by rw [idle]; decide)
    rw [Dev.eventDelivery, if_neg (by rw [live]; decide), due, if_pos rfl, post, entered]
  · rw [onTile_tile_same, tile, ← idle]

end Sys2Proof.Machine

end

section
/-! LAWS. Stitches and SRAM errors (R88, R143, R145): the comparison of a window, and findings that follow it. -/

namespace Sys2Proof.Machine

/-! ### Findings before and after other changes -/

/-- A finding stays what it is when what it speaks of is left. -/
theorem FoundOdd.of_same {d e e' : Dev} {t : Fin 144} {r : Fin 3} {cause : Nat} (h : FoundOdd d e t r cause)
    (regs : e'.regs = e.regs) (role : e'.role = e.role) (told : e'.evrec = e.evrec)
    (halted : (e'.tile t.val).halted = (e.tile t.val).halted) (rep : (e'.tile t.val).rep r = (e.tile t.val).rep r) :
    FoundOdd d e' t r cause := by
  obtain ⟨count, last, tile, replica, lastCause, repIn, mask, stopped, event, same⟩ := h
  have rd := Dev.rd_of_regs regs
  rw [FoundOdd, rd, rd, rd, rd, rd, rd, role, told, halted, rep]
  exact ⟨count, last, tile, replica, lastCause, repIn, mask, stopped, event, same⟩

/-- A change before the finding that leaves the replica's count and the role. -/
theorem FoundOdd.of_base {d d' e : Dev} {t : Fin 144} {r : Fin 3} {cause : Nat} (h : FoundOdd d' e t r cause)
    (count : d'.rd (misFld t.val r) = d.rd (misFld t.val r)) (role : d'.role = d.role) : FoundOdd d e t r cause := by
  unfold FoundOdd at h ⊢
  rwa [count, role] at h

/-! ### The majority of a window (R143) -/

theorem noteStitch_triad {d : Dev} {t : Nat} (triad : d.rd (R.TILE_STATUS_ROLE t) = 1) (w : Nat) (v : DWord) :
    d.noteStitch t w v = d.onTile t fun x => { x with majority := x.majority ++ [(w, v)] } :=
  if_neg (by rw [triad]; decide)

/-- A majority that is kept leaves the rest of the module. -/
theorem noteStitch_leaves (d : Dev) (t w : Nat) (v : DWord) :
    (d.noteStitch t w v).regs = d.regs ∧ (d.noteStitch t w v).role = d.role ∧ (d.noteStitch t w v).evrec = d.evrec ∧
      ((d.noteStitch t w v).tile t).halted = (d.tile t).halted ∧
      ∀ r, ((d.noteStitch t w v).tile t).rep r = (d.tile t).rep r := by
  unfold Dev.noteStitch
  split
  · split
    · exact ⟨rfl, rfl, rfl, rfl, fun _ => rfl⟩
    · exact ⟨rfl, rfl, rfl, rfl, fun _ => rfl⟩
  · rw [onTile_tile_same]
    refine ⟨rfl, rfl, rfl, rfl, fun r => ?_⟩
    match r with
    | 0 => rfl
    | 1 => rfl
    | 2 => rfl

/-- The stitch unit has compared a window. -/
def Dev.compared (d : Dev) (t w : Nat) : Dev :=
  d.onTile t fun x => { x with stitches := x.stitches.filter fun s => s.2.1 ≠ w }

/-- The one window of which stitches have been delivered is compared. -/
theorem compareAll_one {d : Dev} {t : Fin 144} {w : Nat} (live : d.tileLive t.val = true)
    (one : ((d.tile t.val).stitches.map fun s => s.2.1).eraseDups = [w]) : d.compareAll t = d.compareStitches t w := by
  rw [Dev.compareAll, one]
  exact if_pos live

theorem compareStitches_two {d : Dev} {t : Fin 144} {w : Nat} {a b : Nat} {v : DWord}
    (two : (d.tile t.val).stitchesOf w = [(a, v), (b, v)]) (serves : (d.serving t.val).length = 2) :
    d.compareStitches t w = (d.compared t.val w).noteStitch t.val w v := by
  unfold Dev.compareStitches
  dsimp only
  rw [two, serves, if_neg (by simp)]
  exact if_pos rfl

theorem compareStitches_three {d : Dev} {t : Fin 144} {w : Nat} {a b c : Nat} {v z : DWord}
    (three : (d.tile t.val).stitchesOf w = [(a, v), (b, v), (c, z)]) (serves : (d.serving t.val).length = 3) :
    d.compareStitches t w = if z = v then (d.compared t.val w).noteStitch t.val w v
      else ((d.compared t.val w).noteStitch t.val w v).oddVoted t (repOf c) ocStitch := by
  unfold Dev.compareStitches
  dsimp only
  rw [three, serves, if_neg (by simp)]
  dsimp only
  by_cases equal : z = v
  · rw [if_pos equal]
    exact if_pos ⟨rfl, equal.symm⟩
  · rw [if_neg equal, if_neg fun h => equal h.2.symm, if_pos rfl]
    rfl

/-! ### A stitch is delivered (R143) -/

/-- The tile after a replica has delivered a stitch. -/
def Tile.deliver (x : Tile) (r : Fin 3) (w : Nat) (v : DWord) (rest : List (Nat × DWord)) : Tile :=
  { x.setRep r { x.rep r with closed := rest } with stitches := x.stitches ++ [(r.val, w, v)] }

theorem stitchDeliver_eq {d : Dev} {t : Fin 144} {r : Fin 3} {w : Nat} {v : DWord} {rest : List (Nat × DWord)}
    (live : d.tileLive t.val = true) (serves : d.inService t.val r = true)
    (closed : ((d.tile t.val).rep r).closed = (w, v) :: rest) :
    d.stitchDeliver t r = (d.onTile t.val (·.deliver r w v rest)).compareAll t := by
  unfold Dev.stitchDeliver
  rw [if_neg (by rw [live, serves]; decide), closed]
  rfl

/-- The module after the third stitch of a window is delivered and the majority of the window kept. -/
def Dev.third (d : Dev) (t w : Nat) (v z : DWord) (rest : List (Nat × DWord)) : Dev :=
  ((d.onTile t (·.deliver 2 w z rest)).compared t w).onTile t fun x => { x with majority := x.majority ++ [(w, v)] }

section
variable (d : Dev) (t w : Nat) (v z : DWord) (rest : List (Nat × DWord))

theorem third_live : (d.third t w v z rest).tileLive t = d.tileLive t := by
  rw [Dev.third, Dev.compared, onTile_live, onTile_live, onTile_live]

theorem third_rd (g : Fld) : (d.third t w v z rest).rd g = d.rd g := by
  rw [Dev.third, Dev.compared, onTile_rd, onTile_rd, onTile_rd]

theorem third_role : (d.third t w v z rest).role = d.role := by
  rw [Dev.third, Dev.compared, onTile_role, onTile_role, onTile_role]

theorem third_rest : d.third t w v z rest = { d with tiles := (d.third t w v z rest).tiles } := rfl

/-- The tile after a window of which the third stitch is compared. -/
theorem third_tile (two : (d.tile t).stitches = [(0, w, v), (1, w, v)]) : (d.third t w v z rest).tile t =
    { (d.tile t).setRep 2 { (d.tile t).rep 2 with closed := rest } with
      stitches := [], majority := (d.tile t).majority ++ [(w, v)] } := by
  rw [Dev.third, onTile_tile_same, Dev.compared, onTile_tile_same, onTile_tile_same, Tile.deliver, two]
  simp
  rfl

end

section
variable {d : Dev} {t : Fin 144} {w : Nat} {v z : DWord} {rest : List (Nat × DWord)} (live : d.tileLive t.val = true)
  (three : d.rd (R.TILE_STATUS_REP_IN t.val) = 7) (triad : d.rd (R.TILE_STATUS_ROLE t.val) = 1)
  (two : (d.tile t.val).stitches = [(0, w, v), (1, w, v)]) (closed : ((d.tile t.val).rep 2).closed = (w, z) :: rest)
include live three triad two closed

/-- The third stitch of a window is compared with the two before it. -/
theorem stitchDeliver_third :
    d.stitchDeliver t 2 = if z = v then d.third t.val w v z rest else (d.third t.val w v z rest).oddVoted t 2 ocStitch := by
  let x := d.onTile t.val (·.deliver 2 w z rest)
  have stitches : (x.tile t.val).stitches = [(0, w, v), (1, w, v), (2, w, z)] := by
    rw [onTile_tile_same, Tile.deliver, two]
    rfl
  have all : (x.tile t.val).stitchesOf w = [(0, v), (1, v), (2, z)] := by
    rw [Tile.stitchesOf, stitches]
    simp
  have serves : (x.serving t.val).length = 3 := by
    rw [serving_three (d := x) three]
    rfl
  rw [stitchDeliver_eq live (inService_three three 2) closed,
    compareAll_one (d := x) (w := w) live (by rw [stitches]; simp [List.eraseDups_cons]), compareStitches_three all serves,
    noteStitch_triad (d := x.compared t.val w) triad]
  rfl

end

/-! ### A stitch is missing (R143) -/

theorem stitchTimeout_odd {d : Dev} {t : Fin 144} {w : Nat} {v : DWord} (live : d.tileLive t.val = true)
    (serves : d.inService t.val 2 = true) (two : (d.tile t.val).stitches = [(0, w, v), (1, w, v)]) :
    d.stitchTimeout t 2 = d.oddThen t 2 ocVoterTimeout := by
  unfold Dev.stitchTimeout
  rw [if_neg (by rw [live, serves]; decide)]
  simp [Tile.stitchesOf, two]

/-- A finding does not write the tile's stop. -/
theorem oddFlds_stopped (t : Nat) (r : Fin 3) (cause : Nat) :
    ∀ f ∈ oddFlds t r cause, f.separate (R.TILE_STATUS_STOPPED t) := by
  unfold oddFlds
  rw [misFld_eq]
  rcases oddFlag_cases t cause with h | h | h | h
  all_goals
    rw [h]
    simp [Fld.separate, R.TILE_FAULT_LAST_ODD, R.TILE_FAULT_STITCH_MISMATCH, R.TILE_FAULT_VOTER_TIMEOUT,
      R.TILE_FAULT_SRAM_UNCORR, R.TRIAD_LAST_TILE, R.TRIAD_LAST_REPLICA, R.TRIAD_LAST_CAUSE, R.TRIAD_LAST_RETIRED,
      R.TILE_STATUS_REP_IN, R.TRIAD_DUPLEX_TILES, R.TRIAD_HALTED_TILES, R.TILE_STATUS_REINTEGRATING, R.TILE_STATUS_STOPPED]
    omega

/-- The two others' stitches are the majority. -/
theorem oddThen_two {s : State} {t : Fin 144} (quiet : TriadQuiet s t) {w : Nat} {v : DWord} (cause : Nat)
    (two : (s.dev.tile t.val).stitches = [(0, w, v), (1, w, v)]) :
    s.dev.oddThen t 2 cause = ((s.dev.odd t.val 2 cause).compared t.val w).noteStitch t.val w v := by
  have out := odd_quiet quiet 2 cause
  rw [Dev.oddThen, oddVoted_quiet quiet]
  obtain ⟨live, -, -, -, -, -, -⟩ := quiet
  obtain ⟨alive, runs, running, -⟩ := tileLive_iff.1 live
  generalize s.dev.odd t.val 2 cause = e at *
  have stitches : (e.tile t.val).stitches = [(0, w, v), (1, w, v)] := by
    rw [out.tile]
    simp [Tile.without, two]
  have stop : e.rd (R.TILE_STATUS_STOPPED t.val) = s.dev.rd (R.TILE_STATUS_STOPPED t.val) :=
    out.rd_other (oddFlds_stopped t.val 2 cause)
  have live' : e.tileLive t.val = true := by
    refine tileLive_iff.2 ⟨?_, ?_, ?_, ?_⟩
    · rw [Dev.alive, out.power]
      exact alive
    · rw [out.role, runs]
    · rw [Dev.on, stop]
      exact running
    · intro none
      have := out.serving
      rw [none] at this
      cases this
  rw [compareAll_one live' (w := w) (by rw [stitches]; simp [List.eraseDups_cons]),
    compareStitches_two (a := 0) (b := 1) (v := v) (by rw [Tile.stitchesOf, stitches]; simp) out.serving]

end Sys2Proof.Machine

end

section
/-! LAWS. Findings by stitches and SRAM errors as the statements speak of them, and reintegration (R88, R143 to R150). -/

namespace Sys2Proof.Machine

/-! ### Findings by stitches -/

theorem triadQuiet_of {s s' : State} {t : Fin 144} (quiet : TriadQuiet s t)
    (live : s'.dev.tileLive t.val = s.dev.tileLive t.val)
    (repIn : s'.dev.rd (R.TILE_STATUS_REP_IN t.val) = s.dev.rd (R.TILE_STATUS_REP_IN t.val))
    (odd : (s'.dev.tile t.val).odd = (s.dev.tile t.val).odd) (voter : (s'.dev.tile t.val).voter = (s.dev.tile t.val).voter)
    (ended : (s'.dev.tile t.val).ended = (s.dev.tile t.val).ended)
    (halted : (s'.dev.tile t.val).halted = (s.dev.tile t.val).halted)
    (retired : (s'.dev.tile t.val).retired = (s.dev.tile t.val).retired) : TriadQuiet s' t := by
  unfold TriadQuiet at quiet ⊢
  rwa [live, repIn, odd, voter, ended, halted, retired]

/-- A third stitch that differs from the two before it makes its replica odd. -/
theorem stitchDeliver_differs {s : State} {t : Fin 144} {w : Nat} {v z : DWord} {rest : List (Nat × DWord)}
    (quiet : TriadQuiet s t) (triad : s.dev.rd (R.TILE_STATUS_ROLE t.val) = 1)
    (two : (s.dev.tile t.val).stitches = [(0, w, v), (1, w, v)]) (ne : z ≠ v)
    (closed : ((s.dev.tile t.val).rep 2).closed = (w, z) :: rest) :
    let d := s.dev.stitchDeliver t 2
    FoundOdd s.dev d t 2 1 ∧ (d.tile t.val).majority = (s.dev.tile t.val).majority ++ [(w, v)] ∧
      d.rd (R.TILE_FAULT_STITCH_MISMATCH t.val) = 1 := by
  have ⟨live, three, _⟩ := quiet
  have third := stitchDeliver_third live three triad two closed
  have tile := third_tile s.dev t.val w v z rest two
  have live' := third_live s.dev t.val w v z rest
  have rd := third_rd s.dev t.val w v z rest
  have role := third_role s.dev t.val w v z rest
  rw [if_neg ne] at third
  intro d
  rw [show d = _ from third]
  generalize s.dev.third t.val w v z rest = e at *
  have quiet' : TriadQuiet { s with dev := e } t := by
    refine triadQuiet_of quiet live' (rd _) ?_ ?_ ?_ ?_ ?_
    all_goals rw [show ({ s with dev := e } : State).dev.tile t.val = _ from tile, setRep_rest]
  have out := odd_quiet quiet' 2 ocStitch
  have found := found_odd quiet' 2 ocStitch (by decide)
  rw [← oddVoted_quiet quiet'] at out found
  refine ⟨found.of_base (rd _) role, ?_, out.flagged rfl Nat.zero_lt_one⟩
  rw [out.tile, Tile.without, setRep_rest, show ({ s with dev := e } : State).dev.tile t.val = _ from tile]

/-- A replica whose stitch is missing is odd. -/
theorem stitchTimeout_found {s : State} {t : Fin 144} {w : Nat} {v : DWord} (quiet : TriadQuiet s t)
    (two : (s.dev.tile t.val).stitches = [(0, w, v), (1, w, v)]) :
    FoundOdd s.dev (s.dev.stitchTimeout t 2) t 2 2 ∧
      (s.dev.stitchTimeout t 2).rd (R.TILE_FAULT_VOTER_TIMEOUT t.val) = 1 := by
  have out := odd_quiet quiet 2 ocVoterTimeout
  have found := found_odd quiet 2 ocVoterTimeout (by decide)
  have then_ := oddThen_two quiet ocVoterTimeout two
  obtain ⟨live, three, -⟩ := quiet
  rw [stitchTimeout_odd live (inService_three three 2) two, then_]
  generalize s.dev.odd t.val 2 ocVoterTimeout = e at *
  obtain ⟨regs, role, told, halted, reps⟩ := noteStitch_leaves (e.compared t.val w) t.val w v
  refine ⟨found.of_same regs role told (halted.trans ?_) ((reps 2).trans ?_), ?_⟩
  · rw [Dev.compared, onTile_tile_same]
  · rw [Dev.compared, onTile_tile_same]
    rfl
  · rw [Dev.rd_of_regs regs]
    exact out.flagged rfl Nat.zero_lt_one

/-! ### SRAM errors (R88, R145) -/

/-- An uncorrectable error is shown on a tile that is powered. -/
def Dev.sramShown (d : Dev) (t : Nat) : Dev :=
  d.when (d.lit && d.on (R.TILE_STATUS_POWERED t)) fun d => d.raise (R.TILE_FAULT_SRAM_UNCORR t)

theorem sramUncorr_eq (d : Dev) (t : Fin 144) (r : Fin 3) : d.sramUncorr t r =
    if (d.sramShown t.val).tileLive t.val then (d.sramShown t.val).oddThen t r ocSram else d.sramShown t.val := rfl

theorem sramShown_leaves (d : Dev) (t : Nat) : d.KeepsBeside (d.sramShown t) ∧ (d.sramShown t).tiles = d.tiles ∧
    ∀ g : Fld, (R.TILE_FAULT_SRAM_UNCORR t).separate g → (d.sramShown t).rd g = d.rd g := by
  unfold Dev.sramShown Dev.when
  split
  · exact ⟨.raise .refl, Dev.raise_tiles d _, fun g hg => Dev.rd_wr_other d _ g 1 (of_decide_eq_true rfl) hg⟩
  · exact ⟨.refl, rfl, fun _ _ => rfl⟩

theorem sramShown_live (d : Dev) (t : Nat) : (d.sramShown t).tileLive t = d.tileLive t := by
  obtain ⟨beside, -, others⟩ := sramShown_leaves d t
  have status {g : Fld} (hg : g.off = 0x100000 + t * 0x100) : (d.sramShown t).rd g = d.rd g :=
    others g (.inl (by rw [hg]; simp [R.TILE_FAULT_SRAM_UNCORR]))
  exact tileLive_congr (beside.part_eq Dev.power) (beside.part_eq Dev.role) (status rfl) (serving_congr (status rfl))

/-- An uncorrectable error in a replica in service makes it odd. -/
theorem sramUncorr_found {s : State} {t : Fin 144} (quiet : TriadQuiet s t) (empty : (s.dev.tile t.val).stitches = [])
    (r : Fin 3) : FoundOdd s.dev (s.dev.sramUncorr t r) t r 4 ∧
      (s.dev.sramUncorr t r).rd (R.TILE_FAULT_SRAM_UNCORR t.val) = 1 := by
  obtain ⟨beside, tiles, others⟩ := sramShown_leaves s.dev t.val
  have tile : (s.dev.sramShown t.val).tile t.val = s.dev.tile t.val := by rw [Dev.tile, tiles]; rfl
  have live := sramShown_live s.dev t.val
  rw [sramUncorr_eq, if_pos (live.trans quiet.1)]
  generalize s.dev.sramShown t.val = e at *
  have quiet' : TriadQuiet { s with dev := e } t := by
    refine triadQuiet_of quiet live (others _ (.inl ?_)) ?_ ?_ ?_ ?_ ?_
    · simp [R.TILE_FAULT_SRAM_UNCORR, R.TILE_STATUS_REP_IN]
    all_goals rw [tile]
  have empty' : (e.tile t.val).stitches = [] := by rw [tile, empty]
  have eq : e.oddThen t r ocSram = e.odd t.val r ocSram := oddThen_quiet quiet' r ocSram empty'
  have count : e.rd (misFld t.val r) = s.dev.rd (misFld t.val r) := by
    rw [misFld_eq]
    exact others _ (.inl (by simp [R.TILE_FAULT_SRAM_UNCORR]))
  rw [eq]
  exact ⟨(found_odd quiet' r ocSram (by decide)).of_base count (beside.part_eq Dev.role),
    (odd_quiet quiet' r ocSram).flagged rfl Nat.zero_lt_one⟩

/-- On a tile that takes no part in cycles it is shown alone. -/
theorem sramUncorr_shown {d : Dev} {t : Fin 144} {r : Fin 3} (lit : d.lit = true)
    (powered : d.on (R.TILE_STATUS_POWERED t.val) = true) (idle : d.tileLive t.val = false) :
    SetsOnly d (d.sramUncorr t r) [(R.TILE_FAULT_SRAM_UNCORR t.val, 1)] := by
  have shown : d.sramShown t.val = d.writes [(R.TILE_FAULT_SRAM_UNCORR t.val, 1)] :=
    if_pos (by rw [lit, powered]; rfl)
  rw [sramUncorr_eq, if_neg (by rw [sramShown_live, idle]; decide), shown]
  exact writes_setsOnly_of_small d ⟨by simp [R.TILE_FAULT_SRAM_UNCORR], by simp⟩ (by simp [R.TILE_FAULT_SRAM_UNCORR])

theorem eccFld_eq (t : Nat) (r : Fin 3) : eccFld t r = ⟨0x100014 + t * 0x100, 10 * r.val, 10⟩ := by
  match r with
  | 0 => rfl
  | 1 => rfl
  | 2 => rfl

/-- A corrected error is counted, up to the count's limit. -/
theorem sramCorrected_counts (d : Dev) (t : Nat) (r : Fin 3) :
    SetsOnly d (d.incSat (eccFld t r)) [(eccFld t r, min (d.rd (eccFld t r) + 1) 1023)] := by
  have fit : 10 * r.val + 10 ≤ 32 := by omega
  rw [eccFld_eq]
  refine ⟨⟨?_, fun g hg => ?_⟩, rfl⟩
  · simpa using Dev.rd_incSat d ⟨0x100014 + t * 0x100, 10 * r.val, 10⟩ fit
  · exact Dev.rd_wr_other d _ g _ fit (hg _ List.mem_cons_self)

end Sys2Proof.Machine

end

section
/-! LAWS. Reintegration (R147 to R150): a verified copy puts a halted replica back into service, one that fails its digest
is a finding again. -/

namespace Sys2Proof.Machine

/-! ### The target and the source of a copy -/

theorem haltedRep_of {x : Tile} {r : Fin 3} (halted : x.halted = 2 ^ r.val) : x.haltedRep = some r := by
  rw [Tile.haltedRep, halted]
  clear halted
  decide +revert

theorem copySource_of {d : Dev} {t : Nat} {r : Fin 3} (repIn : d.rd (R.TILE_STATUS_REP_IN t) = 7 - 2 ^ r.val) :
    d.copySource t = some (if r = 0 then 1 else 0) := by
  rw [Dev.copySource, serving_eq, repIn]
  exact (repsIn_others r).2.2

/-- The module with the source's state in the target. -/
def Dev.copied (d : Dev) (t : Nat) (r q : Fin 3) : Dev :=
  (d.onRep t r fun y => y.copyFrom ((d.tile t).rep q)).onTile t fun x =>
    { x with preempted := x.preempted.map fun y => y.copyCore r q }

section
variable (d : Dev) (t : Nat) (r q : Fin 3)

theorem copied_tile : (d.copied t r q).tile t =
    { (d.tile t).setRep r (((d.tile t).rep r).copyFrom ((d.tile t).rep q)) with
      preempted := (d.tile t).preempted.map fun y => y.copyCore r q } := by
  rw [Dev.copied, onTile_tile_same, Dev.onRep, Dev.tile_putTile_same, setRep_rest]

theorem copied_rd (g : Fld) : (d.copied t r q).rd g = d.rd g := by
  rw [Dev.copied, onTile_rd, Dev.onRep_rd]

theorem copied_beside : d.KeepsBeside (d.copied t r q) := .onTile (.onRep .refl)

/-- The target is in service again. -/
def Dev.rejoined : Dev :=
  (((((d.copied t r q).wr (R.TILE_STATUS_REP_IN t) (putBit ((d.copied t r q).rd (R.TILE_STATUS_REP_IN t)) r.val true)).onTile t
    fun x => { x with halted := putBit x.halted r.val false }).drop (R.TILE_STATUS_REINTEGRATING t)).incSat
      R.TRIAD_REINT_COUNT).showTriads

theorem rejoined_beside : d.KeepsBeside (d.rejoined t r q) :=
  .showTriads (.incSat (.drop (.onTile (.wr (copied_beside d t r q)))))

end

theorem finishCopy_ok {d : Dev} {t : Fin 144} {r q : Fin 3} (source : d.copySource t.val = some q) :
    d.finishCopy t r true = d.rejoined t.val r q := by
  unfold Dev.finishCopy
  rw [source]
  rfl

/-! ### A copy that is verified -/

/-- The fields that show a replica back in service. -/
def backShown (t mask count a b : Nat) : List (Fld × Nat) :=
  [(R.TILE_STATUS_REP_IN t, mask), (R.TILE_STATUS_REINTEGRATING t, 0), (R.TRIAD_REINT_COUNT, count),
    (R.TRIAD_DUPLEX_TILES, a), (R.TRIAD_HALTED_TILES, b)]

theorem backShown_tidy (t mask count a b : Nat) : TidyFields ((backShown t mask count a b).map Prod.fst) := by
  simp [TidyFields, backShown, Fld.separate, R.TILE_STATUS_REP_IN, R.TILE_STATUS_REINTEGRATING, R.TRIAD_REINT_COUNT,
    R.TRIAD_DUPLEX_TILES, R.TRIAD_HALTED_TILES]
  omega

theorem rejoin_regs (x : Dev) (t m : Nat) (f : Tile → Tile) : ∃ a b,
    (((((x.wr (R.TILE_STATUS_REP_IN t) m).onTile t f).drop (R.TILE_STATUS_REINTEGRATING t)).incSat
      R.TRIAD_REINT_COUNT).showTriads).regs =
        (x.writes (backShown t m (min ((x.writes [(R.TILE_STATUS_REP_IN t, m), (R.TILE_STATUS_REINTEGRATING t, 0)]).rd
          R.TRIAD_REINT_COUNT + 1) 65535) a b)).regs := ⟨_, _, rfl⟩

theorem rejoined_sets (d : Dev) (t : Nat) (r q : Fin 3) : ∃ a b,
    Sets d (d.rejoined t r q) ((backShown t (putBit (d.rd (R.TILE_STATUS_REP_IN t)) r.val true)
      (min (d.rd R.TRIAD_REINT_COUNT + 1) 65535) a b).map stored) := by
  have count (m : Nat) : ((d.copied t r q).writes [(R.TILE_STATUS_REP_IN t, m), (R.TILE_STATUS_REINTEGRATING t, 0)]).rd
      R.TRIAD_REINT_COUNT = d.rd R.TRIAD_REINT_COUNT := by
    refine (writes_rd_other _ ?_).trans (copied_rd d t r q _)
    simp [Fld.separate, R.TILE_STATUS_REP_IN, R.TILE_STATUS_REINTEGRATING, R.TRIAD_REINT_COUNT]
  obtain ⟨a, b, regs⟩ := rejoin_regs (d.copied t r q) t (putBit ((d.copied t r q).rd (R.TILE_STATUS_REP_IN t)) r.val true)
    fun x => { x with halted := putBit x.halted r.val false }
  rw [count, copied_rd] at regs
  have same : Sets d (d.copied t r q) [] := (sets_nil d).of_regs rfl
  refine ⟨a, b, ?_⟩
  have sets := same.writes _ (backShown_tidy t (putBit (d.rd (R.TILE_STATUS_REP_IN t)) r.val true)
    (min (d.rd R.TRIAD_REINT_COUNT + 1) 65535) a b).1 (backShown_tidy t _ _ a b).2
  exact sets.of_regs ((congrArg Dev.regs (by rw [Dev.rejoined, copied_rd])).trans regs)

theorem rejoined_tile (d : Dev) (t : Nat) (r q : Fin 3) : (d.rejoined t r q).tile t =
    { (d.tile t).setRep r (((d.tile t).rep r).copyFrom ((d.tile t).rep q)) with
      preempted := (d.tile t).preempted.map (fun y => y.copyCore r q)
      halted := putBit (d.tile t).halted r.val false } := by
  rw [Dev.rejoined, showTriads_tile, Dev.incSat, Dev.addSat, Dev.wr_tile, Dev.drop, Dev.wr_tile, onTile_tile_same,
    Dev.wr_tile, copied_tile, setRep_rest]

theorem masks_with (r : Fin 3) : putBit (2 ^ r.val) r.val false = 0 ∧ putBit (7 - 2 ^ r.val) r.val true = 7 ∧
    testBit (2 ^ r.val) r.val = true := by
  decide +revert

/-- A replica that is back in service has the source's state and saved contexts. -/
theorem rejoined_back {d : Dev} {t : Nat} {r : Fin 3} (q : Fin 3) (halted : (d.tile t).halted = 2 ^ r.val)
    (repIn : d.rd (R.TILE_STATUS_REP_IN t) = 7 - 2 ^ r.val) :
    let e := d.rejoined t r q
    (e.tile t).rep r = ((d.tile t).rep r).copyFrom ((d.tile t).rep q) ∧ (e.tile t).halted = 0 ∧
      (e.tile t).preempted = (d.tile t).preempted.map (·.copyCore r q) ∧ e.rd (R.TILE_STATUS_REP_IN t) = 7 ∧
      e.rd (R.TILE_STATUS_REINTEGRATING t) = 0 ∧ e.rd R.TRIAD_REINT_COUNT = min (d.rd R.TRIAD_REINT_COUNT + 1) 65535 ∧
      e.role = d.role := by
  obtain ⟨a, b, sets⟩ := rejoined_sets d t r q
  have tile := rejoined_tile d t r q
  have beside := rejoined_beside d t r q
  rw [repIn, (masks_with r).2.1] at sets
  intro e
  rw [show e = d.rejoined t r q from rfl, tile]
  refine ⟨?_, ?_, rfl, ?_, ?_, ?_, beside.part_eq Dev.role⟩
  · exact (rep_congr rfl rfl rfl r).trans (Tile.rep_setRep_same (d.tile t) r _)
  · exact (congrArg (putBit · r.val false) halted).trans (masks_with r).1
  · exact sets.rd_stored List.mem_cons_self (show 7 < 8 by decide)
  · exact sets.rd_stored (by simp [backShown]) (show 0 < 2 by decide)
  · exact sets.rd_stored (by simp [backShown]) (show _ < 65536 by omega)

/-! ### A copy that fails its digest -/

/-- The module before the finding of a copy that has failed. -/
def Dev.miscopied (d : Dev) (t : Nat) (r q : Fin 3) : Dev :=
  ((d.copied t r q).onRep t r Replica.halt).drop (R.TILE_STATUS_REINTEGRATING t)

theorem finishCopy_bad {d : Dev} {t : Fin 144} {r q : Fin 3} (source : d.copySource t.val = some q)
    (triad : d.rd (R.TILE_STATUS_ROLE t.val) = 1) :
    d.finishCopy t r false = (d.miscopied t.val r q).odd t.val r ocReintVerify := by
  have role : ((d.copied t.val r q).onRep t.val r Replica.halt).rd (R.TILE_STATUS_ROLE t.val) = 1 := by
    rw [Dev.onRep_rd, copied_rd, triad]
  unfold Dev.finishCopy
  rw [source]
  exact if_neg (by
    intro h
    have two : ((d.copied t.val r q).onRep t.val r Replica.halt).rd (R.TILE_STATUS_ROLE t.val) = 2 := h
    omega)

/-- The copy's target is halted still, and is found odd. -/
theorem miscopied_odd {d : Dev} {t : Nat} {r : Fin 3} (q : Fin 3) (halted : (d.tile t).halted = 2 ^ r.val)
    (repIn : d.rd (R.TILE_STATUS_REP_IN t) = 7 - 2 ^ r.val) (fresh : (d.tile t).odd = [])
    (running : d.on (R.TILE_STATUS_STOPPED t) = false) :
    TakenOut (d.miscopied t r q) ((d.miscopied t r q).odd t r ocReintVerify) t r ocReintVerify ∧
      ((d.miscopied t r q).tile t).halted = 2 ^ r.val := by
  obtain ⟨halts, odds⟩ := onRep_record (d.copied t r q) t r Replica.halt
  have record : ((d.miscopied t r q).tile t).halted = 2 ^ r.val ∧ ((d.miscopied t r q).tile t).odd = [] := by
    rw [Dev.miscopied, Dev.drop, Dev.wr_tile, halts, odds, copied_tile, setRep_rest]
    exact ⟨halted, fresh⟩
  have rd {g : Fld} (hg : (R.TILE_STATUS_REINTEGRATING t).separate g) : (d.miscopied t r q).rd g = d.rd g := by
    rw [Dev.miscopied, Dev.drop, Dev.rd_wr_other _ _ _ _ (of_decide_eq_true rfl) hg, Dev.onRep_rd, copied_rd]
  generalize d.miscopied t r q = e at *
  obtain ⟨halted', fresh'⟩ := record
  refine ⟨odd_takenOut ?_ ?_ fresh' ?_ ?_, halted'⟩
  · rw [halted']
    simp [(masks_with r).2.2]
  · rw [Dev.on, rd (.inr (.inl (of_decide_eq_true rfl)))]
    exact running
  · rw [rd (.inr (.inr (of_decide_eq_true rfl))), repIn, (masks_without r).2.2.1]
  · rw [halted', (masks_without r).2.2.2]

/-! ### The end of a copy on a tile (R149, R150) -/

theorem reintegrationDone_eq {d : Dev} {t : Fin 144} {r : Fin 3} (live : d.tileLive t.val = true)
    (triad : d.rd (R.TILE_STATUS_ROLE t.val) = 1) (copying : d.on (R.TILE_STATUS_REINTEGRATING t.val) = true)
    (halted : (d.tile t.val).halted = 2 ^ r.val) (ok : Bool) : d.reintegrationDone t ok = d.finishCopy t r ok := by
  unfold Dev.reintegrationDone
  rw [if_pos (by rw [live, triad, copying]; rfl), haltedRep_of halted]

/-- A loop slot's target takes the source's datapath. -/
def Dev.alignSlot (d : Dev) (r q : Fin 3) (i : SlotImg) : Dev := d.onSlot i.num fun x => x.setRep r (x.rep q)

theorem LoopSlot.rep_setRep_same (x : LoopSlot) (r : Fin 3) (y : LoopRep) : (x.setRep r y).rep r = y := by
  match r with
  | 0 => rfl
  | 1 => rfl
  | 2 => rfl

theorem LoopSlot.rep_setRep_other (x : LoopSlot) {r q : Fin 3} (y : LoopRep) (h : q ≠ r) :
    (x.setRep r y).rep q = x.rep q := by
  match r, q, h with
  | 0, 1, _ | 0, 2, _ | 1, 0, _ | 1, 2, _ | 2, 0, _ | 2, 1, _ => rfl
  | 0, 0, h | 1, 1, h | 2, 2, h => exact absurd rfl h

theorem onSlot_slot (d : Dev) (k n : Nat) (f : LoopSlot → LoopSlot) :
    (d.onSlot k f).slot n = if n = k then f (d.slot k) else d.slot n := by
  rw [Dev.slot, Dev.onSlot, sget_sput]
  rfl

/-- Slots of which the target takes the source's datapath; the source keeps its own, so that a slot may be taken twice. -/
theorem alignSlots_rep {r q : Fin 3} (ne : q ≠ r) (l : List SlotImg) (d : Dev) (n : Nat) :
    ((l.foldl (fun d i => d.alignSlot r q i) d).slot n).rep q = (d.slot n).rep q ∧
      ((l.foldl (fun d i => d.alignSlot r q i) d).slot n).rep r =
        if n ∈ l.map (·.num) then (d.slot n).rep q else (d.slot n).rep r := by
  induction l generalizing d with
  | nil => exact ⟨rfl, rfl⟩
  | cons i l ih =>
    have step : ((d.alignSlot r q i).slot n).rep q = (d.slot n).rep q ∧
        ((d.alignSlot r q i).slot n).rep r = if n = i.num then (d.slot n).rep q else (d.slot n).rep r := by
      rw [Dev.alignSlot, onSlot_slot]
      split
      next h => rw [h]; exact ⟨LoopSlot.rep_setRep_other _ _ ne, LoopSlot.rep_setRep_same _ _ _⟩
      next => exact ⟨rfl, rfl⟩
    obtain ⟨source, target⟩ := ih (d.alignSlot r q i)
    rw [List.foldl_cons, source, target, step.1, step.2, List.map_cons]
    refine ⟨rfl, ?_⟩
    by_cases later : n ∈ l.map (·.num)
    · rw [if_pos later, if_pos (List.mem_cons_of_mem _ later)]
    · rw [if_neg later]
      simp only [List.mem_cons, later, or_false]

/-- Aligning slots changes the loops' record alone. -/
theorem alignSlots_rest (r q : Fin 3) (l : List SlotImg) (d : Dev) :
    d.Keeps (fun x => (x.regs, x.tiles, x.role)) (l.foldl (fun d i => d.alignSlot r q i) d) :=
  .foldl rfl fun _ _ hx => hx

theorem loopReintegrationDone_eq {d : Dev} {t : Fin 144} {r q : Fin 3} {im : Image} (live : d.tileLive t.val = true)
    (loop : d.rd (R.TILE_STATUS_ROLE t.val) = 2) (copying : d.on (R.TILE_STATUS_REINTEGRATING t.val) = true)
    (idle : (d.runningSlot t.val).isNone = true) (halted : (d.tile t.val).halted = 2 ^ r.val)
    (source : d.copySource t.val = some q) (image : d.hrn.image = some im) (ok : Bool) :
    d.loopReintegrationDone t ok = ((im.slots.filter fun i => i.tile = d.rd (R.TILE_POS_LOGICAL t.val)).foldl
      (fun d i => d.alignSlot r q i) d).finishCopy t r ok := by
  unfold Dev.loopReintegrationDone
  rw [if_pos (by rw [live, loop, copying, idle]; rfl), haltedRep_of halted, source, image]
  rfl

end Sys2Proof.Machine

end

section
/-! LAWS. The voter, stitches and reintegration: the obligation (O36). -/

namespace Sys2Proof.Machine

/-! ### The commands' meanings -/

theorem exec_voterEntry (t : Fin 144) (r : Fin 3) (s : State) : exec (.voterEntry t r) s = s.act (·.voterEntry t r) := rfl
theorem exec_voterTimeout (t : Fin 144) (s : State) : exec (.voterTimeout t) s = s.act (·.voterTimeout t) := rfl
theorem exec_eventTimeout (t : Fin 144) (r : Fin 3) (s : State) :
    exec (.eventTimeout t r) s = s.act (·.eventTimeout t r) := rfl
theorem exec_eventDelivery (t : Fin 144) (s : State) : exec (.eventDelivery t) s = s.act (·.eventDelivery t) := rfl
theorem exec_stitchDeliver (t : Fin 144) (r : Fin 3) (s : State) :
    exec (.stitchDeliver t r) s = s.act (·.stitchDeliver t r) := rfl
theorem exec_stitchTimeout (t : Fin 144) (r : Fin 3) (s : State) :
    exec (.stitchTimeout t r) s = s.act (·.stitchTimeout t r) := rfl
theorem exec_sramUncorr (t : Fin 144) (r : Fin 3) (s : State) : exec (.sramUncorr t r) s = s.act (·.sramUncorr t r) := rfl
theorem exec_sramCorrected (t : Fin 144) (r : Fin 3) (s : State) :
    exec (.sramCorrected t r) s = s.act fun d => if d.lit then d.incSat (eccFld t.val r) else d := rfl
theorem exec_reintegrationDone (t : Fin 144) (ok : Bool) (s : State) :
    exec (.reintegrationDone t ok) s = s.act (·.reintegrationDone t ok) := rfl
theorem exec_loopReintegrationDone (t : Fin 144) (ok : Bool) (s : State) :
    exec (.loopReintegrationDone t ok) s = s.act (·.loopReintegrationDone t ok) := rfl

/-! ### The voter and the events -/

section
variable {d : Dev} {t : Fin 144}

/-- What a tile's stop comes to, on a tile that was running. -/
theorem tileStop_of_live (live : d.tileLive t.val = true) (staged : d.mgmt.staged = []) (up : d.committed = false) :
    (d.tileStop t.val).rd (R.TILE_STATUS_STOPPED t.val) = 1 ∧ (d.tileStop t.val).rd (R.TILE_FAULT_DUPLEX_STOP t.val) = 1 ∧
      (d.tileStop t.val).role = .stopped := by
  obtain ⟨-, runs, running, -⟩ := tileLive_iff.1 live
  obtain ⟨stopped, fault, role, -, -⟩ := tileStop_shape running runs false staged up
  exact ⟨stopped, fault, role⟩

/-- The effect that the second of two identical entries issues. -/
theorem voterEntry_stages {q r : Fin 3} {e f : Effect} {es : List Effect} (live : d.tileLive t.val = true)
    (three : d.rd (R.TILE_STATUS_REP_IN t.val) = 7) (running : (d.tile t.val).ended = false) (ne : q ≠ r)
    (one : (d.tile t.val).voter = [(q.val, f)]) (next : f.idx = (d.tile t.val).next)
    (out : ((d.tile t.val).rep r).outbox = e :: es) (same : e.same f = true) (write : e.kind = 1) (abort : e.abort = f.abort)
    (near : ∀ k : Fin 3, (d.tile t.val).next < ((d.tile t.val).rep k).given + 64) :
    let x := d.voterEntry t r
    (x.tile t.val).staged = (d.tile t.val).staged ++ [e] ∧ (x.tile t.val).next = (d.tile t.val).next + 1 ∧
      (x.tile t.val).voter = [] ∧ x = { d with tiles := x.tiles } := by
  obtain rfl := eq_of_same same abort
  obtain ⟨-, -, staged, voter⟩ := receive_rest (d.tile t.val) r e es
  obtain ⟨next', voter', staged', -, -⟩ := issued_tile (d.onTile t.val (·.receive r e es)) t.val e
  rw [onTile_tile_same] at voter' staged'
  rw [voterEntry_issues live (inService_three three r) ne running one next out write near]
  refine ⟨?_, ?_, ?_, issued_rest d t.val _ e⟩
  · rw [staged', staged]
  · rw [next', next]
  · rw [voter', voter, one]
    simp

/-- A task of higher priority pre-empts the run under way. -/
theorem eventDelivery_preempts {run rel : TaskRun} {p : PartImg} (live : d.tileLive t.val = true)
    (three : d.rd (R.TILE_STATUS_REP_IN t.val) = 7) (running : (d.tile t.val).ended = false)
    (fallback : d.on R.CYCLE_STATUS_FALLBACK = true) (idle : (d.tile t.val).event = none)
    (current : (d.tile t.val).current = some run) (part : d.partOf t.val = some p) (next : (d.tile t.val).nextRun p = some rel)
    (before : taskRank p rel.task < taskRank p run.task) (task : (p.task rel.task).isSome = true)
    (all : ∀ k : Fin 3, ((d.tile t.val).rep k).retired = ((d.tile t.val).rep 0).retired ∧
      ((d.tile t.val).rep k).core.running = true) :
    let x := d.eventDelivery t
    (∃ c, (x.tile t.val).current = some c ∧ c.task = rel.task) ∧
      (∃ o ∈ (x.tile t.val).preempted, o.task = run.task ∧
        o.cores = [(d.tile t.val).repA.core, (d.tile t.val).repB.core, (d.tile t.val).repC.core] ∧
        o.staged = (d.tile t.val).staged) ∧ x.regs = d.regs := by
  obtain ⟨e, enters, rest, tile⟩ := eventDelivery_enters live three idle
    (preemptDue_of_before current part next running before) fun k => (all k).1
  obtain ⟨ns, shape⟩ := preempt_shape (d := e) (t := t.val) (run := run) (rel := rel) (p := p) (by rw [tile, current])
    (by rw [rest]; exact part) (by rw [tile, next]) (by rw [tile, running]) before (by rw [rest]; exact fallback) task
    fun k => by rw [tile]; exact (all k).2
  rw [← enters, tile] at shape
  obtain ⟨now, rest'⟩ := Prod.mk.inj shape
  obtain ⟨kept, regs⟩ := Prod.mk.inj rest'
  have ne : run.task ≠ rel.task := fun h => by
    rw [h] at before
    omega
  refine ⟨⟨_, now, rfl⟩, ⟨(d.tile t.val).saved run ns, ?_, rfl, rfl, rfl⟩, regs.trans (by rw [rest])⟩
  rw [kept]
  exact List.mem_filter.2 ⟨List.mem_cons_self, decide_eq_true ne⟩

end

/-! ### Reintegration -/

section
variable {d : Dev} {t : Fin 144} {r q : Fin 3} (live : d.tileLive t.val = true)
  (copying : d.on (R.TILE_STATUS_REINTEGRATING t.val) = true) (halted : (d.tile t.val).halted = 2 ^ r.val)
include live copying halted

/-- A copy that fails its digest is a finding. -/
theorem reintegrationDone_fails (repIn : d.rd (R.TILE_STATUS_REP_IN t.val) = 7 - 2 ^ r.val)
    (triad : d.rd (R.TILE_STATUS_ROLE t.val) = 1)
    (fresh : (d.tile t.val).odd = []) (running : d.on (R.TILE_STATUS_STOPPED t.val) = false) :
    let e := d.reintegrationDone t false
    e.rd R.TRIAD_LAST_CAUSE = 7 ∧ e.rd R.TRIAD_LAST_REPLICA = 2 ^ r.val ∧ (e.tile t.val).halted = 2 ^ r.val ∧
      e.rd (R.TILE_STATUS_REP_IN t.val) = 7 - 2 ^ r.val := by
  have source := copySource_of repIn
  obtain ⟨out, was⟩ := miscopied_odd (if r = 0 then 1 else 0) halted repIn fresh running
  rw [reintegrationDone_eq live triad copying halted, finishCopy_bad source triad]
  refine ⟨out.lastCause (by decide), out.lastReplica, ?_, out.repIn⟩
  rw [out.halted, was, (masks_without r).2.2.2]

/-- A copy to a replica of a LOOP tile brings the source's loop state too. -/
theorem loopReintegrationDone_back {im : Image} (loop : d.rd (R.TILE_STATUS_ROLE t.val) = 2)
    (idle : (d.runningSlot t.val).isNone = true) (image : d.hrn.image = some im) (source : d.copySource t.val = some q)
    (ne : q ≠ r) :
    ∃ x : Dev, d.loopReintegrationDone t true = x.rejoined t.val r q ∧ x.regs = d.regs ∧ x.tiles = d.tiles ∧
      x.role = d.role ∧ ∀ i ∈ im.slots, i.tile = d.rd (R.TILE_POS_LOGICAL t.val) →
        ((d.loopReintegrationDone t true).slot i.num).rep r = (d.slot i.num).rep q := by
  let mine := im.slots.filter fun i => i.tile = d.rd (R.TILE_POS_LOGICAL t.val)
  have rest := alignSlots_rest r q mine d
  have aligned := alignSlots_rep ne mine d
  have shape := loopReintegrationDone_eq live loop copying idle halted source image true
  generalize mine.foldl (fun d i => d.alignSlot r q i) d = x at *
  obtain ⟨regs, rest'⟩ := Prod.mk.inj rest
  obtain ⟨tiles, role⟩ := Prod.mk.inj rest'
  have source' : x.copySource t.val = some q := by
    rw [← source, Dev.copySource, Dev.copySource, serving_congr (Dev.rd_of_regs regs _)]
  rw [show d.loopReintegrationDone t true = x.finishCopy t r true from shape, finishCopy_ok source']
  refine ⟨x, rfl, regs, tiles, role, fun i hi mineTile => ?_⟩
  have slots : (x.rejoined t.val r q).slot i.num = x.slot i.num := by
    rw [Dev.slot, (rejoined_beside x t.val r q).part_eq Dev.loop]
    rfl
  have mem : i.num ∈ mine.map (·.num) := List.mem_map_of_mem (List.mem_filter.2 ⟨hi, decide_eq_true mineTile⟩)
  rw [slots, (aligned i.num).2, if_pos mem]

end

/-- Settles O36: the voter's and the stitch unit's verdicts, each by what it finds on the tile, and the copy by its digest. -/
theorem voterStitchesAndReintegration : Obligations.VoterStitchesAndReintegration := by
  unfold Obligations.VoterStitchesAndReintegration
  refine ⟨?_, ?_⟩
  · intro s t r q e f es run rel p staged up d0 x
    refine ⟨fun quiet out due => answers_act (exec_voterEntry t r s) ?_,
      fun live three running ne one next out same write abort near => answers_act (exec_voterEntry t r s) ?_,
      fun live duplex one next out idx differ => answers_act (exec_voterEntry t 1 s) ?_,
      fun live one next issued => answers_act (exec_voterTimeout t s) ?_,
      fun quiet empty issued missing others => answers_act (exec_voterTimeout t s) ?_,
      fun v quiet empty waits behind => answers_act (exec_eventTimeout t r s) ?_,
      fun v quiet waits behind => answers_act (exec_eventDelivery t s) ?_,
      fun quiet fallback idle current part next before task all => answers_act (exec_eventDelivery t s) ?_⟩
    · obtain ⟨live, three, -, voter, running, -, -⟩ := quiet
      rw [voterEntry_waits live (inService_three three r) out due voter running]
      refine ⟨rfl, fun u hu => onTile_tile_other _ _ _ hu, ?_⟩
      rw [onTile_tile_same, Tile.receive, voter]
      rfl
    · exact voterEntry_stages live three running ne one next out same write abort near
    · rw [voterEntry_stops live duplex one next out idx differ]
      exact tileStop_of_live (d := d0.onTile t.val _) live staged up
    · rw [voterTimeout_stops live one next issued]
      obtain ⟨stopped, -, role⟩ := tileStop_of_live live staged up
      exact ⟨stopped, role⟩
    · rw [voterTimeout_odd quiet.1 quiet.2.1 issued missing others]
      exact found_oddThen quiet r _ empty (by decide)
    · rw [eventTimeout_odd quiet.1 (inService_three quiet.2.1 r) waits behind]
      exact found_oddThen quiet r _ empty (by decide)
    · exact eventDelivery_waits (inService_three quiet.2.1 r) waits behind
    · obtain ⟨live, three, -, -, running, -, -⟩ := quiet
      exact eventDelivery_preempts live three running fallback idle current part next before task all
  · intro s t r q w v z rest im d0 x
    refine ⟨fun quiet triad two closed => answers_act (exec_stitchDeliver t 2 s) ?_,
      fun quiet triad two ne closed => answers_act (exec_stitchDeliver t 2 s) (stitchDeliver_differs quiet triad two ne closed),
      fun quiet two => answers_act (exec_stitchTimeout t 2 s) (stitchTimeout_found quiet two),
      fun quiet empty => answers_act (exec_sramUncorr t r s) (sramUncorr_found quiet empty r),
      fun lit powered idle => answers_act (exec_sramUncorr t r s) (sramUncorr_shown lit powered idle),
      fun lit => answers_act (exec_sramCorrected t r s) ?_, fun live copying halted repIn hq => ?_⟩
    · obtain ⟨live, three, -⟩ := quiet
      rw [stitchDeliver_third live three triad two closed, if_pos rfl]
      exact ⟨third_tile _ _ _ _ _ _ two, third_rest _ _ _ _ _ _⟩
    · rw [if_pos lit]
      exact sramCorrected_counts s.dev t.val r
    · have source := copySource_of repIn
      rw [← hq] at source
      intro back
      refine ⟨fun triad => answers_act (exec_reintegrationDone t true s) ?_,
        fun triad fresh running => answers_act (exec_reintegrationDone t false s) ?_,
        fun loop idle image => answers_act (exec_loopReintegrationDone t true s) ?_⟩
      · rw [reintegrationDone_eq live triad copying halted, finishCopy_ok source]
        exact rejoined_back q halted repIn
      · exact reintegrationDone_fails live copying halted repIn triad fresh running
      · have ne : q ≠ r := by
          rw [hq]
          clear * -
          revert r
          decide
        obtain ⟨e, shape, regs, tiles, role, slots⟩ :=
          loopReintegrationDone_back live copying halted loop idle image source ne
        refine ⟨?_, slots⟩
        have tile : e.tile t.val = s.dev.tile t.val := by rw [Dev.tile, tiles]; rfl
        have rd := Dev.rd_of_regs (d := e) (e := s.dev) regs
        have result := rejoined_back (d := e) q (by rw [tile, halted]) (by rw [rd, repIn])
        rw [← shape, tile, rd, role] at result
        exact result

end Sys2Proof.Machine

end

section
/-! LAWS. Routers (R74 to R78): what a transfer changes, and what it leaves of the replay buffers, the queues and the rest of
the module. -/

namespace Sys2Proof.Machine

/-! ### What switching leaves -/

/-- The module without the flits that wait in routers, the routers' outputs and the free values. -/
def Dev.unswitched (d : Dev) : Dev := { d with fab := { d.fab with queues := [], outs := [] }, free := 0 }

/-- Flits have moved within routers: nothing else has changed. -/
def Dev.Switches (d e : Dev) : Prop := d.Keeps Dev.unswitched e

namespace Dev.Switches

variable {d₀ d : Dev}

theorem part_eq {α : Type} (h : d₀.Switches d) (part : Dev → α)
    (kept : ∀ x : Dev, part x.unswitched = part x := by intro; rfl) : part d = part d₀ := by
  rw [← kept d, show d.unswitched = d₀.unswitched from h, kept d₀]

theorem refl : d.Switches d := Keeps.refl
theorem trans {e : Dev} (h : d₀.Switches d) (h' : d.Switches e) : d₀.Switches e := Eq.trans h' h
theorem ite {c : Prop} [Decidable c] {a b : Dev} (ha : d₀.Switches a) (hb : d₀.Switches b) :
    d₀.Switches (if c then a else b) := Keeps.ite ha hb
theorem foldl {α : Type} {f : Dev → α → Dev} {l : List α} (h : d₀.Switches d)
    (hf : ∀ x a, d₀.Switches x → d₀.Switches (f x a)) : d₀.Switches (l.foldl f d) := Keeps.foldl h hf
theorem each {n f} (h : d₀.Switches d) (hf : ∀ k x, d₀.Switches x → d₀.Switches (f k x)) : d₀.Switches (d.each n f) :=
  Keeps.each h hf

theorem putFlits {t k q} (h : d₀.Switches d) : d₀.Switches (d.putFlits t k q) := h
theorem putOut {t o x} (h : d₀.Switches d) : d₀.Switches (d.putOut t o x) := h
theorem withFree {n} (h : d₀.Switches d) : d₀.Switches { d with free := n } := h

theorem sendFlit {t m} (h : d₀.Switches d) : d₀.Switches (d.sendFlit t m) := .putOut (.ite (.putFlits h) (.putOut (.putFlits h)))

theorem transfer {t out} (h : d₀.Switches d) : d₀.Switches (d.transfer t out) := by
  unfold Dev.transfer
  refine .ite h ?_
  extract_lets
  split
  · exact h
  · exact .withFree (.sendFlit (.ite (.putOut h) h))

theorem pump {t} (h : d₀.Switches d) : d₀.Switches (d.pump t) := .each h fun _ _ hx => .transfer hx

theorem moveReplay {t out} (h : d₀.Switches d) : d₀.Switches (d.moveReplay t out) := .foldl (.putOut h) fun _ _ hx => .putFlits hx

/-- What registers, supply and the other records say is as before. -/
theorem regs (h : d₀.Switches d) : d.regs = d₀.regs := h.part_eq Dev.regs
theorem rd (h : d₀.Switches d) (g : Fld) : d.rd g = d₀.rd g := Dev.rd_of_regs h.regs g
theorem outLost (h : d₀.Switches d) (t o : Nat) : d.outLost t o = d₀.outLost t o := h.part_eq fun x => x.outLost t o
theorem expects (h : d₀.Switches d) (t port : Nat) : d.expects t port = d₀.expects t port := h.part_eq fun x => x.expects t port

/-- Nothing but the fabric's record and the free values changes. -/
theorem rest (h : d₀.Switches d) : d = { d₀ with fab := d.fab, free := d.free } := by
  have kept : d.unswitched = d₀.unswitched := h
  exact congrArg (fun x : Dev => { x with fab := d.fab, free := d.free }) kept

end Dev.Switches

/-! ### The outputs of a router -/

/-- The output with a key. -/
def Dev.outAt (d : Dev) (k : Nat) : FabOut := sget (fun _ => {}) d.fab.outs k

theorem fabOut_eq (d : Dev) (t o : Nat) : d.fabOut t o = d.outAt (t * 8 + o) := rfl

theorem putOut_outAt (d : Dev) (t o : Nat) (x : FabOut) (k : Nat) :
    (d.putOut t o x).outAt k = if k = t * 8 + o then x else d.outAt k := sget_sput _ _ _ _ _

theorem putFlits_outAt (d : Dev) (t k : Nat) (q : FabQueue) (j : Nat) : (d.putFlits t k q).outAt j = d.outAt j := rfl

/-- Who holds an output's channels does not show in its replay buffer. -/
theorem hold_rest (x : FabOut) (chan owner : Nat) (last : Bool) : (x.hold chan owner last).replay = x.replay ∧
    (x.hold chan owner last).next = x.next ∧ (x.hold chan owner last).turn = x.turn := ⟨rfl, rfl, rfl⟩

/-- The output of the packet's own line is held while the packet takes a detour. -/
def Dev.holdLine (d : Dev) (t : Nat) (m : FabMove) : Dev :=
  if m.line = m.out then d
  else d.putOut t m.line ((d.fabOut t m.line).hold (m.key % 2) (m.key / 4) m.hop.last)

theorem holdLine_replay (d : Dev) (t : Nat) (m : FabMove) (k : Nat) :
    ((d.holdLine t m).outAt k).replay = (d.outAt k).replay := by
  unfold Dev.holdLine
  split
  · rfl
  · rw [putOut_outAt]
    split
    next h => rw [h, (hold_rest _ _ _ _).1, fabOut_eq]
    next => rfl

theorem holdLine_out (d : Dev) (t : Nat) (m : FabMove) : (d.holdLine t m).fabOut t m.out = d.fabOut t m.out := by
  unfold Dev.holdLine
  split
  · rfl
  next h => rw [fabOut_eq, putOut_outAt, if_neg (by omega), ← fabOut_eq]

/-- The queue after its head has left. -/
def FabQueue.sent (q : FabQueue) (m : FabMove) : FabQueue :=
  { q with flits := q.flits.drop 1, out := if m.hop.last then none else some m.line }

theorem sendFlit_eq (d : Dev) (t : Nat) (m : FabMove) :
    let e := (d.putFlits t m.key ((d.fabQueue t m.key).sent m)).holdLine t m
    let x := (e.fabOut t m.out).hold m.chan m.owner m.hop.last
    d.sendFlit t m = e.putOut t m.out { x with replay := x.replay ++ [(x.next, m.hop, 0)], next := (x.next + 1) % 256 } := rfl

/-- A flit that goes out joins the replay buffer of its output. -/
theorem sendFlit_out (d : Dev) (t : Nat) (m : FabMove) :
    ((d.sendFlit t m).fabOut t m.out).replay = (d.fabOut t m.out).replay ++ [((d.fabOut t m.out).next, m.hop, 0)] ∧
      ((d.sendFlit t m).fabOut t m.out).next = ((d.fabOut t m.out).next + 1) % 256 ∧
      ((d.sendFlit t m).fabOut t m.out).turn = (d.fabOut t m.out).turn := by
  rw [sendFlit_eq, fabOut_eq, putOut_outAt, if_pos rfl, holdLine_out]
  exact ⟨rfl, rfl, rfl⟩

theorem sendFlit_replay_other (d : Dev) (t : Nat) (m : FabMove) {k : Nat} (h : k ≠ t * 8 + m.out) :
    ((d.sendFlit t m).outAt k).replay = (d.outAt k).replay := by
  rw [sendFlit_eq, putOut_outAt, if_neg h, holdLine_replay, putFlits_outAt]

/-! ### One transfer (R75, R78) -/

/-- The moves that an output takes, of the flits that wait at a router. -/
def Dev.movesTo (d : Dev) (t out : Nat) : List FabMove :=
  (((d.fab.queues.filter (fun p => p.1 / 64 = t)).map (fun p => p.1 % 64)).filterMap (d.fabMove t)).filter
    (fun m => m.out = out && d.moveOpen t m)

/-- Moves of both virtual channels wait. -/
def bothWait (ms : List FabMove) : Bool :=
  !(ms.filter (fun m => m.key % 2 = 0)).isEmpty && !(ms.filter (fun m => m.key % 2 = 1)).isEmpty

/-- The moves among which one goes first: CTRL's seven times in eight, and BULK's the eighth. -/
def firstMoves (ms : List FabMove) (turn : Nat) : List FabMove :=
  if !bothWait ms then ms
  else if turn < 7 then ms.filter (fun m => m.key % 2 = 0) else ms.filter (fun m => m.key % 2 = 1)

/-- The module with the turn of an output counted. -/
def Dev.countTurn (d : Dev) (t out : Nat) (both : Bool) : Dev :=
  if both then
    d.putOut t out { d.fabOut t out with turn := if (d.fabOut t out).turn < 7 then (d.fabOut t out).turn + 1 else 0 }
  else d

theorem transfer_eq (d : Dev) (t out : Nat) : d.transfer t out =
    if 4 ≤ (d.fabOut t out).replay.length || d.outLost t out then d
    else match d.pickMove (firstMoves (d.movesTo t out) (d.fabOut t out).turn) with
      | none => d
      | some m => { (d.countTurn t out (bothWait (d.movesTo t out))).sendFlit t m with
          free := if (firstMoves (d.movesTo t out) (d.fabOut t out).turn).length < 2
            then (d.countTurn t out (bothWait (d.movesTo t out))).free
            else (d.countTurn t out (bothWait (d.movesTo t out))).free + 1 } := rfl

theorem countTurn_at (d : Dev) (t out : Nat) (both : Bool) (k : Nat) :
    ((d.countTurn t out both).outAt k).replay = (d.outAt k).replay ∧
      ((d.countTurn t out both).outAt k).next = (d.outAt k).next := by
  unfold Dev.countTurn
  split
  · rw [putOut_outAt]
    split
    next h => rw [h]; exact ⟨rfl, rfl⟩
    next => exact ⟨rfl, rfl⟩
  · exact ⟨rfl, rfl⟩

theorem pickMove_mem {d : Dev} {ms : List FabMove} {m : FabMove} (h : d.pickMove ms = some m) : m ∈ ms := by
  match ms, h with
  | [a], h => exact List.mem_singleton.2 (Option.some.inj h).symm
  | a :: b :: ms, h =>
    obtain rfl := Option.some.inj h
    cases hk : (a :: b :: ms)[Config.fabPick d.free % (a :: b :: ms).length]? with
    | none => exact List.mem_cons_self
    | some x => exact List.mem_of_getElem? hk

theorem firstMoves_subset (ms : List FabMove) (turn : Nat) : ∀ m ∈ firstMoves ms turn, m ∈ ms := by
  unfold firstMoves
  intro m hm
  split at hm
  · exact hm
  · split at hm
    · exact List.mem_of_mem_filter hm
    · exact List.mem_of_mem_filter hm

theorem movesTo_out {d : Dev} {t out : Nat} {m : FabMove} (h : m ∈ d.movesTo t out) : m.out = out := by
  have := (List.mem_filter.1 h).2
  simp only [Bool.and_eq_true, decide_eq_true_eq] at this
  exact this.1

/-- An output that is full or out of service takes nothing. -/
theorem transfer_shut {d : Dev} {t out : Nat} (shut : 4 ≤ (d.fabOut t out).replay.length ∨ d.outLost t out = true) :
    d.transfer t out = d := by
  rw [transfer_eq, if_pos]
  rcases shut with h | h
  · rw [decide_eq_true h, Bool.true_or]
  · rw [h, Bool.or_true]

/-- Nothing goes out where nothing waits. -/
theorem transfer_idle {d : Dev} {t out : Nat} (idle : d.movesTo t out = []) : d.transfer t out = d := by
  rw [transfer_eq, idle]
  exact ite_self _

section
variable {d : Dev} {t out : Nat} {m : FabMove} (room : (d.fabOut t out).replay.length < 4) (served : d.outLost t out = false)
  (picked : d.pickMove (firstMoves (d.movesTo t out) (d.fabOut t out).turn) = some m)
include room served picked

theorem transfer_picked (k : Nat) : (d.transfer t out).outAt k =
    ((d.countTurn t out (bothWait (d.movesTo t out))).sendFlit t m).outAt k := by
  rw [transfer_eq, if_neg (by simp [room, served]), picked]
  rfl

/-- The output with a flit more. -/
theorem transfer_out : m.out = out ∧
    ((d.transfer t out).fabOut t out).replay = (d.fabOut t out).replay ++ [((d.fabOut t out).next, m.hop, 0)] ∧
    ((d.transfer t out).fabOut t out).next = ((d.fabOut t out).next + 1) % 256 ∧
    ((d.transfer t out).fabOut t out).turn =
      ((d.countTurn t out (bothWait (d.movesTo t out))).fabOut t out).turn := by
  have same : m.out = out := movesTo_out (firstMoves_subset _ _ m (pickMove_mem picked))
  obtain ⟨replay, next⟩ := countTurn_at d t out (bothWait (d.movesTo t out)) (t * 8 + out)
  obtain ⟨replay', next', turn'⟩ := sendFlit_out (d.countTurn t out (bothWait (d.movesTo t out))) t m
  rw [same] at replay' next' turn'
  rw [fabOut_eq (d.transfer t out), transfer_picked room served picked, ← fabOut_eq, replay', next', turn', fabOut_eq, replay,
    next]
  exact ⟨same, rfl, rfl, rfl⟩

theorem transfer_replay_other {k : Nat} (hk : k ≠ t * 8 + out) :
    ((d.transfer t out).outAt k).replay = (d.outAt k).replay := by
  have same : m.out = out := movesTo_out (firstMoves_subset _ _ m (pickMove_mem picked))
  rw [transfer_picked room served picked, sendFlit_replay_other _ t m (by rwa [same]), (countTurn_at d t out _ k).1]

end

/-- A transfer: an output with room, in service, takes one flit, and no other replay buffer changes. -/
theorem transfer_cases (d : Dev) (t out : Nat) : d.transfer t out = d ∨
    ((d.fabOut t out).replay.length < 4 ∧
      (∃ x, ((d.transfer t out).fabOut t out).replay = (d.fabOut t out).replay ++ [x]) ∧
      ∀ k, k ≠ t * 8 + out → ((d.transfer t out).outAt k).replay = (d.outAt k).replay) := by
  by_cases shut : 4 ≤ (d.fabOut t out).replay.length ∨ d.outLost t out = true
  · exact .inl (transfer_shut shut)
  · obtain ⟨room, served⟩ := not_or.1 shut
    rw [not_le] at room
    rw [Bool.not_eq_true] at served
    cases picked : d.pickMove (firstMoves (d.movesTo t out) (d.fabOut t out).turn) with
    | none =>
      left
      rw [transfer_eq, picked]
      exact ite_self _
    | some m =>
      exact .inr ⟨room, ⟨_, (transfer_out room served picked).2.1⟩, fun k => transfer_replay_other room served picked⟩

/-! ### What a router's switching leaves of the replay buffers (R78) -/

/-- A property that every step keeps holds after a repetition. -/
theorem each_holds {P : Dev → Prop} {d : Dev} {n : Nat} {f : Nat → Dev → Dev} (h : P d) (hf : ∀ k x, P x → P (f k x)) :
    P (d.each n f) := List.foldlRecOn _ _ h fun x hx k _ => hf k x hx

/-- Every replay buffer has its four places. -/
def Dev.Roomy (d : Dev) : Prop := ∀ k, (d.outAt k).replay.length ≤ 4

theorem roomy_transfer {d : Dev} (h : d.Roomy) (t out : Nat) : (d.transfer t out).Roomy := by
  rcases transfer_cases d t out with same | ⟨room, ⟨x, sent⟩, others⟩
  · rwa [same]
  · intro k
    by_cases hk : k = t * 8 + out
    · rw [hk, ← fabOut_eq, sent, List.length_append]
      exact room
    · rw [others k hk]
      exact h k

theorem roomy_pump {d : Dev} (h : d.Roomy) (t : Nat) : (d.pump t).Roomy :=
  each_holds h fun k _ hx => roomy_transfer hx t (k % 6)

/-- A replay buffer that no output of the router in service has is left as it is. -/
theorem pump_replay {d : Dev} {t k : Nat} (shut : ∀ out, out < 6 → k = t * 8 + out → d.outLost t out = true) :
    ((d.pump t).outAt k).replay = (d.outAt k).replay := by
  have kept : d.Switches (d.pump t) ∧ ((d.pump t).outAt k).replay = (d.outAt k).replay := by
    refine each_holds (P := fun x => d.Switches x ∧ (x.outAt k).replay = (d.outAt k).replay) ⟨.refl, rfl⟩
      fun j x ⟨switches, same⟩ => ?_
    refine ⟨switches.transfer, ?_⟩
    rcases transfer_cases x t (j % 6) with idle | ⟨room, -, others⟩
    · rw [idle, same]
    · by_cases hk : k = t * 8 + j % 6
      · rw [transfer_shut (.inr ?_), same]
        rw [switches.outLost, shut _ (Nat.mod_lt _ (by decide)) hk]
      · rw [others k hk, same]
  exact kept.2

end Sys2Proof.Machine

end

section
/-! LAWS. The arbitration of the virtual channels, and a header that goes out at once (R74, R75, R78). -/

namespace Sys2Proof.Machine

/-! ### Arbitration (R75) -/

/-- A move is one of the queue that it is asked of. -/
theorem fabMove_key {d : Dev} {t k : Nat} {m : FabMove} (h : d.fabMove t k = some m) : m.key = k := by
  unfold Dev.fabMove at h
  dsimp only at h
  split at h
  · cases h
  · split at h
    · rw [← Option.some.inj h]
    · split at h
      · rw [← Option.some.inj h]
      · split at h
        · rw [← Option.some.inj h]
        · cases h

/-- The queues of a router, by their keys. -/
theorem movesTo_of_keys {d : Dev} {t out : Nat} {l ks : List Nat} (keys : d.fab.queues.map (·.1) = l)
    (own : (l.filter (fun k => k / 64 = t)).map (· % 64) = ks) :
    d.movesTo t out = (ks.filterMap (d.fabMove t)).filter fun m => m.out = out && d.moveOpen t m := by
  rw [Dev.movesTo, ← own, ← keys, List.filter_map, List.map_map]
  rfl

section
variable {d : Dev} {t out p q : Nat} {m n : FabMove} (hp : p < 16) (hq : q < 16)
  (room : (d.fabOut t out).replay.length < 4) (served : d.outLost t out = false)
  (keys : d.fab.queues.map (·.1) = [t * 64 + p * 4, t * 64 + q * 4 + 1]) (ctrl : d.fabMove t (p * 4) = some m)
  (bulk : d.fabMove t (q * 4 + 1) = some n) (mOut : m.out = out) (nOut : n.out = out) (mOpen : d.moveOpen t m = true)
  (nOpen : d.moveOpen t n = true)
include hp hq room served keys ctrl bulk mOut nOut mOpen nOpen

/-- Where both virtual channels wait, CTRL goes first seven times in eight, and BULK the eighth. -/
theorem transfer_both : ((d.transfer t out).fabOut t out).replay =
      (d.fabOut t out).replay ++ [((d.fabOut t out).next, if (d.fabOut t out).turn < 7 then m.hop else n.hop, 0)] ∧
    ((d.transfer t out).fabOut t out).turn = if (d.fabOut t out).turn < 7 then (d.fabOut t out).turn + 1 else 0 := by
  have own : ([t * 64 + p * 4, t * 64 + q * 4 + 1].filter (fun k => k / 64 = t)).map (· % 64) = [p * 4, q * 4 + 1] := by
    have h1 : (t * 64 + p * 4) / 64 = t := by omega
    have h2 : (t * 64 + q * 4 + 1) / 64 = t := by omega
    have h3 : (t * 64 + p * 4) % 64 = p * 4 := by omega
    have h4 : (t * 64 + q * 4 + 1) % 64 = q * 4 + 1 := by omega
    simp [h1, h2, h3, h4]
  have moves : d.movesTo t out = [m, n] := by
    rw [movesTo_of_keys keys own]
    simp [ctrl, bulk, mOut, nOut, mOpen, nOpen]
  have even : m.key % 2 = 0 := by rw [fabMove_key ctrl]; omega
  have odd : n.key % 2 = 1 := by rw [fabMove_key bulk]; omega
  have both : bothWait (d.movesTo t out) = true := by simp [bothWait, moves, even, odd]
  have picked : d.pickMove (firstMoves (d.movesTo t out) (d.fabOut t out).turn) =
      some (if (d.fabOut t out).turn < 7 then m else n) := by
    rw [firstMoves, both, moves]
    by_cases turn : (d.fabOut t out).turn < 7 <;> simp [turn, even, odd, Dev.pickMove]
  obtain ⟨-, replay, -, turn⟩ := transfer_out room served picked
  refine ⟨?_, ?_⟩
  · rw [replay]
    split <;> rfl
  · rw [turn, both, Dev.countTurn, if_pos rfl, fabOut_eq (Dev.putOut _ _ _ _), putOut_outAt, if_pos rfl]

end

/-! ### A router in which one flit waits -/

theorem oput_oput {α : Type} (m : List (Nat × α)) (k : Nat) (v w : α) : oput (oput m k v) k w = oput m k w := by
  induction m with
  | nil => simp [oput]
  | cons p m ih =>
    obtain ⟨a, x⟩ := p
    by_cases before : k < a
    · simp [oput, before]
    · by_cases same : k = a
      · simp [oput, same]
      · simp [oput, before, same, ih]

/-- A key beside those listed, put into a table, is the one of its kind. -/
theorem filter_oput {α : Type} {m : List (Nat × α)} {k : Nat} {v : α} {own : Nat → Bool} (hk : own k = true)
    (others : ∀ p ∈ m, own p.1 = false) : ((oput m k v).filter fun p => own p.1) = [(k, v)] := by
  induction m with
  | nil => simp [oput, hk]
  | cons p m ih =>
    obtain ⟨a, x⟩ := p
    rw [List.forall_mem_cons] at others
    obtain ⟨ha, hm⟩ := others
    have rest : m.filter (fun p => own p.1) = [] := List.filter_eq_nil_iff.2 fun p hp => by rw [hm p hp]; decide
    by_cases before : k < a
    · simp [oput, before, hk, ha, rest]
    · by_cases same : k = a
      · subst same
        rw [hk] at ha
        cases ha
      · simp [oput, before, same, ha, ih hm]

theorem sget_of_unlisted {α : Type} (df : Nat → α) {m : List (Nat × α)} {k : Nat} (h : ∀ p ∈ m, p.1 ≠ k) :
    sget df m k = df k := by
  induction m with
  | nil => rfl
  | cons p m ih =>
    obtain ⟨a, x⟩ := p
    rw [List.forall_mem_cons] at h
    rw [sget, if_neg (Ne.symm h.1), ih h.2]

/-- What is put in place of an unlisted key twice is put once. -/
theorem sput_sput {α : Type} [DecidableEq α] (df : Nat → α) {m : List (Nat × α)} {k : Nat} (v : α) {w : α}
    (unlisted : ∀ p ∈ m, p.1 ≠ k) (set : w ≠ df k) : sput df (sput df m k v) k w = oput m k w := by
  rw [sput, if_neg set, sput]
  split
  · rw [oerase, List.filter_eq_self.2 fun p hp => decide_eq_true (unlisted p hp)]
  · exact oput_oput m k v w

/-! ### A header from a tile's interface (R74) -/

/-- The queue of a tile's interface. -/
def injectKey (flit : FabFlit) : Nat := queueKey 4 (flitBulk flit) false

/-- The expected number moves on, and the channel keeps how many flits of its packet are still to come. -/
def Dev.opened (d : Dev) (t : Nat) (flit : FabFlit) (left : Nat) : Dev :=
  let d := d.onFab fun f => { f with expect := sput (fun _ => 0) f.expect (portKey t 4) ((d.expects t 4 + 1) % 256) }
  (d.putFlits t (injectKey flit) { d.fabQueue t (injectKey flit) with left := left }).onFab
    fun f => { f with rejects := oerase f.rejects (portKey t 4) }

/-- A flit from the tile's interface waits in its queue. -/
def Dev.queued (d : Dev) (t : Nat) (h : FabHop) : Dev :=
  d.putFlits t (injectKey h.flit)
    { d.fabQueue t (injectKey h.flit) with flits := (d.fabQueue t (injectKey h.flit)).flits ++ [h] }

theorem queueFlit_tile (d : Dev) (t : Nat) (flit : FabFlit) (src : Nat) (last : Bool) :
    d.queueFlit t 4 { flit := flit, src := src, last := last } = d.queued t { flit := flit, src := src, last := last } := rfl

theorem acceptFlit_tile (d : Dev) (t : Nat) (h : FabHop) : d.acceptFlit t 4 h =
    ((d.opened t h.flit (flitLeft h.flit (d.fabQueue t (injectKey h.flit)).left)).queueFlit t 4 h).pump t := rfl

theorem opened_queues (d : Dev) (t : Nat) (flit : FabFlit) (left : Nat) : (d.opened t flit left).fab.queues =
    sput (fun _ => {}) d.fab.queues (t * 64 + injectKey flit) { d.fabQueue t (injectKey flit) with left := left } := rfl

theorem queued_queues (d : Dev) (t : Nat) (h : FabHop) : (d.queued t h).fab.queues =
    sput (fun _ => {}) d.fab.queues (t * 64 + injectKey h.flit)
      { d.fabQueue t (injectKey h.flit) with flits := (d.fabQueue t (injectKey h.flit)).flits ++ [h] } := rfl

/-- Beside the queues the outputs are left, and the port expects the next number. -/
theorem opened_leaves (d : Dev) (t : Nat) (flit : FabFlit) (left : Nat) :
    (d.opened t flit left).fab.outs = d.fab.outs ∧ (d.opened t flit left).expects t 4 = (d.expects t 4 + 1) % 256 ∧
      d.opened t flit left = { d with fab := (d.opened t flit left).fab } :=
  ⟨rfl, sget_sput_same _ _ _ _, rfl⟩

theorem queued_leaves (d : Dev) (t : Nat) (h : FabHop) :
    (d.queued t h).fab.outs = d.fab.outs ∧ (d.queued t h).expects t 4 = d.expects t 4 ∧
      d.queued t h = { d with fab := (d.queued t h).fab } := ⟨rfl, rfl, rfl⟩

theorem injectKey_lt (flit : FabFlit) : injectKey flit < 64 ∧ injectKey flit / 4 = 4 := by
  unfold injectKey queueKey bit
  split <;> decide

section
variable {d : Dev} {t : Nat} (empty : ∀ p ∈ d.fab.queues, p.1 / 64 ≠ t)
include empty

theorem fabQueue_empty {k : Nat} (hk : k < 64) : d.fabQueue t k = {} :=
  sget_of_unlisted _ fun p hp same => empty p hp (by omega)

/-- A tile's interface hands a header over when no packet of its channel is open. -/
theorem arriving_header (dest : Fin 144) (io : Bool) (use : FabUse) (len : Fin 16) (seq : Nat) :
    d.arriving t 4 seq (.header dest io use len) =
      some { flit := .header dest io use len, src := t, last := len.val = 0 } := by
  have left : (d.fabQueue t (queueKey 4 (flitBulk (.header dest io use len)) false)).left = 0 := by
    exact congrArg FabQueue.left (fabQueue_empty empty (injectKey_lt (.header dest io use len)).1)
  have entry : d.entryTile t 4 (flitBulk (.header dest io use len)) = t := rfl
  rw [show d.arriving t 4 seq (.header dest io use len) = d.enters t 4 t (.header dest io use len) from rfl, Dev.enters, entry]
  dsimp only
  rw [left, if_pos rfl, if_pos rfl, if_pos rfl]

/-- The first flit of a packet is the one that waits at its router. -/
theorem acceptFlit_enters (h : FabHop) :
    let x := (d.opened t h.flit (flitLeft h.flit (d.fabQueue t (injectKey h.flit)).left)).queued t h
    x.fab.queues = oput d.fab.queues (t * 64 + injectKey h.flit) { flits := [h], left := flitLeft h.flit 0 } ∧
      x.fab.outs = d.fab.outs ∧ x.expects t 4 = (d.expects t 4 + 1) % 256 ∧ x = { d with fab := x.fab } := by
  have unlisted : ∀ p ∈ d.fab.queues, p.1 ≠ t * 64 + injectKey h.flit := fun p hp same => by
    have := (injectKey_lt h.flit).1
    exact empty p hp (by omega)
  have none : d.fabQueue t (injectKey h.flit) = {} := fabQueue_empty empty (injectKey_lt h.flit).1
  rw [none]
  have queues := opened_queues d t h.flit (flitLeft h.flit 0)
  obtain ⟨outs, expects, rest⟩ := opened_leaves d t h.flit (flitLeft h.flit 0)
  dsimp only
  generalize d.opened t h.flit (flitLeft h.flit 0) = y at *
  obtain ⟨outs', expects', rest'⟩ := queued_leaves y t h
  have queue : y.fabQueue t (injectKey h.flit) = { left := flitLeft h.flit 0 } := by
    rw [Dev.fabQueue, queues, sget_sput_same, none]
  refine ⟨?_, outs'.trans outs, expects'.trans expects, ?_⟩
  · rw [queued_queues, queue, queues]
    exact sput_sput _ _ unlisted (by simp)
  · obtain ⟨f, rfl⟩ : ∃ f, y = { d with fab := f } := ⟨_, rest⟩
    exact rest'

end

/-! ### A router in which one flit waits -/

theorem sendFlit_queues (d : Dev) (t : Nat) (m : FabMove) : (d.sendFlit t m).fab.queues =
    sput (fun _ => {}) d.fab.queues (t * 64 + m.key) ((d.fabQueue t m.key).sent m) := by
  rw [sendFlit_eq]
  unfold Dev.holdLine
  split <;> rfl

theorem sendFlit_free (d : Dev) (t : Nat) (m : FabMove) : (d.sendFlit t m).free = d.free := by
  rw [sendFlit_eq]
  unfold Dev.holdLine
  split <;> rfl

theorem firstMoves_one (m : FabMove) (turn : Nat) : bothWait [m] = false ∧ firstMoves [m] turn = [m] := by
  have one : bothWait [m] = false := by
    unfold bothWait
    rcases Nat.mod_two_eq_zero_or_one m.key with h | h <;> simp [h]
  exact ⟨one, by rw [firstMoves, one]; rfl⟩

/-- The one move that waits for an output is made. -/
theorem transfer_one {d : Dev} {t out : Nat} {m : FabMove} (room : (d.fabOut t out).replay.length < 4)
    (served : d.outLost t out = false) (one : d.movesTo t out = [m]) : d.transfer t out = d.sendFlit t m := by
  obtain ⟨single, first⟩ := firstMoves_one m (d.fabOut t out).turn
  rw [transfer_eq, if_neg (by simp [room, served]), one, single, first]
  exact congrArg (fun n => { d.sendFlit t m with free := n }) (sendFlit_free d t m).symm

theorem fabMove_none {d : Dev} {t k : Nat} (empty : (d.fabQueue t k).flits = []) : d.fabMove t k = none := by
  unfold Dev.fabMove
  dsimp only
  rw [empty]

/-- With empty queues nothing waits for any output. -/
theorem movesTo_empty {d : Dev} {t : Nat} (empty : ∀ k, k < 64 → (d.fabQueue t k).flits = []) (out : Nat) :
    d.movesTo t out = [] := by
  have none : ((d.fab.queues.filter (fun p => p.1 / 64 = t)).map (fun p => p.1 % 64)).filterMap (d.fabMove t) = [] := by
    refine List.filterMap_eq_nil_iff.2 fun k hk => ?_
    obtain ⟨p, -, rfl⟩ := List.mem_map.1 hk
    exact fabMove_none (empty _ (Nat.mod_lt _ (by decide)))
  rw [Dev.movesTo, none]
  rfl

/-- A step that one number of a list calls for is made once, and the rest leave what it leads to. -/
theorem foldl_one {α β : Type} {f : β → α → β} {x y : β} {a : α} {l : List α} (mem : a ∈ l) (first : f x a = y)
    (idle : ∀ b, b ≠ a → f x b = x) (done : ∀ b, f y b = y) : l.foldl f x = y := by
  have stay (l : List α) : l.foldl f y = y := by
    induction l with
    | nil => rfl
    | cons b l ih => rw [List.foldl_cons, done, ih]
  induction l with
  | nil => cases mem
  | cons b l ih =>
    rw [List.foldl_cons]
    by_cases same : b = a
    · rw [same, first, stay]
    · rw [idle b same]
      exact ih ((List.mem_cons.1 mem).resolve_left (Ne.symm same))

theorem pump_eq (d : Dev) (t : Nat) : d.pump t = ((List.range 24).map (· % 6)).foldl (fun x o => x.transfer t o) d := by
  rw [List.foldl_map]
  rfl

/-- A router serves each of its six outputs. -/
theorem visited {o : Nat} (low : o < 6) : o ∈ (List.range 24).map (· % 6) := by
  revert o
  decide

section
variable {d : Dev} {t k : Nat} {h : FabHop} {m : FabMove} (hk : k < 64)
  (alone : (d.fab.queues.filter fun p => p.1 / 64 = t).map (·.1) = [t * 64 + k]) (single : (d.fabQueue t k).flits = [h])
  (move : d.fabMove t k = some m)
include hk alone single move

/-- The one flit that waits goes out, and nothing waits after it. -/
theorem pump_one (low : m.out < 6) (free : d.moveOpen t m = true) (room : (d.fabOut t m.out).replay.length < 4)
    (served : d.outLost t m.out = false) : d.pump t = d.sendFlit t m := by
  have keys : (d.fab.queues.filter (fun p => p.1 / 64 = t)).map (fun p => p.1 % 64) = [k] := by
    have low : (t * 64 + k) % 64 = k := by omega
    have mapped := congrArg (List.map (· % 64)) alone
    rw [List.map_map, List.map_singleton, low] at mapped
    exact mapped
  have moves (out : Nat) : d.movesTo t out = if m.out = out then [m] else [] := by
    rw [Dev.movesTo, keys, List.filterMap_cons, move]
    simp [List.filter_cons, free]
  have key : m.key = k := fabMove_key move
  have empty : ∀ j, j < 64 → ((d.sendFlit t m).fabQueue t j).flits = [] := by
    intro j hj
    rw [Dev.fabQueue, sendFlit_queues, sget_sput, key]
    by_cases same : j = k
    · rw [if_pos (by rw [same]), FabQueue.sent, single]
      rfl
    · rw [if_neg (by omega), sget_of_unlisted]
      intro p hp own
      have listed : p.1 ∈ (d.fab.queues.filter fun p => p.1 / 64 = t).map (·.1) :=
        List.mem_map_of_mem (List.mem_filter.2 ⟨hp, decide_eq_true (by omega)⟩)
      rw [alone, List.mem_singleton] at listed
      omega
  rw [pump_eq]
  refine foldl_one (a := m.out) (visited low) (transfer_one room served (by rw [moves, if_pos rfl])) (fun out ne => ?_) fun out => ?_
  · exact transfer_idle (by rw [moves, if_neg (Ne.symm ne)])
  · exact transfer_idle (movesTo_empty empty out)

end

/-! ### The route of a header (R74) -/

/-- Along x to the destination column, then along y, then to its tile. -/
def routeTo (t dest : Nat) : Nat :=
  if t % 12 < dest % 12 then 1 else if dest % 12 < t % 12 then 3
  else if t / 12 < dest / 12 then 0 else if dest / 12 < t / 12 then 2 else 4

theorem routeTo_lt (t dest : Nat) : routeTo t dest < 6 := by
  unfold routeTo
  repeat' split
  all_goals decide

theorem fabRoute_header (d : Dev) (t : Nat) (dest : Fin 144) (use : FabUse) (len : Fin 16) :
    d.fabRoute t (.header dest false use len) = routeTo t dest.val := rfl

section
variable {d x : Dev} {t : Nat} {dest : Fin 144} {use : FabUse} {len : Fin 16} (empty : ∀ p ∈ d.fab.queues, p.1 / 64 ≠ t)
  (queues : x.fab.queues = oput d.fab.queues (t * 64 + injectKey (.header dest false use len))
    { flits := [{ flit := .header dest false use len, src := t, last := len.val = 0 }], left := len.val })
  (outs : x.fab.outs = d.fab.outs) (owners : (d.fabOut t (routeTo t dest.val)).owners = [])
  (served : x.outLost t (routeTo t dest.val) = false)
include queues

theorem entered_queue : x.fabQueue t (injectKey (.header dest false use len)) =
    { flits := [{ flit := .header dest false use len, src := t, last := len.val = 0 }], left := len.val } := by
  rw [Dev.fabQueue, queues, sget_eq_oget, oget_oput_same]
  rfl

/-- The move of a header that waits at the router of its tile. -/
def headerMove (t : Nat) (dest : Fin 144) (use : FabUse) (len : Fin 16) : FabMove :=
  { key := injectKey (.header dest false use len), line := routeTo t dest.val, out := routeTo t dest.val
    chan := injectKey (.header dest false use len) % 2, owner := injectKey (.header dest false use len) / 4
    hop := { flit := .header dest false use len, src := t, last := len.val = 0 } }

include served in
theorem entered_move :
    x.fabMove t (injectKey (.header dest false use len)) = some (headerMove t dest use len) := by
  unfold Dev.fabMove
  rw [entered_queue queues]
  dsimp only [Option.getD_none]
  rw [fabRoute_header]
  exact if_pos (by rw [served]; rfl)

include empty outs owners served in
/-- A header that can go out at once does. -/
theorem entered_pump (room : (d.fabOut t (routeTo t dest.val)).replay.length < 4) :
    x.pump t = x.sendFlit t (headerMove t dest use len) := by
  have out : x.fabOut t (routeTo t dest.val) = d.fabOut t (routeTo t dest.val) := by rw [Dev.fabOut, outs]; rfl
  have alone : (x.fab.queues.filter fun p => p.1 / 64 = t).map (·.1) =
      [t * 64 + injectKey (.header dest false use len)] := by
    have low := (injectKey_lt (.header dest false use len)).1
    rw [queues, filter_oput (own := fun k => decide (k / 64 = t)) (decide_eq_true (by omega)) fun p hp =>
      decide_eq_false (empty p hp)]
    rfl
  refine pump_one (injectKey_lt _).1 alone (congrArg FabQueue.flits (entered_queue queues)) (entered_move queues served)
    (routeTo_lt t dest.val) ?_ ?_ served
  · have free : (x.fabOut t (routeTo t dest.val)).openTo (injectKey (.header dest false use len) % 2)
        (injectKey (.header dest false use len) / 4) = true := by
      rw [out, FabOut.openTo, owners]
      rfl
    rw [Dev.moveOpen]
    exact (Bool.and_eq_true _ _).mpr ⟨free, by simp [headerMove]⟩
  · exact (congrArg (fun y : FabOut => y.replay.length) out).trans_lt room

end

/-- A header that a router can send at once goes out along its route. -/
theorem flitReceive_header {d : Dev} {t : Nat} {dest : Fin 144} {use : FabUse} {len : Fin 16} (lit : d.lit = true)
    (powered : d.on (R.TILE_STATUS_POWERED t) = true) (empty : ∀ p ∈ d.fab.queues, p.1 / 64 ≠ t)
    (owners : (d.fabOut t (routeTo t dest.val)).owners = []) (room : (d.fabOut t (routeTo t dest.val)).replay.length < 4)
    (served : d.outLost t (routeTo t dest.val) = false) :
    let e := d.flitReceive t 4 (d.expects t 4) true (.header dest false use len)
    let x := d.fabOut t (routeTo t dest.val)
    (e.fabOut t (routeTo t dest.val)).replay =
        x.replay ++ [(x.next, { flit := .header dest false use len, src := t, last := len.val = 0 }, 0)] ∧
      (e.fabOut t (routeTo t dest.val)).next = (x.next + 1) % 256 ∧ e.expects t 4 = (d.expects t 4 + 1) % 256 ∧
      e = { d with fab := e.fab } := by
  let h : FabHop := { flit := .header dest false use len, src := t, last := len.val = 0 }
  have received : d.flitReceive t 4 (d.expects t 4) true (.header dest false use len) = d.acceptFlit t 4 h := by
    unfold Dev.flitReceive
    rw [if_neg (by rw [lit, powered]; decide), arriving_header empty]
    exact if_pos (by simp)
  obtain ⟨queues, outs, expects, rest⟩ := acceptFlit_enters empty h
  have accepted := acceptFlit_tile d t h
  rw [queueFlit_tile] at accepted
  rw [received, show d.acceptFlit t 4 h = _ from accepted]
  generalize (d.opened t h.flit (flitLeft h.flit (d.fabQueue t (injectKey h.flit)).left)).queued t h = x at *
  have served' : x.outLost t (routeTo t dest.val) = false := by rw [rest]; exact served
  have switches : x.Switches (x.sendFlit t (headerMove t dest use len)) := .sendFlit .refl
  obtain ⟨replay, next, -⟩ := sendFlit_out x t (headerMove t dest use len)
  have out : x.fabOut t (routeTo t dest.val) = d.fabOut t (routeTo t dest.val) := by rw [Dev.fabOut, outs]; rfl
  rw [show (headerMove t dest use len).out = routeTo t dest.val from rfl, out] at replay next
  dsimp only
  rw [entered_pump empty queues outs owners served' room]
  refine ⟨replay, next, (switches.expects t 4).trans expects, ?_⟩
  have rest' := switches.rest
  rw [sendFlit_free] at rest'
  generalize x.sendFlit t (headerMove t dest use len) = e at *
  obtain ⟨f, rfl⟩ : ∃ f, x = { d with fab := f } := ⟨_, rest⟩
  exact rest'

end Sys2Proof.Machine

end

section
/-! LAWS. Arrival at a port: the flit that is accepted, discarded or rejected (R76 to R79). -/

namespace Sys2Proof.Machine

/-! ### Acceptance -/

/-- The sender's replay buffer lets the expected flit go, or the channel from outside counts it, and both ends move on. -/
def Dev.released (d : Dev) (t port : Nat) (flit : FabFlit) : Dev :=
  let e := d.expects t port
  let d := d.onFab (fun f => { f with expect := sput (fun _ => 0) f.expect (portKey t port) ((e + 1) % 256) })
  match portFrom t port with
  | some (u, o) => d.putOut u o { d.fabOut u o with replay := (d.fabOut u o).replay.filter (fun r => r.1 ≠ e) }
  | none =>
    let u := d.entryTile t port (flitBulk flit)
    let k := queueKey port (flitBulk flit) false
    (d.putFlits u k { d.fabQueue u k with left := flitLeft flit (d.fabQueue u k).left }).onFab
      (fun f => { f with rejects := oerase f.rejects (portKey t port) })

/-- An accepted flit is with the tile's interface or the I/O port, or it waits in the router. -/
def Dev.handed (d : Dev) (t port : Nat) (h : FabHop) : Dev :=
  if port = 5 ∨ port = 7 then d.takeFlit t (port = 7) h else d.queueFlit t port h

/-- The router that sends into a port moves what it can, and then the port's own. -/
def Dev.pumps (d : Dev) (t port : Nat) : Dev :=
  (match portFrom t port with
    | some (u, _) => d.pump u
    | none => d).pump t

theorem acceptFlit_eq (d : Dev) (t port : Nat) (h : FabHop) :
    d.acceptFlit t port h = ((d.released t port h.flit).handed t port h).pumps t port := by
  unfold Dev.acceptFlit Dev.released Dev.handed Dev.pumps
  cases portFrom t port <;> rfl

theorem released_leaves (d : Dev) (t port : Nat) (flit : FabFlit) :
    (d.released t port flit).expects t port = (d.expects t port + 1) % 256 ∧
      (d.released t port flit).fab.rx = d.fab.rx ∧ (d.released t port flit).fab.got = d.fab.got ∧
      d.released t port flit = { d with fab := (d.released t port flit).fab } := by
  unfold Dev.released
  split
  · exact ⟨sget_sput_same _ _ _ _, rfl, rfl, rfl⟩
  · exact ⟨sget_sput_same _ _ _ _, rfl, rfl, rfl⟩

theorem roomy_of_outs {d e : Dev} (h : d.Roomy) (outs : e.fab.outs = d.fab.outs) : e.Roomy := fun k => by
  rw [Dev.outAt, outs]
  exact h k

theorem roomy_putOut {d : Dev} (h : d.Roomy) {t o : Nat} {x : FabOut} (low : x.replay.length ≤ 4) : (d.putOut t o x).Roomy :=
  fun k => by
    rw [putOut_outAt]
    split
    · exact low
    · exact h k

theorem roomy_released {d : Dev} (h : d.Roomy) (t port : Nat) (flit : FabFlit) : (d.released t port flit).Roomy := by
  unfold Dev.released
  split
  next u o _ => exact roomy_putOut (roomy_of_outs h rfl) ((List.length_filter_le _ _).trans (h (u * 8 + o)))
  next => exact roomy_of_outs h rfl

theorem handed_leaves (d : Dev) (t port : Nat) (h : FabHop) :
    (d.handed t port h).fab.outs = d.fab.outs ∧ (d.handed t port h).fab.expect = d.fab.expect ∧
      d.handed t port h = { d with fab := (d.handed t port h).fab } := by
  unfold Dev.handed
  split
  · unfold Dev.takeFlit Dev.onFab
    cases h.last <;> exact ⟨rfl, rfl, rfl⟩
  · exact ⟨rfl, rfl, rfl⟩

/-- With a packet's last flit the tile's interface or the I/O port has the packet. -/
theorem handed_got (d : Dev) {t port : Nat} {h : FabHop} (taken : port = 5 ∨ port = 7) (last : h.last = true) :
    oget (d.handed t port h).fab.got (t * 4 + 2 * bit (port = 7) + bit (flitBulk h.flit)) =
      some (sget (fun _ => []) d.fab.rx (t * 4 + 2 * bit (port = 7) + bit (flitBulk h.flit)) ++ [h]) := by
  rw [Dev.handed, if_pos taken]
  unfold Dev.takeFlit Dev.onFab
  rw [last]
  exact oget_oput_same _ _ _

theorem pumps_switches (d : Dev) (t port : Nat) : d.Switches (d.pumps t port) := by
  unfold Dev.pumps
  split
  · exact Dev.Switches.pump (.pump .refl)
  · exact .pump .refl

theorem roomy_pumps {d : Dev} (h : d.Roomy) (t port : Nat) : (d.pumps t port).Roomy := by
  unfold Dev.pumps
  split
  · exact roomy_pump (roomy_pump h _) _
  · exact roomy_pump h _

theorem roomy_acceptFlit {d : Dev} (h : d.Roomy) (t port : Nat) (hop : FabHop) : (d.acceptFlit t port hop).Roomy := by
  rw [acceptFlit_eq]
  exact roomy_pumps (roomy_of_outs (roomy_released h t port hop.flit) (handed_leaves _ t port hop).1) _ _

/-- What acceptance changes: the expected number, and the fabric's record. -/
theorem acceptFlit_leaves (d : Dev) (t port : Nat) (h : FabHop) :
    (d.acceptFlit t port h).expects t port = (d.expects t port + 1) % 256 ∧
      d.acceptFlit t port h = { d with fab := (d.acceptFlit t port h).fab, free := (d.acceptFlit t port h).free } := by
  rw [acceptFlit_eq]
  obtain ⟨expects, -, -, rest⟩ := released_leaves d t port h.flit
  obtain ⟨-, expect, rest'⟩ := handed_leaves (d.released t port h.flit) t port h
  have switches := pumps_switches ((d.released t port h.flit).handed t port h) t port
  refine ⟨?_, ?_⟩
  · rw [switches.expects, ← expects, Dev.expects, expect]
    rfl
  · have last := switches.rest
    generalize ((d.released t port h.flit).handed t port h).pumps t port = z at *
    generalize (d.released t port h.flit).handed t port h = y at *
    generalize d.released t port h.flit = x at *
    obtain ⟨f, rfl⟩ : ∃ f, x = { d with fab := f } := ⟨_, rest⟩
    obtain ⟨g, rfl⟩ : ∃ g, y = { d with fab := g } := ⟨_, rest'⟩
    exact last

theorem acceptFlit_got (d : Dev) {t port : Nat} {h : FabHop} (taken : port = 5 ∨ port = 7) (last : h.last = true) :
    oget (d.acceptFlit t port h).fab.got (t * 4 + 2 * bit (port = 7) + bit (flitBulk h.flit)) =
      some (sget (fun _ => []) d.fab.rx (t * 4 + 2 * bit (port = 7) + bit (flitBulk h.flit)) ++ [h]) := by
  have switches := pumps_switches ((d.released t port h.flit).handed t port h) t port
  rw [acceptFlit_eq, switches.part_eq fun x => x.fab.got, handed_got _ taken last, (released_leaves d t port h.flit).2.1]

/-! ### Rejection -/

theorem putRejections_leaves (d : Dev) (t port seq n : Nat) :
    (d.putRejections t port seq n).fab.expect = d.fab.expect ∧
      d.putRejections t port seq n = { d with fab := (d.putRejections t port seq n).fab } := by
  unfold Dev.putRejections
  split <;> exact ⟨rfl, rfl⟩

theorem roomy_putRejections {d : Dev} (h : d.Roomy) (t port seq n : Nat) : (d.putRejections t port seq n).Roomy := by
  unfold Dev.putRejections
  split
  next u o _ => exact roomy_putOut h ((List.length_map _).trans_le (h (u * 8 + o)))
  next => exact roomy_of_outs h rfl

/-- The number of a flit in a replay buffer is found with the rejections that have been put. -/
theorem find_counted {l : List (Nat × FabHop × Nat)} {seq : Nat} (n : Nat) :
    (l.map fun e => if e.1 = seq then (e.1, e.2.1, n) else e).find? (fun e => e.1 = seq) =
      (l.find? fun e => e.1 = seq).map fun e => (e.1, e.2.1, n) := by
  induction l with
  | nil => rfl
  | cons e l ih =>
    by_cases same : e.1 = seq
    · simp [same]
    · simp [same, ih]

/-- The counted rejections of a flit that arrives. -/
theorem rejections_put {d : Dev} {t port seq : Nat} {flit : FabFlit} {h : FabHop}
    (arrives : d.arriving t port seq flit = some h) (n : Nat) : (d.putRejections t port seq n).rejections t port seq = n := by
  unfold Dev.arriving at arrives
  unfold Dev.rejections Dev.putRejections
  cases from' : portFrom t port with
  | none =>
    dsimp only [Dev.onFab]
    rw [oget_oput_same]
    exact if_pos rfl
  | some p =>
    rw [from'] at arrives
    dsimp only at arrives ⊢
    obtain ⟨e, found, -⟩ := Option.map_eq_some_iff.1 arrives
    rw [fabOut_eq (Dev.putOut _ _ _ _), putOut_outAt, if_pos rfl, find_counted, found]
    rfl

/-- A fourth rejection shows at the port. -/
theorem rejectedOut_put {d : Dev} {t port seq : Nat} {flit : FabFlit} {h : FabHop}
    (arrives : d.arriving t port seq flit = some h) : (d.putRejections t port seq 4).rejectedOut t port = true := by
  unfold Dev.arriving at arrives
  unfold Dev.rejectedOut Dev.putRejections
  cases from' : portFrom t port with
  | none =>
    dsimp only [Dev.onFab]
    rw [oget_oput_same]
    rfl
  | some p =>
    rw [from'] at arrives
    dsimp only at arrives ⊢
    obtain ⟨e, found, -⟩ := Option.map_eq_some_iff.1 arrives
    have same : e.1 = seq := by simpa using List.find?_some found
    rw [fabOut_eq (Dev.putOut _ _ _ _), putOut_outAt, if_pos rfl, List.any_map, List.any_eq_true]
    exact ⟨e, List.mem_of_find?_eq_some found, by simp [same]⟩

/-! ### What is sent again (R78, R79) -/

/-- The retransmissions are counted at the sending tile and in its cluster. -/
def Dev.countRetry (d : Dev) (t port : Nat) : Dev :=
  match retryTile t port with
  | some u => (d.incSat (R.TILE_RETRY u)).incSat (R.FAB_RETRY (clusterOf u))
  | none => d

theorem sendAgain_leaves (d : Dev) (t port : Nat) :
    (d.sendAgain t port).regs = (d.countRetry t port).regs ∧ (d.sendAgain t port).fab.outs = d.fab.outs ∧
      (d.sendAgain t port).fab.expect = d.fab.expect ∧ (d.sendAgain t port).fab.rejects = d.fab.rejects ∧
      d.sendAgain t port = { d with regs := (d.sendAgain t port).regs, fab := (d.sendAgain t port).fab } := by
  unfold Dev.sendAgain Dev.countRetry
  cases retryTile t port with
  | none =>
    cases againKey t port with
    | none => exact ⟨rfl, rfl, rfl, rfl, rfl⟩
    | some k => exact ⟨rfl, rfl, rfl, rfl, rfl⟩
  | some u =>
    cases againKey t port with
    | none => exact ⟨rfl, rfl, rfl, rfl, rfl⟩
    | some k => exact ⟨rfl, rfl, rfl, rfl, rfl⟩

theorem rejections_of {d e : Dev} (outs : e.fab.outs = d.fab.outs) (rejects : e.fab.rejects = d.fab.rejects)
    (t port seq : Nat) : e.rejections t port seq = d.rejections t port seq := by
  unfold Dev.rejections Dev.fabOut
  rw [outs, rejects]

/-- A router's buffers keep to four places whatever arrives. -/
theorem roomy_flitReceive {d : Dev} (h : d.Roomy) (t port seq : Nat) (ok : Bool) (flit : FabFlit) :
    (d.flitReceive t port seq ok flit).Roomy := by
  unfold Dev.flitReceive
  split
  · exact h
  · split
    · exact h
    next hop _ =>
      dsimp only
      split
      · exact roomy_acceptFlit h t port hop
      · split
        · exact h
        · split
          · exact roomy_of_outs (roomy_putRejections h t port seq _) (sendAgain_leaves _ t port).2.1
          · exact roomy_putRejections h t port seq _

/-! ### The counters of retransmissions -/

theorem clusterOf_lt {t : Nat} (h : t < 144) : clusterOf t < 9 := by
  unfold clusterOf
  omega

theorem portFrom_lt {t port u o : Nat} (h : t < 144) (sender : portFrom t port = some (u, o)) : u < 144 := by
  unfold portFrom at sender
  grind

theorem retryTile_lt {t port u : Nat} (h : t < 144) (counts : retryTile t port = some u) : u < 144 := by
  unfold retryTile at counts
  split at counts
  next v o sender =>
    obtain rfl := Option.some.inj counts
    exact portFrom_lt h sender
  next =>
    split at counts
    · obtain rfl := Option.some.inj counts
      exact h
    · cases counts

/-- The fields that count what is sent again into a port. -/
def Dev.retryCounts (d : Dev) (t port : Nat) : List (Fld × Nat) :=
  match retryTile t port with
  | some u => [(R.TILE_RETRY u, min (d.rd (R.TILE_RETRY u) + 1) (2 ^ 32 - 1)),
      (R.FAB_RETRY (clusterOf u), min (d.rd (R.FAB_RETRY (clusterOf u)) + 1) (2 ^ 32 - 1))]
  | none => []

theorem sets_incSat (d : Dev) (f : Fld) (fit : f.lo + f.wd ≤ 32) :
    Sets d (d.incSat f) [(f, min (d.rd f + 1) (2 ^ f.wd - 1))] := by
  refine ⟨fun p hp => ?_, fun g hg => ?_⟩
  · rw [List.mem_singleton.1 hp]
    exact Dev.rd_incSat d f fit
  · exact Dev.rd_wr_other d f g _ fit (hg _ List.mem_cons_self)

theorem retry_separate {u c : Nat} (h : c < 9) : (R.FAB_RETRY c).separate (R.TILE_RETRY u) :=
  .inl (by simp only [R.FAB_RETRY, R.TILE_RETRY]; omega)

theorem countRetry_fab (d : Dev) (f : FabSt) (t port : Nat) :
    ({ d with fab := f }.countRetry t port).regs = (d.countRetry t port).regs := by
  unfold Dev.countRetry
  split <;> rfl

theorem countRetry_sets (d : Dev) {t port : Nat} (h : t < 144) : Sets d (d.countRetry t port) (d.retryCounts t port) := by
  unfold Dev.countRetry Dev.retryCounts
  cases counts : retryTile t port with
  | none => exact sets_nil d
  | some u =>
    have apart := retry_separate (u := u) (clusterOf_lt (retryTile_lt h counts))
    have first := sets_incSat d (R.TILE_RETRY u) (by simp [R.TILE_RETRY])
    have second := sets_incSat (d.incSat (R.TILE_RETRY u)) (R.FAB_RETRY (clusterOf u)) (by simp [R.FAB_RETRY])
    have kept : (d.incSat (R.TILE_RETRY u)).rd (R.FAB_RETRY (clusterOf u)) = d.rd (R.FAB_RETRY (clusterOf u)) :=
      first.2 _ fun f hf => by
        rw [List.mem_singleton.1 hf]
        exact Fld.separate_symm apart
    rw [kept] at second
    refine first.trans second fun p hp q hq => ?_
    rw [List.mem_singleton.1 hp, List.mem_singleton.1 hq]
    exact apart

/-! ### The receiver's answers (R78) -/

theorem exec_flitReceive (s : State) (t : Fin 144) (port : Fin 8) (seq : Byte) (flit : FabFlit) (ok : Bool) :
    exec (.flitReceive t port ⟨seq, flit⟩ ok) s = s.act (·.flitReceive t.val port.val seq.toNat ok flit) := rfl

section
variable {d : Dev} {t port seq : Nat} {ok : Bool} {flit : FabFlit} {h : FabHop} (lit : d.lit = true)
  (powered : d.on (R.TILE_STATUS_POWERED t) = true) (arrives : d.arriving t port seq flit = some h)
include lit powered arrives

theorem flitReceive_eq : d.flitReceive t port seq ok flit =
    if ok && seq = d.expects t port then d.acceptFlit t port h
    else if ok && 1 ≤ (d.expects t port + 256 - seq) % 256 && (d.expects t port + 256 - seq) % 256 ≤ 4 then d
    else if min 4 (d.rejections t port seq + 1) < 4 then
      (d.putRejections t port seq (min 4 (d.rejections t port seq + 1))).sendAgain t port
    else d.putRejections t port seq (min 4 (d.rejections t port seq + 1)) := by
  unfold Dev.flitReceive
  rw [if_neg (by rw [lit, powered]; decide), arrives]

theorem flitReceive_accepted (good : ok = true) (expected : seq = d.expects t port) :
    d.flitReceive t port seq ok flit = d.acceptFlit t port h := by
  rw [flitReceive_eq lit powered arrives, if_pos (by rw [good, decide_eq_true expected]; rfl)]

theorem flitReceive_discarded (good : ok = true) (other : seq ≠ d.expects t port)
    (low : 1 ≤ (d.expects t port + 256 - seq) % 256) (high : (d.expects t port + 256 - seq) % 256 ≤ 4) :
    d.flitReceive t port seq ok flit = d := by
  rw [flitReceive_eq lit powered arrives, if_neg (by rw [decide_eq_false other]; simp),
    if_pos (by rw [good, decide_eq_true low, decide_eq_true high]; rfl)]

section
variable (bad : ok = false ∨ seq ≠ d.expects t port ∧
  ¬(1 ≤ (d.expects t port + 256 - seq) % 256 ∧ (d.expects t port + 256 - seq) % 256 ≤ 4))
include bad

theorem flitReceive_rejected : d.flitReceive t port seq ok flit =
    if min 4 (d.rejections t port seq + 1) < 4 then
      (d.putRejections t port seq (min 4 (d.rejections t port seq + 1))).sendAgain t port
    else d.putRejections t port seq (min 4 (d.rejections t port seq + 1)) := by
  rw [flitReceive_eq lit powered arrives]
  rcases bad with refused | ⟨other, outside⟩
  · rw [refused, if_neg (by simp), if_neg (by simp)]
  · rw [if_neg (by simp [other]), if_neg]
    rw [Bool.and_assoc, ← Bool.decide_and, decide_eq_false outside]
    simp

/-- A rejection that is not the fourth: the flit is sent again, and the retransmission counted. -/
theorem flitReceive_again (tile : t < 144) (few : d.rejections t port seq < 3) :
    Sets d (d.flitReceive t port seq ok flit) (d.retryCounts t port) ∧
      (d.flitReceive t port seq ok flit).rejections t port seq = d.rejections t port seq + 1 ∧
      (d.flitReceive t port seq ok flit).expects t port = d.expects t port ∧
      d.flitReceive t port seq ok flit =
        { d with regs := (d.flitReceive t port seq ok flit).regs, fab := (d.flitReceive t port seq ok flit).fab } := by
  have next : min 4 (d.rejections t port seq + 1) = d.rejections t port seq + 1 := by omega
  rw [flitReceive_rejected lit powered arrives bad, next, if_pos (by omega)]
  have put := rejections_put arrives (d.rejections t port seq + 1)
  obtain ⟨expect, rest⟩ := putRejections_leaves d t port seq (d.rejections t port seq + 1)
  generalize d.putRejections t port seq (d.rejections t port seq + 1) = x at *
  obtain ⟨regs, outs, expect', rejects, rest'⟩ := sendAgain_leaves x t port
  refine ⟨?_, (rejections_of outs rejects t port seq).trans put, ?_, ?_⟩
  · obtain ⟨f, rfl⟩ : ∃ f, x = { d with fab := f } := ⟨_, rest⟩
    exact (countRetry_sets d tile).of_regs (regs.trans (countRetry_fab d f t port))
  · rw [Dev.expects, expect', expect]
    rfl
  · generalize x.sendAgain t port = y at *
    obtain ⟨f, rfl⟩ : ∃ f, x = { d with fab := f } := ⟨_, rest⟩
    exact rest'

/-- The fourth rejection shows at the port, and nothing is sent again. -/
theorem flitReceive_fourth (three : d.rejections t port seq = 3) :
    d.flitReceive t port seq ok flit = { d with fab := (d.flitReceive t port seq ok flit).fab } ∧
      (d.flitReceive t port seq ok flit).rejectedOut t port = true := by
  rw [flitReceive_rejected lit powered arrives bad, three]
  exact ⟨(putRejections_leaves d t port seq 4).2, rejectedOut_put arrives⟩

end

end

end Sys2Proof.Machine

end

section
/-! LAWS. A link that is out of service: its bit and its ports, its replay buffers and the routes (R79, R81, R82). -/

namespace Sys2Proof.Machine

/-! ### What a link's loss shows -/

/-- The register of a cluster's failed links, or of its degraded ones. -/
def linkFld (degraded : Bool) (n : Nat) : Fld := if degraded then R.FAB_LINK_DEGR n else R.FAB_LINK_FAIL n

/-- The ports at a link's ends, and what they show. -/
def nearFld (t dir : Nat) : Fld := if dir = 0 then R.TILE_PORTS_E t else R.TILE_PORTS_N t
def farFld (t dir : Nat) : Fld := if dir = 0 then R.TILE_PORTS_W (t + 1) else R.TILE_PORTS_S (t + 12)
def portLoss (degraded : Bool) : Nat := if degraded then 1 else 2

/-- The fields that a link's loss sets. -/
def Dev.downs (d : Dev) (t dir : Nat) (degraded : Bool) : List (Fld × Nat) :=
  [(linkFld degraded (clusterOf t), putBit (d.rd (linkFld degraded (clusterOf t))) (linkBit t dir) true),
    (nearFld t dir, portLoss degraded), (farFld t dir, portLoss degraded)]

theorem linkFld_shape (degraded : Bool) (n : Nat) :
    (linkFld degraded n).off = 0x10014 + 4 * bit degraded + n * 0x400 ∧ (linkFld degraded n).lo = 0 ∧
      (linkFld degraded n).wd = 32 := by
  cases degraded
  · exact ⟨by simp [linkFld, R.FAB_LINK_FAIL, bit], rfl, rfl⟩
  · refine ⟨?_, rfl, rfl⟩
    simp only [linkFld, R.FAB_LINK_DEGR, bit]
    simp

theorem nearFld_shape (t dir : Nat) :
    (nearFld t dir).off = 0x100018 + t * 0x100 ∧ (nearFld t dir).lo ≤ 2 ∧ (nearFld t dir).wd = 2 := by
  unfold nearFld
  split
  · exact ⟨rfl, by simp [R.TILE_PORTS_E], rfl⟩
  · exact ⟨rfl, by simp [R.TILE_PORTS_N], rfl⟩

theorem farFld_shape (t dir : Nat) :
    0x100018 ≤ (farFld t dir).off ∧ 4 ≤ (farFld t dir).lo ∧ (farFld t dir).lo ≤ 6 ∧ (farFld t dir).wd = 2 := by
  unfold farFld
  split
  · exact ⟨by simp [R.TILE_PORTS_W], by simp [R.TILE_PORTS_W], by simp [R.TILE_PORTS_W], rfl⟩
  · exact ⟨by simp [R.TILE_PORTS_S], by simp [R.TILE_PORTS_S], by simp [R.TILE_PORTS_S], rfl⟩

theorem linkBit_lt (t : Nat) {dir : Nat} (h : dir < 2) : linkBit t dir < 32 := by
  unfold linkBit
  omega

/-- A link is the one of its cluster and its bit. -/
theorem link_unique {t x dir k : Nat} (ht : t < 144) (hx : x < 144) (hd : dir < 2) (hk : k < 2)
    (cluster : clusterOf x = clusterOf t) (same : linkBit x k = linkBit t dir) : x = t ∧ k = dir := by
  unfold clusterOf at cluster
  unfold linkBit at same
  omega

theorem downLink_eq (d : Dev) (t dir : Nat) (degraded : Bool) :
    let e := d.wr (linkFld degraded (clusterOf t))
      (putBit (d.rd (linkFld degraded (clusterOf t))) (linkBit t dir) true)
    let state := if testBit (e.rd (R.FAB_LINK_FAIL (clusterOf t))) (linkBit t dir) then 2 else 1
    d.downLink t dir degraded = (e.wr (nearFld t dir) state).wr (farFld t dir) state := by
  unfold Dev.downLink nearFld farFld linkFld linkEnd
  by_cases east : dir = 0
  · simp [east]
  · simp [east]

section
variable {t dir : Nat} (tile : t < 144) (low : dir < 2)
include tile low

/-- A link that is lost shows at both ends. -/
theorem downLink_sets (d : Dev) {degraded : Bool}
    (fresh : degraded = true → testBit (d.rd (R.FAB_LINK_FAIL (clusterOf t))) (linkBit t dir) = false) :
    Sets d (d.downLink t dir degraded) (d.downs t dir degraded) := by
  obtain ⟨fOff, fLo, fWd⟩ := linkFld_shape degraded (clusterOf t)
  obtain ⟨nOff, nLo, nWd⟩ := nearFld_shape t dir
  obtain ⟨rOff, rLo, rHi, rWd⟩ := farFld_shape t dir
  have cluster := clusterOf_lt tile
  have bitLow := linkBit_lt t low
  have one : bit degraded < 2 := bit_lt_two degraded
  have small : putBit (d.rd (linkFld degraded (clusterOf t))) (linkBit t dir) true < 2 ^ 32 :=
    putBit_lt true (fWd ▸ d.rd_lt _) bitLow
  have first := (sets_nil d).wr (linkFld degraded (clusterOf t))
    (putBit (d.rd (linkFld degraded (clusterOf t))) (linkBit t dir) true) (by omega) (fun _ h => nomatch h)
  rw [fWd, Nat.mod_eq_of_lt small] at first
  have state : (if testBit ((d.wr (linkFld degraded (clusterOf t)) (putBit (d.rd (linkFld degraded (clusterOf t)))
      (linkBit t dir) true)).rd (R.FAB_LINK_FAIL (clusterOf t))) (linkBit t dir) then 2 else 1) = portLoss degraded := by
    cases degraded with
    | false =>
      rw [show R.FAB_LINK_FAIL (clusterOf t) = linkFld false (clusterOf t) from rfl,
        first.1 _ (List.mem_append_right _ (List.mem_singleton_self _)), testBit_putBit, if_pos rfl]
      rfl
    | true =>
      rw [first.2 (R.FAB_LINK_FAIL (clusterOf t)) fun f hf => ?_, fresh rfl]
      · rfl
      · rw [List.mem_singleton.1 hf]
        exact .inl (by simp [linkFld, R.FAB_LINK_DEGR, R.FAB_LINK_FAIL])
  have shape := downLink_eq d t dir degraded
  dsimp only at shape
  rw [state] at shape
  rw [shape]
  generalize d.wr (linkFld degraded (clusterOf t)) (putBit (d.rd (linkFld degraded (clusterOf t))) (linkBit t dir) true) = e
    at first
  have shown : portLoss degraded < 2 ^ 2 := by unfold portLoss; split <;> decide
  have second := first.wr (nearFld t dir) (portLoss degraded) (by omega) fun p hp => by
    rw [List.mem_singleton.1 hp]
    exact .inl (by dsimp only; omega)
  have third := second.wr (farFld t dir) (portLoss degraded) (by omega) fun p hp => by
    rcases List.mem_pair.1 hp with rfl | rfl
    · exact .inl (by dsimp only; omega)
    · exact .inr (.inr (by dsimp only; omega))
  rw [nWd, rWd, Nat.mod_eq_of_lt shown] at third
  exact third

section
variable {d e : Dev} {degraded : Bool} (sets : Sets d e (d.downs t dir degraded))
include sets

omit low in
/-- A register other than those of the link's loss. -/
theorem downs_other {g : Fld} (other : (linkFld degraded (clusterOf t)).separate g) (high : g.off < 0x100018) :
    e.rd g = d.rd g := by
  obtain ⟨nOff, -, -⟩ := nearFld_shape t dir
  obtain ⟨rOff, -, -, -⟩ := farFld_shape t dir
  refine sets.2 g fun f hf => ?_
  simp only [Dev.downs, List.map_cons, List.map_nil, List.mem_cons, List.not_mem_nil, or_false] at hf
  rcases hf with rfl | rfl | rfl
  · exact other
  · exact .inl (by omega)
  · exact .inl (by omega)

/-- The bit of a link is set by its loss, and that of no other link. -/
theorem downs_bit {x k : Nat} (hx : x < 144) (hk : k < 2) (kind : Bool) :
    testBit (e.rd (linkFld kind (clusterOf x))) (linkBit x k) =
      (testBit (d.rd (linkFld kind (clusterOf x))) (linkBit x k) || decide (kind = degraded ∧ x = t ∧ k = dir)) := by
  obtain ⟨off, lo, wd⟩ := linkFld_shape kind (clusterOf x)
  obtain ⟨off', lo', wd'⟩ := linkFld_shape degraded (clusterOf t)
  have cluster := clusterOf_lt hx
  by_cases same : kind = degraded ∧ clusterOf x = clusterOf t
  · obtain ⟨rfl, cx⟩ := same
    rw [cx, sets.1 _ List.mem_cons_self, testBit_putBit]
    by_cases same : linkBit x k = linkBit t dir
    · obtain ⟨rfl, rfl⟩ := link_unique tile hx low hk cx same
      simp
    · have apart : ¬(x = t ∧ k = dir) := fun ⟨h1, h2⟩ => same (by rw [h1, h2])
      simp [same, apart]
  · have apart : ¬(kind = degraded ∧ x = t ∧ k = dir) := fun ⟨h1, h2, _⟩ => same ⟨h1, by rw [h2]⟩
    rw [downs_other tile sets (.inl ?_) ?_, decide_eq_false apart, Bool.or_false]
    · intro offs
      refine same ?_
      have b1 := bit_lt_two kind
      have b2 := bit_lt_two degraded
      have bits : bit kind = bit degraded ∧ clusterOf x = clusterOf t := by omega
      refine ⟨?_, bits.2⟩
      revert bits
      cases kind <;> cases degraded <;> simp [bit]
    · have b1 := bit_lt_two kind
      omega

/-- A link's loss takes that link out of service, and no other. -/
theorem downs_linkOut {x k : Nat} (hx : x < 144) (hk : k < 2) :
    e.linkOut x k = (d.linkOut x k || decide (x = t ∧ k = dir)) := by
  have failed := downs_bit tile low sets hx hk false
  have degr := downs_bit tile low sets hx hk true
  rw [Dev.linkOut, Dev.linkOut, testBit_or, testBit_or]
  refine (congrArg₂ or failed degr).trans ?_
  change _ = ((testBit (d.rd (linkFld false (clusterOf x))) (linkBit x k) ||
    testBit (d.rd (linkFld true (clusterOf x))) (linkBit x k)) || _)
  cases degraded
  · simp only [true_and, Bool.true_eq_false, false_and, decide_false, Bool.or_false]
    rw [Bool.or_right_comm]
  · simp only [true_and, Bool.false_eq_true, false_and, decide_false, Bool.or_false]
    rw [Bool.or_assoc]

end

end

/-! ### The replay buffers of a lost link (R81) -/

theorem moveReplay_replay (d : Dev) (t out k : Nat) :
    ((d.moveReplay t out).outAt k).replay = if k = t * 8 + out then [] else (d.outAt k).replay := by
  have kept (l : List (Nat × FabHop × Nat)) (x : Dev) (f : FabHop → FabHop) (g : FabHop → Nat) :
      (l.foldl (fun y e => y.putFlits t (g e.2.1)
        { y.fabQueue t (g e.2.1) with flits := (y.fabQueue t (g e.2.1)).flits ++ [f e.2.1] }) x).fab.outs = x.fab.outs :=
    List.foldlRecOn (motive := fun y : Dev => y.fab.outs = x.fab.outs) _ _ rfl fun y hy e _ => hy
  unfold Dev.moveReplay
  dsimp only
  rw [Dev.outAt]
  rw [kept _ _ (fun h => { h with via := detourPath t out ++ h.via
                                  home := if h.via.isEmpty && h.home.isNone then homePort out else h.home })
    fun h => queueKey (8 + out) (flitBulk h.flit) true]
  have put := putOut_outAt d t out { d.fabOut t out with replay := [] } k
  rw [Dev.outAt] at put
  rw [put]
  split <;> rfl

theorem moveReplays_replay (l : List (Nat × Nat)) (d : Dev) {k : Nat}
    (mem : k ∈ l.map fun x => x.1 * 8 + x.2) : ((l.foldl (fun d x => d.moveReplay x.1 x.2) d).outAt k).replay = [] := by
  have stays (l : List (Nat × Nat)) (y : Dev) (h : (y.outAt k).replay = []) :
      ((l.foldl (fun d x => d.moveReplay x.1 x.2) y).outAt k).replay = [] :=
    List.foldlRecOn (motive := fun y : Dev => (y.outAt k).replay = []) _ _ h fun z hz x _ => by
      rw [moveReplay_replay, hz, ite_self]
  induction l generalizing d with
  | nil => cases mem
  | cons x l ih =>
    rw [List.map_cons, List.mem_cons] at mem
    rw [List.foldl_cons]
    rcases mem with rfl | mem
    · exact stays l _ (by rw [moveReplay_replay, if_pos rfl])
    · exact ih _ mem

theorem pumps_replay (l : List (Nat × Nat)) (d : Dev) {k : Nat}
    (shut : ∀ u out, out < 6 → k = u * 8 + out → d.outLost u out = true) :
    ((l.foldl (fun d x => d.pump x.1) d).outAt k).replay = (d.outAt k).replay := by
  have kept : d.Switches (l.foldl (fun d x => d.pump x.1) d) ∧
      ((l.foldl (fun d x => d.pump x.1) d).outAt k).replay = (d.outAt k).replay :=
    List.foldlRecOn (motive := fun y : Dev => d.Switches y ∧ (y.outAt k).replay = (d.outAt k).replay) _ _ ⟨.refl, rfl⟩
      fun y ⟨switches, same⟩ x _ => ⟨switches.pump, by
        rw [pump_replay fun out h own => ?_, same]
        rw [switches.outLost, shut _ out h own]⟩
  exact kept.2

theorem loseLink_switches (d : Dev) (t dir : Nat) (degraded : Bool) :
    (d.downLink t dir degraded).Switches (d.loseLink t dir degraded) :=
  .foldl (.foldl .refl fun _ _ h => .moveReplay h) fun _ _ h => .pump h

/-- The outputs of a link are those whose link it is. -/
theorem portLink_linkOuts {t dir : Nat} (low : dir < 2) (exist : linkExists t dir = true) :
    ∀ x ∈ linkOuts t dir, x.2 < 4 ∧ portLink x.1 x.2 = some (t, dir) := by
  match dir, low with
  | 0, _ =>
    have inner : t % 12 ≠ 11 := of_decide_eq_true exist
    have next : (t + 1) % 12 ≠ 0 := by omega
    rw [show linkOuts t 0 = [(t, 1), (t + 1, 3)] from rfl, List.forall_mem_cons, List.forall_mem_singleton]
    simp [portLink, inner, next]
  | 1, _ =>
    have inner : t / 12 ≠ 11 := of_decide_eq_true exist
    rw [show linkOuts t 1 = [(t, 0), (t + 12, 2)] from rfl, List.forall_mem_cons, List.forall_mem_singleton]
    simp [portLink, inner]

/-- What a lost link's replay buffers held is on its detour. -/
theorem loseLink_replay {d : Dev} {t dir : Nat} {degraded : Bool} (low : dir < 2) (exist : linkExists t dir = true)
    (lost : (d.downLink t dir degraded).linkOut t dir = true) :
    ∀ x ∈ linkOuts t dir, ((d.loseLink t dir degraded).fabOut x.1 x.2).replay = [] := by
  intro x hx
  obtain ⟨small, link⟩ := portLink_linkOuts low exist x hx
  have moved : (d.downLink t dir degraded).Switches
      ((linkOuts t dir).foldl (fun d x => d.moveReplay x.1 x.2) (d.downLink t dir degraded)) :=
    .foldl .refl fun _ _ h => .moveReplay h
  rw [fabOut_eq, Dev.loseLink, pumps_replay]
  · exact moveReplays_replay _ _ (List.mem_map_of_mem (f := fun x : Nat × Nat => x.1 * 8 + x.2) hx)
  · intro u out below own
    obtain ⟨rfl, rfl⟩ : u = x.1 ∧ out = x.2 := by omega
    rw [moved.outLost, Dev.outLost, link]
    exact lost

/-! ### Routes (R82) -/

theorem each_idle {d : Dev} {n : Nat} {f : Nat → Dev → Dev} (idle : ∀ k, k < n → f k d = d) : d.each n f = d := by
  induction n with
  | zero => rfl
  | succ n ih => rw [each_succ, ih fun k h => idle k (by omega), idle n (by omega)]

theorem checkRoutes_idle {d : Dev} (whole : ∀ n, n < 9 → d.routeLostIn n = false) : d.checkRoutes = d :=
  each_idle fun n h => if_neg (by rw [whole n h]; simp)

theorem routeStop_idle {d : Dev} (whole : ∀ n, n < 9 → d.rd (R.FAB_STATUS_ROUTE_LOST n) = 0) : d.routeStop = d := by
  refine if_neg ?_
  have none : ((List.range 9).any fun n => d.on (R.FAB_STATUS_ROUTE_LOST n)) = false :=
    List.any_eq_false.2 fun n hn => by
      rw [Dev.on, whole n (List.mem_range.1 hn)]
      decide
  rw [none]
  simp

/-- The hops of a link's detour are links of the fabric, and not the link itself. -/
theorem detour_tiles {t dir : Nat} (tile : t < 144) (low : dir < 2) (exist : linkExists t dir = true) :
    ∀ x ∈ detour t dir, x.1 < 144 ∧ x.2 < 2 ∧ ¬(x.1 = t ∧ x.2 = dir) := by
  unfold linkExists at exist
  unfold detour
  grind

/-- With one link out of service every route is there. -/
theorem routeLostIn_lone {d : Dev} {t dir : Nat}
    (lone : ∀ x k, x < 144 → k < 2 → d.linkOut x k = true → x = t ∧ k = dir) {n : Nat} (h : n < 9) :
    d.routeLostIn n = false := by
  rw [Dev.routeLostIn, Bool.and_eq_false_iff]
  right
  refine List.any_eq_false.2 fun x hx => ?_
  have tile := ((mem_clusterTiles h).1 hx).1
  rw [List.any_eq_true]
  rintro ⟨k, hk, lost⟩
  have small : k < 2 := by
    rcases List.mem_pair.1 hk with rfl | rfl <;> decide
  simp only [Bool.and_eq_true, List.any_eq_true] at lost
  obtain ⟨⟨exist, out⟩, y, hy, out'⟩ := lost
  obtain ⟨tile', small', other⟩ := detour_tiles tile small exist y hy
  obtain ⟨rfl, rfl⟩ := lone x k tile small out
  exact other (lone y.1 y.2 tile' small' out')

/-- A raised flag of a cluster's lost route, with its event. -/
def Dev.routeStep (n : Nat) (d : Dev) : Dev :=
  if d.routeLostIn n && !d.on (R.FAB_STATUS_ROUTE_LOST n) then
    (d.raise (R.FAB_STATUS_ROUTE_LOST n)).event .routeLost (source 2 n)
  else d

theorem routeStep_eq (n : Nat) (d : Dev) : d.routeStep n =
    if d.routeLostIn n && !d.on (R.FAB_STATUS_ROUTE_LOST n) then
      (d.raise (R.FAB_STATUS_ROUTE_LOST n)).event .routeLost (source 2 n)
    else d := rfl

theorem routeStep_rd_other (n : Nat) (d : Dev) {g : Fld} (other : (R.FAB_STATUS_ROUTE_LOST n).separate g) :
    (d.routeStep n).rd g = d.rd g := by
  rw [routeStep_eq]
  split
  · rw [Dev.event_rd, Dev.raise, Dev.rd_wr_other _ _ _ _ (by simp [R.FAB_STATUS_ROUTE_LOST]) other]
  · rfl

theorem checkRoutes_link (d : Dev) (kind : Bool) (n : Nat) :
    d.checkRoutes.rd (linkFld kind n) = d.rd (linkFld kind n) := by
  obtain ⟨off, -, -⟩ := linkFld_shape kind n
  have low := bit_lt_two kind
  refine each_rd_other (f := Dev.routeStep) (fun j x => routeStep_rd_other j x (.inl ?_)) d 9
  rw [off]
  simp only [R.FAB_STATUS_ROUTE_LOST]
  omega

theorem routeLostIn_routeStep (d : Dev) (n c : Nat) : (d.routeStep n).routeLostIn c = d.routeLostIn c := by
  have failed (m : Nat) : (d.routeStep n).rd (R.FAB_LINK_FAIL m) = d.rd (R.FAB_LINK_FAIL m) :=
    routeStep_rd_other n d (.inl (by simp only [R.FAB_STATUS_ROUTE_LOST, R.FAB_LINK_FAIL]; omega))
  have degr (m : Nat) : (d.routeStep n).rd (R.FAB_LINK_DEGR m) = d.rd (R.FAB_LINK_DEGR m) :=
    routeStep_rd_other n d (.inl (by simp only [R.FAB_STATUS_ROUTE_LOST, R.FAB_LINK_DEGR]; omega))
  simp only [Dev.routeLostIn, Dev.linkOut, failed, degr]

/-- A lost route shows. -/
theorem checkRoutes_lost {d : Dev} {c : Nat} (h : c < 9) (lost : d.routeLostIn c = true) :
    d.checkRoutes.rd (R.FAB_STATUS_ROUTE_LOST c) = 1 := by
  have shows (n : Nat) : (d.each n Dev.routeStep).routeLostIn c = true ∧
      (c < n → (d.each n Dev.routeStep).rd (R.FAB_STATUS_ROUTE_LOST c) = 1) := by
    induction n with
    | zero => exact ⟨lost, fun h => absurd h (Nat.not_lt_zero c)⟩
    | succ n ih =>
      obtain ⟨still, shown⟩ := ih
      rw [each_succ]
      refine ⟨(routeLostIn_routeStep _ n c).trans still, fun below => ?_⟩
      by_cases same : n = c
      · subst same
        rw [routeStep_eq, still]
        split
        · rw [Dev.event_rd]
          exact Dev.rd_raise _ _ (by simp [R.FAB_STATUS_ROUTE_LOST]) (by simp [R.FAB_STATUS_ROUTE_LOST])
        next on =>
          have set : (d.each n Dev.routeStep).on (R.FAB_STATUS_ROUTE_LOST n) = true := by simpa using on
          have low := (d.each n Dev.routeStep).rd_lt (R.FAB_STATUS_ROUTE_LOST n)
          rw [Dev.on, bne_iff_ne] at set
          rw [show (R.FAB_STATUS_ROUTE_LOST n).wd = 1 from rfl] at low
          change (d.each n Dev.routeStep).rd (R.FAB_STATUS_ROUTE_LOST n) = 1
          omega
      · rw [routeStep_rd_other n _ (.inl (by simp only [R.FAB_STATUS_ROUTE_LOST]; omega)), shown (by omega)]
  exact (shows 9).2 h

theorem checkRoutes_beside (d : Dev) : d.KeepsBeside d.checkRoutes :=
  Dev.Keeps.each .refl fun _ _ h => .ite (Dev.KeepsBeside.event (.raise h)) h

end Sys2Proof.Machine

end

section
/-! LAWS. Links that fail or degrade (R79 to R82). -/

namespace Sys2Proof.Machine

theorem exec_linkFailed (s : State) (t : Fin 144) (dir : Fin 4) :
    exec (.linkFailed t dir) s = s.act (·.linkFailed t.val dir.val) := rfl

theorem exec_linkDegraded (s : State) (t : Fin 144) (dir : Fin 4) :
    exec (.linkDegraded t dir) s = s.act (·.linkDegraded t.val dir.val) := rfl

theorem exec_portTimeout (s : State) (t : Fin 144) (port : Fin 6) :
    exec (.portCompletionTimeout t port) s = s.act (·.portTimeout t.val port.val) := rfl

/-- The fields that the loss of a link shows in, while every other link is whole. -/
def linkShown (t dir : Nat) (degraded : Bool) : List (Fld × Nat) :=
  [(linkFld degraded (clusterOf t), 2 ^ linkBit t dir), (nearFld t dir, portLoss degraded), (farFld t dir, portLoss degraded)]

/-- The event of a link's loss, before the routes are checked. -/
def Dev.linkTold (d : Dev) (t dir : Nat) (degraded : Bool) : Dev :=
  if degraded then d.loseLink t dir degraded
  else (d.loseLink t dir degraded).event .linkFailed (source 2 (clusterOf t)) [w32 t, w32 dir]

theorem linkLost_eq (d : Dev) (t dir : Nat) (degraded : Bool) :
    d.linkLost t dir degraded = (d.linkTold t dir degraded).checkRoutes.routeStop := rfl

theorem linkTold_regs (d : Dev) (t dir : Nat) (degraded : Bool) :
    (d.linkTold t dir degraded).regs = (d.downLink t dir degraded).regs ∧
      (d.linkTold t dir degraded).fab = (d.loseLink t dir degraded).fab ∧
      (d.linkTold t dir degraded).power = (d.downLink t dir degraded).power := by
  have switches := loseLink_switches d t dir degraded
  unfold Dev.linkTold
  split
  · exact ⟨switches.regs, rfl, switches.part_eq Dev.power⟩
  · exact ⟨switches.regs, rfl, switches.part_eq Dev.power⟩

theorem linkTold_role (d : Dev) (t dir : Nat) (degraded : Bool) : d.KeepsRole (d.linkTold t dir degraded) :=
  .ite (.loseLink .refl) (.event (.loseLink .refl))

theorem downLink_rest (d : Dev) (t dir : Nat) (degraded : Bool) :
    d.downLink t dir degraded = { d with regs := (d.downLink t dir degraded).regs } := by
  rw [downLink_eq]
  rfl

theorem linkTold_presents (d : Dev) (t dir : Nat) : Presents d (d.linkTold t dir false) [(.linkFailed, source 2 (clusterOf t))] := by
  have switches := loseLink_switches d t dir false
  have quiet : (d.downLink t dir false).evrec = d.evrec := by rw [downLink_rest]
  have same : (d.loseLink t dir false).evrec = d.evrec := (switches.part_eq Dev.evrec).trans quiet
  exact (presents_none d _ (congrArg (·.presented) same)).event .linkFailed (source 2 (clusterOf t)) [w32 t, w32 dir]

/-- While every link is whole and no route is lost. -/
def Dev.Whole (d : Dev) : Prop :=
  ∀ n, n < 9 → (∀ kind, d.rd (linkFld kind n) = 0) ∧ d.rd (R.FAB_STATUS_ROUTE_LOST n) = 0

theorem whole_of (s : State) (h : LinksWhole s) : s.dev.Whole := fun n hn => by
  obtain ⟨failed, degr, routes⟩ := h n hn
  refine ⟨fun kind => ?_, routes⟩
  cases kind
  · exact failed
  · exact degr

theorem linkOut_eq (d : Dev) (x k : Nat) : d.linkOut x k =
    (testBit (d.rd (linkFld false (clusterOf x))) (linkBit x k) || testBit (d.rd (linkFld true (clusterOf x))) (linkBit x k)) :=
  testBit_or _ _ _

theorem testBit_zero (k : Nat) : testBit 0 k = false := by rw [testBit_eq, Nat.zero_testBit]

theorem whole_linkOut {d : Dev} (h : d.Whole) {x : Nat} (hx : x < 144) (k : Nat) : d.linkOut x k = false := by
  have none := (h _ (clusterOf_lt hx)).1
  rw [linkOut_eq, none, none, testBit_zero]
  rfl

theorem putBit_zero (k : Nat) : putBit 0 k true = 2 ^ k := by
  simp [putBit, bit]

theorem nearFld_fin (t : Nat) (dir : Fin 2) :
    (if dir = 0 then R.TILE_PORTS_E t else R.TILE_PORTS_N t) = nearFld t dir.val ∧
      (if dir = 0 then R.TILE_PORTS_W (t + 1) else R.TILE_PORTS_S (t + 12)) = farFld t dir.val := by
  match dir with
  | 0 => exact ⟨rfl, rfl⟩
  | 1 => exact ⟨rfl, rfl⟩

section
variable {d : Dev} {t dir : Nat} {degraded : Bool} (tile : t < 144) (low : dir < 2)
include tile low

theorem linkTold_sets (fresh : degraded = true → testBit (d.rd (R.FAB_LINK_FAIL (clusterOf t))) (linkBit t dir) = false) :
    Sets d (d.linkTold t dir degraded) (d.downs t dir degraded) :=
  (downLink_sets tile low d fresh).of_regs (linkTold_regs d t dir degraded).1

theorem linkTold_replay (fresh : degraded = true → testBit (d.rd (R.FAB_LINK_FAIL (clusterOf t))) (linkBit t dir) = false)
    (exist : linkExists t dir = true) :
    ∀ x ∈ linkOuts t dir, ((d.linkTold t dir degraded).fabOut x.1 x.2).replay = [] := by
  have lost : (d.downLink t dir degraded).linkOut t dir = true := by
    rw [downs_linkOut tile low (downLink_sets tile low d fresh) tile low]
    simp
  intro x hx
  rw [Dev.fabOut, (linkTold_regs d t dir degraded).2.1]
  exact loseLink_replay low exist lost x hx

section
variable (whole : d.Whole) (exist : linkExists t dir = true)
include whole

omit low in
theorem whole_fresh : degraded = true → testBit (d.rd (R.FAB_LINK_FAIL (clusterOf t))) (linkBit t dir) = false := by
  intro _
  have none := (whole _ (clusterOf_lt tile)).1 false
  rw [show R.FAB_LINK_FAIL (clusterOf t) = linkFld false (clusterOf t) from rfl, none, testBit_zero]

/-- The first link that is lost leaves every route. -/
theorem linkLost_whole_eq : d.linkLost t dir degraded = d.linkTold t dir degraded := by
  have sets := linkTold_sets (degraded := degraded) tile low (whole_fresh tile whole)
  have lone (x k : Nat) (hx : x < 144) (hk : k < 2) (out : (d.linkTold t dir degraded).linkOut x k = true) :
      x = t ∧ k = dir := by
    rw [downs_linkOut tile low sets hx hk, whole_linkOut whole hx, Bool.false_or] at out
    exact of_decide_eq_true out
  rw [linkLost_eq, checkRoutes_idle fun n h => routeLostIn_lone lone h, routeStop_idle fun n h => ?_]
  obtain ⟨off, -, -⟩ := linkFld_shape degraded (clusterOf t)
  have cluster := clusterOf_lt tile
  rw [downs_other tile sets (.inl ?_) ?_, (whole n h).2]
  · rw [off]
    have bits := bit_lt_two degraded
    simp only [R.FAB_STATUS_ROUTE_LOST]
    omega
  · simp only [R.FAB_STATUS_ROUTE_LOST]
    omega

theorem linkLost_whole_sets : Sets d (d.linkLost t dir degraded) (linkShown t dir degraded) := by
  have sets := linkTold_sets (degraded := degraded) tile low (whole_fresh tile whole)
  rw [linkLost_whole_eq tile low whole]
  rwa [Dev.downs, (whole _ (clusterOf_lt tile)).1 degraded, putBit_zero] at sets

include exist in
/-- What a link's replay buffers held is on its detour. -/
theorem linkLost_whole_replay : ∀ x ∈ linkOuts t dir, ((d.linkLost t dir degraded).fabOut x.1 x.2).replay = [] := by
  rw [linkLost_whole_eq tile low whole]
  exact linkTold_replay tile low (whole_fresh tile whole) exist

/-- A link that fails while the others are whole. -/
theorem linkLost_failed : Presents d (d.linkLost t dir false) [(.linkFailed, source 2 (clusterOf t))] ∧
    (d.linkLost t dir false).role = d.role := by
  rw [linkLost_whole_eq tile low whole]
  exact ⟨linkTold_presents d t dir, congrArg Prod.fst (linkTold_role d t dir false)⟩

/-- A link that degrades while the others are whole. -/
theorem linkLost_degraded : d.linkLost t dir true =
    { d with regs := (d.linkLost t dir true).regs, fab := (d.linkLost t dir true).fab, free := (d.linkLost t dir true).free } := by
  rw [linkLost_whole_eq tile low whole, show d.linkTold t dir true = d.loseLink t dir true from rfl]
  have rest := downLink_rest d t dir true
  have switches := loseLink_switches d t dir true
  have regs := switches.regs
  have rest' := switches.rest
  generalize d.loseLink t dir true = y at *
  generalize d.downLink t dir true = x at *
  obtain ⟨r, rfl⟩ : ∃ r, x = { d with regs := r } := ⟨_, rest⟩
  exact rest'.trans (by rw [regs])

end

end

/-! ### The commands that lose a link -/

section
variable {d : Dev} {t dir : Nat} (lit : d.lit = true) (low : dir < 2) (exist : linkExists t dir = true)
include lit low exist

/-- A flit that has been rejected four times in a row fails its link. -/
theorem linkFailed_eq (fresh : testBit (d.rd (R.FAB_LINK_FAIL (clusterOf t))) (linkBit t dir) = false)
    (rejected : ∃ p ∈ linkPorts t dir, d.rejectedOut p.1 p.2 = true) : d.linkFailed t dir = d.linkLost t dir false := by
  have any : ((linkPorts t dir).any fun p => d.rejectedOut p.1 p.2) = true := List.any_eq_true.2 rejected
  unfold Dev.linkFailed
  rw [if_neg (by rw [lit, any]; decide), if_neg (by omega), if_neg (by omega), if_pos (by rw [exist, fresh]; rfl)]

/-- More than 64 retransmissions within 1 ms degrade a link. -/
theorem linkDegraded_eq (fresh : d.linkOut t dir = false)
    (many : 64 < (((oget d.fab.again (t * 2 + dir)).getD []).filter (fun x => d.since x ≤ 1000000)).length) :
    d.linkDegraded t dir = d.linkLost t dir true := by
  unfold Dev.linkDegraded
  rw [if_neg (by omega : ¬dir = 3)]
  dsimp only
  rw [if_neg, if_neg (by omega), if_pos (by rw [exist, fresh]; rfl)]
  rw [lit, decide_eq_false (by omega : ¬_ ≤ 64), decide_eq_false (by omega : ¬dir = 2)]
  decide

/-- A completion that is missing fails the link of its port. -/
theorem portTimeout_eq (powered : d.on (R.TILE_STATUS_POWERED t) = true)
    (fresh : testBit (d.rd (R.FAB_LINK_FAIL (clusterOf t))) (linkBit t dir) = false) :
    d.portTimeout t (if dir = 0 then 1 else 0) = d.linkLost t dir false := by
  have link : portLink t (if dir = 0 then 1 else 0) = some (t, dir) := by
    match dir, low with
    | 0, _ => exact if_neg (of_decide_eq_true exist)
    | 1, _ => exact if_neg (of_decide_eq_true exist)
  have port : (if dir = 0 then 1 else 0) < 2 := by split <;> decide
  generalize (if dir = 0 then 1 else 0) = port at *
  unfold Dev.portTimeout
  rw [if_neg (by rw [lit, powered]; decide), if_neg (by omega), if_neg (by omega), link]
  exact if_neg (by rw [fresh]; decide)

end

/-! ### A route that is lost (R82) -/

section
variable {d : Dev} {t dir : Nat} (tile : t < 144) (low : dir < 2) (exist : linkExists t dir = true)
include tile low exist

/-- A link whose detour is out of service is a route that is lost. -/
theorem linkTold_routeLost (detours : ∃ p ∈ detour t dir, d.linkOut p.1 p.2 = true) :
    (d.linkTold t dir false).routeLostIn (clusterOf t) = true := by
  have sets := linkTold_sets (d := d) (degraded := false) tile low fun h => nomatch h
  obtain ⟨p, hp, out⟩ := detours
  obtain ⟨tile', low', -⟩ := detour_tiles tile low exist p hp
  have own : (d.linkTold t dir false).linkOut t dir = true := by
    rw [downs_linkOut tile low sets tile low]
    simp
  have its : (d.linkTold t dir false).linkOut p.1 p.2 = true := by rw [downs_linkOut tile low sets tile' low', out, Bool.true_or]
  have set : testBit ((d.linkTold t dir false).rd (R.FAB_LINK_FAIL (clusterOf t))) (linkBit t dir) = true := by
    have bit := downs_bit tile low sets tile low false
    rw [decide_eq_true (by simp), Bool.or_true] at bit
    exact bit
  have some : (d.linkTold t dir false).rd (R.FAB_LINK_FAIL (clusterOf t)) ≠ 0 := by
    intro none
    rw [none, testBit_zero] at set
    cases set
  rw [Dev.routeLostIn, Bool.and_eq_true]
  have own_tile := (mem_clusterTiles (clusterOf_lt tile)).2 ⟨tile, rfl⟩
  refine ⟨by rw [bne_iff_ne.2 some, Bool.true_or], List.any_eq_true.2 ⟨t, own_tile, ?_⟩⟩
  refine List.any_eq_true.2 ⟨dir, List.mem_pair.2 (by omega), ?_⟩
  rw [exist, own]
  exact List.any_eq_true.2 ⟨p, hp, its⟩

/-- A lost route stops the module. -/
theorem linkLost_stops (detours : ∃ p ∈ detour t dir, d.linkOut p.1 p.2 = true) (staged : d.mgmt.staged = [])
    (role : d.role ≠ .stopped) (live : d.committed = false) :
    (d.linkLost t dir false).role = .stopped ∧ (d.linkLost t dir false).rd (R.FAB_STATUS_ROUTE_LOST (clusterOf t)) = 1 := by
  have cluster := clusterOf_lt tile
  have shown := checkRoutes_lost cluster (linkTold_routeLost tile low exist detours)
  have kept : d.KeepsRole (d.linkTold t dir false).checkRoutes := .checkRoutes (linkTold_role d t dir false)
  have power : (d.linkTold t dir false).checkRoutes.power = d.power := by
    rw [(checkRoutes_beside _).part_eq Dev.power, (linkTold_regs d t dir false).2.2, downLink_rest]
  rw [linkLost_eq]
  generalize (d.linkTold t dir false).checkRoutes = e at *
  have role' : e.role ≠ .stopped := by rwa [show e.role = d.role from congrArg Prod.fst kept]
  have staged' : e.mgmt.staged = [] := (show e.mgmt.staged = d.mgmt.staged from congrArg Prod.snd kept).trans staged
  have live' : e.committed = false := by rwa [Dev.committed, power, ← Dev.committed]
  have stops : e.routeStop = e.goStopped := by
    refine if_pos ?_
    rw [Bool.and_eq_true]
    refine ⟨List.any_eq_true.2 ⟨clusterOf t, List.mem_range.2 cluster, ?_⟩, by simpa using role'⟩
    rw [Dev.on, shown]
    decide
  rw [stops, goStopped_rd staged' (.inr (.inr (.inr (.inr ⟨?_, ?_⟩)))), shown]
  · exact ⟨goStopped_role_of_live staged' role' live', rfl⟩
  · simp only [R.FAB_STATUS_ROUTE_LOST]
    omega
  · simp only [R.FAB_STATUS_ROUTE_LOST]
    omega

end

end Sys2Proof.Machine

end

section
/-! LAWS. The injection and ejection pair, the I/O port and the link test (R77, R79, R80, R87). -/

namespace Sys2Proof.Machine

/-! ### The injection and ejection pair (R80) -/

section
variable {d : Dev} {t : Fin 144}

theorem committed_wr (d : Dev) (f : Fld) (v : Nat) : (d.wr f v).committed = d.committed := rfl

theorem portPair_running (running : d.on (R.TILE_STATUS_STOPPED t.val) = false) :
    (d.wr (R.TILE_PORTS_INJ_EJ t.val) 2).on (R.TILE_STATUS_STOPPED t.val) = false := by
  rw [← running, Dev.on, Dev.on, Dev.rd_wr_other _ _ _ _ (by simp [R.TILE_PORTS_INJ_EJ])
    (.inl (by simp [R.TILE_PORTS_INJ_EJ, R.TILE_STATUS_STOPPED]))]

/-- A tile's own part of its stop leaves what its ports show. -/
theorem tileHalt_ports (d : Dev) (t : Nat) : (d.tileHalt t true).rd (R.TILE_PORTS_INJ_EJ t) = d.rd (R.TILE_PORTS_INJ_EJ t) := by
  rw [Dev.tileHalt, Dev.event_rd, onTile_rd, writes_rd_other d fun p hp => ?_]
  rcases List.mem_pair.1 hp with rfl | rfl
  · exact ⟨by simp [R.TILE_FAULT_PORT_FAULT], .inl (by simp [R.TILE_FAULT_PORT_FAULT, R.TILE_PORTS_INJ_EJ])⟩
  · exact ⟨by simp [R.TILE_STATUS_STOPPED], .inl (by simp [R.TILE_STATUS_STOPPED, R.TILE_PORTS_INJ_EJ])⟩

/-- A tile whose injection or ejection lane has failed stops, and a module that runs with it. -/
theorem portStop_stops (running : d.on (R.TILE_STATUS_STOPPED t.val) = false) (staged : d.mgmt.staged = [])
    (live : d.committed = false) :
    (d.portStop t.val).rd (R.TILE_PORTS_INJ_EJ t.val) = 2 ∧ (d.portStop t.val).rd (R.TILE_STATUS_STOPPED t.val) = 1 ∧
      (d.portStop t.val).rd (R.TILE_FAULT_PORT_FAULT t.val) = 1 ∧ (d.portStop t.val).role.runs = false := by
  have running' := portPair_running running
  have failed : (d.wr (R.TILE_PORTS_INJ_EJ t.val) 2).rd (R.TILE_PORTS_INJ_EJ t.val) = 2 := by
    rw [Dev.rd_wr_same _ _ _ (by simp [R.TILE_PORTS_INJ_EJ])]
    rfl
  have ports := (tileHalt_ports (d.wr (R.TILE_PORTS_INJ_EJ t.val) 2) t.val).trans failed
  have staged' : (d.wr (R.TILE_PORTS_INJ_EJ t.val) 2).mgmt.staged = [] := staged
  have live' : (d.wr (R.TILE_PORTS_INJ_EJ t.val) 2).committed = false := (committed_wr d _ 2).trans live
  rw [Dev.portStop]
  generalize d.wr (R.TILE_PORTS_INJ_EJ t.val) 2 = x at *
  cases runs : x.role.runs with
  | true =>
    obtain ⟨stopped, fault, role, lasting, -⟩ := tileStop_shape running' runs true staged' live'
    refine ⟨?_, stopped, fault, by rw [role]; rfl⟩
    rw [lasting _ (tileFld_lasting t (by simp [R.TILE_PORTS_INJ_EJ]) (by simp [R.TILE_PORTS_INJ_EJ]; omega)), ports]
  | false =>
    obtain ⟨stopped, fault⟩ := tileHalt_rd x t.val true
    rw [tileStop_halts running' true, runs]
    refine ⟨ports, stopped, fault, ?_⟩
    rw [if_neg Bool.false_ne_true, (tileHalt_leaves x t.val true).1.part_eq Dev.role, runs]

theorem linkFailed_pair {t : Nat} (lit : d.lit = true) (rejected : d.rejectedOut t 4 = true ∨ d.rejectedOut t 5 = true) :
    d.linkFailed t 2 = d.portStop t := by
  unfold Dev.linkFailed
  rw [if_neg, if_pos rfl]
  rw [lit, show linkPorts t 2 = [(t, 4), (t, 5)] from rfl]
  rcases rejected with h | h <;> simp [h]

end

/-! ### The I/O port of a cluster (R77) -/

/-- The flags of the alternate tile. -/
def ioPortShown (n : Nat) : List (Fld × Nat) := [(R.FAB_IOPORT_ON_ALT n, 1), (R.FAB_STATUS_IOPORT_ALT n, 1)]

/-- The module with the flags of the alternate tile up. -/
def Dev.onAlternate (d : Dev) (n : Nat) : Dev := (d.raise (R.FAB_IOPORT_ON_ALT n)).raise (R.FAB_STATUS_IOPORT_ALT n)

theorem raises_rest (d : Dev) (f g : Fld) : (d.raise f).raise g = { d with regs := ((d.raise f).raise g).regs } := rfl

theorem onAlternate_sets (d : Dev) (n : Nat) : Sets d (d.onAlternate n) (ioPortShown n) :=
  ((sets_nil d).raise (R.FAB_IOPORT_ON_ALT n) (by simp [R.FAB_IOPORT_ON_ALT]) (by simp [R.FAB_IOPORT_ON_ALT])
    fun _ h => nomatch h).raise (R.FAB_STATUS_IOPORT_ALT n) (by simp [R.FAB_STATUS_IOPORT_ALT])
    (by simp [R.FAB_STATUS_IOPORT_ALT]) fun p hp => by
      rw [List.mem_singleton.1 hp]
      exact .inl (by simp [R.FAB_STATUS_IOPORT_ALT, R.FAB_IOPORT_ON_ALT])

theorem loseIoPort_eq (d : Dev) (t : Nat) : d.loseIoPort t =
    if d.rd (R.FAB_IOPORT_PRIMARY (clusterOf t)) = t && !d.on (R.FAB_IOPORT_ON_ALT (clusterOf t)) then
      ((d.onAlternate (clusterOf t)).moveReplay t 5).pump t
    else d := rfl

theorem loseIoPort_idle {d : Dev} {t : Nat}
    (idle : d.rd (R.FAB_IOPORT_PRIMARY (clusterOf t)) ≠ t ∨ d.on (R.FAB_IOPORT_ON_ALT (clusterOf t)) = true) :
    d.loseIoPort t = d := by
  rw [loseIoPort_eq, if_neg]
  rcases idle with other | on
  · simp [other]
  · simp [on]

/-- The primary's I/O port has moved to the alternate. -/
def Dev.PortMoved (d e : Dev) (t : Nat) : Prop :=
  Sets d e (ioPortShown (clusterOf t)) ∧ e.attachedTile (clusterOf t) = d.rd (R.FAB_IOPORT_ALTERNATE (clusterOf t)) ∧
    (e.fabOut t 5).replay = [] ∧ e = { d with regs := e.regs, fab := e.fab, free := e.free }

theorem loseIoPort_moves {d : Dev} {t : Nat} (primary : d.rd (R.FAB_IOPORT_PRIMARY (clusterOf t)) = t)
    (off : d.on (R.FAB_IOPORT_ON_ALT (clusterOf t)) = false) : d.PortMoved (d.loseIoPort t) t := by
  have taken : d.loseIoPort t = ((d.onAlternate (clusterOf t)).moveReplay t 5).pump t := by
    rw [loseIoPort_eq, if_pos (by rw [decide_eq_true primary, off]; rfl)]
  have flags := onAlternate_sets d (clusterOf t)
  have rest : d.onAlternate (clusterOf t) = { d with regs := (d.onAlternate (clusterOf t)).regs } :=
    raises_rest d _ _
  rw [taken]
  generalize d.onAlternate (clusterOf t) = x at *
  have moved : x.Switches (x.moveReplay t 5) := .moveReplay .refl
  have switches : x.Switches ((x.moveReplay t 5).pump t) := .pump moved
  have sets := flags.of_regs switches.regs
  have on : x.on (R.FAB_IOPORT_ON_ALT (clusterOf t)) = true := by
    rw [Dev.on, flags.1 _ List.mem_cons_self]
    rfl
  have kept (g : Fld) (other : g.off = 0x10020 + clusterOf t * 0x400) (low : g.lo + g.wd ≤ 16) : x.rd g = d.rd g := by
    refine flags.2 g fun f hf => ?_
    rcases List.mem_pair.1 hf with rfl | rfl
    · exact .inr (.inr low)
    · refine .inl ?_
      rw [other]
      simp [R.FAB_STATUS_IOPORT_ALT]
  have lost : x.outLost t 5 = true := by
    rw [Dev.outLost, show portLink t 5 = none from rfl]
    dsimp only
    rw [on, kept (R.FAB_IOPORT_PRIMARY (clusterOf t)) rfl (by simp [R.FAB_IOPORT_PRIMARY]), decide_eq_true primary]
    rfl
  refine ⟨sets, ?_, ?_, ?_⟩
  · rw [switches.part_eq fun y => y.attachedTile (clusterOf t), Dev.attachedTile, on, if_pos rfl,
      kept (R.FAB_IOPORT_ALTERNATE (clusterOf t)) rfl (by simp [R.FAB_IOPORT_ALTERNATE])]
  · rw [fabOut_eq, pump_replay fun out h own => ?_, moveReplay_replay, if_pos rfl]
    obtain rfl : out = 5 := by omega
    rw [moved.outLost, lost]
  · have regs := switches.regs
    have rest' := switches.rest
    generalize (x.moveReplay t 5).pump t = y at *
    obtain ⟨r, rfl⟩ : ∃ r, x = { d with regs := r } := ⟨_, rest⟩
    exact rest'.trans (by rw [regs])

section
variable {d : Dev} {t : Nat} (lit : d.lit = true)
include lit

/-- The three ways in which a cluster's I/O port fails at a tile. -/
theorem portTimeout_io (powered : d.on (R.TILE_STATUS_POWERED t) = true) : d.portTimeout t 5 = d.loseIoPort t := by
  unfold Dev.portTimeout
  rw [if_neg (by rw [lit, powered]; decide), if_neg (by decide), if_pos rfl]

theorem linkFailed_io (rejected : d.rejectedOut t 6 = true ∨ d.rejectedOut t 7 = true) : d.linkFailed t 3 = d.loseIoPort t := by
  unfold Dev.linkFailed
  rw [if_neg, if_neg (by decide), if_pos rfl]
  rw [lit, show linkPorts t 3 = [(t, 6), (t, 7)] from rfl]
  rcases rejected with h | h <;> simp [h]

theorem linkDegraded_io
    (many : 64 < (((oget d.fab.again (512 + clusterOf t)).getD []).filter (fun x => d.since x ≤ 1000000)).length) :
    d.linkDegraded t 3 = d.loseIoPort t := by
  unfold Dev.linkDegraded
  rw [if_pos rfl]
  dsimp only
  rw [if_neg, if_pos rfl]
  rw [lit, decide_eq_false (by omega : ¬_ ≤ 64)]
  decide

end

/-! ### The link test (R87) -/

theorem exec_linkTest (s : State) (n : Fin 9) (w : Word) : exec (.linkTest n w) s = s.act (·.linkTest n.val w) := rfl

/-- A link that a word marks is failed. -/
def failStep (bad : Word) (d : Dev) (p : Nat × Nat) : Dev :=
  if linkExists p.1 p.2 && testBit bad.toNat (linkBit p.1 p.2) then d.loseLink p.1 p.2 false else d

/-- The links that the tiles of a cluster own. -/
def clusterLinks (n : Nat) : List (Nat × Nat) := (clusterTiles n).flatMap fun t => [(t, 0), (t, 1)]

theorem failIn_eq (d : Dev) (n : Nat) (bad : Word) : d.failIn n bad = (clusterLinks n).foldl (failStep bad) d := by
  rw [clusterLinks, List.foldl_flatMap]
  rfl

theorem mem_clusterLinks {n : Nat} (h : n < 9) {p : Nat × Nat} :
    p ∈ clusterLinks n ↔ p.1 < 144 ∧ clusterOf p.1 = n ∧ p.2 < 2 := by
  obtain ⟨t, dir⟩ := p
  simp only [clusterLinks, List.mem_flatMap, mem_clusterTiles h, List.mem_pair, Prod.mk.injEq]
  constructor
  · rintro ⟨u, ⟨tile, cluster⟩, ⟨rfl, rfl⟩ | ⟨rfl, rfl⟩⟩
    · exact ⟨tile, cluster, by decide⟩
    · exact ⟨tile, cluster, by decide⟩
  · rintro ⟨tile, cluster, low⟩
    exact ⟨t, ⟨tile, cluster⟩, by omega⟩

theorem loseLink_sets (d : Dev) {t dir : Nat} (tile : t < 144) (low : dir < 2) :
    Sets d (d.loseLink t dir false) (d.downs t dir false) :=
  (downLink_sets (degraded := false) tile low d fun h => nomatch h).of_regs (loseLink_switches d t dir false).regs

theorem failStep_bit (bad : Word) (d : Dev) {p : Nat × Nat} (tile : p.1 < 144) (low : p.2 < 2) {x k : Nat} (hx : x < 144)
    (hk : k < 2) (exist : linkExists x k = true) :
    testBit ((failStep bad d p).rd (R.FAB_LINK_FAIL (clusterOf x))) (linkBit x k) =
      (testBit (d.rd (R.FAB_LINK_FAIL (clusterOf x))) (linkBit x k) ||
        decide (p = (x, k)) && testBit bad.toNat (linkBit x k)) := by
  obtain ⟨t, dir⟩ := p
  unfold failStep
  split
  next marked =>
    rw [Bool.and_eq_true] at marked
    refine (downs_bit tile low (loseLink_sets d tile low) hx hk false).trans (congrArg (or _) ?_)
    by_cases same : x = t ∧ k = dir
    · obtain ⟨rfl, rfl⟩ := same
      simp [marked.2]
    · rw [decide_eq_false (by tauto), decide_eq_false (by simpa [eq_comm] using same), Bool.false_and]
  next clear =>
    by_cases same : (t, dir) = (x, k)
    · obtain ⟨rfl, rfl⟩ := same
      rw [exist, Bool.true_and, Bool.not_eq_true] at clear
      rw [clear, Bool.and_false, Bool.or_false]
    · rw [decide_eq_false same, Bool.false_and, Bool.or_false]

theorem fails_bit (bad : Word) {l : List (Nat × Nat)} (links : ∀ p ∈ l, p.1 < 144 ∧ p.2 < 2) (d : Dev) {x k : Nat}
    (hx : x < 144) (hk : k < 2) (exist : linkExists x k = true) :
    testBit ((l.foldl (failStep bad) d).rd (R.FAB_LINK_FAIL (clusterOf x))) (linkBit x k) =
      (testBit (d.rd (R.FAB_LINK_FAIL (clusterOf x))) (linkBit x k) ||
        decide ((x, k) ∈ l) && testBit bad.toNat (linkBit x k)) := by
  induction l generalizing d with
  | nil => simp
  | cons p l ih =>
    rw [List.forall_mem_cons] at links
    rw [List.foldl_cons, ih links.2, failStep_bit bad d links.1.1 links.1.2 hx hk exist]
    simp only [List.mem_cons, Bool.decide_or, eq_comm (a := p), Bool.and_or_distrib_right, Bool.or_assoc]

/-- The test of a cluster leaves the failed links of the others. -/
theorem fails_other (bad : Word) {n m : Nat} (other : m ≠ n) (low : m < 9) {l : List (Nat × Nat)}
    (links : ∀ p ∈ l, p.1 < 144 ∧ clusterOf p.1 = n ∧ p.2 < 2) (d : Dev) :
    (l.foldl (failStep bad) d).rd (R.FAB_LINK_FAIL m) = d.rd (R.FAB_LINK_FAIL m) := by
  refine List.foldlRecOn (motive := fun y : Dev => y.rd (R.FAB_LINK_FAIL m) = d.rd (R.FAB_LINK_FAIL m)) _ _ rfl
    fun y hy p hp => ?_
  obtain ⟨tile, cluster, small⟩ := links p hp
  unfold failStep
  split
  · rw [downs_other tile (loseLink_sets y tile small) (.inl ?_) ?_, hy]
    · simp only [linkFld, R.FAB_LINK_FAIL, if_neg Bool.false_ne_true, cluster]
      omega
    · simp only [R.FAB_LINK_FAIL]
      omega
  · exact hy

/-- A link test in STOPPED fails the links it finds. -/
theorem linkTest_fails {d : Dev} {n : Nat} (h : n < 9) (role : d.role = .stopped) (alive : d.alive = true) (bad : Word) :
    (∀ x ∈ clusterTiles n, ∀ k, k < 2 → linkExists x k = true →
      testBit ((d.linkTest n bad).rd (R.FAB_LINK_FAIL n)) (linkBit x k) =
        (testBit (d.rd (R.FAB_LINK_FAIL n)) (linkBit x k) || testBit bad.toNat (linkBit x k))) ∧
      (d.linkTest n bad).role = .stopped ∧
      ∀ m, m < 9 → m ≠ n → (d.linkTest n bad).rd (R.FAB_LINK_FAIL m) = d.rd (R.FAB_LINK_FAIL m) := by
  have kept : d.KeepsRole (d.linkTest n bad) := .linkTest .refl
  have tested : d.linkTest n bad = ((clusterLinks n).foldl (failStep bad) d).checkRoutes := by
    rw [Dev.linkTest, if_pos (by rw [decide_eq_true role, alive]; rfl), failIn_eq]
  have failed (m : Nat) : (d.linkTest n bad).rd (R.FAB_LINK_FAIL m) =
      ((clusterLinks n).foldl (failStep bad) d).rd (R.FAB_LINK_FAIL m) := by
    rw [tested]
    exact checkRoutes_link _ false m
  refine ⟨fun x hx k hk exist => ?_, (congrArg Prod.fst kept : (d.linkTest n bad).role = d.role).trans role, fun m low other => ?_⟩
  · obtain ⟨tile, rfl⟩ := (mem_clusterTiles h).1 hx
    have own : (x, k) ∈ clusterLinks (clusterOf x) := (mem_clusterLinks h).2 ⟨tile, rfl, hk⟩
    rw [failed, fails_bit bad (fun p hp => ?_) d tile hk exist, decide_eq_true own, Bool.true_and]
    obtain ⟨tile', -, low⟩ := (mem_clusterLinks h).1 hp
    exact ⟨tile', low⟩
  · rw [failed, fails_other bad other low fun p hp => (mem_clusterLinks h).1 hp]

end Sys2Proof.Machine

end

section
/-! LAWS. Flits, routers, links and router ports of the fabric (O33). -/

namespace Sys2Proof.Machine

theorem roomy_iff (d : Dev) : d.Roomy ↔ ∀ u o : Nat, (d.fabOut u o).replay.length ≤ 4 :=
  ⟨fun h u o => h (u * 8 + o), fun h k => by simpa [Dev.fabOut, Dev.outAt] using h 0 k⟩

/-- The mesh port at a link's near end. -/
theorem linkPort_fin (dir : Fin 2) : (if dir = 0 then 1 else 0 : Fin 6).val = if dir.val = 0 then 1 else 0 := by
  match dir with
  | 0 => rfl
  | 1 => rfl

section
variable (s : State) (t : Fin 144)

/-- The receiver's answers to a flit that arrives. -/
theorem answers_arriving (port : Fin 8) (seq : Byte) (ok : Bool) (flit : FabFlit) (h : FabHop) :
    let d0 := s.dev
    let e := d0.expects t.val port.val
    let old := (e + 256 - seq.toNat) % 256
    let n := d0.rejections t.val port.val seq.toNat
    d0.lit = true → d0.on (R.TILE_STATUS_POWERED t.val) = true → d0.arriving t.val port.val seq.toNat flit = some h →
      (ok = true → seq.toNat = e → Answers (.flitReceive t port ⟨seq, flit⟩ ok) s fun d =>
        d = { d0 with fab := d.fab, free := d.free } ∧ d.expects t.val port.val = (e + 1) % 256 ∧
          ((port = 5 ∨ port = 7) → h.last = true →
            let k := t.val * 4 + 2 * bit (port = 7) + bit (flitBulk h.flit)
            oget d.fab.got k = some (sget (fun _ => []) d0.fab.rx k ++ [h]))) ∧
      (ok = true → seq.toNat ≠ e → 1 ≤ old → old ≤ 4 → Answers (.flitReceive t port ⟨seq, flit⟩ ok) s fun d => d = d0) ∧
      ((ok = false ∨ seq.toNat ≠ e ∧ ¬(1 ≤ old ∧ old ≤ 4)) → n < 3 → Answers (.flitReceive t port ⟨seq, flit⟩ ok) s fun d =>
        Sets d0 d (d0.retryCounts t.val port.val) ∧
        d.rejections t.val port.val seq.toNat = n + 1 ∧ d.expects t.val port.val = e ∧
        d = { d0 with regs := d.regs, fab := d.fab }) ∧
      ((ok = false ∨ seq.toNat ≠ e ∧ ¬(1 ≤ old ∧ old ≤ 4)) → n = 3 → Answers (.flitReceive t port ⟨seq, flit⟩ ok) s fun d =>
        d = { d0 with fab := d.fab } ∧ d.rejectedOut t.val port.val = true) := by
  intro d0 e old n lit powered arrives
  refine ⟨fun good expected => ?_, fun good other low high => ?_, fun bad few => ?_, fun bad three => ?_⟩
  · refine answers_act (exec_flitReceive s t port seq flit ok) ?_
    rw [flitReceive_accepted lit powered arrives good expected]
    obtain ⟨expects, rest⟩ := acceptFlit_leaves d0 t.val port.val h
    refine ⟨rest, expects, fun taken last => ?_⟩
    have io : (port = 7) = (port.val = 7) := propext Fin.ext_iff
    have got := acceptFlit_got d0 (t := t.val) (port := port.val) (h := h) (taken.imp Fin.ext_iff.1 Fin.ext_iff.1) last
    simpa only [io] using got
  · exact answers_act (exec_flitReceive s t port seq flit ok) (flitReceive_discarded lit powered arrives good other low high)
  · exact answers_act (exec_flitReceive s t port seq flit ok) (flitReceive_again lit powered arrives bad t.isLt few)
  · exact answers_act (exec_flitReceive s t port seq flit ok) (flitReceive_fourth lit powered arrives bad three)

/-- The first link that is lost. -/
theorem answers_linkLost (dir : Fin 2) : let d0 := s.dev
    let c := clusterOf t.val
    let dir4 : Fin 4 := dir.castLE (by decide)
    d0.lit = true → linkExists t.val dir.val = true → LinksWhole s →
      let onDetour (d : Dev) : Prop := ∀ x ∈ linkOuts t.val dir.val, (d.fabOut x.1 x.2).replay = []
      let failed (d : Dev) : Prop := Sets d0 d (linkShown t.val dir.val false) ∧
        Presents d0 d [(.linkFailed, source 2 c)] ∧ onDetour d ∧ d.role = d0.role
      ((∃ p ∈ linkPorts t.val dir.val, d0.rejectedOut p.1 p.2 = true) → Answers (.linkFailed t dir4) s failed) ∧
      (64 < (((oget d0.fab.again (t.val * 2 + dir.val)).getD []).filter (fun x => d0.since x ≤ 1000000)).length →
        Answers (.linkDegraded t dir4) s fun d => Sets d0 d (linkShown t.val dir.val true) ∧ onDetour d ∧
          d = { d0 with regs := d.regs, fab := d.fab, free := d.free }) ∧
      (d0.on (R.TILE_STATUS_POWERED t.val) = true →
        Answers (.portCompletionTimeout t (if dir = 0 then 1 else 0)) s failed) := by
  intro d0 c dir4 lit exist links onDetour failed
  have whole := whole_of s links
  have fresh : testBit (d0.rd (R.FAB_LINK_FAIL c)) (linkBit t.val dir.val) = false := whole_fresh t.isLt whole rfl
  have lost : failed (d0.linkLost t.val dir.val false) := by
    obtain ⟨presents, role⟩ := linkLost_failed t.isLt dir.isLt whole
    exact ⟨linkLost_whole_sets t.isLt dir.isLt whole, presents, linkLost_whole_replay t.isLt dir.isLt whole exist, role⟩
  refine ⟨fun rejected => ?_, fun many => ?_, fun powered => ?_⟩
  · refine answers_act (exec_linkFailed s t dir4) ?_
    rw [show dir4.val = dir.val from rfl, linkFailed_eq lit dir.isLt exist fresh rejected]
    exact lost
  · refine answers_act (exec_linkDegraded s t dir4) ?_
    rw [show dir4.val = dir.val from rfl, linkDegraded_eq lit dir.isLt exist (whole_linkOut whole t.isLt _) many]
    exact ⟨linkLost_whole_sets t.isLt dir.isLt whole, linkLost_whole_replay t.isLt dir.isLt whole exist,
      linkLost_degraded t.isLt dir.isLt whole⟩
  · refine answers_act (exec_portTimeout s t _) ?_
    rw [linkPort_fin, portTimeout_eq lit dir.isLt exist powered fresh]
    exact lost

/-- The I/O port moves to the alternate tile, once. -/
theorem answers_ioPort : let d0 := s.dev
    let c := clusterOf t.val
    d0.lit = true → d0.on (R.TILE_STATUS_POWERED t.val) = true →
      (d0.rejectedOut t.val 6 = true ∨ d0.rejectedOut t.val 7 = true) →
      64 < (((oget d0.fab.again (512 + c)).getD []).filter (fun x => d0.since x ≤ 1000000)).length →
      ∀ P : Dev → Prop, P (d0.loseIoPort t.val) →
        Answers (.portCompletionTimeout t 5) s P ∧ Answers (.linkFailed t 3) s P ∧ Answers (.linkDegraded t 3) s P := by
  intro d0 c lit powered rejected many P holds
  refine ⟨answers_act (exec_portTimeout s t 5) ?_, answers_act (exec_linkFailed s t 3) ?_,
    answers_act (exec_linkDegraded s t 3) ?_⟩
  · exact (portTimeout_io lit powered).symm ▸ holds
  · exact (linkFailed_io lit rejected).symm ▸ holds
  · exact (linkDegraded_io lit many).symm ▸ holds

end

/-- Settles O33: a router's switching changes its queues and outputs alone, acceptance and rejection are the cases of the
flit's number, and a link's loss sets its bit and its ports, empties its replay buffers, and leaves every route while no
other link is out. -/
theorem flitsRoutersLinksAndPorts : Obligations.FlitsRoutersLinksAndPorts := by
  unfold Obligations.FlitsRoutersLinksAndPorts
  refine ⟨fun s t dest port seq ok use len flit out => ⟨?_, ?_, ?_⟩, fun s t port seq ok flit h dir w => ⟨?_, ?_, ?_, ?_, ?_, ?_⟩⟩
  case refine_1 =>
    intro lit powered empty expected o x owners room served
    refine answers_act (exec_flitReceive s t 4 seq _ true) ?_
    rw [show (4 : Fin 8).val = 4 from rfl, expected]
    exact flitReceive_header lit powered empty owners room served
  case refine_2 =>
    intro x p q m n hp hq room served keys ctrl bulk mOut nOut mOpen nOpen
    exact transfer_both hp hq room served keys ctrl bulk mOut nOut mOpen nOpen
  case refine_3 =>
    intro roomy
    exact answers_act (exec_flitReceive s t port seq flit ok)
      ((roomy_iff _).1 (roomy_flitReceive ((roomy_iff _).2 roomy) t.val port.val seq.toNat ok flit))
  case refine_4 => exact answers_arriving s t port seq ok flit h
  case refine_5 =>
    obtain ⟨near, far⟩ := nearFld_fin t.val dir
    dsimp only
    rw [near, far]
    exact answers_linkLost s t dir
  case refine_6 =>
    intro settled role live exist fresh rejected detours
    obtain ⟨lit, staged⟩ := settled
    refine answers_act (exec_linkFailed s t _) ?_
    rw [show (dir.castLE (by decide) : Fin 4).val = dir.val from rfl, linkFailed_eq lit dir.isLt exist fresh rejected]
    exact linkLost_stops t.isLt dir.isLt exist detours staged role live
  case refine_7 =>
    intro settled running live rejected
    obtain ⟨lit, staged⟩ := settled
    refine answers_act (exec_linkFailed s t 2) ?_
    rw [show (2 : Fin 4).val = 2 from rfl, linkFailed_pair lit rejected]
    exact portStop_stops running staged live
  case refine_8 =>
    intro lit powered rejected many
    have answers := answers_ioPort s t lit powered rejected many
    exact ⟨fun primary off => answers _ (loseIoPort_moves primary off), fun idle => answers _ (loseIoPort_idle idle)⟩
  case refine_9 =>
    intro role alive n
    exact answers_act (exec_linkTest s n w) (linkTest_fails n.isLt role alive w)

end Sys2Proof.Machine

end
